-- ==== Sys2Proof/Word.lean ====
section
/-!
DEFINITION. Sys2Proof/Word.lean: the word types of the Rolkar 6448 and the wrapping comparison of R12.
-/
namespace Sys2Proof

/-- One byte (R3: byte 0 of a word holds bits [7:0]). -/
abbrev Byte := BitVec 8

/-- One 32-bit register word (R375). -/
abbrev Word := BitVec 32

/-- R12: for two readings `a`, `b` of an `n`-bit wrapping counter, `a` is newer than `b`. The indeterminate
distance 2^(n-1) counts as not newer. -/
def newer (n a b : Nat) : Bool :=
  let d := (a + 2 ^ n - b % 2 ^ n) % 2 ^ n
  decide (1 ≤ d) && decide (d < 2 ^ (n - 1))

/-- The R12 distance (a − b) mod 2^n. -/
def wrapDist (n a b : Nat) : Nat := (a + 2 ^ n - b % 2 ^ n) % 2 ^ n

end Sys2Proof
end

