-- ==== Sys2Proof/Syntax.lean ====
section
/-!
DEFINITION. Sys2Proof/Syntax.lean: the commands of the Rolkar 6448 block, one constructor of `Instr` per row of the
table of operations and events, and the types of their operands. A command is something that comes to the block from
outside (a register access, a mailbox doorbell, a frame, an edge) or an instant the block itself reaches (a window's
end, a firing); it carries the data that the instant brings with it.
-/
namespace Sys2Proof

/-- R16, R63: a CAN channel CC0 to CC47. -/
abbrev Chan := Fin 48
/-- R213: a physical port, p = 0–7 FP0–FP7, 8–23 AP0–AP15, 24 SP. -/
abbrev Port := Fin 25
/-- R352: a mailbox, 0–7 H0–H7, 8 service, 9 buddy. -/
abbrev Mbx := Fin 10
/-- R256, R293: a page of the table command interface or of the job interface, one for each compartment. -/
abbrev Page := Fin 16

/-- R378: who makes a register access. -/
inductive Requester where
  | host
  | supervisor
  | mailbox (m : Mbx)
  | loader
  deriving DecidableEq, Repr

/-- R66, R84: the frame formats of a CAN channel. -/
inductive CanFmt where
  | classical
  | fd
  | xl
  deriving DecidableEq, Repr

/-- R68: the CAN XL header fields that travel with a payload. -/
structure XlHdr where
  sdt  : Byte
  vcid : Byte
  sec  : Bool
  af   : Word
  deriving DecidableEq, Repr

/-- R35, R65: a CAN frame as it stands at its decision point. -/
structure CanFrame where
  fmt  : CanFmt
  ide  : Bool
  ident : BitVec 29
  rtr  : Bool
  brs  : Bool
  esi  : Bool
  hdr  : XlHdr
  data : List Byte
  deriving DecidableEq, Repr

/-- R50: the error types, with the two kinds of bit error that LEC tells apart. -/
inductive CanErr where
  | stuff
  | form
  | ack
  | bitRecessive
  | bitDominant
  | crc
  deriving DecidableEq, Repr

/-- CANnn_LEC PHASE: the phase of the frame in which an error was seen. -/
inductive CanPhase where
  | nominal
  | fdData
  | xlData
  deriving DecidableEq, Repr

/-- R48: the values of the two error counters after an event. Where ISO 11898-1 leaves one value only, the model computes it; the event carries
the choice where the standard's rules look at more than the event shows (log 8). -/
structure ErrCnt where
  tec : BitVec 9
  rec' : BitVec 8
  deriving DecidableEq, Repr

/-- R97: an object of the forerunner aperture, a base identifier or an extended buffer. -/
inductive ApObj where
  | base (i : BitVec 11)
  | ext (k : Fin 64)
  deriving DecidableEq, Repr

/-- R215: the two switch planes. -/
inductive Plane where
  | a
  | b
  deriving DecidableEq, Repr

/-- R201, R203: how the FCS of a received frame stands. -/
inductive FcsKind where
  | good
  | stomped
  | bad
  deriving DecidableEq, Repr

/-- R201: an Ethernet frame as the PCS delivers it: the bytes from the destination address up to the FCS, which is not
among them, whether a code error was met, and how the FCS stands. -/
structure RxFrame where
  bytes   : List Byte
  codeErr : Bool
  fcs     : FcsKind
  deriving DecidableEq, Repr

/-- R389: a copy of a triplicated field found to hold a value of its own (a memory upset met by the scrubber). -/
structure Upset where
  field : Fin 5
  index : Nat
  copy  : Fin 3
  value : Word
  deriving DecidableEq, Repr

/-- R398, R401: the clock sources that are judged. -/
inductive ClkSrc where
  | crystal
  | oscillator
  | serdesRef
  deriving DecidableEq, Repr

/-- R430: the blocks that are reset singly. -/
inductive ResetBlk where
  | can (n : Chan)
  | eth (p : Port)
  | switch
  | cipher (e : Fin 4)
  | supervisor
  deriving DecidableEq, Repr

/-- R489: an ECC event found by an access or by the scrubber: a device memory address, or an on-die array. -/
inductive MemErr where
  | dramCorrected (addr : Word)
  | dramUncorrectable (addr : Word)
  | cacheLine (gsid : BitVec 25)
  | sramCorrected (array : Nat) (index : Nat)
  | sramUncorrectable (array : Nat) (index : Nat)
  deriving DecidableEq, Repr

/-- R451: a record of the buddy lanes. -/
structure BudRec where
  lane    : Fin 2
  ty      : Byte
  seq     : Word
  stamp   : BitVec 64
  claim   : Option (BitVec 32)
  payload : List Byte
  crcOk   : Bool
  deriving DecidableEq, Repr

/-- R462: how a self-diagnosis ended on each unit. -/
inductive DiagOutcome where
  | bothPass
  | ownFails
  | partnerFails
  | bothFail
  deriving DecidableEq, Repr

/-- The commands of the block, one for each row of the table of operations and events. -/
inductive Instr where
  /-- R6: A write to a register field that has no row of its own acts under its access code (RW, RWD, RWK or W1C) and its Takes effect entry. -/
  | registerWrite (q : Requester) (off : BitVec 24) (data : Word)
  /-- R348: A posted BAR0 write to a reserved location, with partial byte enables, or longer than one word is discarded, logged by AER and counted, and item 0x90 is written. -/
  | bar0WriteDiscarded (off : BitVec 24) (data : Word) (be : BitVec 4) (words : Nat)
  /-- R376: A host read of the wrong shape or of a reserved location is completed with Completer Abort and has no side effect. -/
  | bar0ReadAbort (off : BitVec 24) (be : BitVec 4) (words : Nat)
  /-- R424: A configuration request is answered with Retry Status until the DEVICE section is applied, and fully from then on. -/
  | pcieConfigRequest (wr : Bool) (off : BitVec 12) (data : Word)
  /-- R332: A function level reset disables every ring, releases ring locks, ends H0–H7 claims, resets the MSI-X state and the host unlock key, and acts as RESET on mailboxes 0 to 7. -/
  | functionLevelReset
  /-- R507: PCIE_PERST_N low resets the PCIe function and its configuration space and holds the link in reset. -/
  | pciePerst
  /-- R367: Loss of the PCIe link detaches every host context and can make the host mode HOSTLESS. -/
  | pcieLinkDown
  /-- R54: A write of MODE_REQ is checked and starts a pending mode change; a change that leaves DISABLED takes effect at the write. -/
  | modeReqWrite (q : Requester) (n : Chan) (data : Word)
  /-- R54: A pending mode change takes effect at the channel's next idle point, with the entry actions of R87. -/
  | modeChangeEffect (n : Chan)
  /-- R54: When no idle point comes within 2,048 nominal bit times, the change takes effect at the next bit boundary and cuts off any frame in progress. -/
  | modeChangeForced (n : Chan)
  /-- R55: After 11 consecutive recessive bits the channel ends integration and joins the bus. -/
  | integrationComplete (n : Chan)
  /-- R61: When STB_WAKE µs have passed after standby was negated, the channel starts to integrate. -/
  | stbWakeExpiry (n : Chan)
  /-- R71: At the receive decision point a received frame is counted, accepted or refused by lookup, committed, routed and snapshotted.
  Its lookup was `look` ticks before (R74). -/
  | canFrameReceived (n : Chan) (f : CanFrame) (own : Bool) (cnt : ErrCnt) (look : Nat)
  /-- R73: The overflow bytes of a CAN XL frame finish being written to memory, and the reads waiting for them proceed. -/
  | xlOverflowWriteDone (n : Chan)
  /-- R38: A format bit that the settings cannot follow causes a protocol exception with integration, or a form error when PEX_EN = 0. -/
  | protocolException (n : Chan)
  /-- R50: A bus error sets LEC and PHASE, counts under one error type, changes the error counters, and may make the frame be retried or abandoned.
  `tdc` is the cycle of R42 in which RXD has shown the measured edge of the frame being sent, above 127 where it has not shown it; none where the
  frame has not come so far. -/
  | errorDetected (n : Chan) (k : CanErr) (ph : CanPhase) (tx : Bool) (cnt : ErrCnt) (tdc : Option (BitVec 8))
  /-- R50: An overload frame sent or received is counted in CANnn_OVERLOAD. -/
  | overloadFrame (n : Chan)
  /-- R85: At a choice point the channel offers the candidate with the lowest arbitration key and sets BUSY. -/
  | txChoicePoint (n : Chan)
  /-- R86: A lost arbitration counts an attempt, and the frame competes again or is abandoned. -/
  | arbitrationLost (n : Chan)
  /-- R83: At the end of end-of-frame the frame is valid for the transmitter, and TX_OK, NEW, STAMP, PEND and any kept request are updated. -/
  | frameTxSuccess (n : Chan) (cnt : ErrCnt) (tdcv : Option (BitVec 7))
  /-- R52: A write of RECOVER in BUS_OFF starts counting recessive runs for bus-off recovery. -/
  | recover (q : Requester) (n : Chan)
  /-- R52: After 128 runs of 11 recessive bits the error counters are zeroed and the channel enters MODE_REQ. -/
  | recoveryComplete (n : Chan)
  /-- R64: CNT_CLR in CANnn_CTRL clears every channel counter in one step. -/
  | canCntClr (q : Requester) (n : Chan)
  /-- R42: TDC_MEAS_CLR resets TDCV_MIN, TDCV_MAX_SEEN and VALID. -/
  | tdcMeasClr (q : Requester) (n : Chan)
  /-- R63: Mailbox command that writes MODE_REQ of a channel and returns MODE_CUR. -/
  | canSetMode (m : Mbx)
  /-- R64: Mailbox command that validates the whole set of timing and protocol registers of a disabled channel and then writes it. -/
  | canSetTiming (m : Mbx)
  /-- R63: Mailbox command that starts bus-off recovery. -/
  | canRecover (m : Mbx)
  /-- R63: Mailbox command that returns a channel's mode, status, error and TDC registers. -/
  | canGetStatus (m : Mbx)
  /-- R64: Mailbox command that snapshots all thirteen counters in one instant and can clear them in the same instant. -/
  | canGetCounters (m : Mbx)
  /-- R63: Mailbox command that sets STB_MODE and returns the standby state. -/
  | canSetStb (m : Mbx)
  /-- R90: Mailbox command that requests or renews an arbitration lock for an owner. -/
  | canLock (m : Mbx)
  /-- R91: Mailbox command that releases the lock held by the named owner. -/
  | canUnlock (m : Mbx)
  /-- R96: Mailbox command that writes a transmit object's payload and makes a request, as SEND does. -/
  | canObjSend (m : Mbx)
  /-- R91: At the first instant outside its window the lock is released and counted, and an item is written. -/
  | lockTimeout (n : Chan)
  /-- R82: A periodic transmit set fires at its microsecond instant and makes requests for its transmit objects. -/
  | tstFirePeriodic (i : Fin 768)
  /-- R82: A change report to an ONCHG set fires it at the end of MIN_GAP after its last firing. -/
  | tstChangeFire (i : Fin 768)
  /-- R157: The engines compose a transmit object from the image with its ENCODE descriptors and write its payload and LEN. -/
  | compositionRun
  /-- R98: A write of the forerunner mode word maps onto MODE_REQ of the channel. -/
  | apertureModeWrite (q : Requester) (n : Fin 12) (data : Word)
  /-- R98: RECOVER in the forerunner control word starts bus-off recovery. -/
  | apertureRecover (q : Requester) (n : Fin 12)
  /-- R99: Writing TXREQ = 1 on an aperture object makes a SEND with its data and DLC. -/
  | apertureTxreq (q : Requester) (n : Fin 12) (ob : ApObj) (data : Word)
  /-- R99: Writing VALID or DIR of an aperture object sets the MOT entry, and on an extended buffer inserts or deletes its XIM key. -/
  | apertureValidWrite (q : Requester) (n : Fin 12) (ob : ApObj) (data : Word)
  /-- R99: A write of an aperture data word writes the payload area and replaces a pending payload. -/
  | apertureDataWrite (q : Requester) (n : Fin 12) (ob : ApObj) (hi : Bool) (data : Word)
  /-- R95: CLR_ONE in TBL_MOT_CTRL clears the object counters of one channel. -/
  | motClrOne (q : Requester) (ch : BitVec 6)
  /-- R95: CLR_ALL in TBL_MOT_CTRL clears the object counters of all channels and of the XIM. -/
  | motClrAll (q : Requester)
  /-- R92: The table operation READ returns an entry by index, with MOVED during a relocation. -/
  | tblRead (pg : Page)
  /-- R92: A table operation that is not listed for its table returns INVALID. -/
  | tblUnlistedOp (pg : Page)
  /-- R81: A WRITE of a MOT entry is checked and replaces the entry, zeroing its state record. -/
  | motWrite (pg : Page)
  /-- R88: A CLEAR of a MOT entry invalidates it and zeroes its state record without altering a frame on the bus. -/
  | motClear (pg : Page)
  /-- R92: CONSUME reads the state record and payload and clears NEW, LOST, FAIL, AUTHFAIL and LOOPED in the same step. -/
  | motStateConsume (pg : Page)
  /-- R92: SEND on the MOT state table writes LEN and the payload of a transmit object and makes a request. -/
  | motStateSend (pg : Page)
  /-- R78: INSERT places a key in its buckets, relocating occupants if needed, or returns FULL. -/
  | ximInsert (pg : Page)
  /-- R80: DELETE removes an XIM entry by key. -/
  | ximDelete (pg : Page)
  /-- R77: LOOKUP finds an XIM entry by key and returns its index and contents. -/
  | ximLookup (pg : Page)
  /-- R82: A WRITE of a transmit set entry is checked and replaces the entry. -/
  | tstWrite (pg : Page)
  /-- R82: A CLEAR sets a transmit set entry to zero. -/
  | tstClear (pg : Page)
  /-- R82: SEND fires a transmit set, and returns INVALID when TRIG = 0. -/
  | tstSend (pg : Page)
  /-- R133: A WRITE of a descriptor is checked, updates the writer map, and restarts its timeout window. -/
  | sdpWrite (pg : Page)
  /-- R134: A CLEAR sets a descriptor to OP 0 and updates the writer map. -/
  | sdpClear (pg : Page)
  /-- R137: A WRITE of a transform entry is checked in both readings of its bounds and replaces the entry. -/
  | tptWrite (pg : Page)
  /-- R160: A CLEAR sets a transform entry to zero, and returns INVALID on entry 0. -/
  | tptClear (pg : Page)
  /-- R152: A WRITE of a route list entry is checked and replaces the entry. -/
  | rltWrite (pg : Page)
  /-- R158: A CLEAR invalidates a route list entry for lookups that start afterwards. -/
  | rltClear (pg : Page)
  /-- R145: A WRITE of a derivation schedule entry is checked and replaces the entry. -/
  | dstWrite (pg : Page)
  /-- R160: A CLEAR sets a derivation schedule entry to zero. -/
  | dstClear (pg : Page)
  /-- R145: SEND fires a derivation schedule entry. -/
  | dstSend (pg : Page)
  /-- R170: A WRITE of a publication entry is checked and resets its stream sequence counter. -/
  | pubWrite (pg : Page)
  /-- R191: A CLEAR sets a publication entry to zero. -/
  | pubClear (pg : Page)
  /-- R171: SEND on a publication entry starts a refresh cycle. -/
  | pubSend (pg : Page)
  /-- R174: A WRITE of a subscription entry is checked and clears its missed and clean flags. -/
  | subWrite (pg : Page)
  /-- R191: A CLEAR sets a subscription entry to zero and clears its tracker. -/
  | subClear (pg : Page)
  /-- R178: A WRITE of an encapsulation target entry is checked and replaces the entry. -/
  | ettWrite (pg : Page)
  /-- R191: A CLEAR sets an encapsulation target entry to zero. -/
  | ettClear (pg : Page)
  /-- R164: A WRITE of a bundle address entry is checked and replaces the entry. -/
  | batWrite (pg : Page)
  /-- R191: A CLEAR sets a bundle address entry to zero. -/
  | batClear (pg : Page)
  /-- R184: A WRITE of a TRDP telegram entry is checked and resets its sequenceCounter. -/
  | tttWrite (pg : Page)
  /-- R191: A CLEAR sets a TRDP telegram entry to zero and clears its tracker. -/
  | tttClear (pg : Page)
  /-- R186: SEND fires a TRDP send entry. -/
  | tttSend (pg : Page)
  /-- R260: A WRITE replaces an EFT entry by key, or writes a shadow by index. -/
  | eftWrite (pg : Page)
  /-- R260: A CLEAR removes an EFT entry by index. -/
  | eftClear (pg : Page)
  /-- R246: INSERT places a static EFT entry, relocating or evicting learned occupants. -/
  | eftInsert (pg : Page)
  /-- R260: DELETE removes an EFT entry by key. -/
  | eftDelete (pg : Page)
  /-- R242: LOOKUP returns the index and contents of an EFT entry by key. -/
  | eftLookup (pg : Page)
  /-- R260: FLUSH removes learned EFT entries that match a port or a FID. -/
  | eftFlush (pg : Page)
  /-- R239: A WRITE of a VLAN entry is checked and replaces the entry. -/
  | vlanWrite (pg : Page)
  /-- R260: A CLEAR invalidates a VLAN entry. -/
  | vlanClear (pg : Page)
  /-- R250: A WRITE of an ingress rule is checked, zeroes HITS and recomputes the extent. -/
  | irtWrite (pg : Page)
  /-- R251: A CLEAR invalidates an ingress rule and recomputes the extent. -/
  | irtClear (pg : Page)
  /-- R252: A WRITE of a meter is checked and fills its buckets. -/
  | meterWrite (pg : Page)
  /-- R260: A CLEAR invalidates a meter, unless a valid rule names it. -/
  | meterClear (pg : Page)
  /-- R307: A WRITE of a seal entry is checked and sets its FV. -/
  | sltWrite (pg : Page)
  /-- R317: A CLEAR invalidates a seal entry. -/
  | sltClear (pg : Page)
  /-- R313: A WRITE of a MACsec SA is checked and completes after the frames that began with the old contents. -/
  | macsecSaWrite (pg : Page)
  /-- R313: A CLEAR invalidates a MACsec SA once the frames in flight have finished. -/
  | macsecSaClear (pg : Page)
  /-- R108: The age sweeper visits the next slot and marks it STALE once its age reaches AGE_LIMIT. -/
  | sweeperVisit
  /-- R109: A write of SWEEP_EN = 0 pauses the sweeper, or is refused with CFG_REJECT. -/
  | sweepPause (q : Requester) (data : Word)
  /-- R109: A write of SWEEP_EN = 1 resumes the sweeper at SIG_SWEEP_POS. -/
  | sweepResume (q : Requester) (data : Word)
  /-- R109: Sixty seconds after a pause the sweeper re-enables itself, sets SWEEP_REARM_EV and writes item 0x22. -/
  | sweepRearm
  /-- R111: A BAR4 read returns slot bytes from one instant and may fill a cache line. -/
  | bar4Read (off : BitVec 29) (len : Nat)
  /-- R114: A BAR4 write is discarded, counted, and sets BAR4_WR_EV. -/
  | bar4Write (off : BitVec 29) (len : Nat)
  /-- R122: Every 1 ms every cache usage count is halved. -/
  | cacheCountHalving
  /-- R120: At its period the 6448 updates a housekeeping slot of segment 63. -/
  | housekeepingWrite (idx : Fin 64) (meas : BitVec 64)
  /-- R117: Mailbox command that writes the SMT entry of a vehicle-segment pair and responds once its mode pass is complete. -/
  | sigSetSegmentMode (m : Mbx)
  /-- R118: The engines pass over the pair's 8,192 slots, clearing FROZEN, setting it or substituting, and item 0x21 is written. -/
  | modePass
  /-- R128: Mailbox command that returns up to 64 slots, each from one instant. -/
  | sigReadSlots (m : Mbx)
  /-- R128: Mailbox command that sets the host visibility mask of the segments. -/
  | sigSetVisibility (m : Mbx)
  /-- R123: Mailbox command that pins up to 12 own-vehicle segments and loads them into the cache. -/
  | sigSetPin (m : Mbx)
  /-- R126: CNT_CLR in SIG_IMG_CTRL clears the image counters in one step. -/
  | sigImgCntClr (q : Requester)
  /-- R126: Once every slot has been zeroed and the SMT, SIG_VIS and SIG_PIN loaded, IMAGE_READY is set. -/
  | imageInitComplete
  /-- R127: After STANDBY the resume pass has marked every valid slot STALE, and IMAGE_READY is set. -/
  | resumePassComplete
  /-- R138: An engine executes a DECODE descriptor on a carrier snapshot, transforms the field and updates its slot. -/
  | engineDecode
  /-- R146: An execution that released its engine for a cache fill resumes on the next free engine. -/
  | engineResume
  /-- R142: The timeout scan visits each DECODE descriptor with a timeout once per millisecond. -/
  | timeoutScan
  /-- R145: A derivation schedule entry fires at its periodic instant and leaves or merges a run. -/
  | dstFirePeriodic (i : Fin 256)
  /-- R144: The engines execute the DERIVE descriptors of a DST entry in index order. -/
  | derivationRun
  /-- R150: A write of RT_EN = 1 enables routing, or is refused with POOL_BAD when the pools exceed the buffer. -/
  | rtEnSet (q : Requester) (data : Word)
  /-- R159: Clearing RT_EN discards queued routed copies, snapshots, compositions and runs. -/
  | rtEnClear (q : Requester) (data : Word)
  /-- R162: Mailbox command that applies host signal writes locally, or sends them as posted remote writes. -/
  | sigWriteHg (m : Mbx)
  /-- R162: Mailbox command that fires a DST entry. -/
  | sigRunDerive (m : Mbx)
  /-- R161: CNT_CLR in SE_CTRL clears the routing counters and PEAK in one step. -/
  | seCntClr (q : Requester)
  /-- R171: A publication entry fires at its periodic instant and starts or merges a refresh cycle. -/
  | pubFirePeriodic (i : Fin 1024)
  /-- R171: A refresh cycle packs every valid slot of the range into bundles and sends them through SG. -/
  | pubRefreshCycle (i : Fin 1024)
  /-- R172: When MIN_GAP has passed, a change pass packs the dirty valid slots. -/
  | pubChangePass (i : Fin 1024)
  /-- R190: A bundle arriving for SG is checked in order and is discarded, accepted or answered. -/
  | bundleReceived
  /-- R175: The unpacker applies the records of an accepted SIGNALS bundle to remote slots. -/
  | signalsBundleUnpack
  /-- R189: Every BEACON_MS the unit sends a beacon to BAT entry 64. -/
  | beaconSend
  /-- R189: When a presence or duplicate window ends, the bit is cleared and item 0x41 is written. -/
  | presenceExpiry (v : BitVec 6)
  /-- R177: When a subscription's window ends, every slot of its range is marked stale or substituted. -/
  | subTimeout (i : Fin 1024)
  /-- R182: A pending remote write whose window ends is removed with cause 5. -/
  | rwriteTimeout
  /-- R185: A Pd telegram is matched to a receive entry, its sequence is judged, and its dataset is queued as a carrier. -/
  | trdpPdReceived
  /-- R183: Popezal answers a Pr telegram with a Pp carrying the last composed payload. -/
  | trdpPrReceived
  /-- R183: A message-data telegram is checked by Popezal and delivered to MD_RING or discarded. -/
  | trdpMdReceived
  /-- R186: A TRDP send entry fires at its periodic instant. -/
  | tttFirePeriodic (i : Fin 2048)
  /-- R186: A send entry's dataset is composed and a Pd telegram is built and sent. -/
  | tttComposeSend
  /-- R173: A write of MIR_EN = 1 resumes publication and starts the change passes of dirty entries. -/
  | mirEnSet (q : Requester) (data : Word)
  /-- R173: A write of MIR_EN = 0 stops every publication pass and bundle reception. -/
  | mirEnClear (q : Requester) (data : Word)
  /-- R187: Mailbox command that renumbers the own vehicle, copies and clears slots, and writes the topology counters. -/
  | sigSetConsist (m : Mbx)
  /-- R193: Mailbox command that returns the presence and duplicate masks and the topology counters. -/
  | sigGetPresence (m : Mbx)
  /-- R192: CNT_CLR in SIG_MIR_CTRL clears the mirroring counters in one step. -/
  | sigMirCntClr (q : Requester)
  /-- R196: A write of PORT_EN = 1 enables the port, or is refused with MODE_BAD. -/
  | portEnSet (q : Requester) (p : Port) (data : Word)
  /-- R230: A write of PORT_EN = 0 disables the port and discards its queues. -/
  | portEnClear (q : Requester) (p : Port) (data : Word)
  /-- R197: The link goes up when every condition of its mode holds. -/
  | linkUp (p : Port) (speed : BitVec 3)
  /-- R197: The link goes down after a condition has failed for LINK_HOLD, and the frame being sent is cut off. -/
  | linkDown (p : Port) (fault : BitVec 2)
  /-- R199: Link training that does not complete within 500 ms is counted and sets TRAIN_FAIL_EV. -/
  | trainingTimeout (p : Port)
  /-- R199: 100 ms after a failed training the port starts a new attempt. -/
  | trainingRetry (p : Port)
  /-- R198: EQ_RESTART drops the link, reloads the starting equalisation and adapts afresh. -/
  | eqRestart (q : Requester) (p : Port)
  /-- R201: A frame delivered by the PCS is checked, then PRP and MACsec processed, decided and stored. -/
  | ethFrameReceived (p : Port) (f : RxFrame)
  /-- R209: The pause window ends and the port may start its next frame. -/
  | pauseWindowEnd (p : Port)
  /-- R229: At a choice point the port starts the oldest eligible frame of its highest queue. -/
  | egressFrameStart (p : Port) (ue : Bool)
  /-- R225: Transmission of a frame completes, and its target leaves the headcount. -/
  | ethFrameTxComplete (p : Port)
  /-- R231: Setting BLOCK enters BLOCKED and discards the queued frames the state does not allow. -/
  | blockWrite (q : Requester) (p : Port) (data : Word)
  /-- R212: CNT_CLR in a port's CMD clears its counters in one step. -/
  | portCntClr (q : Requester) (p : Port)
  /-- R213: Mailbox command that returns a port's CTRL, STATUS, LINK and EQ_STATE. -/
  | swPortStatus (m : Mbx)
  /-- R213: Mailbox command that snapshots a port's counters and can clear them. -/
  | swPortCounters (m : Mbx)
  /-- R213: Mailbox command that runs a clause 22 or clause 45 MDIO transaction. -/
  | swMdio (m : Mbx) (phy : Option (BitVec 16))
  /-- R230: When the link-down grace window ends, the port enters DROPPING and discards its queues. -/
  | graceWindowEnd (p : Port)
  /-- R217: A write of SW_EN = 1 enables the switch core, or is refused with PLANE_BAD. -/
  | swEnSet (q : Requester) (data : Word)
  /-- R232: A write of SW_EN = 0 stops decisions and discards every queued frame. -/
  | swEnClear (q : Requester) (data : Word)
  /-- R234: Mailbox command that returns hamper cell use in one instant. -/
  | swHamperStatus (m : Mbx)
  /-- R232: Mailbox command that discards the frames queued in the named classes of a port. -/
  | swQueueFlush (m : Mbx)
  /-- R233: CNT_CLR in SW_CTRL clears the switch-core counters and peaks. -/
  | swCntClr (q : Requester)
  /-- R244: A queued learning request inserts, refreshes or moves an EFT entry, evicting if needed. -/
  | learnApply (pl : Plane)
  /-- R245: The ageing scan removes or clamps aged learned entries of each plane. -/
  | ageingScan (pl : Plane)
  /-- R262: The scanner compares one live entry with its shadow, and reports or restores it. -/
  | shadowCompareVisit
  /-- R254: A write of AUTH_MODE or AUTHORISED changes the controlled port and its port state. -/
  | authRegisterWrite (q : Requester) (p : Port) (data : Word)
  /-- R264: Mailbox command that runs one table operation as from the header's compartment. -/
  | swTableOp (m : Mbx)
  /-- R264: Mailbox command that sets the authorised state of an access port. -/
  | swPortAuth (m : Mbx)
  /-- R263: CNT_CLR in SW_FWD_CTRL clears the forwarding counters. -/
  | swFwdCntClr (q : Requester)
  /-- R267: A read of TIME_LT_NS latches the seconds and fraction of the same tick. -/
  | timeLtNsRead (q : Requester)
  /-- R276: A write of TIME_INC is clamped to the bound and takes effect at the next tick. -/
  | timeIncWrite (q : Requester) (data : Word)
  /-- R273: A write of a domain's OFF_NS commits its offset and marks an update. -/
  | tdOffNsWrite (q : Requester) (d : Fin 2) (data : Word)
  /-- R273: When a domain's LOSS window ends without an update, it stops tracking. -/
  | tdTrackingLost (d : Fin 2)
  /-- R277: HOLDOVER that outlasts HOLD_MAX enters FREE. -/
  | holdoverExpiry
  /-- R275: STEP in TIME_CMD steps LT by TIME_STEP_SEC and TIME_STEP_NS while armed. -/
  | timeStep (q : Requester)
  /-- R288: Mailbox command that returns LT, the mode and the domain offsets at one tick. -/
  | timeGet (m : Mbx)
  /-- R288: Mailbox command that selects a tracking domain. -/
  | timeSelect (m : Mbx)
  /-- R288: Mailbox command that sets STEP_ARMED. -/
  | timeArmStep (m : Mbx)
  /-- R288: Mailbox command that turns a line OFF, writes its fields and leaves OFF with the given mode. -/
  | timeSetTe (m : Mbx)
  /-- R280: A write of MODE takes a line to or from OFF, or is refused with TE_BAD or CFG_REJECT. -/
  | teModeWrite (q : Requester) (l : Fin 16) (data : Word)
  /-- R282: At the first tick at or after an instant the line's window opens. -/
  | teWindowStart (l : Fin 16)
  /-- R282: At the first tick at or after a window's end the output returns to inactive. -/
  | teWindowEnd (l : Fin 16)
  /-- R283: An accepted input edge is stamped into the FIFO, or counted as outside or overflow. -/
  | teEdgeCapture (l : Fin 16) (rise : Bool)
  /-- R283: A read of TEnn_CAP_NS pops the oldest stamp and latches its seconds. -/
  | teCapPop (q : Requester) (l : Fin 16)
  /-- R287: CNT_CLR in TIME_CTRL clears the time-unit and line counters. -/
  | timeCntClr (q : Requester)
  /-- R295: PUSH takes the job descriptor into the page, or sets JOB_LOST when the page is full. -/
  | jobPush (q : Requester) (c : Page)
  /-- R296: An engine takes a job, checks it and runs the cipher operation to a completion. -/
  | jobExecute (c : Page)
  /-- R297: A read of JOB_DONE pops the oldest completion record of the page. -/
  | jobDonePop (q : Requester) (c : Page)
  /-- R299: Mailbox command that loads a slot's pending key, wrapped or plaintext. -/
  | secKeyLoad (m : Mbx)
  /-- R300: Mailbox command that makes the pending key current when its KCV matches. -/
  | secKeyCommit (m : Mbx)
  /-- R300: Mailbox command that overwrites both keys of a slot. -/
  | secKeyClear (m : Mbx)
  /-- R318: Mailbox command that returns the state, usage and KCVs of a slot. -/
  | secKeyInfo (m : Mbx)
  /-- R302: Mailbox command that generates the root and helper data once and sets ENROLLED. -/
  | secPufEnroll (m : Mbx)
  /-- R302: The PUF readout and root regeneration end and the key store enters READY. -/
  | keyStoreLoaded
  /-- R304: A tamper pin held low for FILT µs causes a tamper event; `low` is false when the pin is high again (R316, LIVE). `also` are the
  sources that trip within the erase (R305, by the bits of item 0x82); `busy` says which of engines 4 to 12 have work in hand. -/
  | tamperPinTrip (pin : Fin 2) (low : Bool) (also : BitVec 5) (busy : BitVec 9)
  /-- R304: A voltage, temperature or glitch sensor trips and causes a tamper event or a guard alarm; `on` is false when it is within its
  limits again. The other operands are those of `tamperPinTrip`. -/
  | sensorTrip (k : Fin 3) (on : Bool) (also : BitVec 5) (busy : BitVec 9)
  /-- R291: An engine detects a parity error in its datapath or key registers and raises a guard alarm; `busy` as above. -/
  | guardParityError (e : Fin 13) (busy : BitVec 9)
  /-- R316: CNT_CLR in SEC_CTRL clears the security counters. -/
  | secCntClr (q : Requester)
  /-- R508: Loading EXTEST or an unknown instruction is a tamper event. -/
  | jtagInstructionLoad (ir : BitVec 8)
  /-- R327: KICK makes the device examine a transmit ring from POS. `win` are the host's writes through BAR2 that went ahead of it (R322, R325). -/
  | ringKick (q : Requester) (r : Fin 16) (win : List (BitVec 32 × List Byte))
  /-- R328: A FRAME descriptor sends an Ethernet frame into the switch at HP, decided or direct. -/
  | txDescFrame (r : Fin 16)
  /-- R328: A CAN descriptor makes a SEND to a transmit object, with an optional lock. -/
  | txDescCan (r : Fin 16)
  /-- R328: A SIGNAL descriptor makes one host signal write, local or posted remote. -/
  | txDescSignal (r : Fin 16)
  /-- R328: An UNLOCK descriptor releases a lock held by the ring. -/
  | txDescUnlock (r : Fin 16)
  /-- R331: A frame for a receive ring fills the descriptor at POS, or is dropped for lack of a buffer. -/
  | rxDelivery (r : Fin 16)
  /-- R332: Writing EN = 1 enables a ring with POS = 0. `win` as for `ringKick`. -/
  | ringEnable (q : Requester) (r : Fin 32) (data : Word) (win : List (BitVec 32 × List Byte))
  /-- R332: Writing EN = 0 disables a ring once the descriptor in hand is finished. -/
  | ringDisable (q : Requester) (r : Fin 32) (data : Word)
  /-- R349: CNT_CLR in RING_CTRL clears the ring counters. -/
  | ringCntClr (q : Requester)
  /-- R336: A read of JNLnn_POP removes the oldest item and latches its words for the requester. -/
  | journalPop (q : Requester) (j : Fin 64) (lost : Bool)
  /-- R338: FLUSH empties the journal and its latches in one step. -/
  | journalFlush (q : Requester) (j : Fin 64)
  /-- R339: Writing EN = 1 enables a journal, flushing it when DEPTH changed. -/
  | journalEnable (q : Requester) (j : Fin 64) (data : Word)
  /-- R339: Writing EN = 0 disables a journal and keeps its items. -/
  | journalDisable (q : Requester) (j : Fin 64) (data : Word)
  /-- R350: CNT_CLR in JNL_CTRL clears all journal counters. -/
  | jnlCntClr (q : Requester)
  /-- R342: A read of IRQ_CLAIMt returns and takes into service the highest claimable source. -/
  | irqClaim (q : Requester) (t : Fin 9)
  /-- R343: A write of IRQ_COMPLETEt takes a source out of service and re-pends an active level. -/
  | irqComplete (q : Requester) (t : Fin 9) (data : Word)
  /-- R345: A write of IRQ_PENDk replaces the pending bits, raising or clearing sources. `edges` are the edges that Popezal raises in the word's
  sources in the same instant (R341). -/
  | irqPendWrite (q : Requester) (k : Fin 16) (data edges : Word)
  /-- R354: DOORBELL copies the request into the mailbox queue, or sets FULL_EV at eight in flight. -/
  | doorbell (q : Requester) (m : Mbx)
  /-- R355: RESP_ACK removes the shown response and brings in the next. -/
  | respAck (q : Requester) (m : Mbx)
  /-- R366: RESET discards the queued requests and posted responses of a mailbox. -/
  | mbxReset (q : Requester) (m : Mbx)
  /-- R369: CNT_CLR in MBXmm_CTRL clears the mailbox counters. -/
  | mbxCntClr (q : Requester) (m : Mbx)
  /-- R360: A taken request refused by the envelope checks is answered with E_HEADER, E_COMPARTMENT or E_UNKNOWN and item 0xA0. -/
  | mbxUnknownCode (m : Mbx)
  /-- R362: A request not taken within its take window is answered with E_TIMEOUT. -/
  | requestTakeTimeout (m : Mbx)
  /-- R370: Mailbox command that returns device identity and all mode codes in one instant. -/
  | sysGetInfo (m : Mbx)
  /-- R370: Mailbox command that attaches a host context with a watch period. -/
  | sysHostAttach (m : Mbx)
  /-- R370: Mailbox command that detaches a host context. -/
  | sysHostDetach (m : Mbx)
  /-- R370: Mailbox command that echoes its fields and serves as a fence. -/
  | sysNop (m : Mbx)
  /-- R371: Mailbox command that reads BAR0 words as the mailbox requester. -/
  | diagRegRead (m : Mbx)
  /-- R371: Mailbox command that writes BAR0 words in ascending order with the mailbox's key. -/
  | diagRegWrite (m : Mbx)
  /-- R371: Mailbox command that reads device memory. -/
  | diagMemRead (m : Mbx)
  /-- R371: Mailbox command that returns the status and counters of every mailbox in one instant. -/
  | diagMbxStats (m : Mbx)
  /-- R367: A context whose watch window ends without a doorbell is detached. -/
  | hostWatchExpiry (t : Fin 8)
  /-- R368: Popezal executes the next entry of the START or HOSTLESS script, and the script may end. -/
  | scriptEntryExecute
  /-- R432: Popezal restarts, aborts requests in service, and is copied again from the active bank. -/
  | popezalRestart
  /-- R432: After a restart or load, Popezal takes requests and MAILBOX is set. -/
  | popezalServing
  /-- R490: When Popezal's watchdog is not served for 10 ms, Popezal restarts. -/
  | watchdogExpiry
  /-- R490: The supervisor cores disagree, LOCKSTEP is set and Popezal restarts. -/
  | lockstepDisagree
  /-- R379: A write of 0x6A5C to DEV_UNLOCK arms the requester's key. -/
  | devUnlockWrite (q : Requester) (data : Word)
  /-- R386: COMMIT starts copying every staged reference into its active value. -/
  | devCommitWrite (q : Requester)
  /-- R386: The commit completes, DEV_CFG_CRC is computed and COMMIT_DONE_EV is set. -/
  | commitComplete
  /-- R385: A block's running CRC follows a change of a covered field within 1 µs. -/
  | cfgCrcUpdate (b : Fin 87)
  /-- R389: Every 1 ms the scrubber compares the copies of triplicated fields and repairs any minority copy. -/
  | voteScrub (upset : List Upset)
  /-- R391: DEVICE in DEV_RESET, written with the key armed, causes a device reset. -/
  | deviceResetWrite (q : Requester)
  /-- R391: DEV_CNT_CLR clears the device control counters. -/
  | devCntClr (q : Requester)
  /-- R400: A crystal failure ramps the privileged loops to the internal oscillator and makes the others coast. -/
  | xtalFailure
  /-- R400: An internal oscillator failure loses the fallback, or makes loops coast before XTAL ready or when both sources failed. -/
  | oscFailure
  /-- R400: A SerDes reference failure makes loop 5 coast and takes the FP and AP links down. -/
  | sdrefFailure
  /-- R396: Each microsecond a ramping loop moves one sixteenth of the way to its new frequency. -/
  | rampStep
  /-- R396: A ramp ends on the new reference, and a privileged loop sets SWITCH_EV. -/
  | rampComplete (k : Fin 6)
  /-- R401: A source that has passed its tests for 100 ms (1 ms at start-up) qualifies. -/
  | sourceQualified (src : ClkSrc)
  /-- R401: A coasting loop relocks, and its blocks leave their held states. -/
  | loopRelock (k : Fin 6)
  /-- R401: RETURN makes loops 0 and 1 ramp back to a qualified crystal. -/
  | clkReturn (q : Requester)
  /-- R404: A rail outside its window for 2 µs is reported and item 0x06 is written. -/
  | railWindowExit (r : Fin 8)
  /-- R404: A rail returning to its window writes item 0x06. -/
  | railWindowReturn (r : Fin 8)
  /-- R404: A rail below its brown-out limit for 2 µs causes a device reset. -/
  | brownOut (r : Fin 8)
  /-- R407: Every 1 µs the pace replicas are measured and the VCORE code is moved. -/
  | pacingMeasurement (ps : BitVec 16)
  /-- R410: CNT_CLR in CLK_CTRL clears the clock counters and PACE_MAX. -/
  | clkCntClr (q : Requester)
  /-- R412: VIN rising and staying at 2.95 V or more for 100 µs starts the device and the lantern from reset. -/
  | coldStart
  /-- R412: At the release of RESET_N, a brown-out, a DEV_RESET write or a bank failure, every block but the lantern restarts. -/
  | deviceReset
  /-- R414: The lantern regulator and oscillator run and LANTERN is set. -/
  | lanternUp
  /-- R405: Every rail is in its window, RAILS is set, and the loader and the pacing loop start. -/
  | railsUp
  /-- R420: The loader has read and applied a section of the boot flash, which may set readiness bits. -/
  | loaderSectionApplied
  /-- R414: The in-package memory is trained, DRAM is set and image initialisation starts. -/
  | dramTrained (retried : Bool)
  /-- R426: Memory training fails three times, and DRAM, IMAGE and MAILBOX are failed. -/
  | dramTrainingFailed
  /-- R426: A crystal not qualified by 50 ms fails XTAL and CAN. -/
  | xtalQualifyTimeout
  /-- R426: Popezal not serving within 100 ms of its load fails MAILBOX. -/
  | popezalLoadTimeout
  /-- R429: A single block is reset and its KIND 1 records are reloaded from the active bank. -/
  | blockReset (b : ResetBlk)
  /-- R429: A block reset completes and item 0x04 is written. -/
  | blockResetComplete
  /-- R489: An ECC check by an access or the scrubber finds a corrected or uncorrectable error. -/
  | memoryScrubVisit (e : MemErr)
  /-- R489: A junction above 125 °C for 10 ms sets DEV_FAULT bit THERMAL. -/
  | thermalFault
  /-- R434: An enabled wake source is accepted and wakes its segments or the device. -/
  | wakeSourceAccepted (i : Fin 74)
  /-- R436: SLEEP in LAN_CMD sets the segment's standing sleep request. -/
  | lanCmdSleep (q : Requester) (data : Word)
  /-- R437: WAKE in LAN_CMD clears the sleep request and wakes or aborts the segment. -/
  | lanCmdWake (q : Requester) (data : Word)
  /-- R438: The settle window ends and the segment enters ASLEEP. -/
  | settleEnd (n : Chan)
  /-- R439: The awake window ends and the segment is forced ASLEEP with holdoff. -/
  | maxAwakeExpiry (n : Chan)
  /-- R437: The minimum awake window ends, and a pending sleep request may start SETTLE. -/
  | minAwakeEnd (n : Chan)
  /-- R437: The retry window ends, and a standing sleep request may send CALL again. -/
  | retryWindowEnd (n : Chan)
  /-- R439: The holdoff window ends, and RXD and TE sources may wake the segment again. -/
  | holdoffEnd (n : Chan)
  /-- R441: The device window ends and commits STANDBY or SLEEP. -/
  | deviceWindowEnd
  /-- R443: Entry into STANDBY completes with the rails at retention. -/
  | standbyReached
  /-- R443: Entry into SLEEP completes, and only the lantern runs. -/
  | sleepReached
  /-- R444: A device wake source ends STANDBY, and rails, loops, DRAM and the image resume. -/
  | standbyWake (i : Fin 74)
  /-- R442: A device wake source ends SLEEP with a start of kind wake from SLEEP. -/
  | sleepWake (i : Fin 74)
  /-- R446: Mailbox command that returns the power and segment states in one instant. -/
  | pwrGetState (m : Mbx)
  /-- R446: Mailbox command that sets the sleep requests of the named segments. -/
  | pwrSegSleep (m : Mbx)
  /-- R446: Mailbox command that wakes the named segments. -/
  | pwrSegWake (m : Mbx)
  /-- R446: Mailbox command that sets HOLD of the named segments. -/
  | pwrSetHold (m : Mbx)
  /-- R446: Mailbox command that writes all three copies of the wake enables. -/
  | pwrSetWake (m : Mbx)
  /-- R446: Mailbox command that sets or clears DEV_HOLD, or enters STANDBY or SLEEP at once. -/
  | pwrSetState (m : Mbx)
  /-- R445: CNT_CLR in LAN_CTRL clears the lantern counters. -/
  | lanCntClr (q : Requester)
  /-- R454: The standby commits the record's frame and adopts the record's TEC and REC. -/
  | budCanrxRecord (r : BudRec)
  /-- R461: The standby keeps the active's chosen frame as its own candidate. -/
  | budTxchoiceRecord (r : BudRec)
  /-- R452: The standby executes a frame delivered to the active's SG. -/
  | budSgrxRecord (r : BudRec)
  /-- R455: The standby executes a paired register write, table command or mailbox request. -/
  | budCmdRecord (r : BudRec)
  /-- R454: The standby executes a firing, timeout scan or sweeper visit of the active. -/
  | budFireRecord (r : BudRec)
  /-- R462: The standby compares the partner's digest with its own and detects divergence. -/
  | budDigestRecord (r : BudRec)
  /-- R465: The rejoining unit applies a page of paired state and may complete resynchronisation. -/
  | budStateRecord (r : BudRec)
  /-- R450: An ACK record updates the partner's executed SEQ, mode and claim. -/
  | budAckRecord (r : BudRec)
  /-- R452: A buddy mailbox request or response carried between the units is executed. -/
  | budMbxRecord (r : BudRec)
  /-- R450: A lane that delivers no valid record for 10 µs is down and sets LANE_EV. -/
  | laneDown (k : Fin 2)
  /-- R450: Each unit sends an ACK record at least once every 1 µs. -/
  | budAckSend
  /-- R457: Every 3.2 µs the unit sends a claim frame on BUD_CLAIM_O. -/
  | claimFrameSend
  /-- R458: A valid claim frame from the partner updates P and may change which unit holds the claim. -/
  | claimFrameReceived (f : BitVec 32)
  /-- R458: When no valid partner claim arrives for 8 µs, the partner counts as silent. -/
  | partnerSilent
  /-- R459: A WITHDRAWN unit whose candidate wins after START_WAIT becomes ACTIVE. -/
  | startWaitEnd
  /-- R462: Self-diagnosis after divergence ends, and its outcome withdraws one unit, the standby or both. -/
  | selfDiagnosisComplete (out : DiagOutcome)
  /-- R465: A WITHDRAWN unit requests resynchronisation, and the ACTIVE partner sends its paired state. -/
  | resyncRequest
  /-- R467: Mailbox command that returns the claim, mode, lag and SEQ in one instant. -/
  | budGetStatus (m : Mbx)
  /-- R467: Mailbox command that writes all three copies of CLAIM_CFG. -/
  | budSetClaim (m : Mbx)
  /-- R467: Mailbox command that sets or clears claim 255. -/
  | budOverride (m : Mbx)
  /-- R467: Mailbox command that withdraws the unit by orderly handover. -/
  | budWithdraw (m : Mbx)
  /-- R467: Mailbox command that requests resynchronisation. -/
  | budRejoin (m : Mbx)
  /-- R466: CNT_CLR in BUD_CTRL clears the buddy counters. -/
  | budCntClr (q : Requester)
  /-- R471: A service datagram is judged and passed to mailbox 8, resent, answered busy or discarded. -/
  | serviceDatagram (f : List Byte)
  /-- R469: The service port handler answers an ARP request for SVC_IP. -/
  | serviceArp (f : List Byte)
  /-- R472: In rescue, the handler executes a KIND 3 request itself. -/
  | rescueRequest (f : List Byte)
  /-- R485: Mailbox command that returns the update mode, banks, floors and packet counts. -/
  | updGetStatus (m : Mbx)
  /-- R477: Mailbox command that erases the inactive bank and its manifest area and enters STAGING. -/
  | updBegin (m : Mbx)
  /-- R477: Mailbox command that programs words of image space once each. -/
  | updWrite (m : Mbx)
  /-- R478: Mailbox command that checks the manifest and staged bank and decides the activation class. -/
  | updVerify (m : Mbx)
  /-- R479: Mailbox command that checks the staged parts again and programs the boot record, which is the commit point. -/
  | updActivate (m : Mbx)
  /-- R482: Mailbox command that raises the OTP floors and ends the trial. -/
  | updConfirm (m : Mbx)
  /-- R476: Mailbox command that abandons staging or rolls back a trial. -/
  | updAbort (m : Mbx)
  /-- R485: Mailbox command that sets SVC_IP, SVC_PORT and service authentication. -/
  | updSetService (m : Mbx)
  /-- R474: Mailbox command that programs or revokes a signing-key position in OTP. -/
  | updOtpKey (m : Mbx)
  /-- R480: After the commit point the engines finish their executions and take the new microcode. -/
  | microcodeSwap
  /-- R480: The lantern program restarts on the new firmware with its state kept. -/
  | lanternSwap
  /-- R481: Once no request is in service, Popezal pauses the mailboxes and hands over through the thermos. -/
  | popezalHandover
  /-- R482: An unconfirmed trial window ends and the device rolls back to the previous bank. -/
  | trialWindowEnd
  /-- R412: RESET_N driven low holds every block but the lantern in reset, with pins at their reset states, and in SLEEP is latched by the lantern. -/
  | resetNAsserted
  /-- R507: PCIE_PERST_N going high releases the PCIe link from reset so that it trains again. -/
  | pciePerstRelease
  /-- R450: A buddy lane completes training and delivers valid records again, setting LANE_EV and writing item 0xC2 (event 1, or event 2 when training fails). -/
  | buddyLaneUp (k : Fin 2) (ok : Bool)
  /-- R197: A PHY's in-band status changes speed or reports half duplex, which sets DUPLEX_EV or CBS_OVER_EV without the link going up or down. -/
  | phyInBandStatus (p : Port) (speed : BitVec 3) (full : Bool)
  /-- R481: The new Popezal reads the thermos, PAUSED returns to 0, queued requests are taken, and the live swaps end, which may confirm the update and release waiting PWR_SET_STATE actions. -/
  | thermosHandoverComplete
  /-- R454: The standby's lag behind the active passes 2 µs, setting LAG_EV, or passes LAG_MAX, withdrawing the unit. -/
  | lagLimitExceeded (lagNs : Nat)
  /-- R377: A read of a _LO counter word copies the matching _HI word of the same instant into the reading requester's latch. -/
  | counterLoRead (q : Requester) (off : BitVec 24)
  deriving DecidableEq, Repr

end Sys2Proof
end

