-- ==== Sys2Proof/Config.lean ====
section
/-!
DEFINITION. Sys2Proof/Config.lean: what the manual leaves open or leaves to a published standard that it does not
reproduce. Each constant is opaque: nothing can evaluate it, and a statement holds whatever it is.
-/
namespace Sys2Proof.Config

/-- A free 64-bit value, one for each number the machine's counter of free values has reached. Log 2. -/
opaque freeValue : Nat → BitVec 64

/-- R246: the occupant that EVICT_MODE = 1 picks among `n`, for the `k`-th free value. Log 2. -/
opaque freePick : Nat → Nat → Nat

/-- R433: whether the lantern's 32,768 Hz oscillator ticks in the `k`-th tick of the time-base loop. Log 6. -/
opaque lanternTick : Nat → Bool

/-- R298: AES of one block of sixteen bytes under a key of 16 or 32 bytes (FIPS 197). Log 8. -/
opaque aes : List Byte → List Byte → List Byte

/-- R296: AES-CMAC (NIST SP 800-38B) of a message under a key: 16 bytes. Log 8. -/
opaque cmac : List Byte → List Byte → List Byte

/-- R296: AES-GCM (NIST SP 800-38D) encryption: key, IV, additional data, plaintext; ciphertext and 16-byte tag. Log 8. -/
opaque gcmEnc : List Byte → List Byte → List Byte → List Byte → List Byte × List Byte

/-- R296: the inverse on the ciphertext: plaintext and the tag computed. Log 8. -/
opaque gcmDec : List Byte → List Byte → List Byte → List Byte → List Byte × List Byte

/-- R296: RFC 3394 key wrap of a plaintext under a key. Log 8. -/
opaque keyWrap : List Byte → List Byte → List Byte

/-- R296: RFC 3394 key unwrap: the plaintext, or nothing when the integrity check fails. Log 8. -/
opaque keyUnwrap : List Byte → List Byte → Option (List Byte)

/-- R475, R478: SHA-256. Log 8. -/
opaque sha256 : List Byte → List Byte

/-- R475, R478: ECDSA P-256 verification of a digest: public key, digest, signature. Log 8. -/
opaque ecdsaOk : List Byte → List Byte → List Byte → Bool

/-- R302: the root that the PUF regenerates. Log 8. -/
opaque pufRoot : List Byte

/-- R302: the 2 KiB of helper data that enrolment makes. Log 8. -/
opaque helperData : List Byte

/-- R302: the root that the PUF regenerates from other helper data than enrolment's; none where its check fails. Log 8. -/
opaque helperRoot : List Byte → Option (List Byte)

/-- R301: the exchanges that make up the permutation of the slots, from the root and the start; no rule gives the function. Log 8. -/
opaque slotSwap : List Byte → Nat → Nat → Nat

/-- R301: the mask of a start, by stored key and byte. Log 8. -/
opaque slotMask : Nat → Nat → Nat → Byte

/-- R314, R315: the secure data and the ICV that protect a frame: the key, the parameters (SUITE, CONF, CONF_OFF, SCI,
PN, SALT, SSCI), the addresses and the SecTAG, the rest of the frame. Log 8. -/
opaque macsecProtect : List Byte → List Nat → List Byte → List Byte → List Byte

/-- R314: what the secure data and the ICV of a frame carry, when the ICV is right. Same arguments. Log 8. -/
opaque macsecOpen : List Byte → List Nat → List Byte → List Byte → Option (List Byte)

/-- R471: whether the 16-byte MAC of a service datagram is right is computed with `cmac`. R198: the adapted equaliser values
of a port, for the k-th adaptation: EQ_STATE, EQ_DFE and EQ_TXFIR from the low end. Log 2. -/
opaque equaliser : Nat → Nat → BitVec 96

/-- R320: the offsets in configuration space of the power-management, PCI Express and MSI-X capabilities, 0x40 to 0xFC: the manual lists
them and not their places. Log 9. -/
opaque capPlace : Nat → Nat

/-- R320: what Link Status reads while the link is up: speed and width as they were negotiated. Log 9. -/
opaque linkStatus : BitVec 10

/-- R370: Popezal's version, three bytes. Log 9. -/
opaque popezalVersion : BitVec 24

/-- R138, R140: which bound (true: MIN) is the nearer one for a value that is as near to both, or beside a bound that is a NaN: MIN, MAX and
the value as 64-bit patterns. Log 2. -/
opaque nearTie : Nat → Nat → Nat → Bool

/-- R508: what a code of the test port names: 0 BYPASS, 1 SAMPLE/PRELOAD, 2 EXTEST, above: none of them. The manual does not give the codes. Log 9. -/
opaque jtagCode : BitVec 8 → Nat

/-- R481: the thermos format that the running Popezal writes, which the manual does not give. Log 9. -/
opaque thermosFormat : Nat

/-- R477, R479: whether the k-th erase or program of the boot flash succeeds. Log 36. -/
opaque flashOk : Nat → Bool

/-- R480: whether the k-th swap of a live activation succeeds. Log 36. -/
opaque swapOk : Nat → Bool

end Sys2Proof.Config
end

