-- ==== Sys2Proof/Machine/State.lean ====
section
/-!
DEFINITION. Sys2Proof/Machine/State.lean: the state of the Rolkar 6448 block as plain data. Everything software reads as
a register word lives in `regs`, keyed by its BAR0 offset; every table entry lives in `tbl`, keyed by table code and
index; the rest is the state that the chapters describe between the registers: queues, windows, trackers, work in hand.
Sparse stores are lists of (key, value) pairs in one canonical form (keys rising, no entry equal to what an unlisted
key reads as); the functions over them are in Machine/Ops.lean.
-/
namespace Sys2Proof.Machine

/-- A sparse store: keys strictly rising, no entry equal to the value an unlisted key reads as. -/
abbrev SMap (α : Type) := List (Nat × α)

/-- R28: device memory, one byte for each listed address. -/
abbrev Memory := List Host.Cell

/-- R389: the three copies of a triplicated field. -/
structure Tri where
  c0 : Word
  c1 : Word
  c2 : Word
  deriving DecidableEq, Repr

/-- R334: a journal item. `pay` holds the 16 payload bytes. -/
structure JItem where
  ty    : Nat
  flags : Nat
  seq   : Nat
  stamp : Nat
  src   : Nat
  pay   : List Byte
  deriving DecidableEq, Repr

/-- R333 to R339: one journal. `depth` is the DEPTH in force since it was last
enabled (none: never enabled since reset); the latches are those of the
host and of the supervisor (R336). -/
structure Jnl where
  items    : List JItem
  nextSeq  : Nat
  stepFl   : Bool
  flushFl  : Bool
  depth    : Option Nat
  latchH   : List Word
  latchS   : List Word
  deriving DecidableEq, Repr

/-- R331: a delivery waiting for a receive ring: the words 3 to 5 of its descriptor, its stamp in nanoseconds with the top
16 fraction bits, its bytes, and the pool copy it holds. -/
structure RxDeliv where
  src   : Nat
  w3    : Nat
  w4    : Nat
  w5    : Nat
  stamp : Nat
  data  : List Byte
  copy  : Option Nat
  deriving DecidableEq, Repr

/-- R327, R331: the part of a ring that is in no register: whether a KICK is being served, the stored frame
whose release its descriptor waits for (R328), and the deliveries waiting. -/
structure Ring where
  kicked : Bool
  wait   : Option Nat
  after  : Option Bool
  deliv  : List RxDeliv
  deriving DecidableEq, Repr

/-- R354, R357: a request in a mailbox queue: its raw header bytes, its fields, the instant of its doorbell, the TMO in
force then, and whether its take window has ended (R362): it keeps its response place. -/
structure MbxReq where
  hdr    : List Byte
  fields : List Byte
  at_    : Nat
  tmo    : Nat
  expired : Bool
  deriving DecidableEq, Repr

/-- R354 to R367: one mailbox. `posted` holds the responses, oldest first. -/
structure MbxRt where
  queue   : List MbxReq
  inSvc   : Option MbxReq
  dropResp : Bool
  posted  : List (List Byte)
  attached : Bool
  watch   : Nat
  lastBell : Nat
  deriving DecidableEq, Repr

/-- R368: a script being run. -/
structure Script where
  hostless : Bool
  next     : Nat
  entries  : List MbxReq
  lastCode : Nat
  lastStat : Nat
  stopReq  : Bool
  deriving DecidableEq, Repr

/-- R89 to R91: an arbitration lock. -/
structure Lock where
  owner   : Nat
  start   : Nat
  timeout : Nat
  deriving DecidableEq, Repr

/-- R84: a routed copy waiting in a channel's class queue. `copy` names its pool record. -/
structure CanCopy where
  copy     : Nat
  cls      : Nat
  seq      : Nat
  owner    : Nat
  attempts : Nat
  noRetry  : Bool
  frame    : CanFrame
  deriving DecidableEq, Repr

/-- R85: what a channel has on the bus. `entry` is the MOT entry as it stood when the frame was chosen; `replaced` says
that a WRITE or CLEAR has replaced it since (R88). -/
inductive OnBusKind where
  | object (o : Nat) (entry : BitVec 128) (replaced : Bool) (attempts : Nat)
  | copy (c : CanCopy)
  | rollCall (opcode : Nat)
  deriving DecidableEq, Repr

structure OnBus where
  kind  : OnBusKind
  frame : CanFrame
  deriving DecidableEq, Repr

/-- One CAN channel, beside its registers: the first instant at which MODE_REQ differed (R54), the end of the standby wait
(R61), whether CLOCK_HOLD came from BUS_OFF (R57), its routed copies, the frame on the bus, its lock, an overflow write
not yet in memory (R73), a roll-call frame to offer (R435), and the aperture's TXDONE and enables (R98). -/
structure CanRt where
  pendSince : Option Nat
  stbUntil  : Option Nat
  holdBusOff : Bool
  copies    : List CanCopy
  bus       : Option OnBus
  lock      : Option Lock
  xlWrite   : Option (Nat × List Byte)
  rollCall  : Option Nat
  rollSeq   : Nat
  rollAtt   : Nat
  apTxDone  : Bool
  apIrqEn   : Nat
  deriving DecidableEq, Repr

/-- R67, R83: one message object: its state record, the lock-owner code its pending and its kept request were presented
with, and the order of presentation. -/
structure ObjRt where
  st      : Word
  stamp   : Word
  kept    : Bool
  owner   : Nat
  keptOwner : Nat
  seq     : Nat
  deriving DecidableEq, Repr

/-- R82: what a transmit set remembers: its last firing and a change firing that waits for MIN_GAP. -/
structure TstRt where
  last   : Option Nat
  change : Bool
  deriving DecidableEq, Repr

/-- R102: an image slot. -/
structure Slot where
  value  : BitVec 64
  stamp  : Word
  status : BitVec 16
  gen    : BitVec 16
  deriving DecidableEq, Repr

/-- R121, R122: a line of the signal cache: its GSID plus one (0: an invalid way), its usage count. -/
structure CLine where
  gsid  : Nat
  count : Nat
  dirty : Bool
  deriving DecidableEq, Repr

/-- R118: a mode pass to be made, with the mailbox request that waits for it. -/
structure ModePass where
  pair : Nat
  old  : Nat
  new  : Nat
  mbx  : Option Mbx
  deriving DecidableEq, Repr

/-- R147, R156: a carrier: the pool copy it holds, the compartment it comes from, the descriptors it names, those of them still to be
executed, and the ring deliveries that wait for its updates. -/
structure Carrier where
  copy  : Nat
  seg   : Nat
  comp  : Nat
  data  : List Byte
  auth  : Bool
  named : List Nat
  descs : List Nat
  held  : List (Nat × RxDeliv)
  deriving DecidableEq, Repr

/-- R175, R176: a SIGNALS bundle whose records wait; one that its pool refused holds no copy and has none. -/
structure BundleCar where
  copy : Nat
  refused : Bool
  sub  : Nat
  srcVeh : Nat
  auth : Bool
  gap  : Bool
  begin_ : Bool
  end_ : Bool
  recs : List (List Byte)
  deriving DecidableEq, Repr

/-- Queue 2 of R147: TRDP datasets and bundles, in arrival order. -/
inductive Work2 where
  | dataset (c : Carrier)
  | bundle (b : BundleCar)
  deriving DecidableEq, Repr

/-- R157, R186: what a composition builds. -/
inductive CompTarget where
  | object (o : Nat)
  | telegram (t : Nat)
  deriving DecidableEq, Repr

/-- R157: a composition in hand: its target, its payload so far, the highest bit written, and its ENCODE descriptors
still to execute. A firing during composition waits as one more, which has not started. -/
structure Comp where
  target  : CompTarget
  started : Bool
  buf     : List Byte
  hiBit   : Nat
  descs   : List Nat
  deriving DecidableEq, Repr

/-- R145: a derivation run in hand, the descriptors still to execute, and the slots that the one in execution has yet to read. A
firing during the run waits as one more, with the range it fired with (R158). -/
structure Run where
  dst   : Nat
  started : Bool
  descs : List Nat
  reads : Option (List Nat)
  deriving DecidableEq, Repr

/-- R146: an execution that released its engine for a cache fill. -/
inductive Parked where
  | comp (c : Comp) (g : Nat)
  | run (r : Run) (g : Nat)
  deriving DecidableEq, Repr

/-- R142, R151: what a descriptor remembers. -/
structure DescRt where
  last   : Nat
  acted  : Bool
  missed : Bool
  deriving DecidableEq, Repr

/-- R150: a copy in the gateway buffer: its pool, its entries, and how many users still hold it. -/
structure PoolCopy where
  pool    : Nat
  entries : Nat
  refs    : Nat
  kind    : Nat
  src     : Nat
  deriving DecidableEq, Repr

/-- R168 to R173: what a publication entry keeps. `busy` is a pass in hand (false: change, true: refresh), `pend` the pass
left pending. -/
structure PubRt where
  seq      : Nat
  dirty    : List Nat
  lastSend : Option Nat
  busy     : Option Bool
  pend     : Option Bool
  deriving DecidableEq, Repr

/-- R169: a sequence tracker: the last accepted SEQ and its instant. -/
structure Tracker where
  seq : Nat
  at_ : Nat
  deriving DecidableEq, Repr

/-- R176, R177: what a subscription keeps. -/
structure SubRt where
  tr     : Option Tracker
  missed : Bool
  clean  : Bool
  last   : Nat
  acted  : Bool
  deriving DecidableEq, Repr

/-- R185, R186: what a TRDP entry keeps. -/
structure TttRt where
  seq : Nat
  tr  : Option Tracker
  deriving DecidableEq, Repr

/-- R180: a pending remote write. -/
structure RWrite where
  target : Nat
  gsid   : Nat
  tag    : Nat
  orig   : Nat
  value  : BitVec 64
  sent   : Nat
  deriving DecidableEq, Repr

/-- R189: what is known of a vehicle: the windows of its presence and duplicate bits and the last TOPO reported. -/
structure VehRt where
  pres : Nat
  dup  : Nat
  topo : Option Nat
  unit : BitVec 64
  lastTopo : Nat
  deriving DecidableEq, Repr

/-- A frame that waits in SG's queues (R23, R229): its bytes from the destination address, whether MACsec validated it, its stamp in
units of 2^-16 ns, whether its ingress port checked its checksums, the stored frame that it is, whether the mirroring block takes it, and whether a
copy goes to the host. -/
structure SgFrame where
  bytes : List Byte
  auth  : Bool
  port  : Nat
  vid   : Nat
  tc    : Nat
  stamp : Nat
  comp  : Nat
  chk   : Bool
  id    : Option Nat
  take  : Bool
  copy  : Bool
  deriving DecidableEq, Repr

/-- Chapter 6, beside its registers and tables. `waiting` are the telegrams that wait for the end of a handover (R481). -/
structure Mir where
  pub     : SMap PubRt
  sub     : SMap SubRt
  ett     : SMap Nat
  ttt     : SMap TttRt
  seqRw   : SMap Nat
  seqRr   : SMap Nat
  seqBcn  : Nat
  trk     : SMap (Option Tracker)
  rw      : List RWrite
  veh     : SMap VehRt
  discard : SMap Nat
  lastBcn : Nat
  sgIn    : List SgFrame
  waiting : List SgFrame
  deriving DecidableEq, Repr

/-- R280 to R285: one timed-event line: captured stamps (nanoseconds, rising), the latched seconds, whether a window is
open, and the LT from which instants are acted on. -/
structure TeRt where
  /-- R283: an edge that is not yet accepted: its direction, its first tick, and the LT of that tick in nanoseconds. -/
  cand   : Option (Bool × Nat × Nat)
  fifo   : List (Nat × Bool)
  latch  : Nat
  active : Bool
  done   : Nat
  deriving DecidableEq, Repr

/-- R273: one tracked domain: its committed offset in nanoseconds, its last update, and the LOSS captured then. -/
structure TdRt where
  off   : Int
  upd   : Option Nat
  loss  : Nat
  wasTracking : Bool
  deriving DecidableEq, Repr

/-- Chapter 10: LT in units of 2^-32 ns, TIME_INC in force, the two domains, the lines, HOLDOVER's entry, the values that TIME_INC has had
while locked (R276: how many ticks and which, newest first, and the tick since which the present one stands), and the
divider of the stamp clock. -/
structure Time where
  lt      : Nat
  inc     : Nat
  td0     : TdRt
  td1     : TdRt
  te      : SMap TeRt
  holdAt  : Nat
  incHist : List (Nat × Nat)
  incFrom : Option Nat
  sub     : Nat
  secSub  : Nat
  deriving DecidableEq, Repr


/-- R341 to R346: the interrupt controller: pending and in-service bits by source, owners (15: none), the same for source
185 by target, the PBA, and bit t of `had`: the set claimable for target t was not empty. -/
structure Irq where
  pend    : BitVec 512
  insvc   : BitVec 512
  owner   : SMap Nat
  nmiPend : BitVec 9
  nmiSvc  : BitVec 9
  pba     : BitVec 8
  had     : BitVec 9
  deriving DecidableEq, Repr

/-- R218, R225, R226: a frame stored in the hamper. `stamp` is its ingress stamp in units of 2^-16 ns; `pcp` the PCP of the received
outer tag; `chk`: its ingress port checked its checksums (R204); `chain` the numbers of its cells, in order; `cellsA` and `cellsB` the cells
charged to the planes; `queued` and `sending` the ports that still have it; `untag` those it
leaves without an outer tag; `seqs` its PRP sequence number on each pair; `bare`: no trailer; `directed`: a host
descriptor or the time unit directs it at its port (R207, R210); `ts` the transmit ring that waits for its egress stamp. -/
structure SwFrame where
  id      : Nat
  data    : List Byte
  ingress : Nat
  vid     : Nat
  pcp     : Option Nat
  tc      : Nat
  csum    : Bool
  stamp   : Nat
  chk     : Bool
  chain   : List Nat
  cells   : Nat
  cellsA  : Nat
  cellsB  : Nat
  queued  : List Nat
  sending : List Nat
  untag   : List Nat
  seqs    : List (Nat × Nat)
  bare    : Bool
  directed : Bool
  ts      : Option Nat
  deriving DecidableEq, Repr

/-- The hamper: stored frames, oldest first (each queue is the frames that name it, in this order). -/
structure Sw where
  frames : List SwFrame
  nextId : Nat
  deriving DecidableEq, Repr

/-- R209: a pause window [from, from + len), in hundredths of a nanosecond, and its quantum. -/
structure Pause where
  start   : Nat
  len     : Nat
  quantum : Nat
  deriving DecidableEq, Repr

/-- R211: one shaper: its credit in units of 10^-8 bits at an instant in units of 20 ps. -/
structure Cbs where
  credit : Int
  at_    : Nat
  deriving DecidableEq, Repr

/-- One Ethernet port, beside its registers: the pause window, the frame being sent (its number, its
bytes on the wire before the FCS, its class, the end of the sending time of R211 in units of 20 ps), the instants of the grace window, of
the training, and since when a condition of the link has failed (R197), its PRP duplicate table (on FP(2k)), its shapers, and since when
the PHY has reported half duplex; and whether its latencies wait for the table of a swap. -/
structure EthRt where
  pause   : Option Pause
  tx      : Option Nat
  txData  : List Byte
  txTc    : Nat
  txEnd   : Nat
  grace   : Option Nat
  graceMs : Nat
  training : Option Nat
  retry   : Option Nat
  failAt  : Option Nat
  prpDup  : List (Nat × Nat × Nat)
  cbs     : SMap Cbs
  halfAt  : Option Nat
  latDue  : Bool
  deriving DecidableEq, Repr

/-- R198, R269, R419: one entry of the SerDes table: the starting values of the equaliser, the transmit FIR used without training, and the
latencies of the stamps, as the register fields that take them hold them. -/
structure SerdesRow where
  ctle  : Nat
  dfe   : Nat
  fir   : Nat
  rxlat : Nat
  txlat : Nat
  deriving DecidableEq, Repr

/-- R244: a learning request. -/
structure LearnReq where
  fid  : Nat
  mac  : Nat
  port : Nat
  comp : Nat
  deriving DecidableEq, Repr

/-- R252: the buckets of a meter, in millionths of a bit, at a tick. -/
structure Bucket where
  tc  : Int
  tp  : Int
  at_ : Nat
  deriving DecidableEq, Repr

/-- Chapter 9: the learning requests of the planes, the meters, and the shadow positions that R262 leaves out (R489). -/
structure Fwd where
  learnA : List LearnReq
  learnB : List LearnReq
  meter  : SMap Bucket
  noCompare : List Nat
  deriving DecidableEq, Repr

/-- R78, R79, R242: a relocation in hand in table `code`, which an INSERT needs: of page `page`, of mailbox `page` - 16 from 16 on, of a learning request from
26 on. The moves still to make (from, to), whether the first of
them has copied its occupant already, and the entry that goes to `slot` at the end. -/
structure Reloc where
  code   : Nat
  page   : Nat
  moves  : List (Nat × Nat)
  copied : Bool
  slot   : Nat
  entry  : BitVec 768
  deriving DecidableEq, Repr

/-- R298: a slot: its current and its pending key, 16 or 32 bytes each (their usage masks are triplicated fields). -/
structure KeySlot where
  cur  : Option (List Byte)
  pend : Option (List Byte)
  deriving DecidableEq, Repr

/-- R295, R297: a job page: the jobs not yet run, and the completions not yet popped. -/
structure JobPage where
  jobs : List (List Word)
  done : List Word
  deriving DecidableEq, Repr

/-- R508: the instruction that the test port holds. -/
inductive TapIr where
  | bypass | samplePreload | extest
  deriving DecidableEq, Repr

/-- Chapter 11: the slots, the root, the start that permutes and masks the store (R301; none: no permutation and no masks), the key
registers of the engines (R290; none: cleared), the guard alarms that stand against the work in hand of engines 4 to 12 (R292: the sensor
mask + 1; 256: a tamper erase), the job pages, the SAs that have reported their PN limits (R315), a tamper event latched in SLEEP (R305),
and SEC_TAMPER_CFG as the lantern holds it in SLEEP (R304). -/
structure Sec where
  slots  : SMap KeySlot
  root   : Option (List Byte)
  start  : Option Nat
  engines : SMap (Option (List Byte))
  alarms : SMap Nat
  pages  : SMap JobPage
  pnWarn : SMap Bool
  pnExh  : SMap Bool
  tamperLatch : Nat
  sleepCfg : Word
  pinLatch : Nat
  tripped : List (Nat × Nat × List Byte)
  owed   : List (Nat × Nat × List Byte)
  tap    : TapIr
  deriving DecidableEq, Repr

/-- R386: a commit in hand: the staged references as they stood at its start. -/
structure Dev where
  commit : Option (List (Nat × Word))
  deriving DecidableEq, Repr

/-- R396: a ramp: steps made, the source codes it leaves and goes to, and whether it runs backwards (R402). -/
structure Ramp where
  step : Nat
  old  : Nat
  new  : Nat
  back : Bool
  deriving DecidableEq, Repr

/-- R404, R407, R408: clocks, rails and pacing beside their registers. `low` are the rails out of their windows. -/
structure Clk where
  ramps   : SMap Ramp
  below   : Nat
  ceil    : Nat
  good    : Nat
  freeze  : Option Nat
  last10  : List Nat
  qual    : SMap (Nat × Nat)
  deriving DecidableEq, Repr

/-- R412 to R432: what the loader and the start keep. `cause` and `causeRail` are the lantern's latch (R413), `badBank` the
bank it has marked failed, `todo` the section types still to be applied, `stage` where the start stands (0 held in reset, 1
lantern, 2 rails, 3 loading, 4 configured), `resume`: the image was kept over STANDBY (R127), `startRun`: the START script has been
started, `blk` the block whose reset is in hand with the records reapplied (none: a section failed), `blkHeld`: they wait for the flash (R400),
`supReset`: a reset of the supervisor that a restart of Popezal made is in hand, `turn` the mailbox that is next to be served (R356), `early` the early-start channels (R423), `restarts` the instants of the latest Popezal restarts (R490). -/
structure Boot where
  stage    : Nat
  resetLow : Bool
  cause    : Nat
  causeRail : Nat
  badBank  : Option Nat
  early    : Nat
  rec1     : Bool
  bootSeq  : Nat
  bank     : Nat
  fallback : Bool
  helper1  : Bool
  retried  : Bool
  todo     : List Nat
  refused  : Nat
  firstTy  : Nat
  firstOff : Nat
  rescue   : Bool
  loaded   : Bool
  resume   : Bool
  wake     : Option Nat
  sizeCode : Nat
  subsys   : Word
  imageVer : Nat
  popVer   : Nat
  popOk    : Bool
  startRun : Bool
  scripts  : List (List (List Byte × List Byte))
  blk      : Option (ResetBlk × Option Nat)
  blkHeld  : Bool
  supReset : Bool
  turn     : Nat
  restarts : List Nat
  deriving DecidableEq, Repr

/-- R473, R474: one-time-programmable memory: the floors of the six parts, the key positions (digest and revoked bit),
ENROLLED and the pacing trim's check. -/
structure Otp where
  floors   : List Nat
  keys     : List (List Byte × Bool)
  enrolled : Bool
  trimOk   : Bool
  deriving DecidableEq, Repr

/-- R485: what UPD_SET_SERVICE sets. -/
structure SvcSet where
  ip   : Nat
  port : Nat
  auth : Bool
  key  : Nat
  deriving DecidableEq, Repr

/-- R469 to R483: the update and the service port. `words` are the words of image space programmed since UPD_BEGIN; `trial` the
latched trial: its start in ticks of LNT and its seconds; `trialT` and `restart` the trial window and the mode of the activation
in hand; `confirm`: CONFIG confirms an activation with T = 0; `failed`: a flash failure has spoiled the staged bank (R477); `swaps`: 0 none, 1 the microcode, 2 the lantern, 3 Popezal's
handover awaited, 4 paused; `pair`: 0 none, 1 the partner's verdict awaited, 2 its restart, 3 its STANDBY, 4 its ACTIVE; `reset`: the
device resets at the end of this step; `svc` is what UPD_SET_SERVICE has set, `cSvc` what it was for the client's request. -/
structure Upd where
  mode     : Nat
  verified : Bool
  live     : Bool
  words    : SMap Bool
  nWords   : Nat
  failed   : Bool
  trial    : Option (Nat × Nat)
  trialT   : Nat
  restart  : Bool
  confirm  : Bool
  swaps    : Nat
  pair     : Nat
  reset    : Bool
  pktOk    : Nat
  pktBad   : Nat
  svc      : SvcSet
  client   : Option (Nat × Nat)
  cSvc     : SvcSet
  clientAt : Nat
  clientSeq : Nat
  resp     : Option (List Byte)
  peerMac  : List Byte
  deriving DecidableEq, Repr

/-- R437: a segment: its state (0 AWAKE, 1 SETTLE, 2 ASLEEP), the stamps of its windows, and the tick of its
latest wake or abort condition and of its latest sleep request (R436). -/
structure Seg where
  st : Nat
  w  : Nat
  a  : Option Nat
  c  : Nat
  f  : Option Nat
  act : Option Nat
  ask : Option Nat
  deriving DecidableEq, Repr

/-- The lantern: lantern time, the segments, the device window's start, the state being entered, a device wake latched
at or after the commit (R441), an action waiting for the swaps to end (R496), the sources accepted in STANDBY, and items waiting to be
written (R447). -/
structure Lan where
  lnt    : Nat
  seg    : SMap Seg
  dev    : Option (Nat × Nat)
  entering : Option Nat
  latched : Option Nat
  waiting : Option Nat
  meanwhile : List (Nat × Nat)
  items  : List (Nat × Nat × List Byte)
  wakeItem : Bool
  deriving DecidableEq, Repr

/-- R454: a frame that a STANDBY unit has received and holds. -/
structure Held where
  chan  : Nat
  frame : CanFrame
  at_   : Nat
  deriving DecidableEq, Repr

/-- R462: a digest over the records [first, last]. -/
structure Digest where
  first : Nat
  last  : Nat
  crc   : Word
  deriving DecidableEq, Repr

/-- The buddy block. `gate` says that the gates of TE, GPIO and INH are open, `canGate` those of the channels; `laneAt` is when each lane last
delivered a valid record (R450), `live` the records of the live stream that wait for the pages (R465). -/
structure Bud where
  txSeq   : Nat
  rx      : Option Nat
  pClaim  : Nat
  pCand   : Nat
  pState  : Nat
  pLast   : Nat
  pExec   : Nat
  pHeard  : Bool
  failed  : Bool
  override : Bool
  roll    : Nat
  w       : Nat
  gate    : Bool
  canGate : BitVec 48
  held    : List Held
  choice  : SMap (Option CanFrame)
  choiceTdc : SMap Nat
  events  : List Byte
  digFirst : Nat
  digLast : Nat
  digCount : Nat
  own     : List Digest
  diverged : Option (Nat × Word × Word)
  resync  : Bool
  pages   : SMap (List Byte)
  wantPages : Nat
  withdrawing : Bool
  executing : Option Word
  mbxHand : List (List Byte)
  laneAt  : Nat × Nat
  live    : List BudRec
  deriving DecidableEq, Repr

/-- The PCI Express function: its configuration words, the MSI-X enable and function mask, the link, PERST_N, AER's
status and header log, and the 64-byte blocks of the host window whose first read is poisoned (R489). -/
structure Pcie where
  cfg     : SMap Word
  msixEn  : Bool
  msixMask : Bool
  link    : Bool
  perst   : Bool
  aerUR   : Bool
  aerAdv  : Bool
  aerCA   : Bool
  header  : List Word
  poison  : List Nat
  deriving DecidableEq, Repr

/-- Something the block has sent out, in order: the outputs that no register shows. -/
inductive Out where
  | msix (vector : Nat) (addr : BitVec 64) (data : Word)
  | completion (q : Requester) (status : Nat) (data : List Byte)
  | mdio (op phy dev reg data : Nat)
  /-- R203, R229: an Ethernet frame that leaves a port: its bytes before the FCS, and whether the FCS is inverted. -/
  | eth (port : Nat) (data : List Byte) (stomped : Bool)
  /-- R36: a CAN frame valid for the transmitter. -/
  | can (chan : Nat) (f : CanFrame)
  /-- R271, R274: a PTP message for Popezal, the servo owner: the port, its ingress stamp in units of 2^-16 ns, the frame. -/
  | servo (port stamp : Nat) (data : List Byte)
  /-- R457: a claim frame. -/
  | claim (f : Word)
  /-- R450: a record for the partner. -/
  | bud (r : BudRec)
  /-- R469: a frame the service port handler sends. -/
  | service (data : List Byte)
  /-- R111, R376: what a BAR4 read or an aborted read answers. -/
  | bar4 (data : List Byte)
  | abort (off : Nat)
  /-- R424: the answer to a configuration request; none is Retry Status. -/
  | config (data : Option Word)
  deriving DecidableEq, Repr

/-- Why a command stops with a fault. No meaning of this model raises one: every row of the table has an effect in
every state. Safe: a run never ends here. -/
inductive Fault where
  /-- Raised by no meaning; it keeps the type inhabited. Safe. -/
  | none
  deriving DecidableEq, Repr

/-- Why a command is refused. -/
inductive Refusal where
  /-- Raised by Machine/Dispatch.lean alone, for a row that has no meaning yet. Safe: it stops where the hardware goes on. -/
  | notModelled (mnemonic : String)
  deriving DecidableEq, Repr

/-- The block. -/
structure State where
  /-- The commands that wait, first in, first out. -/
  pending   : List Instr
  /-- Every register word by BAR0 offset (R374); an unlisted offset reads as its reset value. -/
  regs      : SMap Word
  /-- R8: the words in force of "at enable" fields that were written while their block is disabled, by offset: they act until its next
  enable. -/
  inForce   : SMap (Option Word)
  /-- R386: the active value of each _CFG_REF, by the offset of its register. -/
  refActive : SMap Word
  /-- R377: the _HI latches, by requester and offset. -/
  hiLatch   : SMap Word
  /-- R379: armed unlock keys, by requester. -/
  armed     : SMap Bool
  /-- R389: the triplicated fields, by field code and index. -/
  tri       : SMap Tri
  /-- R92, R160, R191, R260, R317: the tables, by table code × 2^20 + index. -/
  tbl       : SMap (BitVec 768)
  /-- R261: the table shadows, same keys. -/
  shadow    : SMap (BitVec 768)
  /-- R78, R79: the relocations in hand. -/
  relocs    : List Reloc
  /-- R74, R158, R307: the changes of MOT, XIM, RLT and SLT entries, newest first: the tick, the key in `tbl`, and the entry before. -/
  motLog    : List (Nat × Nat × BitVec 768)
  /-- R68: the payload store, by granule × 8 + byte. -/
  pay       : SMap Byte
  /-- R28: the in-package memory outside the signal image. -/
  mem       : Memory
  /-- R29, R489: the 64-byte blocks of the reserve pool that an uncorrectable error has zeroed. -/
  poolZero  : List Nat
  /-- R101: the signal image, by GSID. -/
  slots     : SMap Slot
  /-- R116: the segment modes, by vehicle × 64 + segment. -/
  smt       : SMap Nat
  can       : SMap CanRt
  obj       : SMap ObjRt
  tst       : SMap TstRt
  reqSeq    : Nat
  copyNext  : Nat
  copies    : SMap PoolCopy
  carriers  : List Carrier
  work2     : List Work2
  comps     : List Comp
  runs      : List Run
  parked    : List Parked
  desc      : SMap DescRt
  /-- R147: a timeout scan waits for the queues before queue 4. -/
  scanHeld  : Bool
  cache     : SMap CLine
  passes    : List ModePass
  /-- R109: the instants at which the sweeper last began a pause and last ended one. -/
  sweepPauseAt : Option Nat
  sweepRunFrom : Option Nat
  mir       : Mir
  time      : Time
  jnl       : SMap Jnl
  ring      : SMap Ring
  mbx       : SMap MbxRt
  script    : Option Script
  irq       : Irq
  sw        : Sw
  eth       : SMap EthRt
  /-- R198, R419: the SerDes table, by port × 8 + MODE. -/
  serdes    : SMap SerdesRow
  fwd       : Fwd
  sec       : Sec
  dev       : Dev
  clk       : Clk
  boot      : Boot
  otp       : Otp
  /-- R416: the boot flash, by byte. -/
  flash     : SMap Byte
  upd       : Upd
  lan       : Lan
  bud       : Bud
  pcie      : Pcie
  /-- Ticks of the time-base loop since the start, whatever LT does. -/
  ticks     : Nat
  /-- The model's own: how many free values have been taken. -/
  free      : Nat
  /-- R120: the counts behind the housekeeping counters and rates, by local index; 1000 + i: the count in the second that runs. -/
  house     : SMap Nat
  out       : List Out
  deriving DecidableEq, Repr


def Tri.init : Tri := { c0 := 0, c1 := 0, c2 := 0 }

def Jnl.init : Jnl :=
  { items := [], nextSeq := 0, stepFl := false, flushFl := false, depth := none, latchH := [], latchS := [] }

def Ring.init : Ring := { kicked := false, wait := none, after := none, deliv := [] }

def MbxRt.init : MbxRt :=
  { queue := [], inSvc := none, dropResp := false, posted := [], attached := false, watch := 0, lastBell := 0 }

def CanRt.init : CanRt :=
  { pendSince := none, stbUntil := none, holdBusOff := false, copies := [], bus := none, lock := none, xlWrite := none
    rollCall := none, rollSeq := 0, rollAtt := 0, apTxDone := false, apIrqEn := 0 }

def ObjRt.init : ObjRt := { st := 0, stamp := 0, kept := false, owner := 0, keptOwner := 0, seq := 0 }

def TstRt.init : TstRt := { last := none, change := false }

def Slot.init : Slot := { value := 0, stamp := 0, status := 0, gen := 0 }

def CLine.init : CLine := { gsid := 0, count := 0, dirty := false }

def DescRt.init : DescRt := { last := 0, acted := false, missed := false }

def PoolCopy.init : PoolCopy := { pool := 0, entries := 0, refs := 0, kind := 0, src := 0 }

def PubRt.init : PubRt := { seq := 0, dirty := [], lastSend := none, busy := none, pend := none }

def SubRt.init : SubRt := { tr := none, missed := false, clean := false, last := 0, acted := false }

def TttRt.init : TttRt := { seq := 0, tr := none }

def VehRt.init : VehRt := { pres := 0, dup := 0, topo := none, unit := 0, lastTopo := 0 }

def TeRt.init : TeRt := { cand := none, fifo := [], latch := 0, active := false, done := 0 }

def TdRt.init : TdRt := { off := 0, upd := none, loss := 0, wasTracking := false }

def Cbs.init : Cbs := { credit := 0, at_ := 0 }

def EthRt.init : EthRt :=
  { pause := none, tx := none, txData := [], txTc := 0, txEnd := 0, grace := none, graceMs := 0, training := none, retry := none, failAt := none
    prpDup := [], cbs := [], halfAt := none, latDue := false }

def SerdesRow.init : SerdesRow := { ctle := 0, dfe := 0, fir := 0, rxlat := 0, txlat := 0 }

def Bucket.init : Bucket := { tc := 0, tp := 0, at_ := 0 }

def KeySlot.init : KeySlot := { cur := none, pend := none }

def JobPage.init : JobPage := { jobs := [], done := [] }

def Ramp.init : Ramp := { step := 0, old := 0, new := 0, back := false }

def Seg.init : Seg := { st := 0, w := 0, a := none, c := 0, f := none, act := none, ask := none }

def Mir.init : Mir :=
  { pub := [], sub := [], ett := [], ttt := [], seqRw := [], seqRr := [], seqBcn := 0, trk := [], rw := [], veh := []
    discard := [], lastBcn := 0, sgIn := [], waiting := [] }

def Time.init : Time :=
  { lt := 0, inc := 2 * 2 ^ 32, td0 := TdRt.init, td1 := TdRt.init, te := [], holdAt := 0
    incHist := [], incFrom := none, sub := 0, secSub := 0 }

def Irq.init : Irq :=
  { pend := 0, insvc := 0, owner := [], nmiPend := 0, nmiSvc := 0, pba := 0, had := 0 }

def Sw.init : Sw := { frames := [], nextId := 0 }

def Fwd.init : Fwd := { learnA := [], learnB := [], meter := [], noCompare := [] }

def Sec.init : Sec :=
  { slots := [], root := none, start := none, engines := [], alarms := [], pages := [], pnWarn := [], pnExh := [], tamperLatch := 0, sleepCfg := 0
    pinLatch := 0, tripped := [], owed := [], tap := .bypass }

def Clk.init : Clk :=
  { ramps := [], below := 0, ceil := 0, good := 0, freeze := none, last10 := [], qual := [] }

def Boot.init : Boot :=
  { stage := 0, resetLow := false, cause := 0, causeRail := 0, badBank := none, early := 0, rec1 := false, bootSeq := 0, bank := 0
    fallback := false, helper1 := false, retried := false, todo := [], refused := 0, firstTy := 0, firstOff := 0
    rescue := false, loaded := false, resume := false, wake := none, sizeCode := 0, subsys := 0, imageVer := 0, popVer := 0
    popOk := false, startRun := false, scripts := [], blk := none, blkHeld := false, supReset := false, turn := 0, restarts := [] }

/-- R473, R474: what the OTP holds after test is Corcen's; the model starts from floors of 0, no key, not enrolled, and
no pacing trim. DESIGN CHOICE, log 3. -/
def Otp.init : Otp :=
  { floors := [0, 0, 0, 0, 0, 0], keys := [([], false), ([], false), ([], false), ([], false)], enrolled := false
    trimOk := false }

/-- R469: SVC_IP is 169.254.100.1 and SVC_PORT is 25672 until UPD_SET_SERVICE. -/
def SvcSet.init : SvcSet := { ip := 0xA9FE6401, port := 25672, auth := false, key := 0 }

def Upd.init : Upd :=
  { mode := 0, verified := false, live := false, words := [], nWords := 0, failed := false, trial := none, trialT := 0, restart := false
    confirm := false, swaps := 0, pair := 0, reset := false, pktOk := 0, pktBad := 0, svc := SvcSet.init, client := none
    cSvc := SvcSet.init, clientAt := 0, clientSeq := 0, resp := none, peerMac := [] }

def Lan.init : Lan :=
  { lnt := 0, seg := [], dev := none, entering := none, latched := none, waiting := none, meanwhile := [], items := [], wakeItem := false }

def Bud.init : Bud :=
  { txSeq := 0, rx := none, pClaim := 0, pCand := 0, pState := 3, pLast := 0, pExec := 0, pHeard := false, failed := false
    override := false, roll := 0, w := 0, gate := true, canGate := BitVec.allOnes 48, held := [], choice := [], choiceTdc := []
    events := [], digFirst := 0, digLast := 0, digCount := 0, own := [], diverged := none, resync := false, pages := []
    wantPages := 0, withdrawing := false, executing := none, mbxHand := [], laneAt := (0, 0), live := [] }

def Pcie.init : Pcie :=
  { cfg := [], msixEn := false, msixMask := false, link := false, perst := false, aerUR := false, aerAdv := false, aerCA := false
    header := [], poison := [] }

/-- The block right after reset, before any part of the start-up sequence (R414) has run: every register at its reset
value (an unlisted offset of `regs` reads as it), every queue empty, memory with nothing listed. -/
def State.reset : State :=
  { pending := [], regs := [], inForce := [], refActive := [], hiLatch := [], armed := [], tri := [], tbl := [], shadow := [], relocs := [], motLog := []
    pay := [], mem := [], poolZero := [], slots := [], smt := [], can := [], obj := [], tst := [], reqSeq := 0, copyNext := 0
    copies := [], carriers := [], work2 := [], comps := [], runs := [], parked := [], desc := []
    scanHeld := false, cache := [], passes := [], sweepPauseAt := none, sweepRunFrom := none
    mir := Mir.init, time := Time.init, jnl := [], ring := [], mbx := [], script := none, irq := Irq.init
    sw := Sw.init, eth := [], serdes := [], fwd := Fwd.init, sec := Sec.init, dev := { commit := none }, clk := Clk.init
    boot := Boot.init, otp := Otp.init, flash := [], upd := Upd.init, lan := Lan.init, bud := Bud.init
    pcie := Pcie.init, ticks := 0, free := 0, house := [], out := [] }
end Sys2Proof.Machine
end

