-- ==== Sys2Proof/Machine/Ops.lean ====
section
/-!
DEFINITION. Sys2Proof/Machine/Ops.lean: the named operations that every chapter's meanings are built from: sparse stores,
memory, bytes and bit fields, the CRCs of R76 and R457, registers, triplicated fields, compartments, keys of R379, journals,
free values.
-/
namespace Sys2Proof.Machine

/-! ### Sparse stores -/

/-- What key `k` reads as; `d` is what an unlisted key reads as. -/
def SMap.get {α : Type} (d : Nat → α) (m : SMap α) (k : Nat) : α :=
  match m.find? (fun e => e.1 == k) with
  | some e => e.2
  | none => d k

/-- The store without key `k`. -/
def SMap.del {α : Type} (m : SMap α) (k : Nat) : SMap α := m.filter (fun e => e.1 != k)

/-- The store with (k, v) put before the first larger key. -/
def SMap.ins {α : Type} : SMap α → Nat → α → SMap α
  | [], k, v => [(k, v)]
  | e :: r, k, v => if k < e.1 then (k, v) :: e :: r else e :: SMap.ins r k v

/-- The store in which `k` reads as `v`, in canonical form. -/
def SMap.set {α : Type} [DecidableEq α] (d : Nat → α) (m : SMap α) (k : Nat) (v : α) : SMap α :=
  if v = d k then SMap.del m k else SMap.ins (SMap.del m k) k v

/-- The canonical form: keys strictly rising, no entry equal to what an unlisted key reads as. -/
def SMap.wf {α : Type} [DecidableEq α] (d : Nat → α) (m : SMap α) : Prop :=
  m.Pairwise (fun a b => a.1 < b.1) ∧ ∀ e ∈ m, e.2 ≠ d e.1

/-! ### Memory (R28) -/

/-- What a byte that nothing has written reads as: the manual gives none; 0. DESIGN CHOICE, log 4. -/
def memDefault (_ : Nat) : Byte := 0

/-- The canonical form of memory. -/
abbrev Memory.wf (m : Memory) : Prop := SMap.wf memDefault m

def memByte (s : State) (a : Nat) : Byte := SMap.get memDefault s.mem a

def setMemByte (s : State) (a : Nat) (b : Byte) : State := { s with mem := SMap.set memDefault s.mem a b }

/-- `n` bytes from address `a`. -/
def memRead (s : State) (a n : Nat) : List Byte := (List.range n).map fun i => memByte s (a + i)

/-- The bytes `bs` written from address `a`, the first at `a`. -/
def memWrite (s : State) (a : Nat) : List Byte → State
  | [] => s
  | b :: bs => memWrite (setMemByte s a b) (a + 1) bs

/-! ### Bytes -/

/-- R3: the low `n` bytes of `v`, least significant first. -/
def leBytes : Nat → Nat → List Byte
  | 0, _ => []
  | n + 1, v => BitVec.ofNat 8 v :: leBytes n (v / 256)

/-- R3: the low `n` bytes of `v`, most significant first (the device's own wire formats). -/
def beBytes (n v : Nat) : List Byte := (leBytes n v).reverse

/-- The number that bytes give, least significant first. -/
def leNat : List Byte → Nat
  | [] => 0
  | b :: bs => b.toNat + 256 * leNat bs

/-- The number that bytes give, most significant first. -/
def beNat (bs : List Byte) : Nat := leNat bs.reverse

/-- `n` bytes of `l` from position `a`. -/
def slice {α : Type} (l : List α) (a n : Nat) : List α := (l.drop a).take n

/-- The little-endian number in `n` bytes from position `a`. -/
def leAt (l : List Byte) (a n : Nat) : Nat := leNat (slice l a n)

/-- The most-significant-first number in `n` bytes from position `a`. -/
def beAt (l : List Byte) (a n : Nat) : Nat := beNat (slice l a n)

/-- `l` cut or filled with zero bytes to `n`. -/
def padTo (n : Nat) (l : List Byte) : List Byte := (l ++ List.replicate (n - l.length) 0).take n

/-- `l` with `bs` written over it from position `a`; positions beyond its end are filled with zeros first. -/
def overlay (l : List Byte) (a : Nat) (bs : List Byte) : List Byte :=
  padTo a l ++ bs ++ l.drop (a + bs.length)

/-! ### Bit fields -/

/-- R2: bits [hi:lo] of a word. -/
def fld (w : Word) (hi lo : Nat) : Nat := (w.toNat >>> lo) % 2 ^ (hi + 1 - lo)

/-- The word with bits [hi:lo] set to `v`. -/
def putFld (w : Word) (hi lo v : Nat) : Word :=
  BitVec.ofNat 32 (w.toNat - (fld w hi lo) * 2 ^ lo + (v % 2 ^ (hi + 1 - lo)) * 2 ^ lo)

/-- Bits [hi:lo] of a number. -/
def nbits (x hi lo : Nat) : Nat := (x >>> lo) % 2 ^ (hi + 1 - lo)

/-- Bit `b` of a number. -/
def nbit (x b : Nat) : Bool := x.testBit b

def bnat (b : Bool) : Nat := if b then 1 else 0

/-- Word `w`, bits [hi:lo] of a table entry. -/
def eFld (e : BitVec 768) (w hi lo : Nat) : Nat := nbits e.toNat (32 * w + hi) (32 * w + lo)

/-- The entry with word `w`, bits [hi:lo] set to `v`. -/
def ePut (e : BitVec 768) (w hi lo v : Nat) : BitVec 768 :=
  BitVec.ofNat 768 (e.toNat - (eFld e w hi lo) * 2 ^ (32 * w + lo) + (v % 2 ^ (hi + 1 - lo)) * 2 ^ (32 * w + lo))

/-- The low `n` bytes of an entry. -/
def eBytes (n : Nat) (e : BitVec 768) : List Byte := leBytes n e.toNat

def eOf (bs : List Byte) : BitVec 768 := BitVec.ofNat 768 (leNat (bs.take 96))

/-- The two's-complement reading of the low `n` bits of `x`. -/
def sInt (n x : Nat) : Int := if x % 2 ^ n < 2 ^ (n - 1) then (x % 2 ^ n : Nat) else (x % 2 ^ n : Nat) - (2 ^ n : Nat)

/-- The low `n` bits of an integer. -/
def toBits (n : Nat) (i : Int) : Nat := (i % (2 ^ n : Nat)).toNat

def ceilDiv (a b : Nat) : Nat := (a + b - 1) / b

/-! ### CRCs -/

def crcStep (c : Nat) : Nat := if c % 2 = 1 then (c / 2) ^^^ 0x82F63B78 else c / 2

def crcByte (c : Nat) (b : Byte) : Nat :=
  crcStep (crcStep (crcStep (crcStep (crcStep (crcStep (crcStep (crcStep (c ^^^ b.toNat))))))))

/-- R76: CRC-32C: polynomial 0x1EDC_6F41, input and output reflected, initial value and final XOR 0xFFFF_FFFF. -/
def crc32c (bs : List Byte) : Nat := (bs.foldl crcByte 0xFFFFFFFF) ^^^ 0xFFFFFFFF

/-- R385: CRC-32C over words, each as four bytes, bits [7:0] first. -/
def crcWords (ws : List Word) : Word := BitVec.ofNat 32 (crc32c (ws.flatMap fun w => leBytes 4 w.toNat))

def crc8Bit (c : Nat) : Nat := if c ≥ 128 then ((c * 2) % 256) ^^^ 0x07 else c * 2

def crc8Bits : Nat → Nat → Nat → Nat
  | 0, _, c => c
  | n + 1, x, c => crc8Bits n x (crc8Bit (c ^^^ (bnat (x.testBit n) * 128)))

/-- R457: CRC-8, polynomial 0x07, initial value 0, over the low `n` bits of `x`, most significant first. -/
def crc8 (n x : Nat) : Nat := crc8Bits n x 0

/-! ### Registers -/

/-- R8: the reset value of the register word at a BAR0 offset. Fields whose reset entry is cfg, OTP or pin hold 0 until
they are loaded (DESIGN CHOICE, log 3); every reset value that a field card states and that is not 0 stands here. A limit of R233 whose address
R263 gives away cannot be loaded and is the whole hamper (DESIGN CHOICE, log 12). -/
def resetWord (o : Nat) : Word :=
  if o = 0 then 0x6448000B
  else if o = 0x1000C then 0x4000
  else if o = 0x10108 then 0x6401
  else if o = 0x3A004 then 1
  else if 0x2F000 ≤ o ∧ o < 0x2F080 ∧ o % 16 = 12 then 1
  else if o = 0x6000C then 4
  else if o = 0x60010 ∨ o = 0x60018 then 2
  else if o = 0x60060 ∨ o = 0x60080 then 0xFFFF0000
  else if o = 0x80010 then 0xC
  else if o = 0x1A0008 then 1
  else if 0x70400 ≤ o ∧ o < 0x70700 ∧ o % 16 = 12 then 10
  else if 0x100000 ≤ o ∧ o < 0x130000 ∧ o % 0x1000 = 0x20 then 0x7F00
  else if 0x100000 ≤ o ∧ o < 0x130000 ∧ o % 0x1000 = 0x30 then 0x10000
  else if (0x181000 ≤ o ∧ o < 0x182000 ∨ 0x1182000 ≤ o ∧ o < 0x1182800) ∧ o % 0x100 = 0x0C then 0x200000
  else if 0x1182000 ≤ o ∧ o < 0x1182460 ∧ (o % 0x100 = 8 ∨ 0x10 ≤ o % 0x100 ∧ o % 0x100 < 0x30) then 0x20000
  else 0

/-- The register word at an offset. -/
def rd (s : State) (o : Nat) : Word := SMap.get resetWord s.regs o

/-- The state with that word. -/
def wr (s : State) (o : Nat) (w : Word) : State := { s with regs := SMap.set resetWord s.regs o w }

/-- R8: the word in force at an offset with "at enable" fields: what the last enable of its block found, where one was written since. -/
def frc (s : State) (o : Nat) : Word := (SMap.get (fun _ => none) s.inForce o).getD (rd s o)

/-- R8: the word at `o` as it now stands stays in force until its block is enabled. -/
def holdForce (s : State) (o : Nat) : State :=
  { s with inForce := SMap.set (fun _ => none) s.inForce o (some (frc s o)) }

/-- R8: a block passes from disabled to enabled: what was written to these words bites. -/
def bite (s : State) (os : List Nat) : State :=
  { s with inForce := os.foldl (fun m o => SMap.set (fun _ => none) m o none) s.inForce }

def frcF (s : State) (o hi lo : Nat) : Nat := fld (frc s o) hi lo

def frcB (s : State) (o b : Nat) : Bool := (frc s o).getLsbD b

def getF (s : State) (o hi lo : Nat) : Nat := fld (rd s o) hi lo

def setF (s : State) (o hi lo v : Nat) : State := wr s o (putFld (rd s o) hi lo v)

def getB (s : State) (o b : Nat) : Bool := (rd s o).getLsbD b

def setB (s : State) (o b : Nat) (v : Bool) : State := setF s o b b (bnat v)

/-- An event bit set by hardware (R384: it reads 1 afterwards). -/
def raise (s : State) (o b : Nat) : State := wr s o (rd s o ||| BitVec.ofNat 32 (2 ^ b))

/-- W1C: the bits written as 1 are cleared. -/
def clearBits (s : State) (o : Nat) (m : Word) : State := wr s o (rd s o &&& ~~~ m)

/-- A 32-bit counter counts `n` events; it wraps to zero. -/
def addC (s : State) (o n : Nat) : State := wr s o (rd s o + BitVec.ofNat 32 n)

def incC (s : State) (o : Nat) : State := addC s o 1

/-- A counter split into _LO at `o` and _HI at `o + 4` counts `n` events. -/
def add64 (s : State) (o n : Nat) : State :=
  let v := (rd s o).toNat + 2 ^ 32 * (rd s (o + 4)).toNat + n
  wr (wr s o (BitVec.ofNat 32 v)) (o + 4) (BitVec.ofNat 32 (v / 2 ^ 32))

/-- Each of the offsets reads zero. -/
def zeroAll (s : State) : List Nat → State
  | [] => s
  | o :: os => zeroAll (wr s o 0) os

/-- `n` offsets from `o`, one word apart. -/
def wordsFrom (o n : Nat) : List Nat := (List.range n).map fun i => o + 4 * i

/-! Base addresses. -/

def canR (n o : Nat) : Nat := 0x100000 + n * 0x1000 + o
def motR (n o : Nat) : Nat := 0xA8000 + n * 0x20 + o
def ethR (p o : Nat) : Nat := 0x140000 + p * 0x1000 + o
/-- R233's blocks of ports 16 and up fall on addresses that R263 gives to the forwarding registers: they are kept 0x100_0000 above,
outside BAR0. DESIGN CHOICE, log 12. -/
def swR (q o : Nat) : Nat := (if q < 16 then 0x181000 else 0x1181000) + q * 0x100 + o
def fwdR (q o : Nat) : Nat := 0x182100 + q * 0x20 + o
def jnlR (j o : Nat) : Nat := 0x40000 + j * 0x40 + o
def ringR (r o : Nat) : Nat := 0x50000 + r * 0x20 + o
def mbxR (m o : Nat) : Nat := 0x30000 + m * 0x1000 + o
def teR (n o : Nat) : Nat := 0x62000 + n * 0x40 + o
def tdR (n o : Nat) : Nat := 0x60050 + n * 0x20 + o
def jobR (c o : Nat) : Nat := 0x91000 + c * 0x400 + o
def msR (n o : Nat) : Nat := 0x98000 + n * 0x100 + o
def segR (n o : Nat) : Nat := 0x70400 + n * 0x10 + o
def pageR (c o : Nat) : Nat := 0xB0000 + c * 0x1000 + o

/-! ### Sub-states by index -/

def chan (s : State) (n : Nat) : CanRt := SMap.get (fun _ => CanRt.init) s.can n
def setChan (s : State) (n : Nat) (c : CanRt) : State := { s with can := SMap.set (fun _ => CanRt.init) s.can n c }
def objAt (s : State) (o : Nat) : ObjRt := SMap.get (fun _ => ObjRt.init) s.obj o
def setObj (s : State) (o : Nat) (x : ObjRt) : State := { s with obj := SMap.set (fun _ => ObjRt.init) s.obj o x }
def port (s : State) (p : Nat) : EthRt := SMap.get (fun _ => EthRt.init) s.eth p
def setPort (s : State) (p : Nat) (x : EthRt) : State := { s with eth := SMap.set (fun _ => EthRt.init) s.eth p x }
def jnlAt (s : State) (j : Nat) : Jnl := SMap.get (fun _ => Jnl.init) s.jnl j
def setJnl (s : State) (j : Nat) (x : Jnl) : State := { s with jnl := SMap.set (fun _ => Jnl.init) s.jnl j x }
def ringAt (s : State) (r : Nat) : Ring := SMap.get (fun _ => Ring.init) s.ring r
def setRing (s : State) (r : Nat) (x : Ring) : State := { s with ring := SMap.set (fun _ => Ring.init) s.ring r x }
def mbxAt (s : State) (m : Nat) : MbxRt := SMap.get (fun _ => MbxRt.init) s.mbx m
def setMbx (s : State) (m : Nat) (x : MbxRt) : State := { s with mbx := SMap.set (fun _ => MbxRt.init) s.mbx m x }
def segAt (s : State) (n : Nat) : Seg := SMap.get (fun _ => Seg.init) s.lan.seg n
def setSeg (s : State) (n : Nat) (x : Seg) : State :=
  { s with lan := { s.lan with seg := SMap.set (fun _ => Seg.init) s.lan.seg n x } }
def keyAt (s : State) (k : Nat) : KeySlot := SMap.get (fun _ => KeySlot.init) s.sec.slots k
def setKey (s : State) (k : Nat) (x : KeySlot) : State :=
  { s with sec := { s.sec with slots := SMap.set (fun _ => KeySlot.init) s.sec.slots k x } }
def jobPage (s : State) (c : Nat) : JobPage := SMap.get (fun _ => JobPage.init) s.sec.pages c
def setJobPage (s : State) (c : Nat) (x : JobPage) : State :=
  { s with sec := { s.sec with pages := SMap.set (fun _ => JobPage.init) s.sec.pages c x } }
def slotAt (s : State) (g : Nat) : Slot := SMap.get (fun _ => Slot.init) s.slots g
def setSlot (s : State) (g : Nat) (x : Slot) : State := { s with slots := SMap.set (fun _ => Slot.init) s.slots g x }

/-! ### Tables -/

/-- The key of an entry in `tbl` and `shadow`. -/
def tKey (code i : Nat) : Nat := code * 2 ^ 20 + i

def zeroEntry (_ : Nat) : BitVec 768 := 0

def tGet (s : State) (code i : Nat) : BitVec 768 := SMap.get zeroEntry s.tbl (tKey code i)
def tSet (s : State) (code i : Nat) (e : BitVec 768) : State := { s with tbl := SMap.set zeroEntry s.tbl (tKey code i) e }
/-- R74: a change of an entry that a lookup of a CAN frame reads, kept with what it replaced. -/
def keyPut (s : State) (code i : Nat) (e : BitVec 768) : State :=
  tSet { s with motLog := (s.ticks, tKey code i, tGet s code i) :: s.motLog } code i e

/-- R74: the changes of the last `look` ticks, newest first. -/
def changesSince (s : State) (look : Nat) : List (Nat × Nat × BitVec 768) := s.motLog.takeWhile fun x => decide (s.ticks < x.1 + look)

/-- R74: the tables as they stood `look` ticks ago, as far as a lookup of a CAN frame reads them. -/
def tablesAgo (s : State) (look : Nat) : State :=
  { s with tbl := (changesSince s look).foldl (fun t x => SMap.set zeroEntry t x.2.1 x.2.2) s.tbl }

def shGet (s : State) (code i : Nat) : BitVec 768 := SMap.get zeroEntry s.shadow (tKey code i)
def shSet (s : State) (code i : Nat) (e : BitVec 768) : State :=
  { s with shadow := SMap.set zeroEntry s.shadow (tKey code i) e
           fwd := { s.fwd with noCompare := s.fwd.noCompare.filter (· != tKey code i) } }

/-- The indices of table `code` whose entries are listed, with their entries: every other entry is zero. -/
def tList (s : State) (code : Nat) : List (Nat × BitVec 768) :=
  (s.tbl.filter fun e => e.1 / 2 ^ 20 == code).map fun e => (e.1 % 2 ^ 20, e.2)

/-! ### Time -/

/-- LT in whole nanoseconds since its zero. -/
def ltNs (s : State) : Nat := s.time.lt / 2 ^ 32

/-- R400: loop 4 coasts: flash accesses wait. -/
def flashWaits (s : State) : Bool := getF s 0x1000C 9 8 == 3

/-- R268: the LT nanosecond stamp. -/
def stampNow (s : State) : Nat := ltNs s % 2 ^ 64

/-- R106: the stamp clock, SIG_NOW. -/
def sigNow (s : State) : Nat := (rd s 0x1A0010).toNat

/-! ### Triplicated fields and compartments -/

/-- The key of a triplicated field: 0 compartments, 1 wake enables, 2 claim number, 3 key policy, 4 guard modes. -/
def triKey (field i : Nat) : Nat := field * 2 ^ 24 + i

def triAt (s : State) (field i : Nat) : Tri := SMap.get (fun _ => Tri.init) s.tri (triKey field i)

/-- R389: the bitwise majority of the three copies. -/
def Tri.vote (t : Tri) : Word := (t.c0 &&& t.c1) ||| (t.c0 &&& t.c2) ||| (t.c1 &&& t.c2)

def triVal (s : State) (field i : Nat) : Nat := (triAt s field i).vote.toNat

/-- R390: a write replaces all three copies in one step. -/
def setTri (s : State) (field i v : Nat) : State :=
  let w := BitVec.ofNat 32 v
  { s with tri := SMap.set (fun _ => Tri.init) s.tri (triKey field i) { c0 := w, c1 := w, c2 := w } }

/-- R30: the resource classes of an ownership record, with the model's own numbers (log 10). -/
def resOwner (s : State) (cls i : Nat) : Nat := triVal s 0 (cls * 2 ^ 16 + i)

/-- R30: the number of compartments. An image that is not loaded, or that gives 0, leaves 1; a number above 16 stands as it is. DESIGN
CHOICE, log 42. -/
def compCount (s : State) : Nat := max 1 (triVal s 0 (7 * 2 ^ 16))

def compExists (s : State) (c : Nat) : Bool := decide (c < compCount s)

/-- R30: what names no existing compartment belongs to C0. -/
def owned (s : State) (c : Nat) : Nat := if compExists s c then c else 0

/-- The owner of switch port q (HP and SG are ports of the boundary rule R255). -/
def portOwner (s : State) (q : Nat) : Nat := owned s (resOwner s 0 q)
def chanOwner (s : State) (n : Nat) : Nat := owned s (resOwner s 1 n)
def ringOwner (s : State) (r : Nat) : Nat := owned s (resOwner s 2 r)
def jnlOwner (s : State) (j : Nat) : Nat := owned s (resOwner s 3 j)
/-- R352: mailboxes 8 and 9 belong to C0. -/
def mbxOwner (s : State) (m : Nat) : Nat := if m < 8 then owned s (resOwner s 4 m) else 0
def segOwner (s : State) (g : Nat) : Nat := owned s (resOwner s 6 g)

/-- R31: a rule of compartment `b` may act for one of compartment `a`: its own, C0's, or any for C0. -/
def ruleFor (a b : Nat) : Bool := a == 0 || b == 0 || a == b

/-- R31: a rule of compartment `b` may reach a resource of compartment `d`: C0's rules cross. -/
def ruleReach (b d : Nat) : Bool := b == 0 || b == d
def slotOwner (s : State) (k : Nat) : Nat := owned s (triVal s 3 (4 * k))

/-- The own vehicle number, SIG_MIR_VEH [5:0]. -/
def ownVeh (s : State) : Nat := getF s 0x1A2010 5 0

/-! ### Requesters and their keys (R378, R379) -/

def reqNo : Requester → Nat
  | .host => 0
  | .supervisor => 1
  | .mailbox m => 2 + m.val
  | .loader => 12

def armed (s : State) (q : Requester) : Bool := SMap.get (fun _ => false) s.armed (reqNo q)

def setArmed (s : State) (q : Requester) (b : Bool) : State :=
  { s with armed := SMap.set (fun _ => false) s.armed (reqNo q) b }

/-- A write that is not of 0x6A5C to KEY disarms the key after it has acted. -/
def disarm (s : State) (q : Requester) : State := setArmed s q false

/-- R378, R379: an RWK field accepts the write; no lock binds the loader. -/
def keyOk (s : State) (q : Requester) : Bool := q = .loader || armed s q

/-- R380: a write of an RWK field with the key disarmed. -/
def lockReject (s : State) : State := raise (incC s 0x2C) 4 0

/-! ### Free values -/

/-- The next free value: nothing constrains it. Log 2. -/
def fresh (s : State) : Nat × State := ((Config.freeValue s.free).toNat, { s with free := s.free + 1 })

/-! ### Outputs -/

def send (s : State) (o : Out) : State := { s with out := s.out ++ [o] }

/-! ### Readiness (R392) -/

def ready (s : State) (b : Nat) : Bool := getB s 0x14 b

/-- IMAGE_READY, SIG_IMG_STATUS [0]. -/
def imageReady (s : State) : Bool := getB s 0x1A0000 0

/-! ### Housekeeping counts (R120) -/

def houseAt (s : State) (i : Nat) : Nat := SMap.get (fun _ => 0) s.house i
def houseSet (s : State) (i v : Nat) : State := { s with house := SMap.set (fun _ => 0) s.house i v }
/-- `n` events of a counter, which wraps at 2^64. -/
def houseAdd (s : State) (i n : Nat) : State := houseSet s i ((houseAt s i + n) % 2 ^ 64)

/-! ### Journals (R333 to R339) -/

/-- R333, R425: the capacity in force. -/
def jnlCap (s : State) (x : Jnl) : Nat := if ready s 7 then 2 ^ (5 + x.depth.getD 0) else 32

def markerLast (x : Jnl) : Bool :=
  match x.items.getLast? with
  | some i => i.ty == 0xFF
  | none => false

/-- An item appended: it takes the next SEQ and the flags that stand. -/
def jnlAppend (x : Jnl) (ty stamp src : Nat) (pay : List Byte) : Jnl :=
  { x with
    items := x.items ++ [{ ty := ty, flags := bnat x.stepFl + 2 * bnat x.flushFl, seq := x.nextSeq, stamp := stamp
                           src := src, pay := padTo 16 pay }]
    nextSeq := (x.nextSeq + 1) % 2 ^ 16, stepFl := false, flushFl := false }

/-- R335: one more drop in the trail marker that is newest. -/
def bumpMarker (it : JItem) (stamp : Nat) : JItem :=
  { it with pay := leBytes 4 (min (leAt it.pay 0 4 + 1) (2 ^ 32 - 1)) ++ leBytes 8 stamp ++ it.pay.drop 12 }

/-- R334, R335: an item sent to journal `j`: appended, dropped into the trail marker, or discarded while EN = 0. -/
def jnlPut (s : State) (j ty stamp src : Nat) (pay : List Byte) : State :=
  let x := jnlAt s j
  if !getB s (jnlR j 0) 0 then incC s (jnlR j 0x30)
  else if x.items.length + 1 < jnlCap s x then setJnl s j (jnlAppend x ty stamp src pay)
  else if markerLast x then
    let its := x.items.dropLast ++ (x.items.getLast?.map (bumpMarker · stamp)).toList
    incC (setJnl s j { x with items := its }) (jnlR j 0x30)
  else
    let x' := jnlAppend x 0xFF stamp 0 (leBytes 4 1 ++ leBytes 8 stamp ++ [BitVec.ofNat 8 ty])
    houseAdd (raise (incC (incC (setJnl s j x') (jnlR j 0x30)) 0x4100C) 0x41000 1) 34 1

/-- An item of an event at this instant. -/
def itemTo (s : State) (j ty src : Nat) (pay : List Byte) : State := jnlPut s j ty (stampNow s) src pay

/-- An item to the journal that EVT_JNL (at bit `lo` of register `o`) names, while EVT_JNL_EN (the bit above it) is 1. -/
def evtItem (s : State) (o lo ty src : Nat) (pay : List Byte) : State :=
  if getB s o (lo + 6) then itemTo s (getF s o (lo + 5) lo) ty src pay else s

/-- R338: every item, any trail marker and the latches are discarded; FLUSHES counts. -/
def jnlFlush (s : State) (j : Nat) : State :=
  incC (setJnl s j { jnlAt s j with items := [], latchH := [], latchS := [], flushFl := true }) (jnlR j 0x38)

/-! ### Fault summary (R393) -/

/-- R393, R427: FAULT_N is driven low: an enabled bit of DEV_FAULT, or rescue. -/
def faultLow (s : State) : Bool := s.boot.rescue || (rd s 0x34 &&& rd s 0x38) != 0

/-- A cause of DEV_FAULT bit `b`. -/
def devFault (s : State) (b : Nat) : State := raise s 0x34 b

/-! ### Field writes (R6, R380, R382, R384) -/

/-- The access masks of one register word. -/
structure Masks where
  rw  : Nat
  rwd : Nat
  rwk : Nat
  w1c : Nat
  kwo : Nat
  deriving DecidableEq, Repr

def takeBits (old new : Word) (m : Nat) : Word := (old &&& ~~~ BitVec.ofNat 32 m) ||| (new &&& BitVec.ofNat 32 m)

/-- R6, R380, R382: the word that a write leaves: RW taken; RWD taken while the block is disabled (`dis`); RWK taken
with the key; the bits of W1C written as 1 cleared. -/
def mergeWord (old new : Word) (m : Masks) (dis key : Bool) : Word :=
  let a := takeBits old new m.rw
  let b := if dis then takeBits a new m.rwd else a
  let c := if key then takeBits b new m.rwk else b
  c &&& ~~~ (new &&& BitVec.ofNat 32 m.w1c)

/-- Whether a write would change bits under a mask. -/
def changes (old new : Word) (m : Nat) : Bool := (old ^^^ new) &&& BitVec.ofNat 32 m != 0

/-- R6: a write of a word by its masks. `rej` is the CFG_REJECT bit of its block (register, bit); `bad` are the bits of
fields whose written value the card refuses: they keep their value and set CFG_REJECT. The lock is judged first (R380): what it keeps out is not judged
by its value. -/
def writeMasked (s : State) (q : Requester) (o : Nat) (data : Word) (m : Masks) (dis : Bool) (rej : Option (Nat × Nat))
    (bad : Nat) : State :=
  let old := rd s o
  let key := keyOk s q
  let bad := if key then bad else bad &&& (2 ^ 32 - 1 - m.rwk)
  let locked := (changes old data m.rwk || (data &&& BitVec.ofNat 32 m.kwo) != 0) && !key
  let data' := takeBits data old bad
  let dis' := dis || q = .loader
  let s1 := wr s o (mergeWord old data' m dis' key)
  let s2 := if (changes old data' m.rwd && !dis') || bad != 0 then
      match rej with
      | some (r, b) => raise s1 r b
      | none => s1
    else s1
  if locked then lockReject s2 else s2

end Sys2Proof.Machine
end

