-- ==== Sys2Proof/Machine/RegMap.lean ====
section
/-!
DEFINITION. Sys2Proof/Machine/RegMap.lean: the BAR0 map (R374): one row for each register of the field cards, with its
offset, its strides (R212, R233 and the like) and the masks of its RW, RWD, RWK, W1C and write-only locked bits. A bit
under no mask is RO, RS, WO or reserved, and a write leaves it alone (R6, R7).
-/
namespace Sys2Proof.Machine

/-- A row: `c1` copies `s1` apart, each of `c2` words `s2` apart. -/
structure RegRow where
  base : Nat
  s1 : Nat
  c1 : Nat
  s2 : Nat
  c2 : Nat
  m : Masks
  deriving DecidableEq, Repr

/-- One register. -/
def reg1 (b rw rwd rwk w1c kwo : Nat) : RegRow := ⟨b, 0, 1, 0, 1, ⟨rw, rwd, rwk, w1c, kwo⟩⟩

/-- `c1` registers `s1` apart. -/
def regN (b s1 c1 rw rwd rwk w1c kwo : Nat) : RegRow := ⟨b, s1, c1, 0, 1, ⟨rw, rwd, rwk, w1c, kwo⟩⟩

/-- `c1` blocks `s1` apart of `c2` words `s2` apart. -/
def regNN (b s1 c1 s2 c2 rw rwd rwk w1c kwo : Nat) : RegRow := ⟨b, s1, c1, s2, c2, ⟨rw, rwd, rwk, w1c, kwo⟩⟩

def rowsDev0 : List RegRow := [
  reg1 0 0 0 0 0 0, -- DEV_ID
  reg1 0x4 0 0 0 0xF 0, -- DEV_STATUS
  reg1 0x8 0xF 0 0 0 0, -- DEV_IRQ_EN
  reg1 0xC 0 0 0 0 0, -- DEV_UNLOCK
  reg1 0x10 0 0 0 0 0x1, -- DEV_RESET
  reg1 0x14 0 0 0 0 0, -- DEV_READY0
  reg1 0x18 0 0 0 0 0, -- DEV_READY1
  reg1 0x1C 0 0 0 0 0, -- DEV_COMP_COUNT
  reg1 0x20 0 0 0 0 0x1, -- DEV_COMMIT
  reg1 0x24 0 0 0 0 0, -- DEV_CFG_CRC
  reg1 0x28 0x7F 0 0 0 0, -- DEV_CTRL
  reg1 0x2C 0 0 0 0 0, -- DEV_LOCK_REJECT
  reg1 0x30 0 0 0 0 0, -- DEV_VOTE_FIX
  reg1 0x34 0 0 0 0xFF 0, -- DEV_FAULT
  reg1 0x38 0 0 0xFF 0 0] -- DEV_FAULT_EN

def rowsDev : List RegRow := rowsDev0

def rowsClk0 : List RegRow := [
  reg1 0x10000 0 0 0 0x7F 0, -- CLK_STATUS
  reg1 0x10004 0x7F 0 0 0 0, -- CLK_IRQ_EN
  reg1 0x10008 0x7F 0 0x100 0 0x200, -- CLK_CTRL
  reg1 0x1000C 0 0 0 0 0, -- CLK_SRC
  reg1 0x10010 0 0 0 0 0, -- CLK_OSC_MEAS
  reg1 0x10014 0 0 0 0 0, -- CLK_GATE
  reg1 0x10018 0 0 0 0xFF00 0, -- CLK_RAIL
  reg1 0x1001C 0 0 0 0 0, -- CLK_CFG_CRC
  reg1 0x10020 0xFFFFFFFF 0 0 0 0, -- CLK_CFG_REF
  reg1 0x10100 0 0 0x3FFFFF 0 0, -- PACE_CFG
  reg1 0x10104 0 0 0x7F7F 0 0, -- PACE_VLIM
  reg1 0x10108 0 0 0 0 0, -- PACE_STATE
  reg1 0x1010C 0 0 0 0 0, -- PACE_MAX
  reg1 0x10040 0 0 0 0 0, -- CLK_XTAL_FAIL_CNT
  reg1 0x10044 0 0 0 0 0, -- CLK_OSC_FAIL_CNT
  reg1 0x10048 0 0 0 0 0] -- CLK_SWITCH_CNT

def rowsClk1 : List RegRow := [
  reg1 0x1004C 0 0 0 0 0, -- CLK_COAST_CNT
  reg1 0x10050 0 0 0 0 0, -- CLK_RAIL_CNT
  reg1 0x10110 0 0 0 0 0] -- PACE_LIMIT_CNT

def rowsClk : List RegRow := rowsClk0 ++ rowsClk1

def rowsIrq0 : List RegRow := [
  reg1 0x20000 0 0 0 0 0, -- IRQ_SRC_CFG0
  regN 0x20004 0x4 511 0xFFF 0 0 0 0, -- IRQ_SRC_CFGs
  regN 0x20800 0x4 16 0xFFFFFFFF 0 0 0 0, -- IRQ_PENDk
  regN 0x20840 0x4 16 0xFFFFFFFF 0 0 0 0, -- IRQ_MASKk
  regN 0x20880 0x4 16 0 0 0 0 0, -- IRQ_INSVCk
  regN 0x20900 0x8 9 0 0 0 0 0, -- IRQ_CLAIMt
  regN 0x20904 0x8 9 0 0 0 0 0, -- IRQ_COMPLETEt
  reg1 0x20A00 0 0 0 0x1 0, -- IRQ_STATUS
  reg1 0x20A04 0 0 0 0 0, -- IRQ_BAD_COMPLETE
  reg1 0x20A08 0 0 0 0 0, -- IRQ_CFG_CRC
  reg1 0x20A0C 0xFFFFFFFF 0 0 0 0, -- IRQ_CFG_REF
  regN 0x2F000 0x4 32 0xFFFFFFFF 0 0 0 0, -- MSIX_TABLE
  regN 0x2F800 0x4 2 0 0 0 0 0] -- MSIX_PBA

def rowsIrq : List RegRow := rowsIrq0

def rowsMbx0 : List RegRow := [
  regN 0x30000 0x1000 10 0 0 0 0 0, -- MBXmm_CTRL
  regN 0x30004 0x1000 10 0 0 0 0x1F 0, -- MBXmm_STATUS
  regN 0x30008 0x1000 10 0xF 0 0 0 0, -- MBXmm_IRQ_EN
  regN 0x3000C 0x1000 10 0xFFFF0000 0 0 0 0, -- MBXmm_CFG
  regN 0x30010 0x1000 10 0 0 0 0 0, -- MBXmm_DONE
  regN 0x30014 0x1000 10 0 0 0 0 0, -- MBXmm_REFUSED
  regN 0x30018 0x1000 10 0 0 0 0 0, -- MBXmm_TIMEOUT
  regN 0x3001C 0x1000 10 0 0 0 0 0, -- MBXmm_FULL
  regNN 0x30020 0x1000 10 0x4 496 0xFFFFFFFF 0 0 0 0, -- MBXmm_REQ
  regNN 0x307E0 0x1000 10 0x4 520 0 0 0 0 0, -- MBXmm_RESP
  reg1 0x3A000 0x7F 0 0 0 0, -- MBX_CTRL
  reg1 0x3A004 0 0 0 0 0, -- MBX_GSTATUS
  reg1 0x3A008 0 0 0 0 0, -- MBX_CFG_CRC
  reg1 0x3A00C 0xFFFFFFFF 0 0 0 0] -- MBX_CFG_REF

def rowsMbx : List RegRow := rowsMbx0

def rowsJnl0 : List RegRow := [
  regN 0x40000 0x40 64 0xFFFF001 0x1E 0 0 0, -- JNLnn_CFG
  regN 0x40004 0x40 64 0 0 0 0 0, -- JNLnn_COUNT
  regN 0x40008 0x40 64 0 0 0 0 0, -- JNLnn_POP
  regN 0x40028 0x40 64 0 0 0 0 0, -- JNLnn_HEAD
  regN 0x4002C 0x40 64 0 0 0 0 0, -- JNLnn_CTRL
  regN 0x40030 0x40 64 0 0 0 0 0, -- JNLnn_DROPPED
  regN 0x40034 0x40 64 0 0 0 0 0, -- JNLnn_LOST_READ
  regN 0x40038 0x40 64 0 0 0 0 0, -- JNLnn_FLUSHES
  regNN 0x4000C 0x40 64 0x4 7 0 0 0 0 0, -- JNLnn_ITEMk
  reg1 0x41000 0 0 0 0x7 0, -- JNL_STATUS
  reg1 0x41004 0x7 0 0 0 0, -- JNL_IRQ_EN
  reg1 0x41008 0 0 0 0 0, -- JNL_CTRL
  reg1 0x4100C 0 0 0 0 0, -- JNL_TRAIL_CNT
  reg1 0x41010 0 0 0 0 0, -- JNL_CFG_CRC
  reg1 0x41014 0xFFFFFFFF 0 0 0 0] -- JNL_CFG_REF

def rowsJnl : List RegRow := rowsJnl0

def rowsRing0 : List RegRow := [
  regN 0x50000 0x20 32 0x1 0x301E 0 0 0, -- RING_CFG
  regN 0x50004 0x20 32 0 0xFFFFFFFF 0 0 0, -- RING_BASE
  regN 0x50008 0x20 32 0 0 0 0 0, -- RING_POS
  regN 0x5000C 0x20 32 0 0 0 0 0, -- RING_KICK
  regN 0x50010 0x20 32 0 0 0 0xF 0, -- RING_EVENT
  regN 0x50014 0x20 32 0x7 0 0 0 0, -- RING_IRQ_EN
  regN 0x50018 0x20 32 0 0 0 0 0, -- RING_DONE
  regN 0x5001C 0x20 32 0 0 0 0 0, -- RING_DROP
  reg1 0x51000 0 0 0 0x1 0, -- RING_STATUS
  reg1 0x51004 0x1 0 0 0 0, -- RING_IRQ_EN
  reg1 0x51008 0xFFF 0 0 0 0, -- RING_CTRL
  reg1 0x5100C 0xFFFFFFFF 0 0 0 0, -- RING_HP_MAP
  reg1 0x51010 0 0 0 0 0, -- RING_WR_ERR_ADDR
  reg1 0x51014 0 0 0 0 0, -- RING_WR_ERR_CNT
  reg1 0x51018 0 0 0 0 0, -- RING_CFG_CRC
  reg1 0x5101C 0xFFFFFFFF 0 0 0 0] -- RING_CFG_REF

def rowsRing : List RegRow := rowsRing0

def rowsTime0 : List RegRow := [
  reg1 0x60000 0 0 0 0xFF 0, -- TIME_STATUS
  reg1 0x60004 0xFF 0 0 0 0, -- TIME_IRQ_EN
  reg1 0x60008 0x1EFFA 0 0x4 0 0, -- TIME_CTRL
  reg1 0x6000C 0 0 0x4 0 0, -- TIME_MODE
  reg1 0x60010 0xFF 0 0 0 0, -- TIME_INC_NS
  reg1 0x60014 0xFFFFFFFF 0 0 0 0, -- TIME_INC_FRAC
  reg1 0x60020 0 0 0 0 0, -- TIME_LT_NS
  reg1 0x6002C 0 0 0 0 0, -- TIME_LT_SEC_HI
  reg1 0x60030 0xFFFFFFFF 0 0 0 0, -- TIME_STEP_SEC
  reg1 0x60034 0xFFFFFFFF 0 0 0 0, -- TIME_STEP_NS
  reg1 0x60038 0 0 0 0 0, -- TIME_CMD
  reg1 0x6003C 0x3FFFFFFF 0 0 0 0, -- TIME_CFG
  reg1 0x60018 0 0 0 0 0, -- TIME_INC_AVG_NS
  reg1 0x6001C 0 0 0 0 0, -- TIME_INC_AVG_FRAC
  reg1 0x60024 0 0 0 0 0, -- TIME_LT_FRAC
  reg1 0x60028 0 0 0 0 0] -- TIME_LT_SEC_LO

def rowsTime1 : List RegRow := [
  reg1 0x60040 0 0 0 0 0, -- TIME_CFG_CRC
  reg1 0x60044 0xFFFFFFFF 0 0 0 0, -- TIME_CFG_REF
  regN 0x60050 0x20 2 0xFFFF3FFF 0 0 0 0, -- TIME_TDn_CFG
  regN 0x60054 0x20 2 0xFFFFFFFF 0 0 0 0, -- TIME_TDn_OFF_SEC
  regN 0x60058 0x20 2 0xFFFFFFFF 0 0 0 0, -- TIME_TDn_OFF_NS
  regN 0x6005C 0x20 2 0xFFFFFFFF 0 0 0 0, -- TIME_TDn_RATE
  regN 0x60060 0x20 2 0x1 0 0 0 0, -- TIME_TDn_STAT
  reg1 0x60100 0 0 0 0 0, -- TIME_TC_CORR_LO
  reg1 0x60104 0 0 0 0 0, -- TIME_TC_CORR_HI
  reg1 0x60108 0 0 0 0 0, -- TIME_TC_SAT
  reg1 0x6010C 0 0 0 0 0, -- TIME_TC_SKIP
  reg1 0x60110 0 0 0 0 0, -- TIME_STEPS
  reg1 0x60114 0 0 0 0 0, -- TIME_INC_CLAMP
  regN 0x61000 0x10 24 0xFFFFFF 0 0 0 0, -- TIME_Pqq_RXLAT
  regN 0x61004 0x10 24 0xFFFFFF 0 0 0 0, -- TIME_Pqq_TXLAT
  regN 0x61008 0x10 24 0xFFFFFF 0 0 0 0] -- TIME_Pqq_PDELAY

def rowsTime2 : List RegRow := [
  regN 0x6100C 0x10 24 0x1 0 0 0 0, -- TIME_Pqq_CFG
  regN 0x62000 0x40 16 0x7 0xFFFF8 0 0 0, -- TEnn_CFG
  regN 0x6200C 0x40 16 0 0x3FFFFFFF 0 0 0, -- TEnn_START_NS
  regN 0x62010 0x40 16 0 0xFFFFFFFF 0 0 0, -- TEnn_PERIOD
  regN 0x62014 0x40 16 0 0xFFFFFFFF 0 0 0, -- TEnn_WIDTH
  regN 0x62018 0x40 16 0 0 0 0x3F 0, -- TEnn_STATUS
  regN 0x6201C 0x40 16 0 0 0 0 0, -- TEnn_CAP_NS
  regN 0x62028 0x40 16 0 0 0 0 0, -- TEnn_CYCLES
  regN 0x6202C 0x40 16 0 0 0 0 0, -- TEnn_OUTSIDE
  regN 0x62030 0x40 16 0 0 0 0 0, -- TEnn_OVF
  regN 0x62034 0x40 16 0x1F 0 0 0 0, -- TEnn_IRQ_EN
  regN 0x62004 0x40 16 0 0xFFFFFFFF 0 0 0, -- TEnn_START_SEC_LO
  regN 0x62008 0x40 16 0 0xFFFF 0 0 0, -- TEnn_START_SEC_HI
  regN 0x62020 0x40 16 0 0 0 0 0, -- TEnn_CAP_SEC_LO
  regN 0x62024 0x40 16 0 0 0 0 0] -- TEnn_CAP_SEC_HI

def rowsTime : List RegRow := rowsTime0 ++ rowsTime1 ++ rowsTime2

def rowsLan0 : List RegRow := [
  reg1 0x70000 0 0 0 0x3F 0, -- LAN_STATUS
  reg1 0x70004 0x3F 0 0 0 0, -- LAN_IRQ_EN
  reg1 0x70008 0x7F 0 0xFFFF0700 0 0, -- LAN_CTRL
  reg1 0x7000C 0x4 0 0 0 0, -- LAN_PWR
  reg1 0x70030 0 0 0 0 0, -- LAN_CMD
  reg1 0x70040 0 0 0 0 0, -- LAN_NOW
  reg1 0x70060 0 0 0 0 0, -- LAN_WAKE_CNT
  reg1 0x70064 0 0 0 0 0, -- LAN_ABORT_CNT
  reg1 0x70068 0 0 0 0 0, -- LAN_FORCED_CNT
  reg1 0x7006C 0 0 0 0 0, -- LAN_RC_BAD
  regN 0x70010 0x4 3 0 0 0 0 0, -- LAN_WAKE_ENk
  regN 0x7001C 0x4 3 0 0 0 0 0, -- LAN_SEGSTATEk
  regN 0x70028 0x4 2 0 0 0 0 0, -- LAN_SLEEPREQ
  regN 0x70034 0x4 2 0 0 0 0xFFFFFFFF 0, -- LAN_WAKE_PEND0
  reg1 0x7003C 0 0 0 0x3FF 0, -- LAN_WAKE_PEND2
  reg1 0x70044 0 0 0 0 0] -- LAN_CFG_CRC

def rowsLan1 : List RegRow := [
  reg1 0x70048 0xFFFFFFFF 0 0 0 0, -- LAN_CFG_REF
  regN 0x70100 0x4 24 0 0 0x3FF 0 0, -- LAN_WCFGj
  regN 0x70200 0x8 24 0 0 0xFFFFFFFF 0 0, -- LAN_WSEGj_LO
  regN 0x70204 0x8 24 0 0 0xFFFF 0 0, -- LAN_WSEGj_HI
  regN 0x70400 0x10 48 0x4 0xFFFFFF73 0 0 0, -- LAN_SEGss_CFG0
  regN 0x70404 0x10 48 0 0x1FFFFFFF 0 0 0, -- LAN_SEGss_CFG1
  regN 0x70408 0x10 48 0 0xFFFFFFFF 0 0 0, -- LAN_SEGss_CFG2
  regN 0x7040C 0x10 48 0 0xFFFF0FFF 0 0 0] -- LAN_SEGss_CFG3

def rowsLan : List RegRow := rowsLan0 ++ rowsLan1

def rowsBud0 : List RegRow := [
  reg1 0x80000 0 0 0 0x3F 0, -- BUD_STATUS
  reg1 0x80004 0x3F 0 0 0 0, -- BUD_IRQ_EN
  reg1 0x80008 0x7F02 0xFFFF00FC 0 0 0, -- BUD_CTRL
  reg1 0x8000C 0 0 0 0 0, -- BUD_CLAIM
  reg1 0x80010 0 0 0 0 0, -- BUD_MODE
  reg1 0x80014 0 0 0 0 0, -- BUD_LAG
  reg1 0x80018 0 0 0 0 0, -- BUD_SEQ
  reg1 0x8001C 0 0xFFFF 0 0 0, -- BUD_TIMING
  reg1 0x80040 0 0 0 0 0, -- BUD_HANDOVER
  reg1 0x80044 0 0 0 0 0, -- BUD_DIVERGE
  reg1 0x80048 0 0 0 0 0, -- BUD_LANE_ERR
  reg1 0x8004C 0 0 0 0 0, -- BUD_CLAIM_BAD
  reg1 0x80050 0 0 0 0 0, -- BUD_CAN_ADJ
  reg1 0x80054 0 0 0 0 0, -- BUD_LOCAL_REJECT
  reg1 0x80058 0 0 0 0 0, -- BUD_BIT_DIFF
  reg1 0x80020 0 0 0 0 0] -- BUD_CFG_CRC

def rowsBud1 : List RegRow := [
  reg1 0x80024 0xFFFFFFFF 0 0 0 0] -- BUD_CFG_REF

def rowsBud : List RegRow := rowsBud0 ++ rowsBud1

def rowsSec0 : List RegRow := [
  reg1 0x90000 0 0 0 0x7F 0, -- SEC_STATUS
  reg1 0x90004 0x7F 0 0 0 0, -- SEC_IRQ_EN
  reg1 0x90008 0xFE 0 0x1 0 0, -- SEC_CTRL
  reg1 0x9000C 0 0 0 0 0, -- SEC_GUARD
  reg1 0x90010 0 0 0 0 0, -- KEY_STATE
  reg1 0x90014 0 0 0x3FF 0 0, -- SEC_TAMPER_CFG
  reg1 0x90018 0 0 0 0 0, -- SEC_SENSOR
  reg1 0x9001C 0 0 0 0 0, -- SEC_CFG_CRC
  reg1 0x90020 0xFFFFFFFF 0 0 0 0, -- SEC_CFG_REF
  reg1 0x90040 0 0 0 0 0, -- SEC_JOB_OK
  reg1 0x90044 0 0 0 0 0, -- SEC_JOB_FAIL
  reg1 0x90048 0 0 0 0 0, -- SEC_SEAL_TX
  reg1 0x9004C 0 0 0 0 0, -- SEC_SEAL_RX_OK
  reg1 0x90050 0 0 0 0 0, -- SEC_SEAL_RX_FAIL
  reg1 0x90054 0 0 0 0 0, -- SEC_ALARM
  reg1 0x90058 0 0 0 0 0] -- SEC_FAULT

def rowsSec1 : List RegRow := [
  reg1 0x9005C 0 0 0 0 0, -- SEC_TAMPER
  regNN 0x91000 0x400 16 0x4 8 0xFFFFFFFF 0 0 0 0, -- JOB_DESCk
  regN 0x91020 0x400 16 0 0 0 0 0, -- JOB_PUSH
  regN 0x91024 0x400 16 0 0 0 0 0, -- JOB_DONE
  regN 0x91028 0x400 16 0 0 0 0x400 0, -- JOB_STAT
  regN 0x9102C 0x400 16 0x1 0 0 0 0, -- JOB_IRQ_EN
  regN 0x98000 0x100 8 0 0xFFFF00FF 0 0 0, -- SEC_MSnn_CFG
  regN 0x98004 0x100 8 0x3 0 0 0 0, -- SEC_MSnn_TX
  regN 0x98008 0x100 8 0xFFFFFFFF 0 0 0 0, -- SEC_MSnn_PN_WARN
  regN 0x98010 0x100 8 0 0 0 0 0, -- SEC_MSnn_IN_OK_LO
  regN 0x98014 0x100 8 0 0 0 0 0, -- SEC_MSnn_IN_OK_HI
  regN 0x98018 0x100 8 0 0 0 0 0, -- SEC_MSnn_IN_NOT_VALID
  regN 0x9801C 0x100 8 0 0 0 0 0, -- SEC_MSnn_IN_LATE
  regN 0x98020 0x100 8 0 0 0 0 0, -- SEC_MSnn_IN_NO_SA
  regN 0x98024 0x100 8 0 0 0 0 0, -- SEC_MSnn_IN_UNTAGGED
  regN 0x98028 0x100 8 0 0 0 0 0] -- SEC_MSnn_OUT_PROT_LO

def rowsSec2 : List RegRow := [
  regN 0x9802C 0x100 8 0 0 0 0 0, -- SEC_MSnn_OUT_PROT_HI
  regN 0x98030 0x100 8 0 0 0 0 0, -- SEC_MSnn_OUT_NO_SA
  regN 0x98034 0x100 8 0 0 0 0 0, -- SEC_MSnn_OUT_PN_EXH
  regN 0x98038 0x100 8 0 0 0 0 0] -- SEC_MSnn_OUT_DROP

def rowsSec : List RegRow := rowsSec0 ++ rowsSec1 ++ rowsSec2

def rowsMot0 : List RegRow := [
  regN 0xA8000 0x20 48 0 0 0 0 0, -- CANnn_ACC_OK
  regN 0xA8004 0x20 48 0 0 0 0 0, -- CANnn_ACC_NORX
  regN 0xA8008 0x20 48 0 0 0 0 0, -- CANnn_ACC_FMT
  regN 0xA800C 0x20 48 0 0 0 0 0, -- CANnn_ACC_LEN
  regN 0xA8010 0x20 48 0 0 0 0 0, -- CANnn_OBJ_LOST
  regN 0xA8014 0x20 48 0 0 0 0 0, -- CANnn_TX_ABANDON
  regN 0xA8018 0x20 48 0 0 0 0 0, -- CANnn_LOCK
  regN 0xA801C 0x20 48 0 0 0 0 0, -- CANnn_LOCK_TO
  reg1 0xA8600 0 0 0 0x1F 0, -- TBL_MOT_STATUS
  reg1 0xA8604 0x1F 0 0 0 0, -- TBL_MOT_IRQ_EN
  reg1 0xA8608 0x7F00 0 0 0 0, -- TBL_MOT_CTRL
  reg1 0xA860C 0 0 0 0 0, -- TBL_MOT_FORERUNNER
  reg1 0xA8610 0 0 0 0 0, -- TBL_XIM_COUNT
  reg1 0xA8614 0 0 0 0 0, -- TBL_XIM_RELOC
  reg1 0xA8618 0 0 0 0 0] -- TBL_XIM_FAIL

def rowsMot : List RegRow := rowsMot0

def rowsPage0 : List RegRow := [
  regN 0xB0000 0x1000 16 0 0 0 0 0, -- TBL_CMD
  regN 0xB0004 0x1000 16 0xFFFFF 0 0 0 0, -- TBL_INDEX
  regN 0xB0008 0x1000 16 0 0 0 0x2 0, -- TBL_STAT
  regN 0xB000C 0x1000 16 0 0 0 0 0, -- TBL_RESULT
  regNN 0xB0100 0x1000 16 0x4 64 0xFFFFFFFF 0 0 0 0] -- TBL_DATAk

def rowsPage : List RegRow := rowsPage0

def rowsCan0 : List RegRow := [
  regN 0x100000 0x1000 48 0x7 0 0 0 0, -- CANnn_MODE
  regN 0x100004 0x1000 48 0 0 0 0x3FF 0, -- CANnn_STATUS
  regN 0x100008 0x1000 48 0 0 0 0 0, -- CANnn_CTRL
  regN 0x100010 0x1000 48 0 0x3FFFFFFF 0 0 0, -- CANnn_NBT
  regN 0x100014 0x1000 48 0 0x3FFFF 0 0 0, -- CANnn_DBT
  regN 0x100020 0x1000 48 0 0 0 0 0, -- CANnn_TDC_MEAS
  regN 0x100028 0x1000 48 0 0 0 0 0, -- CANnn_ERR
  regN 0x10002C 0x1000 48 0 0 0 0 0, -- CANnn_LEC
  regN 0x100030 0x1000 48 0x3 0xFF04 0 0 0, -- CANnn_STB
  regN 0x100034 0x1000 48 0x3FF 0 0 0 0, -- CANnn_IRQ_EN
  regN 0x100038 0x1000 48 0 0 0 0 0, -- CANnn_CFG_CRC
  regN 0x10003C 0x1000 48 0xFFFFFFFF 0 0 0 0, -- CANnn_CFG_REF
  regN 0x10000C 0x1000 16 0 0xF1F 0 0 0, -- CANnn_PROTO
  regN 0x11000C 0x1000 32 0 0xF05 0 0 0, -- CANnn_PROTO
  regN 0x100018 0x1000 16 0 0x3FFFF 0 0 0, -- CANnn_XBT
  regN 0x110018 0x1000 32 0 0 0 0 0] -- CANnn_XBT

def rowsCan1 : List RegRow := [
  regN 0x10001C 0x1000 16 0 0x3FFFFF 0 0 0, -- CANnn_TDC
  regN 0x11001C 0x1000 32 0 0x7FFF 0 0 0, -- CANnn_TDC
  regN 0x100024 0x1000 16 0 0x3F3F3F 0 0 0, -- CANnn_PWM
  regN 0x110024 0x1000 32 0 0 0 0 0, -- CANnn_PWM
  regN 0x100040 0x1000 48 0 0 0 0 0, -- CANnn_RX_OK_LO
  regN 0x100044 0x1000 48 0 0 0 0 0, -- CANnn_RX_OK_HI
  regN 0x100048 0x1000 48 0 0 0 0 0, -- CANnn_TX_OK_LO
  regN 0x10004C 0x1000 48 0 0 0 0 0, -- CANnn_TX_OK_HI
  regN 0x100050 0x1000 48 0 0 0 0 0, -- CANnn_ERR_STUFF
  regN 0x100054 0x1000 48 0 0 0 0 0, -- CANnn_ERR_FORM
  regN 0x100058 0x1000 48 0 0 0 0 0, -- CANnn_ERR_ACK
  regN 0x10005C 0x1000 48 0 0 0 0 0, -- CANnn_ERR_BIT
  regN 0x100060 0x1000 48 0 0 0 0 0, -- CANnn_ERR_CRC
  regN 0x100064 0x1000 48 0 0 0 0 0, -- CANnn_ARB_LOST
  regN 0x100068 0x1000 48 0 0 0 0 0, -- CANnn_OVERLOAD
  regN 0x10006C 0x1000 48 0 0 0 0 0] -- CANnn_BUS_OFF_CNT

def rowsCan2 : List RegRow := [
  regN 0x100070 0x1000 48 0 0 0 0 0, -- CANnn_PROTO_EXC
  regN 0x100074 0x1000 48 0 0 0 0 0, -- CANnn_TDC_ERR
  regN 0x100078 0x1000 48 0 0 0 0 0] -- CANnn_RX_RTR

def rowsCan : List RegRow := rowsCan0 ++ rowsCan1 ++ rowsCan2

def rowsEth0 : List RegRow := [
  regN 0x140000 0x1000 25 0x201 0xFF7DFE 0 0 0, -- ETH_CTRL
  regN 0x140004 0x1000 25 0 0 0 0xFF 0, -- ETH_STATUS
  regN 0x140008 0x1000 25 0xFF 0 0 0 0, -- ETH_IRQ_EN
  regN 0x14000C 0x1000 25 0 0 0 0 0, -- ETH_LINK
  regN 0x140010 0x1000 25 0 0x7FFF 0 0 0, -- ETH_CFG
  regN 0x140030 0x1000 25 0 0 0 0 0, -- ETH_CMD
  regN 0x140014 0x1000 24 0x1 0 0 0 0, -- ETH_EQ_CTRL
  regN 0x140018 0x1000 25 0 0 0 0 0, -- ETH_EQ_STATE
  regN 0x14001C 0x1000 25 0 0 0 0 0, -- ETH_EQ_DFE
  regN 0x140020 0x1000 25 0 0 0 0 0, -- ETH_EQ_TXFIR
  regN 0x140024 0x2000 4 0 0x7FF 0 0 0, -- ETH_PRP
  regN 0x141024 0x2000 4 0 0 0 0 0, -- ETH_PRP
  regN 0x148024 0x1000 17 0 0 0 0 0, -- ETH_PRP
  regN 0x140028 0x1000 25 0 0 0 0 0, -- ETH_CFG_CRC
  regN 0x14002C 0x1000 25 0xFFFFFFFF 0 0 0 0, -- ETH_CFG_REF
  regNN 0x140040 0x1000 24 0xC 8 0 0x3FFFFFF 0 0 0] -- ETH_CBSk_SLOPE

def rowsEth1 : List RegRow := [
  regNN 0x140044 0x1000 24 0xC 8 0 0xFFFFFFFF 0 0 0, -- ETH_CBSk_HI
  regNN 0x140048 0x1000 24 0xC 8 0 0xFFFFFFFF 0 0 0, -- ETH_CBSk_LO
  regN 0x158040 0x4 24 0 0 0 0 0, -- SP has no shapers
  reg1 0x158014 0 0 0 0 0, -- SP has no equaliser
  regNN 0x1400A0 0x1000 25 0x4 8 0 0 0 0 0, -- ETH_CBSk_CREDIT
  regNN 0x140100 0x1000 25 0x4 28 0 0 0 0 0] -- ETH_CNT

def rowsEth : List RegRow := rowsEth0 ++ rowsEth1

def rowsSw0 : List RegRow := [
  reg1 0x180000 0xFE 0 0x1 0 0, -- SW_CTRL
  reg1 0x180004 0 0 0 0x7F 0, -- SW_STATUS
  reg1 0x180008 0x7F 0 0 0 0, -- SW_IRQ_EN
  reg1 0x18000C 0 0xFFFFFF 0 0 0, -- SW_PLANE
  reg1 0x180010 0 0xFFFFFFFF 0 0 0, -- SW_HP_PLANE
  reg1 0x180014 0 0x7FFF3 0 0 0, -- SW_SG_CFG
  reg1 0x180020 0x3FFFF 0 0 0 0, -- SW_LOW_THRESH
  regN 0x180018 0x4 2 0x3FFFF 0 0 0 0, -- SW_PLANE_LIMIT
  reg1 0x180024 0 0 0 0 0, -- SW_CELLS_USE
  reg1 0x180028 0 0 0 0 0, -- SW_CELLS_PEAK
  reg1 0x18002C 0 0 0 0 0, -- SW_PLANE_A_USE
  reg1 0x180030 0 0 0 0 0, -- SW_PLANE_B_USE
  reg1 0x180034 0 0 0 0 0, -- SW_CFG_CRC
  reg1 0x180040 0 0 0 0 0, -- SW_HAMPER_FULL_DROP
  reg1 0x180044 0 0 0 0 0, -- SW_PLANE_FULL_DROP
  reg1 0x180048 0 0 0 0 0] -- SW_DISABLED_DROP

def rowsSw1 : List RegRow := [
  reg1 0x18004C 0 0 0 0 0, -- SW_ECC_DROP
  reg1 0x180038 0xFFFFFFFF 0 0 0 0, -- SW_CFG_REF
  regN 0x181000 0x100 24 0xFFFF0001 0xE 0 0 0, -- SW_Pqq_CFG
  regN 0x181004 0x100 24 0 0xFFFFFF 0 0 0, -- SW_Pqq_PCP_MAP
  regN 0x181008 0x100 24 0x3FFFF 0 0 0 0, -- SW_Pqq_PORT_LIMIT
  regN 0x18100C 0x100 24 0 0 0 0 0, -- SW_Pqq_PORT_USE
  regNN 0x181010 0x100 24 0x4 8 0x3FFFF 0 0 0 0, -- SW_Pqq_QLIMITk
  regNN 0x181030 0x100 24 0x4 8 0 0 0 0 0, -- SW_Pqq_QUSEk
  regN 0x18107C 0x100 24 0 0 0 0 0, -- SW_Pqq_PORT_PEAK
  regNN 0x181050 0x100 24 0x4 8 0 0 0 0 0, -- SW_Pqq_TAIL_DROPk
  regN 0x181070 0x100 24 0 0 0 0 0, -- SW_Pqq_LD_DISCARD
  regN 0x181074 0x100 24 0 0 0 0 0, -- SW_Pqq_STATE_DISCARD
  regN 0x181078 0x100 24 0 0 0 0 0, -- SW_Pqq_FLUSH_DISCARD
  regN 0x181080 0x100 24 0 0 0 0 0, -- SW_Pqq_CT_LO
  regN 0x181084 0x100 24 0 0 0 0 0, -- SW_Pqq_CT_HI
  regN 0x181088 0x100 24 0 0 0 0 0] -- SW_Pqq_SF_LO

def rowsSw2 : List RegRow := [
  regN 0x18108C 0x100 24 0 0 0 0 0] -- SW_Pqq_SF_HI

def rowsSw : List RegRow := rowsSw0 ++ rowsSw1 ++ rowsSw2

def rowsFwd0 : List RegRow := [
  regN 0x182900 0x100 2 0 0 0 0 0, -- SW_Pqq_CFG
  regN 0x182904 0x100 2 0 0 0 0 0, -- SW_Pqq_PCP_MAP
  regN 0x182908 0x100 2 0x3FFFF 0 0 0 0, -- SW_Pqq_PORT_LIMIT
  regN 0x18290C 0x100 2 0 0 0 0 0, -- SW_Pqq_PORT_USE
  regNN 0x182910 0x100 2 0x4 8 0x3FFFF 0 0 0 0, -- SW_Pqq_QLIMITk
  regNN 0x182930 0x100 2 0x4 8 0 0 0 0 0, -- SW_Pqq_QUSEk
  regN 0x18297C 0x100 2 0 0 0 0 0, -- SW_Pqq_PORT_PEAK
  regNN 0x182950 0x100 2 0x4 8 0 0 0 0 0, -- SW_Pqq_TAIL_DROPk
  regN 0x182970 0x100 2 0 0 0 0 0, -- SW_Pqq_LD_DISCARD
  regN 0x182974 0x100 2 0 0 0 0 0, -- SW_Pqq_STATE_DISCARD
  regN 0x182978 0x100 2 0 0 0 0 0, -- SW_Pqq_FLUSH_DISCARD
  regN 0x182980 0x100 2 0 0 0 0 0, -- SW_Pqq_CT_LO
  regN 0x182984 0x100 2 0 0 0 0 0, -- SW_Pqq_CT_HI
  regN 0x182988 0x100 2 0 0 0 0 0, -- SW_Pqq_SF_LO
  regN 0x18298C 0x100 2 0 0 0 0 0, -- SW_Pqq_SF_HI
  reg1 0x182000 0 0 0 0x1F 0] -- SW_FWD_STATUS

def rowsFwd1 : List RegRow := [
  reg1 0x182004 0x1F 0 0 0 0, -- SW_FWD_IRQ_EN
  reg1 0x182008 0xFF 0x200 0x1C00 0 0, -- SW_FWD_CTRL
  reg1 0x18200C 0xFFFFFFFF 0 0 0 0, -- SW_FWD_AGE
  reg1 0x182010 0 0x7F7F 0 0 0, -- SW_FWD_UDF
  reg1 0x182014 0 0 0 0 0, -- SW_FWD_CFG_CRC
  reg1 0x182018 0xFFFFFFFF 0 0 0 0, -- SW_FWD_CFG_REF
  reg1 0x182020 0 0 0 0 0, -- SW_FWD_NOW
  reg1 0x182024 0 0 0 0 0, -- SW_FWD_SHADOW_POS
  regN 0x182040 0x4 2 0 0 0 0 0, -- SW_EFT_COUNT
  regN 0x182048 0x4 16 0 0 0 0 0, -- SW_FWD_CNT
  regN 0x182100 0x20 24 0xC000 0x3FFF 0 0 0, -- SW_Pqq_VCFG
  regN 0x182108 0x20 24 0 0 0 0 0, -- SW_Pqq_VLAN_DROP
  regN 0x18210C 0x20 24 0 0 0 0 0, -- SW_Pqq_IRT_DROP
  regN 0x182110 0x20 24 0 0 0 0 0, -- SW_Pqq_COMP_DROP
  regN 0x182114 0x20 24 0 0 0 0 0, -- SW_Pqq_AUTH_DROP
  regN 0x182118 0x20 24 0 0 0 0 0] -- SW_Pqq_NOTARGET

def rowsFwd2 : List RegRow := [
  regN 0x18211C 0x20 24 0 0 0 0 0, -- SW_Pqq_METER_RED
  regN 0x182420 0x20 2 0xC000 0x3FFF 0 0 0, -- SW_Pqq_VCFG
  regN 0x182428 0x20 2 0 0 0 0 0, -- SW_Pqq_VLAN_DROP
  regN 0x18242C 0x20 2 0 0 0 0 0, -- SW_Pqq_IRT_DROP
  regN 0x182430 0x20 2 0 0 0 0 0, -- SW_Pqq_COMP_DROP
  regN 0x182434 0x20 2 0 0 0 0 0, -- SW_Pqq_AUTH_DROP
  regN 0x182438 0x20 2 0 0 0 0 0, -- SW_Pqq_NOTARGET
  regN 0x18243C 0x20 2 0 0 0 0 0, -- SW_Pqq_METER_RED
  regN 0x182104 0x20 8 0 0 0 0 0, -- SW_Pqq_AUTH
  regN 0x182204 0x20 16 0xFF 0 0 0 0, -- SW_Pqq_AUTH
  regN 0x182424 0x20 2 0 0 0 0 0] -- SW_Pqq_AUTH

def rowsFwd : List RegRow := rowsFwd0 ++ rowsFwd1 ++ rowsFwd2

def rowsImg0 : List RegRow := [
  reg1 0x1A0000 0 0 0 0x3E 0, -- SIG_IMG_STATUS
  reg1 0x1A0004 0x3E 0 0 0 0, -- SIG_IMG_IRQ_EN
  reg1 0x1A0008 0 0xFFFFE 0x1 0 0, -- SIG_SWEEP_CFG
  reg1 0x1A000C 0 0 0 0 0, -- SIG_SWEEP_POS
  reg1 0x1A0010 0 0 0 0 0, -- SIG_NOW
  reg1 0x1A0014 0x7F 0 0 0 0, -- SIG_IMG_CTRL
  reg1 0x1A0018 0 0 0 0 0, -- SIG_VIS_LO
  reg1 0x1A001C 0 0 0 0 0, -- SIG_VIS_HI
  reg1 0x1A0020 0 0 0 0 0, -- SIG_PIN_LO
  reg1 0x1A0024 0 0 0 0 0, -- SIG_PIN_HI
  reg1 0x1A0028 0 0 0 0 0, -- SIG_CFG_CRC
  reg1 0x1A002C 0xFFFFFFFF 0 0 0 0, -- SIG_CFG_REF
  reg1 0x1A0030 0 0 0 0 0, -- SIG_STALE_CNT
  reg1 0x1A0034 0 0 0 0 0, -- SIG_ECC_RESET_CNT
  reg1 0x1A0038 0 0 0 0 0, -- SIG_BAR4_WR_DROP
  reg1 0x1A003C 0 0 0 0 0] -- SIG_SUPPRESSED

def rowsImg1 : List RegRow := [
  reg1 0x1A0040 0 0 0 0 0, -- SIG_PRE_READY_DROP
  reg1 0x1A0048 0 0 0 0 0, -- SIG_CACHE_HIT_LO
  reg1 0x1A004C 0 0 0 0 0, -- SIG_CACHE_HIT_HI
  reg1 0x1A0050 0 0 0 0 0, -- SIG_CACHE_MISS_LO
  reg1 0x1A0054 0 0 0 0 0, -- SIG_CACHE_MISS_HI
  reg1 0x1A0058 0 0 0 0 0, -- SIG_CACHE_PINNED
  regN 0x1A0400 0x4 256 0 0 0 0 0] -- SIG_SEGMODE

def rowsImg : List RegRow := rowsImg0 ++ rowsImg1

def rowsRoute0 : List RegRow := [
  reg1 0x1A1000 0 0 0 0x3F 0, -- SE_STATUS
  reg1 0x1A1004 0x3F 0 0 0 0, -- SE_IRQ_EN
  reg1 0x1A1008 0xFE 0 0x1 0 0, -- SE_CTRL
  reg1 0x1A100C 0 0 0 0 0, -- SE_BUSY
  reg1 0x1A1010 0 0 0 0 0, -- SE_CFG_CRC
  reg1 0x1A1014 0xFFFFFFFF 0 0 0 0, -- SE_CFG_REF
  regN 0x1A1040 0x4 16 0 0x7FFF 0 0 0, -- SE_POOLpp_CFG
  regN 0x1A1080 0x4 16 0 0 0 0 0, -- SE_POOLpp_USE
  regN 0x1A10C0 0x4 16 0 0 0 0 0, -- SE_POOLpp_DROP
  reg1 0x1A1100 0 0 0 0 0, -- SE_EXEC_LO
  reg1 0x1A1104 0 0 0 0 0, -- SE_EXEC_HI
  reg1 0x1A1108 0 0 0 0 0, -- SE_SAT
  reg1 0x1A110C 0 0 0 0 0, -- SE_RANGE
  reg1 0x1A1110 0 0 0 0 0, -- SE_SHORT
  reg1 0x1A1114 0 0 0 0 0, -- SE_MISMATCH
  reg1 0x1A1118 0 0 0 0 0] -- SE_TIMEOUT

def rowsRoute1 : List RegRow := [
  reg1 0x1A111C 0 0 0 0 0, -- SE_NOINPUT
  reg1 0x1A1120 0 0 0 0 0, -- SE_RT_FMT
  reg1 0x1A1124 0 0 0 0 0, -- SE_RT_SELF
  reg1 0x1A1128 0 0 0 0 0] -- SE_MERGE

def rowsRoute : List RegRow := rowsRoute0 ++ rowsRoute1

def rowsMir0 : List RegRow := [
  reg1 0x1A2000 0 0 0 0x7F 0, -- SIG_MIR_STATUS
  reg1 0x1A2004 0x7F 0 0 0 0, -- SIG_MIR_IRQ_EN
  reg1 0x1A2008 0x3F8 0xFFFF0006 0x1 0 0, -- SIG_MIR_CTRL
  reg1 0x1A200C 0 0x7FFFFFF 0 0 0, -- SIG_MIR_CFG
  reg1 0x1A2010 0 0 0 0 0, -- SIG_MIR_VEH
  reg1 0x1A201C 0 0xFFFFFFFF 0 0 0, -- SIG_MIR_TRDP_IP
  reg1 0x1A2014 0 0 0 0 0, -- SIG_MIR_ETB_TOPO
  reg1 0x1A2018 0 0 0 0 0, -- SIG_MIR_OPTRN_TOPO
  regN 0x1A2020 0x4 2 0 0 0 0 0, -- SIG_MIR_UNIT
  regN 0x1A2028 0x4 2 0 0 0 0 0, -- SIG_MIR_PRESENT
  regN 0x1A2030 0x4 2 0 0 0 0 0, -- SIG_MIR_DUP
  reg1 0x1A2038 0 0 0 0 0, -- SIG_MIR_CFG_CRC
  reg1 0x1A203C 0xFFFFFFFF 0 0 0 0, -- SIG_MIR_CFG_REF
  regN 0x1A2040 0x4 24 0 0 0 0 0, -- SIG_MIR_CNT
  regN 0x1A2100 0x4 26 0x7F 0 0 0 0] -- SIG_MIR_RWJk

def rowsMir : List RegRow := rowsMir0

/-- The rows of the range of R374 that an offset lies in. -/
def regRows (o : Nat) : List RegRow :=
  if o < 0x1000 then rowsDev
  else if o < 0x10000 then []
  else if o < 0x20000 then rowsClk
  else if o < 0x30000 then rowsIrq
  else if o < 0x40000 then rowsMbx
  else if o < 0x50000 then rowsJnl
  else if o < 0x60000 then rowsRing
  else if o < 0x70000 then rowsTime
  else if o < 0x80000 then rowsLan
  else if o < 0x90000 then rowsBud
  else if o < 0xA0000 then rowsSec
  else if o < 0xB0000 then rowsMot
  else if o < 0xC0000 then rowsPage
  else if o < 0x100000 then []
  else if o < 0x130000 then rowsCan
  else if o < 0x140000 then []
  else if o < 0x160000 then rowsEth
  else if o < 0x180000 then []
  else if o < 0x182000 then rowsSw
  else if o < 0x190000 then rowsFwd
  else if o < 0x1A0000 then []
  else if o < 0x1A1000 then rowsImg
  else if o < 0x1A2000 then rowsRoute
  else if o < 0x1B0000 then rowsMir
  else []

/-- Whether offset `o` is a register of the row. -/
def RegRow.has (r : RegRow) (o : Nat) : Bool :=
  decide (r.base ≤ o) &&
    (let d := o - r.base
     let i := if r.s1 = 0 then 0 else d / r.s1
     let e := if r.s1 = 0 then d else d % r.s1
     let j := if r.s2 = 0 then 0 else e / r.s2
     let f := if r.s2 = 0 then e else e % r.s2
     decide (i < r.c1) && decide (j < r.c2) && f == 0)

/-- R233: an offset that a port block of ports 16 to 23 gives and R263 does not (log 12). -/
def swOnly (o : Nat) : Bool :=
  decide (0x182000 ≤ o) && decide (o < 0x182B00) && !(decide (o < 0x182460) && rowsFwd.any fun r => r.has o)
    && (decide (0x182460 ≤ o) || rowsSw.any fun r => r.has o)

/-- Where the model keeps the register at a BAR0 offset: R233's port blocks beyond the forwarding registers (log 12). -/
def regKey (o : Nat) : Nat := if swOnly o then o + 0x1000000 else o

/-- R374: the masks of the register at a BAR0 offset; none where the location is reserved. -/
def regMasks (o : Nat) : Option Masks :=
  ((if swOnly o then rowsSw ++ rowsFwd else regRows o).find? fun r => r.has o).map fun r => r.m

end Sys2Proof.Machine
end

