-- ==== Sys2Proof/Machine/Flags.lean ====
section
/-!
DEFINITION. Sys2Proof/Machine/Flags.lean: the event bits of the blocks as interrupt levels (R341), the pending bits they
set, the sources a target can claim (R341, R346), the MSI-X vectors (R344), and `settle`, which every meaning ends in.
-/
namespace Sys2Proof.Machine

/-- An event bit of a status register is 1 with its enable set. -/
def anyEnabled (s : State) (status enable : Nat) : Bool := rd s status &&& rd s enable != 0

/-- R97, R99: whether MOT object `o` is an aperture object of channel `n`. -/
def isApObject (n o : Nat) : Bool := o / 2048 == n || (decide (98304 ≤ o) && (o - 98304) / 64 == n)

/-- R98: an aperture object of channel `n` has NEW = 1. -/
def apNew (s : State) (n : Nat) : Bool := s.obj.any fun e => isApObject n e.1 && e.2.st.getLsbD 16

/-- R98: the status word of the forerunner aperture for channel `n`: bits 0 to 2 are the latches BUS_OFF_EV, PASSIVE_EV and
WARN_EV of CANnn_STATUS (bits 2 to 4), bit 3 is NEW, bit 4 TXDONE. -/
def apStatus (s : State) (n : Nat) : Nat :=
  getF s (canR n 4) 4 2 + 8 * bnat (apNew s n) + 16 * bnat (chan s n).apTxDone

/-- R340: journal `j` asks for attention. -/
def jnlLevel (s : State) (j : Nat) : Bool :=
  let n := getF s (jnlR j 0) 27 12
  n != 0 && decide (n ≤ (jnlAt s j).items.length)

/-- R341: the present level of a source. -/
def level (s : State) (n : Nat) : Bool :=
  if n = 0 then false
  else if n ≤ 48 then anyEnabled s (canR (n - 1) 4) (canR (n - 1) 0x34) || (apStatus s (n - 1) &&& (chan s (n - 1)).apIrqEn) != 0
  else if n ≤ 72 then anyEnabled s (ethR (n - 49) 4) (ethR (n - 49) 8)
  else if n ≤ 136 then jnlLevel s (n - 73)
  else if n ≤ 152 then anyEnabled s (ringR (n - 137 + 16) 0x10) (ringR (n - 137 + 16) 0x14)
  else if n ≤ 168 then anyEnabled s (ringR (n - 153) 0x10) (ringR (n - 153) 0x14)
  else if n ≤ 184 then anyEnabled s (teR (n - 169) 0x18) (teR (n - 169) 0x34)
  else if n = 185 then getB s 0x10000 0 || getB s 0x10000 1
  else if n = 186 then anyEnabled s 0x41000 0x41004
  else if n = 187 then anyEnabled s 0x51000 0x51004
  else if n = 188 then anyEnabled s 4 8
  else if n = 189 then anyEnabled s 0x10000 0x10004
  else if n = 190 then anyEnabled s 0xA8600 0xA8604
  else if n = 191 then anyEnabled s 0x1A0000 0x1A0004
  else if n = 192 then anyEnabled s 0x1A1000 0x1A1004
  else if n = 193 then anyEnabled s 0x1A2000 0x1A2004
  else if n = 194 then anyEnabled s (ethR 24 4) (ethR 24 8)
  else if n = 195 then anyEnabled s 0x180004 0x180008
  else if n = 196 then anyEnabled s 0x182000 0x182004
  else if n = 197 then anyEnabled s 0x60000 0x60004
  else if n = 198 then anyEnabled s 0x90000 0x90004
  else if n ≤ 214 then getB s (jobR (n - 199) 0x2C) 0 && !(jobPage s (n - 199)).done.isEmpty
  else if n ≤ 224 then anyEnabled s (mbxR (n - 215) 4) (mbxR (n - 215) 8)
  else if n = 225 then anyEnabled s 0x70000 0x70004
  else if n = 226 then anyEnabled s 0x80000 0x80004
  else false

/-- The target mask of a source (R346: source 185 has every target). -/
def srcTargets (s : State) (n : Nat) : Nat := if n = 185 then 0x1FF else getF s (0x20000 + 4 * n) 8 0

def srcPrio (s : State) (n : Nat) : Nat := getF s (0x20000 + 4 * n) 11 9

/-- The mask bit of a source (R346: source 185 has none). -/
def srcMasked (s : State) (n : Nat) : Bool := if n = 185 then false else getB s (0x20840 + 4 * (n / 32)) (n % 32)

/-- R341, R346: source `n` is claimable by target `t`, the controller standing as `q`. -/
def claimableIn (s : State) (q : Irq) (t n : Nat) : Bool :=
  if n = 0 then false
  else if n = 185 then q.nmiPend.getLsbD t && !q.nmiSvc.getLsbD t
  else q.pend.getLsbD n && !q.insvc.getLsbD n && !srcMasked s n && (srcTargets s n).testBit t

def claimable (s : State) (t n : Nat) : Bool := claimableIn s s.irq t n

/-- The sources that are pending somewhere. -/
def pendingSrcs (q : Irq) : List Nat := (List.range 512).filter fun n => q.pend.getLsbD n || (n == 185 && q.nmiPend != 0)

def anyClaimable (s : State) (q : Irq) (t : Nat) : Bool := (pendingSrcs q).any fun n => claimableIn s q t n

/-- The bits of a list of sources. -/
def srcBits (l : List Nat) : BitVec 512 := l.foldl (fun b n => b ||| BitVec.ofNat 512 (2 ^ n)) 0

/-- R341: the pending bits that present levels set, for sources not in service. -/
def latchLevels (s : State) (q : Irq) : Irq :=
  let up := (List.range 256).filter fun n => n != 185 && !q.insvc.getLsbD n && level s n
  { q with pend := q.pend ||| srcBits up
           nmiPend := if level s 185 then q.nmiPend ||| ~~~ q.nmiSvc else q.nmiPend }

/-- The targets whose claimable set is not empty. -/
def hadNow (s : State) (q : Irq) : BitVec 9 :=
  BitVec.ofNat 9 (((List.range 9).filter fun t => anyClaimable s q t).foldl (fun b t => b + 2 ^ t) 0)

/-! ### Configuration space as the function itself uses it (R320): the header, and the capabilities of R320 as PCI Express lays them out (PRESUMED, log 9).
Where the first three stand is the implementation's, in the order power management, PCI Express, MSI-X; none overlaps another. -/

def capPm : Nat := 16 + Config.capPlace 0 % 10
def capExp : Nat := capPm + 2 + Config.capPlace 1 % 10
def capMsix : Nat := capExp + 15 + Config.capPlace 2 % 10

def confStored (s : State) (w : Nat) : Word := SMap.get (fun _ => (0 : Word)) s.pcie.cfg w

/-- The function may send: bus-master enable is set, and it is in D0. -/
def busMaster (s : State) : Bool := (confStored s 1).getLsbD 2 && fld (confStored s (capPm + 1)) 1 0 == 0

/-- Whether vector `t` may be sent: MSI-X enabled, neither the function nor the vector masked, and the function free to send. -/
def msixOpen (s : State) (t : Nat) : Bool :=
  s.pcie.msixEn && !s.pcie.msixMask && !getB s (0x2F00C + 16 * t) 0 && busMaster s

/-- The message of vector `t`. -/
def msixMsg (s : State) (t : Nat) : Out :=
  .msix t (BitVec.ofNat 64 ((rd s (0x2F000 + 16 * t)).toNat + 2 ^ 32 * (rd s (0x2F004 + 16 * t)).toNat)) (rd s (0x2F008 + 16 * t))

/-- R344: the vectors to send: those whose set has gone from empty to not empty, and those pending in the PBA; a set that has emptied clears its bit. -/
def msixWant (_s : State) (q : Irq) (now : BitVec 9) : List Nat :=
  (List.range 8).filter fun t => now.getLsbD t && (!q.had.getLsbD t || q.pba.getLsbD t)

/-- The controller after levels, sets and vectors have been brought up to date. -/
def settledIrq (s : State) : Irq :=
  let q := latchLevels s s.irq
  let now := hadNow s q
  let wait := (msixWant s q now).filter fun t => !msixOpen s t
  { q with had := now, pba := BitVec.ofNat 8 (wait.foldl (fun b t => b + 2 ^ t) 0) }

/-- The messages sent while they are. -/
def settledOut (s : State) : List Out :=
  let q := latchLevels s s.irq
  ((msixWant s q (hadNow s q)).filter fun t => msixOpen s t).map fun t => msixMsg s t

/-- R341, R344: after each command, the interrupt controller takes the levels as they then stand. Nothing else changes. -/
def settle (s : State) : State := { s with irq := settledIrq s, out := s.out ++ settledOut s }

/-- How a meaning ends: the command's effect, then `settle`. -/
def done (s : State) : Host.Outcome State Fault Refusal := .next (settle s)

end Sys2Proof.Machine
end

