-- ==== Sys2Proof/Machine/Operands.lean ====
section
/-!
DEFINITION. Sys2Proof/Machine/Operands.lean: the forms that commands carry: Ethernet headers (R236 to R248), table entries by
field (the layouts of chapters 3, 5, 6, 9 and 11), host-window areas and descriptors (R323 to R328), and the pools of the
gateway buffer (R150).
-/
namespace Sys2Proof.Machine

/-- R364: PAUSED: the firmware handover is running. -/
def mbxPaused (s : State) : Bool := s.upd.swaps == 4

/-! ### Ethernet frames: bytes from the destination address to the last byte before the FCS -/

def byteAt (f : List Byte) (i : Nat) : Nat := (f.getD i 0).toNat

/-- R248: a MAC address as a number, byte 0 most significant. -/
def macAt (f : List Byte) (i : Nat) : Nat := beAt f i 6

def ethDst (f : List Byte) : Nat := macAt f 0
def ethSrc (f : List Byte) : Nat := macAt f 6

/-- A group address: bit 0 of byte 0. -/
def isGroup (mac : Nat) : Bool := nbit mac 40

def broadcast : Nat := 2 ^ 48 - 1

/-- R238: an outer IEEE 802.1Q tag (TPID 0x8100). -/
def hasTag (f : List Byte) : Bool := beAt f 12 2 == 0x8100

def tagVid (f : List Byte) : Nat := if hasTag f then beAt f 14 2 % 4096 else 0

def tagPcp (f : List Byte) : Nat := if hasTag f then beAt f 14 2 / 8192 else 0

/-- Where the EtherType after up to `n` tags of 0x8100 stands. -/
def etherTypePos : Nat → List Byte → Nat → Nat
  | 0, _, p => p
  | n + 1, f, p => if beAt f p 2 = 0x8100 then etherTypePos n f (p + 4) else p

/-- The EtherType after all tags (R204 allows two; the key of R248 takes the one after all of them). -/
def etPos (f : List Byte) : Nat := etherTypePos (f.length / 4) f 12
def etherType (f : List Byte) : Nat := beAt f (etPos f) 2

/-- Whether the frame carries IPv4 or IPv6 after its tags. -/
def isV4 (f : List Byte) : Bool := etherType f == 0x0800
def isV6 (f : List Byte) : Bool := etherType f == 0x86DD

def ipPos (f : List Byte) : Nat := etPos f + 2
def ipHdrLen (f : List Byte) : Nat := if isV4 f then 4 * (byteAt f (ipPos f) % 16) else 40
def ipProto (f : List Byte) : Nat :=
  if isV4 f then byteAt f (ipPos f + 9) else if isV6 f then byteAt f (ipPos f + 6) else 0

/-- R204: a fragment, MF = 1 or offset ≠ 0. -/
def isFrag (f : List Byte) : Bool := isV4 f && beAt f (ipPos f + 6) 2 % 16384 != 0

def l4Pos (f : List Byte) : Nat := ipPos f + ipHdrLen f
def isL4 (f : List Byte) : Bool := (isV4 f || isV6 f) && !isFrag f && (ipProto f == 6 || ipProto f == 17)
def l4Src (f : List Byte) : Nat := if isL4 f then beAt f (l4Pos f) 2 else 0
def l4Dst (f : List Byte) : Nat := if isL4 f then beAt f (l4Pos f + 2) 2 else 0

/-- A UDP datagram to port `d`. -/
def isUdpTo (f : List Byte) (d : Nat) : Bool := isL4 f && ipProto f == 17 && l4Dst f == d

/-- R23, R183: process data on UDP port 17224, a first fragment among it. -/
def isTrdp (f : List Byte) : Bool :=
  isV4 f && ipProto f == 17 && beAt f (ipPos f + 6) 2 % 8192 == 0 && beAt f (l4Pos f + 2) 2 == 17224

/-- The one's-complement sum of 16-bit words, most significant byte first; an odd last byte is filled with zero. -/
def onesSum (bs : List Byte) : Nat :=
  let rec go : List Byte → Nat
    | a :: b :: r => a.toNat * 256 + b.toNat + go r
    | [a] => a.toNat * 256
    | [] => 0
  let x := go bs
  let y := x % 65536 + x / 65536
  let z := y % 65536 + y / 65536
  z % 65536 + z / 65536

/-- R204: the IPv4 header checksum is right. -/
def ipCsumOk (f : List Byte) : Bool := onesSum (slice f (ipPos f) (ipHdrLen f)) == 0xFFFF

/-- The length that the IP header gives the L4 data. -/
def l4Len (f : List Byte) : Nat :=
  if isV4 f then beAt f (ipPos f + 2) 2 - ipHdrLen f else beAt f (ipPos f + 4) 2

/-- The pseudo-header of the L4 checksum. -/
def pseudoHdr (f : List Byte) : List Byte :=
  if isV4 f then slice f (ipPos f + 12) 8 ++ [0, BitVec.ofNat 8 (ipProto f)] ++ beBytes 2 (l4Len f)
  else slice f (ipPos f + 8) 32 ++ beBytes 4 (l4Len f) ++ [0, 0, 0, BitVec.ofNat 8 (ipProto f)]

def l4CsumPos (f : List Byte) : Nat := l4Pos f + (if ipProto f = 17 then 6 else 16)

/-- R204: the UDP or TCP checksum is right, or absent (a UDP checksum of 0 over IPv4). -/
def l4CsumOk (f : List Byte) : Bool :=
  (isV4 f && ipProto f == 17 && beAt f (l4CsumPos f) 2 == 0)
    || onesSum (pseudoHdr f ++ slice f (l4Pos f) (l4Len f)) == 0xFFFF

/-- R204: at most two IEEE 802.1Q tags. -/
def twoTags (f : List Byte) : Bool := decide (etPos f ≤ 20)

/-- R204: 0 not checked, 1 correct, 2 failed, for the IPv4 header and for L4. -/
def csumIp (f : List Byte) : Nat := if isV4 f && twoTags f then (if ipCsumOk f then 1 else 2) else 0
def csumL4 (f : List Byte) : Nat := if isL4 f && twoTags f then (if l4CsumOk f then 1 else 2) else 0

def put16 (f : List Byte) (i v : Nat) : List Byte := overlay f i (beBytes 2 v)

/-- Where the IP packet ends by its own length. -/
def ipEnd (f : List Byte) : Nat := if isV4 f then ipPos f + beAt f (ipPos f + 2) 2 else l4Pos f + l4Len f

/-- R205: the IP length disagrees with the frame: it runs past the end, or more than the padding of a short frame follows it. -/
def ipLenOff (f : List Byte) : Bool :=
  decide (f.length < ipEnd f) || (decide (ipEnd f < f.length) && decide (48 + etPos f < f.length))

/-- R205: the checksums inserted; none where the frame asks for no insertion that can be made (a length that disagrees with
the frame, or a fragment). -/
def insertCsum (f : List Byte) : Option (List Byte) :=
  if isFrag f || ((isV4 f || isV6 f) && ipLenOff f) then none
  else
    let g := if isV4 f then
        let z := put16 f (ipPos f + 10) 0
        put16 z (ipPos f + 10) (0xFFFF - onesSum (slice z (ipPos f) (ipHdrLen f)))
      else f
    if isL4 g then
      let z := put16 g (l4CsumPos g) 0
      let c := 0xFFFF - onesSum (pseudoHdr z ++ slice z (l4Pos z) (l4Len z))
      some (put16 z (l4CsumPos g) (if c = 0 && ipProto g = 17 then 0xFFFF else c))
    else some g

/-- R248: the key fields after the outer tag. TCP flags are the 8 bits of byte 13 of the TCP header. -/
def tcpFlags (f : List Byte) : Nat := if isL4 f && ipProto f = 6 then byteAt f (l4Pos f + 13) else 0

def dscp (f : List Byte) : Nat :=
  if isV4 f then byteAt f (ipPos f + 1) / 4 else if isV6 f then (beAt f (ipPos f) 2 / 64) % 64 else 0

def ipSrc (f : List Byte) : Nat :=
  if isV4 f then beAt f (ipPos f + 12) 4 else if isV6 f then beAt f (ipPos f + 20) 4 else 0
def ipDst (f : List Byte) : Nat :=
  if isV4 f then beAt f (ipPos f + 16) 4 else if isV6 f then beAt f (ipPos f + 36) 4 else 0

/-- R248: the IRT key of a frame: ingress q, VID, compartment F, UDF offset. -/
def irtKey (q vid comp udf : Nat) (f : List Byte) : Nat :=
  q + 2 ^ 5 * bnat (hasTag f) + 2 ^ 6 * vid + 2 ^ 18 * tagPcp f + 2 ^ 21 * ethDst f + 2 ^ 69 * ethSrc f
    + 2 ^ 117 * etherType f + 2 ^ 133 * bnat (isV4 f) + 2 ^ 134 * bnat (isV6 f) + 2 ^ 135 * ipProto f + 2 ^ 143 * dscp f
    + 2 ^ 149 * bnat (isFrag f) + 2 ^ 150 * ipSrc f + 2 ^ 182 * ipDst f + 2 ^ 214 * l4Src f + 2 ^ 230 * l4Dst f
    + 2 ^ 246 * tcpFlags f + 2 ^ 254 * comp + 2 ^ 258 * beAt f udf 4

/-! ### Table codes -/

def tMot : Nat := 1
def tMotState : Nat := 2
def tXim : Nat := 3
def tTst : Nat := 4
def tSdp : Nat := 5
def tTpt : Nat := 6
def tRlt : Nat := 7
def tDst : Nat := 8
def tPub : Nat := 9
def tSub : Nat := 10
def tEtt : Nat := 11
def tBat : Nat := 12
def tTtt : Nat := 13
/-- The tables of a plane: EFT 0x10, 0x11; VLAN 0x12, 0x13; IRT 0x14, 0x15. -/
def tEft (pl : Nat) : Nat := 0x10 + pl
def tVlan (pl : Nat) : Nat := 0x12 + pl
def tIrt (pl : Nat) : Nat := 0x14 + pl
def tMeter : Nat := 0x16
def tSlt : Nat := 0x17
def tSa : Nat := 0x18

/-- Bits of an entry: (word, high, low) fields as one mask. -/
def maskOf (l : List (Nat × Nat × Nat)) : Nat := l.foldl (fun m f => m ||| ((2 ^ (f.2.1 + 1) - 2 ^ f.2.2) * 2 ^ (32 * f.1))) 0

/-- Whole words of an entry. -/
def wholeWords (a b : Nat) : List (Nat × Nat × Nat) := (List.range (b + 1 - a)).map fun k => (a + k, 31, 0)

/-- R7: the bits of a table's entries that are not reserved; the others are stored as zero. The layouts of SDP entries follow their OP
and stand with their WRITE. -/
def tMask (code : Nat) : Nat :=
  match code with
  | 0x01 => maskOf [(0, 12, 0), (0, 27, 14), (1, 21, 0), (2, 25, 0), (3, 22, 0)]
  | 0x03 => maskOf [(0, 6, 0), (0, 31, 8), (1, 4, 0), (1, 22, 8), (1, 27, 24)]
  | 0x04 => maskOf [(0, 6, 0), (1, 23, 0), (2, 23, 0), (3, 15, 0)]
  | 0x06 => maskOf ([(0, 31, 0), (1, 6, 0), (1, 10, 8)] ++ wholeWords 2 11)
  | 0x07 => maskOf ([(0, 8, 0), (0, 31, 12), (1, 29, 0)] ++ wholeWords 2 9)
  | 0x08 => maskOf [(0, 5, 0), (0, 31, 28), (1, 23, 0), (2, 23, 0), (3, 25, 0)]
  | 0x09 => maskOf [(0, 23, 0), (0, 31, 28), (1, 12, 0), (1, 28, 16), (2, 23, 0), (3, 31, 0), (4, 23, 0)]
  | 0x0A => maskOf [(0, 23, 0), (1, 31, 0), (2, 12, 0), (2, 28, 16), (3, 15, 0), (4, 31, 0), (5, 31, 0)]
  | 0x0B => maskOf [(0, 8, 0), (0, 15, 12), (0, 31, 16)]
  | 0x0C => maskOf [(0, 17, 0), (0, 31, 28), (1, 31, 0), (2, 15, 0)]
  | 0x0D => maskOf [(0, 13, 0), (0, 31, 28), (1, 31, 0), (2, 31, 0), (3, 31, 0), (4, 25, 0), (5, 25, 0), (6, 31, 0), (7, 13, 0)]
  | 0x10 => maskOf [(0, 8, 0), (0, 27, 12), (1, 31, 0), (2, 31, 0), (3, 26, 0)]
  | 0x11 => maskOf [(0, 8, 0), (0, 27, 12), (1, 31, 0), (2, 31, 0), (3, 26, 0)]
  | 0x12 => maskOf [(0, 19, 0), (1, 26, 0), (2, 26, 0)]
  | 0x13 => maskOf [(0, 19, 0), (1, 26, 0), (2, 26, 0)]
  | 0x14 => maskOf (wholeWords 0 19 ++ [(20, 29, 0), (21, 26, 0), (22, 2, 0), (23, 31, 0)])
  | 0x15 => maskOf (wholeWords 0 19 ++ [(20, 29, 0), (21, 26, 0), (22, 2, 0), (23, 31, 0)])
  | 0x16 => maskOf [(0, 4, 0), (1, 24, 0), (2, 24, 0), (3, 23, 0), (4, 23, 0), (5, 31, 0), (6, 31, 0), (7, 31, 0)]
  | 0x17 => maskOf [(0, 18, 0), (0, 31, 28), (1, 14, 0), (1, 21, 16), (2, 31, 0), (4, 31, 0), (5, 31, 0)]
  | 0x18 => maskOf ([(0, 15, 0), (0, 19, 16)] ++ wholeWords 1 10)
  | _ => 0

/-- An entry as a command gives it. -/
def entryIn (code : Nat) (data : List Byte) : BitVec 768 := eOf data &&& BitVec.ofNat 768 (tMask code)

/-- Entries of a table, and bytes of an entry. -/
def tCount (code : Nat) : Nat :=
  match code with
  | 0x01 => 131072
  | 0x02 => 131072
  | 0x03 => 32768
  | 0x04 => 768
  | 0x05 => 262144
  | 0x06 => 8192
  | 0x07 => 65536
  | 0x08 => 256
  | 0x09 => 1024
  | 0x0A => 1024
  | 0x0B => 4096
  | 0x0C => 256
  | 0x0D => 2048
  | 0x10 => 32768
  | 0x11 => 32768
  | 0x12 => 4096
  | 0x13 => 4096
  | 0x14 => 4096
  | 0x15 => 4096
  | 0x16 => 2048
  | 0x17 => 4096
  | 0x18 => 512
  | _ => 0

def tBytes (code : Nat) : Nat :=
  match code with
  | 0x01 => 16
  | 0x03 => 8
  | 0x04 => 16
  | 0x05 => 16
  | 0x06 => 64
  | 0x07 => 40
  | 0x08 => 16
  | 0x09 => 32
  | 0x0A => 32
  | 0x0B => 8
  | 0x0C => 16
  | 0x0D => 32
  | 0x10 => 16
  | 0x11 => 16
  | 0x12 => 16
  | 0x13 => 16
  | 0x14 => 96
  | 0x15 => 96
  | 0x16 => 32
  | 0x17 => 32
  | 0x18 => 64
  | _ => 0

/-- R93: table statuses. -/
def stOk : Nat := 0
def stMoved : Nat := 1
def stNotFound : Nat := 2
def stExists : Nat := 3
def stFull : Nat := 4
def stDenied : Nat := 5
def stInvalid : Nat := 6
def stRange : Nat := 7

/-- R527: RANGE, INVALID, DENIED, EXISTS, FULL, NOT_FOUND: the first that holds decides; OK when none does. -/
def tblStatus (range invalid denied exist full absent : Bool) : Nat :=
  if range then stRange else if invalid then stInvalid else if denied then stDenied else if exist then stExists
  else if full then stFull else if absent then stNotFound else stOk

/-- R257: how a table command ends: STATUS, RESULT and, for a READ or a LOOKUP that returns one, the entry. RESULT is the index
found or written when STATUS is OK and 0 otherwise (DESIGN CHOICE, log 13). -/
structure TblRes where
  status : Nat
  result : Nat
  entry  : Option (List Byte)
  deriving DecidableEq, Repr

def tblStat (st idx : Nat) : TblRes := { status := st, result := if st = 0 then idx else 0, entry := none }

def tblEntry (idx : Nat) (bs : List Byte) : TblRes := { status := 0, result := idx, entry := some bs }

/-- R527: C0 and the owner may act. -/
def mayAct (c owner : Nat) : Bool := c == 0 || c == owner

/-- R81, R145: the requester is neither C0 nor the entry's current or new COMP. -/
def eitherDenied (s : State) (c new old : Nat) : Bool := !mayAct c (owned s new) && !mayAct c (owned s old)

/-- The DENIED rule of a WRITE where a table says "neither C0 nor COMP": the COMP written decides, and for an entry written with VALID = 0 its
current or new COMP (R527, log 28). -/
def writeDenied (s : State) (c : Nat) (valid : Bool) (new old : Nat) : Bool :=
  if valid then !mayAct c (owned s new) else eitherDenied s c new old

/-- R31: a requester other than C0 joins an entry of one compartment to a resource of another. -/
def crossDenied (c comp : Nat) (owners : List Nat) : Bool := c != 0 && owners.any fun o => o != comp

/-- Bytes of a list of u8 values. -/
def u8s (l : List Nat) : List Byte := l.map fun n => BitVec.ofNat 8 n

/-! ### The boot flash (R416) -/

/-- What an erased byte of NOR flash reads as. PRESUMED, log 36. -/
def flashErased (_ : Nat) : Byte := 0xFF

def flashByte (s : State) (a : Nat) : Byte := SMap.get flashErased s.flash a
def flashRead (s : State) (a n : Nat) : List Byte := (List.range n).map fun i => flashByte s (a + i)

/-! ### The host window (R28, R323) -/

def hostBase : Nat := 0x37000000

/-- R28: 256 MiB, 512 MiB or 1 GiB. A size code above 2, which no rule gives a meaning, is taken modulo 3: DESIGN CHOICE, log 42. -/
def hostSize (s : State) : Nat := 0x10000000 * 2 ^ (s.boot.sizeCode % 3)

/-- R323: an area of `n` bytes at window offset `a` lies inside the window. -/
def inWindow (s : State) (a n : Nat) : Bool := decide (a + n ≤ hostSize s)

/-- R295: an area of device memory lies inside the host window. -/
def memInWindow (s : State) (a n : Nat) : Bool := decide (hostBase ≤ a) && inWindow s (a - hostBase) n

def winRead (s : State) (a n : Nat) : List Byte := memRead s (hostBase + a) n
def winWrite (s : State) (a : Nat) (bs : List Byte) : State := memWrite s (hostBase + a) bs

/-- R324: the window offset of the descriptor at POS of ring `r` (0 to 15 transmit, 16 to 31 receive). -/
def descAt (s : State) (r : Nat) : Nat := (rd s (ringR r 4)).toNat + 32 * getF s (ringR r 8) 11 0

/-- R323: a descriptor that lies partly or wholly outside the window is neither read nor written. -/
def descIn (s : State) (r : Nat) : Bool := inWindow s (descAt s r) 32

/-- Word `w` of that descriptor. -/
def descWord (s : State) (r w : Nat) : Word :=
  if descIn s r then BitVec.ofNat 32 (leNat (winRead s (descAt s r + 4 * w) 4)) else 0

def setDescWord (s : State) (r w : Nat) (v : Word) : State :=
  if descIn s r then winWrite s (descAt s r + 4 * w) (leBytes 4 v.toNat) else s

/-- R321, R322: the host's writes through BAR2: an offset in the window and bytes, of any length and alignment within it. R425: they are
discarded until DRAM is set. -/
def hostWrites (s : State) (win : List (BitVec 32 × List Byte)) : State :=
  if ready s 7 then win.foldl (fun a x => if inWindow a x.1.toNat x.2.length then winWrite a x.1.toNat x.2 else a) s else s

/-- R324: descriptors in the ring. -/
def ringSize (s : State) (r : Nat) : Nat := 2 ^ (4 + getF s (ringR r 0) 4 1)

/-- R425: every ring behaves as disabled until DRAM is set. -/
def ringOn (s : State) (r : Nat) : Bool := getB s (ringR r 0) 0 && ready s 7

/-! ### Pools (R149 to R151) -/

/-- The directions of R22, as SE_POOLpp numbers them: pool 4 × direction + class. -/
def poolUseR (p : Nat) : Nat := 0x1A1080 + 4 * p
def poolSize (s : State) (p : Nat) : Nat := getF s (0x1A1040 + 4 * p) 14 0
def poolUse (s : State) (p : Nat) : Nat := getF s (poolUseR p) 14 0

/-- R150: the entries that a copy of `n` data bytes takes. -/
def poolEntries (n : Nat) : Nat := max 1 (ceilDiv n 64)

def poolFits (s : State) (p n : Nat) : Bool := decide (poolUse s p + poolEntries n ≤ poolSize s p)

/-- The use of a pool set, and its peak raised. -/
def setPoolUse (s : State) (p u : Nat) : State :=
  let s := setF s (poolUseR p) 14 0 u
  setF s (poolUseR p) 30 16 (max u (getF s (poolUseR p) 30 16))

/-- R151: a refusal by pool `p`, of a kind, for a source MOT object. -/
def poolRefuse (s : State) (p kind src : Nat) : State :=
  evtItem (raise (incC s (0x1A10C0 + 4 * p)) 0x1A1000 0) 0x1A1008 1 0x33 p
    ([BitVec.ofNat 8 kind, 0, 0, 0] ++ leBytes 4 src)

def copyAt (s : State) (c : Nat) : PoolCopy := SMap.get (fun _ => PoolCopy.init) s.copies c
def setCopy (s : State) (c : Nat) (x : PoolCopy) : State :=
  { s with copies := SMap.set (fun _ => PoolCopy.init) s.copies c x }

/-- R150: a copy of `n` bytes, of a kind and a source as item 0x33 names them, takes its entries of pool `p` for one user; its number is the old
`copyNext`. -/
def poolTake (s : State) (p n kind src : Nat) : State :=
  let s := setPoolUse s p (poolUse s p + poolEntries n)
  { setCopy s s.copyNext { pool := p, entries := poolEntries n, refs := 1, kind := kind, src := src } with copyNext := s.copyNext + 1 }

/-- R150: one user of a copy has finished with it; the last one frees its entries. -/
def copyDone (s : State) (c : Nat) : State :=
  let x := copyAt s c
  if x.refs ≤ 1 then setPoolUse (setCopy s c PoolCopy.init) x.pool (poolUse s x.pool - x.entries)
  else setCopy s c { x with refs := x.refs - 1 }

def copyDoneOpt (s : State) : Option Nat → State
  | some c => copyDone s c
  | none => s

end Sys2Proof.Machine
end

