-- ==== Sys2Proof/Machine/HostWindow.lean ====
section
/-!
DEFINITION. Sys2Proof/Machine/HostWindow.lean: the PCI Express function, receive delivery, journals and the interrupt
controller (chapter 12). Transmit descriptors, which reach into every other block, are in Machine/Rings.lean.
-/
namespace Sys2Proof.Machine

/-! ### Receive delivery (R330, R331) -/

/-- A delivery handed to receive ring `r` (0 to 15), behind those before it. -/
def ringHand (s : State) (r : Nat) (d : RxDeliv) : State :=
  let x := ringAt s (16 + r)
  setRing s (16 + r) { x with deliv := x.deliv ++ [d] }

/-- R331: the frame is discarded; its pool entries are freed. -/
def rxDrop (s : State) (r : Nat) (d : RxDeliv) : State :=
  copyDoneOpt (raise (incC s (ringR (16 + r) 0x1C)) (ringR (16 + r) 0x10) 1) d.copy

/-- The descriptor returned: words 1 to 7 before word 0; POS advances; DONE counts. -/
def ringReturn (s : State) (r : Nat) (w0 : Word) : State :=
  let s := setDescWord s r 0 w0
  let s := setF s (ringR r 8) 11 0 ((getF s (ringR r 8) 11 0 + 1) % ringSize s r)
  raise (incC s (ringR r 0x18)) (ringR r 0x10) 0

/-- R331: a delivery written into the descriptor at POS. A buffer outside the window (R323) takes no byte and is returned with
LEN 0 as a cut frame (DESIGN CHOICE, log 11). -/
def rxFill (s : State) (r : Nat) (d : RxDeliv) : State :=
  let k := 16 + r
  let buf := (descWord s k 1).toNat
  let len := fld (descWord s k 2) 13 0
  let ok := inWindow s buf len
  let n := if ok then min d.data.length len else 0
  let cut := decide (n < d.data.length)
  let w0 := BitVec.ofNat 32 (d.src * 16 + bnat cut * 256)
  let w2 := putFld (descWord s k 2) 29 16 n
  let s := if ok then winWrite s buf (d.data.take n) else s
  let s := setDescWord s k 2 w2
  let s := setDescWord s k 3 (BitVec.ofNat 32 d.w3)
  let s := setDescWord s k 4 (BitVec.ofNat 32 d.w4)
  let s := setDescWord s k 5 (BitVec.ofNat 32 d.w5)
  let s := setDescWord s k 6 (BitVec.ofNat 32 d.stamp)
  let s := setDescWord s k 7 (BitVec.ofNat 32 (d.stamp / 2 ^ 32))
  let s := if cut then incC s (ringR k 0x1C) else s
  copyDoneOpt (ringReturn s k w0) d.copy

/-- R331: the oldest delivery of receive ring `r`. Nothing waiting: nothing happens. -/
def rxDeliver (s : State) (r : Nat) : State :=
  let x := ringAt s (16 + r)
  match x.deliv with
  | [] => s
  | d :: rest =>
    let s := setRing s (16 + r) { x with deliv := rest }
    if ringOn s (16 + r) && fld (descWord s (16 + r) 0) 0 0 == 1 then rxFill s r d else rxDrop s r d

/-! ### Ring enables (R332) -/

/-- Masks of a ring's CFG: EN is RW, SIZE and CLASS are RWD. -/
def ringCfgMasks : Masks := { rw := 1, rwd := 0x301E, rwk := 0, w1c := 0, kwo := 0 }

/-- R332: the ring enabled from descriptor 0, or disabled: a KICK that waits is forgotten. -/
def ringSwitch (s : State) (r : Nat) (on : Bool) : State :=
  let s := if on then setF s (ringR r 8) 11 0 0 else s
  setRing (setB s (ringR r 0) 0 on) r { ringAt s r with kicked := false, after := none }

/-- R332: EN written: at once, or once the descriptor in hand is finished: EN reads 1 until then (log 42). -/
def ringEn (s : State) (r : Nat) (on : Bool) : State :=
  if (ringAt s r).wait.isSome then setRing s r { ringAt s r with after := some on } else ringSwitch s r on

/-- R349: a write of CFG; EN = 1 sets POS to 0. -/
def ringCfgWrite (s : State) (q : Requester) (r : Nat) (data : Word) : State :=
  let was := getB s (ringR r 0) 0
  let s := writeMasked s q (ringR r 0) (putFld data 0 0 (bnat was)) ringCfgMasks (!was) (some (ringR r 0x10, 3)) 0
  if was || data.getLsbD 0 then ringEn s r (data.getLsbD 0) else s

def execRingEnable (q : Requester) (r : Fin 32) (data : Word) (win : List (BitVec 32 × List Byte)) (s : State) :
    Host.Outcome State Fault Refusal :=
  done (disarm (ringCfgWrite (hostWrites s win) q r.val (putFld data 0 0 1)) q)

def execRingDisable (q : Requester) (r : Fin 32) (data : Word) (s : State) : Host.Outcome State Fault Refusal :=
  done (disarm (ringCfgWrite s q r.val (putFld data 0 0 0)) q)

/-- R349: DONE and DROP of every ring; RING_WR_ERR_CNT is not cleared. -/
def ringCounters : List Nat := (List.range 32).flatMap fun r => [ringR r 0x18, ringR r 0x1C]

def ringClear (s : State) : State := zeroAll s ringCounters

def execRingCntClr (q : Requester) (s : State) : Host.Outcome State Fault Refusal := done (disarm (ringClear s) q)

/-! ### Journals (R336 to R339) -/

/-- R336: the eight words of an item. -/
def itemWords (i : JItem) : List Word :=
  [BitVec.ofNat 32 (i.ty + 256 * i.flags + 65536 * i.seq), BitVec.ofNat 32 i.stamp, BitVec.ofNat 32 (i.stamp / 2 ^ 32),
   BitVec.ofNat 32 i.src] ++ (List.range 4).map fun k => BitVec.ofNat 32 (leAt i.pay (4 * k) 4)

/-- R336: the latch of a requester: the host's and the supervisor's. -/
def setLatch (x : Jnl) (q : Requester) (ws : List Word) : Jnl :=
  match q with
  | .host => { x with latchH := ws }
  | .supervisor => { x with latchS := ws }
  | _ => x

/-- R336: the word a read of POP returns. -/
def popWord (s : State) (j : Nat) : Word :=
  match (jnlAt s j).items with
  | [] => 0
  | i :: _ => (itemWords i).getD 0 0

/-- R336, R337: the oldest item is removed and latched; a completion that cannot be sent counts as a lost pop. -/
def jnlPop (s : State) (q : Requester) (j : Nat) (lost : Bool) : State :=
  let x := jnlAt s j
  let s1 := if lost then s else send s (.completion q 0 (leBytes 4 (popWord s j).toNat))
  match x.items with
  | [] => s1
  | i :: rest =>
    let s2 := setJnl s1 j (setLatch { x with items := rest } q ((itemWords i).drop 1))
    if lost then raise (incC s2 (jnlR j 0x34)) 0x41000 2 else s2

def execJournalPop (q : Requester) (j : Fin 64) (lost : Bool) (s : State) : Host.Outcome State Fault Refusal :=
  done (jnlPop s q j.val lost)

def execJournalFlush (q : Requester) (j : Fin 64) (s : State) : Host.Outcome State Fault Refusal :=
  done (disarm (jnlFlush s j.val) q)

def jnlCfgMasks : Masks := { rw := 0x0FFFF001, rwd := 0x1E, rwk := 0, w1c := 0, kwo := 0 }

/-- R339: EN taken from 0 to 1: a DEPTH other than the one in force empties the journal; the next item carries FLUSHED. -/
def jnlEnable (s : State) (j : Nat) : State :=
  let d := getF s (jnlR j 0) 4 1
  let s := match (jnlAt s j).depth with
    | some old => if old = d then s else jnlFlush s j
    | none => s
  setJnl s j { jnlAt s j with depth := some d, flushFl := true }

/-- R350: a write of CFG. A DEPTH above 11 is ignored with CFG_REJECT. -/
def jnlCfgWrite (s : State) (q : Requester) (j : Nat) (data : Word) : State :=
  let was := getB s (jnlR j 0) 0
  let s := writeMasked s q (jnlR j 0) data jnlCfgMasks (!was) (some (0x41000, 0)) (if fld data 4 1 > 11 then 0x1E else 0)
  if !was && getB s (jnlR j 0) 0 then jnlEnable s j else s

def execJournalEnable (q : Requester) (j : Fin 64) (data : Word) (s : State) : Host.Outcome State Fault Refusal :=
  done (disarm (jnlCfgWrite s q j.val (putFld data 0 0 1)) q)

def execJournalDisable (q : Requester) (j : Fin 64) (data : Word) (s : State) : Host.Outcome State Fault Refusal :=
  done (disarm (jnlCfgWrite s q j.val (putFld data 0 0 0)) q)

/-- R350: DROPPED, LOST_READ and FLUSHES of every journal, and JNL_TRAIL_CNT. -/
def jnlCounters : List Nat := 0x4100C :: (List.range 64).flatMap fun j => [jnlR j 0x30, jnlR j 0x34, jnlR j 0x38]

def execJnlCntClr (q : Requester) (s : State) : Host.Outcome State Fault Refusal :=
  done (disarm (zeroAll s jnlCounters) q)

/-- R336: JNLnn_COUNT and JNLnn_HEAD as they read. -/
def jnlCountWord (s : State) (j : Nat) : Word :=
  BitVec.ofNat 32 ((jnlAt s j).items.length + 2 ^ 17 * bnat (markerLast (jnlAt s j)))

def jnlHeadWord (s : State) (j : Nat) : Word :=
  let x := jnlAt s j
  match x.items with
  | [] => BitVec.ofNat 32 x.nextSeq
  | i :: _ => BitVec.ofNat 32 (i.seq + 2 ^ 16)

/-! ### Writes that fail, reads that fail (R348, R375, R376) -/

/-- R348: the cause of a discarded write: 2 longer than one word, 1 byte enables, 0 reserved. -/
def wrErrCause (be : BitVec 4) (words : Nat) : Nat :=
  if words ≠ 1 then 2 else if be ≠ 15 then 1 else 0

/-- R348: the header of a memory request to BAR0, as PCI Express lays it out (PRESUMED, log 9): the format and the length in words; the requester's ID and
tag, which are free values (log 2), with the byte enables of the last word and the first; the address. -/
def requestHeader (s : State) (wrt : Bool) (off : Nat) (be : BitVec 4) (words : Nat) : List Word :=
  let v := (Config.freeValue s.free).toNat
  let last := if words ≤ 1 then 0 else nbits v 27 24
  [BitVec.ofNat 32 (2 ^ 30 * bnat wrt + words % 1024), BitVec.ofNat 32 (2 ^ 8 * (v % 2 ^ 24) + 2 ^ 4 * last + be.toNat),
   (confStored s 4 &&& 0xFF000000) + BitVec.ofNat 32 (off / 4 * 4), 0]

/-- R348: counted, latched, reported, and logged by AER as an advisory non-fatal Unsupported Request with the header. -/
def writeDiscard (s : State) (off : Nat) (data : Word) (be : BitVec 4) (words : Nat) : State :=
  let h := requestHeader s true off be words
  let s := raise (wr (incC s 0x51014) 0x51010 (BitVec.ofNat 32 (off % 2 ^ 24))) 0x51000 0
  let s := { s with free := s.free + 1, pcie := { s.pcie with aerUR := true, aerAdv := true, header := h } }
  evtItem s 0x51008 5 0x90 off (leBytes 4 data.toNat ++ [BitVec.ofNat 8 be.toNat, BitVec.ofNat 8 (wrErrCause be words)])

/-- R375, R376: Completer Abort, no data, no side effect but AER's log. -/
def readAbort (s : State) (off : Nat) (be : BitVec 4) (words : Nat) : State :=
  send { s with free := s.free + 1, pcie := { s.pcie with aerCA := true, header := requestHeader s false off be words } } (.abort off)

/-- R348, R376: a write of a location that is reserved for this requester. A supervisor access is a bus fault and has no effect here. -/
def reservedWrite (s : State) (q : Requester) (o : Nat) (d : Word) : State := if q = .host then writeDiscard s o d 15 1 else s

/-- R376: a read of one. -/
def reservedRead (s : State) (q : Requester) (o : Nat) : State := if q = .host then readAbort s o 15 1 else s

/-! ### The interrupt controller (R341 to R346) -/

/-- R342: of two sources, the one with the higher PRIO, the lower number winning a tie. -/
def better (s : State) (a b : Nat) : Nat :=
  if srcPrio s b > srcPrio s a then b else if srcPrio s a > srcPrio s b then a else min a b

/-- R342: the source that a claim by target `t` takes; 0 when none is claimable. -/
def bestSrc (s : State) (t : Nat) : Nat :=
  match (pendingSrcs s.irq).filter fun n => claimable s t n with
  | [] => 0
  | n :: l => l.foldl (better s) n

/-- The bit of a source. -/
def srcBit (n : Nat) : BitVec 512 := BitVec.ofNat 512 (2 ^ n)
def tgtBit (t : Nat) : BitVec 9 := BitVec.ofNat 9 (2 ^ t)

/-- R342, R346: P cleared, the source in service, its OWNER `t`. Source 185 is kept for each target. -/
def irqTake (q : Irq) (t n : Nat) : Irq :=
  if n = 185 then { q with nmiPend := q.nmiPend &&& ~~~ tgtBit t, nmiSvc := q.nmiSvc ||| tgtBit t }
  else { q with pend := q.pend &&& ~~~ srcBit n, insvc := q.insvc ||| srcBit n, owner := SMap.set (fun _ => 15) q.owner n t }

/-- R344: the set of target `t` counts as empty, so that `settle` sends its vector again when it is not. -/
def forgetHad (q : Irq) (t : Nat) : Irq := { q with had := q.had &&& ~~~ tgtBit t }

def irqClaimOp (s : State) (q : Requester) (t : Nat) : State :=
  let n := bestSrc s t
  let s := send s (.completion q 0 (leBytes 4 n))
  if n = 0 then s else { s with irq := forgetHad (irqTake s.irq t n) t }

/-- R342, R351: the target-8 registers accept the supervisor alone, and are reserved locations for the host (R376); a claim of theirs is then not
made. -/
def execIrqClaim (q : Requester) (t : Fin 9) (s : State) : Host.Outcome State Fault Refusal :=
  if t.val = 8 && q != .supervisor then done (reservedRead s q 0x20940) else done (irqClaimOp s q t.val)

/-- R343: source `n` is in service with OWNER `t`. -/
def heldBy (s : State) (t n : Nat) : Bool :=
  if n = 185 then s.irq.nmiSvc.getLsbD t
  else s.irq.insvc.getLsbD n && SMap.get (fun _ => 15) s.irq.owner n == t

/-- R343: out of service, OWNER 15. -/
def irqRelease (q : Irq) (t n : Nat) : Irq :=
  if n = 185 then { q with nmiSvc := q.nmiSvc &&& ~~~ tgtBit t }
  else { q with insvc := q.insvc &&& ~~~ srcBit n, owner := SMap.set (fun _ => 15) q.owner n 15 }

def irqCompleteOp (s : State) (t : Nat) (data : Word) : State :=
  let n := fld data 8 0
  if heldBy s t n then { s with irq := forgetHad (irqRelease s.irq t n) t }
  else raise (incC s 0x20A04) 0x20A00 0

/-- R343, R351: a host write of a target-8 register is discarded as one to a reserved location (R348, R376). -/
def execIrqComplete (q : Requester) (t : Fin 9) (data : Word) (s : State) : Host.Outcome State Fault Refusal :=
  if t.val = 8 && q != .supervisor then done (disarm (reservedWrite s q 0x20944 data) q) else done (disarm (irqCompleteOp s t.val data) q)

/-- R345: the 32 pending bits of word k replaced; there is no source 0. R341: an edge of Popezal's that arrives in the same
instant is applied after the write; one of a source in service does not set P. -/
def irqPendOp (s : State) (k : Nat) (data edges : Word) : State :=
  let keep := srcBit 0
  let m := (BitVec.ofNat 512 (2 ^ 32 - 1) <<< (32 * k)) &&& ~~~ keep
  let v := BitVec.ofNat 512 data.toNat <<< (32 * k)
  let up := if k < 8 then 0 else (BitVec.ofNat 512 edges.toNat <<< (32 * k)) &&& ~~~ s.irq.insvc
  { s with irq := { s.irq with pend := (s.irq.pend &&& ~~~ m) ||| (v &&& m) ||| up } }

def execIrqPendWrite (q : Requester) (k : Fin 16) (data edges : Word) (s : State) : Host.Outcome State Fault Refusal :=
  done (disarm (irqPendOp s k.val data edges) q)

/-- R346, R351: IRQ_PENDk and IRQ_INSVCk as they read. Bit 185 shows the event pending, or in service, for any target. -/
def irqPendWord (s : State) (k : Nat) : Word :=
  let x := s.irq.pend ||| (if s.irq.nmiPend != 0 then srcBit 185 else 0)
  BitVec.ofNat 32 ((x >>> (32 * k)).toNat % 2 ^ 32)

def irqInsvcWord (s : State) (k : Nat) : Word :=
  let x := s.irq.insvc ||| (if s.irq.nmiSvc != 0 then srcBit 185 else 0)
  BitVec.ofNat 32 ((x >>> (32 * k)).toNat % 2 ^ 32)

/-- R351: IRQ_SRC_CFGs as it reads: TARGETS and PRIO, OWNER, LEVEL, EDGE. -/
def irqCfgWord (s : State) (n : Nat) : Word :=
  if n = 0 then 0
  else
    let own := if n = 185 then 15 else SMap.get (fun _ => 15) s.irq.owner n
    BitVec.ofNat 32 (srcTargets s n + 2 ^ 9 * srcPrio s n + 2 ^ 12 * own + 2 ^ 16 * bnat (level s n)
      + 2 ^ 17 * bnat (decide (n ≥ 256)))

/-! ### Reads that fail (R375, R376) -/

/-- R375, R376: Completer Abort, no data, no side effect but AER's log. -/
def execBar0ReadAbort (off : BitVec 24) (be : BitVec 4) (words : Nat) (s : State) : Host.Outcome State Fault Refusal :=
  done (readAbort s off.toNat be words)

/-! ### PCI Express (R320, R321, R424, R507) -/

/-- R424: the function answers once the DEVICE section is applied. -/
def configReady (s : State) : Bool := s.boot.loaded

/-! ### Configuration space (R320, R321). AER, the one extended capability, stands at 0x100. -/

/-- A capability's first word: its ID and the place of the next. -/
def capHead (id next : Nat) (rest : Nat) : Word := BitVec.ofNat 32 (id + 256 * (4 * next % 256) + 65536 * rest)

/-- The bits of word `w` that a write sets. -/
def confMask (s : State) (w : Nat) : Nat :=
  match w with
  | 1 => 0x146
  | 3 => 0xFF
  | 4 => 0xFF000000
  | 6 => 2 ^ 32 - hostSize s
  | 7 | 9 => 0xFFFFFFFF
  | 8 => 0xE0000000
  | 15 => 0xFF
  | _ =>
    if w < 16 then 0
    else if w < 64 then (if w = capPm + 1 then 3 else if w = capExp + 2 then 0x78FF else 0)
    else if w = 66 ∨ w = 67 ∨ w = 69 then 0xFFFFFFFF else 0

/-- The three capabilities of the first 256 bytes: power management (D0 and D3hot), PCI Express (payloads to 512 bytes, function level
reset, Gen4 x4), MSI-X (8 vectors; the table and the PBA of R344 in BAR0). -/
def capWord (s : State) (w : Nat) : Word :=
  if w = capPm then capHead 0x01 capExp 3
  else if w = capPm + 1 then confStored s w
  else if w = capExp then capHead 0x10 capMsix 2
  else if w = capExp + 1 then 0x10008002
  else if w = capExp + 2 then confStored s w
  else if w = capExp + 3 then 0x44
  else if w = capExp + 4 then (if s.pcie.link then BitVec.ofNat 32 (2 ^ 16 * Config.linkStatus.toNat) else 0)
  else if w = capMsix then capHead 0x11 0 (7 + 2 ^ 14 * bnat s.pcie.msixMask + 2 ^ 15 * bnat s.pcie.msixEn)
  else if w = capMsix + 1 then 0x2F000
  else if w = capMsix + 2 then 0x2F800
  else 0

/-- AER: the errors logged (R348, R375, R376) and the header of the first. -/
def aerWord (s : State) (w : Nat) : Word :=
  if w = 64 then 0x00020001
  else if w = 65 then BitVec.ofNat 32 (2 ^ 15 * bnat s.pcie.aerCA + 2 ^ 20 * bnat s.pcie.aerUR)
  else if w = 68 then BitVec.ofNat 32 (2 ^ 13 * bnat s.pcie.aerAdv)
  else if 71 ≤ w ∧ w < 75 then s.pcie.header.getD (w - 71) 0
  else confStored s w

/-- R320, R321: a word of configuration space as it reads. -/
def configWord (s : State) (off : Nat) : Word :=
  match off / 4 with
  | 0 => 0x6448C0C5
  | 1 => confStored s 1 ||| 0x100000
  | 2 => 0x0280000B
  | 6 => confStored s 6 ||| 0xC
  | 8 => confStored s 8 ||| 0xC
  | 11 => s.boot.subsys
  | 13 => BitVec.ofNat 32 (4 * capPm % 256)
  | w => if w < 16 then confStored s w else if w < 64 then capWord s w else aerWord s w

/-- A write of Device Control: a payload above 512 bytes or a read request above 4,096 leaves its field. -/
def devControl (old data : Word) : Word :=
  let d := if fld data 7 5 > 2 then putFld data 7 5 (fld old 7 5) else data
  if fld data 14 12 > 5 then putFld d 14 12 (fld old 14 12) else d

/-- A write of the power-management state: D0 or D3hot. -/
def pmWrite (old data : Word) : Word := if fld data 1 0 = 1 ∨ fld data 1 0 = 2 then old else data

/-- R320: a configuration write; the word that the MSI-X capability holds enables and masks the vectors, and a one clears an AER status bit. -/
def configWrite (s : State) (off : Nat) (data : Word) : State :=
  let w := off / 4
  let old := confStored s w
  let d := if w < 16 then data else if w = capExp + 2 then devControl old data else if w = capPm + 1 then pmWrite old data else data
  let p := { s.pcie with cfg := SMap.set (fun _ => (0 : Word)) s.pcie.cfg w (d &&& BitVec.ofNat 32 (confMask s w)) }
  let p := if 16 ≤ w ∧ w < 64 ∧ w = capMsix then { p with msixEn := data.getLsbD 31, msixMask := data.getLsbD 30 } else p
  let p := if w = 65 then { p with aerCA := p.aerCA && !data.getLsbD 15, aerUR := p.aerUR && !data.getLsbD 20 } else p
  let p := if w = 68 then { p with aerAdv := p.aerAdv && !data.getLsbD 13 } else p
  { s with pcie := p }

end Sys2Proof.Machine
end

