-- ==== Sys2Proof/Machine/Device.lean ====
section
/-!
DEFINITION. Sys2Proof/Machine/Device.lean: register discipline and configuration integrity (chapter 14): the unlock key, the
running CRCs and committed references, the scrubber of triplicated fields. DEV_RESET is in Machine/Start.lean, the general
register write in Machine/Bus.lean, the rows of the CRCs and of the commit in Machine/Bud.lean.
-/
namespace Sys2Proof.Machine

/-! ### The unlock key (R379) -/

/-- R379: 0x6A5C in KEY arms the requester's key; any other value disarms it. -/
def unlockWrite (s : State) (q : Requester) (data : Word) : State := setArmed s q (fld data 15 0 == 0x6A5C)

def execDevUnlockWrite (q : Requester) (data : Word) (s : State) : Host.Outcome State Fault Refusal :=
  done (unlockWrite s q data)

/-! ### Running CRCs (R385) -/

/-- R385: the blocks with a _CFG_CRC and _CFG_REF pair, in ascending address order of _CFG_REF, which is the order in which
DEV_CFG_CRC takes them (R386): the offset of _CFG_CRC and of _CFG_REF. -/
def cfgBlocks : List (Nat × Nat) :=
  [(0x1001C, 0x10020), (0x20A08, 0x20A0C), (0x3A008, 0x3A00C), (0x41010, 0x41014), (0x51018, 0x5101C),
   (0x60040, 0x60044), (0x70044, 0x70048), (0x80020, 0x80024), (0x9001C, 0x90020)]
  ++ ((List.range 48).map fun n => (canR n 0x38, canR n 0x3C))
  ++ ((List.range 25).map fun p => (ethR p 0x28, ethR p 0x2C))
  ++ [(0x180034, 0x180038), (0x182014, 0x182018), (0x1A0028, 0x1A002C), (0x1A1010, 0x1A1014), (0x1A2038, 0x1A203C)]

/-- A word with the bits of a mask read as zero. -/
def less (s : State) (o mask : Nat) : Word := rd s o &&& ~~~ BitVec.ofNat 32 mask

def wordsAt (s : State) (os : List Nat) : List Word := os.map fun o => rd s o

/-- R212: CTRL less PORT_EN and BLOCK, CFG, PRP less SEQ, the shaper words. -/
def ethCfgWords (s : State) (p : Nat) : List Word :=
  [less s (ethR p 0) 0x201, rd s (ethR p 0x10), less s (ethR p 0x24) 0xFFFF0000] ++ wordsAt s (wordsFrom (ethR p 0x40) 24)

/-- R62's CRC order for a CAN channel: PROTO, NBT, DBT, XBT, TDC, PWM, STB with STB_POL and STB_WAKE alone. -/
def canCfgWords (s : State) (n : Nat) : List Word :=
  wordsAt s [canR n 0xC, canR n 0x10, canR n 0x14, canR n 0x18, canR n 0x1C, canR n 0x24]
    ++ [rd s (canR n 0x30) &&& 0x0000FF04]

/-- R233's order: the switch core, then each port's CFG, PCP_MAP, PORT_LIMIT and QLIMITs. -/
def swPorts : List Nat := List.range 24 ++ [25, 26]

def swCfgWords (s : State) : List Word :=
  [less s 0x180000 0x101] ++ wordsAt s [0x18000C, 0x180010, 0x180014, 0x180018, 0x18001C, 0x180020]
    ++ swPorts.flatMap fun q => wordsAt s ([swR q 0, swR q 4, swR q 8] ++ wordsFrom (swR q 0x10) 8)

def fwdCfgWords (s : State) : List Word :=
  [less s 0x182008 0x100] ++ wordsAt s [0x18200C, 0x182010]
    ++ swPorts.flatMap fun q => [rd s (fwdR q 0), less s (fwdR q 4) 0x104]

def timeCfgWords (s : State) : List Word :=
  [less s 0x60008 0x1001] ++ wordsAt s [0x6003C, 0x60050, 0x60070]
    ++ ((List.range 24).flatMap fun q => wordsAt s [0x61000 + 16 * q, 0x61004 + 16 * q, 0x6100C + 16 * q])
    ++ (List.range 16).flatMap fun l => wordsAt s (wordsFrom (teR l 0) 6)

def lanCfgWords (s : State) : List Word :=
  [less s 0x70008 0x80] ++ wordsAt s (wordsFrom 0x70100 24 ++ wordsFrom 0x70200 48)
    ++ (List.range 48).flatMap fun n => less s (segR n 0) 4 :: wordsAt s (wordsFrom (segR n 4) 3)

/-- MBXmm_CFG with its COMP, which is a triplicated field. -/
def mbxCfgWord (s : State) (m : Nat) : Word := putFld (rd s (mbxR m 0xC)) 3 0 (mbxOwner s m)

/-- CFG words of rings and journals carry their COMP in [11:8]. -/
def ringCfgWord (s : State) (r : Nat) : Word := putFld (rd s (ringR r 0)) 11 8 (ringOwner s r)
def jnlCfgWord (s : State) (j : Nat) : Word := putFld (rd s (jnlR j 0)) 11 8 (jnlOwner s j)

/-- The words that the running CRC of the block with _CFG_CRC at `c` covers, in the order its chapter lists. -/
def cfgWords (s : State) (c : Nat) : List Word :=
  if c = 0x1001C then [less s 0x10008 0x280, less s 0x10100 0x200000, rd s 0x10104]
  else if c = 0x20A08 then (List.range 511).map fun n => BitVec.ofNat 32 (srcTargets s (n + 1) + 512 * srcPrio s (n + 1))
  else if c = 0x3A008 then rd s 0x3A000 :: (List.range 10).map fun m => mbxCfgWord s m
  else if c = 0x41010 then (List.range 64).map fun j => jnlCfgWord s j &&& ~~~ 1
  else if c = 0x51018 then
    [rd s 0x51008, rd s 0x5100C] ++ (List.range 32).flatMap fun r => [ringCfgWord s r &&& ~~~ 1, rd s (ringR r 4)]
  else if c = 0x60040 then timeCfgWords s
  else if c = 0x70044 then lanCfgWords s
  else if c = 0x80020 then [less s 0x80008 0x8000, rd s 0x8001C]
  else if c = 0x9001C then
    [less s 0x90008 0x101, BitVec.ofNat 32 (triVal s 4 0), rd s 0x90014] ++ (List.range 8).map fun n => rd s (msR n 0)
  else if c = 0x180034 then swCfgWords s
  else if c = 0x182014 then fwdCfgWords s
  else if c = 0x1A0028 then [less s 0x1A0008 1, less s 0x1A0014 0x80] ++ wordsAt s [0x1A0018, 0x1A001C, 0x1A0020, 0x1A0024]
  else if c = 0x1A1010 then less s 0x1A1008 0x101 :: wordsAt s (wordsFrom 0x1A1040 16)
  else if c = 0x1A2038 then
    [less s 0x1A2008 0x401] ++ wordsAt s ([0x1A200C, 0x1A201C] ++ wordsFrom 0x1A2100 26)
  else if c < 0x140000 then canCfgWords s ((c - 0x100000) / 0x1000)
  else ethCfgWords s ((c - 0x140000) / 0x1000)

/-- The active value of a reference. -/
def refActive (s : State) (o : Nat) : Word := SMap.get (fun _ => (0 : Word)) s.refActive o

/-- R386, R425: CFG_MISMATCH of a block; it reads 0 until CONFIG is set. -/
def mismatch (s : State) (b : Nat × Nat) : Bool := ready s 11 && rd s b.1 != refActive s b.2

/-- R388: a CFG_MISMATCH that goes from 0 to 1. -/
def mismatchRaised (s : State) (b : Nat × Nat) : State :=
  evtItem (devFault (raise s 4 1) 0) 0x28 0 0x02 b.1 (leBytes 4 (rd s b.1).toNat ++ leBytes 4 (refActive s b.2).toNat)

/-- R388: for each block of a list, the rise of CFG_MISMATCH from the state `was`. -/
def mismatchRises (was : State) (s : State) : List (Nat × Nat) → State
  | [] => s
  | b :: bs => mismatchRises was (if mismatch s b && !mismatch was b then mismatchRaised s b else s) bs

/-- The `b`-th block of `cfgBlocks`. -/
def cfgBlock (b : Nat) : Nat × Nat := cfgBlocks.getD b (0x1001C, 0x10020)

/-- R385, R388: the running CRC of a block follows its covered fields. -/
def crcUpdate (s : State) (b : Nat) : State :=
  let k := cfgBlock b
  mismatchRises s (wr s k.1 (crcWords (cfgWords s k.1))) [k]

/-! ### Commits (R386, R387) -/

/-- The staged references as they stand. -/
def stagedRefs (s : State) : List (Nat × Word) := cfgBlocks.map fun b => (b.2, rd s b.2)

/-- R386, R387: COMMIT starts a commit with the staged values; while one runs it is ignored. -/
def commitStart (s : State) : State :=
  if getB s 0x20 1 then s else setB { s with dev := { s.dev with commit := some (stagedRefs s) } } 0x20 1 true

def execDevCommitWrite (q : Requester) (s : State) : Host.Outcome State Fault Refusal :=
  done (disarm (if keyOk s q then commitStart s else lockReject s) q)

/-- Each reference becomes active. -/
def activate (m : SMap Word) : List (Nat × Word) → SMap Word
  | [] => m
  | r :: rs => activate (SMap.set (fun _ => (0 : Word)) m r.1 r.2) rs

/-- R386: the staged values become active in one step, DEV_CFG_CRC is computed, COMMIT_DONE_EV is set. -/
def commitEnd (s : State) : State :=
  match s.dev.commit with
  | none => s
  | some refs =>
    let s1 := { s with refActive := activate s.refActive refs, dev := { s.dev with commit := none } }
    let s2 := wr s1 0x24 (crcWords (refs.map fun r => r.2))
    mismatchRises s (raise (setB s2 0x20 1 false) 4 3) cfgBlocks

/-! ### Triplicated fields (R389) -/

/-- An upset that the scrubber meets: one copy holds another value. -/
def upsetCopy (s : State) (u : Upset) : State :=
  let t := triAt s u.field.val u.index
  let t' := match u.copy.val with
    | 0 => { t with c0 := u.value }
    | 1 => { t with c1 := u.value }
    | _ => { t with c2 := u.value }
  { s with tri := SMap.set (fun _ => Tri.init) s.tri (triKey u.field.val u.index) t' }

/-- The copies that differ from the majority. -/
def badCopies (t : Tri) : List Nat :=
  let v := t.vote
  (if t.c0 = v then [] else [0]) ++ (if t.c1 = v then [] else [1]) ++ (if t.c2 = v then [] else [2])

/-- R394: the index of the resource or slot that a triplicated field belongs to; which class of resource, item 0x01 does not say. -/
def triIndex (key : Nat) : Nat :=
  if key / 2 ^ 24 = 0 then key % 2 ^ 16
  else if key / 2 ^ 24 = 3 then key % 2 ^ 24 / 4
  else key % 2 ^ 24

/-- R389: one copy rewritten from the majority, counted and reported. -/
def voteReport (s : State) (key copy : Nat) (v : Word) : State :=
  let s := devFault (raise (incC s 0x30) 4 2) 1
  evtItem s 0x28 0 0x01 (key / 2 ^ 24) (leBytes 4 (triIndex key) ++ [BitVec.ofNat 8 copy, 0, 0, 0] ++ leBytes 4 v.toNat)

/-- R389: the copies of one field compared and repaired. -/
def voteField (s : State) (key : Nat) : State :=
  let t := SMap.get (fun _ => Tri.init) s.tri key
  let s' := { s with tri := SMap.set (fun _ => Tri.init) s.tri key { c0 := t.vote, c1 := t.vote, c2 := t.vote } }
  (badCopies t).foldl (fun a c => voteReport a key c t.vote) s'

/-- R389: a visit of the scrubber to every triplicated field. A field that is not listed has three equal copies. -/
def voteAll (s : State) : State := (s.tri.map fun e => e.1).foldl voteField s

def execVoteScrub (upset : List Upset) (s : State) : Host.Outcome State Fault Refusal :=
  done (voteAll (upset.foldl upsetCopy s))

/-- R391: DEV_LOCK_REJECT and DEV_VOTE_FIX. -/
def devClear (s : State) : State := zeroAll s [0x2C, 0x30]

def execDevCntClr (q : Requester) (s : State) : Host.Outcome State Fault Refusal := done (disarm (devClear s) q)

end Sys2Proof.Machine
end

