-- ==== Sys2Proof/Machine/Hash.lean ====
section
/-!
DEFINITION. Sys2Proof/Machine/Hash.lean: the bucket store that the XIM (R75 to R79) and the EFTs (R241, R242) share: 8,192 buckets
of 4 ways, two buckets for each key, and relocation along the first shortest path of at most four moves.
-/
namespace Sys2Proof.Machine

/-- R76: the two buckets of a key given as bytes. -/
def bucketsOf (key : List Byte) : Nat × Nat :=
  let c := crc32c key
  let h0 := c % 8192
  let h1 := (c / 8192) % 8192
  (h0, if h1 = h0 then h0 ^^^ 1 else h1)

/-- The eight positions of a key: h0 before h1, way 0 to 3. -/
def positions (key : List Byte) : List Nat :=
  let b := bucketsOf key
  [4 * b.1, 4 * b.1 + 1, 4 * b.1 + 2, 4 * b.1 + 3, 4 * b.2, 4 * b.2 + 1, 4 * b.2 + 2, 4 * b.2 + 3]

/-- VALID is bit 0 of the entry in both tables. -/
def eValid (e : BitVec 768) : Bool := e.getLsbD 0

/-- R77: where a valid entry with this key stands. -/
def hashFind (s : State) (code : Nat) (kb : BitVec 768 → List Byte) (key : List Byte) : Option Nat :=
  (positions key).find? fun i => eValid (tGet s code i) && kb (tGet s code i) == key

/-- R78: the first free way, of h0 and then of h1. -/
def hashFree (s : State) (code : Nat) (key : List Byte) : Option Nat :=
  (positions key).find? fun i => !eValid (tGet s code i)

/-- The other bucket of the occupant of position `i`. -/
def otherBucket (s : State) (code : Nat) (kb : BitVec 768 → List Byte) (i : Nat) : Nat :=
  let b := bucketsOf (kb (tGet s code i))
  if i / 4 = b.1 then b.2 else b.1

def waysOf (b : Nat) : List Nat := [4 * b, 4 * b + 1, 4 * b + 2, 4 * b + 3]

/-- The first path, of those given, whose last occupant's other bucket has a free way; the way is added at its end. -/
def pathEnd (s : State) (code : Nat) (kb : BitVec 768 → List Byte) : List (List Nat) → Option (List Nat)
  | [] => none
  | p :: ps =>
    match (waysOf (otherBucket s code kb (p.getLastD 0))).find? fun i => !eValid (tGet s code i) with
    | some f => some (p ++ [f])
    | none => pathEnd s code kb ps

/-- R78: breadth-first, at most `n` moves. -/
def relocPath (s : State) (code : Nat) (kb : BitVec 768 → List Byte) : Nat → List (List Nat) → Option (List Nat)
  | 0, _ => none
  | n + 1, ps =>
    match pathEnd s code kb ps with
    | some p => some p
    | none => relocPath s code kb n
        (ps.flatMap fun p => (waysOf (otherBucket s code kb (p.getLastD 0))).map fun w => p ++ [w])

/-- The relocation path for a key whose eight positions are full: positions, the last of them free. -/
def hashPath (s : State) (code : Nat) (kb : BitVec 768 → List Byte) (key : List Byte) : Option (List Nat) :=
  relocPath s code kb 4 ((positions key).map fun i => [i])

/-- The moves of a path, from its end backwards: (from, to). -/
def pathMoves : List Nat → List (Nat × Nat)
  | a :: b :: r => pathMoves (b :: r) ++ [(a, b)]
  | _ => []

/-- A position written by a move; R74 keeps what an XIM position held. -/
def movePut (s : State) (code i : Nat) (e : BitVec 768) : State := if code = tXim then keyPut s code i e else tSet s code i e

/-- The occupant copied to its new position. -/
def moveCopy (s : State) (code : Nat) (m : Nat × Nat) : State := movePut s code m.2 (tGet s code m.1)

/-- The old position invalidated: its entry is zero (DESIGN CHOICE, log 42). -/
def moveDrop (s : State) (code : Nat) (m : Nat × Nat) : State := movePut s code m.1 0

/-- One move: the occupant copied to its new position, then the old one invalidated. -/
def moveEntry (s : State) (code : Nat) (m : Nat × Nat) : State := moveDrop (moveCopy s code m) code m

/-- R79: position `i` holds an occupant that has been copied and not yet invalidated. -/
def stale (s : State) (code i : Nat) : Bool :=
  s.relocs.any fun r => r.code == code && r.copied && r.moves.head?.map (fun m => m.1) == some i

end Sys2Proof.Machine
end

