-- ==== Sys2Proof/Machine/Forward.lean ====
section
/-!
DEFINITION. Sys2Proof/Machine/Forward.lean: forwarding, classification and compartments (chapter 9): the decision of R236,
VLANs, the EFT with learning and ageing, ingress rules, meters, port authorisation, shadows, and the operations of the
tables of R260.
-/
namespace Sys2Proof.Machine

/-! ### Ports and planes -/

/-- R215: the plane of a physical port. -/
def planeOf (s : State) (q : Nat) : Nat := bnat (frcB s 0x18000C q)

/-- R206: FP(2k) and FP(2k + 1) form a pair. -/
def pairOn (s : State) (p : Nat) : Bool := decide (p < 8) && frcB s (ethR (p - p % 2) 0x24) 0

/-- R206: the ingress port of what port `p` receives. -/
def ingressOf (s : State) (p : Nat) : Nat := if pairOn s p then p - p % 2 else p

def portEn (s : State) (p : Nat) : Bool := getB s (ethR p 0) 0
def linkIs (s : State) (p : Nat) : Bool := getB s (ethR p 0x0C) 0

/-- R254: the controlled port of port q. -/
def authorised (s : State) (q : Nat) : Bool :=
  if 8 ≤ q ∧ q < 24 then
    let m := getF s (fwdR q 4) 1 0
    m == 0 || (m != 1 && getB s (fwdR q 4) 2)
  else true

/-- R210: 0 DOWN, 1 BLOCKED, 2 UNAUTHORISED, 3 FORWARD. -/
def portState (s : State) (p : Nat) : Nat :=
  if !portEn s p || !linkIs s p then 0
  else if getB s (ethR p 0) 9 then 1
  else if !authorised s p then 2
  else 3

/-- The ports named by the bits of a mask (bit 24 names none). -/
def portsOf (m : Nat) : List Nat := (List.range 27).filter fun q => q != 24 && nbit m q

/-! ### VLAN entries (R239) -/

def vlanAt (s : State) (pl vid : Nat) : BitVec 768 := tGet s (tVlan pl) vid
def vlValid (e : BitVec 768) : Bool := e.getLsbD 0
def vlLearn (e : BitVec 768) : Bool := e.getLsbD 1
def vlUuc (e : BitVec 768) : Bool := e.getLsbD 2
def vlUmc (e : BitVec 768) : Bool := e.getLsbD 3
def vlFid (e : BitVec 768) : Nat := eFld e 0 15 4
def vlComp (e : BitVec 768) : Nat := eFld e 0 19 16
def vlMembers (e : BitVec 768) : Nat := eFld e 1 26 0
def vlUntagged (e : BitVec 768) : Nat := eFld e 2 26 0

/-! ### EFT entries (R241, R242) -/

def eftAt (s : State) (pl i : Nat) : BitVec 768 := tGet s (tEft pl) i
def efStatic (e : BitVec 768) : Bool := e.getLsbD 1
def efDiscard (e : BitVec 768) : Bool := e.getLsbD 2
def efMap (e : BitVec 768) : Bool := e.getLsbD 3
def efPort (e : BitVec 768) : Nat := eFld e 0 8 4
def efComp (e : BitVec 768) : Nat := eFld e 0 15 12
def efFid (e : BitVec 768) : Nat := eFld e 0 27 16
def efAge (e : BitVec 768) : Nat := eFld e 2 31 16
def efPorts (e : BitVec 768) : Nat := eFld e 3 26 0
def efMacBytes (e : BitVec 768) : List Byte := slice (eBytes 16 e) 4 6

/-- R242: FID × 2^48 + MAC as eight bytes, most significant first. -/
def eftKey (fid mac : Nat) : List Byte := beBytes 2 fid ++ beBytes 6 mac
def eftKb (e : BitVec 768) : List Byte := beBytes 2 (efFid e) ++ efMacBytes e

/-- R244: a learned entry. -/
def learnedEntry (fid mac q comp age : Nat) : BitVec 768 :=
  BitVec.ofNat 768 (1 + q * 2 ^ 4 + comp * 2 ^ 12 + fid * 2 ^ 16 + leNat (beBytes 6 mac) * 2 ^ 32 + age * 2 ^ 80)

def efSetAge (e : BitVec 768) (age : Nat) : BitVec 768 := ePut e 2 31 16 age

def learned (e : BitVec 768) : Bool := eValid e && !efStatic e

def fwdNow (s : State) : Nat := getF s 0x182020 15 0

/-- R245: the age of a learned entry. -/
def efAgeOf (s : State) (e : BitVec 768) : Nat := (fwdNow s + 65536 - efAge e) % 65536

/-- The counter of a plane in the block at 0x182000. -/
def fwdCnt (o pl : Nat) : Nat := 0x182000 + o + 4 * pl

/-- R265: item 0x60. Events 0 to 2 and 4 need LEARN_JNL_EN. -/
def eftItem (s : State) (pl i : Nat) (e : BitVec 768) (ev new old : Nat) : State :=
  if ev = 3 || getB s 0x182008 7 then
    evtItem s 0x182008 0 0x60 (pl * 2 ^ 16 + i)
      (efMacBytes e ++ leBytes 2 (efFid e) ++ [BitVec.ofNat 8 ev, BitVec.ofNat 8 new, BitVec.ofNat 8 old])
  else s

/-! ### The decision -/

/-- R243: the targets of step 6 before the verdict, as a mask. -/
def eftTargets (s : State) (pl : Nat) (vl : BitVec 768) (dst : Nat) : Nat :=
  match hashFind s (tEft pl) eftKb (eftKey (vlFid vl) dst) with
  | some i =>
    let e := eftAt s pl i
    if efDiscard e then 0 else if efMap e then efPorts e else 2 ^ efPort e
  | none =>
    let flood := if dst = broadcast then true else if isGroup dst then vlUmc vl else vlUuc vl
    if flood then vlMembers vl % 2 ^ 26 else 0

/-- R249: the valid rule with the lowest index that matches a key. -/
def irtMatch (s : State) (pl key : Nat) : Option (Nat × BitVec 768) :=
  (tList s (tIrt pl)).find? fun r =>
    r.2.getLsbD 640 && (key &&& nbits r.2.toNat 639 320) == nbits r.2.toNat 319 0

/-- The action words of a rule: word w, bits [hi:lo]. -/
def irtA (e : BitVec 768) (w hi lo : Nat) : Nat := eFld e (20 + w) hi lo

/-- HITS counted. -/
def irtHit (s : State) (pl : Nat) (r : Nat × BitVec 768) : State :=
  tSet s (tIrt pl) r.1 (ePut r.2 23 31 0 (eFld r.2 23 31 0 + 1))

/-- R252: the buckets of a meter as they stand now, in millionths of a bit: CIR kbit/s is 2 × CIR millionths of a bit in each tick
of 2 ns. -/
def meterNow (s : State) (m : Nat) : Bucket :=
  let e := tGet s tMeter m
  let b := SMap.get (fun _ => Bucket.init) s.fwd.meter m
  let d : Int := (s.ticks - b.at_ : Nat)
  { tc := min (8000000 * (eFld e 3 23 0 : Nat)) (b.tc + 2 * (eFld e 1 24 0 : Nat) * d)
    tp := min (8000000 * (eFld e 4 23 0 : Nat)) (b.tp + 2 * (eFld e 2 24 0 : Nat) * d), at_ := s.ticks }

def setBucket (s : State) (m : Nat) (b : Bucket) : State :=
  { s with fwd := { s.fwd with meter := SMap.set (fun _ => Bucket.init) s.fwd.meter m b } }

/-- R253: a frame of `n` bytes judged: the colour (0 green, 1 yellow, 2 red), counted. -/
def meterJudge (s : State) (m n : Nat) : State × Nat :=
  let b := meterNow s m
  let x : Int := 8000000 * (n : Nat)
  let c := if b.tp < x then 2 else if b.tc < x then 1 else 0
  let b' := if c = 2 then b else if c = 1 then { b with tp := b.tp - x } else { b with tp := b.tp - x, tc := b.tc - x }
  let e := tGet s tMeter m
  (tSet (setBucket s m b') tMeter m (ePut e (5 + c) 31 0 (eFld e (5 + c) 31 0 + 1)), c)

/-- What a frame brings to its decision: the ingress port q, the physical port that received it (its state counts
in step 1), the compartment F, the class that its source gives (R221, rules 2 to 4), and its bytes. -/
structure DecIn where
  q    : Nat
  phys : Option Nat
  comp : Nat
  tc   : Option Nat
  data : List Byte
  deriving DecidableEq, Repr

/-- What one plane decides: whether a step dropped the frame, its targets among ports 0 to 25, delivery to SG under R23, a
COPY_SG copy, the class and the VID. -/
structure Verdict where
  drop    : Bool
  targets : List Nat
  sg      : Bool
  copy    : Bool
  tc      : Nat
  vid     : Nat
  deriving DecidableEq, Repr

def Verdict.none : Verdict := { drop := true, targets := [], sg := false, copy := false, tc := 0, vid := 0 }

/-- R238, R237: the VID. -/
def vidOf (s : State) (q : Nat) (f : List Byte) : Nat :=
  if tagVid f ≠ 0 then tagVid f else getF s (fwdR q 0) 11 0

/-- R238: the drop of step 2, the compartment check apart. -/
def vlanDrops (s : State) (pl : Nat) (d : DecIn) : Bool :=
  let vl := vlanAt s pl (vidOf s d.q d.data)
  let acc := getF s (fwdR d.q 0) 13 12
  !vlValid vl || (d.phys.isSome &&
    ((acc == 1 && tagVid d.data == 0) || (acc == 2 && tagVid d.data != 0) || !nbit (vlMembers vl) d.q))

/-- R221: the class of a frame; `rule` is what step 9 takes from the matched rule. -/
def classOf (s : State) (d : DecIn) (rule : Option Nat) : Nat :=
  match rule, d.tc with
  | some t, _ => t
  | none, some t => t
  | none, none =>
    if hasTag d.data then getF s (swR d.q 4) (3 * tagPcp d.data + 2) (3 * tagPcp d.data) else getF s (swR d.q 0) 3 1

/-- R23: SG takes the frame: a bundle to the device's bundle address or to a joined group, a TRDP telegram of a subscribed
group, or message data for the device. -/
def sgWanted (s : State) (f : List Byte) : Bool :=
  let own := tGet s tBat (ownVeh s)
  let isOwn := own.getLsbD 0 && slice (eBytes 16 own) 4 6 == f.take 6
  let joined := isGroup (ethDst f) && (tList s tBat).any fun e =>
    e.2.getLsbD 0 && e.2.getLsbD 5 && slice (eBytes 16 e.2) 4 6 == f.take 6
  let me := (frc s 0x1A201C).toNat
  (etherType f == 0x88B5 && (isOwn || joined))
    || (isV4 f && isTrdp f && (ipDst f == me || (tList s tTtt).any fun e =>
          e.2.getLsbD 0 && !e.2.getLsbD 1 && eFld e.2 3 31 0 == ipDst f))
    || (isV4 f && isUdpTo f 17225 && ipDst f == me)

/-- The compartment of a target (R255: HP counts as a port of F, SG as one of C0). -/
def targetComp (s : State) (comp t : Nat) : Nat := if t = 25 then comp else if t = 26 then 0 else portOwner s t

/-- R255: the target survives the boundary. -/
def crosses (s : State) (comp : Nat) (rule : Option (BitVec 768)) (t : Nat) : Bool :=
  targetComp s comp t == comp ||
    (match rule with
     | some r => irtA r 0 20 20 == 1 && irtA r 0 24 21 == targetComp s comp t
     | none => false)

/-- R236 step 8, R210, R254: a physical port that may be named: its state is DOWN by its link alone, or lets traffic out. -/
def nameable (s : State) (p : Nat) : Bool :=
  portEn s p && (match portState s p with
    | 0 => true
    | 1 => false
    | 2 => getB s (fwdR p 4) 3
    | _ => true)

/-- R456: a PRP pair of SYNC_PAIRS sends only frames from SG while the buddy mode is ACTIVE or STANDBY. -/
def syncOnly (s : State) (q : Nat) : Bool :=
  pairOn s q && getB s 0x80008 (2 + q / 2) && (getF s 0x80010 1 0 == 1 || getF s 0x80010 1 0 == 2)

/-- R206, R225: the physical ports of a target: those of a pair whose link is up, or both. -/
def expand (s : State) (t : Nat) : List Nat :=
  if t < 24 && pairOn s t then
    let c := [t, t + 1].filter (nameable s)
    if c.any (linkIs s) then c.filter (linkIs s) else c
  else if t < 24 then (if nameable s t then [t] else [])
  else [t]

/-- R236 step 8 before the boundary: the ingress port, ports of the other plane, the second port of a pair and ports that
may not be named are removed silently. -/
def named8 (s : State) (pl : Nat) (d : DecIn) (t : Nat) : Bool :=
  t != d.q && t != 26 && (t == 25 || (planeOf s t == pl && !(pairOn s t && t % 2 == 1) && !(expand s t).isEmpty))

/-- R456: of these targets, the pairs that send frames from SG alone. -/
def synced (s : State) (pl : Nat) (d : DecIn) (ts : List Nat) : List Nat :=
  ts.filter fun t => named8 s pl d t && syncOnly s t && d.q != 26

/-- R236 step 8, R456: what is left before the boundary. -/
def silently (s : State) (pl : Nat) (d : DecIn) (ts : List Nat) : List Nat :=
  ts.filter fun t => named8 s pl d t && !(syncOnly s t && d.q != 26)

/-- R236 steps 4 to 10 after the rule, with the meter's colour. SG is the ingress port of its own frames. A pair that R456 removes counts once in
NOTARGET, and a frame that it leaves without target not once more (DEDUCED, log 20). -/
def decideRest (s : State) (pl : Nat) (d : DecIn) (rule : Option (BitVec 768)) (colour : Nat) : State × Verdict :=
  let vid := vidOf s d.q d.data
  let vl := vlanAt s pl vid
  let verdict := match rule with | some r => irtA r 0 2 1 | none => 0
  if verdict = 1 then (incC s (fwdR d.q 0x0C), Verdict.none)
  else
    let base := eftTargets s pl vl (ethDst d.data)
    let ports := match rule with | some r => irtA r 1 26 0 | none => 0
    let mask := if verdict = 2 then ports else if verdict = 3 then base ||| ports else base
    let sg := sgWanted s d.data
    let copy := match rule with | some r => irtA r 0 7 7 == 1 | none => false
    let named := if sg && !isGroup (ethDst d.data) then [] else (portsOf mask).filter fun t => !(sg && t == 25)
    let left := silently s pl d named
    let paired := (synced s pl d named).length
    let kept := left.filter (crosses s d.comp rule)
    let sgOk := crosses s d.comp rule 26
    let inner := d.q != 26
    let lost := kept.length < left.length || ((sg || copy) && inner && !sgOk)
    let s := if lost then incC s (fwdR d.q 0x10) else s
    let ruleTc := match rule with
      | some r => if irtA r 0 29 29 = 1 && colour = 1 then some (irtA r 2 2 0)
                  else if irtA r 0 3 3 = 1 then some (irtA r 0 6 4) else none
      | none => none
    let v : Verdict := { drop := false, targets := kept.flatMap (expand s), sg := sg && inner && sgOk, copy := copy && inner && sgOk
                         tc := classOf s d ruleTc, vid := vid }
    let none_ := v.targets.isEmpty && !v.sg && !v.copy
    let s := addC s (fwdR d.q 0x18) (if paired = 0 then bnat none_ else paired)
    (s, v)

/-- R244: a learning request queued after the decision. -/
def learnQueue (s : State) (pl : Nat) (r : LearnReq) : State :=
  let q := if pl = 0 then s.fwd.learnA else s.fwd.learnB
  if q.length ≥ 1024 then raise (incC s (fwdCnt 0x68 pl)) 0x182000 3
  else if pl = 0 then { s with fwd := { s.fwd with learnA := q ++ [r] } }
  else { s with fwd := { s.fwd with learnB := q ++ [r] } }

/-- R236 step 10. -/
def learnStep (s : State) (pl : Nat) (d : DecIn) : State :=
  let vl := vlanAt s pl (vidOf s d.q d.data)
  if d.phys.isSome && getB s (fwdR d.q 0) 14 && vlLearn vl then
    learnQueue s pl { fid := vlFid vl, mac := ethSrc d.data, port := d.q, comp := vlComp vl }
  else s

/-- R236 step 1: what the port state drops. -/
def stateDrops (s : State) (d : DecIn) : Bool :=
  match d.phys with
  | some p => portState s p != 3
  | none => false

/-- R236: plane `pl` decides a frame. -/
def decide1 (s : State) (pl : Nat) (d : DecIn) : State × Verdict :=
  let vid := vidOf s d.q d.data
  let vl := vlanAt s pl vid
  if stateDrops s d then (incC s (fwdR d.q 0x14), Verdict.none)
  else if vlanDrops s pl d then (incC s (fwdR d.q 0x08), Verdict.none)
  else
    let m := irtMatch s pl (irtKey d.q vid d.comp (getF s 0x182010 (8 * pl + 6) (8 * pl)) d.data)
    let s := match m with | some r => irtHit s pl r | none => s
    let rule := m.map fun r => r.2
    let open_ := match rule with | some r => irtA r 0 20 20 == 1 && irtA r 0 24 21 == owned s (vlComp vl) | none => false
    if owned s (vlComp vl) != d.comp && !open_ then (incC s (fwdR d.q 0x10), Verdict.none)
    else
      let metered := match rule with
        | some r => irtA r 0 8 8 == 1 && (tGet s tMeter (irtA r 0 19 9)).getLsbD 0
        | none => false
      let j : State × Nat := if metered then meterJudge s (match rule with | some r => irtA r 0 19 9 | none => 0) (d.data.length + 4) else (s, 0)
      if j.2 = 2 then (incC j.1 (fwdR d.q 0x1C), Verdict.none)
      else
        let k := decideRest j.1 pl d rule j.2
        if k.2.drop then k else (learnStep k.1 pl d, k.2)

/-! ### Insertion into an EFT (R242, R246) -/

/-- The first half of a move of an occupant; a static entry's shadow goes with it. -/
def eftCopy (s : State) (pl : Nat) (m : Nat × Nat) : State :=
  let s' := moveCopy s (tEft pl) m
  if efStatic (eftAt s pl m.1) then shSet s' (tEft pl) m.2 (shGet s (tEft pl) m.1) else s'

/-- The second half, which counts the move. -/
def eftDrop (s : State) (pl : Nat) (m : Nat × Nat) : State :=
  let s' := incC (moveDrop s (tEft pl) m) (fwdCnt 0x78 pl)
  if efStatic (eftAt s pl m.1) then shSet s' (tEft pl) m.1 0 else s'

/-- A move. -/
def eftMove (s : State) (pl : Nat) (m : Nat × Nat) : State := eftDrop (eftCopy s pl m) pl m

/-- R246: of two learned positions, the one with the greater age, the lower index winning a tie. -/
def olderOf (s : State) (pl a b : Nat) : Nat :=
  let x := efAgeOf s (eftAt s pl a)
  let y := efAgeOf s (eftAt s pl b)
  if x > y then a else if y > x then b else min a b

/-- R246: the position to evict; none when all eight occupants are static. A random pick is a free value (log 2). -/
def evictPick (s : State) (pl : Nat) (key : List Byte) : Option Nat :=
  match (positions key).filter fun i => learned (eftAt s pl i) with
  | [] => none
  | a :: l =>
    if frcB s 0x182008 9 then some ((a :: l).getD (Config.freePick (l.length + 1) s.free % (l.length + 1)) a)
    else some (l.foldl (olderOf s pl) a)

/-- Where a new key goes, with the state after any relocation or eviction; none when neither can make room. -/
def eftRoom (s : State) (pl : Nat) (key : List Byte) : State × Option Nat :=
  match hashFree s (tEft pl) key with
  | some i => (s, some i)
  | none =>
    match hashPath s (tEft pl) eftKb key with
    | some path => ((pathMoves path).foldl (fun a m => eftMove a pl m) s, path.head?)
    | none =>
      match evictPick s pl key with
      | none => (s, none)
      | some i =>
        let e := eftAt s pl i
        let s := if frcB s 0x182008 9 then { s with free := s.free + 1 } else s
        (eftItem (raise (incC (tSet s (tEft pl) i 0) (fwdCnt 0x58 pl)) 0x182000 2) pl i e 3 0 (efPort e), some i)

/-- R244: a learned entry written to its position. -/
def learnAt (s : State) (pl i : Nat) (e : BitVec 768) : State := eftItem (incC (tSet s (tEft pl) i e) (fwdCnt 0x48 pl)) pl i e 0 (efPort e) 0

/-- A relocation along `path` that makes room for `e`. -/
def relocOf (code page : Nat) (path : List Nat) (e : BitVec 768) : Reloc :=
  { code := code, page := page, moves := pathMoves path, copied := false, slot := path.headD 0, entry := e }

/-- R242, R258: the way for a key whose buckets are full and which a relocation makes room for. -/
def relocWay (s : State) (code : Nat) (kb : BitVec 768 → List Byte) (key : List Byte) : Option (List Nat) :=
  if (hashFree s code key).isSome then none else hashPath s code kb key

/-- R244, R258: an unknown source address is inserted. Where that takes a relocation, it comes in the relocation's end. -/
def learnNew (s : State) (pl : Nat) (r : LearnReq) : State :=
  let e := learnedEntry r.fid r.mac r.port r.comp (fwdNow s)
  match relocWay s (tEft pl) eftKb (eftKey r.fid r.mac) with
  | some path => { s with relocs := s.relocs ++ [relocOf (tEft pl) 26 path e] }
  | none =>
    match eftRoom s pl (eftKey r.fid r.mac) with
    | (s, some i) => learnAt s pl i e
    | (s, none) => raise (incC s (fwdCnt 0x60 pl)) 0x182000 3

/-- R244: one learning request applied. -/
def learnDo (s : State) (pl : Nat) (r : LearnReq) : State :=
  match hashFind s (tEft pl) eftKb (eftKey r.fid r.mac) with
  | none => learnNew s pl r
  | some i =>
    let e := eftAt s pl i
    if efStatic e then (if efPort e ≠ r.port || efMap e then incC s 0x182084 else s)
    else if efPort e = r.port then tSet s (tEft pl) i (efSetAge e (fwdNow s))
    else
      let e' := efSetAge (ePut e 0 8 4 r.port) (fwdNow s)
      eftItem (incC (tSet s (tEft pl) i e') (fwdCnt 0x50 pl)) pl i e' 1 r.port (efPort e)

/-- R244: the oldest learning request of a plane. Nothing waiting: nothing happens. -/
def learnApply (s : State) (pl : Nat) : State :=
  if pl = 0 then
    match s.fwd.learnA with
    | [] => s
    | r :: l => learnDo { s with fwd := { s.fwd with learnA := l } } 0 r
  else
    match s.fwd.learnB with
    | [] => s
    | r :: l => learnDo { s with fwd := { s.fwd with learnB := l } } 1 r

def planeNo : Plane → Nat
  | .a => 0
  | .b => 1

/-! ### Ageing, flushes (R245, R247) -/

/-- A learned entry removed as though aged. -/
def ageOut (s : State) (pl i : Nat) : State :=
  let e := eftAt s pl i
  eftItem (incC (tSet s (tEft pl) i 0) (fwdCnt 0x70 pl)) pl i e 2 0 (efPort e)

/-- R245: the scan's visit to one index. -/
def ageVisit (s : State) (pl i : Nat) : State :=
  let e := eftAt s pl i
  let t := getF s 0x18200C (16 * pl + 15) (16 * pl)
  if !learned e then s
  else if t ≠ 0 then (if efAgeOf s e ≥ t then ageOut s pl i else s)
  else if efAgeOf s e > 16384 then tSet s (tEft pl) i (efSetAge e ((fwdNow s + 65536 - 16384) % 65536))
  else s

/-- R245: one scan of a plane. -/
def ageScan (s : State) (pl : Nat) : State := ((tList s (tEft pl)).map fun e => e.1).foldl (fun a i => ageVisit a pl i) s

/-- The learned entries of a plane that a test picks; a position that a move has left is not the entry's any more. -/
def learnedWhere (s : State) (pl : Nat) (f : BitVec 768 → Bool) : List Nat :=
  ((tList s (tEft pl)).filter fun e => learned e.2 && !stale s (tEft pl) e.1 && f e.2).map fun e => e.1

/-- Those entries removed, each with item 0x60 event 4. -/
def eftRemove (s : State) (pl : Nat) (l : List Nat) : State :=
  l.foldl (fun a i => let e := eftAt a pl i; eftItem (tSet a (tEft pl) i 0) pl i e 4 0 (efPort e)) s

/-- R247: every learned entry of port q in its plane. -/
def flushPort (s : State) (q : Nat) : State :=
  eftRemove s (planeOf s q) (learnedWhere s (planeOf s q) fun e => efPort e == q)

/-! ### Port authorisation (R254) -/

/-- AUTH_STATE follows the controlled port; a change sets AUTH_EV, flushes (R247) and writes item 0x62. What R231 does with the
queues is in Machine/Switch.lean. -/
def authChange (s : State) (was : Bool) (q cause : Nat) : State :=
  let now := authorised s q
  if now = was then s
  else
    let n := if now then 0 else (learnedWhere s (planeOf s q) fun e => efPort e == q).length
    let s := if now then s else flushPort s q
    evtItem (raise s 0x182000 4) 0x182008 0 0x62 q
      ([BitVec.ofNat 8 (bnat now), BitVec.ofNat 8 cause, 0, 0] ++ leBytes 4 n)

/-! ### Shadows (R261, R262) -/

def shadowSync (s : State) : Bool := getB s 0x182008 12

/-- The fields that the 6448 maintains, which a shadow does not hold: AGE, HITS, GREEN, YELLOW, RED. -/
def shadowForm (code : Nat) (e : BitVec 768) : BitVec 768 :=
  if code = 0x10 || code = 0x11 then ePut e 2 31 16 0
  else if code = 0x14 || code = 0x15 then ePut e 23 31 0 0
  else if code = 0x16 then ePut (ePut (ePut e 5 31 0 0) 6 31 0 0) 7 31 0 0
  else e

/-- An entry changed by a command. With SHADOW_SYNC = 1 its shadow is written in the same step, but for a change of a learned EFT entry, which
has none. -/
def shadowPut (s : State) (code i : Nat) (e : BitVec 768) : State :=
  let eft := code == 0x10 || code == 0x11
  let plain := eft && !efStatic e
  if !shadowSync s || (plain && !efStatic (tGet s code i)) then tSet s code i e
  else shSet (tSet s code i e) code i (if plain then 0 else shadowForm code e)

/-- The entries of a shadowed table. -/
def shadowCount (code : Nat) : Nat := if code ≤ 0x11 then 32768 else if code ≤ 0x15 then 4096 else 2048

/-- The scanner's next position. A TABLE of 0, its reset value, is the first table's code. -/
def shadowNext (t i : Nat) : Nat × Nat := if i + 1 < shadowCount t then (t, i + 1) else if t < 0x16 then (t + 1, 0) else (0x10, 0)

/-- The byte offset of the first word in which two entries differ. -/
def firstDiff (a b : BitVec 768) : Nat :=
  4 * ((List.range 24).find? fun w => eFld a w 31 0 != eFld b w 31 0).getD 0

/-- R262: the live entry rewritten from the shadow, its maintained fields kept; an overwritten learned entry counts as aged. -/
def shadowRestore (s : State) (t i : Nat) : State :=
  let live := tGet s t i
  let sh := shGet s t i
  if t ≤ 0x11 then tSet (if learned live then ageOut s (t - 0x10) i else s) t i sh
  else if t = 0x14 || t = 0x15 then tSet s t i (ePut sh 23 31 0 (eFld live 23 31 0))
  else if t = 0x16 then
    tSet s t i (ePut (ePut (ePut sh 5 31 0 (eFld live 5 31 0)) 6 31 0 (eFld live 6 31 0)) 7 31 0 (eFld live 7 31 0))
  else tSet s t i sh

/-- R262: one visit. A position that an uncorrectable error has zeroed is left out until a command writes it (R489). -/
def shadowVisit (s : State) : State :=
  if !getB s 0x182008 10 then s
  else
    let t := max 0x10 (getF s 0x182024 7 0)
    let i := getF s 0x182024 27 8
    let n := shadowNext t i
    let live := tGet s t i
    let sh := shGet s t i
    let agrees := (decide (t ≤ 0x11) && sh == 0 && (learned live || !eValid live)) || shadowForm t live == sh
    let s := wr s 0x182024 (BitVec.ofNat 32 (n.1 + n.2 * 256))
    if agrees || s.fwd.noCompare.contains (tKey t i) then s
    else
      let act := getB s 0x182008 11
      let s := evtItem (raise (incC s 0x182080) 0x182000 1) 0x182008 0 0x61 (t * 2 ^ 24 + i)
        ([BitVec.ofNat 8 (bnat act), 0, 0, 0] ++ leBytes 4 (firstDiff (shadowForm t live) sh))
      if act then shadowRestore s t i else s

def execShadowCompareVisit (s : State) : Host.Outcome State Fault Refusal := done (shadowVisit s)

/-! ### Counters (R263) -/

/-- Every counter of the block; the EFT counts of valid entries are not among them. -/
def fwdCounters : List Nat :=
  wordsFrom 0x182048 16 ++ (List.range 24 ++ [25, 26]).flatMap fun q => wordsFrom (fwdR q 0x08) 6

def execSwFwdCntClr (q : Requester) (s : State) : Host.Outcome State Fault Refusal :=
  done (disarm (zeroAll s fwdCounters) q)

/-! ### Table operations (R239 to R252, R260, R527). `c` is the compartment of the request. -/

/-- Physical ports of a mask that lie in the other plane. -/
def otherPlane (s : State) (pl m : Nat) : Bool := (portsOf m).any fun q => decide (q < 24) && planeOf s q != pl

/-- A port of a mask that another compartment than `c` owns. -/
def foreignPort (s : State) (c m : Nat) : Bool := (portsOf m).any fun q => decide (q < 24) && portOwner s q != c

/-- The entry that a WRITE or CLEAR replaces: the live one, or its shadow. -/
def presentEntry (s : State) (code i : Nat) (shadow : Bool) : BitVec 768 := if shadow then shGet s code i else tGet s code i

/-- R239: a WRITE of a VLAN entry. -/
def vlanWriteOp (s : State) (c pl i : Nat) (data : List Byte) (shadow : Bool) : State × TblRes :=
  let e := entryIn 0x12 data
  let old := presentEntry s (tVlan pl) i shadow
  let bad := vlValid e && (i == 0 || i == 4095 || otherPlane s pl (vlMembers e) ||
    (tList s (tVlan pl)).any fun x => x.1 != i && vlValid x.2 && vlFid x.2 == vlFid e && vlComp x.2 != vlComp e)
  let denied := writeDenied s c (vlValid e) (vlComp e) (vlComp old) || (c != 0 && vlValid e && foreignPort s c (vlMembers e))
  let st := tblStatus (decide (i ≥ 4096)) bad denied false false false
  if st ≠ 0 then (s, tblStat st i)
  else if shadow then (shSet s (tVlan pl) i e, tblStat 0 i)
  else (shadowPut s (tVlan pl) i e, tblStat 0 i)

/-- R260: VALID := 0, for VLAN entries, rules and meters; `vbit` is where VALID stands and `comp` reads the owner. -/
def clearValid (s : State) (c code n vbit : Nat) (comp : BitVec 768 → Nat) (i : Nat) (bad shadow : Bool) : State × TblRes :=
  let old := if shadow then shGet s code i else tGet s code i
  let st := tblStatus (decide (i ≥ n)) bad (!mayAct c (owned s (comp old))) false false false
  let off (e : BitVec 768) : BitVec 768 := ePut e (vbit / 32) (vbit % 32) (vbit % 32) 0
  if st ≠ 0 then (s, tblStat st i)
  else if shadow then (shSet s code i (off old), tblStat 0 i)
  else (shadowPut s code i (off old), tblStat 0 i)

def vlanClearOp (s : State) (c pl i : Nat) (shadow : Bool) : State × TblRes :=
  clearValid s c (tVlan pl) 4096 0 vlComp i false shadow

def irtComp (e : BitVec 768) : Nat := irtA e 0 28 25
def meterComp (e : BitVec 768) : Nat := eFld e 0 4 1

/-- R250: the INVALID causes of a rule. -/
def irtBad (s : State) (pl : Nat) (e : BitVec 768) : Bool :=
  let v := nbits e.toNat 319 0
  let m := nbits e.toNat 639 320
  v &&& m != v || nbits m 319 290 != 0 || nbit (irtA e 1 26 0) 24 || otherPlane s pl (irtA e 1 26 0)
    || (irtA e 0 8 8 == 1 && !(tGet s tMeter (irtA e 0 19 9)).getLsbD 0)
    || (irtA e 0 20 20 == 1 && decide (irtA e 0 2 1 < 2))

/-- R250: the DENIED causes of a rule that is not C0's. -/
def irtForeign (s : State) (e : BitVec 768) : Bool :=
  let k := irtComp e
  k != 0 && (nbits e.toNat (320 + 257) (320 + 254) != 15 || nbits e.toNat 257 254 != k || irtA e 0 20 20 == 1
    || foreignPort s k (irtA e 1 26 0) || (irtA e 0 8 8 == 1 && meterComp (tGet s tMeter (irtA e 0 19 9)) != k))

/-- R249, R250: a WRITE of an ingress rule; HITS is zero after it. -/
def irtWriteOp (s : State) (c pl i : Nat) (data : List Byte) (shadow : Bool) : State × TblRes :=
  let e := ePut (entryIn 0x14 data) 23 31 0 0
  let old := presentEntry s (tIrt pl) i shadow
  let valid := irtA e 0 0 0 == 1
  let denied := writeDenied s c valid (irtComp e) (irtComp old) || (valid && irtForeign s e)
  let st := tblStatus (decide (i ≥ 4096)) (valid && irtBad s pl e) denied false false false
  if st ≠ 0 then (s, tblStat st i)
  else if shadow then (shSet s (tIrt pl) i e, tblStat 0 i)
  else (shadowPut s (tIrt pl) i e, tblStat 0 i)

def irtClearOp (s : State) (c pl i : Nat) (shadow : Bool) : State × TblRes :=
  clearValid s c (tIrt pl) 4096 640 irtComp i false shadow

/-- R252: the ranges of a meter. -/
def meterBad (e : BitVec 768) : Bool :=
  decide (eFld e 1 24 0 > 25000000) || decide (eFld e 2 24 0 < eFld e 1 24 0) || decide (eFld e 2 24 0 > 25000000)
    || decide (eFld e 3 23 0 < 64) || decide (eFld e 4 23 0 < 64)

/-- R252: a WRITE of a meter fills its buckets. -/
def meterWriteOp (s : State) (c i : Nat) (data : List Byte) (shadow : Bool) : State × TblRes :=
  let e := shadowForm 0x16 (entryIn 0x16 data)
  let old := presentEntry s tMeter i shadow
  let denied := writeDenied s c (e.getLsbD 0) (meterComp e) (meterComp old)
  let st := tblStatus (decide (i ≥ 2048)) (e.getLsbD 0 && meterBad e) denied false false false
  if st ≠ 0 then (s, tblStat st i)
  else if shadow then (shSet s tMeter i e, tblStat 0 i)
  else
    let s := shadowPut s tMeter i e
    let s := setBucket s i { tc := 8000000 * (eFld e 3 23 0 : Nat), tp := 8000000 * (eFld e 4 23 0 : Nat), at_ := s.ticks }
    (s, tblStat 0 i)

/-- A valid rule of either plane names meter `i`. -/
def meterNamed (s : State) (i : Nat) : Bool :=
  [0, 1].any fun pl => (tList s (tIrt pl)).any fun r => irtA r.2 0 0 0 == 1 && irtA r.2 0 8 8 == 1 && irtA r.2 0 19 9 == i

def meterClearOp (s : State) (c i : Nat) (shadow : Bool) : State × TblRes :=
  clearValid s c tMeter 2048 0 meterComp i (!shadow && meterNamed s i) shadow

/-- R241: PORT and PORTS, as a mask. -/
def efNamed (e : BitVec 768) : Nat := 2 ^ efPort e ||| efPorts e

/-- R241: the INVALID causes of an EFT entry. -/
def eftBad (s : State) (pl : Nat) (e : BitVec 768) : Bool :=
  efPort e == 24 || decide (efPort e > 26) || nbit (efPorts e) 24
    || otherPlane s pl (2 ^ efPort e) || otherPlane s pl (efPorts e)
    || (tList s (tVlan pl)).any fun x => vlValid x.2 && vlFid x.2 == efFid e && vlComp x.2 != efComp e

/-- R241, R527: the DENIED causes, as those of R239, for an entry `e` that is written over `old`. -/
def eftDenied (s : State) (c : Nat) (e old : BitVec 768) : Bool :=
  writeDenied s c (eValid e) (efComp e) (efComp old) || (c != 0 && eValid e && foreignPort s c (efNamed e))

/-- The entry that a command gives; AGE is the 6448's own, zero in a static entry. -/
def eftGiven (s : State) (data : List Byte) : BitVec 768 :=
  let e := entryIn 0x10 data
  efSetAge e (if efStatic e then 0 else fwdNow s)

/-- R260: WRITE: by key, or of the shadow by index. An entry given with VALID = 0 is stored as written (R527). -/
def eftWriteOp (s : State) (c pl i : Nat) (data : List Byte) (shadow : Bool) : State × TblRes :=
  let e := eftGiven s data
  if shadow then
    let st := tblStatus (decide (i ≥ 32768)) (eValid e && eftBad s pl e) (eftDenied s c e (shGet s (tEft pl) i)) false false false
    if st ≠ 0 then (s, tblStat st i) else (shSet s (tEft pl) i (shadowForm 0x10 e), tblStat 0 i)
  else
    match hashFind s (tEft pl) eftKb (eftKb e) with
    | none => (s, tblStat (tblStatus false (eValid e && eftBad s pl e) (eftDenied s c e e) false false true) 0)
    | some p =>
      let st := tblStatus false (eValid e && eftBad s pl e) (eftDenied s c e (eftAt s pl p)) false false false
      if st ≠ 0 then (s, tblStat st p) else (shadowPut s (tEft pl) p e, tblStat 0 p)

/-- R260: CLEAR removes by index. -/
def eftClearOp (s : State) (c pl i : Nat) (shadow : Bool) : State × TblRes :=
  let st := tblStatus (decide (i ≥ 32768)) false (!mayAct c (owned s (efComp (presentEntry s (tEft pl) i shadow)))) false false false
  if st ≠ 0 then (s, tblStat st i)
  else if shadow then (shSet s (tEft pl) i 0, tblStat 0 i)
  else (shadowPut s (tEft pl) i 0, tblStat 0 i)

/-- R246, R260: INSERT: EXISTS over a static entry, in place over a learned one, else placed; FULL when no room. The entry
inserted is in use whatever VALID the command gave (DEDUCED, log 15). -/
def eftInsertOp (s : State) (c pl : Nat) (data : List Byte) : State × TblRes :=
  let e := ePut (eftGiven s data) 0 0 0 1
  let found := hashFind s (tEft pl) eftKb (eftKb e)
  let static := match found with | some p => efStatic (eftAt s pl p) | none => false
  let st := tblStatus false (eftBad s pl e) (eftDenied s c e e) static false false
  if st ≠ 0 then (s, tblStat st 0)
  else
    match found with
    | some p => (shadowPut s (tEft pl) p e, tblStat 0 p)
    | none =>
      match eftRoom s pl (eftKb e) with
      | (s, some p) => (shadowPut s (tEft pl) p e, tblStat 0 p)
      | (s, none) => (s, tblStat stFull 0)

/-- R260: DELETE by key. -/
def eftDeleteOp (s : State) (c pl : Nat) (data : List Byte) : State × TblRes :=
  match hashFind s (tEft pl) eftKb (eftKb (eOf (data.take 16))) with
  | none => (s, tblStat stNotFound 0)
  | some p =>
    if mayAct c (owned s (efComp (eftAt s pl p))) then (shadowPut s (tEft pl) p 0, tblStat 0 p)
    else (s, tblStat stDenied 0)

/-- R242, R260: LOOKUP by key. -/
def eftLookupOp (s : State) (c pl : Nat) (data : List Byte) : State × TblRes :=
  match hashFind s (tEft pl) eftKb (eftKb (eOf (data.take 16))) with
  | none => (s, tblStat stNotFound 0)
  | some p =>
    if mayAct c (owned s (efComp (eftAt s pl p))) then (s, tblEntry p (eBytes 16 (eftAt s pl p))) else (s, tblStat stDenied 0)

/-- R260: FLUSH of learned entries; a compartment other than C0 removes its own alone (R527). RESULT is their number. -/
def eftFlushOp (s : State) (c pl : Nat) (data : List Byte) : State × TblRes :=
  let w := leAt data 0 4
  let l := learnedWhere s pl fun e =>
    (!nbit w 5 || efPort e == nbits w 4 0) && (!nbit w 18 || efFid e == nbits w 17 6) && mayAct c (owned s (efComp e))
  (eftRemove s pl l, tblStat 0 l.length)

end Sys2Proof.Machine
end

