-- ==== Sys2Proof/Machine/Keys.lean ====
section
/-!
DEFINITION. Sys2Proof/Machine/Keys.lean: the key store as its users see it (R298, R303), guard events, and MACsec on the fast ports
(R312 to R315).
-/
namespace Sys2Proof.Machine

/-- KEY_STATE STATE = READY. -/
def keyReady (s : State) : Bool := getF s 0x90010 1 0 == 1

/-- R298: the usage masks of a slot's current and pending keys, triplicated fields. -/
def usageCur (s : State) (k : Nat) : Nat := triVal s 3 (4 * k + 1)
def usagePend (s : State) (k : Nat) : Nat := triVal s 3 (4 * k + 2)

/-- A slot that computations may use: READY, with a current key. -/
def slotKey (s : State) (k : Nat) : Option (List Byte) := if keyReady s then (keyAt s k).cur else none

/-- The current key of a slot that has a usage bit. -/
def keyFor (s : State) (k usage : Nat) : Option (List Byte) :=
  if nbit (usageCur s k) usage then slotKey s k else none

def setUsageCur (s : State) (k v : Nat) : State := setTri s 3 (4 * k + 1) v
def setUsagePend (s : State) (k v : Nat) : State := setTri s 3 (4 * k + 2) v

/-- Both keys of a slot and their usage overwritten. -/
def keyErase (s : State) (k : Nat) : State := setUsagePend (setUsageCur (setKey s k KeySlot.init) k 0) k 0

/-! ### The store's words (R301) -/

/-- Two positions exchanged. -/
def exchange (i j x : Nat) : Nat := if x = i then j else if x = j then i else x

/-- R301: the slot that stands at position `p`: a permutation, made of exchanges, that the root and the start give. -/
def slotAtPlace (s : State) (start p : Nat) : Nat :=
  (List.range 1024).foldl (fun x i => exchange i (Config.slotSwap (s.sec.root.getD []) start i % 1024) x) p

/-- R301: a key as it is stored, and a stored key unmasked: the mask of its place, byte by byte. -/
def maskKey (start place : Nat) (key : List Byte) : List Byte := key.zipIdx.map fun x => x.1 ^^^ Config.slotMask start place x.2

/-- R301: the words at position `p` of the store: the masked keys of the slot that stands there. No interface shows them; the model keeps
each key once, by its slot, and this is the other view of it. -/
def storedAt (s : State) (p : Nat) : KeySlot :=
  match s.sec.start with
  | none => KeySlot.init
  | some n =>
    let x := keyAt s (slotAtPlace s n p)
    { cur := x.cur.map (maskKey n (2 * p)), pend := x.pend.map (maskKey n (2 * p + 1)) }

/-- VALID_SLOTS. -/
def validSlots (s : State) : Nat := (s.sec.slots.filter fun e => e.2.cur.isSome).length

/-- Bit e of SEC_GUARD: DOUBLE. -/
def guardDouble (s : State) (e : Nat) : Bool := nbit (triVal s 4 0) e

/-- R319: item 0x81. -/
def guardItem (s : State) (e kind mask slot tag : Nat) : State :=
  evtItem s 0x90008 1 0x81 e ([BitVec.ofNat 8 kind, BitVec.ofNat 8 mask] ++ leBytes 2 slot ++ leBytes 2 tag)

/-- R292: the two results of engine `e` differ: SEC_FAULT, FAULT_EV and item 0x81. -/
def guardFault (s : State) (e tag : Nat) : State := guardItem (raise (incC s 0x90058) 0x90000 2) e 1 0 0xFFFF tag

/-- R292: in DOUBLE a computation is done twice. Whether the results differ is a fault of the circuit: a free value (log 22). -/
def resultsDiffer (s : State) (e : Nat) : Bool × State :=
  if guardDouble s e then (nbit (fresh s).1 0, (fresh s).2) else (false, s)

/-! ### Engines at work (R290, R292) -/

/-- R290: the key in an engine's own registers: that of its current work; none: cleared. -/
def engineKey (s : State) (e : Nat) : Option (List Byte) := SMap.get (fun _ => none) s.sec.engines e
def setEngineKey (s : State) (e : Nat) (k : Option (List Byte)) : State :=
  { s with sec := { s.sec with engines := SMap.set (fun _ => none) s.sec.engines e k } }

/-- The guard alarm that stands against the work in hand of an engine of 4 to 12: the sensor mask + 1; 0: none; 256: a tamper erase. -/
def engineAlarm (s : State) (e : Nat) : Nat := if e < 4 then 0 else SMap.get (fun _ => 0) s.sec.alarms e
def setEngineAlarm (s : State) (e v : Nat) : State := { s with sec := { s.sec with alarms := SMap.set (fun _ => 0) s.sec.alarms e v } }

/-- R292: a guard alarm ends the work of engine `e` under a key of `slot`; `mask` is the sensor mask of item 0x81. -/
def alarmEnds (s : State) (e slot tag mask : Nat) : State :=
  let dbl := guardDouble s e
  let s := if dbl then s else keyErase (setEngineKey s e none) slot
  guardItem (raise (incC s 0x90054) 0x90000 1) e 0 mask (if dbl then 0xFFFF else slot) tag

/-- R292: engine `e` computes under the key of `slot`: 0 the work is done, 4 it ends with ALARM, 5 with FAULT (the codes of R297). -/
def engineWork (s : State) (e slot tag : Nat) (key : List Byte) : Nat × State :=
  let s := setEngineKey s e (some key)
  if engineAlarm s e ≠ 0 then (4, alarmEnds (setEngineAlarm s e 0) e slot tag (engineAlarm s e - 1))
  else
    let w := resultsDiffer s e
    if w.1 then (5, guardFault w.2 e tag) else (0, w.2)

/-- R300: KCV: the first four bytes of the encryption of sixteen zero bytes. -/
def kcv (key : List Byte) : List Byte := (Config.aes key (List.replicate 16 0)).take 4

/-! ### MACsec -/

/-- The SA entry `s` of FPn. -/
def saAt (s : State) (n i : Nat) : BitVec 768 := tGet s tSa (64 * n + i)

def saValid (e : BitVec 768) : Bool := eFld e 0 0 0 == 1
def saTx (e : BitVec 768) : Bool := eFld e 0 1 1 == 1
def saAn (e : BitVec 768) : Nat := eFld e 0 3 2
def saSuite (e : BitVec 768) : Nat := eFld e 0 5 4
def saKey (e : BitVec 768) : Nat := eFld e 0 15 6
def saXpn (e : BitVec 768) : Bool := saSuite e ≥ 2
def saSci (e : BitVec 768) : Nat := nbits e.toNat 127 64
def saPn (e : BitVec 768) : Nat := nbits e.toNat 191 128
def saSalt (e : BitVec 768) : Nat := nbits e.toNat 287 192
def saSsci (e : BitVec 768) : Nat := eFld e 1 31 0

/-- PN and PKTS written back. -/
def saPut (e : BitVec 768) (pn pkts : Nat) : BitVec 768 :=
  ePut (ePut (ePut (ePut e 4 31 0 pn) 5 31 0 (pn / 2 ^ 32)) 9 31 0 pkts) 10 31 0 (pkts / 2 ^ 32)

def saPkts (e : BitVec 768) : Nat := nbits e.toNat 351 288

/-- R313: a key of the suite's length with MACSEC usage. -/
def saUsable (s : State) (e : BitVec 768) : Option (List Byte) :=
  match keyFor s (saKey e) 7 with
  | some k => if k.length = (if saSuite e % 2 = 0 then 16 else 32) then some k else none
  | none => none

/-- The SA of FPn, of those 64, that a test picks. -/
def findSa (s : State) (n : Nat) (f : BitVec 768 → Bool) : Option Nat :=
  (List.range 64).find? fun i => saValid (saAt s n i) && f (saAt s n i)

def msOn (s : State) (p : Nat) : Bool := decide (p < 8) && getB s (msR p 0) 0

/-- The parameters of a MACsec computation: SUITE, CONF, CONF_OFF, SCI, PN, SALT, SSCI. -/
def msParams (s : State) (p : Nat) (e : BitVec 768) (pn : Nat) : List Nat :=
  [saSuite e, getF s (msR p 0) 6 6, getF s (msR p 0) 5 4, saSci e, pn, saSalt e, saSsci e]

/-- R314: a SecTAG (EtherType 0x88E5), its SCI (the source address followed by port identifier 1 when it is implicit), and whether
it is malformed. The places of the fields are those of IEEE 802.1AE (PRESUMED, log 8). -/
def secTag (f : List Byte) : Bool := beAt f 12 2 == 0x88E5
def secTci (f : List Byte) : Nat := byteAt f 14
def secHasSci (f : List Byte) : Bool := nbit (secTci f) 5
def secSci (f : List Byte) : Nat := if secHasSci f then leNat (slice f 20 8) else leNat (slice f 6 6 ++ [0, 1])
/-- The bytes before the secure data, and the bytes of secure data: SL of them where the data is short. -/
def secHead (f : List Byte) : Nat := if secHasSci f then 28 else 20
def secLen (f : List Byte) : Nat := if byteAt f 15 = 0 then f.length - secHead f - 16 else byteAt f 15
def secBad (f : List Byte) : Bool :=
  nbit (secTci f) 7 || (secHasSci f && (nbit (secTci f) 6 || nbit (secTci f) 4)) || decide (byteAt f 15 ≥ 48)
    || decide (f.length < secHead f + secLen f + 16)

/-- R312: the SecTAG sent: SC set by SCI_INC, ES and SCB never; E and C when the data is confidential; SL where fewer than 48 bytes follow. -/
def secTagOut (s : State) (p : Nat) (e : BitVec 768) (n : Nat) : List Byte :=
  beBytes 2 0x88E5
    ++ u8s [saAn e + 32 * getF s (msR p 0) 1 1 + 12 * getF s (msR p 0) 6 6, if n < 48 then n else 0]
    ++ beBytes 4 (saPn e % 2 ^ 32) ++ (if getB s (msR p 0) 1 then leBytes 8 (saSci e) else [])

/-- R314: the full PN of a received frame: XPN recovers its upper half from the lowest acceptable PN. -/
def recoverPn (e : BitVec 768) (pn : Nat) : Nat :=
  if saXpn e then
    let hi := saPn e / 2 ^ 32
    let lo := saPn e % 2 ^ 32
    (if lo ≥ 2 ^ 31 && pn < 2 ^ 31 then hi + 1 else hi) * 2 ^ 32 + pn
  else pn

/-- R222, R314: a frame that MACsec verifies on its ingress port, or drops for want of a SecTAG. -/
def msSubject (s : State) (p : Nat) (f : List Byte) : Bool :=
  msOn s p && etherType f != 0x888E && (if secTag f then getF s (msR p 0) 3 2 != 0 else getF s (msR p 0) 3 2 == 2)

/-- R314: a frame received on FPn: the state, and the frame that goes on with whether it is validated; none where it is dropped. -/
def macsecIn (s : State) (p : Nat) (f : List Byte) : State × Option (List Byte × Bool) :=
  if !msOn s p || etherType f = 0x888E then (s, some (f, false))
  else if !secTag f then
    if getF s (msR p 0) 3 2 = 2 then (incC s (msR p 0x24), none) else (s, some (f, false))
  else if getF s (msR p 0) 3 2 = 0 then (s, some (f, false))
  else if secBad f then (incC s (msR p 0x18), none)
  else
    match findSa s p (fun e => !saTx e && saAn e == secTci f % 4 && saSci e == secSci f) with
    | none => (incC s (msR p 0x20), none)
    | some i =>
      let e := saAt s p i
      let pn := recoverPn e (beAt f 16 4)
      if !saXpn e && pn == 0 then (incC s (msR p 0x18), none)
      else if getB s (msR p 0) 7 && pn < saPn e then (incC s (msR p 0x1C), none)
      else
        match saUsable s e with
        | none => (incC s (msR p 0x18), none)
        | some key =>
          let w := engineWork s (5 + p) (saKey e) 0 key
          let s := w.2
          match Config.macsecOpen key (msParams s p e pn) (f.take (secHead f)) (slice f (secHead f) (secLen f + 16)) with
          | none => (incC s (msR p 0x18), none)
          | some g =>
            if w.1 ≠ 0 then (incC s (msR p 0x18), none) else
            let low := max (saPn e) (pn + 1 - getF s (msR p 0) 31 16)
            (add64 (tSet s tSa (64 * p + i) (saPut e low (saPkts e + 1))) (msR p 0x10) 1, some (f.take 12 ++ padTo (secLen f) g, true))

/-- R315: PN event of an SA: 0 warning, 1 exhausted, once for each SA. -/
def pnEvent (s : State) (i kind pn : Nat) : State :=
  evtItem s 0x90008 1 0x84 i ([BitVec.ofNat 8 kind, 0, 0, 0, 0, 0, 0, 0] ++ leBytes 8 pn)

/-- R315: the largest PN an SA may use. -/
def pnLimit (e : BitVec 768) : Nat := if saXpn e then 2 ^ 64 - 2 else 2 ^ 32 - 1

/-- R315: the warning when the PNs remaining fall to PN_WARN or fewer. -/
def pnWarn (s : State) (p i : Nat) : State :=
  let e := saAt s p i
  let k := 64 * p + i
  if pnLimit e + 1 - saPn e ≤ (rd s (msR p 8)).toNat && !SMap.get (fun _ => false) s.sec.pnWarn k then
    pnEvent (raise { s with sec := { s.sec with pnWarn := SMap.set (fun _ => false) s.sec.pnWarn k true } } 0x90000 6) k 0 (saPn e)
  else s

/-- R315: a frame that FPn sends, EAPOL apart: protected, or dropped. -/
def macsecOut (s : State) (p : Nat) (f : List Byte) : State × Option (List Byte) :=
  if !msOn s p || etherType f = 0x888E then (s, some f)
  else
    match findSa s p (fun e => saTx e && saAn e == getF s (msR p 4) 1 0) with
    | none => (incC s (msR p 0x30), none)
    | some i =>
      let e := saAt s p i
      let k := 64 * p + i
      if saPn e > pnLimit e then
        let s := incC s (msR p 0x34)
        if SMap.get (fun _ => false) s.sec.pnExh k then (s, none)
        else (pnEvent { s with sec := { s.sec with pnExh := SMap.set (fun _ => false) s.sec.pnExh k true } } k 1 (saPn e), none)
      else if f.length + 4 + 16 + (if getB s (msR p 0) 1 then 16 else 8) > getF s (ethR p 0x10) 13 0 then
        (incC s (ethR p 0x154), none)
      else
        match saUsable s e with
        | none => (incC s (msR p 0x38), none)
        | some key =>
          let w := engineWork s (5 + p) (saKey e) 0 key
          let s := w.2
          if w.1 ≠ 0 then (incC s (msR p 0x38), none) else
          let n := f.length - 12
          let head := f.take 12 ++ secTagOut s p e n
          let g := head ++ padTo (n + 16) (Config.macsecProtect key (msParams s p e (saPn e)) head (f.drop 12))
          let s := add64 (tSet s tSa k (saPut e (saPn e + 1) (saPkts e + 1))) (msR p 0x28) 1
          (pnWarn s p i, some g)

end Sys2Proof.Machine
end

