-- ==== Sys2Proof/Machine/Time.lean ====
section
/-!
DEFINITION. Sys2Proof/Machine/Time.lean: local time, stamps, PTP in the ports, the tracked domains and the time modes (R266 to R279).
The timed-event lines, whose control cycles reach the other blocks, are in Machine/TimedEvents.lean.
-/
namespace Sys2Proof.Machine

/-! ### Local time (R266 to R269) -/

/-- LT wraps with its 48-bit seconds. -/
def ltModulus : Nat := 2 ^ 48 * 1000000000 * 2 ^ 32

def setLt (s : State) (x : Nat) : State := { s with time := { s.time with lt := x % ltModulus } }

/-- Seconds, nanoseconds and fraction of LT. -/
def ltSec (s : State) : Nat := ltNs s / 1000000000
def ltSubNs (s : State) : Nat := ltNs s % 1000000000
def ltFrac (s : State) : Nat := s.time.lt % 2 ^ 32

/-- The first whole nanosecond that is not earlier than LT. -/
def ltNsUp (s : State) : Nat := ceilDiv s.time.lt (2 ^ 32)

/-- LT in units of 2^-16 ns, as frame stamps carry it. -/
def lt16 (s : State) : Nat := s.time.lt / 2 ^ 16

/-- R269: the stamps of a frame on port p: LT minus RXLAT, LT plus TXLAT (1/16 ns). -/
def ingressStamp (s : State) (p : Nat) : Nat := lt16 s - getF s (0x61000 + 16 * p) 23 0 * 2 ^ 12
def egressStamp (s : State) (p : Nat) : Nat := lt16 s + getF s (0x61004 + 16 * p) 23 0 * 2 ^ 12

/-- R267: a read of TIME_LT_NS latches the fraction and the seconds of the same tick. -/
def ltLatch (s : State) : State :=
  wr (wr (wr s 0x60024 (BitVec.ofNat 32 (ltFrac s))) 0x60028 (BitVec.ofNat 32 (ltSec s)))
    0x6002C (BitVec.ofNat 32 (ltSec s / 2 ^ 32 % 2 ^ 16))

def execTimeLtNsRead (q : Requester) (s : State) : Host.Outcome State Fault Refusal :=
  done (send (ltLatch s) (.completion q 0 (leBytes 4 (ltSubNs s))))

/-! ### PTP messages (R271, R272). The places of the header's fields are those of IEEE 1588 (PRESUMED, log 8). -/

def isPtpL2 (f : List Byte) : Bool := etherType f == 0x88F7
def isPtpV4 (f : List Byte) : Bool := isV4 f && (isUdpTo f 319 || isUdpTo f 320)
def isPtpV6 (f : List Byte) : Bool := isV6 f && (isUdpTo f 319 || isUdpTo f 320)
def ptpPos (f : List Byte) : Nat := if isPtpL2 f then etPos f + 2 else l4Pos f + 8
def ptpType (f : List Byte) : Nat := byteAt f (ptpPos f) % 16
def ptpDomain (f : List Byte) : Nat := byteAt f (ptpPos f + 4)
def ptpTwoStep (f : List Byte) : Bool := nbit (byteAt f (ptpPos f + 6)) 1

def tdDomain (s : State) (d : Nat) : Nat := getF s (tdR d 0) 7 0
def tdProfile (s : State) (d : Nat) : Nat := getF s (tdR d 0) 9 8
def tdTransport (s : State) (d : Nat) : Nat := getF s (tdR d 0) 11 10
def tdRole (s : State) (d : Nat) : Nat := getF s (tdR d 0) 13 12

/-- The domain of a message, as configured. -/
def ptpTd (s : State) (f : List Byte) : Option Nat := [0, 1].find? fun d => tdDomain s d == ptpDomain f

/-- R271: a domain that takes the message: ROLE not 0 and its transport. -/
def ptpTaken (s : State) (f : List Byte) : Bool :=
  [0, 1].any fun d => tdDomain s d == ptpDomain f && tdRole s d != 0 &&
    (if isPtpL2 f then tdTransport s d != 1 else tdTransport s d != 0)

/-- R271: the destinations whose messages are delivered and forwarded too. -/
def ptpGroup (f : List Byte) : Bool :=
  (isPtpL2 f && ethDst f == 0x011B19000000) || (isPtpV4 f && (ipDst f == 0xE0000181 || ipDst f == 0xE000006B))

def servoHost (s : State) : Bool := getB s 0x60008 2

/-- R274: whether the requester is the servo owner. -/
def isServo (s : State) (q : Requester) : Bool := if servoHost s then q = .host else q = .supervisor

/-- R272, signed 64-bit addition to correctionField, saturating at its largest value. -/
def addCorrection (f : List Byte) (p : Nat) (x : Int) : List Byte × Bool :=
  let v := sInt 64 (beAt f p 8) + x
  let top : Int := (2 ^ 63 - 1 : Nat)
  (overlay f p (beBytes 8 (toBits 64 (min v top))), decide (v > top))

/-- R272: the residence time as the domain measures it. -/
def residence (s : State) (f : List Byte) (x : Int) : Int :=
  match ptpTd s f with
  | some d => if getF s 0x60008 0 0 = d then x else x + x * sInt 32 (rd s (tdR d 0x0C)).toNat / (2 ^ 40 : Nat)
  | none => x

/-- R272: a frame forwarded from port `i` to port `o`, stamps in units of 2^-16 ns. A Follow_Up passes unchanged. -/
def tcCorrect (s : State) (i o sIn sOut : Nat) (f : List Byte) : State × List Byte :=
  let on := getB s 0x60008 4 && getB s (0x6100C + 16 * i) 0 && getB s (0x6100C + 16 * o) 0 && decide (i < 24)
  if !on then (s, f)
  else if isPtpV6 f then (incC s 0x6010C, f)
  else if (isPtpL2 f || isPtpV4 f) && decide (ptpType f < 4) && ((ptpTd s f).isSome || getB s 0x60008 3) then
    let p2p := match ptpTd s f with | some d => tdProfile s d == 1 | none => false
    let pd : Int := if p2p && ptpType f == 0 then (getF s (0x61008 + 16 * i) 23 0 * 2 ^ 12 : Nat) else 0
    let c := addCorrection f (ptpPos f + 8) (residence s f ((sOut : Int) - (sIn : Int)) + pd)
    let g := if isPtpL2 f then c.1 else put16 c.1 (l4Pos c.1 + 6) 0
    (add64 (if c.2 then incC s 0x60108 else s) 0x60100 1, g)
  else (s, f)

/-- R271: a one-step Sync that the servo owner sends as master: originTimestamp is the domain's time at the egress stamp
(DEDUCED, log 16). -/
def ptpOrigin (s : State) (sOut : Nat) (f : List Byte) : List Byte :=
  if (isPtpL2 f || isPtpV4 f) && ptpType f == 0 && !ptpTwoStep f then
    match ptpTd s f with
    | some d =>
      if tdRole s d = 2 then
        let off := if d = 0 then s.time.td0.off else s.time.td1.off
        let t := ((sOut / 2 ^ 16 : Nat) + off).toNat
        let g := overlay f (ptpPos f + 34) (beBytes 6 (t / 1000000000) ++ beBytes 4 (t % 1000000000))
        if isPtpL2 f then g else put16 g (l4Pos g + 6) 0
      else f
    | none => f
  else f

/-! ### Domains and modes (R273 to R278) -/

def tdAt (s : State) (d : Nat) : TdRt := if d = 0 then s.time.td0 else s.time.td1

def setTd (s : State) (d : Nat) (x : TdRt) : State :=
  if d = 0 then { s with time := { s.time with td0 := x } } else { s with time := { s.time with td1 := x } }

/-- R273: LOCK = 1 and the present instant in [last update, last update + LOSS ms). -/
def tracking (s : State) (d : Nat) : Bool :=
  getB s (tdR d 0x10) 0 &&
    (match (tdAt s d).upd with
     | some u => decide (u ≤ ltNs s) && decide (ltNs s < u + (tdAt s d).loss * 1000000)
     | none => false)

def timeMode (s : State) : Nat := getF s 0x6000C 1 0
def timeSel (s : State) : Nat := getF s 0x60008 0 0

/-- OFF_SEC and OFF_NS as the offset stands; nanoseconds 0 to 999,999,999 after an adjustment (DESIGN CHOICE, log 17). -/
def setOff (s : State) (d : Nat) (off : Int) : State :=
  let s := setTd s d { tdAt s d with off := off }
  wr (wr s (tdR d 4) (BitVec.ofNat 32 (toBits 32 (off / 1000000000)))) (tdR d 8) (BitVec.ofNat 32 (toBits 32 (off % 1000000000)))

/-- A step moves the instants that windows of the time unit were opened at (DEDUCED, log 17). -/
def shiftNs (n : Nat) (by_ : Int) : Nat := ((n : Int) + by_).toNat

/-! ### The instants of the timed-event lines (R281) -/

def teAt (s : State) (n : Nat) : TeRt := SMap.get (fun _ => TeRt.init) s.time.te n
def setTe (s : State) (n : Nat) (x : TeRt) : State :=
  { s with time := { s.time with te := SMap.set (fun _ => TeRt.init) s.time.te n x } }

def teMode (s : State) (n : Nat) : Nat := getF s (teR n 0) 2 0
def teStart (s : State) (n : Nat) : Nat :=
  ((rd s (teR n 4)).toNat + 2 ^ 32 * getF s (teR n 8) 15 0) * 1000000000 + getF s (teR n 0x0C) 29 0
def tePeriod (s : State) (n : Nat) : Nat := (rd s (teR n 0x10)).toNat
def teWidth (s : State) (n : Nat) : Nat := (rd s (teR n 0x14)).toNat

/-- The instant `t` lies in a window of line `n`. -/
def teInside (s : State) (n t : Nat) : Bool :=
  decide (teStart s n ≤ t) &&
    (if tePeriod s n = 0 then decide (t < teStart s n + teWidth s n)
     else decide ((t - teStart s n) % tePeriod s n < teWidth s n))

/-- The first instant of line `n` that is not earlier than `t`. -/
def teNext (s : State) (n t : Nat) : Option Nat :=
  if t ≤ teStart s n then some (teStart s n)
  else if tePeriod s n = 0 then none
  else some (teStart s n + ceilDiv (t - teStart s n) (tePeriod s n) * tePeriod s n)

/-- R285: after a step each line acts on the first instant not earlier than the new LT, and its output is active exactly inside a
window. -/
def teResync (s : State) : State :=
  (List.range 16).foldl (fun a n =>
    if teMode a n ≥ 2 then setTe a n { teAt a n with done := ltNsUp a, active := teInside a n (ltNs a) } else a) s

/-- R334: the next item of every journal carries STEP. -/
def jnlStepped (s : State) : State := (List.range 64).foldl (fun a j => setJnl a j { jnlAt a j with stepFl := true }) s

/-- R275: LT stepped by `x` nanoseconds: both offsets adjusted, STEP_ARMED cleared, counted and reported. -/
def stepLt (s : State) (x : Int) (cause : Nat) : State :=
  let s := setLt s (((s.time.lt : Int) + x * (2 ^ 32 : Nat)).toNat)
  let s := setOff (setOff s 0 ((tdAt s 0).off - x)) 1 ((tdAt s 1).off - x)
  let s := setTd s 0 { tdAt s 0 with upd := (tdAt s 0).upd.map (shiftNs · x) }
  let s := setTd s 1 { tdAt s 1 with upd := (tdAt s 1).upd.map (shiftNs · x) }
  let s := { s with time := { s.time with holdAt := shiftNs s.time.holdAt x } }
  let s := jnlStepped (raise (incC (setB (teResync s) 0x6000C 2 false) 0x60110) 0x60000 1)
  evtItem s 0x60008 5 0x72 0
    (leBytes 4 (toBits 32 (x.tdiv 1000000000)) ++ leBytes 4 (toBits 32 (x.tmod 1000000000)) ++ [BitVec.ofNat 8 cause])

/-- R276: the ticks of 16 s of the time-base loop. -/
def incWindow : Nat := 8000000000

/-- At most `n` ticks of a history, newest first. -/
def incTake : Nat → List (Nat × Nat) → List (Nat × Nat)
  | _, [] => []
  | n, x :: l => if n ≤ x.1 then (if n = 0 then [] else [(n, x.2)]) else x :: incTake (n - x.1) l

/-- R276: the values of TIME_INC over the last 16 s spent locked, the one that stands among them. -/
def incLocked (s : State) : List (Nat × Nat) :=
  incTake incWindow
    (match s.time.incFrom with
     | some t => (s.ticks - t, s.time.inc) :: s.time.incHist
     | none => s.time.incHist)

/-- R276: TIME_INC_AVG: their mean; the reset value while no time has been spent locked. -/
def incAvg (s : State) : Nat :=
  let n := ((incLocked s).map fun x => x.1).foldl (· + ·) 0
  if n = 0 then 2 * 2 ^ 32 else ((incLocked s).map fun x => x.1 * x.2).foldl (· + ·) 0 / n

/-- The present value of TIME_INC enters the history; `run`: time spent locked goes on. -/
def incClose (s : State) (run : Bool) : State :=
  { s with time := { s.time with incHist := incLocked s, incFrom := if run then some s.ticks else none } }

/-- R277: a change of mode: MODE_EV and item 0x70; a change of SEL sets SWITCH_EV; DEV_READY0 TIME_LOCKED follows (R414). -/
def toMode (s : State) (mode sel cause : Nat) : State :=
  let old := timeMode s
  let s := incClose s (mode == 1 || mode == 2)
  let s := if timeSel s = sel then s else raise (setF s 0x60008 0 0 sel) 0x60000 6
  let s := raise (setB (setF s 0x6000C 1 0 mode) 0x14 10 (mode == 1 || mode == 2)) 0x60000 0
  evtItem s 0x60008 5 0x70 0 [BitVec.ofNat 8 old, BitVec.ofNat 8 mode, BitVec.ofNat 8 sel, BitVec.ofNat 8 cause]

/-- Entry into LOCKED_TDd; with STEP_ARMED the automatic step, but none from the other LOCKED mode (R278). -/
def enterLocked (s : State) (d cause : Nat) : State :=
  let was := timeMode s
  let s := toMode s (1 + d) d cause
  if getB s 0x6000C 2 && was != 1 && was != 2 then stepLt s (tdAt s d).off 0 else s

/-- TIME_INC set, as the registers show it. -/
def setInc (s : State) (x : Nat) : State :=
  let s := incClose s s.time.incFrom.isSome
  wr (setF { s with time := { s.time with inc := x } } 0x60010 7 0 (x / 2 ^ 32)) 0x60014 (BitVec.ofNat 32 x)

/-- R277: HOLDOVER; TIME_INC := TIME_INC_AVG unless the source of the time base changed (R279, log 17). -/
def enterHoldover (s : State) (cause : Nat) : State :=
  let s := toMode s 3 (timeSel s) cause
  let s := { s with time := { s.time with holdAt := ltNs s } }
  if cause = 4 then s else setInc s (incAvg s)

/-- R277: HOLD_MAX and the window that it gives. -/
def holdOver (s : State) : Bool :=
  getF s 0x6003C 29 14 != 0 && decide (s.time.holdAt + getF s 0x6003C 29 14 * 1000000000 ≤ ltNs s)

/-- R273: TDn_LOSS_EV where a domain has stopped tracking. -/
def tdEvents (s : State) (d : Nat) : State :=
  let now := tracking s d
  let s := if (tdAt s d).wasTracking && !now then raise s 0x60000 (4 + d) else s
  setTd s d { tdAt s d with wasTracking := now }

/-- R277: the exits of the present mode, in the order listed. -/
def timeEval (s : State) : State :=
  let s := tdEvents (tdEvents s 0) 1
  let sel := timeSel s
  let o := 1 - sel
  let auto_ := getB s 0x60008 1 && tracking s o
  let m := timeMode s
  if m = 1 ∨ m = 2 then
    if tracking s sel then s else if auto_ then enterLocked s o 1 else enterHoldover s 1
  else if tracking s sel then enterLocked s sel 0
  else if auto_ then enterLocked s o 0
  else if m = 3 && holdOver s then toMode s 0 sel 3
  else s

/-- R279, R277: the time base changes its source. -/
def timeSourceChange (s : State) : State :=
  let s := raise s 0x60000 7
  if timeMode s = 1 ∨ timeMode s = 2 then timeEval (enterHoldover s 4) else s

/-- The servo's write is refused. -/
def servoReject (s : State) : State := raise s 0x60000 3

/-- R276: the bound on TIME_INC in units of 2^-32 ns: 10,000 ppm while the time base runs from the internal oscillator. -/
def incBound (s : State) : Nat :=
  (2 * 2 ^ 32 * (if getF s 0x1000C 1 0 = 1 then 10000 else getF s 0x6003C 13 0)) / 1000000

/-- R276: a write of TIME_INC_FRAC commits both words, clamped. -/
def incWrite (s : State) (q : Requester) (data : Word) : State :=
  if !isServo s q || timeMode s = 3 then servoReject s
  else
    let x := getF s 0x60010 7 0 * 2 ^ 32 + data.toNat
    let b := incBound s
    let y := max (2 * 2 ^ 32 - b) (min (2 * 2 ^ 32 + b) x)
    let s := setInc s y
    if y = x then s else raise (incC s 0x60114) 0x60000 2

def execTimeIncWrite (q : Requester) (data : Word) (s : State) : Host.Outcome State Fault Refusal :=
  done (disarm (incWrite s q data) q)

/-- R273: a write of TIME_TDn_OFF_NS commits the offset and marks an update. -/
def offWrite (s : State) (q : Requester) (d : Nat) (data : Word) : State :=
  if !isServo s q then servoReject s
  else
    let s := wr s (tdR d 8) data
    let off := sInt 32 (rd s (tdR d 4)).toNat * 1000000000 + sInt 32 data.toNat
    timeEval (setTd s d { tdAt s d with off := off, upd := some (ltNs s), loss := getF s (tdR d 0) 31 16 })

def execTdOffNsWrite (q : Requester) (d : Fin 2) (data : Word) (s : State) : Host.Outcome State Fault Refusal :=
  done (disarm (offWrite s q d.val data) q)

/-- R273, R277: the LOSS window of a domain ends; nothing happens while it is still tracking. -/
def execTdTrackingLost (d : Fin 2) (s : State) : Host.Outcome State Fault Refusal :=
  done (if tracking s d.val then s else timeEval s)

/-- R277: HOLDOVER outlasts HOLD_MAX. -/
def execHoldoverExpiry (s : State) : Host.Outcome State Fault Refusal :=
  done (if timeMode s = 3 && holdOver s then timeEval s else s)

/-- R275: STEP in TIME_CMD. -/
def stepOp (s : State) (q : Requester) : State :=
  if !isServo s q then servoReject s
  else if !getB s 0x6000C 2 then s
  else stepLt s (sInt 32 (rd s 0x60030).toNat * 1000000000 + sInt 32 (rd s 0x60034).toNat) 1

def execTimeStep (q : Requester) (s : State) : Host.Outcome State Fault Refusal := done (disarm (stepOp s q) q)

/-- R287: every time-unit and line counter. -/
def timeCounters : List Nat :=
  wordsFrom 0x60100 6 ++ (List.range 16).flatMap fun n => wordsFrom (teR n 0x28) 3

def execTimeCntClr (q : Requester) (s : State) : Host.Outcome State Fault Refusal := done (disarm (zeroAll s timeCounters) q)

end Sys2Proof.Machine
end

