-- ==== Sys2Proof/Machine/Egress.lean ====
section
/-!
DEFINITION. Sys2Proof/Machine/Egress.lean: the charges of stored frames (R225 to R227), how a frame leaves a port (R200, R205, R207,
R229, R240), credit-based shaping (R211), discards of queues (R230 to R232), and the completion of transmit descriptors, one
of which may wait for its frame's release (R328).
-/
namespace Sys2Proof.Machine

/-! ### Transmit descriptors (R327, R329) -/

def txKind (s : State) (r : Nat) : Nat := fld (descWord s r 0) 3 1
def txOwn (s : State) (r : Nat) : Bool := fld (descWord s r 0) 0 0 == 1

/-- R328: the kinds that a descriptor may have. -/
def txKnown (k : Nat) : Bool := k == 1 || k == 2 || k == 3 || k == 4

/-- The descriptor at POS returned with its status; one that is neither OK nor SENT sets ERR_EV (R349);
a write of EN that waited for it takes effect (R332). -/
def txFinish (s : State) (r st : Nat) : State :=
  let s := setRing s r { ringAt s r with wait := none }
  let s := ringReturn s r (putFld (putFld (descWord s r 0) 11 4 st) 0 0 0)
  let s := if st = 0 ∨ st = 7 then s else raise (incC s (ringR r 0x1C)) (ringR r 0x10) 2
  match (ringAt s r).after with
  | some on => ringSwitch s r on
  | none => s

/-- R327: the ring examined from POS: a reserved KIND is returned INVALID at once; OWN = 0 stops until the next KICK. -/
def txExamine (r : Nat) : Nat → State → State
  | 0, s => s
  | n + 1, s =>
    if !ringOn s r || !(ringAt s r).kicked then s
    else if !txOwn s r then setRing s r { ringAt s r with kicked := false }
    else if txKnown (txKind s r) then s
    else txExamine r n (txFinish s r 1)

/-- A descriptor completed, and the next examined. -/
def txDone (s : State) (r st : Nat) : State := txExamine r (ringSize s r) (txFinish s r st)

/-- R328: returned at the release of its frame, with the egress stamp (units of 2^-16 ns). -/
def txStamped (s : State) (r stamp : Nat) : State :=
  let ns := stamp / 2 ^ 16 % 2 ^ 64
  let s := setDescWord s r 3 (putFld (descWord s r 3) 31 16 (stamp % 2 ^ 16))
  let s := setDescWord (setDescWord s r 6 (BitVec.ofNat 32 ns)) r 7 (BitVec.ofNat 32 (ns / 2 ^ 32))
  txDone s r 0

/-! ### Cells and charges (R218, R225, R226) -/

/-- R218. -/
def cellsOf (l : Nat) : Nat := 1 + ceilDiv (l - 224) 256

/-- R218: the cells in use, by number. -/
def usedCells (s : State) : List Nat := s.sw.frames.flatMap fun f => f.chain

/-- The `k`-th number that a sorted list leaves free. -/
def nthFree (k : Nat) (used : List Nat) : Nat := used.foldl (fun a u => if u ≤ a then a + 1 else a) k

/-- R218: a free cell, taken for a frame that already has those of `mine`: which one is a free value (log 2). -/
def pickCell (s : State) (mine : List Nat) : Nat × State :=
  let used := (usedCells s ++ mine).mergeSort
  (nthFree (Config.freePick (131072 - used.length) s.free % (131072 - used.length)) used, { s with free := s.free + 1 })

/-- R218: the header that the first cell of a stored frame holds. -/
def frameHeader (f : SwFrame) : List Byte :=
  let ts := f.queued ++ f.sending
  leBytes 2 f.data.length ++ [BitVec.ofNat 8 f.ingress, BitVec.ofNat 8 (bnat (f.cellsA != 0) + 2 * bnat (f.cellsB != 0) + 4 * bnat f.csum + 8)]
    ++ leBytes 4 ((ts.map fun q => 2 ^ q).foldl (· ||| ·) 0) ++ [BitVec.ofNat 8 ts.length, BitVec.ofNat 8 f.tc] ++ leBytes 2 f.vid
    ++ leBytes 4 (f.chain.getLastD 0) ++ leBytes 8 (f.stamp / 2 ^ 16) ++ List.replicate 8 0

def portUse (s : State) (q : Nat) : Nat := getF s (swR q 0x0C) 17 0
def qUse (s : State) (q tc : Nat) : Nat := getF s (swR q (0x30 + 4 * tc)) 17 0
def cellsUse (s : State) : Nat := getF s 0x180024 17 0
def planeUse (s : State) (pl : Nat) : Nat := getF s (0x18002C + 4 * pl) 17 0

/-- A target's charges for `n` cells released. -/
def releasePort (s : State) (q tc n : Nat) : State :=
  setF (setF s (swR q 0x0C) 17 0 (portUse s q - n)) (swR q (0x30 + 4 * tc)) 17 0 (qUse s q tc - n)

/-- Global and plane charges released. -/
def releaseCells (s : State) (n a b : Nat) : State :=
  let s := setF s 0x180024 17 0 (cellsUse s - n)
  setF (setF s 0x18002C 17 0 (planeUse s 0 - a)) 0x180030 17 0 (planeUse s 1 - b)

def frameAt (s : State) (id : Nat) : Option SwFrame := s.sw.frames.find? fun f => f.id == id

def setFrame (s : State) (f : SwFrame) : State :=
  { s with sw := { s.sw with frames := s.sw.frames.map fun g => if g.id = f.id then f else g } }

def dropFrame (s : State) (id : Nat) : State :=
  { s with sw := { s.sw with frames := s.sw.frames.filter fun f => f.id != id } }

/-- R225: target p leaves the headcount of a frame; at zero the cells return to the pool, and a descriptor still waiting for the
frame's release is returned REFUSED (DESIGN CHOICE, log 18). Target 26 is SG, whose queues hold its frames for the mirroring block. -/
def leaveTarget (s : State) (id p : Nat) : State :=
  match frameAt s id with
  | none => s
  | some f =>
    let s := releasePort s p f.tc f.cells
    let s := if p = 26 then { s with mir := { s.mir with sgIn := s.mir.sgIn.filter fun g => g.id != some id } } else s
    let f' := { f with queued := f.queued.filter (· != p), sending := f.sending.filter (· != p) }
    if f'.queued.isEmpty && f'.sending.isEmpty then
      let s := dropFrame (releaseCells s f.cells f.cellsA f.cellsB) id
      match f.ts with
      | some r => txDone s r 4
      | none => s
    else setFrame s f'

/-! ### Credit-based shaping (R211) -/

def speedCode (s : State) (p : Nat) : Nat := getF s (ethR p 0x0C) 5 3

/-- The speed in kbit/s. -/
def speedKbit (s : State) (p : Nat) : Nat :=
  match speedCode s p with
  | 0 => 10000
  | 1 => 100000
  | 2 => 1000000
  | 3 => 2500000
  | 4 => 10000000
  | _ => 25000000

def cbsOn (s : State) (p k : Nat) : Bool := getB s (ethR p (0x40 + 12 * k)) 0
def cbsSlope (s : State) (p k : Nat) : Nat := getF s (ethR p (0x40 + 12 * k)) 25 1

/-- A frame of queue k waits on port p. -/
def queueHas (s : State) (p k : Nat) : Bool := s.sw.frames.any fun f => f.tc == k && f.queued.contains p

/-- R211: the time in units of 20 ps, of which every bit of every speed takes a whole number. -/
def cbsClock (s : State) : Nat := 100 * s.ticks

/-- R211: the units of 20 ps that `n` bytes before the FCS take on port p, with FCS, preamble, SFD and the minimum gap. -/
def sendTime (s : State) (p n : Nat) : Nat := (n + 24) * 8 * (50000000 / speedKbit s p)

/-- The credit of queue k as it stands now, in units of 10^-8 bits: 1 kbit/s is 2 of them in 20 ps. The frame of its class that is
being sent lowers it until the end of its sending time. -/
def cbsNow (s : State) (p k : Nat) : Int :=
  let b := SMap.get (fun _ => Cbs.init) (port s p).cbs k
  let hi := 100000000 * sInt 32 (rd s (ethR p (0x44 + 12 * k))).toNat
  let lo := 100000000 * sInt 32 (rd s (ethR p (0x48 + 12 * k))).toNat
  let slope : Int := 2 * (cbsSlope s p k : Int)
  let sent : Int := if (port s p).txTc = k then (min (cbsClock s) (port s p).txEnd - b.at_ : Nat) else 0
  let rest : Int := (cbsClock s - b.at_ : Nat) - sent
  let c := if sent > 0 then max lo (b.credit + sent * (slope - 2 * (speedKbit s p : Int))) else b.credit
  if portState s p = 0 then 0
  else if rest ≤ 0 && sent > 0 then c
  else if queueHas s p k then min hi (c + rest * slope)
  else if c > 0 then 0
  else min 0 (c + rest * slope)

/-- The credits of a port brought up to the present instant, before anything that they depend on changes. -/
def cbsSettle (s : State) (p : Nat) : State :=
  setPort s p { port s p with cbs := (List.range 8).foldl (fun m k =>
    SMap.set (fun _ => Cbs.init) m k { credit := cbsNow s p k, at_ := cbsClock s }) (port s p).cbs }

/-- R211: a frame starts: what is left of the sending time of the frame before it is charged to its queue at once. -/
def cbsStart (s : State) (p : Nat) : State :=
  let s := cbsSettle s p
  let x := port s p
  let b := SMap.get (fun _ => Cbs.init) x.cbs x.txTc
  let lo := 100000000 * sInt 32 (rd s (ethR p (0x48 + 12 * x.txTc))).toNat
  let left : Nat := x.txEnd - cbsClock s
  if left = 0 then s
  else
    let b' : Cbs := { b with credit := max lo (b.credit - 2 * (left : Int) * (speedKbit s p : Int)) }
    setPort s p { x with cbs := SMap.set (fun _ => Cbs.init) x.cbs x.txTc b' }

/-- In DOWN every credit is 0. -/
def cbsZero (s : State) (p : Nat) : State :=
  setPort s p { port s p with txEnd := 0, cbs := (List.range 8).foldl (fun m k =>
    SMap.set (fun _ => Cbs.init) m k { credit := 0, at_ := cbsClock s }) (port s p).cbs }

def eligible (s : State) (p k : Nat) : Bool := !cbsOn s p k || decide (0 ≤ cbsNow s p k)

/-- The sum of the slopes of the enabled shapers. -/
def cbsSum (s : State) (p : Nat) : Nat :=
  ((List.range 8).map fun k => if cbsOn s p k then cbsSlope s p k else 0).foldl (· + ·) 0

/-! ### Pause (R209) -/

/-- LT in hundredths of a nanosecond. -/
def lt100 (s : State) : Nat := s.time.lt * 100 / 2 ^ 32

def paused (s : State) (p : Nat) : Bool :=
  match (port s p).pause with
  | some w => decide (w.start ≤ lt100 s) && decide (lt100 s < w.start + w.len)
  | none => false

/-! ### What leaves a port -/

/-- R240: the frame with or without its outer tag as port p sends it; a directed frame goes as given. -/
def retag (f : SwFrame) (p : Nat) : List Byte :=
  if f.directed then f.data
  else
    let tagged := hasTag f.data
    let body := if tagged then f.data.take 12 ++ f.data.drop 16 else f.data
    if f.untag.contains p then body
    else
      let dei := if tagged then (beAt f.data 14 2 / 4096) % 2 else 0
      let tci := (f.pcp.getD f.tc) * 8192 + dei * 4096 + f.vid
      body.take 12 ++ [0x81, 0x00] ++ beBytes 2 tci ++ body.drop 12

def maxLen (s : State) (p : Nat) : Nat := getF s (ethR p 0x10) 13 0

/-- A frame shorter than the minimum filled with zeros to 60 bytes before the FCS. -/
def fill60 (f : List Byte) : List Byte := f ++ List.replicate (60 - f.length) 0

/-- R207: LSDUsize counts what follows the addresses, an outer tag and the EtherType, the trailer included (PRESUMED, log 8). -/
def lsduSize (f : List Byte) (n : Nat) : Nat := (n - (if hasTag f then 18 else 14)) % 4096

/-- R207: the trailer for port p. -/
def prpTrailer (p seq : Nat) (f : List Byte) : List Byte :=
  beBytes 2 seq ++ beBytes 2 ((if p % 2 = 0 then 0xA else 0xB) * 4096 + lsduSize f (f.length + 6)) ++ [0x88, 0xFB]

/-- R207: a frame that is sent on one port only, without a trailer: link-local, or directed at the port. -/
def noTrailer (f : SwFrame) : Bool := f.bare || f.directed

/-- R207: port p adds a trailer to frame f. -/
def prpSeq (s : State) (f : SwFrame) (p : Nat) : Option Nat :=
  if pairOn s p && !noTrailer f then (f.seqs.find? fun x => x.1 == p / 2).map fun x => x.2 else none

/-- R205: checksum insertion. -/
def insertStep (s : State) (f : SwFrame) (p : Nat) (g : List Byte) : State × List Byte :=
  if f.csum then
    match insertCsum g with
    | some h => (s, h)
    | none => (incC s (ethR p 0x158), g)
  else (s, g)

/-- R271, R272: PTP at the release: a forwarded message, or one that the host or the time unit sends. -/
def ptpStep (s : State) (f : SwFrame) (p : Nat) (g : List Byte) : State × List Byte :=
  if f.ingress < 24 then tcCorrect s f.ingress p f.stamp (egressStamp s p) g
  else if f.ingress ≠ 26 then (s, ptpOrigin s (egressStamp s p) g)
  else (s, g)

/-- R207: the trailer, or a frame that would be too long with it. -/
def trailerStep (s : State) (f : SwFrame) (p : Nat) (g : List Byte) : State × Option (List Byte) :=
  match prpSeq s f p with
  | some seq =>
    let h := fill60 g
    if h.length + 10 > maxLen s p then (incC s (ethR p 0x154), none) else (s, some (h ++ prpTrailer p seq h))
  | none => (s, some (fill60 g))

/-- R200, R240: the bytes before the FCS that port p sends for frame f; none where it is discarded. -/
def egressBytes (s : State) (f : SwFrame) (p : Nat) : State × Option (List Byte) :=
  let g := retag f p
  if g.length + 4 > maxLen s p then (incC s (ethR p 0x154), none)
  else
    let a := insertStep s f p g
    let b := ptpStep a.1 f p a.2
    match macsecOut b.1 p b.2 with
    | (s, none) => (s, none)
    | (s, some h) => trailerStep s f p h

/-- R219: an uncorrectable error in a cell: every output that is sending the frame ends it with its FCS inverted, and every target
loses it; DEV_FAULT bit SRAM_UE is set (R489). -/
def eccStop (s : State) (f : SwFrame) : State :=
  let s := f.sending.foldl (fun a p =>
    send (incC (setPort (cbsSettle a p) p { port (cbsSettle a p) p with tx := none, txEnd := cbsClock a }) (ethR p 0x14C)) (.eth p (port a p).txData true)) s
  let s := (f.queued ++ f.sending).foldl (fun a p => leaveTarget a f.id p) s
  devFault (houseAdd (raise (incC s 0x18004C) 0x180004 5) 27 1) 4

/-- Port p starts to send stored frame f: `ct` by cut-through, `ue` with an uncorrectable cell. A waiting descriptor is returned
at the release. -/
def startFrame (s : State) (p : Nat) (f : SwFrame) (ct ue : Bool) : State :=
  let s := cbsStart s p
  match egressBytes s f p with
  | (s, none) => leaveTarget s f.id p
  | (s, some g) =>
    let f' := { f with queued := f.queued.filter (· != p), sending := f.sending ++ [p], ts := none }
    let s := setFrame s f'
    let s := setPort s p { port s p with tx := some f.id, txData := g, txTc := f.tc, txEnd := cbsClock s + sendTime s p g.length }
    let s := add64 s (swR p (if ct then 0x80 else 0x88)) 1
    let s := match f.ts with
      | some r => txStamped s r (egressStamp s p)
      | none => s
    if ue then eccStop s f' else s

/-- R210, R254: what the state of port p lets it send. -/
def maySend (s : State) (p : Nat) (f : SwFrame) : Bool :=
  match portState s p with
  | 0 => false
  | 1 => f.directed
  | 2 => getB s (fwdR p 4) 3 || (f.directed && etherType f.data == 0x888E)
  | _ => true

/-- R229: the oldest frame of queue k of port p. -/
def queueHead (s : State) (p k : Nat) : Option SwFrame := s.sw.frames.find? fun f => f.tc == k && f.queued.contains p

/-- R229: the oldest frame of the highest queue that has one and is eligible. -/
def chooseFrame (s : State) (p : Nat) : Option SwFrame :=
  [7, 6, 5, 4, 3, 2, 1, 0].findSome? fun k => if eligible s p k then queueHead s p k else none

/-- EG_STATE: 0 SERVING, 1 HOLDING, 2 DROPPING. -/
def egState (s : State) (p : Nat) : Nat := getF s (swR p 0x0C) 21 20
def setEg (s : State) (p e : Nat) : State := setF s (swR p 0x0C) 21 20 e

/-- The port may start a frame. -/
def mayStart (s : State) (p : Nat) : Bool :=
  decide (p < 24) && (port s p).tx.isNone && portState s p != 0 && egState s p == 0 && !paused s p

/-- R229: a choice point of port p. -/
def egressStart (s : State) (p : Nat) (ue : Bool) : State :=
  if mayStart s p then
    match chooseFrame s p with
    | some f => if maySend s p f then startFrame s p f false ue else s
    | none => s
  else s

def execEgressFrameStart (p : Port) (ue : Bool) (s : State) : Host.Outcome State Fault Refusal :=
  done (egressStart s p.val ue)

/-- R225: the frame that port p is sending completes. -/
def txComplete (s : State) (p : Nat) : State :=
  match (port s p).tx with
  | none => s
  | some id =>
    let s := cbsSettle s p
    let g := (port s p).txData
    let s := add64 (add64 s (ethR p 0x110) 1) (ethR p 0x118) (g.length + 4)
    leaveTarget (setPort (send s (.eth p g false)) p { port s p with tx := none, txData := [] }) id p

def execEthFrameTxComplete (p : Port) (s : State) : Host.Outcome State Fault Refusal := done (txComplete s p.val)

/-- R197: the frame being sent is cut off. -/
def txAbort (s : State) (p : Nat) : State :=
  match (port s p).tx with
  | none => s
  | some id => leaveTarget (setPort (incC s (ethR p 0x150)) p { port s p with tx := none, txData := [] }) id p

/-! ### Discards of queues (R230 to R232, R235) -/

/-- The frames queued on port p that a test picks are discarded: counted at offset `o` of its block, reported with a cause. The
number discarded comes with the state. -/
def dropQueue (s : State) (p o cause : Nat) (sel : SwFrame → Bool) : State × Nat :=
  let l := s.sw.frames.filter fun f => f.queued.contains p && sel f
  if l.isEmpty then (s, 0)
  else
    let s := if p < 24 then cbsSettle s p else s
    let s := l.foldl (fun a f => leaveTarget a f.id p) s
    let s := addC s (swR p o) l.length
    (evtItem s 0x180000 1 0x50 p (leBytes 4 l.length ++ leBytes 4 ((l.map fun f => f.cells).foldl (· + ·) 0)
      ++ [BitVec.ofNat 8 cause]), l.length)

/-- R230: entry into DROPPING: cause 0 the grace window ended, 1 PORT_EN written 0. -/
def toDropping (s : State) (p cause : Nat) : State :=
  let r := dropQueue (setEg s p 2) p 0x70 cause fun _ => true
  let s := setPort r.1 p { port r.1 p with grace := none }
  if r.2 = 0 then s else raise s 0x180004 4

/-- R231: frames that the state of port p does not let it send are discarded. -/
def stateDiscard (s : State) (p : Nat) : State :=
  if portState s p = 1 ∨ portState s p = 2 then (dropQueue s p 0x74 2 fun f => !maySend s p f).1 else s

end Sys2Proof.Machine
end

