-- ==== Sys2Proof/Machine/Switch.lean ====
section
/-!
DEFINITION. Sys2Proof/Machine/Switch.lean: the switch core (chapter 8): a decided frame charged cell by cell, stored and handed to its
targets; SW_EN; flushes.
-/
namespace Sys2Proof.Machine

/-! ### Charging (R226, R227) -/

/-- A frame being charged: `a`, `b` the targets of each plane's decision, `d` the port a descriptor directs it at, `n` cells charged
so far, `na`, `nb` those charged to the planes; `inA`, `inB`: the plane decided the frame and still has a target; `chain` the cells written;
`cut` the targets that were dropped after a cell of theirs had been charged. -/
structure Charge where
  a   : List Nat
  b   : List Nat
  d   : List Nat
  n   : Nat
  na  : Nat
  nb  : Nat
  inA : Bool
  inB : Bool
  chain : List Nat
  cut : List Nat
  deriving DecidableEq, Repr

/-- The targets left. -/
def Charge.all (w : Charge) : List Nat := (w.a ++ w.b ++ w.d).eraseDups

/-- Targets dropped; those that have begun to send the frame are remembered. -/
def Charge.lose (w : Charge) (l : List Nat) : Charge := { w with cut := w.cut ++ (if w.n = 0 then [] else l) }

/-- The charges of targets dropped, released. -/
def dropTargets (s : State) (w : Charge) (tc : Nat) (l : List Nat) : State := l.foldl (fun a q => releasePort a q tc w.n) s

/-- R227, first row. -/
def fullCheck (s : State) (w : Charge) (tc : Nat) : State × Charge :=
  if cellsUse s ≥ 131072 then
    (houseAdd (addC (dropTargets s w tc w.all) 0x180040 w.all.length) 33 w.all.length,
      { w.lose w.all with a := [], b := [], d := [], inA := false, inB := false })
  else (s, w)

/-- R227, second row, for plane A and for plane B. -/
def planeCheck (s : State) (w : Charge) (tc pl : Nat) : State × Charge :=
  if (if pl = 0 then w.inA else w.inB) && decide (planeUse s pl + 1 > getF s (0x180018 + 4 * pl) 17 0) then
    let w' := if pl = 0 then { w with a := [], inA := false } else { w with b := [], inB := false }
    let lost := w.all.filter fun t => !w'.all.contains t
    (houseAdd (raise (addC (dropTargets s w tc lost) 0x180044 lost.length) 0x180004 3) 33 lost.length, w'.lose lost)
  else (s, w)

/-- R227, third row, for one target. -/
def targetCheck (s : State) (w : Charge) (tc q : Nat) : State × Charge :=
  if qUse s q tc + 1 > getF s (swR q (0x10 + 4 * tc)) 17 0 || portUse s q + 1 > getF s (swR q 8) 17 0 then
    (houseAdd (raise (incC (releasePort s q tc w.n) (swR q (0x50 + 4 * tc))) 0x180004 2) 33 1,
     { w.lose [q] with a := w.a.filter (· != q), b := w.b.filter (· != q), d := w.d.filter (· != q) })
  else (s, w)

/-- A cell charged to one target, and its peak. -/
def chargePort (s : State) (tc q : Nat) : State :=
  let u := portUse s q + 1
  let s := setF (setF s (swR q 0x0C) 17 0 u) (swR q (0x30 + 4 * tc)) 17 0 (qUse s q tc + 1)
  setF s (swR q 0x7C) 17 0 (max u (getF s (swR q 0x7C) 17 0))

/-- R218, R226, R233: a cell taken and charged to the global count, the planes and every target; HAMPER_LOW_EV as free cells fall below the
threshold. -/
def chargeAll (s : State) (w : Charge) (tc : Nat) : State × Charge :=
  let x := pickCell s w.chain
  let s := x.2
  let u := cellsUse s + 1
  let t := getF s 0x180020 17 0
  let s := setF s 0x180024 17 0 u
  let s := setF s 0x180028 17 0 (max u (getF s 0x180028 17 0))
  let s := if 131072 - (u - 1) ≥ t && 131072 - u < t then raise s 0x180004 1 else s
  let s := if w.inA then setF s 0x18002C 17 0 (planeUse s 0 + 1) else s
  let s := if w.inB then setF s 0x180030 17 0 (planeUse s 1 + 1) else s
  (w.all.foldl (fun a q => chargePort a tc q) s,
   { w with n := w.n + 1, chain := w.chain ++ [x.1], na := w.na + bnat w.inA, nb := w.nb + bnat w.inB })

/-- One cell: the checks in the order of R227, then the charge. -/
def chargeCell (s : State) (w : Charge) (tc : Nat) : State × Charge :=
  if w.all.isEmpty then (s, w)
  else
    let x := fullCheck s w tc
    let x := planeCheck x.1 x.2 tc 0
    let x := planeCheck x.1 x.2 tc 1
    let x := x.2.all.foldl (fun y q => targetCheck y.1 y.2 tc q) x
    if x.2.all.isEmpty then x else chargeAll x.1 x.2 tc

/-- The cells of a frame, one after the other. -/
def chargeCells : Nat → State → Charge → Nat → State × Charge
  | 0, s, w, _ => (s, w)
  | n + 1, s, w, tc => let x := chargeCell s w tc; chargeCells n x.1 x.2 tc

/-! ### Delivery to HP and SG -/

/-- R330: a frame for a receive ring: source code, ingress port, class, VID, and what its ingress port found of its checksums. -/
def rxOf (src : Nat) (f : SwFrame) : RxDeliv :=
  { src := src, w3 := f.ingress + (f.stamp % 2 ^ 16) * 2 ^ 16
    w4 := (if f.chk then csumIp f.data + 4 * csumL4 f.data else 0) + 16 * f.vid + 2 ^ 16 * bnat (hasTag f.data) + 2 ^ 17 * f.tc
    w5 := 0, stamp := f.stamp / 2 ^ 16 % 2 ^ 64, data := f.data, copy := none }

def deliverHp (s : State) (f : SwFrame) : State := ringHand s (getF s 0x5100C (4 * f.tc + 3) (4 * f.tc)) (rxOf 0 f)

/-- R23, R330: a COPY_SG copy. -/
def deliverCopy (s : State) (f : SwFrame) : State :=
  if getB s 0x51008 4 then ringHand s (getF s 0x51008 3 0) (rxOf 1 f) else s

/-- R23, R229: a frame waits in SG's queues, for the mirroring block (`take`), for its copy, or for both. -/
def deliverSg (s : State) (f : SwFrame) (auth take copy : Bool) (comp : Nat) : State :=
  { s with mir := { s.mir with sgIn := s.mir.sgIn ++
      [{ bytes := f.data, auth := auth, port := f.ingress, vid := f.vid, tc := f.tc, stamp := f.stamp
         comp := comp, chk := f.chk, id := some f.id, take := take, copy := copy }] } }

/-- R229: an internal port serves a stored frame: by store-and-forward, and its target is released. -/
def serveInner (s : State) (f : SwFrame) (q : Nat) : State := leaveTarget (add64 s (swR q 0x88) 1) f.id q

/-- R229: the frame that HP serves next: the oldest of its highest queue. -/
def hpHead (s : State) : Option SwFrame := [7, 6, 5, 4, 3, 2, 1, 0].findSome? fun k => queueHead s 25 k

/-- R229, R331: HP's next frame handed to receive ring `r` where it is one for that ring. -/
def hpServe (s : State) (r : Nat) : State :=
  match hpHead s with
  | some f => if getF s 0x5100C (4 * f.tc + 3) (4 * f.tc) = r then deliverHp (serveInner s f 25) f else s
  | none => s

def execRxDelivery (r : Fin 16) (s : State) : Host.Outcome State Fault Refusal := done (rxDeliver (hpServe s r.val) r.val)

/-! ### A decided frame -/

/-- What its decisions ask for a frame. -/
structure Place where
  va   : Option Verdict
  vb   : Option Verdict
  d    : List Nat
  auth : Bool
  comp : Nat
  deriving DecidableEq, Repr

/-- The targets of a verdict; SG is target 26. -/
def verdictTargets : Option Verdict → List Nat
  | some v => if v.drop then [] else v.targets ++ (if v.sg || v.copy then [26] else [])
  | none => []

def sgAsked : Option Verdict → Bool
  | some v => v.sg
  | none => false

def copyAsked : Option Verdict → Bool
  | some v => v.copy
  | none => false

/-- The ports of a plane's targets that the frame leaves untagged. -/
def untaggedOf (s : State) (pl : Nat) : Option Verdict → List Nat
  | some v => v.targets.filter fun t => decide (t < 24) && nbit (vlUntagged (vlanAt s pl v.vid)) t
  | none => []

/-- R222: target o is served by cut-through. `ver`: the frame is subject to MACsec verification. -/
def cutThrough (s : State) (f : SwFrame) (phys : Option Nat) (ver : Bool) (o : Nat) : Bool :=
  match phys with
  | none => false
  | some p =>
    decide (o < 24) && getB s (swR o 0) 0 && portState s o == 3 && egState s o == 0 && !paused s o
      && (port s o).tx.isNone && !(s.sw.frames.any fun g => g.queued.contains o) && eligible s o f.tc
      && decide (speedCode s o ≤ speedCode s p) && !pairOn s o && !msOn s o && !pairOn s p && !ver && !f.csum

/-- R207: the pairs that the frame is queued to take a SeqNr each. -/
def takeSeqs (s : State) (f : SwFrame) : State × SwFrame :=
  if noTrailer f then (s, f)
  else
    [0, 1, 2, 3].foldl (fun x k =>
      if pairOn x.1 (2 * k) && (f.queued.contains (2 * k) || f.queued.contains (2 * k + 1)) then
        let seq := getF x.1 (ethR (2 * k) 0x24) 31 16
        (setF x.1 (ethR (2 * k) 0x24) 31 16 (seq + 1), { x.2 with seqs := x.2.seqs ++ [(k, seq)] })
      else x) (s, f)

/-- R223, R230: a frame queued to a port in DROPPING is discarded at once and counted. -/
def dropAtQueue (s : State) (id p : Nat) : State :=
  if p < 24 ∧ egState s p = 2 then leaveTarget (incC s (swR p 0x70)) id p else s

/-- R229: the frame that SG serves next: the oldest of its highest queue. -/
def sgFront (s : State) : Option SgFrame := [7, 6, 5, 4, 3, 2, 1, 0].findSome? fun k => s.mir.sgIn.find? fun f => f.tc == k

/-- R23, R229: it leaves its queue, and its copy goes to the host. -/
def sgServe (s : State) (f : SgFrame) : State :=
  let s := { s with mir := { s.mir with sgIn := s.mir.sgIn.erase f } }
  match f.id.bind (frameAt s) with
  | some g => if f.copy then deliverCopy (serveInner s g 26) g else serveInner s g 26
  | none => s

/-- R23, R229: frames of which only a copy is asked leave as their turn comes. -/
def sgCopies : Nat → State → State
  | 0, s => s
  | n + 1, s =>
    match sgFront s with
    | some f => if f.take then s else sgCopies n (sgServe s f)
    | none => s

def sgDrain (s : State) : State := sgCopies s.mir.sgIn.length s

/-- R23, R229: a stored frame in SG's queues. -/
def sgQueue (s : State) (f : SwFrame) (pl : Place) : State :=
  if !f.queued.contains 26 then s
  else sgDrain (deliverSg s f pl.auth (sgAsked pl.va || sgAsked pl.vb) (copyAsked pl.va || copyAsked pl.vb) pl.comp)

/-- The frame stored with its targets: those in DROPPING discard it, those of `ct` start it, the others queue it. -/
def queueFrame (s : State) (f : SwFrame) (pl : Place) (ct : List Nat) : State :=
  let s := (f.queued.filter (· < 24)).foldl cbsSettle s
  let x := takeSeqs s f
  let s := { x.1 with sw := { frames := x.1.sw.frames ++ [x.2], nextId := f.id + 1 } }
  let s := f.queued.foldl (fun a p => dropAtQueue a f.id p) (sgQueue s x.2 pl)
  ct.foldl (fun a p => match frameAt a f.id with | some g => startFrame a p g true false | none => a) s

/-- R203: port o ends frame f, which it has begun by cut-through, with the FCS inverted. -/
def stompOut (f : SwFrame) (s : State) (o : Nat) : State :=
  send (incC (add64 s (swR o 0x80) 1) (ethR o 0x14C)) (.eth o (retag f o) true)

/-- R223 to R227: a decided frame is charged, stored and given to its targets; whether any target took it comes with the state.
`phys` is the physical port that received it. -/
def placeFrame (s : State) (f : SwFrame) (phys : Option Nat) (pl : Place) : State × Bool :=
  let w : Charge := { a := verdictTargets pl.va, b := verdictTargets pl.vb, d := pl.d, n := 0, na := 0, nb := 0
                      inA := pl.va.isSome, inB := pl.vb.isSome, chain := [], cut := [] }
  let f := { f with id := s.sw.nextId, untag := untaggedOf s 0 pl.va ++ untaggedOf s 1 pl.vb }
  let ct := w.all.filter (cutThrough s f phys pl.auth)
  let x := chargeCells (cellsOf f.data.length) s w f.tc
  let ts := x.2.all
  let f := { f with chain := x.2.chain, cells := x.2.n, cellsA := x.2.na, cellsB := x.2.nb, queued := ts }
  let s := (x.2.cut.filter ct.contains).foldl (stompOut f) x.1
  if ts.isEmpty then (releaseCells s x.2.n x.2.na x.2.nb, false)
  else (queueFrame s f pl (ct.filter f.queued.contains), true)

/-- A frame before its decision. -/
def newFrame (data : List Byte) (ingress stamp : Nat) (chk : Bool) : SwFrame :=
  { id := 0, chk := chk, chain := [], data := data, ingress := ingress, vid := 0, pcp := if hasTag data then some (tagPcp data) else none, tc := 0
    csum := false, stamp := stamp, cells := 0, cellsA := 0, cellsB := 0, queued := [], sending := [], untag := []
    seqs := [], bare := decide (ethDst data / 16 = 0x0180C200000), directed := false, ts := none }

/-- R215, R216: the planes named by `planes` (bit 0 A, bit 1 B) decide the frame. -/
def decideBoth (s : State) (planes : Nat) (d : DecIn) : State × Option Verdict × Option Verdict :=
  let x : State × Option Verdict := if nbit planes 0 then (let y := decide1 s 0 d; (y.1, some y.2)) else (s, none)
  let z : State × Option Verdict := if nbit planes 1 then (let y := decide1 x.1 1 d; (y.1, some y.2)) else (x.1, none)
  (z.1, x.2, z.2)

/-- R221: a frame keeps the class of plane A's decision where both decided it. -/
def verdictOf (a b : Option Verdict) : Verdict :=
  match a, b with
  | some v, _ => if v.drop then b.getD v else v
  | none, some v => v
  | none, none => Verdict.none

/-- R236, R237: a complete frame decided and stored. -/
def switchFrame (s : State) (planes : Nat) (d : DecIn) (f : SwFrame) (auth : Bool) : State × Bool :=
  let x := decideBoth s planes d
  let v := verdictOf x.2.1 x.2.2
  placeFrame x.1 { f with tc := v.tc, vid := v.vid } d.phys { va := x.2.1, vb := x.2.2, d := [], auth := auth, comp := d.comp }

/-- R216, R232, R237: a frame that SG sends: its compartment and gateway class; checksums are inserted on egress (R205) when it is
an IP telegram. While SW_EN = 0 nothing is decided. -/
def sgSend (s : State) (comp cls : Nat) (data : List Byte) (csum : Bool) : State :=
  if !getB s 0x180000 0 then s
  else
    let tc := getF s 0x180014 (3 * cls + 6) (3 * cls + 4)
    (switchFrame s (getF s 0x180014 1 0) { q := 26, phys := none, comp := comp, tc := some tc, data := data }
      { newFrame data 26 (lt16 s) false with csum := csum } false).1

/-! ### SW_EN (R217, R232) and flushes -/

def swPortList : List Nat := List.range 24 ++ [25, 26]

/-- R217: what refuses SW_EN = 1. -/
def swBad (s : State) : Bool :=
  ([0, 1, 2, 3].any fun k => pairOn s (2 * k) && getB s 0x18000C (2 * k) != getB s 0x18000C (2 * k + 1))
    || getF s 0x180014 1 0 == 0
    || decide (getF s 0x180018 17 0 > 131072) || decide (getF s 0x18001C 17 0 > 131072)
    || swPortList.any fun q => decide (getF s (swR q 8) 17 0 > 131072)
         || (List.range 8).any fun k => decide (getF s (swR q (0x10 + 4 * k)) 17 0 > 131072)

/-- R232: every queued frame discarded; frames being sent complete. -/
def swStop (s : State) : State := swPortList.foldl (fun a p => (dropQueue a p 0x78 4 fun _ => true).1) s

def swCtrlMasks : Masks := { rw := 0xFE, rwd := 0, rwk := 1, w1c := 0, kwo := 0 }

/-- A write of SW_CTRL without CNT_CLR. -/
def swCtrlWrite (s : State) (q : Requester) (data : Word) : State :=
  let was := getB s 0x180000 0
  let s := writeMasked s q 0x180000 data swCtrlMasks false none 0
  let now := getB s 0x180000 0
  if !was && now && swBad s then raise (setB s 0x180000 0 false) 0x180004 6
  else if was && !now then swStop s
  else if !was && now then bite s [0x182008, 0x18000C]
  else s

def execSwEnSet (q : Requester) (data : Word) (s : State) : Host.Outcome State Fault Refusal :=
  done (disarm (swCtrlWrite s q (putFld data 0 0 1)) q)

def execSwEnClear (q : Requester) (data : Word) (s : State) : Host.Outcome State Fault Refusal :=
  done (disarm (swCtrlWrite s q (putFld data 0 0 0)) q)

/-- R232, R234: the queued frames of the named classes of a port; how many with the state. -/
def queueFlush (s : State) (p mask : Nat) : State × Nat := dropQueue s p 0x78 3 fun f => nbit mask f.tc

/-- R233: every counter and peak; a peak is the largest use since, so it takes the present use. -/
def swCounters : List Nat :=
  [0x180040, 0x180044, 0x180048, 0x18004C]
    ++ swPortList.flatMap fun q => wordsFrom (swR q 0x50) 11 ++ wordsFrom (swR q 0x80) 4

def swClear (s : State) : State :=
  let s := zeroAll s swCounters
  let s := setF s 0x180028 17 0 (cellsUse s)
  swPortList.foldl (fun a q => setF a (swR q 0x7C) 17 0 (portUse a q)) s

def execSwCntClr (q : Requester) (s : State) : Host.Outcome State Fault Refusal := done (disarm (swClear s) q)

/-- R254, R231: a write of SW_Pqq_AUTH; AUTH_MODE 3 is ignored. -/
def authWrite (s : State) (q : Requester) (p : Nat) (data : Word) : State :=
  if 8 ≤ p ∧ p < 24 then
    let was := authorised s p
    let mode := getF s (fwdR p 4) 1 0
    let data := if fld data 1 0 = 3 then putFld data 1 0 mode else data
    let s := writeMasked s q (fwdR p 4) data { rw := 0xFF, rwd := 0, rwk := 0, w1c := 0, kwo := 0 } false none 0
    stateDiscard (authChange s was p (if fld data 1 0 = mode then 0 else 2)) p
  else s

def execAuthRegisterWrite (q : Requester) (p : Port) (data : Word) (s : State) : Host.Outcome State Fault Refusal :=
  done (disarm (authWrite s q p.val data) q)

end Sys2Proof.Machine
end

