-- ==== Sys2Proof/Machine/Eth.lean ====
section
/-!
DEFINITION. Sys2Proof/Machine/Eth.lean: the Ethernet ports (chapter 7): reception, PRP, pause, the link, enables.
-/
namespace Sys2Proof.Machine

/-! ### Receive checks (R201, R208) -/

/-- R208: the last six bytes are a redundancy control trailer that fits the frame. -/
def isPrp (f : List Byte) : Bool :=
  let n := f.length
  beAt f (n - 2) 2 == 0x88FB && beAt f (n - 4) 2 % 4096 == lsduSize f n && decide (20 ≤ n)

/-- R201: the length that MAX_LEN bounds. -/
def measured (s : State) (p : Nat) (f : List Byte) : Nat :=
  f.length + 4 - (if pairOn s p && isPrp f then 6 else 0)

/-- R201: the counter of the first check that fails; none when all pass. -/
def rxCheck (s : State) (p : Nat) (f : RxFrame) : Option Nat :=
  if f.codeErr then some 0x120
  else if f.bytes.length + 4 < 64 then some 0x124
  else if measured s p f.bytes > maxLen s p then some 0x128
  else if f.fcs ≠ .good then some 0x12C
  else if isGroup (ethSrc f.bytes) then some 0x130
  else none

/-- R209: a valid pause frame. -/
def isPause (f : List Byte) : Bool := beAt f 12 2 == 0x8808 && beAt f 14 2 == 1 && ethDst f == 0x0180C2000001

/-- R209: one quantum in hundredths of a nanosecond. -/
def quantum (s : State) (p : Nat) : Nat :=
  match speedCode s p with
  | 0 => 5120000
  | 1 => 512000
  | 2 => 51200
  | 3 => 20480
  | 4 => 5120
  | _ => 2048

/-- R209: a pause frame counted, and honoured while RX_PAUSE_EN = 1. -/
def rxPause (s : State) (p : Nat) (f : List Byte) : State :=
  let s := incC s (ethR p 0x138)
  if getB s (ethR p 0) 8 then
    let w : Pause := { start := lt100 s, len := beAt f 16 2 * quantum s p, quantum := quantum s p }
    let s := setPort s p { port s p with pause := some w }
    if w.len = 0 then s else raise s (ethR p 4) 6
  else s

/-- R208: the pair's duplicate table: the key is entered, or the frame is a duplicate. -/
def prpJudge (s : State) (p src seq : Nat) : State × Bool :=
  let k := p - p % 2
  let t := (port s k).prpDup
  let age := frcF s (ethR k 0x24) 10 1 * 1000000
  let live := t.any fun e => e.1 == src && e.2.1 == seq && decide (e.2.2 ≤ ltNs s) && decide (ltNs s < e.2.2 + age)
  if live then (incC s (ethR p 0x164), true)
  else
    let t' := t.filter fun e => !(e.1 == src && e.2.1 == seq)
    let full := decide (t'.length ≥ 16384)
    let s := if full then incC s (ethR p 0x16C) else s
    (setPort s k { port s k with prpDup := (if full then t'.drop 1 else t') ++ [(src, seq, ltNs s)] }, false)

/-- R208: the trailer removed and duplicates discarded. -/
def prpIn (s : State) (p : Nat) (f : List Byte) : State × Option (List Byte) :=
  if pairOn s p && isPrp f then
    let n := f.length
    let s := if beAt f (n - 4) 2 / 4096 = (if p % 2 = 0 then 0xA else 0xB) then s else incC s (ethR p 0x168)
    let x := prpJudge s p (ethSrc f) (beAt f (n - 6) 2)
    (x.1, if x.2 then none else some (f.take (n - 6)))
  else (s, some f)

/-- R204: CSUM_CHK of a physical port. -/
def csumChk (s : State) (p : Nat) : Bool := getB s (ethR p 0x10) 14

/-- R204: checksum failures counted. -/
def csumCount (s : State) (p : Nat) (f : List Byte) : State :=
  if csumChk s p then
    let s := if csumIp f = 2 then incC s (ethR p 0x140) else s
    if csumL4 f = 2 then incC s (ethR p 0x144) else s
  else s

/-! ### Frames that the port itself takes (R202, R254, R271) -/

def linkLocal (f : List Byte) : Bool := ethDst f / 16 == 0x0180C200000

/-- R330: a frame delivered to a host ring from the port. -/
def portDeliver (s : State) (p src ring : Nat) (f : List Byte) : State :=
  let g := newFrame f p (ingressStamp s p) (csumChk s p)
  ringHand s ring (rxOf src { g with vid := tagVid f })

/-- R271, R274: a PTP message for the servo owner with its ingress stamp: the host takes it on TIME_RING, Popezal from the time unit. -/
def ptpDeliver (s : State) (p : Nat) (f : List Byte) : State :=
  if !ptpTaken s f then s
  else if servoHost s then portDeliver s p 4 (getF s 0x60008 16 13) f
  else send s (.servo p (ingressStamp s p) f)

/-- R202: a link-local frame that is neither EAPOL nor PTP. -/
def llDeliver (s : State) (p : Nat) (f : List Byte) : State :=
  if getB s (ethR p 0) 10 then portDeliver s p 2 (getF s (ethR p 0) 14 11) f else incC s (ethR p 0x13C)

/-- R204: a frame for SG whose IPv4 or UDP check fails. -/
def sgCsumBad (s : State) (p : Nat) (f : List Byte) : Bool :=
  csumChk s p && (csumIp f == 2 || (ipProto f == 17 && csumL4 f == 2))

def sgOff (bad : Bool) : Option Verdict → Option Verdict
  | some v => some { v with sg := v.sg && !bad }
  | none => none

/-- R236: what the switch does with a frame that every receive check has passed. -/
def rxSwitch (s : State) (p : Nat) (f : List Byte) (auth : Bool) : State :=
  if !getB s 0x180000 0 then incC s 0x180048
  else
    let q := ingressOf s p
    let d : DecIn := { q := q, phys := some p, comp := portOwner s q, tc := none, data := f }
    let x := decideBoth s (2 ^ planeOf s p) d
    let bad := sgCsumBad x.1 p f && (sgAsked x.2.1 || sgAsked x.2.2)
    let s := if bad then incC x.1 (ethR p 0x148) else x.1
    let v := verdictOf x.2.1 x.2.2
    (placeFrame s { newFrame f q (ingressStamp s p) (csumChk s p) with tc := v.tc, vid := v.vid } (some p)
      { va := sgOff bad x.2.1, vb := sgOff bad x.2.2, d := [], auth := auth, comp := d.comp }).1

/-- R202, R210, R232, R254: EAPOL, PTP, link-local and ordinary frames, as the port's state lets them pass. -/
def rxSort (s : State) (p : Nat) (f : List Byte) (auth : Bool) : State :=
  if etherType f = 0x888E then portDeliver s p 3 (getF s (fwdR p 4) 7 4) f
  else if portState s p = 2 then incC s (if getB s 0x180000 0 || linkLocal f then fwdR (ingressOf s p) 0x14 else 0x180048)
  else if linkLocal f then (if isPtpL2 f then ptpDeliver s p f else llDeliver s p f)
  else rxSwitch (if ptpGroup f then ptpDeliver s p f else s) p f auth

/-- R226, R233: of the cells charged to a frame that is not kept, the peaks and HAMPER_LOW_EV stay. -/
def keepPeaks (s t : State) : State :=
  let s := ([0x180028] ++ swPortList.map fun q => swR q 0x7C).foldl (fun a o => wr a o (rd t o)) s
  let s := if getB t 0x180004 1 then raise s 0x180004 1 else s
  { s with free := t.free }

/-- R203, R223, R226: a frame that a receive check fails after its decision: its cells were charged; the targets that had begun it by
cut-through end it with the FCS inverted, and the charges are released. Nothing else of its decision stays: the frame counts under the check
alone. Frames that the port itself takes, or its state keeps out, have no decision. -/
def rxStomp (s : State) (p : Nat) (f : List Byte) : State :=
  if !getB s 0x180000 0 || f.length < 14 || linkLocal f || p ≥ 24 || etherType f == 0x888E || etherType f == 0x8808 || portState s p != 3 then s
  else
    let q := ingressOf s p
    let d : DecIn := { q := q, phys := some p, comp := portOwner s q, tc := none, data := f }
    let x := decideBoth s (2 ^ planeOf s p) d
    let v := verdictOf x.2.1 x.2.2
    let un := untaggedOf s 0 x.2.1 ++ untaggedOf s 1 x.2.2
    let g := { newFrame f q (ingressStamp s p) false with tc := v.tc, vid := v.vid, untag := un }
    let w : Charge := { a := verdictTargets x.2.1, b := verdictTargets x.2.2, d := [], n := 0, na := 0, nb := 0
                        inA := x.2.1.isSome, inB := x.2.2.isSome, chain := [], cut := [] }
    let y := chargeCells (cellsOf f.length) { s with free := x.1.free } w v.tc
    let ct := w.all.filter (cutThrough s g (some p) (msSubject s p f))
    (ct.filter fun o => y.2.all.contains o || y.2.cut.contains o).foldl (stompOut g) (keepPeaks s y.1)

/-- R200, R201: a frame on port p. SP's frames go to the service port handler, whose events are rows of their own. -/
def ethReceive (s : State) (p : Nat) (f : RxFrame) : State :=
  if portState s p = 0 then s
  else
    match rxCheck s p f with
    | some c => (if c = 0x130 then id else fun a => rxStomp a p f.bytes) (incC s (ethR p c))
    | none =>
      if beAt f.bytes 12 2 = 0x8808 then (if isPause f.bytes then rxPause s p f.bytes else incC s (ethR p 0x134))
      else
        let s := add64 (add64 s (ethR p 0x100) 1) (ethR p 0x108) (f.bytes.length + 4)
        if p ≥ 24 then csumCount s p f.bytes
        else
          match prpIn s p f.bytes with
          | (s, none) => rxStomp s p f.bytes
          | (s, some g) =>
            match macsecIn s p g with
            | (s, none) => s
            | (s, some h) => rxSort (csumCount s p h.1) p h.1 h.2

def execEthFrameReceived (p : Port) (f : RxFrame) (s : State) : Host.Outcome State Fault Refusal :=
  done (ethReceive s p.val f)

/-- R209: the window has ended: the port may start its next frame. -/
def execPauseWindowEnd (p : Port) (s : State) : Host.Outcome State Fault Refusal :=
  done (if paused s p.val then s else setPort s p.val { port s p.val with pause := none })

/-! ### Link (R197 to R199, R230) -/

def msNs (n : Nat) : Nat := n * 1000000

def ethMode (s : State) (p : Nat) : Nat := getF s (ethR p 0) 3 1

/-- R198: the entry of the SerDes table for the port's MODE. -/
def serdesOf (s : State) (p : Nat) : SerdesRow := SMap.get (fun _ => SerdesRow.init) s.serdes (8 * p + ethMode s p)

/-- R198: the transmit FIR that the SerDes table gives the port's MODE. -/
def firStart (s : State) (p : Nat) : State :=
  if p ≥ 24 then s else wr s (ethR p 0x20) (BitVec.ofNat 32 ((serdesOf s p).fir % 2 ^ 19))

/-- R198: the equaliser at the starting values of its MODE. EQ_DFE exists on FP(2k) alone. -/
def eqStart (s : State) (p : Nat) : State :=
  if p ≥ 24 then s
  else
    let x := serdesOf s p
    let s := wr s (ethR p 0x18) (BitVec.ofNat 32 (x.ctle % 32))
    let s := if p < 8 && p % 2 = 0 then wr s (ethR p 0x1C) (BitVec.ofNat 32 (x.dfe % 2 ^ 30)) else s
    firStart s p

/-- R269, R419: the latencies that the SerDes table gives for the port's MODE. -/
def latStart (s : State) (p : Nat) : State :=
  if p ≥ 24 then s
  else setF (setF s (0x61000 + 16 * p) 23 0 (serdesOf s p).rxlat) (0x61004 + 16 * p) 23 0 (serdesOf s p).txlat

/-- R480, R496 (row 11): the latencies of a table that a swap has brought, at the port's next bring-up. -/
def latBringUp (s : State) (p : Nat) : State := if (port s p).latDue then latStart (setPort s p { port s p with latDue := false }) p else s

/-- R198, R480: a bring-up takes the starting values that the table now has; ADAPT_FREEZE holds the receiver's present ones. -/
def eqBringUp (s : State) (p : Nat) : State :=
  let s := latBringUp s p
  if getB s (ethR p 0x14) 0 then firStart s p else eqStart s p

/-- R198: the equaliser as continuous adaptation leaves it: free values (log 2); ADAPT_FREEZE holds the present ones. -/
def eqAdapt (s : State) (p : Nat) : State :=
  if p ≥ 24 || getB s (ethR p 0x14) 0 then s
  else
    let v := (Config.equaliser p s.free).toNat
    let s := { s with free := s.free + 1 }
    let s := wr s (ethR p 0x18) (BitVec.ofNat 32 (v % 2 ^ 22 - nbits v 7 5 * 32))
    if p < 8 && p % 2 = 0 then wr s (ethR p 0x1C) (BitVec.ofNat 32 (nbits v 61 32)) else s

/-- R199: the port's own FIR as a completed training has set it from the partner's requests: a free value (log 2). -/
def firTrained (s : State) (p : Nat) : State :=
  if getB s (ethR p 0) 7 then
    wr { s with free := s.free + 1 } (ethR p 0x20) (BitVec.ofNat 32 (nbits (Config.equaliser p s.free).toNat 82 64))
  else s

/-- R198: a port whose link is up adapts continuously: its values as they stand now. -/
def eqLive (s : State) (p : Nat) : State := if portEn s p && linkIs s p then eqAdapt s p else s

/-- R211: SGMII or RGMII brings the speed below the sum of the slopes. -/
def cbsOver (s : State) (p : Nat) : State := if cbsSum s p > speedKbit s p then raise s (ethR p 4) 7 else s

/-- R230: HOLDING, with the present instant outside the grace window. -/
def graceOver (s : State) (p : Nat) : Bool :=
  match (port s p).grace with
  | some g => decide (g + msNs (port s p).graceMs ≤ ltNs s)
  | none => false

/-- R195: the modes whose speed the PHY's in-band status gives. -/
def inBand (m : Nat) : Bool := m == 4 || m == 7

/-- R195: the SPEED code of a mode; in-band status names one of 10, 100 and 1000 Mbit/s. -/
def modeSpeed (m speed : Nat) : Option Nat :=
  match m with
  | 1 => some 5
  | 2 => some 4
  | 3 => some 2
  | 5 => some 2
  | 6 => some 3
  | _ => if inBand m && decide (speed < 3) then some speed else none

/-- R197: the conditions of the link hold again, or no longer, with the faults of Clause 46 that MODE 1 and 2 know (bit 0 local, 1 remote). -/
def linkFaults (s : State) (p fault : Nat) (at_ : Option Nat) : State :=
  let f := if ethMode s p = 1 ∨ ethMode s p = 2 then fault else 0
  setPort (setF s (ethR p 0x0C) 9 8 f) p { port s p with failAt := at_ }

/-- R395, R400: the loop that clocks the port has its source: loop 3 for SP, loop 5 for the others. -/
def portClocked (s : State) (p : Nat) : Bool :=
  let k := if p < 24 then 5 else 3
  let src := getF s 0x1000C (2 * k + 1) (2 * k)
  src == 1 || src == 2

/-- R199: with LT_EN = 1 the link needs a training attempt that is not over. -/
def trainRuns (s : State) (p : Nat) : Bool :=
  !getB s (ethR p 0) 7 || (match (port s p).training with
    | some t => decide (ltNs s < t + msNs 500)
    | none => false)

/-- R197, R230: every condition of the link holds; it goes up, unless the PHY reports half duplex. A queue whose window has ended is
discarded first; the port serves. R414, R400, R441: no bring-up before ETH is set, without the port's loop, or in STANDBY and SLEEP. An entry of the
SerDes table that a swap has brought is taken at the bring-up (R480). -/
def linkGoesUp (s : State) (p speed : Nat) : State :=
  if !portEn s p || !ready s 5 || !portClocked s p || !trainRuns s p || decide (2 ≤ getF s 0x7000C 1 0) then s
  else if linkIs s p then linkFaults s p 0 none
  else
   match if inBand (ethMode s p) && (port s p).halfAt.isSome then none else modeSpeed (ethMode s p) speed with
   | none => s
   | some speed =>
    let s := if p < 24 && egState s p = 1 && graceOver s p then toDropping s p 0 else s
    let s := firTrained (eqAdapt (eqBringUp s p) p) p
    let s := setF (setF s (ethR p 0x0C) 0 0 1) (ethR p 0x0C) 5 3 speed
    let s := setF (setF s (ethR p 0x0C) 7 7 (getF s (ethR p 0) 7 7)) (ethR p 0x0C) 9 8 0
    let s := setPort s p { port s p with grace := none, training := none, retry := none, failAt := none }
    let s := cbsZero s p
    let s := raise s (ethR p 4) 2
    let s := cbsOver s p
    if p < 24 then stateDiscard (setEg s p 0) p else s

def execLinkUp (p : Port) (speed : BitVec 3) (s : State) : Host.Outcome State Fault Refusal :=
  done (linkGoesUp s p.val speed.toNat)

/-- R197, R230, R247: the link goes down: the frame being sent is cut off, the grace window opens, learned entries are flushed. -/
def linkGoesDown (s : State) (p : Nat) : State :=
  if !linkIs s p then s
  else
    let s := txAbort s p
    let s := setF (setF s (ethR p 0x0C) 0 0 0) (ethR p 0x0C) 7 7 0
    let s := raise (incC s (ethR p 0x160)) (ethR p 4) 3
    let s := cbsZero s p
    let s := setPort s p { port s p with training := if getB s (ethR p 0) 7 then some (ltNs s) else none, failAt := none }
    let s := if getB s (ethR p 0x14) 0 then s else eqStart s p
    if p ≥ 24 then s
    else
      let s := if getB s (fwdR p 0) 15 then flushPort s p else s
      if egState s p ≠ 0 then s
      else
        let ms := getF s (swR p 0) 31 16
        if ms = 0 then toDropping s p 0
        else setEg (setPort s p { port s p with grace := some (ltNs s), graceMs := ms }) p 1

/-- R197: LINK_HOLD in milliseconds. -/
def linkHold (s : State) (p : Nat) : Nat := getF s (ethR p 0) 23 16

/-- R197: the PHY has reported half duplex for LINK_HOLD. -/
def halfOver (s : State) (p : Nat) : Bool :=
  match (port s p).halfAt with
  | some t => decide (t + msNs (linkHold s p) ≤ ltNs s)
  | none => false

/-- R197: a condition of the link fails: the link goes down once one has failed for LINK_HOLD without a break. -/
def linkFails (s : State) (p fault : Nat) : State :=
  if !portEn s p then s
  else
    let t := (port s p).failAt.getD (ltNs s)
    let s := linkFaults s p fault (if linkIs s p then some t else none)
    if t + msNs (linkHold s p) ≤ ltNs s || halfOver s p then linkGoesDown s p else s

def execLinkDown (p : Port) (fault : BitVec 2) (s : State) : Host.Outcome State Fault Refusal := done (linkFails s p.val fault.toNat)

/-- R230: the grace window of a port in HOLDING has ended. -/
def graceEnd (s : State) (p : Nat) : State :=
  if p < 24 && egState s p = 1 && graceOver s p then toDropping s p 0 else s

def execGraceWindowEnd (p : Port) (s : State) : Host.Outcome State Fault Refusal := done (graceEnd s p.val)

/-- R199: an enabled port with LT_EN = 1 starts a training attempt. -/
def trainStart (s : State) (p : Nat) : State :=
  if portEn s p && getB s (ethR p 0) 7 then setPort s p { port s p with training := some (ltNs s), retry := none } else s

/-- R199: a training that 500 ms have not completed. -/
def trainFail (s : State) (p : Nat) : State :=
  match (port s p).training with
  | some t =>
    if t + msNs 500 ≤ ltNs s && portEn s p then
      let s := raise (incC s (ethR p 0x15C)) (ethR p 4) 4
      setPort s p { port s p with training := none, retry := some (ltNs s) }
    else s
  | none => s

def execTrainingTimeout (p : Port) (s : State) : Host.Outcome State Fault Refusal := done (trainFail s p.val)

/-- R199: a new attempt 100 ms later, while PORT_EN = 1. -/
def trainAgain (s : State) (p : Nat) : State :=
  match (port s p).retry with
  | some t =>
    if t + msNs 100 ≤ ltNs s && portEn s p then setPort s p { port s p with training := some (ltNs s), retry := none } else s
  | none => s

def execTrainingRetry (p : Port) (s : State) : Host.Outcome State Fault Refusal := done (trainAgain s p.val)

/-- R198: the link is dropped; the starting values are reloaded, and the receiver adapts afresh once the link is up. -/
def eqRestartOp (s : State) (p : Nat) : State := eqStart (linkGoesDown s p) p

def execEqRestart (q : Requester) (p : Port) (s : State) : Host.Outcome State Fault Refusal :=
  done (disarm (eqRestartOp s p.val) q)

/-- R197, R211: the PHY's in-band status, in the modes that have one: half duplex sets DUPLEX_EV and fails the link; a lower speed may
set CBS_OVER_EV. -/
def phyStatus (s : State) (p speed : Nat) (full : Bool) : State :=
  if !inBand (ethMode s p) || decide (2 < speed) then s
  else
    let s := cbsSettle s p
    let s := setPort s p { port s p with halfAt := if full then none else some ((port s p).halfAt.getD (ltNs s)) }
    if full then (if linkIs s p then cbsOver (setF s (ethR p 0x0C) 5 3 speed) p else s)
    else
      let s := raise s (ethR p 4) 5
      if halfOver s p then linkGoesDown s p else s

def execPhyInBandStatus (p : Port) (speed : BitVec 3) (full : Bool) (s : State) : Host.Outcome State Fault Refusal :=
  done (phyStatus s p.val speed.toNat full)

/-! ### CTRL (R196, R210, R230) -/

/-- R195: a MODE code of that port kind. -/
def modeOk (p m : Nat) : Bool :=
  if p < 8 then m == 1 || m == 2 || m == 3 else if p < 24 then m == 4 || m == 5 || m == 6 else m == 7

/-- The port's rate for its MODE in kbit/s. -/
def modeRate (m : Nat) : Nat :=
  if m = 1 then 25000000 else if m = 2 then 10000000 else if m = 6 then 2500000 else 1000000

/-- R196, R212: what refuses PORT_EN = 1. -/
def portBad (s : State) (p : Nat) : Bool :=
  let m := ethMode s p
  let fec := getF s (ethR p 0) 5 4
  !modeOk p m || (fec == 2 && m != 1) || (fec != 0 && decide (m ≥ 3)) || (getB s (ethR p 0) 7 && m != 1 && m != 2)
    || decide (maxLen s p < 1518) || decide (maxLen s p > 9216) || decide (cbsSum s p > modeRate m)
    || (decide (p < 8) && p % 2 == 0
        && (decide (getF s (ethR p 0x24) 10 1 < 10) || decide (getF s (ethR p 0x24) 10 1 > 1000)))

/-- On SP the fields that exist on switched ports alone read as zero. -/
def ethCtrlMasks (p : Nat) : Masks :=
  if p < 24 then { rw := 0x201, rwd := 0xFF7DFE, rwk := 0, w1c := 0, kwo := 0 }
  else { rw := 1, rwd := 0xFF000E, rwk := 0, w1c := 0, kwo := 0 }

/-- R230, R235: PORT_EN written 0: the queue is discarded for that cause, the link is gone. -/
def portOff (s : State) (p : Nat) : State :=
  let s := linkGoesDown (if p < 24 then toDropping s p 1 else s) p
  let s := setF s (ethR p 0x0C) 9 8 0
  setPort s p { port s p with training := none, retry := none, failAt := none, halfAt := none, cbs := [] }

/-- R198, R269: another MODE takes its own starting values and latencies. -/
def modeLoad (s : State) (p was : Nat) : State := if ethMode s p = was then s else latStart (eqStart s p) p

/-- A write of CTRL. -/
def ethCtrlWrite (s : State) (q : Requester) (p : Nat) (data : Word) : State :=
  let was := portEn s p
  let st := portState s p
  let mode := ethMode s p
  let s := writeMasked s q (ethR p 0) data (ethCtrlMasks p) (!was) (some (ethR p 4, 0)) 0
  let s := modeLoad s p mode
  let now := portEn s p
  let s :=
    if !was && now then
      if portBad s p then raise (setB s (ethR p 0) 0 false) (ethR p 4) 1
      else
        let s := bite (eqStart s p) [ethR p 0x24]
        setPort s p { port s p with training := if getB s (ethR p 0) 7 then some (ltNs s) else none, cbs := [] }
    else if was && !now then portOff s p
    else s
  if portState s p != st && p < 24 then stateDiscard s p else s

def execPortEnSet (q : Requester) (p : Port) (data : Word) (s : State) : Host.Outcome State Fault Refusal :=
  done (disarm (ethCtrlWrite s q p.val (putFld data 0 0 1)) q)

def execPortEnClear (q : Requester) (p : Port) (data : Word) (s : State) : Host.Outcome State Fault Refusal :=
  done (disarm (ethCtrlWrite s q p.val (putFld data 0 0 0)) q)

/-- R221: the class of a frame that the time unit sends. -/
def timeTc (s : State) : Nat := getF s 0x180014 18 16

/-- R207, R210, R221: the time unit sends a frame on port p alone. No command of the table has it send one: what it sends is the servo
owner's (log 17). -/
def timeSend (s : State) (p : Nat) (data : List Byte) : State :=
  (placeFrame s { newFrame data 24 (lt16 s) false with tc := timeTc s, directed := true } none
    { va := none, vb := none, d := [p], auth := false, comp := 0 }).1

/-- R231: BLOCK as the data has it. -/
def execBlockWrite (q : Requester) (p : Port) (data : Word) (s : State) : Host.Outcome State Fault Refusal :=
  done (disarm (ethCtrlWrite s q p.val (putFld data 0 0 (bnat (portEn s p.val)))) q)

/-- R212: every counter of a port. -/
def ethCounters (p : Nat) : List Nat := wordsFrom (ethR p 0x100) 28

def execPortCntClr (q : Requester) (p : Port) (s : State) : Host.Outcome State Fault Refusal :=
  done (disarm (zeroAll s (ethCounters p.val)) q)

/-! ### Words that are derived when they are read (R209 to R212) -/

/-- PAUSE_REMAIN: quanta left, rounded up. -/
def pauseRemain (s : State) (p : Nat) : Nat :=
  match (port s p).pause with
  | some w => if paused s p then ceilDiv (w.start + w.len - lt100 s) w.quantum else 0
  | none => 0

/-- LINK as it reads. SP has no port state (R196, R210). -/
def linkWord (s : State) (p : Nat) : Word :=
  let w := putFld (rd s (ethR p 0x0C)) 2 1 (if p < 24 then portState s p else 0)
  putFld (putFld w 6 6 (bnat (paused s p))) 31 16 (pauseRemain s p)

/-- CBSk_CREDIT as it reads, in bits. -/
def creditWord (s : State) (p k : Nat) : Word := BitVec.ofNat 32 (toBits 32 (cbsNow s p k / 1000000))

end Sys2Proof.Machine
end

