-- ==== Sys2Proof/Machine/BudBase.lean ====
section
/-!
DEFINITION. Sys2Proof/Machine/BudBase.lean: what every paired block needs of the buddy stream (R450 to R462): the records an ACTIVE unit
sends for each input to paired state, the digests over the output events, the stamps a STANDBY unit takes from its
records, and the gates of the outputs. The layouts of the record payloads are the model's own (log 21).
-/
namespace Sys2Proof.Machine

/-- BUD_MODE: 0 SOLO, 1 ACTIVE, 2 STANDBY, 3 WITHDRAWN. -/
def budMode (s : State) : Nat := getF s 0x80010 1 0

/-! ### Claims (R457, R458) -/

/-- CLAIM_CFG, triplicated. -/
def claimCfg (s : State) : Nat := triVal s 2 0 % 256

/-- The effective claim E. -/
def ownClaim (s : State) : Nat := if budMode s = 3 then 0 else if s.bud.override then 255 else claimCfg s

/-- CAND: 0 once the unit has failed its self-diagnosis. -/
def ownCand (s : State) : Nat := if s.bud.failed then 0 else claimCfg s

/-- P, the partner's candidate and its state; a silent partner's are 0, 0 and WITHDRAWN. -/
def partnerClaim (s : State) : Nat := if s.bud.pHeard then s.bud.pClaim else 0
def partnerCand (s : State) : Nat := if s.bud.pHeard then s.bud.pCand else 0
def partnerState (s : State) : Nat := if s.bud.pHeard then s.bud.pState else 3

/-- BUD_POS low: position A. -/
def positionA (s : State) : Bool := !getB s 0x8000C 25

/-- R458: one claim beats another; the unit at position A wins a tie. -/
def beats (s : State) (own partner : Nat) : Bool := decide (own > 0) && (decide (own > partner) || own == partner && positionA s)

def holdsClaim (s : State) : Bool := beats s (ownClaim s) (partnerClaim s)

/-- R459, R506: nothing travels between the units: in SOLO, and in the power states STANDBY and SLEEP. -/
def budIdle (s : State) : Bool := budMode s == 0 || decide (getF s 0x7000C 1 0 ≥ 2)

/-! ### The stream -/

/-- R454: where paired state takes a stamp, the STAMP of the record being executed, or else SIG_NOW. -/
def pairStamp (s : State) : Nat :=
  match s.bud.executing with
  | some w => w.toNat
  | none => sigNow s

/-- R457: the claim frame that the unit sends now. -/
def claimFrame (s : State) : Nat :=
  let x := (ownClaim s % 256) * 2 ^ 12 + (ownCand s % 256) * 2 ^ 4 + budMode s * 4 + s.bud.roll % 4
  0xB * 2 ^ 28 + x * 2 ^ 8 + crc8 20 x

/-- R449, R466: the lanes carry PRBS31 in place of records. -/
def laneTest (s : State) : Bool := getF s 0x80010 1 0 != 0 && frcF s 0x80008 7 6 == 1

/-- R450, R451, R457: a record sent on both lanes; it takes the next SEQ of this direction; an ACK has CLAIM_INFO. -/
def budRecord (s : State) (ty : Nat) (payload : List Byte) : State :=
  let r (lane : Fin 2) : BudRec :=
    { lane := lane, ty := BitVec.ofNat 8 ty, seq := BitVec.ofNat 32 s.bud.txSeq, stamp := BitVec.ofNat 64 (sigNow s)
      claim := if ty = 8 then some (BitVec.ofNat 32 (claimFrame s)) else none, payload := payload, crcOk := true }
  let test := laneTest s
  { s with out := if test then s.out else s.out ++ [.bud (r 0), .bud (r 1)]
           bud := { s.bud with txSeq := if test then s.bud.txSeq else (s.bud.txSeq + 1) % 2 ^ 32 } }

/-- R462: the digest over the records since the last one, sent as a DIGEST record. -/
def digestClose (s : State) : State :=
  let d : Digest := { first := s.bud.digFirst, last := s.bud.digLast, crc := BitVec.ofNat 32 (crc32c s.bud.events) }
  budRecord { s with bud := { s.bud with own := [d], events := [], digCount := 0 } } 6
    (beBytes 4 d.first ++ beBytes 4 d.last ++ beBytes 4 d.crc.toNat)

/-- R462: a digest for every 256 records. -/
def digestDue (s : State) : State := if s.bud.digCount ≥ 256 then digestClose s else s

/-- R462, R466: the record with this SEQ is the next one that digests cover, and the last executed. -/
def digestMark (s : State) (seq : Nat) : State :=
  { s with bud := { s.bud with digFirst := if s.bud.digCount = 0 then seq else s.bud.digFirst
                               digLast := seq, digCount := s.bud.digCount + 1 }
           regs := SMap.set resetWord s.regs 0x80018 (BitVec.ofNat 32 seq) }

/-- R454: an input to paired state: an ACTIVE unit sends it as a record. -/
def budInput (s : State) (ty : Nat) (payload : List Byte) : State :=
  if budMode s = 1 then
    let s := digestDue s
    budRecord (digestMark s s.bud.txSeq) ty payload
  else s

/-- R462: an output event, folded into the digest of its records. -/
def budEvent (s : State) (bs : List Byte) : State :=
  if budMode s = 1 || budMode s = 2 then { s with bud := { s.bud with events := s.bud.events ++ bs } } else s

/-- R455: a write by an own requester to a paired block in STANDBY. -/
def localReject (s : State) : State := incC s 0x80054

/-- A requester and its unlock key, as records carry them. -/
def reqByte (s : State) (q : Requester) : Byte := BitVec.ofNat 8 (reqNo q + 16 * bnat (armed s q))

/-- R452, R455: a register write of a paired block: forwarded by an ACTIVE unit, ignored by a STANDBY one. -/
def pairedWrite (s : State) (q : Requester) (off : Nat) (data : Word) (op : State → State) : State :=
  if budMode s = 2 then localReject s
  else op (budInput s 4 ([0, reqByte s q] ++ beBytes 4 off ++ beBytes 4 data.toNat))

/-- The word that a write of a write-only bit carries, the other fields as they stand. -/
def strobe (s : State) (off bits : Nat) : Word := rd s off ||| BitVec.ofNat 32 bits

/-- R455, R454: a firing of the unit's own (kind 0 TST, 1 DST, 2 PUB, 3 TTT, 4 timeout scan, 5 sweeper, 6 the change pass of a publication,
7 a subscription, 8 the change report of a TST set): a STANDBY unit makes none. -/
def pairedFire (s : State) (kind i : Nat) (op : State → State) : State :=
  if budMode s = 2 then s else op (budInput s 5 (BitVec.ofNat 8 kind :: beBytes 4 i))

/-- R460: the gate of TXD of channel `n` is open. -/
def canGateOpen (s : State) (n : Nat) : Bool := s.bud.canGate.getLsbD n

/-- R461: a frame for which a new holder has no TXCHOICE has ended: the gate of its channel opens. -/
def gateAtEnd (s : State) (n : Nat) : State :=
  if s.bud.gate && !canGateOpen s n then { s with bud := { s.bud with canGate := s.bud.canGate ||| BitVec.ofNat 48 (2 ^ n) } } else s

/-- R462: divergence found over records from `first`, with the two CRCs. Item 0xC1 is written with the outcome. -/
def diverge (s : State) (first : Nat) (own partner : Word) : State :=
  let s := raise (incC s 0x80044) 0x80000 2
  if s.bud.diverged.isSome then s else { s with bud := { s.bud with diverged := some (first, own, partner) } }

/-- R461: the frame of the latest TXCHOICE of channel `n`. -/
def choiceOf (s : State) (n : Nat) : Option CanFrame := SMap.get (fun _ => none) s.bud.choice n
/-- R461: the TDCV of the latest TXCHOICE, and the one whose SSP the channel checks the bits of a data phase at. -/
def choiceTdcv (s : State) (n : Nat) : Nat := SMap.get (fun _ => 0) s.bud.choiceTdc n

def sspTdcv (s : State) (n : Nat) : Nat := if getB s (canR n 0x20) 31 then getF s (canR n 0x20) 6 0 else choiceTdcv s n

def setChoice (s : State) (n : Nat) (f : Option CanFrame) : State :=
  { s with bud := { s.bud with choice := SMap.set (fun _ => none) s.bud.choice n f } }

/-- A CAN frame as records carry it. -/
def canFmtNo : CanFmt → Nat
  | .classical => 0
  | .fd => 1
  | .xl => 2

def canFrameBytes (f : CanFrame) : List Byte :=
  [BitVec.ofNat 8 (canFmtNo f.fmt + 4 * bnat f.ide + 8 * bnat f.rtr + 16 * bnat f.brs + 32 * bnat f.esi + 64 * bnat f.hdr.sec)]
    ++ beBytes 4 f.ident.toNat ++ [f.hdr.sdt, f.hdr.vcid] ++ beBytes 4 f.hdr.af.toNat ++ beBytes 2 f.data.length ++ f.data

def canFmtOf (n : Nat) : CanFmt := if n = 0 then .classical else if n = 1 then .fd else .xl

/-- The frame that a record carries from position `p` of its payload. -/
def canFrameOf (l : List Byte) (p : Nat) : CanFrame :=
  let b := leAt l p 1
  { fmt := canFmtOf (b % 4), ide := nbit b 2, ident := BitVec.ofNat 29 (beAt l (p + 1) 4), rtr := nbit b 3, brs := nbit b 4
    esi := nbit b 5, hdr := { sdt := l.getD (p + 5) 0, vcid := l.getD (p + 6) 0, sec := nbit b 6
                              af := BitVec.ofNat 32 (beAt l (p + 7) 4) }
    data := slice l (p + 13) (beAt l (p + 11) 2) }

end Sys2Proof.Machine
end

