-- ==== Sys2Proof/Machine/Image.lean ====
section
/-!
DEFINITION. Sys2Proof/Machine/Image.lean: the consist signal image (chapter 4): slots, the signal cache, updates and status changes, segment
modes, substitution, the age sweeper, BAR4, housekeeping. Its mailbox commands are in Machine/CmdSig.lean.
-/
namespace Sys2Proof.Machine

/-! ### GSIDs (R15) and slots (R102, R103) -/

def gVeh (g : Nat) : Nat := g / 2 ^ 19 % 64
def gSeg (g : Nat) : Nat := g / 2 ^ 13 % 64
def gIdx (g : Nat) : Nat := g % 2 ^ 13
def gsid (v seg i : Nat) : Nat := v * 2 ^ 19 + seg * 2 ^ 13 + i % 2 ^ 13

/-- A GSID with the own vehicle in its vehicle field. -/
def gOwn (s : State) (g : Nat) : Nat := gsid (ownVeh s) (gSeg g) (gIdx g)

def Slot.bit (x : Slot) (b : Nat) : Bool := x.status.getLsbD b
def Slot.valid (x : Slot) : Bool := x.bit 0
def Slot.stale (x : Slot) : Bool := x.bit 1
def Slot.subst (x : Slot) : Bool := x.bit 2
def Slot.auth (x : Slot) : Bool := x.bit 4
def Slot.frozen (x : Slot) : Bool := x.bit 6

/-- The slot with status bit `b` set to `v`. -/
def Slot.put (x : Slot) (b : Nat) (v : Bool) : Slot :=
  { x with status := if v then x.status ||| BitVec.ofNat 16 (2 ^ b) else x.status &&& ~~~ BitVec.ofNat 16 (2 ^ b) }

/-- VALUE as a signed number. -/
def Slot.int (x : Slot) : Int := x.value.toInt

/-- R102: the 16 bytes of a slot. -/
def slotBytes (x : Slot) : List Byte :=
  leBytes 8 x.value.toNat ++ leBytes 4 x.stamp.toNat ++ leBytes 2 x.status.toNat ++ leBytes 2 x.gen.toNat

/-! ### The cache (R121 to R123) -/

def cacheAt (s : State) (k : Nat) : CLine := SMap.get (fun _ => CLine.init) s.cache k
def setCache (s : State) (k : Nat) (x : CLine) : State := { s with cache := SMap.set (fun _ => CLine.init) s.cache k x }

def cacheSet (g : Nat) : Nat := (g % 2 ^ 15) ^^^ (g / 2 ^ 15)

def pinned (s : State) (g : Nat) : Bool := gVeh g == ownVeh s && getB s (0x1A0020 + 4 * (gSeg g / 32)) (gSeg g % 32)

/-- The line of a set that holds slot `g`. -/
def cacheHit (s : State) (g : Nat) : Option Nat :=
  ((List.range 16).map fun w => 16 * cacheSet g + w).find? fun k => (cacheAt s k).gsid == g + 1

/-- Of two unpinned ways, the one with the lower count, the lower way winning a tie. -/
def lowerWay (s : State) (a b : Nat) : Nat := if (cacheAt s b).count < (cacheAt s a).count then b else a

/-- R122: the way that a miss fills; none when every way is pinned. -/
def cacheVictim (s : State) (g : Nat) : Option Nat :=
  let ways := (List.range 16).map fun w => 16 * cacheSet g + w
  match ways.find? fun k => (cacheAt s k).gsid == 0 with
  | some k => some k
  | none =>
    match ways.filter fun k => !pinned s ((cacheAt s k).gsid - 1) with
    | [] => none
    | k :: l => some (l.foldl (lowerWay s) k)

/-- R121, R122: an access to slot `g` through the cache. -/
def touch (s : State) (g : Nat) (dirty : Bool) : State :=
  match cacheHit s g with
  | some k =>
    let x := cacheAt s k
    add64 (setCache s k { x with count := min 15 (x.count + 1), dirty := x.dirty || dirty }) 0x1A0048 1
  | none =>
    let s := add64 s 0x1A0050 1
    match cacheVictim s g with
    | some k => setCache s k { gsid := g + 1, count := 1, dirty := dirty }
    | none => s

/-- R122: every count halved. -/
def halveCounts (s : State) : State :=
  (s.cache.map fun e => e.1).foldl (fun a k => setCache a k { cacheAt a k with count := (cacheAt a k).count / 2 }) s

def execCacheCountHalving (s : State) : Host.Outcome State Fault Refusal := done (halveCounts s)

/-- SIG_CACHE_PINNED. -/
def pinnedLines (s : State) : Nat := (s.cache.filter fun e => e.2.gsid != 0 && pinned s (e.2.gsid - 1)).length

/-! ### Publications whose slots change (R172) -/

def puValid (e : BitVec 768) : Bool := eFld e 0 0 0 == 1
def puTrig (e : BitVec 768) : Nat := eFld e 0 2 1
def puChange (e : BitVec 768) : Bool := eFld e 0 3 3 == 1
def puTe (e : BitVec 768) : Nat := eFld e 0 7 4
def puSeg (e : BitVec 768) : Nat := eFld e 0 13 8
def puBat (e : BitVec 768) : Nat := eFld e 0 21 14
def puClass (e : BitVec 768) : Nat := eFld e 0 23 22
def puComp (e : BitVec 768) : Nat := eFld e 0 31 28
def puFirst (e : BitVec 768) : Nat := eFld e 1 12 0
def puLast (e : BitVec 768) : Nat := eFld e 1 28 16
def puPeriod (e : BitVec 768) : Nat := eFld e 2 23 0
def puStream (e : BitVec 768) : Nat := eFld e 3 15 0
def puGap (e : BitVec 768) : Nat := eFld e 3 31 16
def puOffset (e : BitVec 768) : Nat := eFld e 4 23 0

def pubRt (s : State) (i : Nat) : PubRt := SMap.get (fun _ => PubRt.init) s.mir.pub i
def setPub (s : State) (i : Nat) (x : PubRt) : State :=
  { s with mir := { s.mir with pub := SMap.set (fun _ => PubRt.init) s.mir.pub i x } }

/-- R172: slot `g` is marked dirty for one publication. -/
def pubMark (s : State) (g : Nat) (p : Nat × BitVec 768) : State :=
  let e := p.2
  if puValid e && puChange e && gVeh g == ownVeh s && gSeg g == puSeg e && decide (puFirst e ≤ gIdx g) && decide (gIdx g ≤ puLast e)
      && !(pubRt s p.1).dirty.contains (gIdx g) then
    setPub s p.1 { pubRt s p.1 with dirty := (pubRt s p.1).dirty ++ [gIdx g] }
  else s

/-! ### Changes (R104) -/

/-- R104, R462: slot `g` becomes `x` with GEN advanced: the one place where a change is made. -/
def changeSlot (s : State) (g : Nat) (x : Slot) : State :=
  let gen := (slotAt s g).gen + 1
  let s := houseAdd (setSlot (touch s g true) g { x with gen := gen }) 1049 1
  let s := budEvent s (leBytes 4 g ++ leBytes 2 gen.toNat)
  (tList s tPub).foldl (fun a p => pubMark a g p) s

/-- R116: the mode of a vehicle-segment pair: 0 LIVE, 1 FROZEN, 2 SUBSTITUTE. -/
def segMode (s : State) (g : Nat) : Nat := SMap.get (fun _ => 0) s.smt (gVeh g * 64 + gSeg g)

/-- The status that an update gives: VALID, and SUBST, LOSTUPD, AUTH, REMOTE as the writer says. -/
def updStatus (subst lost auth remote : Bool) : BitVec 16 :=
  BitVec.ofNat 16 (1 + 4 * bnat subst + 8 * bnat lost + 16 * bnat auth + 32 * bnat remote)

/-- R104, R117: an update; whether it was applied comes with the state. Outside LIVE it is suppressed and counted. -/
def updateSlot (s : State) (g : Nat) (v : BitVec 64) (subst lost auth remote : Bool) : State × Bool :=
  if segMode s g = 0 then
    (changeSlot s g { value := v, stamp := BitVec.ofNat 32 (pairStamp s), status := updStatus subst lost auth remote, gen := 0 }, true)
  else (incC s 0x1A003C, false)

/-- A status change setting STALE on a slot with VALID = 1 and STALE = 0; another slot is only read. -/
def staleSlot (s : State) (g : Nat) : State :=
  let x := slotAt s g
  if x.valid && !x.stale then changeSlot s g (x.put 1 true) else touch s g false

/-! ### Substitution (R118) -/

def suValid (e : BitVec 768) : Bool := eFld e 0 0 0 == 1
def suKind (e : BitVec 768) : Nat := eFld e 0 1 1
def suVeh (e : BitVec 768) : Nat := eFld e 0 7 2
def suSeg (e : BitVec 768) : Nat := eFld e 0 13 8
def suClass (e : BitVec 768) : Nat := eFld e 0 15 14
def suComp (e : BitVec 768) : Nat := eFld e 0 19 16
def suMacsec (e : BitVec 768) : Bool := eFld e 0 20 20 == 1
def suToact (e : BitVec 768) : Nat := eFld e 0 22 21
def suHas (e : BitVec 768) : Bool := eFld e 0 23 23 == 1
def suStream (e : BitVec 768) : Nat := eFld e 1 15 0
def suTimeout (e : BitVec 768) : Nat := eFld e 1 31 16
def suFirst (e : BitVec 768) : Nat := eFld e 2 12 0
def suLast (e : BitVec 768) : Nat := eFld e 2 28 16
def suRlt (e : BitVec 768) : Nat := eFld e 3 15 0
def suSubst (e : BitVec 768) : Nat := nbits e.toNat 191 128

def suCovers (e : BitVec 768) (g : Nat) : Bool :=
  suValid e && suKind e == 0 && suVeh e == gVeh g && suSeg e == gSeg g && decide (suFirst e ≤ gIdx g) && decide (gIdx g ≤ suLast e)

/-- R131: fields of DECODE and ENCODE that the image needs. -/
def sdOp (e : BitVec 768) : Nat := eFld e 0 2 0
def sdGsid (e : BitVec 768) : Nat := eFld e 1 24 0
def sdXform (e : BitVec 768) : Nat := eFld e 2 12 0

/-- R137: entry 0 is the identity: MUL 1, MIN −2^63, MAX 2^63 − 1, THRESH 1. -/
def tptIdentity : BitVec 768 := BitVec.ofNat 768 (1 + 2 ^ 63 * 2 ^ 128 + (2 ^ 63 - 1) * 2 ^ 192 + 2 ^ 256)

def tptAt (s : State) (i : Nat) : BitVec 768 := if i = 0 then tptIdentity else tGet s tTpt i
def tpHas (e : BitVec 768) : Bool := eFld e 1 10 10 == 1
def tpSubst (e : BitVec 768) : Nat := nbits e.toNat 383 320

/-- R134: the DECODE descriptor that writes slot `g` of the own vehicle. -/
def decodeWriter (s : State) (g : Nat) : Option (BitVec 768) :=
  ((tList s tSdp).find? fun e => sdOp e.2 == 1 && gSeg (sdGsid e.2) == gSeg g && gIdx (sdGsid e.2) == gIdx g).map fun e => e.2

/-- R134, R174: the substitute value of a slot. -/
def substFor (s : State) (g : Nat) : Option Nat :=
  if gVeh g = ownVeh s then
    match decodeWriter s g with
    | some d => if tpHas (tptAt s (sdXform d)) then some (tpSubst (tptAt s (sdXform d))) else none
    | none => none
  else
    match (tList s tSub).find? fun e => suCovers e.2 g with
    | some e => if suHas e.2 then some (suSubst e.2) else none
    | none => none

/-- R118: substitution of one slot: its substitute value, or zero for a valid slot without one. -/
def substSlot (s : State) (g : Nat) : State :=
  let remote := gVeh g != ownVeh s
  let st := BitVec.ofNat 32 (pairStamp s)
  match substFor s g with
  | some v => changeSlot s g { value := BitVec.ofNat 64 v, stamp := st, status := BitVec.ofNat 16 (5 + 32 * bnat remote), gen := 0 }
  | none =>
    if (slotAt s g).valid then changeSlot s g { value := 0, stamp := st, status := BitVec.ofNat 16 (32 * bnat remote), gen := 0 }
    else touch s g false

/-- R117, R118, R142, R177: a substitute-on-timeout action on one slot: an update, suppressed and counted outside LIVE. -/
def timeoutSubst (s : State) (g : Nat) : State :=
  if (substFor s g).isNone && !(slotAt s g).valid then touch s g false
  else if segMode s g = 0 then substSlot s g else incC s 0x1A003C

/-- R118: the change that a mode pass makes at one slot; a slot it leaves is only read. -/
def passSlot (new : Nat) (s : State) (g : Nat) : State :=
  let x := slotAt s g
  if new = 0 then (if x.frozen then changeSlot s g (x.put 6 false) else touch s g false)
  else if new = 1 then (if x.valid && !x.frozen then changeSlot s g (x.put 6 true) else touch s g false)
  else substSlot s g

/-- R118, R129: the pass over a pair, and item 0x21. -/
def passOver (s : State) (p : ModePass) : State :=
  let s := ((List.range 8192).map fun i => p.pair * 8192 + i).foldl (passSlot p.new) s
  evtItem s 0x1A0014 0 0x21 p.pair [BitVec.ofNat 8 p.old, BitVec.ofNat 8 p.new]

/-! ### The age sweeper (R108, R109) -/

/-- A visit to slot `g`: a read through the cache, though R121 does not name the sweeper's (DESIGN CHOICE, log 42), and perhaps a change. -/
def sweepSlot (s : State) (g : Nat) : State :=
  let x := slotAt s g
  let s := touch s g false
  if x.valid && !x.stale && decide (wrapDist 32 (pairStamp s) x.stamp.toNat ≥ getF s 0x1A0008 19 12 * 1000000) then
    raise (incC (staleSlot s g) 0x1A0030) 0x1A0000 3
  else s

/-- The next slot visited; the position advances. -/
def sweepNext (s : State) : State :=
  let g := getF s 0x1A000C 24 0
  setF (sweepSlot s g) 0x1A000C 24 0 ((g + 1) % 2 ^ 25)

/-- R108, R454: a visit, while the sweeper runs over a ready image. -/
def sweepVisit (s : State) : State :=
  if getB s 0x1A0008 0 && imageReady s then pairedFire s 5 (getF s 0x1A000C 24 0) sweepNext else s

def execSweeperVisit (s : State) : Host.Outcome State Fault Refusal := done (sweepVisit s)

/-- R109: a pause is accepted. -/
def pauseOk (s : State) : Bool :=
  match s.sweepRunFrom with
  | some t => decide (ltNs s > t + 1800000000000)
  | none => true

/-- R6, R109: the bits of SIG_SWEEP_CFG whose written value is refused: an SWEEP_PERIOD or AGE_LIMIT outside its range. -/
def sweepBad (data : Word) : Nat :=
  (if fld data 11 1 < 60 ∨ fld data 11 1 > 1800 then 0xFFE else 0) + (if fld data 19 12 < 1 ∨ fld data 19 12 > 240 then 0xFF000 else 0)

/-- A write of SIG_SWEEP_CFG: the ranges are those of the fields the write would change. -/
def sweepWrite (s : State) (q : Requester) (data : Word) : State :=
  let old := rd s 0x1A0008
  let was := old.getLsbD 0
  let ask := data.getLsbD 0
  let refuse := was && !ask && keyOk s q && !pauseOk s
  let data' := if refuse then putFld data 0 0 1 else data
  let bad := sweepBad data' &&& (old ^^^ data').toNat
  let s1 := writeMasked s q 0x1A0008 data' { rw := 0, rwd := 0xFFFFE, rwk := 1, w1c := 0, kwo := 0 } (!was) (some (0x1A0000, 5)) bad
  let s2 := if refuse then raise s1 0x1A0000 5 else s1
  let now := getB s2 0x1A0008 0
  if was && !now then { s2 with sweepPauseAt := some (ltNs s) }
  else if !was && now then { s2 with sweepPauseAt := none, sweepRunFrom := some (ltNs s) }
  else s2

def execSweepPause (q : Requester) (data : Word) (s : State) : Host.Outcome State Fault Refusal :=
  done (disarm (pairedWrite s q 0x1A0008 (putFld data 0 0 0) fun a => sweepWrite a q (putFld data 0 0 0)) q)

def execSweepResume (q : Requester) (data : Word) (s : State) : Host.Outcome State Fault Refusal :=
  done (disarm (pairedWrite s q 0x1A0008 (putFld data 0 0 1) fun a => sweepWrite a q (putFld data 0 0 1)) q)

/-- R109, R129: 60 s after the pause. -/
def sweepRearmOp (s : State) : State :=
  match s.sweepPauseAt with
  | some t =>
    if ltNs s < t + 60000000000 then s
    else
      let s := { setB s 0x1A0008 0 true with sweepPauseAt := none, sweepRunFrom := some (ltNs s) }
      evtItem (raise s 0x1A0000 4) 0x1A0014 0 0x22 0 (leBytes 4 (getF s 0x1A000C 24 0))
  | none => s

def execSweepRearm (s : State) : Host.Outcome State Fault Refusal := done (sweepRearmOp s)

/-! ### BAR4 (R111, R114) -/

def segVisible (s : State) (seg : Nat) : Bool := getB s (0x1A0018 + 4 * (seg / 32)) (seg % 32)

/-- The 16 bytes that BAR4 shows of a slot. -/
def bar4Slot (s : State) (g : Nat) : List Byte :=
  if imageReady s && segVisible s (gSeg g) then slotBytes (slotAt s g) else List.replicate 16 0

/-- The slots that `len` bytes from offset `off` touch. -/
def bar4Slots (off len : Nat) : List Nat := (List.range ((off + len + 15) / 16 - off / 16)).map fun i => off / 16 + i

def bar4ReadOp (s : State) (off len : Nat) : State :=
  let gs := bar4Slots off len
  let bs := gs.flatMap fun g => bar4Slot s g
  let s := if imageReady s then (gs.filter fun g => segVisible s (gSeg g)).foldl (fun a g => touch a g false) s else s
  send s (.bar4 (slice bs (off % 16) len))

def execBar4Read (off : BitVec 29) (len : Nat) (s : State) : Host.Outcome State Fault Refusal := done (bar4ReadOp s off.toNat len)

def execBar4Write (_off : BitVec 29) (_len : Nat) (s : State) : Host.Outcome State Fault Refusal :=
  done (raise (incC s 0x1A0038) 0x1A0000 1)

/-! ### Housekeeping (R120) -/

/-- The local indices of segment 63 that are written. -/
def houseIdx (i : Nat) : Bool :=
  [0, 1, 2, 3, 4, 8, 9, 10, 11, 12, 13, 14, 16, 17, 18, 19, 24, 25, 26, 27, 28, 32, 33, 34, 35, 40, 41, 44, 45, 46, 47, 48, 49, 50].contains i

/-- The largest of the four die temperatures measured last, as signed numbers. -/
def hottest (s : State) : Int :=
  ((List.range 4).map fun k => sInt 64 (houseAt s k)).foldl max (sInt 64 (houseAt s 0))

/-- R120: the values that the block's own state gives; `meas` is the measured value of every other index. The offset of LT from the selected
domain's time is that domain's offset, negated (R273). -/
def houseValue (s : State) (i : Nat) (meas : BitVec 64) : BitVec 64 :=
  if i = 4 then BitVec.ofInt 64 (hottest s)
  else if i = 16 then BitVec.ofNat 64 (s.clk.last10.foldl max 0)
  else if i = 17 then BitVec.ofNat 64 (600000 + 2500 * getF s 0x10108 14 8)
  else if i = 18 then BitVec.ofNat 64 (getF s 0x10108 0 0)
  else if [19, 24, 25, 26, 27, 28, 33, 34, 35, 48, 49].contains i then BitVec.ofNat 64 (houseAt s i)
  else if i = 41 then BitVec.ofInt 64 (-(if getF s 0x60008 0 0 = 0 then s.time.td0.off else s.time.td1.off))
  else if i = 50 then BitVec.ofNat 64 (s.ticks / 500000000)
  else if i = 32 then BitVec.ofNat 64 (getF s 0x180024 17 0)
  else if i = 40 then BitVec.ofNat 64 (getF s 0x6000C 1 0)
  else if i = 44 then BitVec.ofNat 64 (getF s 0x7000C 1 0)
  else if i = 45 then BitVec.ofNat 64 (budMode s)
  else if i = 46 then BitVec.ofNat 64 (getF s 0x3A004 0 0)
  else if i = 47 then BitVec.ofNat 64 s.upd.mode
  else meas

def houseWrite (s : State) (i : Nat) (meas : BitVec 64) : State :=
  let s := if i < 4 then houseSet s i meas.toNat else s
  if imageReady s && houseIdx i && decide (getF s 0x7000C 1 0 ≤ 1) then
    (updateSlot s (gsid (ownVeh s) 63 i) (houseValue s i meas) false false true false).1
  else s

def execHousekeepingWrite (idx : Fin 64) (meas : BitVec 64) (s : State) : Host.Outcome State Fault Refusal :=
  done (houseWrite s idx.val meas)

/-! ### Resets, readiness, counters (R124 to R127) -/

/-- R104, R124: one slot set to sixteen zero bytes, a change. -/
def zeroSlot (s : State) (g : Nat) : State := houseAdd (houseAdd (incC (setSlot s g Slot.init) 0x1A0034) 28 1) 1049 1

/-- R124, R129: slots reset after an uncorrectable error: `cause` 0 memory, 1 cache. The reset does not pass through the cache (DESIGN CHOICE, log 42). -/
def resetSlots (s : State) (gs : List Nat) (cause : Nat) : State :=
  let s := raise (gs.foldl zeroSlot s) 0x1A0000 2
  evtItem s 0x1A0014 0 0x20 (gs.headD 0) ([BitVec.ofNat 8 gs.length, BitVec.ofNat 8 cause, 0, 0] ++ leBytes 4 (16 * gs.headD 0))

/-- R142: the window of one DECODE descriptor starts now. -/
def openWindow (s : State) (m : SMap DescRt) (j : Nat) : SMap DescRt :=
  SMap.set (fun _ => DescRt.init) m j { SMap.get (fun _ => DescRt.init) m j with last := pairStamp s, acted := false }

/-- R142: every decode window starts afresh. -/
def openWindows (s : State) : State :=
  { s with desc := (((tList s tSdp).filter fun e => sdOp e.2 == 1).map fun e => e.1).foldl (openWindow s) s.desc }

/-- IMAGE_READY goes to 1: decode windows start (R142). -/
def imageUp (s : State) : State := openWindows (setB (setB s 0x1A0000 0 true) 0x14 8 true)

/-- R127: the resume pass at one slot: a status change setting STALE where VALID = 1, one that has it already among them; each counts in
SIG_STALE_CNT (log 26). -/
def resumeSlot (s : State) (g : Nat) : State :=
  let x := slotAt s g
  let s := touch s g false
  if x.valid then raise (incC (changeSlot s g (x.put 1 true)) 0x1A0030) 0x1A0000 3 else s

/-- R127: the resume pass over every slot. -/
def resumePass (s : State) : State := (List.range (2 ^ 25)).foldl resumeSlot s

/-- R126: the counters at 0x030 to 0x058. -/
def imgCounters : List Nat := wordsFrom 0x1A0030 5 ++ wordsFrom 0x1A0048 4

def execSigImgCntClr (q : Requester) (s : State) : Host.Outcome State Fault Refusal :=
  done (disarm (pairedWrite s q 0x1A0014 (strobe s 0x1A0014 0x80) fun a => zeroAll a imgCounters) q)

end Sys2Proof.Machine
end

