-- ==== Sys2Proof/Machine/Seal.lean ====
section
/-!
DEFINITION. Sys2Proof/Machine/Seal.lean: message objects and their payloads as data (R65 to R69), and sealing and verification under the
Seal Table (R307 to R311).
-/
namespace Sys2Proof.Machine

/-! ### MOT entries (R66) -/

def motAt (s : State) (o : Nat) : BitVec 768 := tGet s tMot o
def moValid (e : BitVec 768) : Bool := eFld e 0 0 0 == 1
def moTx (e : BitVec 768) : Bool := eFld e 0 1 1 == 1
def moFmt (e : BitVec 768) : Nat := eFld e 0 4 2
def moBrs (e : BitVec 768) : Bool := eFld e 0 5 5 == 1
def moEsi (e : BitVec 768) : Bool := eFld e 0 6 6 == 1
def moSingle (e : BitVec 768) : Bool := eFld e 0 7 7 == 1
def moSealed (e : BitVec 768) : Bool := eFld e 0 8 8 == 1
def moRoute (e : BitVec 768) : Bool := eFld e 0 9 9 == 1
def moSigr (e : BitVec 768) : Bool := eFld e 0 10 10 == 1
def moNotify (e : BitVec 768) : Bool := eFld e 0 11 11 == 1
def moHostrx (e : BitVec 768) : Bool := eFld e 0 12 12 == 1
def moClass (e : BitVec 768) : Nat := eFld e 0 15 14
def moComp (e : BitVec 768) : Nat := eFld e 0 19 16
def moSet (e : BitVec 768) : Nat := eFld e 0 23 20
def moRing (e : BitVec 768) : Nat := eFld e 0 27 24
def moRlt (e : BitVec 768) : Nat := eFld e 1 15 0
def moJnl (e : BitVec 768) : Nat := eFld e 1 21 16
def moSdp (e : BitVec 768) : Nat := eFld e 2 17 0
def moSdpN (e : BitVec 768) : Nat := eFld e 2 25 18
def moBase (e : BitVec 768) : Nat := eFld e 3 18 0
def moGr (e : BitVec 768) : Nat := eFld e 3 22 19

/-- The object can carry CAN XL. -/
def moXl (e : BitVec 768) : Bool := if moTx e then moFmt e == 2 else nbit (moFmt e) 2

/-- The entry as `OnBusKind.object` keeps it. -/
def moKeep (e : BitVec 768) : BitVec 128 := e.setWidth 128
def moKept (e : BitVec 128) : BitVec 768 := e.setWidth 768

/-! ### State records (R67) -/

def obBit (s : State) (o b : Nat) : Bool := (objAt s o).st.getLsbD b
def obLen (s : State) (o : Nat) : Nat := fld (objAt s o).st 11 0
def obPut (s : State) (o hi lo v : Nat) : State := setObj s o { objAt s o with st := putFld (objAt s o).st hi lo v }

/-! ### Payloads (R68) -/

def payByte (s : State) (a : Nat) : Byte := SMap.get (fun _ => (0 : Byte)) s.pay a
def payRead (s : State) (a n : Nat) : List Byte := (List.range n).map fun i => payByte s (a + i)

def payWrite (s : State) (a : Nat) : List Byte → State
  | [] => s
  | b :: bs => payWrite { s with pay := SMap.set (fun _ => (0 : Byte)) s.pay a b } (a + 1) bs

/-- First byte of the payload area, and of its data: an XL area begins with its header. -/
def areaAt (e : BitVec 768) : Nat := 8 * moBase e
def dataAt (e : BitVec 768) : Nat := areaAt e + (if moXl e then 8 else 0)
/-- On-die data bytes. -/
def dataRoom (e : BitVec 768) : Nat := if moXl e then 64 else 8 * moGr e

/-- Data bytes an object can carry. -/
def dataMax (e : BitVec 768) : Nat := if moXl e then 2048 else 8 * moGr e

def overflowAt (o : Nat) : Nat := 0x28000000 + o * 2048

def hdrBytes (h : XlHdr) : List Byte := [h.sdt, h.vcid, BitVec.ofNat 8 (bnat h.sec), 0] ++ leBytes 4 h.af.toNat

def hdrOf (l : List Byte) : XlHdr :=
  { sdt := l.getD 0 0, vcid := l.getD 1 0, sec := (l.getD 2 0).getLsbD 0, af := BitVec.ofNat 32 (leAt l 4 4) }

def noHdr : XlHdr := { sdt := 0, vcid := 0, sec := false, af := 0 }

/-- The on-die data written; bytes of the area beyond it become zero. -/
def putData (s : State) (e : BitVec 768) (data : List Byte) : State := payWrite s (dataAt e) (padTo (dataRoom e) data)

/-- The XL header written, for an object that has one. -/
def putHdr (s : State) (e : BitVec 768) (h : XlHdr) : State := if moXl e then payWrite s (areaAt e) (hdrBytes h) else s

/-- The `n` data bytes of an object: the area, then the overflow buffer of an XL object, or the zero bytes of R83 that pad a CAN FD payload to a valid
length beyond its area. -/
def objData (s : State) (o : Nat) (e : BitVec 768) (n : Nat) : List Byte :=
  payRead s (dataAt e) (min n (dataRoom e)) ++ (if moXl e then memRead s (overflowAt o) (n - 64) else List.replicate (n - dataRoom e) 0)

/-- A valid CAN FD length not below `n`. -/
def fdLen (n : Nat) : Nat :=
  if n ≤ 8 then n else if n ≤ 12 then 12 else if n ≤ 16 then 16 else if n ≤ 20 then 20 else if n ≤ 24 then 24
  else if n ≤ 32 then 32 else if n ≤ 48 then 48 else 64

/-! ### The Seal Table (R307, R308) -/

def seValid (e : BitVec 768) : Bool := eFld e 0 0 0 == 1
def seSeals (e : BitVec 768) : Bool := eFld e 0 1 1 == 1
def seObj (e : BitVec 768) : Nat := eFld e 0 18 2
def seComp (e : BitVec 768) : Nat := eFld e 0 31 28
def seKey (e : BitVec 768) : Nat := eFld e 1 9 0
def seFvBytes (e : BitVec 768) : Nat := eFld e 1 11 10 + 1
def seMacCode (e : BitVec 768) : Nat := eFld e 1 14 12
def seMacBytes (e : BitVec 768) : Nat := 3 + seMacCode e
def seDlen (e : BitVec 768) : Nat := eFld e 1 21 16
def seDataId (e : BitVec 768) : Nat := eFld e 2 31 0
def seFv (e : BitVec 768) : Nat := nbits e.toNat 191 128
def seSetFv (e : BitVec 768) (v : Nat) : BitVec 768 := ePut (ePut e 4 31 0 v) 5 31 0 (v / 2 ^ 32)

/-- The valid entry that names an object. -/
def sealFor (s : State) (o : Nat) : Option (Nat × BitVec 768) := (tList s tSlt).find? fun x => seValid x.2 && seObj x.2 == o

/-- R308: the length of a sealed frame in a format; none where the format cannot carry it. -/
def sealLen (e : BitVec 768) (fmt : Nat) : Option Nat :=
  let n := seDlen e + seFvBytes e + seMacBytes e
  if fmt = 0 then (if n ≤ 8 then some n else none) else if fmt = 1 then (if n ≤ 64 then some (fdLen n) else none) else none

/-- The AES-128 key of the entry, with SEAL in its usage. -/
def sealKey (s : State) (e : BitVec 768) : Option (List Byte) :=
  match keyFor s (seKey e) 6 with
  | some k => if k.length = 16 then some k else none
  | none => none

/-- R308: the leftmost M_b bytes of the MAC. -/
def sealMac (e : BitVec 768) (key : List Byte) (fv : Nat) (head : List Byte) : List Byte :=
  (Config.cmac key (beBytes 4 (seDataId e) ++ beBytes 8 fv ++ head)).take (seMacBytes e)

/-- R308: a sealed frame's bytes from its data. -/
def sealBytes (e : BitVec 768) (key : List Byte) (len fv : Nat) (data : List Byte) : List Byte :=
  let head := padTo (len - seFvBytes e - seMacBytes e) (data.take (seDlen e))
  head ++ beBytes (seFvBytes e) (fv % 2 ^ (8 * seFvBytes e)) ++ sealMac e key fv head

/-- R309: item 0x85. -/
def sealRefused (s : State) (o cause : Nat) : State := evtItem s 0x90008 1 0x85 o [BitVec.ofNat 8 cause]

/-- R305: the work in hand of the seal unit was ended by a tamper erase. -/
def sealCut (s : State) : Bool := engineAlarm s 4 == 256

/-- R309: an object's payload sealed; whether the request may be made comes with the state. -/
def sealObject (s : State) (o : Nat) : State × Bool :=
  let m := motAt s o
  match (sealFor s o).filter fun x => seSeals x.2 with
  | none => (sealRefused s o 0, false)
  | some (i, e) =>
    match sealKey s e with
    | none => if sealCut s then (sealRefused (setEngineAlarm s 4 0) o 5, false) else (sealRefused s o 1, false)
    | some key =>
      match (sealLen e (moFmt m)).filter fun n => decide (n ≤ dataMax m) with
      | none => (sealRefused s o 2, false)
      | some len =>
        let w := engineWork s 4 (seKey e) 0 key
        if seFv e = 2 ^ 64 - 1 then (sealRefused s o 3, false)
        else if w.1 ≠ 0 then (sealRefused w.2 o (w.1 + 1), false)
        else
          let s := w.2
          let s' := putData s m (sealBytes e key len (seFv e + 1) (objData s o m (seDlen e)))
          let s' := obPut s' o 11 0 len
          (incC (tSet s' tSlt i (seSetFv e (seFv e + 1))) 0x90048, true)

/-- R309: sealed when the object is SEALED. -/
def sealIf (s : State) (o : Nat) : State × Bool := if moSealed (motAt s o) then sealObject s o else (s, true)

/-- R310: a failed verification. -/
def sealFail (s : State) (o jnl cause fvlen r fv : Nat) : State :=
  itemTo (raise (incC s 0x90050) 0x90000 4) jnl 0x80 o
    ([BitVec.ofNat 8 cause, BitVec.ofNat 8 fvlen, 0, 0] ++ leBytes 4 r ++ leBytes 8 fv)

/-- R74, R307, R310: a frame on a sealed receive object verified by its SLT entry in `a`, the tables of its lookup. An entry that has been written or
cleared since keeps what that gave it. -/
def sealVerify (s a : State) (o jnl : Nat) (f : CanFrame) : State × Bool :=
  match (sealFor a o).filter fun x => !seSeals x.2 with
  | none => (sealFail s o jnl 3 0 0 0, false)
  | some (i, e) =>
    let fb := seFvBytes e
    let mb := seMacBytes e
    let len := f.data.length
    let r := beNat (slice f.data (len - fb - mb) fb)
    let d := wrapDist (8 * fb) r (seFv e)
    let fail (s : State) (c : Nat) := (sealFail s o jnl c (8 * fb) r (seFv e), false)
    if f.fmt = .xl || sealLen e (canFmtNo f.fmt) != some len then fail s 1
    else
      match sealKey s e with
      | none => if sealCut s then fail (setEngineAlarm s 4 0) 5 else fail s 4
      | some key =>
        if d = 0 || d ≥ 2 ^ (8 * fb - 1) then fail s 2
        else
          let w := engineWork s 4 (seKey e) 0 key
          let s := w.2
          if w.1 ≠ 0 then fail s (w.1 + 1) else
          let fv := seFv e + d
          if sealMac e key fv (f.data.take (len - fb - mb)) != slice f.data (len - mb) mb then fail s 0
          else (incC (if tGet s tSlt i = e then tSet s tSlt i (seSetFv e fv) else s) 0x9004C, true)

end Sys2Proof.Machine
end

