-- ==== Sys2Proof/Machine/CanTx.lean ====
section
/-!
DEFINITION. Sys2Proof/Machine/CanTx.lean: transmit scheduling (R82 to R91): requests, transmit sets, candidates, the choice point, what the end
of an attempt does, routed copies, locks.
-/
namespace Sys2Proof.Machine

/-! ### Channels -/

def modeReq (s : State) (n : Nat) : Nat := getF s (canR n 0) 2 0
/-- MODE_CUR: 0 to 5 as MODE_REQ, 6 BUS_OFF, 7 CLOCK_HOLD. -/
def modeCur (s : State) (n : Nat) : Nat := getF s (canR n 0) 10 8
def integrating (s : State) (n : Nat) : Bool := getB s (canR n 0) 12

/-- PROTO allows a format (0 classical, 1 CAN FD, 2 CAN XL). -/
def fmtOn (s : State) (n fmt : Nat) : Bool :=
  if fmt = 0 then true else if fmt = 1 then getB s (canR n 0xC) 0 else decide (n < 16) && getB s (canR n 0xC) 1

/-- ECS is not error active. -/
def passive (s : State) (n : Nat) : Bool := getF s (canR n 0x28) 18 17 != 0

/-! ### Identifiers of objects (R65, R75) -/

def xiValid (e : BitVec 768) : Bool := eFld e 0 0 0 == 1
def xiChan (e : BitVec 768) : Nat := eFld e 0 6 1
def xiIdent (e : BitVec 768) : Nat := nbits e.toNat 36 8
def xiObj (e : BitVec 768) : Nat := nbits e.toNat 54 40
def xiComp (e : BitVec 768) : Nat := nbits e.toNat 59 56

/-- The XIM entry that references an extended object. -/
def ximFor (s : State) (x : Nat) : Option (BitVec 768) :=
  ((tList s tXim).find? fun e => xiValid e.2 && xiObj e.2 == x).map fun e => e.2

/-- The channel and identifier of an object; none for an extended object that no XIM entry names. -/
def objIdent (s : State) (o : Nat) : Option (Nat × Bool × Nat) :=
  if o < 98304 then some (o / 2048, false, o % 2048)
  else (ximFor s (o - 98304)).map fun e => (xiChan e, true, xiIdent e)

/-- The channel of an object that can be sent on: it has one, and it is not DISABLED (R93). -/
def objLive (s : State) (o : Nat) : Option (Nat × Bool × Nat) := (objIdent s o).filter fun x => modeCur s x.1 != 0

/-! ### Locks (R89 to R91) -/

def lockMs (s : State) : Nat := ltNs s

/-- R89: a valid owner code. -/
def lockCode (c : Nat) : Bool := c < 0x30 || (0x40 ≤ c && c < 0x50) || (0x50 ≤ c && c < 0x5A) || c == 0x60

/-- R90: a lock requested: granted to an unlocked channel that is not DISABLED, renewed for its own owner, else refused. A renewal takes the new request's
timeout (DESIGN CHOICE, log 42). -/
def lockAsk (s : State) (n owner ms : Nat) : State × Bool :=
  let c := chan s n
  if modeCur s n = 0 then (s, false)
  else
    match c.lock with
    | none => (setChan s n { c with lock := some { owner := owner, start := lockMs s, timeout := ms } }, true)
    | some l =>
      if l.owner = owner then (setChan s n { c with lock := some { owner := owner, start := lockMs s, timeout := ms } }, true)
      else (s, false)

/-- R91: the owner presents a request: its timer restarts. -/
def lockTouch (s : State) (n owner : Nat) : State :=
  let c := chan s n
  match c.lock with
  | some l => if l.owner = owner then setChan s n { c with lock := some { l with start := lockMs s } } else s
  | none => s

def lockDrop (s : State) (n : Nat) : State := setChan s n { chan s n with lock := none }

/-- R91: released by its owner. -/
def lockFree (s : State) (n owner : Nat) : State × Bool :=
  match (chan s n).lock with
  | some l => if l.owner = owner then (lockDrop s n, true) else (s, false)
  | none => (s, false)

def lockEnd (l : Lock) : Nat := l.start + l.timeout * 1000000

/-- R91: the lock's window is over, as LT has it. -/
def lockOver (s : State) (n : Nat) : Bool :=
  match (chan s n).lock with
  | some l => decide (lockEnd l ≤ ltNs s)
  | none => false

/-- R91: what the end of the window does. -/
def lockTimeoutOp (s : State) (n : Nat) : State :=
  match (chan s n).lock with
  | none => s
  | some l => evtItem (raise (incC (lockDrop s n) (motR n 0x1C)) 0xA8600 1) 0xA8608 8 0x13 n ([BitVec.ofNat 8 l.owner, 0] ++ leBytes 2 l.timeout)

/-- CANnn_LOCK as it reads. -/
def lockWord (s : State) (n : Nat) : Word :=
  match (chan s n).lock with
  | none => 0
  | some l => BitVec.ofNat 32 (1 + 256 * l.owner + 65536 * ceilDiv (lockEnd l - ltNs s) 1000000)

/-- While a channel is locked, only its owner's frames compete. -/
def lockLets (s : State) (n owner : Nat) : Bool :=
  match (chan s n).lock with
  | some l => l.owner == owner
  | none => true

/-! ### Requests (R83) -/

/-- The code of a request that no lock owner made. -/
def noOwner : Nat := 0xFF

def objLost (s : State) (n o : Nat) : State := raise (incC (obPut s o 17 17 1) (motR n 0x10)) 0xA8600 3

/-- R67: a new request: PEND is 1, ATTEMPTS starts at 0, and FAIL, which tells of the last request, is 0. -/
def pendNew (s : State) (o : Nat) : State := obPut (obPut (obPut s o 18 18 1) o 26 23 0) o 20 20 0

/-- R83: a request for a transmit object whose payload stands in the store. A replaced pending payload keeps its place in the order of presentation, and
its request becomes the new owner's (DESIGN CHOICE, log 42). -/
def request (s : State) (o owner : Nat) : State :=
  match objLive s o with
  | none => s
  | some (n, _, ident) =>
    let s := lockTouch s n owner
    let x := objAt s o
    let s := budEvent s (leBytes 4 o ++ leBytes 4 ident ++ objData s o (motAt s o) (obLen s o))
    if obBit s o 19 then
      if x.kept then objLost (setObj s o { x with keptOwner := owner }) n o
      else setObj s o { x with kept := true, keptOwner := owner }
    else if obBit s o 18 then
      let s := objLost (setObj s o { x with owner := owner }) n o
      obPut s o 26 23 0
    else
      pendNew { setObj s o { x with owner := owner, seq := s.reqSeq } with reqSeq := s.reqSeq + 1 } o

/-- R83, R92, R93: a SEND: LEN and the payload stored, padded to a valid CAN FD length, sealed, and requested. Whether it was not refused by
sealing comes with the state. The bytes of the area beyond the data given become zero (DESIGN CHOICE, log 42). -/
def sendSealed (s : State) (o : Nat) (hdr : XlHdr) (data : List Byte) (owner : Nat) : State × Bool :=
  let e := motAt s o
  let n := if moFmt e = 1 then fdLen data.length else data.length
  let s := putHdr (putData s e (data.take 64)) e hdr
  let s := if moXl e then memWrite s (overflowAt o) (data.drop 64) else s
  let x := sealIf (obPut s o 11 0 n) o
  (if x.2 then request x.1 o owner else x.1, x.2)

def sendObj (s : State) (o : Nat) (hdr : XlHdr) (data : List Byte) (owner : Nat) : State := (sendSealed s o hdr data owner).1

/-- R92: the LEN that a SEND may give an object, at most `room` bytes through its interface for an XL object. -/
def sendLenOk (e : BitVec 768) (room len : Nat) : Bool :=
  if moXl e then 1 ≤ len && len ≤ room
  else len ≤ 8 * moGr e && len ≤ (if moFmt e = 0 then 8 else 64)

/-! ### Transmit sets (R82) -/

def tstAt (s : State) (i : Nat) : TstRt := SMap.get (fun _ => TstRt.init) s.tst i
def setTst (s : State) (i : Nat) (x : TstRt) : State := { s with tst := SMap.set (fun _ => TstRt.init) s.tst i x }

def tsTrig (e : BitVec 768) : Nat := eFld e 0 1 0
def tsOnchg (e : BitVec 768) : Bool := eFld e 0 2 2 == 1
def tsTe (e : BitVec 768) : Nat := eFld e 0 6 3
def tsPeriod (e : BitVec 768) : Nat := eFld e 1 23 0
def tsOffset (e : BitVec 768) : Nat := eFld e 2 23 0
def tsGap (e : BitVec 768) : Nat := eFld e 3 15 0

/-- R82: LT as a count of whole microseconds. -/
def ltUs (s : State) : Nat := ltNs s / 1000

/-- R82, R145, R171, R186: the periodic rule. -/
def periodic (s : State) (period offset : Nat) : Bool :=
  period != 0 && decide (offset ≤ ltUs s) && (ltUs s - offset) % period == 0
    || period != 0 && decide (ltUs s < offset) && (offset - ltUs s) % period == 0

/-- R157: a composition left for the engines, or merged into one of the same target that waits already. -/
def compFire (s : State) (t : CompTarget) (merged : Nat) : State :=
  if s.comps.any fun c => c.target == t && !c.started then incC s merged
  else { s with comps := s.comps ++ [{ target := t, started := false, buf := [], hiBit := 0, descs := [] }] }

/-- R82, R126, R159: a firing reaches one object. One that RT_EN = 0 omits is not counted in SIG_PRE_READY_DROP, whatever IMAGE_READY holds (DESIGN
CHOICE, log 42). -/
def fireObj (s : State) (o : Nat) : State :=
  if !moSigr (motAt s o) then request s o noOwner
  else if !getB s 0x1A1008 0 then s
  else if !imageReady s then incC s 0x1A0040
  else compFire s (.object o) 0x1A1128

/-- The valid transmit objects of set `k` of channel `n`. -/
def setObjs (s : State) (n k : Nat) : List Nat :=
  ((tList s tMot).filter fun x => moValid x.2 && moTx x.2 && moSet x.2 == k
    && (match objIdent s x.1 with | some y => y.1 == n | none => false)).map fun x => x.1

/-- R82: set `i` fires, with the change report that then still waits; on a DISABLED channel without effect. -/
def tstFireBy (s : State) (i : Nat) (wait : Bool) : State :=
  if tsTrig (tGet s tTst i) = 0 then s
  else
    let s := setTst s i { last := some (ltNs s), change := wait }
    if modeCur s (i / 16) = 0 then s else (setObjs s (i / 16) (i % 16)).foldl fireObj s

/-- R82: set `i` fires by its time, its cycle or a SEND. A change report that waits goes on waiting, for the end of MIN_GAP after this firing. -/
def tstFire (s : State) (i : Nat) : State := tstFireBy s i (tstAt s i).change

def gapOver (s : State) (i : Nat) : Bool :=
  match (tstAt s i).last with
  | some t => decide (t + tsGap (tGet s tTst i) * 1000 ≤ ltNs s)
  | none => true

/-- R82: a change report: the set fires, or waits for MIN_GAP. -/
def tstReport (s : State) (i : Nat) : State :=
  let e := tGet s tTst i
  if tsTrig e = 0 || !tsOnchg e then s
  else if gapOver s i then tstFireBy s i false
  else setTst s i { tstAt s i with change := true }

/-! ### Candidates (R84, R85) -/

/-- R84: the arbitration key. -/
def arbKey (ide : Bool) (ident fmt : Nat) : Nat :=
  if ide then ident / 2 ^ 18 * 2 ^ 21 + 2 ^ 20 + ident % 2 ^ 18 * 4 + fmt else ident % 2048 * 2 ^ 21 + fmt

def frameKey (f : CanFrame) : Nat := arbKey f.ide f.ident.toNat (canFmtNo f.fmt)

/-- The frame of a transmit object as its payload stands. A CAN XL object whose set fires before it has been given a payload sends a frame of 0 data bytes
(DESIGN CHOICE, log 42). -/
def objFrame (s : State) (n o : Nat) (ide : Bool) (ident : Nat) : CanFrame :=
  let e := motAt s o
  let fd := moFmt e == 1
  { fmt := canFmtOf (moFmt e), ide := ide, ident := BitVec.ofNat 29 ident, rtr := false, brs := fd && moBrs e
    esi := fd && (moEsi e || passive s n), hdr := if moXl e then hdrOf (payRead s (areaAt e) 8) else noHdr
    data := objData s o e (obLen s o) }

/-- A candidate: its frame, its order of presentation, and what it is. -/
structure Cand where
  frame : CanFrame
  seq   : Nat
  kind  : OnBusKind
  deriving DecidableEq, Repr

def objCands (s : State) (n : Nat) : List Cand :=
  s.obj.filterMap fun x =>
    let e := motAt s x.1
    if x.2.st.getLsbD 18 && moValid e && moTx e && fmtOn s n (moFmt e) && lockLets s n x.2.owner then
      match objIdent s x.1 with
      | some (c, ide, ident) =>
        if c = n then some { frame := objFrame s n x.1 ide ident, seq := x.2.seq
                             kind := .object x.1 (moKeep e) false (min 15 (fld x.2.st 26 23 + 1)) }
        else none
      | none => none
    else none

/-- R84: the oldest routed copy of each class. Under a lock, an oldest copy that is not the owner's holds its queue back (DESIGN CHOICE, log 42). -/
def copyCands (s : State) (n : Nat) : List Cand :=
  [0, 1, 2, 3].filterMap fun k =>
    match (chan s n).copies.find? (fun c => c.cls == k) with
    | some c =>
      if lockLets s n c.owner then
        let f := if c.frame.fmt = .fd then { c.frame with esi := passive s n } else c.frame
        some { frame := f, seq := c.seq, kind := .copy { c with attempts := c.attempts + 1 } }
      else none
    | none => none

/-- R435: a roll-call frame. -/
def rollFrame (s : State) (n op : Nat) : CanFrame :=
  { fmt := .classical, ide := frcB s (segR n 0) 6, ident := BitVec.ofNat 29 (frcF s (segR n 4) 28 0), rtr := false, brs := false
    esi := false, hdr := noHdr, data := [BitVec.ofNat 8 op, BitVec.ofNat 8 (frcF s (segR n 0) 15 8)] }

def rollCands (s : State) (n : Nat) : List Cand :=
  match (chan s n).rollCall with
  | some op =>
    if (chan s n).lock.isNone then [{ frame := rollFrame s n op, seq := (chan s n).rollSeq, kind := .rollCall op }] else []
  | none => []

/-- R437: in SETTLE a channel offers nothing but AWAKE. -/
def cands (s : State) (n : Nat) : List Cand :=
  if (segAt s n).st = 1 then (rollCands s n).filter fun c => c.kind == .rollCall 2
  else objCands s n ++ copyCands s n ++ rollCands s n

def before (a b : Cand) : Bool :=
  frameKey a.frame < frameKey b.frame || (frameKey a.frame == frameKey b.frame && decide (a.seq < b.seq))

/-- R84: the candidate offered. -/
def bestCand : List Cand → Option Cand
  | [] => none
  | c :: l =>
    match bestCand l with
    | some d => if before d c then some d else some c
    | none => some c

/-- R56: the modes that transmit, once integrated. -/
def transmits (s : State) (n : Nat) : Bool := (modeCur s n == 1 || modeCur s n == 4 || modeCur s n == 5) && !integrating s n

/-- R85: the frame chosen is on the bus. -/
def putOnBus (s : State) (n : Nat) (c : Cand) : State :=
  let s := setChan s n { chan s n with bus := some { kind := c.kind, frame := c.frame } }
  match c.kind with
  | .object o _ _ a => obPut (obPut s o 19 19 1) o 26 23 a
  | .copy k => setChan s n { chan s n with copies := (chan s n).copies.map fun x => if x.copy == k.copy && x.seq == k.seq then k else x }
  | .rollCall _ => setChan s n { chan s n with rollAtt := (chan s n).rollAtt + 1 }

/-- R85: what a choice point of channel `n` would offer. -/
def choice (s : State) (n : Nat) : Option Cand :=
  if transmits s n && (chan s n).bus.isNone then bestCand (cands s n) else none

/-! ### Ends of attempts (R83, R86 to R88) -/

/-- R94: the payload of item 0x12; byte 4 is the count of attempts modulo 256 (DESIGN CHOICE, log 42). -/
def abandonItem (ident attempts cause : Nat) : List Byte :=
  leBytes 4 ident ++ [BitVec.ofNat 8 attempts, BitVec.ofNat 8 cause]

def abandonCount (s : State) (n : Nat) : State := raise (incC s (motR n 0x14)) 0xA8600 2

/-- R86, R94: item 0x12 of an object. -/
def abandonNote (s : State) (o : Nat) (e : BitVec 768) (f : CanFrame) (attempts cause : Nat) : State :=
  if moNotify e then itemTo s (moJnl e) 0x12 o (abandonItem f.ident.toNat attempts cause) else s

/-- R86: the request of an object abandoned. -/
def abandonObj (s : State) (n o : Nat) (e : BitVec 768) (f : CanFrame) (attempts cause : Nat) : State :=
  abandonNote (abandonCount (obPut (obPut s o 18 18 0) o 20 20 1) n) o e f attempts cause

/-- R86, R87, R159: a routed copy abandoned: discarded, its pool entries freed, item 0x12 written. -/
def dropCopy (s : State) (n : Nat) (c : CanCopy) (cause : Nat) : State :=
  let s := setChan s n { chan s n with copies := (chan s n).copies.filter fun x => !(x.copy == c.copy && x.seq == c.seq) }
  copyDone (evtItem (abandonCount s n) 0xA8608 8 0x12 (0xFFFF0000 + n) (abandonItem c.frame.ident.toNat c.attempts cause)) c.copy

/-- R51, R86: the cause with which this many attempts reach the limit. -/
def limitCause (s : State) (n : Nat) (single : Bool) (attempts : Nat) : Option Nat :=
  let lim := getF s (canR n 0xC) 11 8
  if single then some 1 else if lim ≠ 0 ∧ attempts ≥ lim then some 0 else none

/-- The kept request becomes the pending one. Its place in the order of presentation is this instant, not that of its arrival (DESIGN CHOICE, log 42). -/
def takeKept (s : State) (o : Nat) : State :=
  let x := objAt s o
  pendNew { setObj s o { x with kept := false, owner := x.keptOwner, seq := s.reqSeq } with reqSeq := s.reqSeq + 1 } o

/-- How an attempt ended without success: a lost arbitration or an error, entry to BUS_OFF, entry to CLOCK_HOLD, or a forced
change of mode. -/
inductive Cut where
  | lost
  | busOff
  | clockHold
  | forced
  deriving DecidableEq, Repr

/-- R87: the cause that replaces the limit's own. -/
def cutCause (k : Cut) (lim : Nat) : Nat :=
  match k with
  | .lost => lim
  | .busOff => 3
  | .clockHold => 4
  | .forced => lim

/-- R83, R86 to R88: the attempt of an object ended without success. R83 names the lost arbitration and the error; a frame cut off by CLOCK_HOLD or a
forced change of mode gives way to its kept request too, with LOST, or after its abandonment (DESIGN CHOICE, log 42). -/
def objFailed (s : State) (n o : Nat) (e : BitVec 768) (f : CanFrame) (attempts : Nat) (replaced : Bool) (k : Cut) : State :=
  if replaced then abandonNote (abandonCount s n) o e f attempts 5
  else
    let s := obPut s o 19 19 0
    let lim := limitCause s n (moSingle e) attempts
    let errorEnd := k == .lost || k == .busOff
    if (objAt s o).kept && (errorEnd || lim.isNone) then objLost (takeKept s o) n o
    else
      match lim with
      | some c =>
        let kept := (objAt s o).kept
        let s := abandonObj s n o e f attempts (cutCause k c)
        if kept then takeKept s o else s
      | none => s

/-- R86, R159: the attempt of a routed copy ended without success. -/
def copyFailed (s : State) (n : Nat) (c : CanCopy) (k : Cut) : State :=
  if c.noRetry then dropCopy s n c 2
  else
    match limitCause s n false c.attempts with
    | some l => dropCopy s n c (cutCause k l)
    | none => s

/-- R437: an abandoned roll-call frame; an abandoned CALL opens the retry window. -/
def rollFailed (s : State) (n op : Nat) : State :=
  match limitCause s n false (chan s n).rollAtt with
  | some _ =>
    let s := abandonCount (setChan s n { chan s n with rollCall := none, rollAtt := 0 }) n
    if op = 1 then setSeg s n { segAt s n with a := some s.lan.lnt } else s
  | none => s

/-! ### Transmitter delay (R42, R43) -/

/-- BRP, TSEG1, TSEG2 and SJW, each stored as its value minus one. -/
structure BitTime where
  brp : Nat
  t1 : Nat
  t2 : Nat
  sjw : Nat
  deriving DecidableEq, Repr

def nomTime (w : Word) : BitTime :=
  { brp := fld w 7 0 + 1, t1 := fld w 15 8 + 1, t2 := fld w 22 16 + 1, sjw := fld w 29 23 + 1 }

def dataTime (w : Word) : BitTime :=
  { brp := fld w 4 0 + 1, t1 := fld w 9 5 + 1, t2 := fld w 13 10 + 1, sjw := fld w 17 14 + 1 }

def BitTime.quanta (b : BitTime) : Nat := 1 + b.t1 + b.t2
/-- R39: the bit length in cycles of 12.5 ns. -/
def BitTime.cycles (b : BitTime) : Nat := b.brp * b.quanta
def BitTime.sjwOk (b : BitTime) : Bool := b.sjw ≤ b.t1 && b.sjw ≤ b.t2

/-- R42: the transmitter delay is measured in this frame. -/
def tdcOf (s : State) (n : Nat) (f : CanFrame) : Bool := getB s (canR n 0x1C) 0 && ((f.fmt == .fd && f.brs) || f.fmt == .xl)

/-- R43: four data bit lengths of a frame, in cycles. -/
def fourBits (s : State) (n : Nat) (f : CanFrame) : Nat := 4 * (dataTime (rd s (canR n (if f.fmt == .xl then 0x18 else 0x14)))).cycles

/-- R42: TDCO, or XTDCO for CAN XL. -/
def sspOffset (s : State) (n : Nat) (f : CanFrame) : Nat := if f.fmt == .xl then getF s (canR n 0x1C) 21 15 else getF s (canR n 0x1C) 7 1

/-- R43: a measurement whose edge RXD shows in cycle `v` fails. -/
def tdcFails (s : State) (n : Nat) (f : CanFrame) (v : Nat) : Bool :=
  tdcOf s n f && (decide (getF s (canR n 0x1C) 14 8 < v) || decide (fourBits s n f ≤ v + sspOffset s n f))

/-- R42: a measured delay stored. -/
def tdcStore (s : State) (n v : Nat) : State :=
  let o := canR n 0x20
  wr s o (BitVec.ofNat 32 (v + 2 ^ 8 * min v (getF s o 14 8) + 2 ^ 16 * max v (getF s o 22 16) + 2 ^ 31))

/-- R42, R43: what the measurement of the frame on the bus leaves, with an edge in cycle `v`; a failed one leaves TDC_MEAS. -/
def tdcMeasured (s : State) (n : Nat) (f : CanFrame) (v : Nat) : State := if tdcOf s n f && !tdcFails s n f v then tdcStore s n v else s

/-- R42: the frame on the bus is cut off without an error. Whether its delay had been measured by then, and the delay, are a free value (log 2);
LOOPBACK_INT, which ignores RXD, measures none. -/
def tdcCut (s : State) (n : Nat) : State :=
  match (chan s n).bus with
  | none => s
  | some b =>
    if tdcOf s n b.frame && modeCur s n != 4 then
      let x := fresh s
      if x.1 % 2 = 1 then tdcMeasured x.2 n b.frame (x.1 / 2 % 128) else x.2
    else s

/-- R42: the ends of an attempt that come without an error that would tell of its measurement. -/
def Cut.silent : Cut → Bool
  | .lost => false
  | .busOff => false
  | .clockHold => true
  | .forced => true

/-- The frame on the bus of channel `n` did not succeed. -/
def attemptFailed (s : State) (n : Nat) (k : Cut) : State :=
  match (chan s n).bus with
  | none => s
  | some b =>
    let s := if k.silent then tdcCut s n else s
    let s := gateAtEnd (setChan s n { chan s n with bus := none }) n
    match b.kind with
    | .object o e r a => objFailed s n o (moKept e) b.frame a r k
    | .copy c => copyFailed s n c k
    | .rollCall op => rollFailed s n op

/-! ### Success (R36, R83) -/

/-- R330: a CAN frame for a host ring. -/
def rxCan (s : State) (src w3 : Nat) (f : CanFrame) (looped : Bool) (copy : Option Nat) : RxDeliv :=
  { src := src, w3 := w3, w4 := canFmtNo f.fmt + 4 * bnat f.brs + 8 * bnat f.esi + 16 * bnat looped
    w5 := f.ident.toNat + 2 ^ 29 * bnat f.ide, stamp := stampNow s
    data := (if f.fmt = .xl then hdrBytes f.hdr else []) ++ f.data, copy := copy }

/-- R149 to R151: a HOSTRX copy takes entries of the host pool of its class; it is refused when there is no room. -/
def hostCopy (s : State) (o : Nat) (e : BitVec 768) (src : Nat) (f : CanFrame) (looped : Bool) : State × Option RxDeliv :=
  let p := 12 + moClass e
  if poolFits s p f.data.length then (poolTake s p f.data.length 0 o, some (rxCan s src o f looped (some s.copyNext)))
  else (poolRefuse s p 0 o, none)

/-- R72, R83: a HOSTRX copy handed to its ring at once. -/
def hostSend (s : State) (o : Nat) (e : BitVec 768) (src : Nat) (f : CanFrame) (looped : Bool) : State :=
  if moHostrx e then
    match hostCopy s o e src f looped with
    | (s', some d) => ringHand s' (moRing e) d
    | (s', none) => s'
  else s

def obStamp (s : State) (o : Nat) : State := setObj s o { objAt s o with stamp := BitVec.ofNat 32 (pairStamp s) }

/-- R83, R94, R98: an object's frame has been sent. The success of a replaced object's frame (R88) writes no item 0x11 and makes no HOSTRX copy (DESIGN
CHOICE, log 42). -/
def objSent (s : State) (n o : Nat) (e : BitVec 768) (f : CanFrame) (attempts : Nat) (replaced : Bool) : State :=
  if replaced then s
  else
    let s := obStamp (obPut (obPut s o 19 19 0) o 16 16 1) o
    let s := if (objAt s o).kept then takeKept s o else obPut s o 18 18 0
    let s := if moNotify e then itemTo s (moJnl e) 0x11 o (leBytes 2 f.data.length ++ [BitVec.ofNat 8 attempts]) else s
    let s := if isApObject n o && getB s 0xA860C n && n < 12 then setChan s n { chan s n with apTxDone := true } else s
    hostSend s o e 9 f false

/-- R150: a routed copy has been sent. -/
def copySent (s : State) (n : Nat) (c : CanCopy) : State :=
  copyDone (setChan s n { chan s n with copies := (chan s n).copies.filter fun x => !(x.copy == c.copy && x.seq == c.seq) }) c.copy

/-- R36: the frame on the bus of channel `n` is valid for the transmitter. -/
def txSucceeded (s : State) (n : Nat) : State :=
  match (chan s n).bus with
  | none => s
  | some b =>
    let s := add64 (setChan s n { chan s n with bus := none }) (canR n 0x48) 1
    let s := gateAtEnd (if canGateOpen s n && modeCur s n != 4 then send s (.can n b.frame) else s) n
    match b.kind with
    | .object o e r a => objSent s n o (moKept e) b.frame a r
    | .copy c => copySent s n c
    | .rollCall _ => setChan s n { chan s n with rollCall := none, rollAtt := 0 }

/-! ### Routed copies (R84, R153) -/

/-- A copy queued on channel `n`. -/
def queueCopy (s : State) (n copy cls owner : Nat) (f : CanFrame) : State :=
  let c : CanCopy := { copy := copy, cls := cls, seq := s.reqSeq, owner := owner, attempts := 0, noRetry := false, frame := f }
  { lockTouch (setChan s n { chan s n with copies := (chan s n).copies ++ [c] }) n owner with reqSeq := s.reqSeq + 1 }

/-- R87, R159: the copies that are not on the bus are discarded; the one on the bus is not tried again when `keepBus`. -/
def dropCopies (s : State) (n cause : Nat) (keepBus : Bool) : State :=
  let onBus : Option CanCopy :=
    match (chan s n).bus with
    | some { kind := .copy c, frame := _ } => if keepBus then some c else none
    | _ => none
  let s := ((chan s n).copies.filter fun x => some x != onBus).foldl (fun a c => dropCopy a n c cause) s
  match onBus with
  | some c =>
    let c' := { c with noRetry := true }
    setChan s n { chan s n with copies := [c'], bus := (chan s n).bus.map fun b => { b with kind := .copy c' } }
  | none => s

/-- R88: a WRITE or CLEAR of an object replaces it under its frame on the bus; its new state record is zero. -/
def objReplaced (s : State) (o : Nat) : State :=
  let mark (c : CanRt) : CanRt :=
    match c.bus with
    | some { kind := .object o' e _ a, frame := f } =>
      if o' = o then { c with bus := some { kind := .object o' e true a, frame := f } } else c
    | _ => c
  let s := (List.range 48).foldl (fun a n => if mark (chan a n) = chan a n then a else setChan a n (mark (chan a n))) s
  setObj s o ObjRt.init

end Sys2Proof.Machine
end

