-- ==== Sys2Proof/Machine/Float.lean ====
section
/-!
DEFINITION. Sys2Proof/Machine/Float.lean: the binary64 and binary32 arithmetic of chapter 5 (R137 to R141), exact, over numbers in units of
the smallest binary64 subnormal, 2^-1074.
-/
namespace Sys2Proof.Machine

def f64Exp (x : Nat) : Nat := x / 2 ^ 52 % 2 ^ 11
def f64Frac (x : Nat) : Nat := x % 2 ^ 52
def f64Neg (x : Nat) : Bool := nbit x 63
def f64Nan (x : Nat) : Bool := f64Exp x == 2047 && f64Frac x != 0
def f64Inf (x : Nat) : Bool := f64Exp x == 2047 && f64Frac x == 0

/-- The canonical NaN of R139. -/
def canonNan : Nat := 0x7FF8000000000000

/-- The magnitude of a number; an infinity stands above every number. -/
def f64Mag (x : Nat) : Nat :=
  if f64Exp x = 2047 then 2 ^ 2200 else if f64Exp x = 0 then f64Frac x else (2 ^ 52 + f64Frac x) * 2 ^ (f64Exp x - 1)

/-- A binary64 number as an integer in units of 2^-1074; numbers compare as these do. -/
def f64Int (x : Nat) : Int := if f64Neg x then -(f64Mag x : Int) else f64Mag x

/-- x ≤ y numerically; false with a NaN. -/
def f64Le (x y : Nat) : Bool := !f64Nan x && !f64Nan y && decide (f64Int x ≤ f64Int y)

/-- n / 2^k rounded to nearest, halves to even. -/
def roundHalfEven (n k : Nat) : Nat :=
  let q := n / 2 ^ k
  let r := n % 2 ^ k
  if 2 * r > 2 ^ k || (2 * r == 2 ^ k && q % 2 == 1) then q + 1 else q

/-- A magnitude rounded to a binary64 one. -/
def f64Round (n : Nat) : Nat :=
  let k := Nat.log2 n - 52
  let m := if n < 2 ^ 53 then n else roundHalfEven n k * 2 ^ k
  if m ≥ 2 ^ 2098 then 2 ^ 2200 else m

/-- R141: |x − y| ≥ t in binary64 arithmetic, for numbers x and y. The difference of two equal infinities is a NaN. -/
def f64Far (x y t : Nat) : Bool :=
  if f64Nan t || (f64Inf x && f64Inf y && f64Neg x == f64Neg y) then false
  else decide (f64Int t ≤ (f64Round (f64Int x - f64Int y).natAbs : Nat))

/-- R139: a binary32 pattern widened to binary64 exactly; every NaN becomes the canonical one. -/
def f32To64 (x : Nat) : Nat :=
  let sign := (x / 2 ^ 31 % 2) * 2 ^ 63
  let e := x / 2 ^ 23 % 256
  let f := x % 2 ^ 23
  if e = 255 then (if f = 0 then sign + 2047 * 2 ^ 52 else canonNan)
  else if e = 0 ∧ f = 0 then sign
  else
    let m := (if e = 0 then f else (2 ^ 23 + f) * 2 ^ (e - 1)) * 2 ^ 925
    let k := Nat.log2 m
    sign + (k - 51) * 2 ^ 52 + (m / 2 ^ (k - 52) - 2 ^ 52)

/-- R140: a binary64 pattern rounded to binary32, halves to even; overflow gives an infinity, a NaN 0x7FC0_0000. -/
def f64To32 (x : Nat) : Nat :=
  let sign := bnat (f64Neg x) * 2 ^ 31
  if f64Nan x then 0x7FC00000
  else if f64Inf x then sign + 255 * 2 ^ 23
  else
    let n := f64Mag x
    let k := max (Nat.log2 n - 23) 925
    let m := roundHalfEven n k * 2 ^ (k - 925)
    if m < 2 ^ 23 then sign + m
    else
      let j := Nat.log2 m
      if j - 22 ≥ 255 then sign + 255 * 2 ^ 23 else sign + (j - 22) * 2 ^ 23 + (m / 2 ^ (j - 23) - 2 ^ 23)

/-- R137: MIN ≤ v ≤ MAX numerically. -/
def f64In (lo hi v : Nat) : Bool := f64Le lo v && f64Le v hi

end Sys2Proof.Machine
end

