-- ==== Sys2Proof/Machine/Engine.lean ====
section
/-!
DEFINITION. Sys2Proof/Machine/Engine.lean: the signal engines (chapter 5): descriptors, transforms, decomposition, compositions, derivation runs,
and timeouts. RT_EN and the rows that end in a telegram are in Machine/MirrorTx.lean.
-/
namespace Sys2Proof.Machine

/-! ### Descriptors (R130 to R133) -/

def sdpAt (s : State) (j : Nat) : BitVec 768 := tGet s tSdp j
def sdBig (e : BitVec 768) : Bool := eFld e 0 3 3 == 1
def sdSigned (e : BitVec 768) : Bool := eFld e 0 4 4 == 1
def sdFloat (e : BitVec 768) : Bool := eFld e 0 5 5 == 1
def sdLen (e : BitVec 768) : Nat := eFld e 0 11 6 + 1
def sdStart (e : BitVec 768) : Nat := eFld e 0 25 12
def sdComp (e : BitVec 768) : Nat := eFld e 0 31 28
def sdChgen (e : BitVec 768) : Bool := eFld e 1 25 25 == 1
def sdNotify (e : BitVec 768) : Bool := eFld e 1 26 26 == 1
def sdChgset (e : BitVec 768) : Nat := eFld e 2 22 13
def sdJnl (e : BitVec 768) : Nat := eFld e 2 28 23
def sdTimeout (e : BitVec 768) : Nat := eFld e 3 15 0
def sdToact (e : BitVec 768) : Nat := eFld e 3 17 16
/-- DERIVE. -/
def dvFn (e : BitVec 768) : Nat := eFld e 0 6 3
def dvInstale (e : BitVec 768) : Bool := eFld e 0 7 7 == 1
def dvChgset (e : BitVec 768) : Nat := eFld e 0 17 8
def dvJnl (e : BitVec 768) : Nat := eFld e 0 23 18
def dvA (e : BitVec 768) : Nat := eFld e 2 24 0
def dvB (e : BitVec 768) : Nat := eFld e 3 24 0
def dvParam (e : BitVec 768) : Nat := eFld e 3 15 0

def descRt (s : State) (j : Nat) : DescRt := SMap.get (fun _ => DescRt.init) s.desc j
def setDesc (s : State) (j : Nat) (x : DescRt) : State := { s with desc := SMap.set (fun _ => DescRt.init) s.desc j x }

/-! ### Bit positions (R135) -/

/-- The positions of a field, most significant bit first, ORDER = 1. -/
def bigBits : Nat → Nat → List Nat
  | 0, _ => []
  | n + 1, p => p :: bigBits n (if p % 8 = 0 then p + 15 else p - 1)

/-- The positions of a field, least significant bit first. -/
def fieldBits (e : BitVec 768) : List Nat :=
  if sdBig e then (bigBits (sdLen e) (sdStart e)).reverse else (List.range (sdLen e)).map fun i => sdStart e + i

def payBit (data : List Byte) (b : Nat) : Bool := (data.getD (b / 8) 0).getLsbD (b % 8)

/-- The number that the bits at these positions give. -/
def takeField (data : List Byte) : List Nat → Nat
  | [] => 0
  | b :: bs => bnat (payBit data b) + 2 * takeField data bs

def putBit (data : List Byte) (b : Nat) (v : Bool) : List Byte :=
  let m := BitVec.ofNat 8 (2 ^ (b % 8))
  data.set (b / 8) (if v then data.getD (b / 8) 0 ||| m else data.getD (b / 8) 0 &&& ~~~ m)

/-- The low bits of `v` put at these positions. -/
def putField (data : List Byte) : List Nat → Nat → List Byte
  | [], _ => data
  | b :: bs, v => putField (putBit data b (v % 2 == 1)) bs (v / 2)

/-! ### Transforms (R137 to R140) -/

def tpMul (e : BitVec 768) : Int := sInt 32 (eFld e 0 31 0)
def tpShift (e : BitVec 768) : Nat := eFld e 1 5 0
def tpRound (e : BitVec 768) : Bool := eFld e 1 6 6 == 1
def tpRange (e : BitVec 768) : Nat := eFld e 1 9 8
def tpOffset (e : BitVec 768) : Int := sInt 64 (nbits e.toNat 127 64)
def tpMin (e : BitVec 768) : Nat := nbits e.toNat 191 128
def tpMax (e : BitVec 768) : Nat := nbits e.toNat 255 192
def tpThresh (e : BitVec 768) : Nat := nbits e.toNat 319 256

def int64Min : Int := -(2 ^ 63 : Nat)
def int64Max : Int := (2 ^ 63 - 1 : Nat)

def clampInt (lo hi x : Int) : Int := if x < lo then lo else if x > hi then hi else x

/-- Steps 2 to 4 of R138. -/
def scaleInt (t : BitVec 768) (x : Int) : Int :=
  let p := x * tpMul t
  let q := if tpShift t = 0 then p
    else (p + (if tpRound t then ((2 ^ (tpShift t - 1) : Nat) : Int) else 0)) / ((2 ^ tpShift t : Nat) : Int)
  q + tpOffset t

/-- What a transform does with a value: a 64-bit pattern, whether it is SUBST, whether the range acted, whether it saturated; no pattern:
refused, with the pattern refused. -/
structure Xf where
  val   : Option Nat
  sub   : Bool
  range : Bool
  sat   : Bool
  r     : Nat
  deriving DecidableEq, Repr

/-- The nearer of two bounds (R138): the bounds may be reversed. Log 2 for a tie. -/
def nearer (lo hi x : Int) (plo phi px : Nat) : Nat :=
  let a := (x - lo).natAbs
  let b := (x - hi).natAbs
  if a < b then plo else if b < a then phi else if Config.nearTie plo phi px then plo else phi

/-- Steps 2 to 6 of R138. -/
def xformInt (t : BitVec 768) (x : Int) : Xf :=
  let r0 := scaleInt t x
  let r := clampInt int64Min int64Max r0
  let sat := r != r0
  let lo := sInt 64 (tpMin t)
  let hi := sInt 64 (tpMax t)
  let out := decide (r < lo) || decide (r > hi)
  let pat := toBits 64 r
  if tpRange t = 0 || !out then { val := some pat, sub := false, range := false, sat := sat, r := pat }
  else if tpRange t = 1 then { val := some (nearer lo hi r (tpMin t) (tpMax t) pat), sub := false, range := true, sat := sat, r := pat }
  else if tpRange t = 2 then { val := none, sub := false, range := true, sat := sat, r := pat }
  else { val := some (tpSubst t), sub := true, range := true, sat := sat, r := pat }

def nearerFloat (lo hi x : Nat) : Nat :=
  if f64Nan lo || f64Nan hi then (if Config.nearTie lo hi x then lo else hi) else nearer (f64Int lo) (f64Int hi) (f64Int x) lo hi x

/-- R139, R140: the range test of a binary64 pattern. A NaN has no nearer bound. -/
def xformFloat (t : BitVec 768) (x : Nat) : Xf :=
  let out := !f64In (tpMin t) (tpMax t) x
  if tpRange t = 0 || !out then { val := some x, sub := false, range := false, sat := false, r := x }
  else if tpRange t = 3 then { val := some (tpSubst t), sub := true, range := true, sat := false, r := x }
  else if tpRange t = 1 && !f64Nan x then
    { val := some (nearerFloat (tpMin t) (tpMax t) x), sub := false, range := true, sat := false, r := x }
  else { val := none, sub := false, range := true, sat := false, r := x }

/-- The counts of a transform (R138). -/
def countXf (s : State) (x : Xf) : State :=
  let s := if x.sat then incC s 0x1A1108 else s
  if x.range then raise (incC s 0x1A110C) 0x1A1000 1 else s

/-- A raw field as a DECODE descriptor reads it, transformed. -/
def decodeXf (d t : BitVec 768) (raw : Nat) : Xf :=
  if sdFloat d then
    xformFloat t (if sdLen d = 32 then f32To64 raw else if f64Nan raw then canonNan else raw)
  else xformInt t (if sdSigned d then sInt (sdLen d) raw else raw)

/-! ### Compartments of descriptors (R31) -/

/-- R31: a descriptor may act for compartment `a` on these slots: it is of that compartment, as are their segments, or it is C0's. -/
def descMay (s : State) (a : Nat) (d : BitVec 768) (gs : List Nat) : Bool :=
  ruleFor a (owned s (sdComp d)) && gs.all fun g => ruleReach (owned s (sdComp d)) (segOwner s (gSeg g))

/-! ### Queues (R147) -/

/-- R147: queue `k` (3 or 4) may be served: the queues before it are empty. -/
def queueUp (s : State) (k : Nat) : Bool :=
  s.carriers.isEmpty && s.work2.isEmpty && (decide (k = 3) || s.comps.all fun c => c.started)

/-! ### Change reports (R141, R145) -/

def dsTrig (e : BitVec 768) : Nat := eFld e 0 1 0
def dsTe (e : BitVec 768) : Nat := eFld e 0 5 2
def dsComp (e : BitVec 768) : Nat := eFld e 0 31 28
def dsPeriod (e : BitVec 768) : Nat := eFld e 1 23 0
def dsOffset (e : BitVec 768) : Nat := eFld e 2 23 0
def dsFirst (e : BitVec 768) : Nat := eFld e 3 17 0
def dsCount (e : BitVec 768) : Nat := eFld e 3 25 18

/-- R145: DST entry `i` fires: a run waits, or this firing merges into one that waits already. -/
def dstFire (s : State) (i : Nat) : State :=
  let e := tGet s tDst i
  let range := (List.range (dsCount e)).map fun k => dsFirst e + k
  if dsTrig e = 0 || !getB s 0x1A1008 0 then s
  else if s.runs.any fun r => r.dst == i && !r.started then incC s 0x1A1128
    else { s with runs := s.runs ++ [{ dst := i, started := false, descs := range, reads := none }] }

/-- R141: a change report to a target; a run ignores those to its own entry. -/
def report (s : State) (target : Nat) (own : Option Nat) : State :=
  if target < 768 then tstReport s target
  else if own = some (target - 768) then s
  else dstFire s (target - 768)

/-- R163: item 0x30. -/
def changeItem (s : State) (jnl g j : Nat) : State :=
  let x := slotAt s g
  itemTo s jnl 0x30 g (leBytes 8 x.value.toNat ++ leBytes 2 x.status.toNat ++ leBytes 2 x.gen.toNat ++ leBytes 4 j)

/-! ### DECODE (R136, R138, R139, R141) -/

/-- R141: whether an update from the old slot to a value is a change. -/
def isChange (d t : BitVec 768) (old : Slot) (v : Nat) : Bool :=
  if !old.valid then true
  else if sdFloat d then
    if f64Nan v || f64Nan old.value.toNat then v != old.value.toNat
    else f64Int (tpThresh t) == 0 || f64Far v old.value.toNat (tpThresh t)
  else decide ((tpThresh t : Int) ≤ ((sInt 64 v - old.int).natAbs : Int))

/-- The update of a DECODE descriptor, and what follows from it. -/
def decodeUpdate (s : State) (j : Nat) (d t : BitVec 768) (x : Xf) (v : Nat) (auth : Bool) : State :=
  let g := gOwn s (sdGsid d)
  let old := slotAt s g
  let u := updateSlot s g (BitVec.ofNat 64 v) x.sub (descRt s j).missed auth false
  if !u.2 then u.1
  else
    let s := setDesc u.1 j { last := pairStamp s, acted := false, missed := false }
    if isChange d t old v then
      let s := if sdNotify d then changeItem s (sdJnl d) g j else s
      if sdChgen d then report s (sdChgset d) none else s
    else s

/-- R136, R31: one DECODE descriptor executed for a carrier; one that would cross compartments is skipped and counted in SE_MISMATCH (log 42). -/
def decodeOne (s : State) (c : Carrier) (j : Nat) : State :=
  let d := sdpAt s j
  if sdOp d ≠ 1 then s
  else
    let s := houseAdd (add64 s 0x1A1100 1) 1048 1
    if (fieldBits d).any fun b => decide (8 * c.data.length ≤ b) then raise (incC s 0x1A1110) 0x1A1000 3
    else if gSeg (sdGsid d) ≠ c.seg ∨ descMay s c.comp d [gOwn s (sdGsid d)] = false then incC s 0x1A1114
    else
      let t := tptAt s (sdXform d)
      let x := decodeXf d t (takeField c.data (fieldBits d))
      let s := countXf s x
      match x.val with
      | some v => decodeUpdate s j d t x v c.auth
      | none => if sdNotify d then itemTo s (sdJnl d) 0x31 j (leBytes 8 x.r ++ [0]) else s

/-- A carrier whose descriptors are done: its pool entries freed, its ring copies handed over (R156). -/
def carrierEnd (s : State) (c : Carrier) : State :=
  c.held.foldl (fun a h => ringHand a h.1 h.2) (copyDone s c.copy)

/-- R151: the missed flag of every DECODE descriptor of a carrier. -/
def setMissed (s : State) (js : List Nat) : State :=
  js.foldl (fun a j => if sdOp (sdpAt a j) = 1 then setDesc a j { descRt a j with missed := true } else a) s

/-- R138, R147: the next descriptor of the oldest CAN carrier, or else of the oldest TRDP dataset. -/
def engineStep (s : State) : State :=
  match s.carriers with
  | c :: rest =>
    match c.descs with
    | j :: js =>
      let c' := { c with descs := js }
      let s := decodeOne { s with carriers := if js.isEmpty then rest else c' :: rest } c j
      if js.isEmpty then carrierEnd s c' else s
    | [] => carrierEnd { s with carriers := rest } c
  | [] =>
    match s.work2 with
    | .dataset c :: rest =>
      match c.descs with
      | j :: js =>
        let c' := { c with descs := js }
        let s := decodeOne { s with work2 := if js.isEmpty then rest else .dataset c' :: rest } c j
        if js.isEmpty then carrierEnd s c' else s
      | [] => carrierEnd { s with work2 := rest } c
    | _ => s


/-- The descriptors that a MOT entry names. -/
def moDescs (e : BitVec 768) : List Nat := (List.range (moSdpN e)).map fun k => moSdp e + k

/-- R71, R126, R149 to R151, R159: a snapshot of an accepted frame for decomposition, with the ring copies that wait for its updates. Where
none is taken they are handed over at once. -/
def snapshot (s : State) (o : Nat) (e : BitVec 768) (n : Nat) (data : List Byte) (auth : Bool) (held : List (Nat × RxDeliv)) : State :=
  let now (a : State) := held.foldl (fun a h => ringHand a h.1 h.2) a
  if !getB s 0x1A1008 0 then now s
  else if !imageReady s then now (incC s 0x1A0040)
  else if poolFits s (moClass e) data.length then
    let c : Carrier := { copy := s.copyNext, seg := n, comp := owned s (moComp e), data := data, auth := auth, named := moDescs e
                         descs := moDescs e, held := held }
    let s := poolTake s (moClass e) data.length 1 o
    { s with carriers := s.carriers ++ [c] }
  else now (setMissed (poolRefuse s (moClass e) 1 o) (moDescs e))

/-! ### ENCODE (R140) and compositions (R157) -/

/-- R140: the raw bits that a slot gives a field; none: nothing is inserted. -/
def encodeXf (d t : BitVec 768) (x : Slot) : Xf :=
  let sub : Xf := { val := if tpHas t then some (tpSubst t) else none, sub := true, range := false, sat := false, r := 0 }
  if !x.valid then sub
  else if sdFloat d then xformFloat t x.value.toNat
  else
    let y := xformInt t x.int
    match y.val with
    | none => y
    | some v =>
      if y.sub then y
      else
        let n := sInt 64 v
        let lo : Int := if sdSigned d then -((2 ^ (sdLen d - 1) : Nat) : Int) else 0
        let hi : Int := if sdSigned d then ((2 ^ (sdLen d - 1) - 1 : Nat) : Int) else ((2 ^ sdLen d - 1 : Nat) : Int)
        let m := clampInt lo hi n
        { y with val := some (toBits 64 m) }

/-- The value was saturated to the field (a count beside that of step 5). -/
def fieldSat (d t : BitVec 768) (x : Slot) : Bool :=
  if !x.valid || sdFloat d then false
  else
    let y := xformInt t x.int
    match y.val, (encodeXf d t x).val with
    | some a, some b => !y.sub && a != b
    | _, _ => false

/-- The bits inserted: those of a FLOAT field of 32 bits are rounded to binary32. -/
def encodeRaw (d : BitVec 768) (v : Nat) : Nat := if sdFloat d && sdLen d = 32 then f64To32 v else v

/-- R136: the field lies beyond a payload area of `room` bytes. -/
def encodeShort (d : BitVec 768) (room : Nat) : Bool := (fieldBits d).any fun b => decide (8 * room ≤ b)

/-- One ENCODE descriptor of a composition of compartment `own` whose payload has `room` bytes; `filled`: its slot has just been filled into
the cache for it. One that would cross compartments is skipped and counted in SE_MISMATCH (log 42). -/
def encodeOne (s : State) (c : Comp) (room own : Nat) (filled : Bool) (j : Nat) : State × Comp :=
  let d := sdpAt s j
  if sdOp d ≠ 2 then (s, c)
  else
    let s := houseAdd (add64 s 0x1A1100 1) 1048 1
    let bits := fieldBits d
    if encodeShort d room then (raise (incC s 0x1A1110) 0x1A1000 3, c)
    else if !descMay s own d [sdGsid d] then (incC s 0x1A1114, c)
    else
      let g := sdGsid d
      let x := slotAt s g
      let s := if filled then s else touch s g false
      let t := tptAt s (sdXform d)
      let y := encodeXf d t x
      let s := countXf s y
      let s := if fieldSat d t x then incC s 0x1A1108 else s
      match y.val with
      | some v => (s, { c with buf := putField c.buf bits (encodeRaw d v), hiBit := max c.hiBit (bits.foldl max 0 + 1) })
      | none =>
        (if x.valid && sdNotify d then itemTo s (sdJnl d) 0x31 j (leBytes 8 y.r ++ [1]) else s, c)

/-- R146: the slot that an ENCODE descriptor must wait for. -/
def encodeMiss (s : State) (room own j : Nat) : Option Nat :=
  let d := sdpAt s j
  if sdOp d = 2 && !encodeShort d room && descMay s own d [sdGsid d] && (cacheHit s (sdGsid d)).isNone then some (sdGsid d) else none

/-- How far a composition has come: waiting for a slot, or complete. -/
inductive CompEnd where
  | miss (c : Comp) (g : Nat)
  | full (c : Comp)
  deriving DecidableEq, Repr

/-- The descriptors of a composition in index order, up to the first that misses the cache; for the first of them `filled` has been filled. -/
def compSteps (s : State) (c : Comp) (room own : Nat) (filled : Option Nat) : List Nat → State × CompEnd
  | [] => (s, .full { c with descs := [] })
  | j :: js =>
    match encodeMiss s room own j, filled with
    | some g, none => (s, .miss { c with descs := j :: js } g)
    | _, _ =>
      let x := encodeOne s c room own filled.isSome j
      compSteps x.1 x.2 room own none js

/-- R157: the smallest length valid for a format that covers `bits` bits. -/
def lenFor (fmt bits : Nat) : Nat :=
  let n := ceilDiv bits 8
  if fmt = 0 then min n 8 else if fmt = 1 then fdLen n else max 1 n

/-- R157: payload and LEN written in one step, sealed, and requested. -/
def objComposed (s : State) (o : Nat) (c : Comp) : State :=
  let e := motAt s o
  if !(moValid e && moTx e) then s
  else
    let n := if obLen s o ≠ 0 then obLen s o else lenFor (moFmt e) c.hiBit
    let x := sealIf (obPut (payWrite s (dataAt e) (c.buf.take (dataRoom e))) o 11 0 n) o
    if x.2 then request x.1 o noOwner else x.1

/-- The next composition of a kind taken up: `objects` or telegrams. -/
def isObjComp (c : Comp) : Bool :=
  match c.target with
  | .object _ => true
  | .telegram _ => false

/-- A composition marked as begun. -/
def markComp (s : State) (t : CompTarget) : State :=
  { s with comps := s.comps.map fun x => if x.target == t then { x with started := true } else x }

/-- A composition has ended; a firing that came meanwhile waits in its own place (R147). -/
def endComp (s : State) (t : CompTarget) : State := { s with comps := s.comps.filter fun x => !(x.target == t && x.started) }

/-! ### DERIVE (R143, R144) -/

/-- The state slot of DEBOUNCE and EDGES. -/
def dvState (g : Nat) : Nat := gsid (gVeh g) (gSeg g) (gIdx g + 1)

def binaryFn (fn : Nat) : Bool := (1 ≤ fn && fn ≤ 7) || fn == 11

/-- The slots that a DERIVE descriptor reads. -/
def dvReads (s : State) (d : BitVec 768) : List Nat :=
  let out := gOwn s (sdGsid d)
  dvA d :: ((if binaryFn (dvFn d) then [dvB d] else []) ++ (if dvFn d = 9 ∨ dvFn d = 10 then [dvState out, out] else []))

/-- R143: the value of the functions without state, on signed inputs. -/
def dvValue (fn : Nat) (a b : Int) : Int :=
  let t (p : Bool) : Int := (bnat p : Int)
  match fn with
  | 0 => a
  | 1 => min a b
  | 2 => max a b
  | 3 => clampInt int64Min int64Max (a + b)
  | 4 => clampInt int64Min int64Max (a - b)
  | 5 => t (a != 0 && b != 0)
  | 6 => t (a != 0 || b != 0)
  | 7 => t ((a != 0) != (b != 0))
  | _ => t (a == 0)

/-- R143: the input that SELECT chooses. -/
def selected (a b : Slot) : Option Slot :=
  if a.valid && !a.stale then some a else if b.valid then some b else if a.valid then some a else none

/-- An update of slot `g` by a DERIVE descriptor, its output or its state slot, with its report and item (R141). -/
def dvPut (s : State) (j dst : Nat) (d : BitVec 768) (g v : Nat) (subst auth : Bool) (lost : Bool) : State :=
  let old := slotAt s g
  let u := updateSlot s g (BitVec.ofNat 64 v) subst lost auth false
  if u.2 && (!old.valid || old.value != BitVec.ofNat 64 v) then
    let s := if sdNotify d then changeItem u.1 (dvJnl d) g j else u.1
    if sdChgen d then report s (dvChgset d) (some dst) else s
  else u.1

/-- The output update. -/
def dvUpdate (s : State) (j dst : Nat) (d : BitVec 768) (v : Nat) (subst auth : Bool) (lost : Bool) : State :=
  dvPut s j dst d (gOwn s (sdGsid d)) v subst auth lost

/-- R144, INSTALE: the status change of a valid output, one already STALE among them. -/
def dvStale (s : State) (g : Nat) : State :=
  let x := slotAt s g
  if x.valid then changeSlot s g (x.put 1 true) else touch s g false

/-- R144: DEBOUNCE. -/
def debounce (s : State) (j dst : Nat) (d : BitVec 768) (a : Slot) : State :=
  let out := gOwn s (sdGsid d)
  let st := slotAt s (dvState out)
  let o := slotAt s out
  if !st.valid || st.value != a.value then dvPut s j dst d (dvState out) a.value.toNat a.subst a.auth false
  else if decide (wrapDist 32 (pairStamp s) st.stamp.toNat ≥ dvParam d * 1000) && (!o.valid || o.value != a.value) then
    dvUpdate s j dst d a.value.toNat a.subst a.auth false
  else s

/-- R144: EDGES. -/
def edges (s : State) (j dst : Nat) (d : BitVec 768) (a : Slot) : State :=
  let out := gOwn s (sdGsid d)
  let st := slotAt s (dvState out)
  let o := slotAt s out
  let e : BitVec 64 := if a.value = 0 then 0 else 1
  let s := if st.valid && st.value == 0 && e == 1 then
      dvUpdate s j dst d (if o.valid then (o.value + 1).toNat else 1) a.subst a.auth false
    else s
  if !st.valid || st.value != e then dvPut s j dst d (dvState out) e.toNat a.subst a.auth false else s

/-- R31: a DERIVE descriptor may act in a run of DST entry `dst`. -/
def deriveMay (s : State) (dst : Nat) (d : BitVec 768) : Bool :=
  descMay s (owned s (dsComp (tGet s tDst dst))) d (gOwn s (sdGsid d) :: dvReads s d)

/-- R144: one DERIVE descriptor, its slots read; one that would cross compartments is skipped and counted in SE_MISMATCH (log 42). -/
def deriveOne (s : State) (dst j : Nat) : State :=
  let d := sdpAt s j
  if sdOp d ≠ 3 then s
  else
    let s := houseAdd (add64 s 0x1A1100 1) 1048 1
    let a := slotAt s (dvA d)
    let b := slotAt s (dvB d)
    let out := gOwn s (sdGsid d)
    if !deriveMay s dst d then incC s 0x1A1114
    else if dvFn d = 11 then
      match selected a b with
      | none => incC s 0x1A111C
      | some x =>
        if dvInstale d && x.stale then dvStale s out
        else dvUpdate s j dst d x.value.toNat x.subst x.auth (x.bit 3)
    else
      let two := binaryFn (dvFn d)
      if !a.valid || (two && !b.valid) then incC s 0x1A111C
      else if dvInstale d && (a.stale || (two && b.stale)) then dvStale s out
      else if dvFn d = 9 then debounce s j dst d a
      else if dvFn d = 10 then edges s j dst d a
      else
        dvUpdate s j dst d (toBits 64 (dvValue (dvFn d) a.int b.int)) (a.subst || (two && b.subst)) (a.auth && (!two || b.auth)) false

/-- The slots that descriptor `j` reads in a run of DST entry `dst`. -/
def deriveSlots (s : State) (dst j : Nat) : List Nat :=
  let d := sdpAt s j
  if sdOp d = 3 && deriveMay s dst d then dvReads s d else []

/-- R146: slots read one after the other, up to the first that misses the cache: what is then still to be read. -/
def readHits (s : State) : List Nat → State × List Nat
  | [] => (s, [])
  | g :: gs => if (cacheHit s g).isSome then readHits (touch s g false) gs else (s, g :: gs)

inductive RunEnd where
  | miss (r : Run) (g : Nat)
  | full
  deriving DecidableEq, Repr

/-- The descriptors of a run in index order, up to the first read that misses the cache. -/
def runSteps (s : State) (r : Run) : List Nat → State × RunEnd
  | [] => (s, .full)
  | j :: js =>
    match readHits s (r.reads.getD (deriveSlots s r.dst j)) with
    | (s, g :: gs) => (s, .miss { r with descs := j :: js, reads := some gs } g)
    | (s, []) => runSteps (deriveOne s r.dst j) { r with reads := none } js

def markRun (s : State) (i : Nat) : State :=
  { s with runs := s.runs.map fun x => if x.dst == i then { x with started := true } else x }

/-- R145: a run has ended; a firing that came meanwhile waits in its own place. -/
def endRun (s : State) (i : Nat) : State := { s with runs := s.runs.filter fun x => !(x.dst == i && x.started) }

/-- A run that has gone as far as it can. -/
def runEnd (i : Nat) : State × RunEnd → State
  | (s, .full) => endRun s i
  | (s, .miss r g) => { s with parked := s.parked ++ [.run r g] }

/-- R144, R147: the oldest run that waits, while the queues before queue 4 are empty. -/
def runNext (s : State) : State :=
  if !queueUp s 4 then s
  else
    match s.runs.find? (fun r => !r.started) with
    | some r => if s.runs.any fun x => x.dst == r.dst && x.started then s else runEnd r.dst (runSteps (markRun s r.dst) r r.descs)
    | none => s

def execDerivationRun (s : State) : Host.Outcome State Fault Refusal := done (runNext s)

def dstPeriodic (s : State) (i : Nat) : State :=
  let e := tGet s tDst i
  if dsTrig e = 1 ∧ periodic s (dsPeriod e) (dsOffset e) then pairedFire s 1 i fun a => dstFire a i else s

def execDstFirePeriodic (i : Fin 256) (s : State) : Host.Outcome State Fault Refusal := done (dstPeriodic s i.val)

/-! ### Timeouts (R142) -/

/-- The age of a decode window: since the latest of the update or WRITE, IMAGE_READY and RT_EN, each of which sets `last`. -/
def windowAge (s : State) (j : Nat) : Nat := wrapDist 32 (pairStamp s) (descRt s j).last

/-- R142, R147: the action of one descriptor, an execution of queue 4. -/
def timeoutAct (s : State) (j : Nat) : State :=
  let d := sdpAt s j
  let g := gOwn s (sdGsid d)
  let s := houseAdd (add64 s 0x1A1100 1) 1048 1
  let s := setDesc s j { descRt s j with acted := true }
  let s := if sdToact d = 1 then staleSlot s g
    else if sdToact d = 2 then timeoutSubst s g
    else s
  evtItem (raise (incC s 0x1A1118) 0x1A1000 2) 0x1A1008 1 0x32 j (leBytes 4 g ++ [BitVec.ofNat 8 (sdToact d)])

/-- A visit to one descriptor. -/
def timeoutVisit (s : State) (j : Nat) : State :=
  let d := sdpAt s j
  if sdOp d = 1 ∧ sdTimeout d ≠ 0 ∧ (descRt s j).acted = false ∧ windowAge s j ≥ sdTimeout d * 1000 then timeoutAct s j else s

def scanAll (s : State) : State := ((tList s tSdp).map fun e => e.1).foldl timeoutVisit s

/-- R147: the scan's actions are of queue 4: while an earlier queue holds work, the scan waits for it. -/
def scanRun (s : State) : State := if queueUp s 4 then scanAll { s with scanHeld := false } else { s with scanHeld := true }

/-- A scan that waits is made once the queues before queue 4 are empty. -/
def scanWaiting (s : State) : State :=
  if s.scanHeld && getB s 0x1A1008 0 && imageReady s then scanRun s else s

/-- R142, R159, R454. -/
def timeoutScanOp (s : State) : State :=
  if getB s 0x1A1008 0 && imageReady s then pairedFire s 4 0 scanRun else s

def execEngineDecode (s : State) : Host.Outcome State Fault Refusal := done (scanWaiting (engineStep s))

def execTimeoutScan (s : State) : Host.Outcome State Fault Refusal := done (timeoutScanOp s)

/-! ### Rows of the transmit sets (R82) -/

def tstPeriodic (s : State) (i : Nat) : State :=
  let e := tGet s tTst i
  if tsTrig e = 1 ∧ periodic s (tsPeriod e) (tsOffset e) then pairedFire s 0 i fun a => tstFire a i else s

def execTstFirePeriodic (i : Fin 768) (s : State) : Host.Outcome State Fault Refusal := done (tstPeriodic s i.val)

/-- R82: the end of MIN_GAP for a change report that waits. A WRITE or CLEAR of the entry leaves the report waiting, and it then fires by the entry as it
stands, with ONCHG = 0 too (DESIGN CHOICE, log 42). -/
def tstChange (s : State) (i : Nat) : State :=
  if (tstAt s i).change ∧ gapOver s i then pairedFire s 8 i fun a => tstFireBy a i false else s

def execTstChangeFire (i : Fin 768) (s : State) : Host.Outcome State Fault Refusal := done (tstChange s i.val)

end Sys2Proof.Machine
end

