-- ==== Sys2Proof/Machine/MirrorTx.lean ====
section
/-!
DEFINITION. Sys2Proof/Machine/MirrorTx.lean: what leaves through SG (chapter 6): bundle frames, publication passes, encapsulated CAN frames,
posted remote writes, beacons and TRDP telegrams; and the compositions that end in one (R157, R186).
-/
namespace Sys2Proof.Machine

/-! ### Bundle addresses (R164) -/

def batAt (s : State) (b : Nat) : BitVec 768 := tGet s tBat b
def baValid (e : BitVec 768) : Bool := eFld e 0 0 0 == 1
def baTagged (e : BitVec 768) : Bool := eFld e 0 1 1 == 1
def baPcp (e : BitVec 768) : Nat := eFld e 0 4 2
def baJoin (e : BitVec 768) : Bool := eFld e 0 5 5 == 1
def baVid (e : BitVec 768) : Nat := eFld e 0 17 6
def baComp (e : BitVec 768) : Nat := eFld e 0 31 28
/-- The MAC bytes, byte 0 first. -/
def baMac (e : BitVec 768) : List Byte := leBytes 6 (nbits e.toNat 79 32)

/-- The device's bundle address is valid. -/
def ownBat (s : State) : Bool := baValid (batAt s (ownVeh s))

/-- The Ethernet header of a frame that SG builds to BAT entry `b` (R165). -/
def sgHead (s : State) (b etype : Nat) : List Byte :=
  let e := batAt s b
  baMac e ++ baMac (batAt s (ownVeh s))
    ++ (if baTagged e then beBytes 2 0x8100 ++ beBytes 2 (baPcp e * 8192 + baVid e) else []) ++ beBytes 2 etype

/-- R192, R462: a frame leaves SG and counts. -/
def sgOut (s : State) (comp cls : Nat) (data : List Byte) (csum : Bool) : State :=
  add64 (sgSend (budEvent s data) comp cls data csum) 0x1A2048 1

/-- R165, R496 row 10: what is sent to BAT entry `b` leaves: both addresses are valid, and the unit is not WITHDRAWN, where SG sends nothing. -/
def sgLeaves (s : State) (b : Nat) : Bool := ownBat s && baValid (batAt s b) && budMode s != 3

def noRoute (s : State) : State := incC s 0x1A207C

/-! ### Bundle frames (R165 to R168) -/

/-- The 16-byte bundle header. -/
def bundleHead (s : State) (kind flags stream seq count len : Nat) : List Byte :=
  [BitVec.ofNat 8 (16 + kind), BitVec.ofNat 8 flags, BitVec.ofNat 8 (ownVeh s), 0] ++ beBytes 2 stream ++ beBytes 2 seq
    ++ beBytes 4 (rd s 0x1A2014).toNat ++ beBytes 2 count ++ beBytes 2 len

/-- R165, R166: the frame of a bundle to BAT entry `b`. -/
def bundleFrame (s : State) (b kind flags stream seq count : Nat) (body : List Byte) : List Byte :=
  sgHead s b 0x88B5 ++ bundleHead s kind flags stream seq count body.length ++ body

/-- A bundle built and sent to a valid BAT entry while the own entry is valid; otherwise counted. Whether it left comes with the state. -/
def bundleSend (s : State) (comp cls b kind flags stream seq count : Nat) (body : List Byte) : State × Bool :=
  if !ownBat s || !baValid (batAt s b) then (noRoute s, false)
  else if budMode s = 3 then (s, false)
  else (sgOut s comp cls (bundleFrame s b kind flags stream seq count body) false, true)

/-- R166: RSTAT and the record of a slot. -/
def signalRecord (g : Nat) (x : Slot) : List Byte :=
  beBytes 4 g ++ [BitVec.ofNat 8 (1 + 2 * bnat x.stale + 4 * bnat x.subst + 8 * bnat x.auth), 0, 0, 0] ++ beBytes 8 x.value.toNat

/-! ### Publication (R171 to R173) -/

/-- Bundles of a pass: at most 92 records each. -/
def chunks (n : Nat) : Nat → List (List Byte) → List (List (List Byte))
  | 0, _ => []
  | k + 1, l => if l.length ≤ n then [l] else l.take n :: chunks n k (l.drop n)

/-- One bundle of a pass, with the sequence counter of the entry. -/
def pubBundle (s : State) (i : Nat) (flags : Nat) (recs : List (List Byte)) : State :=
  let e := tGet s tPub i
  let x := pubRt s i
  let r := bundleSend s (puComp e) (puClass e) (puBat e) 0 flags (puStream e) x.seq recs.length (recs.flatMap id)
  if r.2 then setPub r.1 i { pubRt r.1 i with seq := (x.seq + 1) % 2 ^ 16, lastSend := some (ltNs s) } else r.1

/-- BEGIN on the first and END on the last bundle of a refresh cycle; neither on those of a change pass. -/
def pubBundles (s : State) (i : Nat) (refresh first : Bool) : List (List (List Byte)) → State
  | [] => s
  | [r] => pubBundle s i (if refresh then bnat first + 2 else 0) r
  | r :: rs => pubBundles (pubBundle s i (if refresh then bnat first else 0) r) i refresh false rs

/-- The slots of a pass read in order; the records of the valid ones. -/
def readSlots (s : State) (gs : List Nat) : State × List (List Byte) :=
  (gs.foldl (fun a g => touch a g false) s, (gs.filter fun g => (slotAt s g).valid).map fun g => signalRecord g (slotAt s g))

/-- R173: the bundles of a pass; one whose BAT entry is not valid sends nothing and counts once. -/
def pubPass (s : State) (i : Nat) (refresh : Bool) (l : List (List (List Byte))) : State :=
  if l.isEmpty then s
  else if !baValid (batAt s (puBat (tGet s tPub i))) then noRoute s
  else pubBundles s i refresh true l

/-- R171: a refresh cycle. -/
def pubRefresh (s : State) (i : Nat) : State :=
  let e := tGet s tPub i
  let gs := (List.range (puLast e + 1 - puFirst e)).map fun k => gsid (ownVeh s) (puSeg e) (puFirst e + k)
  let r := readSlots s gs
  let s := setPub r.1 i { pubRt r.1 i with dirty := [] }
  pubPass s i true (if r.2.isEmpty then [[]] else chunks 92 (r.2.length + 1) r.2)

/-- R172: a change pass. -/
def pubChange (s : State) (i : Nat) : State :=
  let e := tGet s tPub i
  let gs := (pubRt s i).dirty.map fun k => gsid (ownVeh s) (puSeg e) k
  let r := readSlots s gs
  let s := setPub r.1 i { pubRt r.1 i with dirty := [] }
  pubPass s i false (if r.2.isEmpty then [] else chunks 92 (r.2.length + 1) r.2)

/-- Publication runs: MIR_EN = 1 over a ready image. -/
def pubOn (s : State) (i : Nat) : Bool := getB s 0x1A2008 0 && imageReady s && puValid (tGet s tPub i)

/-- R171, R173: a firing starts a refresh cycle, or merges into the pass that is left pending. -/
def pubFire (s : State) (i : Nat) : State :=
  let x := pubRt s i
  if !pubOn s i then s
  else if x.busy.isNone then setPub s i { x with busy := some true }
  else if x.pend.isNone then setPub s i { x with pend := some true }
  else incC (setPub s i { x with pend := some true }) 0x1A2080

/-- The refresh cycle in hand has ended: a pending one takes its place; a pending change pass starts when it is due (R172). -/
def pubNext (s : State) (i : Nat) : State :=
  setPub s i { pubRt s i with busy := if (pubRt s i).pend = some true then some true else none, pend := none }

/-- The refresh cycle in hand. -/
def pubRefreshRun (s : State) (i : Nat) : State :=
  if (pubRt s i).busy = some true ∧ pubOn s i then pubNext (pubRefresh s i) i else s

def execPubRefreshCycle (i : Fin 1024) (s : State) : Host.Outcome State Fault Refusal := done (pubRefreshRun s i.val)

def pubPeriodic (s : State) (i : Nat) : State :=
  let e := tGet s tPub i
  if puTrig e = 1 ∧ periodic s (puPeriod e) (puOffset e) then pairedFire s 2 i fun a => pubFire a i else s

def execPubFirePeriodic (i : Fin 1024) (s : State) : Host.Outcome State Fault Refusal := done (pubPeriodic s i.val)

/-- R172: MIN_GAP has passed since the last send. -/
def pubGapOver (s : State) (i : Nat) : Bool :=
  match (pubRt s i).lastSend with
  | some t => decide (t + puGap (tGet s tPub i) * 1000 ≤ ltNs s)
  | none => true

/-- R172, R173: a change pass that is due; while a refresh is in hand it is left pending or merges. -/
def pubChangeRun (s : State) (i : Nat) : State :=
  let x := pubRt s i
  if x.busy = some true then
    if x.pend.isNone then setPub s i { x with pend := some false } else incC s 0x1A2080
  else pubNext (pubChange s i) i

def pubChangeDue (s : State) (i : Nat) : Bool :=
  pubOn s i && puChange (tGet s tPub i) && pubGapOver s i && !(pubRt s i).dirty.isEmpty

def execPubChangePass (i : Fin 1024) (s : State) : Host.Outcome State Fault Refusal :=
  done (if pubChangeDue s i.val then pairedFire s 6 i.val (fun a => pubChangeRun a i.val) else s)

/-! ### Encapsulated frames (R167, R178) -/

def etValid (e : BitVec 768) : Bool := eFld e 0 0 0 == 1
def etBat (e : BitVec 768) : Nat := eFld e 0 8 1
def etComp (e : BitVec 768) : Nat := eFld e 0 15 12
def etStream (e : BitVec 768) : Nat := eFld e 0 31 16

/-- R167: the body of a FRAMES bundle. -/
def framesBody (n : Nat) (f : CanFrame) : List Byte :=
  let xl := f.fmt == .xl
  let len := f.data.length
  beBytes 4 (f.ident.toNat + 2 ^ 29 * bnat f.ide + 2 ^ 30 * canFmtNo f.fmt)
    ++ [BitVec.ofNat 8 (bnat f.brs + 2 * bnat f.esi + 4 * bnat (xl && f.hdr.sec)), BitVec.ofNat 8 n] ++ beBytes 2 len
    ++ [if xl then f.hdr.sdt else 0, if xl then f.hdr.vcid else 0, 0, 0] ++ beBytes 4 (if xl then f.hdr.af.toNat else 0)
    ++ padTo (4 * ceilDiv len 4) f.data

/-- R178: a routed copy handed to target `t`: it leaves in a bundle of its own, or is dropped. -/
def encapsulate (s : State) (t n cls : Nat) (f : CanFrame) : State :=
  let e := tGet s tEtt t
  if f.data.length > 1468 || !etValid e || !baValid (batAt s (etBat e)) then incC s 0x1A2078
  else
    let seq := SMap.get (fun _ => 0) s.mir.ett t
    let r := bundleSend s (etComp e) cls (etBat e) 1 0 (etStream e) seq 1 (framesBody n f)
    if r.2 then { r.1 with mir := { r.1.mir with ett := SMap.set (fun _ => 0) r.1.mir.ett t ((seq + 1) % 2 ^ 16) } } else r.1

/-! ### Posted remote writes (R180 to R182) -/

/-- One record of a remote write. -/
structure RwRec where
  g     : Nat
  value : BitVec 64
  deriving DecidableEq, Repr

/-- R182: a failure: counted; item 0x40 to the journal of the originator with RW_FAIL_EV, unless its SIG_MIR_RWJk has EN = 0. -/
def rwFail (s : State) (w : RWrite) (cause : Nat) : State :=
  let k := 0x1A2100 + 4 * (w.orig - 0x40)
  let s := incC s 0x1A2090
  if getB s k 6 then
    itemTo (raise s 0x1A2000 3) (getF s k 5 0) 0x40 w.gsid
      (leBytes 2 w.tag ++ [BitVec.ofNat 8 w.orig, BitVec.ofNat 8 cause, BitVec.ofNat 8 w.target, 0, 0, 0] ++ leBytes 8 w.value.toNat)
  else s

def rwOf (s : State) (orig tag : Nat) (r : RwRec) : RWrite :=
  { target := gVeh r.g, gsid := r.g, tag := tag, orig := orig, value := r.value, sent := ltNs s }

/-- R180: the body of an RWRITE record. -/
def rwBytes (w : RWrite) : List Byte := beBytes 4 w.gsid ++ beBytes 2 w.tag ++ [BitVec.ofNat 8 w.orig, 0] ++ beBytes 8 w.value.toNat

/-- R180: the records for one vehicle: those that find no room fail at once with cause 6; the others go in one bundle. How many were sent
comes with the state. -/
def rwSendTo (s : State) (v orig tag : Nat) (rs : List RwRec) : State × Nat :=
  let ws := rs.map (rwOf s orig tag)
  if !baValid (batAt s v) || !ownBat s then
    (ws.foldl (fun a w => rwFail a w 7) (if baValid (batAt s v) then noRoute s else s), 0)
  else
    let fit := ws.take (1024 - s.mir.rw.length)
    let s := (ws.drop (1024 - s.mir.rw.length)).foldl (fun a w => rwFail a w 6) s
    if fit.isEmpty then (s, 0)
    else
      let seq := SMap.get (fun _ => 0) s.mir.seqRw v
      let r := bundleSend s 0 (frcF s 0x1A200C 17 16) v 2 0 0xFFF0 seq fit.length (fit.flatMap rwBytes)
      let s := { r.1 with mir := { r.1.mir with rw := r.1.mir.rw ++ fit } }
      (if r.2 then addC { s with mir := { s.mir with seqRw := SMap.set (fun _ => 0) s.mir.seqRw v ((seq + 1) % 2 ^ 16) } } 0x1A2088 fit.length
       else s, fit.length)

/-- R182: the window of the oldest pending entries: those whose window has ended fail with cause 5. -/
def rwTimeoutOp (s : State) : State :=
  let out := s.mir.rw.filter fun w => decide (w.sent + frcF s 0x1A2008 31 16 * 1000000 ≤ ltNs s)
  let s := { s with mir := { s.mir with rw := s.mir.rw.filter fun w => !out.contains w } }
  out.foldl (fun a w => rwFail a w 5) s

def execRwriteTimeout (s : State) : Host.Outcome State Fault Refusal := done (rwTimeoutOp s)

/-- R162, R180: a host signal write: local as an update, else a posted remote write; the results come with the state. -/
def hostWriteLocal (s : State) (r : RwRec) : State × Bool := updateSlot s r.g r.value false false true false

/-- R149 to R151: a local host write holds one entry of pool `p` until it is applied; without room it is refused whole. -/
def hostWritePooled (s : State) (p : Nat) (r : RwRec) : State × Option Bool :=
  if poolFits s p 8 then
    let u := hostWriteLocal (poolTake s p 8 3 0xFFFFFFFF) r
    (copyDone u.1 s.copyNext, some u.2)
  else (poolRefuse s p 3 0xFFFFFFFF, none)

/-! ### Beacons (R189) -/

def beaconMs (s : State) : Nat := frcF s 0x1A200C 15 0

/-- UNIT_ID. -/
def unitId (s : State) : Nat := (rd s 0x1A2020).toNat + 2 ^ 32 * (rd s 0x1A2024).toNat

def beaconDue (s : State) : Bool :=
  beaconMs s != 0 && getB s 0x1A2008 0 && imageReady s
    && (s.mir.lastBcn == 0 || decide (s.mir.lastBcn + beaconMs s * 1000000 ≤ ltNs s))

def beaconOp (s : State) : State :=
  let body := beBytes 8 (unitId s) ++ beBytes 4 (rd s 0x1A2018).toNat ++ [0, 0, 0, 0]
  let r := bundleSend s 0 0 64 4 0 0xFFF2 s.mir.seqBcn 0 body
  { r.1 with mir := { r.1.mir with lastBcn := ltNs s, seqBcn := if r.2 then (s.mir.seqBcn + 1) % 2 ^ 16 else s.mir.seqBcn } }

def execBeaconSend (s : State) : Host.Outcome State Fault Refusal := done (if beaconDue s then beaconOp s else s)

/-! ### TRDP telegrams (R183 to R186) -/

def ttValid (e : BitVec 768) : Bool := eFld e 0 0 0 == 1
def ttSends (e : BitVec 768) : Bool := eFld e 0 1 1 == 1
def ttSeg (e : BitVec 768) : Nat := 48 + eFld e 0 4 2
def ttClass (e : BitVec 768) : Nat := eFld e 0 6 5
def ttTrig (e : BitVec 768) : Nat := eFld e 0 8 7
def ttTe (e : BitVec 768) : Nat := eFld e 0 12 9
def ttMacsec (e : BitVec 768) : Bool := eFld e 0 13 13 == 1
def ttComp (e : BitVec 768) : Nat := eFld e 0 31 28
def ttComid (e : BitVec 768) : Nat := eFld e 1 31 0
def ttIpA (e : BitVec 768) : Nat := eFld e 2 31 0
def ttIpB (e : BitVec 768) : Nat := eFld e 3 31 0
def ttPeriod (e : BitVec 768) : Nat := eFld e 3 23 0
def ttSdp (e : BitVec 768) : Nat := eFld e 4 17 0
def ttSdpN (e : BitVec 768) : Nat := eFld e 4 25 18
def ttBase (e : BitVec 768) : Nat := eFld e 5 18 0
def ttLen (e : BitVec 768) : Nat := eFld e 5 25 19
def ttOffset (e : BitVec 768) : Nat := eFld e 6 23 0
def ttTtl (e : BitVec 768) : Nat := eFld e 6 31 24
def ttBat (e : BitVec 768) : Nat := eFld e 7 7 0
def ttDscp (e : BitVec 768) : Nat := eFld e 7 13 8

def ttDescs (e : BitVec 768) : List Nat := (List.range (ttSdpN e)).map fun k => ttSdp e + k

def tttRt (s : State) (i : Nat) : TttRt := SMap.get (fun _ => TttRt.init) s.mir.ttt i
def setTtt (s : State) (i : Nat) (x : TttRt) : State :=
  { s with mir := { s.mir with ttt := SMap.set (fun _ => TttRt.init) s.mir.ttt i x } }

/-- The header FCS of a telegram: the standard's own function of the header before it, sent least significant byte first (PRESUMED,
log 8): the CRC-32 of IEEE 802.3. -/
def crc32Step (c : Nat) : Nat := if c % 2 = 1 then (c / 2) ^^^ 0xEDB88320 else c / 2
def crc32Byte (c : Nat) (b : Byte) : Nat :=
  crc32Step (crc32Step (crc32Step (crc32Step (crc32Step (crc32Step (crc32Step (crc32Step (c ^^^ b.toNat))))))))
def crc32 (bs : List Byte) : Nat := (bs.foldl crc32Byte 0xFFFFFFFF) ^^^ 0xFFFFFFFF

/-- The 40-byte header of process data; the places of its fields are those of IEC 61375-2-3 (PRESUMED, log 8). -/
def trdpHead (s : State) (seq msg comId len replyComId replyIp : Nat) : List Byte :=
  let h := beBytes 4 seq ++ beBytes 2 0x0100 ++ beBytes 2 msg ++ beBytes 4 comId ++ beBytes 4 (rd s 0x1A2014).toNat
    ++ beBytes 4 (rd s 0x1A2018).toNat ++ beBytes 4 len ++ [0, 0, 0, 0] ++ beBytes 4 replyComId ++ beBytes 4 replyIp
  h ++ leBytes 4 (crc32 h)

/-- An IPv4 UDP datagram; the checksums are inserted on egress (R205). -/
def udpV4 (srcIp dstIp ttl dscp sport dport : Nat) (body : List Byte) : List Byte :=
  [0x45, BitVec.ofNat 8 (4 * dscp)] ++ beBytes 2 (28 + body.length) ++ [0, 0, 0, 0, BitVec.ofNat 8 ttl, 17, 0, 0] ++ beBytes 4 srcIp
    ++ beBytes 4 dstIp ++ beBytes 2 sport ++ beBytes 2 dport ++ beBytes 2 (8 + body.length) ++ [0, 0] ++ body

/-- R183, R186: the frame of a telegram of send entry `i` to an address, with its dataset padded to whole words. -/
def telegramFrame (s : State) (i msg comId dstIp : Nat) : List Byte :=
  let e := tGet s tTtt i
  let body := trdpHead s (tttRt s i).seq msg comId (ttLen e) 0 0 ++ padTo (4 * ceilDiv (ttLen e) 4) (payRead s (8 * ttBase e) (ttLen e))
  sgHead s (ttBat e) 0x0800 ++ udpV4 (frc s 0x1A201C).toNat dstIp (ttTtl e) (ttDscp e) 17224 17224 body

/-- R183, R186: it is sent, with the entry's sequence counter; one that has no route is counted. -/
def telegram (s : State) (i msg comId dstIp : Nat) : State :=
  let e := tGet s tTtt i
  if !ownBat s || !baValid (batAt s (ttBat e)) then noRoute s
  else if budMode s = 3 then s
  else
    let x := tttRt s i
    setTtt (sgOut s (ttComp e) (ttClass e) (telegramFrame s i msg comId dstIp) true) i { x with seq := (x.seq + 1) % 2 ^ 32 }

/-- R186: the send entry's payload is composed: written, and its telegram sent. -/
def telegramComposed (s : State) (i : Nat) (c : Comp) : State :=
  let e := tGet s tTtt i
  if !(ttValid e && ttSends e) then s
  else telegram (payWrite s (8 * ttBase e) (c.buf.take (ttLen e))) i 0x5064 (ttComid e) (ttIpA e)

/-- TRDP is on: TRDP_EN, a ready image, and routing enabled for its compositions (R159). -/
def trdpOn (s : State) : Bool := frcB s 0x1A2008 2 && imageReady s && getB s 0x1A1008 0

/-- R186, R173: send entry `i` fires; a firing during composition merges. -/
def tttFire (s : State) (i : Nat) : State :=
  let e := tGet s tTtt i
  let t : CompTarget := .telegram i
  if !(ttValid e && ttSends e && trdpOn s) then s
  else compFire s t 0x1A2080

def tttPeriodic (s : State) (i : Nat) : State :=
  let e := tGet s tTtt i
  if ttTrig e = 1 ∧ periodic s (ttPeriod e) (ttOffset e) then pairedFire s 3 i fun a => tttFire a i else s

def execTttFirePeriodic (i : Fin 2048) (s : State) : Host.Outcome State Fault Refusal := done (tttPeriodic s i.val)

/-! ### Compositions (R157) -/

/-- The payload bytes that a target composes into. -/
def compRoom (s : State) : CompTarget → Nat
  | .object o => dataRoom (motAt s o)
  | .telegram i => ttLen (tGet s tTtt i)

/-- Step 1 of R157: the present payload and the descriptors. -/
def compStart (s : State) (c : Comp) : Comp :=
  match c.target with
  | .object o => { c with buf := payRead s (dataAt (motAt s o)) (dataRoom (motAt s o)), descs := moDescs (motAt s o) }
  | .telegram i => { c with buf := payRead s (8 * ttBase (tGet s tTtt i)) (ttLen (tGet s tTtt i)), descs := ttDescs (tGet s tTtt i) }

def composed (s : State) (c : Comp) : State :=
  match c.target with
  | .object o => objComposed s o c
  | .telegram i => telegramComposed s i c

/-- R31: the compartment of a target. -/
def compOwner (s : State) : CompTarget → Nat
  | .object o => owned s (moComp (motAt s o))
  | .telegram i => owned s (ttComp (tGet s tTtt i))

/-- A composition that has gone as far as it can. -/
def compEnd (t : CompTarget) : State × CompEnd → State
  | (s, .full c) => endComp (composed s c) t
  | (s, .miss c g) => { s with parked := s.parked ++ [.comp c g] }

/-- R147: the oldest composition of queue 3 that waits, if it is of this kind and no carrier waits. One whose target is still in composition
holds its place until that has ended (log 42). -/
def compNext (s : State) (objects : Bool) : State :=
  if !queueUp s 3 then s
  else
    match s.comps.find? (fun c => !c.started) with
    | some c =>
      if isObjComp c != objects || s.comps.any (fun x => x.target == c.target && x.started) then s
      else
        let s := markComp s c.target
        let c := compStart s { c with started := true }
        compEnd c.target (compSteps s c (compRoom s c.target) (compOwner s c.target) none c.descs)
    | none => s

def execCompositionRun (s : State) : Host.Outcome State Fault Refusal := done (scanWaiting (compNext s true))

def execTttComposeSend (s : State) : Host.Outcome State Fault Refusal := done (scanWaiting (compNext s false))

/-- R146: the cache line of an execution that waited has been filled: it goes on, and its work after it. -/
def resumeOne (s : State) (p : Parked) : State :=
  match p with
  | .comp c g => compEnd c.target (compSteps (touch s g false) c (compRoom s c.target) (compOwner s c.target) (some g) c.descs)
  | .run r g => runEnd r.dst (runSteps (touch s g false) r r.descs)

def engineResumeOp (s : State) : State :=
  match s.parked with
  | [] => s
  | p :: rest => resumeOne { s with parked := rest } p

/-- The descriptors of a parked execution and of the work after it: the first is the one in execution. -/
def Parked.descs : Parked → List Nat
  | .comp c _ => c.descs
  | .run r _ => r.descs

/-- R158: a WRITE or CLEAR completes after the executions that began with the old contents: each that waits is filled and goes on. -/
def parkedEnd (p : State → Nat → Bool) : Nat → State → State
  | 0, s => s
  | n + 1, s =>
    match s.parked.find? fun x => x.descs.head?.any (p s) with
    | none => s
    | some x => parkedEnd p n (resumeOne { s with parked := s.parked.erase x } x)

/-- R158: before a change of SDP descriptor `j`. -/
def sdpSettle (s : State) (j : Nat) : State :=
  parkedEnd (fun _ k => k == j) ((s.parked.map fun x => 4 * (x.descs.length + 1)).foldl (· + ·) 0) s

/-- R158: before a change of TPT entry `i`. -/
def tptSettle (s : State) (i : Nat) : State :=
  parkedEnd (fun a k => sdXform (sdpAt a k) == i && sdOp (sdpAt a k) == 2)
    ((s.parked.map fun x => 4 * (x.descs.length + 1)).foldl (· + ·) 0) s

def execEngineResume (s : State) : Host.Outcome State Fault Refusal := done (engineResumeOp s)

/-! ### RT_EN (R150, R159) and counters (R161) -/

def poolSum (s : State) : Nat := ((List.range 16).map fun p => poolSize s p).foldl (· + ·) 0

/-- R142: RT_EN has gone to 1. -/
def rtStart (s : State) : State := openWindows s

/-- A carrier discarded as RT_EN is cleared: every DECODE descriptor that it names is marked. -/
def carrierDrop (s : State) (c : Carrier) : State := setMissed (carrierEnd s c) c.named

/-- R159: an execution in progress that waits for its line ends; its composition or run goes no further. -/
def parkedFinish (s : State) (p : Parked) : State :=
  match p with
  | .comp c g =>
    match c.descs with
    | j :: _ => (encodeOne (touch s g false) c (compRoom s c.target) (compOwner s c.target) true j).1
    | [] => s
  | .run r g =>
    match r.descs with
    | j :: _ => deriveOne ((r.reads.getD []).foldl (fun a h => touch a h false) (touch s g false)) r.dst j
    | [] => s

def work2Dataset : Work2 → Option Carrier
  | .dataset c => some c
  | .bundle _ => none

/-- R159: the executions in progress end; routed copies, carriers, compositions and runs are discarded. -/
def rtStop (s : State) : State :=
  let s := s.parked.foldl parkedFinish { s with parked := [], scanHeld := false }
  let s := (List.range 48).foldl (fun a n => dropCopies a n 2 true) s
  let cs := s.carriers ++ s.work2.filterMap work2Dataset
  let s := { s with carriers := [], work2 := s.work2.filter fun w => (work2Dataset w).isNone, comps := [], runs := [] }
  cs.foldl carrierDrop s

/-- A write of SE_CTRL without CNT_CLR. -/
def seCtrlWrite (s : State) (q : Requester) (data : Word) : State :=
  let was := getB s 0x1A1008 0
  let s := writeMasked s q 0x1A1008 data { rw := 0xFE, rwd := 0, rwk := 1, w1c := 0, kwo := 0 } false none 0
  let now := getB s 0x1A1008 0
  if !was && now then
    if poolSum s > 16384 then raise (setB s 0x1A1008 0 false) 0x1A1000 4 else rtStart s
  else if was && !now then rtStop s
  else s

def execRtEnSet (q : Requester) (data : Word) (s : State) : Host.Outcome State Fault Refusal :=
  done (disarm (pairedWrite s q 0x1A1008 (putFld data 0 0 1) fun a => seCtrlWrite a q (putFld data 0 0 1)) q)

def execRtEnClear (q : Requester) (data : Word) (s : State) : Host.Outcome State Fault Refusal :=
  done (disarm (pairedWrite s q 0x1A1008 (putFld data 0 0 0) fun a => seCtrlWrite a q (putFld data 0 0 0)) q)

/-- R161: the counters, and PEAK, which restarts from the present use. -/
def seCounters : List Nat := wordsFrom 0x1A10C0 16 ++ wordsFrom 0x1A1100 11

def seClear (s : State) : State :=
  (List.range 16).foldl (fun a p => setF a (poolUseR p) 30 16 (poolUse a p)) (zeroAll s seCounters)

def execSeCntClr (q : Requester) (s : State) : Host.Outcome State Fault Refusal :=
  done (disarm (pairedWrite s q 0x1A1008 (strobe s 0x1A1008 0x100) seClear) q)

/-! ### MIR_EN (R173, R192) -/

/-- MIR_EN went to 0: every pass is dropped. -/
def mirStop (s : State) : State :=
  (s.mir.pub.map fun e => e.1).foldl (fun a i => setPub a i { pubRt a i with busy := none, pend := none }) s

/-- MIR_EN went to 1: subscription windows start (R177). -/
def mirStart (s : State) : State :=
  let t := ltNs s
  let f (m : SMap SubRt) (i : Nat) : SMap SubRt :=
    SMap.set (fun _ => SubRt.init) m i { SMap.get (fun _ => SubRt.init) m i with last := t, acted := false }
  { s with mir := { s.mir with sub := ((tList s tSub).map fun e => e.1).foldl f s.mir.sub } }

/-- A write of SIG_MIR_CTRL without CNT_CLR; RW_TIMEOUT = 0 is refused. -/
def mirCtrlWrite (s : State) (q : Requester) (data : Word) : State :=
  let was := getB s 0x1A2008 0
  let bad := if fld data 31 16 = 0 ∧ getF s 0x1A2008 31 16 ≠ 0 then 0xFFFF0000 else 0
  let s := if was || q == .loader then s else holdForce s 0x1A2008
  let s := writeMasked s q 0x1A2008 data { rw := 0x3F8, rwd := 0xFFFF0006, rwk := 1, w1c := 0, kwo := 0 } (!was) (some (0x1A2000, 6)) bad
  let now := getB s 0x1A2008 0
  if was && !now then mirStop s else if !was && now then mirStart (bite s [0x1A2008, 0x1A200C, 0x1A201C]) else s

def execMirEnSet (q : Requester) (data : Word) (s : State) : Host.Outcome State Fault Refusal :=
  done (disarm (pairedWrite s q 0x1A2008 (putFld data 0 0 1) fun a => mirCtrlWrite a q (putFld data 0 0 1)) q)

def execMirEnClear (q : Requester) (data : Word) (s : State) : Host.Outcome State Fault Refusal :=
  done (disarm (pairedWrite s q 0x1A2008 (putFld data 0 0 0) fun a => mirCtrlWrite a q (putFld data 0 0 0)) q)

def mirCounters : List Nat := wordsFrom 0x1A2040 24

def execSigMirCntClr (q : Requester) (s : State) : Host.Outcome State Fault Refusal :=
  done (disarm (pairedWrite s q 0x1A2008 (strobe s 0x1A2008 0x400) fun a => zeroAll a mirCounters) q)

end Sys2Proof.Machine
end

