-- ==== Sys2Proof/Machine/CanMode.lean ====
section
/-!
DEFINITION. Sys2Proof/Machine/CanMode.lean: the states of a CAN channel (R40 to R61): timing validity, modes, error confinement, bus-off and
recovery, standby of the transceiver.
-/
namespace Sys2Proof.Machine

/-! ### Timing validity (R37, R40, R45, R46) -/

/-- The six configuration words of a channel in the order of R62. -/
structure CanCfg where
  proto : Word
  nbt : Word
  dbt : Word
  xbt : Word
  tdc : Word
  pwm : Word
  deriving DecidableEq, Repr

/-- R40, first column: 10 kbit/s to 1 Mbit/s are 8,000 to 80 cycles. -/
def nomOk (b : BitTime) : Bool := b.t1 ≥ 2 && b.t2 ≥ 2 && b.sjwOk && b.quanta ≥ 8 && 80 ≤ b.cycles && b.cycles ≤ 8000

/-- R40, the data columns: at least `min` cycles, and not slower than the nominal bit; with TDC the prescaler is 1 or 2. -/
def dataOk (b nom : BitTime) (min : Nat) (tdc : Bool) : Bool :=
  b.sjwOk && b.quanta ≥ 4 && min ≤ b.cycles && b.cycles ≤ nom.cycles && (!tdc || b.brp ≤ 2)

/-- R45, R46: transceiver mode switching. -/
def pwmOk (c : CanCfg) : Bool :=
  let s := fld c.pwm 5 0
  let l := fld c.pwm 13 8
  c.proto.getLsbD 1 && c.proto.getLsbD 3 && s ≥ 1 && s < l && s + l == (dataTime c.xbt).cycles && (dataTime c.xbt).brp == 1

/-- R40, R41, R46: the configuration is one that a channel may be enabled with. -/
def timingOk (c : CanCfg) : Bool :=
  let tdc := c.tdc.getLsbD 0
  nomOk (nomTime c.nbt)
    && (!c.proto.getLsbD 0 || dataOk (dataTime c.dbt) (nomTime c.nbt) 10 tdc)
    && (!c.proto.getLsbD 1 || dataOk (dataTime c.xbt) (nomTime c.nbt) 4 tdc)
    && (!tdc || fld c.tdc 14 8 != 0)
    && (!c.proto.getLsbD 4 || pwmOk c)

/-- The configuration that channel `n` holds; CC16 to CC47 read the XL fields as zero (R37). -/
def canCfg (s : State) (n : Nat) : CanCfg :=
  { proto := rd s (canR n 0xC) &&& (if n < 16 then 0xFFFFFFFF else ~~~ 0x1A#32), nbt := rd s (canR n 0x10), dbt := rd s (canR n 0x14)
    xbt := rd s (canR n 0x18), tdc := rd s (canR n 0x1C), pwm := rd s (canR n 0x24) }

/-- R59: the source of the CAN quantum clock (2 crystal, 1 internal oscillator) lets channel `n` leave DISABLED. 125 kbit/s is 640
cycles. -/
def clockLets (s : State) (n : Nat) : Bool :=
  let src := getF s 0x1000C 5 4
  src == 2 || (src == 1 && decide (640 ≤ (nomTime (canCfg s n).nbt).cycles) && !fmtOn s n 1 && !fmtOn s n 2)

/-! ### Standby (R60) -/

/-- STB_STATE: the lantern asserts standby while it drives STB; else STB_MODE decides. -/
def stbAsserted (s : State) (n : Nat) : Bool :=
  if getB s (canR n 0x30) 17 then true
  else
    match getF s (canR n 0x30) 1 0 with
    | 0 => modeCur s n == 0
    | 1 => false
    | _ => true

/-! ### Error counters (R48, R49) -/

/-- R48: ECS from the two counters. -/
def ecsOf (tec rec : Nat) : Nat := if tec > 255 then 2 else if tec > 127 || rec > 127 then 1 else 0

/-- The counters and what follows from them; WARN_EV and PASSIVE_EV rise with them. -/
def setErr (s : State) (n tec rec : Nat) : State :=
  let o := canR n 0x28
  let warn := decide (tec ≥ 96 ∨ rec ≥ 96)
  let ecs := ecsOf tec rec
  let s := if warn && !getB s o 19 then raise s (canR n 4) 4 else s
  let s := if ecs = 1 ∧ getF s o 18 17 = 0 then raise s (canR n 4) 3 else s
  wr s o (BitVec.ofNat 32 (rec % 256 + 256 * (tec % 512) + 2 ^ 17 * ecs + 2 ^ 19 * bnat warn))

/-- R49: the modes whose counters change. With its gate closed a channel acts as in MONITOR (R496, row 4). -/
def countsErrors (s : State) (n : Nat) : Bool := (modeCur s n == 1 || modeCur s n == 5) && (decide (budMode s < 2) || s.bud.executing.isSome)

def tecOf (s : State) (n : Nat) : Nat := getF s (canR n 0x28) 16 8
def recOf (s : State) (n : Nat) : Nat := getF s (canR n 0x28) 7 0

/-- R48, ISO 11898-1 (PRESUMED, log 8): a frame sent takes one from TEC. -/
def errSent (s : State) (n : Nat) : State := if countsErrors s n then setErr s n (tecOf s n - 1) (recOf s n) else s

/-- R48, ISO 11898-1 (PRESUMED, log 8): a frame received takes one from REC; above 127 REC goes to a value from 119 to 127, the event's. -/
def recReceived (r asked : Nat) : Nat := if r ≤ 127 then r - 1 else max 119 (min 127 asked)

def errReceived (s : State) (n : Nat) (c : ErrCnt) : State :=
  if countsErrors s n then setErr s n (tecOf s n) (recReceived (recOf s n) c.rec'.toNat) else s

/-- R48, ISO 11898-1 (PRESUMED, log 8): an error of the transmitter adds 8 to TEC, and 8 more for each further run of dominant bits after its error
flag; nothing in the standard's exceptions. The event's value decides where it is one of these. -/
def tecError (t asked : Nat) : Nat := if t ≤ asked ∧ (asked - t) % 8 = 0 then asked else min 511 (t + 8)

/-- R48, ISO 11898-1 (PRESUMED, log 8): an error of a receiver adds 1 to REC, or 8 where its error flag meets dominant bits, and 8 more for each further run of
them. -/
def recError (r asked : Nat) : Nat := if r < asked ∧ (asked - r) % 8 ≤ 1 then asked else min 255 (r + 1)

/-- R48: the counters after an error. -/
def errCounted (s : State) (n : Nat) (tx : Bool) (c : ErrCnt) : State :=
  if !countsErrors s n then s
  else if tx then setErr s n (tecError (tecOf s n) c.tec.toNat) (recOf s n)
  else setErr s n (tecOf s n) (recError (recOf s n) c.rec'.toNat)

/-! ### Changes of MODE_CUR (R54 to R57, R87) -/

def setCur (s : State) (n m : Nat) : State :=
  if modeCur s n = m then s else raise (setF s (canR n 0) 10 8 m) (canR n 4) 9

def setInteg (s : State) (n : Nat) (b : Bool) : State := setB s (canR n 0) 12 b

/-- R38: the channel integrates. -/
def integrate (s : State) (n : Nat) : State :=
  if modeCur s n = 4 then s else setInteg s n true

/-- The objects of channel `n` with a request or a frame. -/
def busyObjs (s : State) (n : Nat) : List Nat :=
  (s.obj.filter fun x => (x.2.st.getLsbD 18 || x.2.st.getLsbD 19)
    && (match objIdent s x.1 with | some y => y.1 == n | none => false)).map fun x => x.1

/-- R87: PEND and BUSY cleared, FAIL unchanged. -/
def clearReq (s : State) (o : Nat) : State := setObj (obPut s o 19 18 0) o { objAt (obPut s o 19 18 0) o with kept := false }

/-- R56, R87: DISABLED is entered. -/
def enterDisabled (s : State) (n : Nat) : State :=
  let s := tdcCut s n
  let s := setChan s n { chan s n with bus := none, pendSince := none, stbUntil := none, holdBusOff := false, rollCall := none, rollAtt := 0 }
  let s := (busyObjs s n).foldl clearReq s
  let s := lockDrop (dropCopies s n 2 false) n
  setB (setInteg (wr (setCur s n 0) (canR n 0x28) 0) n false) (canR n 0) 13 false

/-- R54, R55, R61: DISABLED is left for MODE_REQ: the channel integrates, after STB_WAKE where standby was asserted. -/
def leaveDisabled (s : State) (n : Nat) : State :=
  let m := modeReq s n
  let s := bite s (canR n 0x30 :: wordsFrom (segR n 0) 4)
  let was := stbAsserted s n
  let s := setInteg (setCur s n m) n (m != 4)
  let wake := getF s (canR n 0x30) 15 8
  let wait := if was && !stbAsserted s n && m != 4 && wake != 0 then some (ltNs s + wake * 1000) else none
  setChan (wr s (canR n 0x28) 0) n { chan s n with stbUntil := wait, pendSince := none }

/-- R56, R59, R414, R423: a channel that waits to leave DISABLED does so once CAN_EARLY or CAN is set, its clock lets it and its segment is
not ASLEEP; in STANDBY and SLEEP every channel is held (R496, row 3). -/
def tryLeave (s : State) (n : Nat) : State :=
  if modeCur s n = 0 ∧ modeReq s n ≠ 0 ∧ (segAt s n).st ≠ 2 ∧ (ready s 4 || (ready s 2 && nbit s.boot.early n)) = true ∧ getF s 0x7000C 1 0 < 2 ∧ clockLets s n = true then leaveDisabled s n else s

/-- R54: a change takes effect. -/
def enterMode (s : State) (n : Nat) : State :=
  let m := modeReq s n
  if m = 0 then enterDisabled s n
  else
    let s := setChan (setCur s n m) n { chan s n with pendSince := none }
    if m = 4 then setInteg s n false else s

/-- R54, R41: a write of MODE_REQ. A refused enable leaves MODE_REQ at DISABLED, also where an earlier enable still waits (DESIGN CHOICE, log 42). -/
def modeReqSet (s : State) (n m : Nat) : State :=
  let cur := modeCur s n
  if m ≥ 6 then s
  else if cur = 0 ∧ m ≠ 0 then
    if timingOk (canCfg s n) then tryLeave (setF s (canR n 0) 2 0 m) n
    else raise (setF s (canR n 0) 2 0 0) (canR n 4) 1
  else
    let s := setF s (canR n 0) 2 0 m
    if cur = 0 then s
    else if cur ≥ 6 then (if m = 0 then enterDisabled s n else s)
    else if m = cur then setChan s n { chan s n with pendSince := none }
    else if (chan s n).pendSince.isNone then setChan s n { chan s n with pendSince := some (ltNs s) }
    else s

/-- R54: a change is pending at an idle point. -/
def effectDue (s : State) (n : Nat) : Bool := (chan s n).pendSince.isSome && (chan s n).bus.isNone

/-- R54: the pending change is 2,048 nominal bit times old; a cycle of the quantum clock is 12.5 ns, and LT measures them (log 24). -/
def forcedDue (s : State) (n : Nat) : Bool :=
  match (chan s n).pendSince with
  | some t => decide (t + 25600 * (nomTime (canCfg s n).nbt).cycles ≤ ltNs s)
  | none => false

/-- R54, R87: a pending change that is forced: a frame in progress is cut off. -/
def modeForced (s : State) (n : Nat) : State := enterMode (attemptFailed s n .forced) n

/-- R55. -/
def integrated (s : State) (n : Nat) : State :=
  if integrating s n && (chan s n).stbUntil.isNone then setInteg s n false else s

/-- R61: the wait is over, as LT has it. -/
def stbWakeDue (s : State) (n : Nat) : Bool :=
  match (chan s n).stbUntil with
  | some t => decide (t ≤ ltNs s)
  | none => false

/-- R61. -/
def stbWakeEnd (s : State) (n : Nat) : State := setChan s n { chan s n with stbUntil := none }

/-- R51, R56, R87: BUS_OFF is entered. -/
def enterBusOff (s : State) (n : Nat) : State :=
  let s := attemptFailed (setChan s n { chan s n with rollCall := none, pendSince := none }) n .busOff
  let s := dropCopies s n 3 false
  houseAdd (setB (raise (incC (setCur s n 6) (canR n 0x6C)) (canR n 4) 2) (canR n 0) 13 false) 35 1

/-- R52, R53. -/
def startRecovery (s : State) (n : Nat) : State := if modeCur s n = 6 then setB s (canR n 0) 13 true else s

/-- R52: recovery completes in the mode that MODE_REQ then holds, DISABLED among them (a change that was pending at the entry to BUS_OFF). -/
def recovered (s : State) (n : Nat) : State :=
  if modeCur s n = 6 ∧ getB s (canR n 0) 13 = true then
    let s := raise (wr s (canR n 0x28) 0) (canR n 4) 5
    if modeReq s n = 0 then enterDisabled s n
    else setInteg (setB (setCur s n (modeReq s n)) (canR n 0) 13 false) n false
  else s

/-- R57: the CAN quantum clock coasts. A STB_WAKE wait runs on, since STB stays negated (DESIGN CHOICE, log 42). -/
def clockHold (s : State) (n : Nat) : State :=
  if modeCur s n = 0 ∨ modeCur s n = 7 then s
  else
    let off := modeCur s n == 6
    let s := attemptFailed s n .clockHold
    let s := setChan s n { chan s n with holdBusOff := off, pendSince := none }
    setInteg (raise (setCur s n 7) (canR n 4) 8) n false

/-- R56: the clock runs again. MODE_REQ is DISABLED where that change was pending when the clock coasted. -/
def clockRun (s : State) (n : Nat) : State :=
  if modeCur s n = 7 then
    if (chan s n).holdBusOff then setCur (setChan s n { chan s n with holdBusOff := false }) n 6
    else if modeReq s n = 0 then enterDisabled s n
    else integrate (setCur s n (modeReq s n)) n
  else tryLeave s n

/-! ### Errors on the bus (R38, R43, R47, R50) -/

/-- The channel takes part in the bus. -/
def onBus (s : State) (n : Nat) : Bool := 1 ≤ modeCur s n && modeCur s n ≤ 5

def lecCode : CanErr → Nat
  | .stuff => 1
  | .form => 2
  | .ack => 3
  | .bitRecessive => 4
  | .bitDominant => 5
  | .crc => 6

/-- Where an error type is counted. -/
def errOffset : CanErr → Nat
  | .stuff => 0x50
  | .form => 0x54
  | .ack => 0x58
  | .bitRecessive => 0x5C
  | .bitDominant => 0x5C
  | .crc => 0x60

def phaseCode : CanPhase → Nat
  | .nominal => 0
  | .fdData => 1
  | .xlData => 2

/-- R50: LEC, PHASE, TX and one counter. -/
def errMark (s : State) (n : Nat) (k : CanErr) (ph : CanPhase) (tx : Bool) : State :=
  incC (wr s (canR n 0x2C) (BitVec.ofNat 32 (lecCode k + 8 * phaseCode ph + 32 * bnat tx))) (canR n (errOffset k))

/-- R38, R47, R56: the errors after which the channel integrates. -/
def errIntegrates (s : State) (n : Nat) (ph : CanPhase) : Bool :=
  modeCur s n == 2 || (ph == .xlData && getB s (canR n 0xC) 3)

/-- R48, R51: an attempt ended by an error, or by the BUS_OFF it brings. -/
def errEnd (s : State) (n : Nat) (tx : Bool) : State :=
  if countsErrors s n && getF s (canR n 0x28) 16 8 > 255 then enterBusOff s n
  else if tx then attemptFailed s n .lost
  else s

/-- R43: a failed delay measurement. -/
def tdcFailed (s : State) (n : Nat) : State := raise (incC s (canR n 0x74)) (canR n 4) 7

/-- R56: the bus shows the channel this error: LOOPBACK_INT ignores RXD, and in the loopback modes a missing acknowledgement of the own frame is
none. -/
def errSeen (s : State) (n : Nat) (k : CanErr) (tx : Bool) : Bool :=
  onBus s n && !integrating s n && !(modeCur s n == 4 && !tx) && !((modeCur s n == 4 || modeCur s n == 5) && tx && k == .ack)

/-- R47, R48, R50: an error marked, counted and handled. In BUS_OFF the channel does not integrate (DESIGN CHOICE, log 42). -/
def errHandled (s : State) (n : Nat) (k : CanErr) (ph : CanPhase) (tx : Bool) (cnt : ErrCnt) : State :=
  let s := errCounted (errMark s n k ph tx) n tx cnt
  let i := errIntegrates s n ph
  let s := errEnd s n tx
  if i && modeCur s n != 6 then integrate s n else s

/-- R43: the error of a failed measurement: bit error 5 of the transmitter, in the data phase of its format. -/
def tdcError (s : State) (n : Nat) (f : CanFrame) (cnt : ErrCnt) : State :=
  errHandled (tdcFailed s n) n .bitDominant (if f.fmt == .xl then .xlData else .fdData) true cnt

/-- R42, R43: the frame on the bus with the cycle of its measured edge, where it has one. -/
def measuring (s : State) (n : Nat) (v : Option Nat) : Option (CanFrame × Nat) :=
  match (chan s n).bus, v with
  | some b, some v => some (b.frame, v)
  | _, _ => none

/-- R43: the frame whose delay was to be measured and whose edge never came: its data phase is reached without one. LOOPBACK_INT ignores RXD. -/
def unmeasured (s : State) (n : Nat) (v : Option Nat) (data : Bool) : Option CanFrame :=
  match (chan s n).bus, v with
  | some b, none => if data && tdcOf s n b.frame && modeCur s n != 4 then some b.frame else none
  | _, _ => none

/-- R42, R43, R50: an error detected; a measurement that fails is the error. -/
def canError (s : State) (n : Nat) (k : CanErr) (ph : CanPhase) (tx : Bool) (cnt : ErrCnt) (v : Option Nat) : State :=
  if !errSeen s n k tx then s
  else
    match measuring s n v, unmeasured s n v (tx && ph != .nominal) with
    | some (f, v), _ => if tdcFails s n f v then tdcError s n f cnt else errHandled (tdcMeasured s n f v) n k ph tx cnt
    | none, some f => tdcError s n f cnt
    | none, none => errHandled s n k ph tx cnt

/-- R38: the settings leave a format bit that they cannot follow. -/
def canExcept (s : State) (n : Nat) : Bool := !(fmtOn s n 1 && fmtOn s n 2)

/-- R38: a protocol exception with PEX_EN = 1. -/
def protoSkip (s : State) (n : Nat) : State := integrate (raise (incC s (canR n 0x70)) (canR n 4) 6) n

/-- R38: with PEX_EN = 0 it is a form error of the receiver under the ordinary rules. Which of the steps of ISO 11898-1 REC takes, the row does not
say: `v` decides, a free value (log 23). -/
def protoForm (s : State) (n v : Nat) : State := errHandled s n .form .nominal false { tec := 0, rec' := BitVec.ofNat _ v }

/-- R42: TDC_MEAS_CLR. -/
def tdcClear (s : State) (n : Nat) : State :=
  let o := canR n 0x20
  wr s o (BitVec.ofNat 32 (getF s o 6 0 + 2 ^ 8 * 127))

/-! ### Counters (R64, R95) -/

/-- CANnn_RX_OK to CANnn_RX_RTR. -/
def canCounters (n : Nat) : List Nat := wordsFrom (canR n 0x40) 15

/-- The object counters of a channel: ACC_OK to TX_ABANDON, and LOCK_TO. -/
def motCounters (n : Nat) : List Nat := wordsFrom (motR n 0) 6 ++ [motR n 0x1C]

def motClearOne (s : State) (n : Nat) : State := if n < 48 then zeroAll s (motCounters n) else s

/-- The counters of every channel, TBL_XIM_RELOC and TBL_XIM_FAIL. -/
def motClearAll (s : State) : State := zeroAll s ([0xA8614, 0xA8618] ++ (List.range 48).flatMap motCounters)

end Sys2Proof.Machine
end

