-- ==== Sys2Proof/Machine/Segments.lean ====
section
/-!
DEFINITION. Sys2Proof/Machine/Segments.lean: the segments of the lantern (R433 to R442): roll call, settle, sleep and wake, as the frames
and errors of their channels and the commands act on them. Device power states are in Machine/Lan.lean.
-/
namespace Sys2Proof.Machine

/-- R433: a duration in ticks of LNT. -/
def msTicks (ms : Nat) : Nat := ceilDiv (ms * 32768) 1000
def secTicks (sec : Nat) : Nat := sec * 32768

/-- R8: ROLE in force. -/
def segRole (s : State) (n : Nat) : Nat := frcF s (segR n 0) 1 0
def segHold (s : State) (n : Nat) : Bool := getB s (segR n 0) 2
def sleepReq (s : State) (n : Nat) : Bool := getB s (0x70028 + 4 * (n / 32)) (n % 32)
def setSleepReq (s : State) (n : Nat) (b : Bool) : State := setB s (0x70028 + 4 * (n / 32)) (n % 32) b

/-- LAN_PWR STATE: 0 ACTIVE, 1 PARTIAL, 2 STANDBY, 3 SLEEP. -/
def pwrState (s : State) : Nat := getF s 0x7000C 1 0

/-- R447: an item of the lantern; during STANDBY and SLEEP, and after a wake from SLEEP until CONFIG is set, it waits. -/
def lanItem (s : State) (ty src : Nat) (pay : List Byte) : State :=
  if pwrState s ≥ 2 ∨ s.lan.wakeItem = true then { s with lan := { s.lan with items := s.lan.items ++ [(ty, src, pay)] } }
  else evtItem s 0x70008 0 ty src pay

/-- A cause byte; where R447 gives the event none, a free value (log 2). -/
def causeByte (s : State) : Option Nat → Byte × State
  | some c => (BitVec.ofNat 8 c, s)
  | none => let x := fresh s; (BitVec.ofNat 8 x.1, x.2)

def segItem (s : State) (n ev : Nat) (cause : Option Nat) : State :=
  let c := causeByte s cause
  lanItem c.2 0xB0 n ([BitVec.ofNat 8 ev, c.1, BitVec.ofNat 8 (segRole s n), 0] ++ leBytes 4 s.lan.lnt)

/-- R447: item 0xB1. -/
def pwrItem (s : State) (old new : Nat) (cause : Option Nat) : State :=
  let c := causeByte s cause
  lanItem c.2 0xB1 0 ([BitVec.ofNat 8 old, BitVec.ofNat 8 new, c.1, 0] ++ leBytes 4 s.lan.lnt)

def anyAsleep (s : State) : Bool := s.lan.seg.any fun x => x.2.st == 2

/-- R441: ACTIVE and PARTIAL follow the segments. -/
def pwrFollow (s : State) (cause : Option Nat) : State :=
  let new := bnat (anyAsleep s)
  let old := pwrState s
  if old ≥ 2 ∨ old = new then s else pwrItem (setF s 0x7000C 1 0 new) old new cause

/-- R436: SLEEP_REQ cleared; no request stands. -/
def clearAsk (s : State) (n : Nat) : State := setSeg (setSleepReq s n false) n { segAt s n with ask := none }

/-- R436, R437: an abort counts. -/
def abortCount (s : State) : State := raise (incC s 0x70064) 0x70000 2

/-- R437, R440: ASLEEP is left: STB handed back, the channel leaves DISABLED under R61. -/
def wakeSeg (s : State) (n cause : Nat) : State :=
  let s := setSeg s n { segAt s n with st := 0, w := s.lan.lnt, f := none, act := some s.lan.lnt }
  let s := raise (incC (setSleepReq s n false) 0x70060) 0x70000 0
  let s := tryLeave (setB s (canR n 0x30) 17 false) n
  let wake := getF s (canR n 0x30) 15 8
  let s := if modeCur s n ≠ 0 ∧ modeCur s n ≠ 4 ∧ stbAsserted s n = false ∧ wake ≠ 0 then
      setChan s n { chan s n with stbUntil := some (ltNs s + wake * 1000) }
    else s
  pwrFollow (segItem s n 0 (some cause)) (some cause)

/-- R437 to R439: ASLEEP is entered: the channel held DISABLED, STB asserted by the lantern; forced with a holdoff window. -/
def sleepSeg (s : State) (n : Nat) (forced : Bool) (cause : Option Nat) : State :=
  let s := setSeg s n { segAt s n with st := 2, f := if forced then some s.lan.lnt else none }
  let s := raise (setB (enterDisabled s n) (canR n 0x30) 17 true) 0x70000 1
  let s := if forced then raise (incC s 0x70068) 0x70000 3 else s
  pwrFollow (segItem s n (if forced then 4 else 2) cause) (if cause = some 0x7F then cause else none)

/-- R437: SETTLE is entered. -/
def settleSeg (s : State) (n cause : Nat) : State :=
  segItem (setSeg s n { segAt s n with st := 1, c := s.lan.lnt }) n 1 (some cause)

/-- R436, R437: SETTLE is aborted; a request of this tick goes with it. -/
def segAborted (s : State) (n cause : Nat) : State :=
  let g := segAt s n
  let s := setSeg s n { g with st := 0, a := some s.lan.lnt, act := some s.lan.lnt }
  let s := if g.ask = some s.lan.lnt then clearAsk s n else s
  segItem (abortCount s) n 3 (some cause)

/-- R435: a roll-call frame offered. -/
def offerRoll (s : State) (n op : Nat) : State :=
  { setChan s n { chan s n with rollCall := some op, rollSeq := s.reqSeq, rollAtt := 0 } with reqSeq := s.reqSeq + 1 }

/-- R436: SLEEP_REQ set, with the tick of a request that was not standing. -/
def requestSleep (s : State) (n : Nat) : State :=
  if sleepReq s n then s else setSeg (setSleepReq s n true) n { segAt s n with ask := some s.lan.lnt }

/-- R436, R437: the changes of a segment, by number, each with its operand: a cause, or the opcode of a roll call. -/
def segStep (s : State) (n k x : Nat) : State :=
  match k with
  | 0 => sleepSeg s n true none
  | 1 => sleepSeg s n false (some x)
  | 2 => setSeg s n { segAt s n with st := 0 }
  | 3 => settleSeg s n x
  | 4 => offerRoll s n x
  | 5 => wakeSeg s n x
  | 6 => segAborted s n x
  | 7 => requestSleep s n
  | _ => clearAsk s n

/-- R453, R454: a change of a segment, which is paired state. An ACTIVE unit sends it as a record, and a STANDBY one makes it from there alone (log 21). -/
def segTurn (s : State) (n k x : Nat) : State :=
  if budMode s = 2 then s else segStep (budInput s 4 [8, BitVec.ofNat 8 n, BitVec.ofNat 8 k, BitVec.ofNat 8 x]) n k x

/-- R436: a sleep request made in this tick that a wake or an abort meets is not set. -/
def unask (s : State) (n : Nat) : State := if (segAt s n).ask = some s.lan.lnt then segTurn s n 8 0 else s

/-- R436: a wake or abort condition of the segment in this tick; outside SETTLE, whose abort counts, it counts where it meets a request. -/
def segAct (s : State) (n : Nat) : State :=
  let g := segAt s n
  let s := if g.ask = some s.lan.lnt ∧ g.st ≠ 1 then abortCount (unask s n) else s
  setSeg s n { segAt s n with act := some s.lan.lnt }

def settleTicks (s : State) (n : Nat) : Nat := msTicks (frcF s (segR n 8) 15 0)

/-- R438: the settle window has ended. -/
def settleOver (s : State) (n : Nat) : Bool := decide ((segAt s n).c + settleTicks s n ≤ s.lan.lnt)

/-- R437: the awake window has ended; MAX_AWAKE = 0 opens none, and a segment whose MODE_REQ is DISABLED stays AWAKE. -/
def awakeOver (s : State) (n : Nat) : Bool :=
  let m := frcF s (segR n 8) 31 16
  (segAt s n).st != 2 && m != 0 && modeReq s n != 0 && decide ((segAt s n).w + secTicks m ≤ s.lan.lnt)

/-- R10, R437, R438: the exits that the windows of a segment have brought by this tick, in their order. A segment whose MODE_REQ has become DISABLED
in SETTLE is AWAKE then (DESIGN CHOICE, log 42). What comes in or after that tick meets the segment as these leave it. -/
def segDue (s : State) (n : Nat) : State :=
  if pwrState s ≥ 2 then s
  else if awakeOver s n then segTurn s n 0 0
  else if (segAt s n).st = 1 ∧ settleOver s n = true then
    (if modeReq s n = 0 then segTurn s n 2 0 else segTurn s n 1 (if segRole s n = 0 then 0x7F else 0x7E))
  else s

/-- R437: outside the minimum window. -/
def minOver (s : State) (n : Nat) : Bool := decide ((segAt s n).w + msTicks (frcF s (segR n 0xC) 31 16) ≤ s.lan.lnt)

/-- R437: outside the retry window. -/
def retryOver (s : State) (n : Nat) : Bool :=
  match (segAt s n).a with
  | some a => decide (a + msTicks (frcF s (segR n 0) 31 16) ≤ s.lan.lnt)
  | none => true

/-- R437, exit 2 of AWAKE: nothing but a sleep request is missing. -/
def canSettle (s : State) (n : Nat) : Bool :=
  (segAt s n).st == 0 && !segHold s n && modeReq s n != 0 && minOver s n && retryOver s n

/-- R437: an abort condition of the settle window. Just before the request of a segment with ROLE OFF it falls into the same tick of the window
that the request would open (R436). -/
def abortSeg (s : State) (n cause : Nat) : State :=
  let s := segDue s n
  let g := segAt s n
  if g.st = 1 then segTurn s n 6 cause
  else if segRole s n = 0 ∧ canSettle s n = true then setSeg s n { g with act := some s.lan.lnt }
  else s

/-- R10, R437: a sleep request that nothing holds back, where no window has ended. -/
def trySettle (s : State) (n : Nat) : State :=
  let s := segDue s n
  if canSettle s n = true ∧ sleepReq s n = true then
    if segRole s n = 0 then segTurn s n 3 0x7F
    else if segRole s n = 1 ∧ modeCur s n = 1 ∧ (chan s n).rollCall = none then segTurn s n 4 1
    else s
  else s

/-- R437: a MASTER's CALL is valid for the transmitter; the conditions of its exit hold then too. -/
def callSent (s : State) (n : Nat) : State :=
  let s := segDue s n
  if canSettle s n = true ∧ sleepReq s n = true then segTurn s n 3 0x7E else s

/-- R435, R437: a FOLLOWER receives CALL; a segment whose MODE_REQ is DISABLED takes no part. -/
def callReceived (s : State) (n : Nat) : State :=
  if segRole s n = 2 ∧ (segAt s n).st = 0 ∧ modeReq s n ≠ 0 then
    if segHold s n = false ∧ minOver s n = true then segTurn s n 3 0x7E else segTurn s n 4 2
  else s

/-- R435: a frame with RC_ID. A CAN XL frame has a priority and no identifier of this kind (DEDUCED, log 25). -/
def isRoll (s : State) (n : Nat) (f : CanFrame) : Bool :=
  f.fmt != .xl && f.ide == frcB s (segR n 0) 6 && f.ident.toNat == frcF s (segR n 4) 28 0

/-- R435: a roll-call frame: classical, of two bytes, with one of the two opcodes. -/
def rollOp (f : CanFrame) : Option Nat :=
  if f.fmt = .classical ∧ f.rtr = false ∧ f.data.length = 2 ∧ (f.data.getD 0 0 = 1 ∨ f.data.getD 0 0 = 2) then some (f.data.getD 0 0).toNat else none

/-- R435, R437: a frame valid for the receiver, as the lantern sees it. -/
def segFrame (s : State) (n : Nat) (f : CanFrame) : State :=
  let s := segDue s n
  if isRoll s n f then
    match rollOp f with
    | some 1 => callReceived s n
    | some _ => abortSeg s n 0x7E
    | none => abortSeg (raise (incC s 0x7006C) 0x70000 4) n n
  else abortSeg s n n

/-- R436: a sleep request; whether it was set comes with the state. The wake wins in its own tick, and the meeting counts once: an abort of
SETTLE in that tick has counted it (DESIGN CHOICE, log 42). -/
def askSleep (s : State) (n : Nat) : State × Bool :=
  let s := segDue s n
  if (segAt s n).act = some s.lan.lnt then
    ((if (segAt s n).a = some s.lan.lnt then s else abortCount s), false)
  else (trySettle (segTurn s n 7 0) n, true)

/-- R436, R437: WAKE by command; whether the segment left ASLEEP or SETTLE comes with the state. -/
def askWake (s : State) (n : Nat) : State × Bool :=
  let s := segDue s n
  let st := (segAt s n).st
  let s := segTurn (segAct s n) n 8 0
  if st = 2 then (segTurn (setF s 0x7000C 14 8 0x7F) n 5 0x7F, true)
  else if st = 1 then let s' := abortSeg s n 0x7F; (s', (segAt s' n).st == 0)
  else (s, false)

/-- HOLD set by a write: to 1 it aborts a settle; to 0 a standing request may go on. -/
def holdSet (s : State) (n : Nat) (b : Bool) : State :=
  let s := setB (segDue s n) (segR n 0) 2 b
  if b then abortSeg (segAct s n) n 0x7F else trySettle s n

/-- R438: the settle window has ended. -/
def settleEndOp (s : State) (n : Nat) : State := if (segAt s n).st = 1 ∧ settleOver s n = true then segDue s n else s

/-- R437, R439: the awake window has ended. -/
def maxAwakeOp (s : State) (n : Nat) : State := if awakeOver s n then segDue s n else s

/-- R439: the instant `t` of LNT lies inside the holdoff window. -/
def heldAt (s : State) (n t : Nat) : Bool :=
  match (segAt s n).f with
  | some f => decide (t < f + secTicks (frcF s (segR n 0xC) 11 0))
  | none => false

/-- R439: inside the holdoff window. -/
def inHoldoff (s : State) (n : Nat) : Bool := heldAt s n s.lan.lnt

/-- R439: a holdoff window that has ended is forgotten. -/
def holdoffOp (s : State) (n : Nat) : State :=
  if (segAt s n).f.isSome && !inHoldoff s n then setSeg s n { segAt s n with f := none } else s

/-- LAN_SEGSTATE of a segment. -/
def segCode (s : State) (n : Nat) : Nat :=
  if (segAt s n).st = 2 then (if inHoldoff s n then 3 else 2) else (segAt s n).st

end Sys2Proof.Machine
end

