-- ==== Sys2Proof/Machine/RouteCan.lean ====
section
/-!
DEFINITION. Sys2Proof/Machine/RouteCan.lean: frame routing (R152 to R156) and what a received CAN frame does (R70 to R74).
-/
namespace Sys2Proof.Machine

/-! ### Route lists (R152) -/

def rltAt (s : State) (i : Nat) : BitVec 768 := tGet s tRlt i
def rlValid (e : BitVec 768) : Bool := eFld e 0 0 0 == 1
def rlCount (e : BitVec 768) : Nat := eFld e 0 5 1
def rlLock (e : BitVec 768) : Bool := eFld e 0 6 6 == 1
def rlBrsOff (e : BitVec 768) : Bool := eFld e 0 7 7 == 1
def rlRewrite (e : BitVec 768) : Bool := eFld e 0 8 8 == 1
def rlComp (e : BitVec 768) : Nat := eFld e 0 15 12
def rlLockTo (e : BitVec 768) : Nat := eFld e 0 31 16
def rlNewId (e : BitVec 768) : Nat := eFld e 1 28 0
def rlNewIde (e : BitVec 768) : Bool := eFld e 1 29 29 == 1
def rlDest (e : BitVec 768) (k : Nat) : Nat := eFld e (2 + k / 2) (15 + 16 * (k % 2)) (16 * (k % 2))
def deKind (d : Nat) : Nat := d / 4096
def deIndex (d : Nat) : Nat := d % 4096

/-- The copy that an entry sends of a frame. -/
def rlFrame (e : BitVec 768) (f : CanFrame) : CanFrame :=
  let f := if rlRewrite e then { f with ident := BitVec.ofNat 29 (rlNewId e), ide := rlNewIde e } else f
  if rlBrsOff e && f.fmt == .fd then { f with brs := false } else f

/-- Where a routed frame comes from: its channel (none: SG), its class, its MOT object, and the compartment of the entry that routes it. -/
structure RouteSrc where
  chan : Option Nat
  cls  : Nat
  obj  : Nat
  comp : Nat
  deriving DecidableEq, Repr

def RouteSrc.owner (r : RouteSrc) : Nat := r.chan.getD 0x60

/-- The pool of a direction: CAN to CAN 0, CAN to Ethernet 1, Ethernet to CAN 2, host 3. -/
def RouteSrc.canPool (r : RouteSrc) : Nat := (if r.chan.isSome then 0 else 8) + r.cls

/-- What routing a frame has done so far: per direction nothing yet, or the copy taken, or that it was refused; and the ring deliveries. -/
structure RouteCtx where
  toCan  : Option (Option Nat)
  toEth  : Option Bool
  toHost : Option (Option Nat)
  deliv  : List (Nat × RxDeliv)
  deriving DecidableEq, Repr

/-- R150, R151: one more destination of a direction: the copy it shares, taken at the first one, or nothing when it was refused. -/
def shareCopy (s : State) (p n obj : Nat) : Option (Option Nat) → State × Option Nat
  | some (some c) => (setCopy s c { copyAt s c with refs := (copyAt s c).refs + 1 }, some c)
  | some none => (s, none)
  | none => if poolFits s p n then (poolTake s p n 0 obj, some s.copyNext) else (poolRefuse s p 0 obj, none)

/-- R153, R155: a CAN destination that takes the copy. -/
def toChannel (s : State) (e : BitVec 768) (r : RouteSrc) (f : CanFrame) (n : Nat) (c : RouteCtx) : State × RouteCtx :=
  let x := shareCopy s r.canPool f.data.length r.obj c.toCan
  match x.2 with
  | none => (x.1, { c with toCan := some none })
  | some k =>
    let s := if rlLock e then (lockAsk x.1 n r.owner (rlLockTo e)).1 else x.1
    (queueCopy s n k r.cls r.owner f, { c with toCan := some (some k) })

/-- R153, R178: a target takes a copy of the pool of its direction, which leaves at once. -/
def toTarget (s : State) (r : RouteSrc) (f : CanFrame) (n t : Nat) (c : RouteCtx) : State × RouteCtx :=
  match c.toEth with
  | some true => (encapsulate s t n r.cls f, c)
  | some false => (s, c)
  | none =>
    let p := 4 + r.cls
    if poolFits s p f.data.length then
      (copyDone (encapsulate (poolTake s p f.data.length 0 r.obj) t n r.cls f) s.copyNext, { c with toEth := some true })
    else (poolRefuse s p 0 r.obj, { c with toEth := some false })

/-- R330: word 3 of a routed copy: 0xFFFF_0000 + channel. For a frame from SG, which carries no trace of its channel (R179), the channel
is a free value (log 2). -/
def routeWord (s : State) (r : RouteSrc) : Nat × State :=
  match r.chan with
  | some n => (0xFFFF0000 + n, s)
  | none => let x := fresh s; (0xFFFF0000 + x.1 % 65536, x.2)

/-- R153, R156: a ring destination: its delivery is kept for the end of the routing. -/
def toRing (s : State) (r : RouteSrc) (f : CanFrame) (k : Nat) (c : RouteCtx) : State × RouteCtx :=
  let x := shareCopy s (12 + r.cls) f.data.length r.obj c.toHost
  match x.2 with
  | none => (x.1, { c with toHost := some none })
  | some id =>
    let w := routeWord x.1 r
    (w.2, { c with toHost := some (some id), deliv := c.deliv ++ [(k, rxCan s 10 w.1 f false (some id))] })

def skipFmt (s : State) : State := incC s 0x1A1120

/-- The format of the copy cannot go to the channel. -/
def rlNoFmt (s : State) (e : BitVec 768) (f : CanFrame) (n : Nat) : Bool :=
  !fmtOn s n (canFmtNo f.fmt) || (f.fmt == .xl && rlRewrite e && rlNewIde e)

/-- R87: a copy for a DISABLED channel: counted as an abandonment with cause 2. -/
def dropAtDisabled (s : State) (n : Nat) (f : CanFrame) : State :=
  evtItem (abandonCount s n) 0xA8608 8 0x12 (0xFFFF0000 + n) (abandonItem f.ident.toNat 0 2)

/-- The compartment that owns a destination. -/
def destOwner (s : State) (d : Nat) : Nat :=
  if deKind d = 1 then chanOwner s (deIndex d)
  else if deKind d = 2 then owned s (etComp (tGet s tEtt (deIndex d)))
  else ringOwner s (16 + deIndex d)

/-- R153: one destination. R31: one of another compartment that the list may not reach is skipped and counted (log 42). -/
def routeOne (s : State) (e : BitVec 768) (r : RouteSrc) (f : CanFrame) (d : Nat) (c : RouteCtx) : State × RouteCtx :=
  let i := deIndex d
  if !ruleReach (owned s (rlComp e)) (destOwner s d) then (skipFmt s, c)
  else if deKind d = 1 then
    if r.chan = some i then (incC s 0x1A1124, c)
    else if rlNoFmt s e f i then (skipFmt s, c)
    else if modeCur s i = 0 then (dropAtDisabled s i f, c)
    else toChannel s e r f i c
  else if deKind d = 2 then
    match r.chan with
    | some n => toTarget s r f n i c
    | none => (skipFmt s, c)
  else if deKind d = 3 then toRing s r f i c
  else (s, c)

def routeAll (e : BitVec 768) (r : RouteSrc) (f : CanFrame) : List Nat → State → RouteCtx → State × RouteCtx
  | [], s, c => (s, c)
  | k :: ks, s, c =>
    let x := routeOne s e r f (rlDest e k) c
    routeAll e r f ks x.1 x.2

/-- R31, R153, R159: a frame routed by list `e`; the ring deliveries it makes come with the state. A list of a third compartment routes
nothing, and each of its destinations counts as skipped. -/
def routeBy (s : State) (e : BitVec 768) (r : RouteSrc) (f : CanFrame) : State × List (Nat × RxDeliv) :=
  if !getB s 0x1A1008 0 || !rlValid e then (s, [])
  else if !ruleFor r.comp (owned s (rlComp e)) then (addC s 0x1A1120 (rlCount e), [])
  else
    let x := routeAll e r (rlFrame e f) (List.range (rlCount e)) s { toCan := none, toEth := none, toHost := none, deliv := [] }
    (x.1, x.2.deliv)

def handAll (s : State) (l : List (Nat × RxDeliv)) : State := l.foldl (fun a h => ringHand a h.1 h.2) s

/-! ### Overflow writes (R73) -/

/-- The overflow bytes that wait in the receive buffer of channel `n` reach memory. -/
def xlFlush (s : State) (n : Nat) : State :=
  match (chan s n).xlWrite with
  | some (a, bs) => memWrite (setChan s n { chan s n with xlWrite := none }) a bs
  | none => s

/-- Every such write: what a read that waits for them finds. -/
def xlFlushAll (s : State) : State := (s.can.map fun e => e.1).foldl xlFlush s

def xlQueue (s : State) (n o : Nat) (bs : List Byte) : State :=
  if bs.isEmpty then s else setChan (xlFlush s n) n { chan (xlFlush s n) n with xlWrite := some (overflowAt o, bs) }

/-! ### Acceptance and commit (R70, R71) -/

/-- R76: the key of an extended identifier on a channel. -/
def ximKey (n ident : Nat) : List Byte := beBytes 5 (n * 2 ^ 29 + ident)
def ximKb (e : BitVec 768) : List Byte := ximKey (xiChan e) (xiIdent e)

/-- The object that lookup finds. -/
def canLookup (s : State) (n : Nat) (f : CanFrame) : Option Nat :=
  if f.ide then (hashFind s tXim ximKb (ximKey n f.ident.toNat)).map fun i => 98304 + xiObj (tGet s tXim i)
  else some (n * 2048 + f.ident.toNat % 2048)

/-- R71, R94: item 0x10. Its AUTHFAIL flag is always 0, since a commit clears AUTHFAIL and a failed frame writes item 0x80 (DESIGN CHOICE, log 42). -/
def commitItem (s : State) (o : Nat) (e : BitVec 768) (f : CanFrame) (flags : Nat) : State :=
  if moNotify e then
    itemTo s (moJnl e) 0x10 o (leBytes 2 f.data.length ++ [BitVec.ofNat 8 (canFmtNo f.fmt), BitVec.ofNat 8 flags, 0, 0, 0, 0] ++ f.data.take 8)
  else s

/-- The state record after a commit: AUTHFAIL tells of the last frame (R67), so it is cleared. -/
def commitState (s : State) (o : Nat) (f : CanFrame) : State :=
  let s := obPut (obPut s o 11 0 f.data.length) o 13 12 (canFmtNo f.fmt)
  let s := obPut (obPut s o 14 14 (bnat f.brs)) o 15 15 (bnat f.esi)
  obStamp (obPut (obPut s o 21 21 0) o 16 16 1) o

/-- R71: the commit. -/
def commitObj (s : State) (n o : Nat) (e : BitVec 768) (f : CanFrame) : State :=
  let had := obBit s o 16
  let s := putData s e (f.data.take 64)
  let s := if f.fmt = .xl then xlQueue (putHdr s e f.hdr) n o (f.data.drop 64) else s
  let s := commitState s o f
  let s := if had then objLost s n o else s
  commitItem s o e f (bnat had)

/-- R71: a frame whose verification failed. -/
def authFailed (s : State) (n o : Nat) (e : BitVec 768) (f : CanFrame) : State :=
  let s := payWrite s (areaAt e) (List.replicate (8 * moGr e) 0)
  let s := if moXl e then xlQueue s n o (List.replicate (f.data.length - 64) 0) else s
  obPut (obPut s o 11 0 f.data.length) o 21 21 1

/-- R66, R71, R74, R156: the copies of an accepted frame: the HOSTRX copy of a committed one, its route by list `list` as it stood at the lookup (R158), its
snapshot. -/
def frameCopies (s : State) (n o : Nat) (e list : BitVec 768) (kept : Bool) (f : CanFrame) : State :=
  let h := if moHostrx e && kept then hostCopy s o e 8 f false else (s, none)
  let held := match h.2 with
    | some d => [(moRing e, d)]
    | none => []
  let r := if moRoute e then routeBy h.1 list { chan := some n, cls := moClass e, obj := o, comp := owned h.1 (moComp e) } f else (h.1, [])
  if moSigr e then snapshot r.1 o e n f.data (moSealed e) (r.2 ++ held) else handAll r.1 (r.2 ++ held)

/-- R70: where an acceptance counter of channel `n` stands: ACC_OK, ACC_NORX, ACC_FMT, ACC_LEN in this order. -/
def accCount (s : State) (n k : Nat) : State := incC s (motR n (4 * k))

/-- R74: the entry of object `o` has been written or cleared in the last `look` ticks. -/
def rewritten (s : State) (look o : Nat) : Bool := (changesSince s look).any fun x => x.2.1 == tKey tMot o

/-- R68, R425: the data bytes that a frame may have for the object: those beyond the payload store need device memory. -/
def acceptMax (s : State) (e : BitVec 768) : Nat := if moXl e && !ready s 7 then 64 else dataMax e

/-- R31, R70, R71, R74, R158, R310: a data frame of another node, looked up `look` ticks ago. An object of another compartment than the channel's, which no
rule of C0's reaches, does not accept it (log 42). -/
def acceptFrame (s : State) (n : Nat) (f : CanFrame) (look : Nat) : State :=
  let a := tablesAgo s look
  match canLookup a n f with
  | none => accCount s n 1
  | some o =>
    let e := motAt a o
    let kept := !rewritten s look o
    if !moValid e || moTx e || !ruleFor (chanOwner s n) (owned s (moComp e)) then accCount s n 1
    else if !nbit (moFmt e) (canFmtNo f.fmt) then accCount s n 2
    else if f.data.length > acceptMax s e then accCount s n 3
    else
      let s := accCount s n 0
      let v := if moSealed e then sealVerify s a o (moJnl e) f else (s, true)
      if v.2 then frameCopies (if kept then commitObj v.1 n o e f else v.1) n o e (rltAt a (moRlt e)) kept f
      else if kept then authFailed v.1 n o e f
      else v.1

/-- R72: a frame that the channel receives from its own transmission. -/
def ownFrame (s : State) (n : Nat) (f : CanFrame) : State :=
  let s := accCount s n 0
  match (chan s n).bus with
  | some { kind := .object o e false _, frame := _ } =>
    let e := moKept e
    let s := obStamp (obPut (obPut s o 16 16 1) o 22 22 1) o
    hostSend (commitItem s o e f 2) o e 8 f true
  | _ => s

/-- R35, R36, R437: what the receive decision point of a frame does. -/
def canReceive (s : State) (n : Nat) (f : CanFrame) (own : Bool) (look : Nat) : State :=
  let s := add64 s (canR n 0x40) 1
  let s := segFrame s n f
  if f.rtr then incC s (canR n 0x78) else if own then ownFrame s n f else acceptFrame s n f look

end Sys2Proof.Machine
end

