-- ==== Sys2Proof/Machine/SigTables.lean ====
section
/-!
DEFINITION. Sys2Proof/Machine/SigTables.lean: the table operations of chapters 5 and 6 (R133, R134, R137, R145, R152, R160, R164, R170, R174,
R178, R184, R191). `c` is the compartment of a request.
-/
namespace Sys2Proof.Machine

/-- A CLEAR or a WRITE of an indexed entry whose status has been decided. R74, R158, R307: of route lists and seal entries a lookup in progress keeps what
it has found. -/
def tblPut (s : State) (code i st : Nat) (e : BitVec 768) (after : State → State) : State × TblRes :=
  if st ≠ 0 then (s, tblStat st i)
  else (after (if code = tRlt ∨ code = tSlt then keyPut s code i e else tSet s code i e), tblStat 0 i)

/-- R527: a CLEAR that leaves zero, of an entry with this owner. -/
def tblZero (s : State) (c code i comp : Nat) (after : State → State) : State × TblRes :=
  tblPut s code i (tblStatus (decide (i ≥ tCount code)) false (!mayAct c (owned s comp)) false false false) 0 after

/-! ### SDP (R130 to R134) -/

/-- The bits that the OP of a descriptor gives a meaning. -/
def sdpMask (e : BitVec 768) : Nat :=
  match sdOp e with
  | 1 => maskOf [(0, 25, 0), (0, 31, 28), (1, 18, 0), (1, 26, 25), (2, 28, 0), (3, 17, 0)]
  | 2 => maskOf [(0, 25, 0), (0, 31, 28), (1, 26, 0), (2, 28, 0), (3, 17, 0)]
  | 3 => maskOf [(0, 23, 0), (0, 31, 28), (1, 18, 0), (1, 26, 25), (2, 24, 0), (3, if binaryFn (dvFn e) then 24 else 15, 0)]
  | _ => maskOf [(0, 2, 0), (0, 31, 28)]

/-- R133: the INVALID causes of a descriptor. -/
def sdpBad (e : BitVec 768) : Bool :=
  let seg := gSeg (sdGsid e)
  if sdOp e = 0 then false
  else if sdOp e = 1 ∨ sdOp e = 2 then
    ((fieldBits e).any fun b => decide (b > (if sdOp e = 1 then 16383 else 511)))
      || (sdFloat e && sdLen e != 32 && sdLen e != 64)
      || sdToact e == 3 || (sdToact e != 0 && sdTimeout e == 0)
      || (sdOp e == 2 && (sdChgen e || sdNotify e || sdTimeout e != 0 || sdToact e != 0))
      || (sdOp e == 1 && decide (seg > 55))
  else if sdOp e = 3 then
    decide (dvFn e > 11) || decide (seg < 60) || decide (seg > 62)
      || ((dvFn e == 9 || dvFn e == 10) && gIdx (sdGsid e) == 8191)
      || (dvFn e == 9 && dvParam e == 0)
  else true

/-- The segments that a descriptor writes or reads. -/
def sdpSegs (e : BitVec 768) : List Nat :=
  if sdOp e = 1 ∨ sdOp e = 2 then [gSeg (sdGsid e)]
  else if sdOp e = 3 then [gSeg (sdGsid e), gSeg (dvA e)] ++ (if binaryFn (dvFn e) then [gSeg (dvB e)] else [])
  else []

/-- R134: the slots of the own vehicle that the writer map enters under a descriptor. -/
def sdpOuts (e : BitVec 768) : List Nat :=
  let g := sdGsid e % 2 ^ 19
  if sdOp e = 1 then [g] else if sdOp e = 3 then (if dvFn e = 9 ∨ dvFn e = 10 then [g, g + 1] else [g]) else []

/-- R134: another descriptor writes one of these slots. -/
def writerElse (s : State) (i : Nat) (outs : List Nat) : Bool :=
  (tList s tSdp).any fun x => x.1 != i && (sdpOuts x.2).any fun g => outs.contains g

/-- R142, R158: a WRITE restarts the timeout window and clears the missed flag. -/
def sdpRestart (s : State) (i : Nat) : State := setDesc s i { last := pairStamp s, acted := false, missed := false }

/-- R81, R333: the entry names the journal of another compartment; as with MOT entries, C0 may write it so (log 42). -/
def sdpJnlElse (s : State) (c : Nat) (e : BitVec 768) : Bool :=
  c != 0 && sdNotify e && ((sdOp e == 1 && jnlOwner s (sdJnl e) != owned s (sdComp e))
    || (sdOp e == 3 && jnlOwner s (dvJnl e) != owned s (sdComp e)))

def sdpWriteOp (s : State) (c i : Nat) (data : List Byte) : State × TblRes :=
  let g := eOf (data.take 16)
  let e := g &&& BitVec.ofNat 768 (sdpMask g)
  let st := tblStatus (decide (i ≥ 262144)) (sdpBad e || sdpJnlElse s c e)
    (writeDenied s c true (sdComp e) (sdComp (sdpAt s i)) || crossDenied c (sdComp e) ((sdpSegs e).map fun k => segOwner s k))
    (writerElse s i (sdpOuts e)) false false
  tblPut (if st = 0 then sdpSettle s i else s) tSdp i st e fun a => sdpRestart a i

def sdpClearOp (s : State) (c i : Nat) : State × TblRes :=
  let own := sdComp (sdpAt s i)
  tblZero (if i < 262144 ∧ mayAct c (owned s own) = true then sdpSettle s i else s) c tSdp i own fun a => setDesc a i DescRt.init

/-! ### TPT (R137, R160) -/

def tptBad (e : BitVec 768) : Bool :=
  (tpRange e == 3 && !tpHas e)
    || (decide (sInt 64 (tpMin e) > sInt 64 (tpMax e))
      && (f64Nan (tpMin e) || f64Nan (tpMax e) || decide (f64Int (tpMin e) > f64Int (tpMax e))))

/-- R527: TPT entries carry no owner. -/
def tptWriteOp (s : State) (i : Nat) (data : List Byte) : State × TblRes :=
  let e := entryIn tTpt data
  let st := tblStatus (decide (i ≥ 8192)) (i == 0 || tptBad e) false false false false
  tblPut (if st = 0 then tptSettle s i else s) tTpt i st e id

def tptClearOp (s : State) (i : Nat) : State × TblRes :=
  let st := tblStatus (decide (i ≥ 8192)) (i == 0) false false false false
  tblPut (if st = 0 then tptSettle s i else s) tTpt i st 0 id

/-! ### RLT (R152, R160) -/

/-- R152: a destination that may stand in a used place. -/
def destOk (d : Nat) : Bool :=
  (deKind d == 1 && decide (deIndex d < 48)) || deKind d == 2 || (deKind d == 3 && decide (deIndex d < 16))

def rltBad (e : BitVec 768) : Bool :=
  rlCount e == 0 || decide (rlCount e > 16)
    || ((List.range 16).any fun k => if k < rlCount e then !destOk (rlDest e k) else rlDest e k != 0)
    || (rlLock e && rlLockTo e == 0) || (rlRewrite e && !rlNewIde e && decide (rlNewId e > 0x7FF))

def rltWriteOp (s : State) (c i : Nat) (data : List Byte) : State × TblRes :=
  let e := entryIn tRlt data
  let used := (List.range (min 16 (rlCount e))).map fun k => rlDest e k
  let st := tblStatus (decide (i ≥ 65536)) (rlValid e && rltBad e)
    (writeDenied s c (rlValid e) (rlComp e) (rlComp (rltAt s i)) || rlValid e && crossDenied c c ((used.filter destOk).map fun d => destOwner s d)) false false false
  tblPut s tRlt i st e id

def rltClearOp (s : State) (c i : Nat) : State × TblRes :=
  let e := rltAt s i
  tblPut s tRlt i (tblStatus (decide (i ≥ 65536)) false (!mayAct c (owned s (rlComp e))) false false false) (ePut e 0 0 0 0) id

/-! ### DST (R145, R160) -/

def dstBad (e : BitVec 768) : Bool :=
  dsTrig e != 0 && (dsCount e == 0 || decide (dsFirst e + dsCount e > 262144)
    || (dsTrig e == 1 && (decide (dsPeriod e < 10) || decide (dsOffset e ≥ dsPeriod e))))

def dstWriteOp (s : State) (c i : Nat) (data : List Byte) : State × TblRes :=
  let e := entryIn tDst data
  let st := tblStatus (decide (i ≥ 256)) (dstBad e) (eitherDenied s c (dsComp e) (dsComp (tGet s tDst i))) false false false
  tblPut s tDst i st e id

def dstClearOp (s : State) (c i : Nat) : State × TblRes := tblZero s c tDst i (dsComp (tGet s tDst i)) id

def dstSendOp (s : State) (c i : Nat) : State × TblRes :=
  let e := tGet s tDst i
  let st := tblStatus (decide (i ≥ 256)) (dsTrig e == 0) (!mayAct c (owned s (dsComp e))) false false false
  if st ≠ 0 then (s, tblStat st i) else (dstFire s i, tblStat 0 i)

/-! ### PUB and ETT (R170, R178, R191) -/

/-- A stream that another valid PUB (not `p`) or ETT entry (not `t`) uses. -/
def streamUsed (s : State) (p t : Option Nat) (x : Nat) : Bool :=
  ((tList s tPub).any fun y => puValid y.2 && puStream y.2 == x && some y.1 != p)
    || ((tList s tEtt).any fun y => etValid y.2 && etStream y.2 == x && some y.1 != t)

/-- The rules of R170 on TRIG, PERIOD and OFFSET. -/
def trigBad (trig period offset : Nat) : Bool := trig == 1 && (decide (period < 1000) || decide (offset ≥ period))

/-- R168: the counter is zero after a WRITE; dirty marks outside the range that the entry now has are forgotten. -/
def pubRestart (s : State) (i : Nat) (old e : BitVec 768) : State :=
  let x := pubRt s i
  let keep := if puSeg old = puSeg e then x.dirty.filter fun k => decide (puFirst e ≤ k) && decide (k ≤ puLast e) else []
  setPub s i { x with seq := 0, dirty := keep }

def pubWriteOp (s : State) (c i : Nat) (data : List Byte) : State × TblRes :=
  let e := entryIn tPub data
  let old := tGet s tPub i
  let v := puValid e
  let st := tblStatus (decide (i ≥ 1024))
    (v && (decide (puFirst e > puLast e) || trigBad (puTrig e) (puPeriod e) (puOffset e) || decide (puStream e > 0xFFEF)))
    (writeDenied s c v (puComp e) (puComp old) || v && crossDenied c (puComp e) [segOwner s (puSeg e)])
    (v && streamUsed s (some i) none (puStream e)) false false
  tblPut s tPub i st e fun a => pubRestart a i old e

def pubClearOp (s : State) (c i : Nat) : State × TblRes :=
  tblZero s c tPub i (puComp (tGet s tPub i)) fun a => setPub a i PubRt.init

/-- R170, R171, R191: SEND of an entry whose TRIG is off fires nothing: INVALID, as for DST (DESIGN CHOICE, log 42). -/
def pubSendOp (s : State) (c i : Nat) : State × TblRes :=
  let st := tblStatus (decide (i ≥ 1024)) (puTrig (tGet s tPub i) == 0) (!mayAct c (owned s (puComp (tGet s tPub i)))) false false false
  if st ≠ 0 then (s, tblStat st i) else (pubFire s i, tblStat 0 i)

def ettWriteOp (s : State) (c i : Nat) (data : List Byte) : State × TblRes :=
  let e := entryIn tEtt data
  let v := etValid e
  let st := tblStatus (decide (i ≥ 4096)) (v && decide (etStream e > 0xFFEF)) (writeDenied s c v (etComp e) (etComp (tGet s tEtt i)))
    (v && streamUsed s none (some i) (etStream e)) false false
  tblPut s tEtt i st e fun a => { a with mir := { a.mir with ett := SMap.set (fun _ => 0) a.mir.ett i 0 } }

def ettClearOp (s : State) (c i : Nat) : State × TblRes := tblZero s c tEtt i (etComp (tGet s tEtt i)) id

/-! ### SUB (R174, R191) -/

def subRt (s : State) (i : Nat) : SubRt := SMap.get (fun _ => SubRt.init) s.mir.sub i
def setSub (s : State) (i : Nat) (x : SubRt) : State :=
  { s with mir := { s.mir with sub := SMap.set (fun _ => SubRt.init) s.mir.sub i x } }

def subBad (s : State) (e : BitVec 768) : Bool :=
  suVeh e == ownVeh s || decide (suStream e > 0xFFEF) || (suKind e == 0 && decide (suFirst e > suLast e))
    || suToact e == 3 || (suToact e != 0 && suTimeout e == 0) || (suKind e == 1 && (suToact e == 2 || suHas e))

def subWriteOp (s : State) (c i : Nat) (data : List Byte) : State × TblRes :=
  let e := entryIn tSub data
  let v := suValid e
  let own := if suKind e = 0 then segOwner s (suSeg e) else owned s (rlComp (rltAt s (suRlt e)))
  let st := tblStatus (decide (i ≥ 1024)) (v && subBad s e)
    (writeDenied s c v (suComp e) (suComp (tGet s tSub i)) || v && crossDenied c (suComp e) [own])
    (v && (tList s tSub).any fun x => x.1 != i && suValid x.2 && suVeh x.2 == suVeh e && suStream x.2 == suStream e) false false
  tblPut s tSub i st e fun a => setSub a i { subRt a i with missed := false, clean := false, last := ltNs a, acted := false }

def subClearOp (s : State) (c i : Nat) : State × TblRes :=
  tblZero s c tSub i (suComp (tGet s tSub i)) fun a => setSub a i SubRt.init

/-! ### BAT (R164, R191) -/

def batGroup (e : BitVec 768) : Bool := eFld e 1 0 0 == 1

def batWriteOp (s : State) (c i : Nat) (data : List Byte) : State × TblRes :=
  let e := entryIn tBat data
  let bad := baValid e && ((decide (i < 64) && batGroup e) || (baJoin e && !batGroup e) || decide (baVid e > 4094)
    || (decide (i ≤ 64) && baComp e != 0))
  let st := tblStatus (decide (i ≥ 256)) bad (writeDenied s c (baValid e) (baComp e) (baComp (batAt s i)) || (decide (i ≤ 64) && c != 0)) false false false
  tblPut s tBat i st e id

def batClearOp (s : State) (c i : Nat) : State × TblRes :=
  let own := if i ≤ 64 then 0 else baComp (batAt s i)
  tblZero s c tBat i own id

/-! ### TTT (R184, R191) -/

/-- The bits that the DIR of an entry gives a meaning. -/
def tttMask (e : BitVec 768) : Nat :=
  if ttSends e then
    maskOf [(0, 12, 0), (0, 31, 28), (1, 31, 0), (2, 31, 0), (3, 23, 0), (4, 25, 0), (5, 25, 0), (6, 31, 0), (7, 13, 0)]
  else maskOf [(0, 6, 0), (0, 13, 13), (0, 31, 28), (1, 31, 0), (2, 31, 0), (3, 31, 0), (4, 25, 0)]

def tttBad (e : BitVec 768) : Bool :=
  ttSdpN e == 0
    || (ttSends e && (ttLen e == 0 || decide (ttLen e > 64) || decide (ttBase e + ceilDiv (ttLen e) 8 > 524288)
      || trigBad (ttTrig e) (ttPeriod e) (ttOffset e)))

def tttTwin (s : State) (i : Nat) (e : BitVec 768) : Bool :=
  !ttSends e && (tList s tTtt).any fun x =>
    x.1 != i && ttValid x.2 && !ttSends x.2 && ttComid x.2 == ttComid e && ttIpA x.2 == ttIpA e && ttIpB x.2 == ttIpB e

def tttWriteOp (s : State) (c i : Nat) (data : List Byte) : State × TblRes :=
  let g := eOf (data.take 32)
  let e := g &&& BitVec.ofNat 768 (tttMask g)
  let v := ttValid e
  let st := tblStatus (decide (i ≥ 2048)) (v && tttBad e)
    (writeDenied s c v (ttComp e) (ttComp (tGet s tTtt i)) || v && crossDenied c (ttComp e) [segOwner s (ttSeg e)]) (v && tttTwin s i e) false false
  tblPut s tTtt i st e fun a => setTtt a i { tttRt a i with seq := 0 }

def tttClearOp (s : State) (c i : Nat) : State × TblRes :=
  tblZero s c tTtt i (ttComp (tGet s tTtt i)) fun a => setTtt a i TttRt.init

/-- R191: SEND fires send entries; an entry whose TRIG is off fires on no cause (log 42). -/
def tttSendOp (s : State) (c i : Nat) : State × TblRes :=
  let e := tGet s tTtt i
  let st := tblStatus (decide (i ≥ 2048)) (!ttSends e || ttTrig e == 0) (!mayAct c (owned s (ttComp e))) false false false
  if st ≠ 0 then (s, tblStat st i) else (tttFire s i, tblStat 0 i)

end Sys2Proof.Machine
end

