-- ==== Sys2Proof/Machine/Sec.lean ====
section
/-!
DEFINITION. Sys2Proof/Machine/Sec.lean: the cipher jobs, the key store and its loading, tamper events and guard alarms, and the tables of
chapter 11 (R290 to R305, R307, R313, R317, R508).
-/
namespace Sys2Proof.Machine

/-- R34: five compartments or more: PAGED. -/
def paged (s : State) : Bool := decide (compCount s > 4)

/-- The page exists in the access mode. -/
def pageUsed (s : State) (c : Nat) : Bool := if paged s then compExists s c else c == 0

/-! ### Keys in slots (R298 to R300) -/

/-- R319: item 0x83 with the KCV concerned. -/
def keyItem (s : State) (k ev : Nat) (v : List Byte) : State := evtItem s 0x90008 1 0x83 k ([BitVec.ofNat 8 ev, 0, 0, 0] ++ padTo 4 v)

/-- A pending key loaded. -/
def keyPend (s : State) (k usage : Nat) (key : List Byte) : State :=
  setUsagePend (setKey s k { keyAt s k with pend := some key }) k usage

/-- R298: the plaintext of a wrapped key. -/
def wrapPlain (s : State) (k : Nat) (key : List Byte) : List Byte :=
  beBytes 2 (usageCur s k) ++ [BitVec.ofNat 8 (if key.length = 32 then 1 else 0), BitVec.ofNat 8 (slotOwner s k), 0, 0, 0, 0] ++ key

/-- R298, R299: the usage and the key of an unwrapped plaintext for slot `k`; none where a check fails. -/
def unwrapCheck (s : State) (k : Nat) (p : List Byte) : Option (Nat × List Byte) :=
  let usage := beAt p 0 2
  let code := leAt p 2 1
  if leAt p 3 1 = slotOwner s k ∧ leAt p 4 4 = 0 ∧ usage < 512 ∧ code ≤ 1 ∧ p.length = (if code = 1 then 40 else 24) then
    some (usage, p.drop 8)
  else none

def unwrapKey (s : State) (kek : List Byte) (k : Nat) (bs : List Byte) : Option (Nat × List Byte) :=
  if bs.length = 32 ∨ bs.length = 48 then (Config.keyUnwrap kek bs).bind (unwrapCheck s k) else none

/-- A failed unwrap: KEY_EV and item 0x83. -/
def unwrapFailed (s : State) (k : Nat) : State := keyItem (raise s 0x90000 5) k 3 []

/-- R300: a commit with the KCV that its caller expects; whether it was accepted comes with the state. -/
def keyCommit (s : State) (k : Nat) (key expect : List Byte) : State × Bool :=
  if kcv key = expect then
    (keyItem (setUsagePend (setUsageCur (setKey s k { cur := some key, pend := none }) k (usagePend s k)) k 0) k 0 (kcv key), true)
  else
    (keyItem (raise (setUsagePend (setKey s k { keyAt s k with pend := none }) k 0) 0x90000 5) k 1 (kcv key), false)

def keyClear (s : State) (k : Nat) : State :=
  keyItem (keyErase s k) k 2 (match (keyAt s k).cur with
    | some key => kcv key
    | none => [])

/-! ### Jobs (R294 to R297) -/

def jbW (j : List Word) (k : Nat) : Word := j.getD k 0
def jbOp (j : List Word) : Nat := fld (jbW j 0) 3 0
def jbKey (j : List Word) : Nat := fld (jbW j 0) 13 4
def jbSlot2 (j : List Word) : Nat := fld (jbW j 0) 23 14
def jbComp (j : List Word) : Nat := fld (jbW j 0) 27 24
def jbRoot (j : List Word) : Bool := (jbOp j == 4 || jbOp j == 5) && (jbW j 0).getLsbD 28
def jbTag (j : List Word) : Nat := fld (jbW j 1) 15 0
def jbTagLen (j : List Word) : Nat := fld (jbW j 1) 20 16
def jbSrc (j : List Word) : Nat := (jbW j 2).toNat
def jbDst (j : List Word) : Nat := (jbW j 3).toNat
def jbLen (j : List Word) : Nat := fld (jbW j 4) 16 0
def jbAad (j : List Word) : Nat := fld (jbW j 5) 15 0
def jbIv (j : List Word) : Nat := (jbW j 6).toNat
def jbTagAdr (j : List Word) : Nat := (jbW j 7).toNat

/-- The job is of AES-GCM, of AES-CMAC. -/
def jbGcm (j : List Word) : Bool := decide (jbOp j < 2)
def jbCmac (j : List Word) : Bool := jbOp j == 2 || jbOp j == 3

/-- The statuses of R297. -/
def jsOk : Nat := 0
def jsAuthFail : Nat := 1
def jsPolicy : Nat := 2
def jsRange : Nat := 3
def jsAlarm : Nat := 4
def jsFault : Nat := 5
def jsNoKey : Nat := 6
def jsInvalid : Nat := 7

/-- Bytes that a WRAP of SLOT2 writes. -/
def wrapLen (s : State) (j : List Word) : Nat :=
  match slotKey s (jbSlot2 j) with
  | some k => k.length + 16
  | none => 0

/-- The areas a job writes and reads: address and length. -/
def jobWrites (s : State) (j : List Word) : List (Nat × Nat) :=
  match jbOp j with
  | 0 => [(jbDst j, jbLen j), (jbTagAdr j, jbTagLen j)]
  | 1 => [(jbDst j, jbLen j)]
  | 2 => [(jbTagAdr j, jbTagLen j)]
  | 4 => [(jbDst j, wrapLen s j)]
  | _ => []

def jobReads (j : List Word) : List (Nat × Nat) :=
  match jbOp j with
  | 0 => [(jbSrc j, jbAad j + jbLen j), (jbIv j, 12)]
  | 1 => [(jbSrc j, jbAad j + jbLen j), (jbIv j, 12), (jbTagAdr j, jbTagLen j)]
  | 2 => [(jbSrc j, jbLen j)]
  | 3 => [(jbSrc j, jbLen j), (jbTagAdr j, jbTagLen j)]
  | 5 => [(jbSrc j, jbLen j)]
  | _ => []

/-- The compartment of a request. -/
def jobComp (s : State) (c : Nat) (j : List Word) : Nat := if paged s then c else jbComp j

/-- The slots a job uses, and those of them that must hold a key. -/
def jobSlots (j : List Word) : List Nat :=
  (if jbRoot j then [] else [jbKey j]) ++ (if jbOp j = 4 ∨ jbOp j = 5 then [jbSlot2 j] else [])
def jobKeys (j : List Word) : List Nat := (if jbRoot j then [] else [jbKey j]) ++ (if jbOp j = 4 then [jbSlot2 j] else [])

def rootOk (s : State) : Bool := getB s 0x90010 2

/-- R295: the checks, in their order. -/
def jobCheck (s : State) (c : Nat) (j : List Word) : Nat :=
  if jbOp j > 5 || (jbGcm j && (decide (jbTagLen j < 12) || decide (jbTagLen j > 16)))
      || (jbCmac j && (decide (jbTagLen j < 4) || decide (jbTagLen j > 16) || jbAad j != 0)) then jsInvalid
  else if jbLen j > 65536 || (jobReads j ++ jobWrites s j).any fun a => a.2 != 0 && !memInWindow s a.1 a.2 then jsRange
  else if !keyReady s || (jobKeys j).any (fun k => (slotKey s k).isNone) || (jbRoot j && !rootOk s) then jsNoKey
  else if (jobSlots j).any (fun k => slotOwner s k != jobComp s c j)
      || (!jbRoot j && !nbit (usageCur s (jbKey j)) (jbOp j))
      || (jbOp j == 4 && !jbRoot j && !nbit (usageCur s (jbSlot2 j)) 8)
      || (jbRoot j && jobComp s c j != 0) then jsPolicy
  else jsOk

/-- The key that a job computes under. -/
def jobKek (s : State) (j : List Word) : List Byte :=
  if jbRoot j then s.sec.root.getD [] else ((keyAt s (jbKey j)).cur).getD []

/-- R296: a job that has passed its checks, with its status. -/
def jobRun (s : State) (j : List Word) : State × Nat :=
  let key := jobKek s j
  let aad := memRead s (jbSrc j) (jbAad j)
  let inp := memRead s (jbSrc j + jbAad j) (jbLen j)
  let iv := memRead s (jbIv j) 12
  let tag := memRead s (jbTagAdr j) (jbTagLen j)
  match jbOp j with
  | 0 =>
    let r := Config.gcmEnc key iv aad inp
    (memWrite (memWrite s (jbDst j) (padTo (jbLen j) r.1)) (jbTagAdr j) (padTo (jbTagLen j) r.2), jsOk)
  | 1 =>
    let r := Config.gcmDec key iv aad inp
    if padTo (jbTagLen j) r.2 = tag then (memWrite s (jbDst j) (padTo (jbLen j) r.1), jsOk)
    else (memWrite s (jbDst j) (List.replicate (jbLen j) 0), jsAuthFail)
  | 2 => (memWrite s (jbTagAdr j) (padTo (jbTagLen j) (Config.cmac key inp)), jsOk)
  | 3 => (s, if padTo (jbTagLen j) (Config.cmac key inp) = tag then jsOk else jsAuthFail)
  | 4 =>
    let k := jbSlot2 j
    (memWrite s (jbDst j) (padTo (wrapLen s j) (Config.keyWrap key (wrapPlain s k (((keyAt s k).cur).getD [])))), jsOk)
  | 5 =>
    match unwrapKey s key (jbSlot2 j) inp with
    | some u => (keyPend s (jbSlot2 j) u.1 u.2, jsOk)
    | none => (unwrapFailed s (jbSlot2 j), jsAuthFail)
  | _ => (s, jsInvalid)

/-- R297: the head job of a page ends with a status. -/
def jobEnd (s : State) (c : Nat) (j : List Word) (st : Nat) : State :=
  let x := jobPage s c
  let s := setJobPage s c { jobs := x.jobs.drop 1, done := x.done ++ [BitVec.ofNat 32 (jbTag j + 2 ^ 16 * st + 2 ^ 31)] }
  incC s (if st = jsOk then 0x90040 else 0x90044)

/-- The slot that a job's key comes from. -/
def jobSlot (j : List Word) : Nat := if jbRoot j then jbSlot2 j else jbKey j

/-- The output areas of a job zeroed. -/
def jobZero (s : State) (j : List Word) : State := (jobWrites s j).foldl (fun a x => memWrite a x.1 (List.replicate x.2 0)) s

/-- The engine that takes a job: no rule says which of the four (log 22); it matters only where one of them is in DOUBLE. -/
def jobEngine (s : State) : Nat × State :=
  if [0, 1, 2, 3].any (guardDouble s) then ((fresh s).1 % 4, (fresh s).2) else (0, s)

/-- R295, R296: the oldest job of page `c`, from its checks to its completion. -/
def jobExecuteOp (s : State) (c : Nat) : State :=
  match (jobPage s c).jobs with
  | [] => s
  | j :: _ =>
    let st := jobCheck s c j
    if st ≠ jsOk then jobEnd s c j st
    else
      let e := jobEngine s
      let w := engineWork e.2 e.1 (jobSlot j) (jbTag j) (jobKek s j)
      if w.1 ≠ 0 then jobEnd (jobZero w.2 j) c j w.1
      else
        let r := jobRun w.2 j
        jobEnd r.1 c j r.2

def execJobExecute (c : Page) (s : State) : Host.Outcome State Fault Refusal := done (jobExecuteOp s c.val)

/-- Jobs held: from push until the completion is popped. -/
def jobHeld (s : State) (c : Nat) : Nat := (jobPage s c).jobs.length + (jobPage s c).done.length

/-- R295: PUSH. A page that the access mode does not provide is reserved (R376). -/
def jobPushOp (s : State) (q : Requester) (c : Nat) : State :=
  if !pageUsed s c then reservedWrite s q (jobR c 0x20) 1
  else if jobHeld s c ≥ 16 then raise s (jobR c 0x28) 10
  else setJobPage s c { jobPage s c with jobs := (jobPage s c).jobs ++ [(List.range 8).map fun k => rd s (jobR c (4 * k))] }

def execJobPush (q : Requester) (c : Page) (s : State) : Host.Outcome State Fault Refusal := done (disarm (jobPushOp s q c.val) q)

/-- R297: the word that a read of JOB_DONE returns, and the pop. -/
def jobDoneWord (s : State) (c : Nat) : Word := if pageUsed s c then (jobPage s c).done.headD 0 else 0

def jobPopOp (s : State) (c : Nat) : State :=
  if pageUsed s c then setJobPage s c { jobPage s c with done := (jobPage s c).done.drop 1 } else s

def execJobDonePop (q : Requester) (c : Page) (s : State) : Host.Outcome State Fault Refusal :=
  if pageUsed s c then done (send (jobPopOp s c.val) (.completion q 0 (leBytes 4 (jobDoneWord s c.val).toNat)))
  else done (reservedRead s q (jobR c 0x24))

/-! ### Guard alarms (R291, R292) -/

/-- The work in hand of engine e < 4: the head job of the e-th page that has jobs, once it has passed its checks. -/
def engineJob (s : State) (e : Nat) : Option (Nat × List Word) :=
  match ((List.range 16).filter fun c => !(jobPage s c).jobs.isEmpty)[e]? with
  | some c =>
    match (jobPage s c).jobs with
    | j :: _ => if jobCheck s c j = jsOk then some (c, j) else none
    | [] => none
  | none => none

/-- R305, R292: the job of an engine ends with ALARM. -/
def jobAlarm (s : State) (c : Nat) (j : List Word) : State := jobEnd (jobZero s j) c j jsAlarm

/-- The work in hand of the job engines. -/
def engineJobs (s : State) : List (Option (Nat × List Word)) := (List.range 4).map (engineJob s)

/-- R292: a guard alarm to engine `e`, whose job, if any, `jobs` gives; `busy` says which of engines 4 to 12 have work in hand: its end, the
row that shows its result, takes the alarm. An engine that is idle clears its key registers or does nothing. -/
def guardAlarm (mask : Nat) (busy : BitVec 9) (jobs : List (Option (Nat × List Word))) (s : State) (e : Nat) : State :=
  match jobs.getD e none with
  | some (c, j) => alarmEnds (jobAlarm s c j) e (jobSlot j) (jbTag j) mask
  | none =>
    if decide (4 ≤ e) && busy.getLsbD (e - 4) then setEngineAlarm s e (mask + 1)
    else if guardDouble s e then s else setEngineKey s e none

/-- R291: a guard alarm to the engines listed; none arises in STANDBY or SLEEP (R496, row 16). -/
def guardAlarms (s : State) (mask : Nat) (busy : BitVec 9) (es : List Nat) : State :=
  if getF s 0x7000C 1 0 < 2 then es.foldl (guardAlarm mask busy (engineJobs s)) s else s

def execGuardParityError (e : Fin 13) (busy : BitVec 9) (s : State) : Host.Outcome State Fault Refusal := done (guardAlarms s 0 busy [e.val])

/-! ### Tamper events (R304, R305, R508) -/

/-- Slots with a key. -/
def slotsHeld (s : State) : Nat := (s.sec.slots.filter fun e => e.2.cur.isSome || e.2.pend.isSome).length

/-- Every key, the root, the masks and the engines' key registers erased; running work ends with ALARM. -/
def eraseAll (s : State) (busy : BitVec 9) : State :=
  let s := ((engineJobs s).filterMap id).foldl (fun a x => jobAlarm a x.1 x.2) s
  let s := (s.sec.slots.map fun e => e.1).foldl keyErase s
  let cut := ((List.range 9).filter fun k => busy.getLsbD k).map fun k => (k + 4, 256)
  { setB (setF s 0x90010 1 0 2) 0x90010 2 false with
      sec := { s.sec with slots := [], root := none, start := none, engines := [], alarms := cut } }

/-- R305: the report of an erase. -/
def tamperReport (s : State) (causes n : Nat) : State :=
  evtItem (raise (incC s 0x9005C) 0x90000 3) 0x90008 1 0x82 0 ([BitVec.ofNat 8 causes, 0, 0, 0] ++ leBytes 4 n)

/-- The power state, LAN_STATE [1:0]: 0 ACTIVE, 1 PARTIAL, 2 STANDBY, 3 SLEEP. -/
def powerState (s : State) : Nat := getF s 0x7000C 1 0

/-- Whether the device is in STANDBY, or in SLEEP, with its entry complete. -/
def inStandby (s : State) : Bool := powerState s == 2 && s.lan.entering.isNone
def inSleep (s : State) : Bool := powerState s == 3 && s.lan.entering.isNone

/-- R305: a tamper event with the causes of item 0x82: latched in SLEEP (the bit above the causes says that one is). -/
def tamperEvent (s : State) (causes : Nat) (busy : BitVec 9) : State :=
  if inSleep s then { s with sec := { s.sec with tamperLatch := s.sec.tamperLatch ||| causes ||| 0x20 } }
  else tamperReport (eraseAll s busy) causes (slotsHeld s)

/-- SEC_TAMPER_CFG: in SLEEP as the lantern holds it. -/
def tamperCfg (s : State) : Word := if inSleep s then s.sec.sleepCfg else rd s 0x90014

/-- R304: the sources whose trip is a tamper event, by the bits of item 0x82: T0_EN, T1_EN and SENSOR_ACT. -/
def tamperSources (s : State) : Nat := fld (tamperCfg s) 1 0 + 4 * fld (tamperCfg s) 9 7

/-- R316: SEC_SENSOR LIVE, bit `k`; the register is not there in SLEEP. -/
def liveSet (s : State) (k : Nat) (on : Bool) : State := if inSleep s then s else setB s 0x90018 k on

/-- R305: at the wake from SLEEP the latched event is reported. -/
def tamperWake (s : State) : State :=
  if s.sec.tamperLatch = 0 then s
  else tamperReport { s with sec := { s.sec with tamperLatch := 0 } } s.sec.tamperLatch 0

/-- R305: the sources that trip within one erase: one erase and one item, whose mask names all of them that are enabled. -/
def tamperOp (s : State) (source : Nat) (also : BitVec 5) (busy : BitVec 9) : State :=
  tamperEvent s ((2 ^ source ||| also.toNat) &&& tamperSources s) busy

/-- R304: TAMPER0_N, TAMPER1_N: low for FILT µs, or high again. R414, R506: from LANTERN on, until the device is configured, a trip is latched. -/
def tamperPinOp (s : State) (pin : Nat) (low : Bool) (also : BitVec 5) (busy : BitVec 9) : State :=
  let s := liveSet s (3 + pin) low
  if low && nbit (tamperSources s) pin then tamperOp s pin also busy
  else if low && getB s 0x14 0 && !getB s 0x14 11 then { s with sec := { s.sec with pinLatch := s.sec.pinLatch ||| 2 ^ pin } }
  else s

/-- R304, R506: once the device is configured, the latched trips of the pins that are enabled act, as one event. -/
def tamperLatched (s : State) : State :=
  let x := s.sec.pinLatch &&& tamperSources s
  let s := { s with sec := { s.sec with pinLatch := 0 } }
  if x = 0 then s else tamperEvent s x 0

def execTamperPinTrip (pin : Fin 2) (low : Bool) (also : BitVec 5) (busy : BitVec 9) (s : State) : Host.Outcome State Fault Refusal :=
  done (tamperPinOp s pin.val low also busy)

/-- R520: the items of a trip of the voltage sensor that a brown-out of the same dip would lose, while the trip stands: the erase's, or those of
the jobs that end with ALARM. -/
def tripItems (s : State) (also : BitVec 5) : List (Nat × Nat × List Byte) :=
  if inSleep s then []
  else if nbit (tamperSources s) 2 then
    [(0x82, 0, [BitVec.ofNat 8 ((4 ||| also.toNat) &&& tamperSources s), 0, 0, 0] ++ leBytes 4 (slotsHeld s))]
  else if powerState s < 2 then
    (List.range 4).filterMap fun e => (engineJob s e).map fun x =>
      (0x81, e, [0, 1] ++ leBytes 2 (if guardDouble s e then 0xFFFF else jobSlot x.2) ++ leBytes 2 (jbTag x.2))
  else []

/-- R304: sensors 0 voltage, 1 temperature, 2 glitch. -/
def sensorOp (s : State) (k : Nat) (on : Bool) (also : BitVec 5) (busy : BitVec 9) : State :=
  let s := liveSet s k on
  let s := if k = 0 then { s with sec := { s.sec with tripped := if on then tripItems s also else [] } } else s
  if !on then s
  else if nbit (tamperSources s) (2 + k) then tamperOp s (2 + k) also busy
  else guardAlarms s (2 ^ k) busy (List.range 13)

/-- R520: the items that a brown-out has kept are written after the start. -/
def owedItems (s : State) : State :=
  let l := s.sec.owed
  l.foldl (fun a x => evtItem a 0x90008 1 x.1 x.2.1 x.2.2) { s with sec := { s.sec with owed := [] } }

def execSensorTrip (k : Fin 3) (on : Bool) (also : BitVec 5) (busy : BitVec 9) (s : State) : Host.Outcome State Fault Refusal :=
  done (sensorOp s k.val on also busy)

/-- R508: an instruction loaded; a code that names none of the three is taken as BYPASS. -/
def tapOf (ir : BitVec 8) : TapIr := if Config.jtagCode ir = 1 then .samplePreload else if Config.jtagCode ir = 2 then .extest else .bypass

/-- R508: EXTEST, or an instruction that the port does not support, is a tamper event; item 0x82 names no cause for it, and which of engines 4 to 12
have work in hand is a free value (log 2). In SLEEP the port is unpowered (R505). -/
def tapLoad (s : State) (ir : BitVec 8) : State :=
  if inSleep s then s
  else
    let s := { s with sec := { s.sec with tap := tapOf ir } }
    if Config.jtagCode ir < 2 then s
    else
      let x := fresh s
      tamperEvent x.2 0 (BitVec.ofNat 9 x.1)

def execJtagInstructionLoad (ir : BitVec 8) (s : State) : Host.Outcome State Fault Refusal := done (tapLoad s ir)

/-! ### Loading (R302, R303) -/

/-- R302: the root regenerated from 2 KiB of helper data; none where its check fails. -/
def rootFrom (h : List Byte) : Option (List Byte) := if h = padTo 2048 Config.helperData then some Config.pufRoot else Config.helperRoot h

/-- R416: a helper-data copy in the boot flash. -/
def helperCopy (s : State) (k : Nat) : List Byte := flashRead s (0x2000 + 0x1000 * k) 2048

/-- The root that the first helper-data copy to pass its check gives. -/
def regenerate (s : State) : Option (List Byte) :=
  if s.otp.enrolled then (rootFrom (helperCopy s 0)).or (rootFrom (helperCopy s 1)) else none

/-- The steps of R302 end, and the start's permutation and masks are made (R301). R426: a root that fails is KEYSTORE's failure. -/
def keyStoreLoad (s : State) : State :=
  if getF s 0x90010 1 0 ≠ 0 ∨ s.boot.stage < 2 ∨ s.boot.rescue = true ∨ flashWaits s = true then s
  else
    let root := regenerate s
    let w := fresh s
    let s := setB (setB (setF w.2 0x90010 1 0 1) 0x90010 2 root.isSome) 0x90010 4 (s.otp.enrolled && root.isNone)
    { setB (setB s 0x14 6 true) 0x18 6 (s.otp.enrolled && root.isNone) with
        sec := { s.sec with root := root, start := some w.1 }
        boot := { s.boot with helper1 := root.isSome && (rootFrom (helperCopy s 0)).isNone } }

def execKeyStoreLoaded (s : State) : Host.Outcome State Fault Refusal := done (keyStoreLoad s)

/-! ### Counters (R316) -/

def secCounters : List Nat := wordsFrom 0x90040 8 ++ (List.range 8).flatMap fun n => wordsFrom (msR n 0x10) 11

def execSecCntClr (q : Requester) (s : State) : Host.Outcome State Fault Refusal := done (disarm (zeroAll s secCounters) q)

/-! ### The Seal Table and the SA table (R307, R313, R317) -/

def sltWriteOp (s : State) (c i : Nat) (data : List Byte) : State × TblRes :=
  let e := entryIn tSlt data
  let v := seValid e
  let st := tblStatus (decide (i ≥ 4096)) (v && (decide (seMacCode e > 5) || decide (seDlen e + seFvBytes e + seMacBytes e > 64)))
    (writeDenied s c v (seComp e) (seComp (tGet s tSlt i)) || v && crossDenied c (seComp e) [slotOwner s (seKey e), owned s (moComp (motAt s (seObj e)))])
    (v && (tList s tSlt).any fun x => x.1 != i && seValid x.2 && seObj x.2 == seObj e) false false
  tblPut s tSlt i st e id

/-- CLEAR sets VALID to 0. -/
def sltClearOp (s : State) (c i : Nat) : State × TblRes :=
  let e := tGet s tSlt i
  tblPut s tSlt i (tblStatus (decide (i ≥ 4096)) false (!mayAct c (owned s (seComp e))) false false false) (ePut e 0 0 0 0) id

def saComp (e : BitVec 768) : Nat := eFld e 0 19 16

/-- R313: the key's length does not match the suite; a slot without a key matches none. -/
def saBad (s : State) (e : BitVec 768) : Bool :=
  match (keyAt s (saKey e)).cur with
  | some k => k.length != (if saSuite e % 2 = 0 then 16 else 32)
  | none => true

/-- A new SA has reported none of its limits. -/
def saFresh (s : State) (i : Nat) : State :=
  { s with sec := { s.sec with pnWarn := SMap.set (fun _ => false) s.sec.pnWarn i false, pnExh := SMap.set (fun _ => false) s.sec.pnExh i false } }

def saWriteOp (s : State) (c i : Nat) (data : List Byte) : State × TblRes :=
  let e := entryIn tSa data
  let e := saPut e (saPn e) 0
  let v := saValid e
  let twin (x : Nat × BitVec 768) : Bool :=
    x.1 != i && x.1 / 64 == i / 64 && saValid x.2 && saTx x.2 == saTx e && saAn x.2 == saAn e && saSci x.2 == saSci e
  let st := tblStatus (decide (i ≥ 512)) (v && saBad s e)
    (writeDenied s c v (saComp e) (saComp (tGet s tSa i)) || v && crossDenied c (saComp e) [portOwner s (i / 64), slotOwner s (saKey e)])
    (v && (tList s tSa).any twin) false false
  tblPut s tSa i st e fun a => saFresh a i

def saClearOp (s : State) (c i : Nat) : State × TblRes :=
  let e := tGet s tSa i
  tblPut s tSa i (tblStatus (decide (i ≥ 512)) false (!mayAct c (owned s (saComp e))) false false false) (ePut e 0 0 0 0) id

end Sys2Proof.Machine
end

