-- ==== Sys2Proof/Machine/ServiceBase.lean ====
section
/-!
DEFINITION. Sys2Proof/Machine/ServiceBase.lean: how the service port handler answers (R469 to R471). The rows of the service port are in
Machine/Service.lean.
-/
namespace Sys2Proof.Machine

/-- R469: SP's MAC address: 02-C5 and the low 32 bits of UNIT_ID. -/
def svcMac (s : State) : List Byte := [0x02, 0xC5] ++ beBytes 4 (rd s 0x1A2020).toNat

/-- R471: the key of the MAC: a slot of C0 with CMAC_VER. -/
def svcKey (s : State) (k : Nat) : Option (List Byte) := if slotOwner s k = 0 then keyFor s k 3 else none

/-- R470: a datagram's payload without its trailer. -/
def svcPayload (kind seq : Nat) (mac : Bool) (body : List Byte) : List Byte :=
  beBytes 2 0xC5A1 ++ [1, BitVec.ofNat 8 kind] ++ beBytes 4 seq ++ beBytes 2 body.length ++ [BitVec.ofNat 8 (bnat mac), 0] ++ body

/-- R471: the 16-byte MAC of a payload under a key. -/
def svcMacOf (key : List Byte) (payload : List Byte) : List Byte := padTo 16 (Config.cmac key payload)

/-- The payload with its trailer while SVC_AUTH = 1; nothing can be sent while the key is unusable. -/
def svcSigned (s : State) (v : SvcSet) (kind seq : Nat) (body : List Byte) : Option (List Byte) :=
  if v.auth then (svcKey s v.key).map fun k => svcPayload kind seq true body ++ svcMacOf k (svcPayload kind seq true body)
  else some (svcPayload kind seq false body)

/-- A frame to an address, its checksums inserted. -/
def svcFrame (s : State) (v : SvcSet) (mac : List Byte) (ttl ip port : Nat) (payload : List Byte) : List Byte :=
  let f := mac ++ svcMac s ++ beBytes 2 0x0800 ++ udpV4 v.ip ip ttl 0 v.port port payload
  (insertCsum f).getD f

/-- R212: SP sends a frame, filled to its minimum, and counts it with its FCS. -/
def spSend (s : State) (f : List Byte) : State :=
  send (add64 (add64 s (ethR 24 0x110) 1) (ethR 24 0x118) (max 60 f.length + 4)) (.service f)

/-- A datagram sent to MAC address, IPv4 address and port. No rule gives its time to live: a free value (log 2). -/
def svcSend (s : State) (v : SvcSet) (mac : List Byte) (dst : Nat × Nat) (kind seq : Nat) (body : List Byte) : State :=
  match svcSigned s v kind seq body with
  | some p => spSend (fresh s).2 (svcFrame s v mac ((fresh s).1 % 256) dst.1 dst.2 p)
  | none => s

/-- R471: a response too long for SP is sent as KIND 5 with its header only. 12 bytes of payload header, 28 of IP and UDP, 14 of
Ethernet, the FCS, and the trailer. In rescue no image has given MAX_LEN (log 36). -/
def svcTooLong (s : State) (v : SvcSet) (resp : List Byte) : Bool :=
  !s.boot.rescue && decide (resp.length + 58 + (if v.auth then 16 else 0) > getF s (ethR 24 0x10) 13 0)

/-- A response sent to an address; `kind` is 1, or 4 in rescue. -/
def svcAnswerTo (s : State) (v : SvcSet) (mac : List Byte) (dst : Nat × Nat) (kind : Nat) (resp : List Byte) : State :=
  if svcTooLong s v resp then svcSend s v mac dst 5 s.upd.clientSeq (resp.take 16)
  else svcSend s v mac dst kind s.upd.clientSeq resp

/-- A response sent to the client. -/
def svcAnswer (s : State) (v : SvcSet) (kind : Nat) (resp : List Byte) : State :=
  match s.upd.client with
  | some c => svcAnswerTo s v s.upd.peerMac c kind resp
  | none => s

/-- The response to the client's request is stored and sent, under the settings its request came with (R485). -/
def svcRespond (s : State) (kind : Nat) (resp : List Byte) : State :=
  svcAnswer { s with upd := { s.upd with resp := some resp } } s.upd.cSvc kind resp

end Sys2Proof.Machine
end

