-- ==== Sys2Proof/Machine/Mailbox.lean ====
section
/-!
DEFINITION. Sys2Proof/Machine/Mailbox.lean: the ten mailboxes, the envelope of a request, attachment and hostless operation, and the SYS
commands (R352 to R370). Scripts run in Machine/Script.lean.
-/
namespace Sys2Proof.Machine

/-! ### Requests (R353, R357) -/

/-- Bytes of the request area, from page offset `a`. -/
def areaBytes (s : State) (m a n : Nat) : List Byte :=
  slice ((List.range ((n + a % 4 + 3) / 4)).flatMap fun k => leBytes 4 (rd s (mbxR m (a / 4 * 4 + 4 * k))).toNat) (a % 4) n

/-- A request as a command sees it. `sync`: it runs in a script or from a record, and its response waits for nothing. -/
structure Req where
  m     : Nat
  code  : Nat
  tag   : Nat
  comp  : Nat
  flags : Nat
  len   : Nat
  res   : Nat
  f     : List Byte
  sync  : Bool
  deriving DecidableEq, Repr

def reqOf (m : Nat) (sync : Bool) (x : MbxReq) : Req :=
  { m := m, code := leAt x.hdr 0 2, tag := leAt x.hdr 2 2, comp := leAt x.hdr 4 1, flags := leAt x.hdr 5 1, len := leAt x.hdr 6 2
    res := leAt x.hdr 8 8, f := x.fields, sync := sync }

def Req.quiet (r : Req) : Bool := nbit r.flags 0

/-- Fields of a request: `n` little-endian bytes from position `a`. -/
def Req.at (r : Req) (a n : Nat) : Nat := leAt r.f a n

/-! ### Statuses (R359) and what a command answers -/

def eOk : Nat := 0
def eLength : Nat := 1
def eRange : Nat := 2
def eState : Nat := 3
def eComp : Nat := 4
def ePolicy : Nat := 5
def eCheck : Nat := 6
def eUnknown : Nat := 7
def eHeader : Nat := 8
def eTimeout : Nat := 9
def eAborted : Nat := 10

/-- The status of a command and its response fields; `wait`: the response is posted later. -/
structure Ans where
  status : Nat
  data   : List Byte
  wait   : Bool
  deriving DecidableEq, Repr

def answer (st : Nat) : Ans := { status := st, data := [], wait := false }
def answerOk (bs : List Byte) : Ans := { status := eOk, data := bs, wait := false }

/-- A command: checks 4 to 6 of R360 and its effect. -/
abbrev Command := State → Req → State × Ans

/-- R360: checks 4 and 5, then the command's own. -/
def checked (comps : Bool) (len : Bool) (s : State) (body : State × Ans) : State × Ans :=
  if !comps then (s, answer eComp) else if !len then (s, answer eLength) else body

/-- A refusal by a command's own check: nothing else happens. -/
def refuse (s : State) (st : Nat) : State × Ans := (s, answer st)

/-- R455: a STANDBY unit answers E_STATE to a request that would change paired state, also where the command's card does not list it (DEDUCED,
log 42). -/
def budBars (s : State) : Bool := budMode s == 2 && s.bud.executing.isNone

/-- R378, R379, R381: the supervisor has written a register, for a command: its key is disarmed after the write. -/
def supWrote (s : State) : State := disarm s .supervisor

/-! ### Queues (R354, R355) -/

/-- Requests in flight. -/
def inFlight (x : MbxRt) : Nat := x.queue.length + bnat x.inSvc.isSome + x.posted.length

/-- Requests not yet taken. -/
def queued (x : MbxRt) : Nat := (x.queue.filter fun r => !r.expired).length

/-- R354: DOORBELL. -/
def doorbellOp (s : State) (m : Nat) : State :=
  let x := { mbxAt s m with lastBell := ltNs s }
  let s := setMbx s m x
  if inFlight x ≥ 8 then raise (incC s (mbxR m 0x1C)) (mbxR m 4) 1
  else
    let hdr := areaBytes s m 0x20 16
    let n := leAt hdr 6 2
    let r : MbxReq := { hdr := hdr, fields := if n ≤ 1968 then areaBytes s m 0x30 n else [], at_ := ltNs s, tmo := getF s (mbxR m 0x0C) 31 16
                        expired := false }
    setMbx s m { x with queue := x.queue ++ [r] }

/-- R376: pages 8 and 9 are reserved locations to the host. -/
def pageHidden (q : Requester) (m : Nat) : Bool := q == .host && decide (m ≥ 8)

def execDoorbell (q : Requester) (m : Mbx) (s : State) : Host.Outcome State Fault Refusal :=
  done (disarm (if pageHidden q m.val then reservedWrite s q (mbxR m 0) 1 else doorbellOp s m.val) q)

/-- R358: a response. -/
def respBytes (s : State) (r : Req) (a : Ans) : List Byte :=
  let data := if a.status = eOk then a.data else []
  leBytes 2 r.code ++ leBytes 2 r.tag ++ leBytes 2 a.status ++ leBytes 2 data.length ++ leBytes 8 (stampNow s) ++ data

/-- R355: a response posted: it enters the area when no other is there. Those of the service mailbox go to the service port handler, those
of the buddy mailbox to the partner, which take them at once. -/
def post (s : State) (m : Nat) (bs : List Byte) : State :=
  let s := incC s (mbxR m 0x10)
  if m = 8 then svcRespond (raise s (mbxR m 4) 0) 1 bs
  else if m = 9 then budRecord (raise s (mbxR m 4) 0) 9 (1 :: bs)
  else
    let x := mbxAt s m
    let s := if x.posted.isEmpty then raise s (mbxR m 4) 0 else s
    setMbx s m { x with posted := x.posted ++ [bs] }

/-- R362: expired requests at the head of a queue with none in service take their response places. -/
def flushExpired (m : Nat) : Nat → State → State
  | 0, s => s
  | n + 1, s =>
    let x := mbxAt s m
    match x.queue with
    | r :: rest =>
      if r.expired && x.inSvc.isNone then
        flushExpired m n (post (setMbx s m { x with queue := rest }) m (respBytes s (reqOf m false r) (answer eTimeout)))
      else s
    | [] => s

/-- R358, R366: the answer of the request in service: posted unless QUIET and OK, or discarded after a RESET. -/
def respond (s : State) (m : Nat) (r : Req) (a : Ans) : State :=
  let x := mbxAt s m
  let s := setMbx s m { x with inSvc := none, dropResp := false }
  let s := if x.dropResp || (r.quiet && a.status == eOk) then s else post s m (respBytes s r a)
  flushExpired m 8 s

/-- R355: RESP_ACK. -/
def ackOp (s : State) (m : Nat) : State :=
  let x := mbxAt s m
  match x.posted with
  | [] => s
  | _ :: rest =>
    let s := setMbx s m { x with posted := rest }
    if rest.isEmpty then s else raise s (mbxR m 4) 0

def execRespAck (q : Requester) (m : Mbx) (s : State) : Host.Outcome State Fault Refusal :=
  done (disarm (if pageHidden q m.val then reservedWrite s q (mbxR m 0) 2 else ackOp s m.val) q)

/-- R366: RESET. -/
def resetOp (s : State) (m : Nat) : State :=
  let x := mbxAt s m
  setMbx s m { x with queue := [], posted := [], dropResp := x.inSvc.isSome }

def execMbxReset (q : Requester) (m : Mbx) (s : State) : Host.Outcome State Fault Refusal :=
  done (disarm (if pageHidden q m.val then reservedWrite s q (mbxR m 0) 4 else resetOp s m.val) q)

def mbxClear (s : State) (m : Nat) : State := zeroAll s (wordsFrom (mbxR m 0x10) 4)

def execMbxCntClr (q : Requester) (m : Mbx) (s : State) : Host.Outcome State Fault Refusal :=
  done (disarm (if pageHidden q m.val then reservedWrite s q (mbxR m 0) 8 else mbxClear s m.val) q)

/-- R372: item 0xA0. -/
def mbxItem (s : State) (m : Nat) (r : Req) (st : Nat) : State :=
  evtItem s 0x3A000 0 0xA0 m (leBytes 2 r.code ++ leBytes 2 r.tag ++ [BitVec.ofNat 8 r.comp, BitVec.ofNat 8 st])

/-- R362: the take window of a request. -/
def takeOver (s : State) (r : MbxReq) : Bool := decide (r.at_ + r.tmo * 1000000 ≤ ltNs s)

/-- The first request of a queue that a test picks, marked expired. -/
def expireFirst (f : MbxReq → Bool) : List MbxReq → List MbxReq
  | [] => []
  | r :: rest => if f r then { r with expired := true } :: rest else r :: expireFirst f rest

/-- R362: one request whose take window has ended. -/
def expireOne (s : State) (m : Nat) : State :=
  let x := mbxAt s m
  match x.queue.find? fun r => !r.expired && takeOver s r with
  | none => s
  | some r =>
    let s := setMbx s m { x with queue := expireFirst (fun r => !r.expired && takeOver s r) x.queue }
    let s := mbxItem (raise (incC s (mbxR m 0x18)) (mbxR m 4) 2) m (reqOf m false r) eTimeout
    flushExpired m 8 s

def execRequestTakeTimeout (m : Mbx) (s : State) : Host.Outcome State Fault Refusal := done (expireOne s m.val)

/-! ### Taking a request (R356, R360) -/


/-- Popezal takes requests: MAILBOX set, no START script running, no handover (R364), not after a commit to STANDBY or SLEEP (R443). -/
def serving (s : State) : Bool :=
  ready s 9 && !mbxPaused s && decide (powerState s < 2) && (match s.script with
    | some x => x.hostless
    | none => true)

def inService (s : State) : Nat := (s.mbx.filter fun e => e.2.inSvc.isSome).length

/-- The request at the head of mailbox `m`'s queue, with none in service. -/
def headReq (s : State) (m : Nat) : Option MbxReq :=
  if (mbxAt s m).inSvc.isNone then (mbxAt s m).queue.head?.filter fun r => !r.expired && !takeOver s r else none

/-- R356: how many mailboxes with a request for Popezal come before `m`, in turn. -/
def aheadOf (s : State) (m : Nat) : Nat :=
  ((List.range 10).filter fun k => decide ((k + 10 - s.boot.turn) % 10 < (m + 10 - s.boot.turn) % 10) && (headReq s k).isSome).length

/-- R356: the request that mailbox `m` may have executed now: with those of the mailboxes that come before it in turn, which are taken first, and those
in service, it is one of at most four. -/
def takeable (s : State) (m : Nat) : Option MbxReq :=
  if serving s && decide (inService s + aheadOf s m < 4) then headReq s m else none

/-- The request `x` of mailbox `m` taken. The turn goes on behind `m` where no mailbox before it still has a request. -/
def take (s : State) (m : Nat) (x : MbxReq) : State :=
  let t := if aheadOf s m = 0 then (m + 1) % 10 else s.boot.turn
  setMbx { s with boot := { s.boot with turn := t } } m { mbxAt s m with queue := (mbxAt s m).queue.drop 1, inSvc := some x }

/-- R360: checks 1 and 2; 0 where both pass. -/
def envelope (s : State) (m : Nat) (r : Req) : Nat :=
  if r.flags ≥ 2 || r.res != 0 || r.len > 1968 then eHeader
  else if !compExists s r.comp || (mbxOwner s m != 0 && r.comp != mbxOwner s m) then eComp
  else eOk

/-- A request refused by the envelope. -/
def envRefused (s : State) (m : Nat) (r : Req) (st : Nat) : State :=
  respond (mbxItem (incC s (mbxR m 0x14)) m r st) m r (answer st)

/-- R452, R455: the codes whose requests change paired state. SW_TABLE_OP does for the paired tables alone; the commit of PWR_SET_STATE has a record of
its own (R496, row 18). -/
def pairedTable (code : Nat) : Bool := decide (code ≤ 13) || code == tSlt

def pairedReq (r : Req) : Bool :=
  [0x0201, 0x0202, 0x0203, 0x0206, 0x0207, 0x0208, 0x0209, 0x0301, 0x0303, 0x0304, 0x0305, 0x0306, 0x0307, 0x0702, 0x0703, 0x0704].contains r.code
    || (r.code == 0x0406 && pairedTable (r.at 0 1))

/-- R361, R455: an ACTIVE unit forwards a request that changes paired state and that the command accepts. -/
def forward (s : State) (m : Nat) (x : MbxReq) (r : Req) (cmd : Command) : State :=
  if pairedReq r && (cmd s r).2.status == eOk then budInput s 4 (2 :: BitVec.ofNat 8 m :: (x.hdr ++ x.fields)) else s

/-- A taken request executed and answered; a response that waits leaves it in service. -/
def serve (s : State) (m : Nat) (x : MbxReq) (cmd : Command) : State :=
  let r := reqOf m false x
  let st := envelope s m r
  if st ≠ eOk then envRefused s m r st
  else
    let a := cmd (forward s m x r cmd) r
    if a.2.wait then a.1 else respond a.1 m r a.2

/-- R400: the commands that read or write the boot flash, UPD_BEGIN to UPD_ABORT, wait for it. -/
def flashHolds (s : State) (code : Nat) : Bool := flashWaits s && decide (0x0902 ≤ code) && decide (code ≤ 0x0907)

/-- R356: the head request of mailbox `m` taken, when its CODE is the row's. -/
def cmdRow (s : State) (m code : Nat) (cmd : Command) : State :=
  match takeable s m with
  | none => s
  | some x => if leAt x.hdr 0 2 = code && !flashHolds s code then serve (take s m x) m x cmd else s

/-- R373: the codes of the manual. -/
def cmdCodes : List Nat :=
  [0x0101, 0x0102, 0x0103, 0x0104, 0x0201, 0x0202, 0x0203, 0x0204, 0x0205, 0x0206, 0x0207, 0x0208, 0x0209, 0x0301, 0x0302, 0x0303, 0x0304,
   0x0305, 0x0306, 0x0307, 0x0308, 0x0401, 0x0402, 0x0403, 0x0404, 0x0405, 0x0406, 0x0407, 0x0501, 0x0502, 0x0503, 0x0504, 0x0601, 0x0602,
   0x0603, 0x0604, 0x0605, 0x0701, 0x0702, 0x0703, 0x0704, 0x0705, 0x0706, 0x0801, 0x0802, 0x0803, 0x0804, 0x0805, 0x0901, 0x0902, 0x0903,
   0x0904, 0x0905, 0x0906, 0x0907, 0x0908, 0x0909, 0x0A01, 0x0A02, 0x0A03, 0x0A04]

/-- R360: check 3: a CODE that the manual defines nowhere. -/
def unknownRow (s : State) (m : Nat) : State :=
  match takeable s m with
  | none => s
  | some x =>
    let r := reqOf m false x
    if cmdCodes.contains r.code then s
    else
      let s := take s m x
      envRefused s m r (if envelope s m r = eOk then eUnknown else envelope s m r)

def execMbxUnknownCode (m : Mbx) (s : State) : Host.Outcome State Fault Refusal := done (unknownRow s m.val)

/-! ### Attachment (R367) and the start of scripts (R368) -/

def attached (s : State) (t : Nat) : Bool := decide (t < 8) && getB s 0x3A004 (8 + t)
def attachMask (s : State) : Nat := getF s 0x3A004 15 8
def hostlessBit (s : State) : Nat := getF s 0x3A004 0 0

/-- A script begins: 0 START, 1 HOSTLESS. -/
def scriptStart (s : State) (k : Nat) : State :=
  let es := (s.boot.scripts.getD k []).map fun e => ({ hdr := e.1, fields := e.2, at_ := 0, tmo := 0, expired := false } : MbxReq)
  { setB s 0x3A004 1 true with
      script := some { hostless := k == 1, next := 0, entries := es, lastCode := 0, lastStat := 0, stopReq := false } }

/-- R372: item 0xA2: a script has ended. -/
def scriptItem (s : State) (x : Script) (outcome : Nat) : State :=
  evtItem s 0x3A000 0 0xA2 (bnat x.hostless)
    ([BitVec.ofNat 8 outcome, 0] ++ leBytes 2 (x.next - 1) ++ leBytes 2 x.lastCode ++ leBytes 2 x.lastStat)

/-- Entry into HOSTLESS: Popezal takes the servo and starts the HOSTLESS script. One that an attach had stopped ends first. -/
def hostlessEntry (s : State) : State :=
  let s := match s.script with
    | some x => scriptItem s x 2
    | none => s
  scriptStart (supWrote (setB (setB s 0x3A004 0 true) 0x60008 2 false)) 1

/-- R372: item 0xA1. -/
def attachItem (s : State) (t ev w : Nat) : State :=
  evtItem s 0x3A000 0 0xA1 t ([BitVec.ofNat 8 ev, BitVec.ofNat 8 (hostlessBit s), BitVec.ofNat 8 (attachMask s), 0] ++ leBytes 4 w)

/-- Context `t` attached with watch period `w`: a HOSTLESS script stops after its current entry. -/
def attachOp (s : State) (t w : Nat) : State :=
  let s := setB (setB s 0x3A004 (8 + t) true) 0x3A004 0 false
  let s := { s with script := s.script.map fun x => { x with stopReq := x.stopReq || x.hostless } }
  attachItem (setMbx s t { mbxAt s t with attached := true, watch := w }) t 0 w

/-- Context `t` detached: `ev` 1 by command, 2 its watch period, 3 link loss or function level reset. -/
def detachOp (s : State) (t ev : Nat) : State :=
  if !attached s t then s
  else
    let w := (mbxAt s t).watch
    let s := setMbx (setB s 0x3A004 (8 + t) false) t { mbxAt s t with attached := false, watch := 0 }
    let last := attachMask s == 0
    let s := if last then setB s 0x3A004 0 true else s
    let s := attachItem s t ev w
    if last then hostlessEntry s else s

def detachAll (s : State) : State := (List.range 8).foldl (fun a t => detachOp a t 3) s

/-- R367: outside the window of the watch period. -/
def watchOver (s : State) (t : Nat) : Bool :=
  attached s t && (mbxAt s t).watch != 0 && decide ((mbxAt s t).lastBell + (mbxAt s t).watch * 1000000 ≤ ltNs s)

def execHostWatchExpiry (t : Fin 8) (s : State) : Host.Outcome State Fault Refusal :=
  done (if watchOver s t.val then detachOp s t.val 2 else s)

/-! ### SYS commands (R370) -/

def infoBytes (s : State) (m : Nat) : List Byte :=
  leBytes 4 (rd s 0).toNat ++ beBytes 3 s.boot.popVer ++ [0] ++ leBytes 4 s.boot.imageVer
    ++ u8s [compCount s, ownVeh s, m, 0] ++ leBytes 8 (unitId s)
    ++ u8s [timeMode s, powerState s, budMode s, s.upd.mode, getF s 0x10108 0 0, bnat (paged s), hostlessBit s, attachMask s]

def cmdGetInfo : Command := fun s r => checked true (r.len == 0) s (s, answerOk (infoBytes s r.m))

def modeAnswer (s : State) : Ans := answerOk (u8s [hostlessBit s, attachMask s, 0, 0])

def cmdHostAttach : Command := fun s r =>
  let w := r.at 0 4
  checked true (r.len == 4) s
    (if r.m ≥ 8 then refuse s eState
     else if !(w == 0 || (decide (100 ≤ w) && decide (w ≤ 60000))) then refuse s eRange
     else (attachOp s r.m w, modeAnswer (attachOp s r.m w)))

def cmdHostDetach : Command := fun s r =>
  checked true (r.len == 0) s
    (if r.m ≥ 8 || !attached s r.m then refuse s eState else (detachOp s r.m 1, modeAnswer (detachOp s r.m 1)))

def cmdNop : Command := fun s r => (s, answerOk r.f)

def execSysGetInfo (m : Mbx) (s : State) : Host.Outcome State Fault Refusal := done (cmdRow s m.val 0x0101 cmdGetInfo)
def execSysHostAttach (m : Mbx) (s : State) : Host.Outcome State Fault Refusal := done (cmdRow s m.val 0x0102 cmdHostAttach)
def execSysHostDetach (m : Mbx) (s : State) : Host.Outcome State Fault Refusal := done (cmdRow s m.val 0x0103 cmdHostDetach)
def execSysNop (m : Mbx) (s : State) : Host.Outcome State Fault Refusal := done (cmdRow s m.val 0x0104 cmdNop)

/-! ### Restart of Popezal (R365) -/

/-- Every request in service answered with E_ABORTED; how many comes with the state. -/
def abortOne (x : State × Nat) (m : Nat) : State × Nat :=
  match (mbxAt x.1 m).inSvc with
  | none => x
  | some r =>
    let q := reqOf m false r
    (respond (mbxItem (raise x.1 (mbxR m 4) 3) m q eAborted) m q (answer eAborted), x.2 + 1)

def abortAll (s : State) : State × Nat :=
  let x := (List.range 10).foldl abortOne (s, 0)
  ({ x.1 with passes := x.1.passes.map fun p => { p with mbx := none } }, x.2)

end Sys2Proof.Machine
end

