-- ==== Sys2Proof/Machine/Reloc.lean ====
section
/-!
DEFINITION. Sys2Proof/Machine/Reloc.lean: relocations (R78, R79, R242, R258): an INSERT whose key needs one makes its moves step by step,
and READ and LOOKUP are served between them; how a page command ends (R257).
-/
namespace Sys2Proof.Machine

/-! ### How a page command ends -/

def pagePut (s : State) (c : Nat) (bs : List Byte) : State :=
  (List.range 64).foldl (fun a k => wr a (pageR c (0x100 + 4 * k)) (BitVec.ofNat 32 (leAt bs (4 * k) 4))) s

/-- R257: completion: BUSY cleared with STATUS and RESULT; the entry of a READ or LOOKUP. -/
def pageEnd (s : State) (c : Nat) (r : TblRes) : State :=
  let s := wr (setF (setB s (pageR c 8) 0 false) (pageR c 8) 11 8 r.status) (pageR c 0xC) (BitVec.ofNat 32 (r.result % 2 ^ 20))
  match r.entry with
  | some bs => pagePut s c (padTo 256 bs)
  | none => s

/-! ### The moves -/

/-- R78: the first half of a move: the occupant copied. -/
def relocCopy (s : State) (code : Nat) (m : Nat × Nat) : State :=
  if code = tXim then moveCopy s code m else eftCopy s (code - 0x10) m

/-- The second half: the old position invalidated, and the move counted. -/
def relocDrop (s : State) (code : Nat) (m : Nat × Nat) : State :=
  if code = tXim then incC (moveDrop s code m) 0xA8614 else eftDrop s (code - 0x10) m

/-- The new entry written into the way that the first move has freed, and the command of a page completed. -/
def relocEnd (s : State) (r : Reloc) : State :=
  if r.page = 26 then learnAt s (r.code - 0x10) r.slot r.entry
  else
    let s := if r.code = tXim then keyPut s tXim r.slot r.entry else shadowPut s r.code r.slot r.entry
    if r.page < 16 then pageEnd s r.page (tblStat 0 r.slot) else s

/-- A relocation for a mailbox that has ended and waits for its answer. -/
def Reloc.ended (r : Reloc) : Bool := r.moves.isEmpty && r.copied

/-- The next half of a move, with what is left of the relocation; that of a mailbox is kept for its answer. -/
def relocHalf (s : State) (r : Reloc) : State × Option Reloc :=
  match r.moves with
  | [] =>
    if r.copied then (s, some r)
    else (relocEnd s r, if 16 ≤ r.page ∧ r.page < 26 then some { r with copied := true } else none)
  | m :: ms =>
    if r.copied then (relocDrop s r.code m, some { r with moves := ms, copied := false })
    else (relocCopy s r.code m, some { r with copied := true })

/-- At most `n` halves. -/
def relocRun : Nat → State → Reloc → State
  | 0, s, _ => s
  | n + 1, s, r =>
    match relocHalf s r with
    | (s, none) => s
    | (s, some r) => relocRun n s r

/-- R258: the relocation in table `code`, if one is in hand, ends before the table's next command. -/
def relocFinish (s : State) (code : Nat) : State :=
  match s.relocs.find? fun r => r.code == code && !r.ended with
  | some r =>
    let s := relocRun (2 * r.moves.length + 1) { s with relocs := s.relocs.filter fun x => x.code != code || x.ended } r
    if 16 ≤ r.page ∧ r.page < 26 then { s with relocs := s.relocs ++ [{ r with moves := [], copied := true }] } else s
  | none => s

/-- Each relocation in hand makes its next half move. -/
def relocNext (s : State) : State :=
  let x := s.relocs.foldl (fun a r => let h := relocHalf a.1 r; (h.1, a.2 ++ h.2.toList)) (s, [])
  { x.1 with relocs := x.2 }

/-- R79: where the occupant of a position that waits for its invalidation has gone. -/
def movedTo (s : State) (code i : Nat) : Option Nat :=
  s.relocs.findSome? fun r =>
    match r.moves with
    | m :: _ => if r.code = code ∧ r.copied = true ∧ m.1 = i then some m.2 else none
    | [] => none

/-! ### The other users of an EFT -/

def execLearnApply (pl : Plane) (s : State) : Host.Outcome State Fault Refusal :=
  done (learnApply (relocFinish s (tEft (planeNo pl))) (planeNo pl))

def execAgeingScan (pl : Plane) (s : State) : Host.Outcome State Fault Refusal :=
  done (ageScan (relocFinish s (tEft (planeNo pl))) (planeNo pl))

/-- R242, R246: the relocation that an INSERT of a page needs in the EFT of plane `pl`, where nothing refuses it. -/
def eftReloc (s : State) (c pl page : Nat) (data : List Byte) : Option Reloc :=
  let e := ePut (eftGiven s data) 0 0 0 1
  if eftBad s pl e || eftDenied s c e e || (hashFind s (tEft pl) eftKb (eftKb e)).isSome then none
  else (relocWay s (tEft pl) eftKb (eftKb e)).map fun path => relocOf (tEft pl) page path e

end Sys2Proof.Machine
end

