-- ==== Sys2Proof/Machine/Objects.lean ====
section
/-!
DEFINITION. Sys2Proof/Machine/Objects.lean: the table operations of chapter 3 (R77 to R82, R88, R92, R93) and the forerunner aperture (R97
to R100). `c` is the compartment of a request.
-/
namespace Sys2Proof.Machine

/-! ### MOT (R81, R88, R100) -/

/-- TBL_MOT_FORERUNNER: FR_EN of a channel. -/
def frEn (s : State) (n : Nat) : Bool := decide (n < 12) && getB s 0xA860C n
def frAny (s : State) : Bool := getF s 0xA860C 11 0 != 0

/-- R97, R100: a forerunner object. -/
def isFore (s : State) (o : Nat) : Bool :=
  (decide (o < 98304) && frEn s (o / 2048)) || (decide (98304 ≤ o) && decide (o < 99072) && frEn s ((o - 98304) / 64))

def sameArea (a b : BitVec 768) : Bool := moBase a == moBase b && moGr a == moGr b

/-- R100: the entry moves the payload area of a forerunner object: INVALID, whatever its VALID. -/
def foreMoved (s : State) (o : Nat) (e : BitVec 768) : Bool := isFore s o && !sameArea e (motAt s o)

/-- R81, R100: the INVALID causes of an entry written with VALID = 1. -/
def motBad (s : State) (c o : Nat) (e : BitVec 768) : Bool :=
  (if moTx e then decide (moFmt e > 2) else moFmt e == 0)
    || (moXl e && (decide (o > 32767) || moGr e != 9))
    || moGr e == 0 || decide (moGr e > 9) || (moGr e == 9 && !moXl e)
    || decide (moBase e + moGr e > 524288)
    || (frAny s && decide (moBase e < 25344) && !isFore s o)
    || (moSigr e && moSdpN e == 0) || decide (moSdp e + moSdpN e > 262144)
    || (moRoute e && moTx e)
    || !compExists s (moComp e) || (decide (o < 98304) && moComp e != chanOwner s (o / 2048))
    || (c != 0 && ((moNotify e && jnlOwner s (moJnl e) != moComp e) || (moHostrx e && ringOwner s (16 + moRing e) != moComp e)))

/-- R31: the entry names a route list or descriptors of another compartment than its own, or its object belongs to an identifier of another one;
C0 alone may write it. -/
def motCrosses (s : State) (o : Nat) (e : BitVec 768) : Bool :=
  let list := tGet s tRlt (moRlt e)
  (match if o < 98304 then none else ximFor s (o - 98304) with
    | some x => owned s (xiComp x) != owned s (moComp e)
    | none => false)
    || (moRoute e && list.getLsbD 0 && !ruleFor (moComp e) (eFld list 0 15 12))
    || (moSigr e && (List.range (moSdpN e)).any fun k =>
      let d := tGet s tSdp (moSdp e + k)
      eFld d 0 2 0 != 0 && !ruleFor (moComp e) (sdComp d))

def motWriteOp (s : State) (c o : Nat) (data : List Byte) : State × TblRes :=
  let e := entryIn tMot data
  let st := tblStatus (decide (o ≥ 131072)) ((moValid e && motBad s c o e) || foreMoved s o e)
    (eitherDenied s c (moComp e) (moComp (motAt s o)) || (c != 0 && moValid e && motCrosses s o e)) false false false
  if st ≠ 0 then (s, tblStat st o) else (objReplaced (keyPut s tMot o e) o, tblStat 0 o)

def motClearOp (s : State) (c o : Nat) : State × TblRes :=
  let e := motAt s o
  let st := tblStatus (decide (o ≥ 131072)) false (!mayAct c (owned s (moComp e))) false false false
  if st ≠ 0 then (s, tblStat st o) else (objReplaced (keyPut s tMot o (ePut e 0 0 0 0)) o, tblStat 0 o)

/-! ### State records (R67, R73, R92) -/

/-- The record as software reads it: the word that holds ATTEMPTS and the flags, and STAMP. -/
def stateBytes (s : State) (o : Nat) : List Byte := leBytes 4 (objAt s o).st.toNat ++ leBytes 4 (objAt s o).stamp.toNat

/-- What READ and CONSUME return: the record and the on-die payload area. -/
def stateEntry (s : State) (o : Nat) : List Byte := stateBytes s o ++ payRead s (areaAt (motAt s o)) (8 * moGr (motAt s o))

def motOwner (s : State) (o : Nat) : Nat := owned s (moComp (motAt s o))

def motStateReadOp (s : State) (c o : Nat) : State × TblRes :=
  let st := tblStatus (decide (o ≥ 131072)) false (!mayAct c (motOwner s o)) false false false
  if st ≠ 0 then (s, tblStat st o) else (s, tblEntry o (stateEntry s o))

/-- NEW, LOST, FAIL, AUTHFAIL and LOOPED cleared. -/
def consume (s : State) (o : Nat) : State := obPut (obPut s o 17 16 0) o 22 20 0

def motConsumeOp (s : State) (c o : Nat) : State × TblRes :=
  let st := tblStatus (decide (o ≥ 131072)) false (!mayAct c (motOwner s o)) false false false
  if st ≠ 0 then (s, tblStat st o) else (consume s o, tblEntry o (stateEntry s o))

/-- R92: the data of a SEND: its header and its data bytes, from the layout that READ returns. A SEND of a table command has no owner in the sense of
R90, not even through the mailbox that holds the lock (DESIGN CHOICE, log 42). -/
def motSendOp (s : State) (c o : Nat) (data : List Byte) : State × TblRes :=
  let e := motAt s o
  let len := leAt data 0 4 % 4096
  let bad := !moValid e || !moTx e || !sendLenOk e 64 len
  let st := tblStatus (decide (o ≥ 131072)) bad (!mayAct c (motOwner s o)) false false false
  if st ≠ 0 then (s, tblStat st o)
  else (sendObj s o (hdrOf (slice data 8 8)) (slice data (if moXl e then 16 else 8) len) noOwner, tblStat 0 o)

/-! ### XIM (R75 to R80) -/

def ximPut (s : State) (i : Nat) (e : BitVec 768) : State := keyPut s tXim i e

/-- R78: a place for a key: the moves of a relocation are made; none when there is no path. -/
def ximRoom (s : State) (key : List Byte) : State × Option Nat :=
  match hashFree s tXim key with
  | some i => (s, some i)
  | none =>
    match hashPath s tXim ximKb key with
    | some (p :: ps) =>
      ((pathMoves (p :: ps)).foldl (fun a m => incC (moveEntry a tXim m) 0xA8614) s, some p)
    | _ => (raise (incC s 0xA8618) 0xA8600 0, none)

/-- R80: the INVALID causes. -/
def ximBad (s : State) (e : BitVec 768) : Bool :=
  let o := 98304 + xiObj e
  decide (xiChan e > 47) || (ximFor s (xiObj e)).isSome || xiComp e != chanOwner s (xiChan e)
    || (moValid (motAt s o) && moComp (motAt s o) != xiComp e)

/-- R78, R80: INSERT; `table`: by the table interface, which may not name a reserved extended object (R100). The entry inserted is in use
whatever VALID the command gave (DEDUCED, log 15). -/
def ximInsertOp (s : State) (c : Nat) (data : List Byte) (table : Bool) : State × TblRes :=
  let e := ePut (entryIn tXim data) 0 0 0 1
  let found := (hashFind s tXim ximKb (ximKb e)).isSome
  let st := tblStatus false (ximBad s e || (table && frAny s && decide (xiObj e < 768))) (!mayAct c (owned s (xiComp e))) found false false
  if st ≠ 0 then (s, tblStat st 0)
  else
    match ximRoom s (ximKb e) with
    | (s, some i) => (ximPut s i e, tblStat 0 i)
    | (s, none) => (s, tblStat stFull 0)

/-- R78, R79: the relocation that an INSERT of a page needs, where nothing refuses it. -/
def ximReloc (s : State) (c page : Nat) (data : List Byte) : Option Reloc :=
  let e := ePut (entryIn tXim data) 0 0 0 1
  let found := (hashFind s tXim ximKb (ximKb e)).isSome
  let st := tblStatus false (ximBad s e || (frAny s && decide (xiObj e < 768))) (!mayAct c (owned s (xiComp e))) found false false
  if st ≠ 0 then none
  else (relocWay s tXim ximKb (ximKb e)).map fun path => relocOf tXim page path e

/-- R80: where the key of a request stands. -/
def ximAt (s : State) (data : List Byte) : Option Nat :=
  let e := entryIn tXim data
  if xiChan e > 47 then none else hashFind s tXim ximKb (ximKb e)

/-- R80: DELETE zeroes the position (DESIGN CHOICE, log 42: the manual says no more than that the entry is removed). A request of the object stays pending
and competes once an entry names the object again (R93; DESIGN CHOICE, log 42). -/
def ximDeleteOp (s : State) (c : Nat) (data : List Byte) : State × TblRes :=
  match ximAt s data with
  | none => (s, tblStat stNotFound 0)
  | some i => if mayAct c (owned s (xiComp (tGet s tXim i))) then (ximPut s i 0, tblStat 0 i) else (s, tblStat stDenied 0)

def ximLookupOp (s : State) (c : Nat) (data : List Byte) : State × TblRes :=
  match ximAt s data with
  | none => (s, tblStat stNotFound 0)
  | some i => if mayAct c (owned s (xiComp (tGet s tXim i))) then (s, tblEntry i (eBytes 8 (tGet s tXim i))) else (s, tblStat stDenied 0)

/-! ### Transmit sets (R82) -/

def tstOwner (s : State) (i : Nat) : Nat := chanOwner s (i / 16)

def periodBad (trig period offset low : Nat) : Bool := trig == 1 && (decide (period < low) || decide (offset ≥ period))

def tstWriteOp (s : State) (c i : Nat) (data : List Byte) : State × TblRes :=
  let e := entryIn tTst data
  let st := tblStatus (decide (i ≥ 768)) (periodBad (tsTrig e) (tsPeriod e) (tsOffset e) 1) (!mayAct c (tstOwner s i)) false false false
  if st ≠ 0 then (s, tblStat st i) else (tSet s tTst i e, tblStat 0 i)

def tstClearOp (s : State) (c i : Nat) : State × TblRes :=
  let st := tblStatus (decide (i ≥ 768)) false (!mayAct c (tstOwner s i)) false false false
  if st ≠ 0 then (s, tblStat st i) else (tSet s tTst i 0, tblStat 0 i)

def tstSendOp (s : State) (c i : Nat) : State × TblRes :=
  let st := tblStatus (decide (i ≥ 768)) (tsTrig (tGet s tTst i) == 0) (!mayAct c (tstOwner s i)) false false false
  if st ≠ 0 then (s, tblStat st i) else (tstFire s i, tblStat 0 i)

/-! ### The forerunner aperture (R97 to R99) -/

def apBase (n : Nat) : Nat := 0xF00000 + n * 0x10000

/-- The MOT object of an aperture object, and its offset in the channel's window. -/
def apObj (n : Nat) : ApObj → Nat
  | .base i => n * 2048 + i.toNat
  | .ext k => 98304 + n * 64 + k.val

def apOffset (n : Nat) : ApObj → Nat
  | .base i => apBase n + 0x8000 + 16 * i.toNat
  | .ext k => apBase n + 0x100 + 16 * k.val

/-- The identifier that an extended buffer holds. -/
def apIdent (s : State) (n : Nat) (k : Fin 64) : Nat := getF s (apOffset n (.ext k) + 4) 28 0

/-- R98: the mode word's code. -/
def apMode (v : Nat) : Nat := if v = 2 then 3 else if v = 3 then 4 else v

def apModeOp (s : State) (n : Nat) (data : Word) : State := if frEn s n then modeReqSet s n (apMode (fld data 1 0)) else s

/-- R98: the mode word as it reads. -/
def apModeWord (s : State) (n : Nat) : Word :=
  let m := modeCur s n
  let v := if m = 0 ∨ m = 7 then 0 else if m = 3 then 2 else if m = 4 then 3 else 1
  BitVec.ofNat 32 (v + 4 * bnat (decide (m = 6)) + 8 * bnat (integrating s n))

/-- R98: the error word. -/
def apErrWord (s : State) (n : Nat) : Word :=
  let o := canR n 0x28
  BitVec.ofNat 32 (getF s o 7 0 + 256 * min 255 (getF s o 16 8) + 2 ^ 16 * bnat (decide (getF s o 18 17 = 1))
    + 2 ^ 17 * bnat (decide (getF s o 18 17 = 2)) + 2 ^ 18 * bnat (getB s o 19))

/-- R98: a write of the status word. -/
def apStatusClear (s : State) (n : Nat) (data : Word) : State :=
  let s := clearBits s (canR n 4) (BitVec.ofNat 32 (4 * fld data 2 0))
  if data.getLsbD 4 then setChan s n { chan s n with apTxDone := false } else s

/-- R99: word 0 of an aperture object as it reads. -/
def apWord0 (s : State) (o : Nat) : Word :=
  let e := motAt s o
  BitVec.ofNat 32 (bnat (moValid e) + 2 * bnat (moTx e) + 4 * bnat (obBit s o 18) + 8 * bnat (obBit s o 16) + 16 * bnat (obBit s o 17)
    + 256 * (obLen s o % 16))

/-- R99: VALID, DIR and the classical FMT written into the MOT entry. -/
def apEntry (e : BitVec 768) (valid tx : Bool) : BitVec 768 :=
  ePut (ePut (ePut e 0 0 0 (bnat valid)) 0 1 1 (bnat tx)) 0 4 2 (if tx then 0 else 1)

/-- R99: VALID of an extended buffer, as it changes, inserts or deletes its key; whether VALID may be set comes with the state. -/
def apKey (s : State) (n : Nat) (ob : ApObj) (was valid : Bool) : State × Bool :=
  match ob with
  | .base _ => (s, true)
  | .ext k =>
    let x := n * 64 + k.val
    if valid && !was then
      let e := 1 + 2 * n + 256 * apIdent s n k + 2 ^ 40 * x + 2 ^ 56 * chanOwner s n
      let r := ximInsertOp (relocFinish s tXim) 0 (leBytes 8 e) false
      if r.2.status = 0 then (r.1, true) else (raise r.1 0xA8600 4, false)
    else if !valid && was then
      let s := relocFinish s tXim
      match (ximFor s x).bind fun e => hashFind s tXim ximKb (ximKb e) with
      | some i => (ximPut s i 0, true)
      | none => (s, true)
    else (s, true)

/-- R99: VALID and DIR of a word 0, with FMT for classical frames; an entry whose VALID and DIR do not change keeps its state record (DEDUCED,
log 28). -/
def apValidOp (s : State) (n : Nat) (ob : ApObj) (data : Word) : State :=
  let o := apObj n ob
  let e := motAt s o
  let k := apKey s n ob (moValid e) (data.getLsbD 0)
  let e' := apEntry e (data.getLsbD 0 && k.2) (data.getLsbD 1)
  let t := if e' = e then k.1 else keyPut k.1 tMot o e'
  if data.getLsbD 0 = moValid e && data.getLsbD 1 = moTx e then t else objReplaced t o

/-- R99: NEW and LOST written as 1 are cleared. -/
def apFlags (s : State) (o : Nat) (data : Word) : State :=
  let s := if data.getLsbD 3 then obPut s o 16 16 0 else s
  if data.getLsbD 4 then obPut s o 17 17 0 else s

/-- R99: TXREQ makes a SEND with the object's data and the DLC of the word. One that R92 would refuse (a receive object, a DLC above 8)
does nothing. -/
def apSend (s : State) (n : Nat) (ob : ApObj) (data : Word) : State :=
  let o := apObj n ob
  let e := motAt s o
  let len := fld data 11 8
  if moValid e && moTx e && sendLenOk e 64 len then sendObj s o noHdr (payRead s (areaAt e) len) noOwner else s

/-- R99: a write of word 0. -/
def apWord0Op (s : State) (n : Nat) (ob : ApObj) (data : Word) : State :=
  if !frEn s n then s
  else
    let s := apFlags (apValidOp s n ob data) (apObj n ob) data
    if data.getLsbD 2 then apSend s n ob data else s

/-- R99: a write of a data word; a pending payload is replaced. -/
def apDataOp (s : State) (n : Nat) (ob : ApObj) (hi : Bool) (data : Word) : State :=
  let o := apObj n ob
  if !frEn s n then s
  else
    let s := payWrite s (areaAt (motAt s o) + (if hi then 4 else 0)) (leBytes 4 data.toNat)
    if obBit s o 18 then request s o noOwner else s

/-- R99: a write of word 1 of an extended buffer. -/
def apIdentOp (s : State) (n : Nat) (k : Fin 64) (data : Word) : State :=
  if frEn s n && !moValid (motAt s (apObj n (.ext k))) then
    wr s (apOffset n (.ext k) + 4) (data &&& 0x1FFFFFFF)
  else s

def execApertureModeWrite (q : Requester) (n : Fin 12) (data : Word) (s : State) : Host.Outcome State Fault Refusal :=
  done (disarm (pairedWrite s q (apBase n.val) data fun a => apModeOp a n.val data) q)

def execApertureRecover (q : Requester) (n : Fin 12) (s : State) : Host.Outcome State Fault Refusal :=
  done (disarm (pairedWrite s q (apBase n.val + 16) 1 fun a => if frEn a n.val then startRecovery a n.val else a) q)

def execApertureTxreq (q : Requester) (n : Fin 12) (ob : ApObj) (data : Word) (s : State) : Host.Outcome State Fault Refusal :=
  done (disarm (pairedWrite s q (apOffset n.val ob) (putFld data 2 2 1) fun a => apWord0Op a n.val ob (putFld data 2 2 1)) q)

def execApertureValidWrite (q : Requester) (n : Fin 12) (ob : ApObj) (data : Word) (s : State) : Host.Outcome State Fault Refusal :=
  done (disarm (pairedWrite s q (apOffset n.val ob) (putFld data 2 2 0) fun a => apWord0Op a n.val ob (putFld data 2 2 0)) q)

def execApertureDataWrite (q : Requester) (n : Fin 12) (ob : ApObj) (hi : Bool) (data : Word) (s : State) :
    Host.Outcome State Fault Refusal :=
  done (disarm (pairedWrite s q (apOffset n.val ob + (if hi then 12 else 8)) data fun a => apDataOp a n.val ob hi data) q)

end Sys2Proof.Machine
end

