-- ==== Sys2Proof/Machine/MirrorRx.lean ====
section
/-!
DEFINITION. Sys2Proof/Machine/MirrorRx.lean: what arrives for SG (chapter 6): the checks of R190, subscriptions, remote writes at
their target, beacons, TRDP telegrams and message data.
-/
namespace Sys2Proof.Machine

/-! ### Frames for SG (R23, R452, R454) -/

def sgBundle (f : SgFrame) : Bool := etherType f.bytes == 0x88B5

/-- Where the telegram header stands: after the UDP header. -/
def trdpPos (f : List Byte) : Nat := l4Pos f + 8

def trdpMsg (f : List Byte) : Nat := beAt f (trdpPos f + 6) 2

def sgPr (f : SgFrame) : Bool := !sgBundle f && isTrdp f.bytes && trdpMsg f.bytes == 0x5072
def sgPd (f : SgFrame) : Bool := !sgBundle f && isTrdp f.bytes && trdpMsg f.bytes != 0x5072
def sgMd (f : SgFrame) : Bool := !sgBundle f && isUdpTo f.bytes 17225

/-- The payload of an SGRX record, and the frame it carries. -/
def sgRecBytes (f : SgFrame) : List Byte :=
  [BitVec.ofNat 8 (bnat f.auth + 2 * bnat f.chk), BitVec.ofNat 8 f.port, BitVec.ofNat 8 f.tc, BitVec.ofNat 8 f.comp] ++ beBytes 2 f.vid ++ beBytes 10 f.stamp ++ f.bytes

def sgRecOf (l : List Byte) : SgFrame :=
  { bytes := l.drop 16, auth := leAt l 0 1 % 2 == 1, chk := leAt l 0 1 / 2 % 2 == 1, port := leAt l 1 1, vid := beAt l 4 2, tc := leAt l 2 1, stamp := beAt l 6 10
    comp := leAt l 3 1, id := none, take := true, copy := false }

/-! ### Discards (R190, R194) -/

/-- A discard counted at `off`: item 0x43 for the first of its cause in each window of 100 ms. -/
def mirDiscard (s : State) (off veh stream comId : Nat) (f : List Byte) : State :=
  let s := raise (incC s (0x1A2000 + off)) 0x1A2000 4
  let t := SMap.get (fun _ => 0) s.mir.discard off
  if t ≠ 0 ∧ ltNs s < t - 1 + 100000000 then s
  else
    evtItem { s with mir := { s.mir with discard := SMap.set (fun _ => 0) s.mir.discard off (ltNs s + 1) } } 0x1A2008 3 0x43 off
      ([BitVec.ofNat 8 veh, 0] ++ leBytes 2 stream ++ leBytes 4 comId ++ slice f 6 6)

/-- R169, R185: how an `n`-bit sequence number is judged: discarded, or accepted with or without a gap. -/
def trackJudge (n now seq : Nat) : Option Tracker → Option Bool
  | none => some false
  | some t =>
    if t.at_ + 1000000000 ≤ now then some false
    else if newer n seq t.seq then some (wrapDist n seq t.seq != 1)
    else none

/-! ### Bundles (R165 to R169) -/

structure Bundle where
  ver    : Nat
  kind   : Nat
  begin_ : Bool
  end_   : Bool
  veh    : Nat
  stream : Nat
  seq    : Nat
  topo   : Nat
  count  : Nat
  len    : Nat
  body   : List Byte
  whole  : Bool
  deriving DecidableEq, Repr

def bundleOf (f : List Byte) : Bundle :=
  let p := etPos f + 2
  let b := beAt f p 1
  let n := beAt f (p + 14) 2
  { ver := b / 16, kind := b % 16, begin_ := nbit (beAt f (p + 1) 1) 0, end_ := nbit (beAt f (p + 1) 1) 1, veh := beAt f (p + 2) 1 % 64
    stream := beAt f (p + 4) 2, seq := beAt f (p + 6) 2, topo := beAt f (p + 8) 4, count := beAt f (p + 12) 2, len := n
    body := slice f (p + 16) n, whole := decide (p + 16 + n ≤ f.length) }

/-- R496, row 10: a WITHDRAWN unit discards what arrives for SG as not ready. -/
def sgNotReady (s : State) (f : SgFrame) : State :=
  if sgBundle f then mirDiscard s 0x70 (bundleOf f.bytes).veh (bundleOf f.bytes).stream 0 f.bytes
  else mirDiscard s 0x70 0xFF 0 (beAt f.bytes (trdpPos f.bytes + 8) 4) f.bytes

/-- SG's next frame, of this kind, is handled by `op`: a STANDBY unit discards it, a WITHDRAWN one counts it too, an ACTIVE one
sends it as a record first. -/
def sgTake (s : State) (p : SgFrame → Bool) (op : State → SgFrame → State) : State :=
  let s := sgDrain s
  match (sgFront s).filter p with
  | none => s
  | some f =>
    let s := sgDrain (sgServe s f)
    if budMode s = 2 then s
    else if budMode s = 3 then sgNotReady s f
    else op (budInput s 3 (sgRecBytes f)) f

/-- R167: the frame of a FRAMES body. -/
def bodyFrame (b : List Byte) : CanFrame :=
  let i := beAt b 0 4
  let fl := beAt b 4 1
  { fmt := canFmtOf (i / 2 ^ 30), ide := nbit i 29, ident := BitVec.ofNat 29 i, rtr := false, brs := nbit fl 0, esi := nbit fl 1
    hdr := { sdt := b.getD 8 0, vcid := b.getD 9 0, sec := nbit fl 2, af := BitVec.ofNat 32 (beAt b 12 4) }
    data := slice b 16 (beAt b 6 2) }

/-- R165 to R167, R190: VERSION, KIND, COUNT and LENGTH, the body within the frame. -/
def bundleFormat (b : Bundle) : Bool :=
  b.ver == 1 && b.whole &&
    (if b.kind = 1 then
      b.count == 1 && decide (beAt b.body 6 2 ≤ 1468) && beAt b.body 0 4 / 2 ^ 30 != 3 && b.len == 16 + 4 * ceilDiv (beAt b.body 6 2) 4
    else if b.kind = 4 then b.count == 0 && b.len == 16
    else decide (b.kind < 4) && decide (b.count ≤ 92) && b.len == 16 * b.count)

def bundleSelf (s : State) (b : Bundle) : Bool := b.kind != 4 && b.veh == ownVeh s

/-- R188: two counters that are both non-zero and differ. -/
def topoDiffers (a b : Nat) : Bool := a != 0 && b != 0 && a != b

def topoChk (s : State) : Bool := frcB s 0x1A2008 1
def etbTopo (s : State) : Nat := (rd s 0x1A2014).toNat
def opTrnTopo (s : State) : Nat := (rd s 0x1A2018).toNat

def bundleTopo (s : State) (b : Bundle) : Bool := topoChk s && b.kind != 4 && topoDiffers b.topo (etbTopo s)

/-- The counter of the first of the format, self and topology checks that fails. -/
def bundleCheck (s : State) (b : Bundle) : Option Nat :=
  if !bundleFormat b then some 0x50 else if bundleSelf s b then some 0x6C else if bundleTopo s b then some 0x58 else none

/-- The subscription of a bundle: SIGNALS for KIND 0, FRAMES for KIND 1. -/
def bundleSub (s : State) (b : Bundle) : Option Nat :=
  ((tList s tSub).find? fun e => suValid e.2 && suVeh e.2 == b.veh && suStream e.2 == b.stream && suKind e.2 == b.kind).map fun e => e.1

/-- The reserved stream of a kind. -/
def kindStream (k : Nat) : Nat := 0xFFF0 + k - 2

/-! ### Remote writes (R180 to R182) -/

def records (n : Nat) (body : List Byte) : List (List Byte) := (List.range n).map fun i => slice body (16 * i) 16

/-- R181: the RRESULT bundle: a status for each record, in order. -/
def rwAnswer (s : State) (b : Bundle) (st : List Nat) : State :=
  let rs := (records b.count b.body).zip st
  let seq := SMap.get (fun _ => 0) s.mir.seqRr b.veh
  let body := rs.flatMap fun r => beBytes 4 (beAt r.1 0 4) ++ slice r.1 4 3 ++ [BitVec.ofNat 8 r.2] ++ List.replicate 8 0
  let r := bundleSend s 0 (frcF s 0x1A200C 17 16) b.veh 3 0 0xFFF1 seq b.count body
  if r.2 then { r.1 with mir := { r.1.mir with seqRr := SMap.set (fun _ => 0) r.1.mir.seqRr b.veh ((seq + 1) % 2 ^ 16) } } else r.1

/-- R181: one record at the target, judged in the order of the table: suppression before refusal. -/
def rwApply (s : State) (r : List Byte) : State × Nat :=
  let g := beAt r 0 4 % 2 ^ 25
  let h := gSeg g - 56
  if segMode s g ≠ 0 then (incC s 0x1A003C, 1)
  else if gVeh g ≠ ownVeh s ∨ gSeg g < 56 ∨ gSeg g > 59 ∨ !nbit (frcF s 0x1A200C 26 23) h then (s, 2)
  else ((hostWriteLocal s { g := g, value := BitVec.ofNat 64 (beAt r 8 8) }).1, 0)

def rwApplyAll : State → List (List Byte) → State × List Nat
  | s, [] => (s, [])
  | s, r :: rs =>
    let x := rwApply s r
    let y := rwApplyAll x.1 rs
    (y.1, x.2 :: y.2)

/-- R175, R181: an accepted RWRITE bundle: refused whole by its pool, or applied and answered. -/
def rwReceive (s : State) (b : Bundle) : State :=
  let p := 8 + frcF s 0x1A200C 17 16
  if poolFits s p b.len then
    let c := s.copyNext
    let x := rwApplyAll (poolTake s p b.len 2 0xFFFFFFFF) (records b.count b.body)
    rwAnswer (copyDone x.1 c) b x.2
  else poolRefuse s p 2 0xFFFFFFFF

/-- R182: one result. -/
def rwResult (s : State) (veh : Nat) (r : List Byte) : State :=
  let hit (w : RWrite) : Bool := w.target == veh && w.gsid == beAt r 0 4 % 2 ^ 25 && w.tag == beAt r 4 2 && w.orig == beAt r 6 1
    && decide (ltNs s < w.sent + frcF s 0x1A2008 31 16 * 1000000)
  match s.mir.rw.find? hit with
  | none => incC s 0x1A2094
  | some w =>
    let s := { s with mir := { s.mir with rw := s.mir.rw.erase w } }
    if beAt r 7 1 = 0 then incC s 0x1A208C else rwFail s w (beAt r 7 1)

/-! ### Beacons (R189) -/

def vehRt (s : State) (v : Nat) : VehRt := SMap.get (fun _ => VehRt.init) s.mir.veh v
def setVeh (s : State) (v : Nat) (x : VehRt) : State :=
  { s with mir := { s.mir with veh := SMap.set (fun _ => VehRt.init) s.mir.veh v x } }

/-- Bit v of SIG_MIR_PRESENT and of SIG_MIR_DUP. -/
def presBit (s : State) (v : Nat) : Bool := getB s (0x1A2028 + 4 * (v / 32)) (v % 32)
def setPres (s : State) (v : Nat) (b : Bool) : State := setB s (0x1A2028 + 4 * (v / 32)) (v % 32) b
def dupBit (s : State) (v : Nat) : Bool := getB s (0x1A2030 + 4 * (v / 32)) (v % 32)
def setDup (s : State) (v : Nat) (b : Bool) : State := setB s (0x1A2030 + 4 * (v / 32)) (v % 32) b

/-- R194: item 0x41. -/
def vehItem (s : State) (v ev : Nat) : State :=
  let x := vehRt s v
  evtItem s 0x1A2008 3 0x41 v ([BitVec.ofNat 8 ev, 0, 0, 0] ++ leBytes 4 x.lastTopo ++ leBytes 8 x.unit.toNat)

/-- An accepted beacon. -/
def beaconReceive (s : State) (b : Bundle) : State :=
  let v := b.veh
  let uid := beAt b.body 0 8
  let s := incC s 0x1A209C
  if v = ownVeh s ∧ uid = unitId s then s
  else
    let old := (vehRt s v).topo
    let s := setVeh s v { vehRt s v with topo := some b.topo, unit := BitVec.ofNat 64 uid, lastTopo := b.topo }
    if v = ownVeh s then
      vehItem (raise (setDup (setVeh s v { vehRt s v with dup := ltNs s }) v true) 0x1A2000 0) v 2
    else if b.topo ≠ etbTopo s then (if old = some b.topo then s else vehItem s v 3)
    else
      let was := presBit s v
      let s := setPres (setVeh s v { vehRt s v with pres := ltNs s }) v true
      if was then s else vehItem (raise s 0x1A2000 1) v 0

/-- R189: the window that starts at `t` is over. -/
def beaconOver (s : State) (t : Nat) : Bool := decide (t + 3 * beaconMs s * 1000000 ≤ ltNs s)

def presenceEnd (s : State) (v : Nat) : State :=
  let s := if dupBit s v && beaconOver s (vehRt s v).dup then setDup s v false else s
  if presBit s v && beaconOver s (vehRt s v).pres then vehItem (raise (setPres s v false) 0x1A2000 1) v 1 else s

def execPresenceExpiry (v : BitVec 6) (s : State) : Host.Outcome State Fault Refusal := done (presenceEnd s v.toNat)

/-! ### Subscriptions (R174 to R179) -/

/-- An accepted SIGNALS bundle waits for the unpacker; refused whole by its pool, only its place waits (R176). -/
def signalsReceive (s : State) (i : Nat) (b : Bundle) (gap auth : Bool) : State :=
  let p := 8 + suClass (tGet s tSub i)
  if poolFits s p b.len then
    let c : BundleCar := { copy := s.copyNext, refused := false, sub := i, srcVeh := b.veh, auth := auth, gap := gap, begin_ := b.begin_
                           end_ := b.end_, recs := records b.count b.body }
    let s := poolTake s p b.len 2 0xFFFFFFFF
    { s with work2 := s.work2 ++ [.bundle c] }
  else
    let c : BundleCar := { copy := 0, refused := true, sub := i, srcVeh := b.veh, auth := auth, gap := gap, begin_ := b.begin_, end_ := b.end_
                           recs := [] }
    let s := poolRefuse s p 2 0xFFFFFFFF
    { s with work2 := s.work2 ++ [.bundle c] }

/-- R146, R175: one record, an execution of queue 2, which counts in SE_EXEC and not in the rate of index 48 (DESIGN CHOICE, log 42). A slot that has
become local has another writer (R18), and a segment of another compartment is reached by C0's subscriptions alone (R31): such a record is
dropped too. -/
def unpackRecord (b : BundleCar) (missed : Bool) (s : State) (r : List Byte) : State :=
  let e := tGet s tSub b.sub
  let g := beAt r 0 4 % 2 ^ 25
  let st := beAt r 4 1
  let s := add64 s 0x1A1100 1
  if gVeh g ≠ b.srcVeh ∨ gVeh g = ownVeh s ∨ gSeg g ≠ suSeg e ∨ gIdx g < suFirst e ∨ gIdx g > suLast e ∨ !nbit st 0
      ∨ !ruleReach (owned s (suComp e)) (segOwner s (suSeg e)) then incC s 0x1A2068
  else if nbit st 1 then staleSlot s g
  else (updateSlot s g (BitVec.ofNat 64 (beAt r 8 8)) (nbit st 2) missed (nbit st 3 && b.auth) true).1

/-- R176: a whole bundle. -/
def unpack (s : State) (b : BundleCar) : State :=
  let x := subRt s b.sub
  let x := if b.gap || b.refused then { x with missed := true, clean := false } else x
  if b.refused then setSub s b.sub x
  else
  let x := if b.begin_ then { x with clean := true } else x
  let s := b.recs.foldl (unpackRecord b x.missed) (setSub s b.sub x)
  let s := if b.end_ && x.clean then setSub s b.sub { subRt s b.sub with missed := false } else s
  copyDone s b.copy

/-- R147: queue 2 is served while no CAN carrier waits. -/
def unpackNext (s : State) : State :=
  match s.carriers, s.work2 with
  | [], .bundle b :: rest => unpack { s with work2 := rest } b
  | _, _ => s

def execSignalsBundleUnpack (s : State) : Host.Outcome State Fault Refusal := done (scanWaiting (unpackNext s))

/-- R177: the action on one slot of the range; whether it changed the slot. -/
def subSlot (act : Nat) (x : State × Nat) (g : Nat) : State × Nat :=
  let s := if act = 1 then staleSlot x.1 g else timeoutSubst x.1 g
  (s, x.2 + bnat ((slotAt s g).gen != (slotAt x.1 g).gen))

/-- R177: the window of a subscription is over. Slots of the own vehicle have another writer (R18), and an image that is not ready has none to act
on (log 42): the report alone is made. -/
def subAct (s : State) (i : Nat) : State :=
  let e := tGet s tSub i
  let act := if suKind e = 0 ∧ suVeh e ≠ ownVeh s ∧ imageReady s = true then suToact e else 0
  let gs := if act = 0 then [] else (List.range (suLast e + 1 - suFirst e)).map fun k => gsid (suVeh e) (suSeg e) (suFirst e + k)
  let x := gs.foldl (subSlot act) (setSub s i { subRt s i with acted := true }, 0)
  evtItem (raise (incC x.1 0x1A2084) 0x1A2000 2) 0x1A2008 3 0x42 i ([BitVec.ofNat 8 (suToact e), 0] ++ leBytes 2 x.2)

def subDue (s : State) (i : Nat) : Bool :=
  let e := tGet s tSub i
  suValid e && suTimeout e != 0 && !(subRt s i).acted
    && decide ((subRt s i).last + suTimeout e * 1000000 ≤ ltNs s)

def execSubTimeout (i : Fin 1024) (s : State) : Host.Outcome State Fault Refusal :=
  done (if subDue s i.val then pairedFire s 7 i.val (fun a => subAct a i.val) else s)

/-- R179: an encapsulated frame is routed as one that arrives through SG. -/
def framesReceive (s : State) (i : Nat) (b : Bundle) : State :=
  let e := tGet s tSub i
  let r := routeBy s (rltAt s (suRlt e)) { chan := none, cls := suClass e, obj := 0xFFFFFFFF, comp := owned s (suComp e) } (bodyFrame b.body)
  handAll r.1 r.2

/-! ### A bundle (R190) -/

def rxOk (s : State) : State := add64 s 0x1A2040 1

def gapCount (s : State) (gap : Bool) : State := if gap then incC s 0x1A2074 else s

/-- The sequence check of a subscription, and what an accepted bundle does. -/
def subBundle (s : State) (i : Nat) (b : Bundle) (fr : SgFrame) : State :=
  match trackJudge 16 (ltNs s) b.seq (subRt s i).tr with
  | none => mirDiscard s 0x60 b.veh b.stream 0 fr.bytes
  | some gap =>
    let s := gapCount (rxOk s) gap
    let s := setSub s i { subRt s i with tr := some { seq := b.seq, at_ := ltNs s }, last := ltNs s, acted := false }
    if b.kind = 0 then signalsReceive s i b gap fr.auth else framesReceive s i b

/-- The same of a reserved stream. -/
def reservedBundle (s : State) (b : Bundle) (fr : SgFrame) : State :=
  let k := 4 * b.veh + b.kind - 2
  match trackJudge 16 (ltNs s) b.seq (SMap.get (fun _ => none) s.mir.trk k) with
  | none => mirDiscard s 0x60 b.veh b.stream 0 fr.bytes
  | some gap =>
    let s := gapCount (rxOk s) gap
    let s := { s with mir := { s.mir with trk := SMap.set (fun _ => none) s.mir.trk k (some { seq := b.seq, at_ := ltNs s }) } }
    if b.kind = 2 then rwReceive s b
    else if b.kind = 3 then (records b.count b.body).foldl (fun a r => rwResult a b.veh r) s
    else beaconReceive s b

def bundleIn (s : State) (fr : SgFrame) : State :=
  let b := bundleOf fr.bytes
  let bad (a : State) (off : Nat) := mirDiscard a off b.veh b.stream 0 fr.bytes
  if !(getB s 0x1A2008 0 && imageReady s) then
    bad (if b.kind = 2 ∧ bundleCheck s b = none then rwAnswer s b (List.replicate b.count 3) else s) 0x70
  else
    match bundleCheck s b with
    | some off => bad s off
    | none =>
      if b.kind ≥ 2 then (if b.stream = kindStream b.kind then reservedBundle s b fr else bad s 0x5C)
      else
        match bundleSub s b with
        | none => bad s 0x5C
        | some i => if suMacsec (tGet s tSub i) && !fr.auth then bad s 0x64 else subBundle s i b fr

def execBundleReceived (s : State) : Host.Outcome State Fault Refusal := done (sgTake s sgBundle bundleIn)

/-! ### TRDP (R183 to R185, R188, R190); the header layout is IEC 61375-2-3's (PRESUMED, log 8) -/

def tdComId (f : List Byte) : Nat := beAt f (trdpPos f + 8) 4
def tdLen (f : List Byte) : Nat := beAt f (trdpPos f + 20) 4

/-- The bytes of the UDP payload. -/
def udpLen (f : List Byte) : Nat := min (beAt f (l4Pos f + 4) 2) (f.length - l4Pos f) - 8

/-- The FCS after `n` header bytes is right. -/
def trdpFcs (f : List Byte) (n : Nat) : Bool := decide (n + 4 ≤ udpLen f) && leAt f (trdpPos f + n) 4 == crc32 (slice f (trdpPos f) n)

def trdpReady (s : State) : Bool := frcB s 0x1A2008 2 && imageReady s

def trdpBad (s : State) (f : List Byte) (off : Nat) : State := mirDiscard s off 0xFF 0 (tdComId f) f

/-- The counter of the first of the checks before the match that fails. -/
def trdpCheck (s : State) (f : List Byte) : Option Nat :=
  if !trdpReady s then some 0x70
  else if !trdpFcs f 36 then some 0x54
  else if isFrag f || beAt f (trdpPos f + 4) 1 != 1 || !(trdpMsg f == 0x5064 || trdpMsg f == 0x5072) || decide (tdLen f > 1432)
      || decide (40 + tdLen f > udpLen f) then some 0x50
  else if topoChk s && trdpMsg f == 0x5064
      && (topoDiffers (beAt f (trdpPos f + 12) 4) (etbTopo s) || topoDiffers (beAt f (trdpPos f + 16) 4) (opTrnTopo s)) then some 0x58
  else none

/-- R185: the receive entry of a telegram: an exact source wins. -/
def trdpMatch (s : State) (f : List Byte) : Option Nat :=
  let ok (e : BitVec 768) : Bool := ttValid e && !ttSends e && ttComid e == tdComId f
    && (if ttIpB e = 0 then (frc s 0x1A201C).toNat else ttIpB e) == ipDst f
  let l := (tList s tTtt).filter fun e => ok e.2
  match l.find? fun e => ttIpA e.2 != 0 && ttIpA e.2 == ipSrc f with
  | some e => some e.1
  | none => (l.find? fun e => ttIpA e.2 == 0).map fun e => e.1

/-- R185: an accepted telegram's dataset queued for its descriptors. -/
def datasetIn (s : State) (i : Nat) (gap : Bool) (fr : SgFrame) : State :=
  let e := tGet s tTtt i
  let n := tdLen fr.bytes
  let p := 8 + ttClass e
  let s := if gap then setMissed s (ttDescs e) else s
  if !getB s 0x1A1008 0 then s
  else if poolFits s p n then
    let c : Carrier := { copy := s.copyNext, seg := ttSeg e, comp := owned s (ttComp e), data := slice fr.bytes (trdpPos fr.bytes + 40) n
                         auth := fr.auth, named := ttDescs e, descs := ttDescs e, held := [] }
    let s := poolTake s p n 2 0xFFFFFFFF
    { s with work2 := s.work2 ++ [.dataset c] }
  else setMissed (poolRefuse s p 2 0xFFFFFFFF) (ttDescs e)

def pdIn (s : State) (fr : SgFrame) : State :=
  let f := fr.bytes
  match trdpCheck s f with
  | some off => trdpBad s f off
  | none =>
    match trdpMatch s f with
    | none => trdpBad s f 0x5C
    | some i =>
      if ttMacsec (tGet s tTtt i) && !fr.auth then trdpBad s f 0x64
      else
        let seq := beAt f (trdpPos f) 4
        match trackJudge 32 (ltNs s) seq (tttRt s i).tr with
        | none => trdpBad s f 0x60
        | some gap =>
          let s := gapCount (rxOk s) gap
          datasetIn (setTtt s i { tttRt s i with tr := some { seq := seq, at_ := ltNs s } }) i gap fr

def execTrdpPdReceived (s : State) : Host.Outcome State Fault Refusal := done (sgTake s sgPd pdIn)

/-- R481: message data and Pr telegrams, which Popezal handles, wait while the handover lasts. The class of their pool is stated nowhere: they take
no entries (DESIGN CHOICE, log 36). -/
def sgWait (op : State → SgFrame → State) (s : State) (fr : SgFrame) : State :=
  if mbxPaused s then { s with mir := { s.mir with waiting := s.mir.waiting ++ [fr] } } else op s fr

/-- R183: a pull request: answered by the send entry of its comId. -/
def prIn (s : State) (fr : SgFrame) : State :=
  let f := fr.bytes
  match trdpCheck s f with
  | some off => trdpBad s f off
  | none =>
    match (tList s tTtt).find? fun e => ttValid e.2 && ttSends e.2 && ttComid e.2 == tdComId f with
    | none => trdpBad s f 0x5C
    | some e =>
      let rc := beAt f (trdpPos f + 28) 4
      let ip := beAt f (trdpPos f + 32) 4
      let leaves := sgLeaves s (ttBat e.2)
      let s := telegram (rxOk s) e.1 0x5070 (if rc = 0 then tdComId f else rc) (if ip = 0 then ipSrc f else ip)
      if leaves then incC s 0x1A2098 else s

def execTrdpPrReceived (s : State) : Host.Outcome State Fault Refusal := done (sgTake s sgPr (sgWait prIn))

/-- R183, R330: message data, delivered as a received frame. -/
def mdIn (s : State) (fr : SgFrame) : State :=
  let f := fr.bytes
  if !trdpReady s then trdpBad s f 0x70
  else if !trdpFcs f 112 then trdpBad s f 0x54
  else if !frcB s 0x1A200C 22 then trdpBad s f 0x5C
  else
    ringHand (rxOk s) (frcF s 0x1A200C 21 18)
      (rxOf 5 { newFrame f fr.port fr.stamp fr.chk with vid := fr.vid, tc := fr.tc })

def execTrdpMdReceived (s : State) : Host.Outcome State Fault Refusal := done (sgTake s sgMd (sgWait mdIn))

/-- R452: the frame of an SGRX record, executed by a STANDBY unit. -/
def sgRecIn (s : State) (fr : SgFrame) : State :=
  if sgBundle fr then bundleIn s fr
  else if sgPr fr then sgWait prIn s fr
  else if sgPd fr then pdIn s fr
  else if sgMd fr then sgWait mdIn s fr
  else s

/-- R481: what waited is handled in its order. -/
def sgResume (s : State) : State :=
  s.mir.waiting.foldl (fun a fr => if sgPr fr then prIn a fr else mdIn a fr) { s with mir := { s.mir with waiting := [] } }

end Sys2Proof.Machine
end

