-- ==== Sys2Proof/Machine/TimedEvents.lean ====
section
/-!
DEFINITION. Sys2Proof/Machine/TimedEvents.lean: the sixteen timed-event lines (R280 to R285): modes, windows, captures, control cycles.
-/
namespace Sys2Proof.Machine

def teEdge (s : State) (n : Nat) : Nat := getF s (teR n 0) 4 3
def tePol (s : State) (n : Nat) : Bool := getB s (teR n 0) 5
def tePinEn (s : State) (n : Nat) : Bool := getB s (teR n 0) 6
def teCycOnEdge (s : State) (n : Nat) : Bool := getB s (teR n 0) 7

/-! ### Modes (R280, R281) -/

/-- R281: leaving OFF for a mode is refused. -/
def teBad (s : State) (n mode : Nat) : Bool :=
  let p := tePeriod s n
  let w := teWidth s n
  decide (getF s (teR n 0x0C) 29 0 ≥ 1000000000)
    || ((mode == 1 || mode == 2) && teEdge s n == 0)
    || (mode == 3 && ((decide (1 ≤ p) && decide (p ≤ 19)) || (p != 0 && decide (w ≥ p))))
    || (mode == 2 && (decide (p < 20) || decide (w > p)))
    || (mode == 4 && (decide (p < 1000) || decide (w ≥ p)))

/-- A line that is OFF takes a mode: the first instant acted on is not earlier than LT; or the enable is refused. -/
def teEnable (s : State) (n mode : Nat) : State :=
  if mode = 0 then s
  else if teBad s n mode then raise s (teR n 0x18) 4
  else setTe (setF s (teR n 0) 2 0 mode) n { teAt s n with active := false, done := ltNsUp s }

def teDisable (s : State) (n : Nat) : State := setTe (setF s (teR n 0) 2 0 0) n { teAt s n with active := false, cand := none }

/-- A write of TEnn_CFG. Modes 5 to 7 are ignored; a change from one mode directly to another is ignored with CFG_REJECT. -/
def teCfgWrite (s : State) (q : Requester) (n : Nat) (data : Word) : State :=
  let old := teMode s n
  let new := if fld data 2 0 ≥ 5 then old else fld data 2 0
  let s := writeMasked s q (teR n 0) (putFld data 2 0 old) { rw := 0, rwd := 0xFFFF8, rwk := 0, w1c := 0, kwo := 0 } (old == 0)
    (some (teR n 0x18, 5)) 0
  if new = old then s
  else if old = 0 then teEnable s n new
  else if new = 0 then teDisable s n
  else raise s (teR n 0x18) 5

def execTeModeWrite (q : Requester) (l : Fin 16) (data : Word) (s : State) : Host.Outcome State Fault Refusal :=
  done (disarm (teCfgWrite s q l.val data) q)

/-! ### Control cycles (R284) -/

/-- Entry `i` of a table fires as kind `k` of R454 by `op`. -/
def fireAll (k : Nat) (op : State → Nat → State) (s : State) (is : List Nat) : State :=
  is.foldl (fun a i => pairedFire a k i fun b => op b i) s

/-- The entries of a table that a control-cycle start fires. -/
def onCycle (s : State) (code : Nat) (hit : BitVec 768 → Bool) : List Nat := ((tList s code).filter fun e => hit e.2).map fun e => e.1

def cycleStart (s : State) (n : Nat) : State :=
  let s := incC s (teR n 0x28)
  let s := if getB s (teR n 0) 13 then raise s (teR n 0x18) 3 else s
  let s := fireAll 0 tstFire s (onCycle s tTst fun e => tsTrig e == 2 && tsTe e == n)
  let s := fireAll 1 dstFire s (onCycle s tDst fun e => dsTrig e == 2 && dsTe e == n)
  let s := fireAll 2 pubFire s (onCycle s tPub fun e => puTrig e == 2 && puTe e == n)
  fireAll 3 tttFire s (onCycle s tTtt fun e => ttTrig e == 2 && ttTe e == n)

/-! ### Windows (R282) -/

/-- The line drives windows: PULSE or CYCLE. -/
def teDrives (s : State) (n : Nat) : Bool := teMode s n == 3 || teMode s n == 4

/-- The instant that is due: LT has reached it. -/
def teDue (s : State) (n : Nat) : Option Nat :=
  match teNext s n (teAt s n).done with
  | some t => if t ≤ ltNs s then some t else none
  | none => none

/-- R279: the lines work while the device is in ACTIVE or PARTIAL. -/
def teAwake (s : State) : Bool := decide (getF s 0x7000C 1 0 < 2)

def teStartOp (s : State) (n : Nat) : State :=
  if !teDrives s n || !teAwake s then s
  else
    match teDue s n with
    | none => s
    | some t =>
      let s := setTe s n { teAt s n with active := decide (ltNs s < t + teWidth s n), done := t + 1 }
      if teMode s n = 4 then cycleStart s n else s

def execTeWindowStart (l : Fin 16) (s : State) : Host.Outcome State Fault Refusal := done (teStartOp s l.val)

def teEndOp (s : State) (n : Nat) : State :=
  if (teAt s n).active && !teInside s n (ltNs s) then setTe s n { teAt s n with active := false } else s

def execTeWindowEnd (l : Fin 16) (s : State) : Host.Outcome State Fault Refusal := done (teEndOp s l.val)

/-- An instant lies in a window of a GATED line, among those acted on since the enable. -/
def teGate (s : State) (n t : Nat) : Bool :=
  let start := if tePeriod s n = 0 then teStart s n else t - (t - teStart s n) % tePeriod s n
  teInside s n t && decide ((teAt s n).done ≤ start)

/-- TEnn_STATUS ACTIVE. -/
def teActive (s : State) (n : Nat) : Bool := if teMode s n = 2 then teGate s n (ltNs s) else (teAt s n).active

/-- R280, R282, R460: the level that the line drives on its pin; none while the pin is an input or its gate is closed. -/
def tePin (s : State) (n : Nat) : Option Bool :=
  if teDrives s n && tePinEn s n && s.bud.gate then some ((teAt s n).active != tePol s n) else none

/-! ### Captures (R283) -/

def teCapture (s : State) (n : Nat) (rise : Bool) (t : Nat) : State :=
  let x := teAt s n
  let full := decide (x.fifo.length ≥ 8)
  let s := if full then raise (incC s (teR n 0x30)) (teR n 0x18) 1
    else raise (setTe s n { x with fifo := x.fifo ++ [(t, rise)] }) (teR n 0x18) 0
  let s := if getB s (teR n 0) 12 then
      jnlPut s (getF s (teR n 0) 19 14) 0x71 (t % 2 ^ 64) n
        (leBytes 6 (t / 1000000000) ++ [0, 0] ++ leBytes 4 (t % 1000000000) ++ [BitVec.ofNat 8 (bnat rise + 2 * bnat full)])
    else s
  if teMode s n = 1 && teCycOnEdge s n then cycleStart s n else s

/-- An accepted edge, whose first tick had the LT `t`. -/
def teAccept (s : State) (n : Nat) (rise : Bool) (t : Nat) : State :=
  if teMode s n = 1 then teCapture s n rise t
  else if teMode s n = 2 then (if teGate s n t then teCapture s n rise t else raise (incC s (teR n 0x2C)) (teR n 0x18) 2)
  else s

def teFilt (s : State) (n : Nat) : Nat := getF s (teR n 0) 11 8

/-- R283: an edge of the pin: it ends the wait of the edge before it, and one that EDGE selects is accepted at once with FILT = 0, else once it
has held its level for FILT ticks. -/
def teEdgeOp (s : State) (n : Nat) (rise : Bool) : State :=
  let x := teAt s n
  if !teAwake s || (teMode s n != 1 && teMode s n != 2) then s
  else if x.cand.any (fun c => c.1 == rise) then s
  else if !nbit (teEdge s n) (if rise then 0 else 1) then setTe s n { x with cand := none }
  else if teFilt s n = 0 then teAccept s n rise (ltNs s)
  else setTe s n { x with cand := some (rise, s.ticks, ltNs s) }

/-- The edge that waits has held its level for FILT ticks. -/
def teFilter (s : State) (n : Nat) : State :=
  match (teAt s n).cand with
  | some (rise, t, ns) => if t + teFilt s n ≤ s.ticks then teAccept (setTe s n { teAt s n with cand := none }) n rise ns else s
  | none => s

def execTeEdgeCapture (l : Fin 16) (rise : Bool) (s : State) : Host.Outcome State Fault Refusal := done (teEdgeOp s l.val rise)

/-- The word that a read of TEnn_CAP_NS returns. -/
def teCapWord (s : State) (n : Nat) : Word :=
  match (teAt s n).fifo with
  | [] => 0
  | c :: _ => BitVec.ofNat 32 (c.1 % 1000000000 + 2 ^ 30 * bnat c.2 + 2 ^ 31)

/-- That read pops the oldest stamp and latches its seconds. -/
def teCapPopOp (s : State) (n : Nat) : State :=
  match (teAt s n).fifo with
  | [] => s
  | c :: rest =>
    let sec := c.1 / 1000000000
    let s := setTe s n { teAt s n with fifo := rest, latch := sec }
    wr (wr s (teR n 0x20) (BitVec.ofNat 32 sec)) (teR n 0x24) (BitVec.ofNat 32 (sec / 2 ^ 32 % 2 ^ 16))

def execTeCapPop (q : Requester) (l : Fin 16) (s : State) : Host.Outcome State Fault Refusal :=
  done (send (teCapPopOp s l.val) (.completion q 0 (leBytes 4 (teCapWord s l.val).toNat)))

/-- R288: TIME_SET_TE: OFF, the FIFO discarded, the fields written, then the mode; whether the mode, a code of R280, was taken comes with
the state. -/
def teSetOp (s : State) (n : Nat) (ws : List Word) : State × Bool :=
  let w (k : Nat) : Word := ws.getD k 0
  let s := setTe (teDisable s n) n { teAt (teDisable s n) n with fifo := [] }
  let s := wr s (teR n 0) (takeBits (rd s (teR n 0)) (w 0) 0xFFFF8)
  let s := wr (wr s (teR n 4) (w 1)) (teR n 8) (w 2 &&& 0xFFFF)
  let s := wr (wr (wr s (teR n 0x0C) (w 3 &&& 0x3FFFFFFF)) (teR n 0x10) (w 4)) (teR n 0x14) (w 5)
  let mode := fld (w 0) 2 0
  let s := if mode > 4 then s else teEnable s n mode
  (s, teMode s n == mode)

end Sys2Proof.Machine
end

