-- ==== Sys2Proof/Machine/Read.lean ====
section
/-!
DEFINITION. Sys2Proof/Machine/Read.lean: what a read of BAR0 returns (R374 to R377): the register words that are kept as words, those
that follow from other state, the forerunner aperture, and the latches that a read fills.
-/
namespace Sys2Proof.Machine

/-! ### Words that follow from other state -/

/-- R386: where each block shows CFG_MISMATCH: the register, the bit, its _CFG_CRC. -/
def mismatchBits : List (Nat × Nat × Nat) :=
  [(0x10000, 7, 0x1001C), (0x20A00, 1, 0x20A08), (0x3A004, 2, 0x3A008), (0x41000, 3, 0x41010), (0x51000, 1, 0x51018), (0x60000, 8, 0x60040),
   (0x70000, 6, 0x70044), (0x80000, 6, 0x80020), (0x90000, 7, 0x9001C), (0x180004, 7, 0x180034), (0x182000, 5, 0x182014),
   (0x1A0000, 6, 0x1A0028), (0x1A1000, 6, 0x1A1010), (0x1A2000, 7, 0x1A2038)]

def crcMismatch (s : State) (c : Nat) : Bool :=
  match cfgBlocks.find? fun b => b.1 == c with
  | some b => mismatch s b
  | none => false

/-- CFG_MISMATCH added to the status word at `o`. -/
def withMismatch (s : State) (o : Nat) (w : Word) : Word :=
  match mismatchBits.find? fun e => e.1 == o with
  | some e => putFld w e.2.1 e.2.1 (bnat (crcMismatch s e.2.2))
  | none => w

/-- R391: DEV_UNLOCK and DEV_COMP_COUNT. -/
def devWord (s : State) (q : Requester) (o : Nat) : Word :=
  if o = 0x0C then BitVec.ofNat 32 (2 ^ 16 * bnat (armed s q))
  else if o = 0x1C then BitVec.ofNat 32 (compCount s + 256 * bnat (paged s))
  else rd s o

/-- R351: the interrupt controller. -/
def irqWord (s : State) (o : Nat) : Word :=
  if o < 0x20800 then irqCfgWord s ((o - 0x20000) / 4)
  else if o < 0x20840 then irqPendWord s ((o - 0x20800) / 4)
  else if 0x20880 ≤ o ∧ o < 0x208C0 then irqInsvcWord s ((o - 0x20880) / 4)
  else if 0x20900 ≤ o ∧ o < 0x20948 then (if o % 8 = 0 then BitVec.ofNat 32 (bestSrc s ((o - 0x20900) / 8)) else 0)
  else if o = 0x2F800 then BitVec.ofNat 32 s.irq.pba.toNat
  else rd s o

/-- R353: MBXmm_STATUS. -/
def mbxStatus (s : State) (m : Nat) : Word :=
  let x := mbxAt s m
  BitVec.ofNat 32 (getF s (mbxR m 4) 4 0 + 2 ^ 8 * inFlight x + 2 ^ 12 * queued x + 2 ^ 16 * bnat (!x.posted.isEmpty)
    + 2 ^ 17 * bnat x.inSvc.isSome + 2 ^ 18 * bnat (mbxPaused s))

/-- R353: a mailbox page. -/
def mbxWord (s : State) (m p : Nat) : Word :=
  if p = 4 then mbxStatus s m
  else if p = 0xC then mbxCfgWord s m
  else if p < 0x7E0 then (if p = 0 then 0 else rd s (mbxR m p))
  else BitVec.ofNat 32 (leAt ((mbxAt s m).posted.headD []) (p - 0x7E0) 4)

/-- The journal latch of a requester (R336). -/
def latchOf (x : Jnl) : Requester → List Word
  | .host => x.latchH
  | .supervisor => x.latchS
  | _ => []

/-- R350: a journal. -/
def jnlWord (s : State) (q : Requester) (j p : Nat) : Word :=
  if p = 0 then jnlCfgWord s j
  else if p = 4 then jnlCountWord s j
  else if p = 8 then popWord s j
  else if p < 0x28 then (latchOf (jnlAt s j) q).getD ((p - 0xC) / 4) 0
  else if p = 0x28 then jnlHeadWord s j
  else if p = 0x2C then 0
  else rd s (jnlR j p)

/-- Age of a domain's latest update in ms, at most 65,535; 65,535 where there has been none. -/
def tdAge (s : State) (d : Nat) : Nat :=
  match (tdAt s d).upd with
  | some t => min 65535 ((ltNs s - t) / 1000000)
  | none => 65535

/-- Seconds since HOLDOVER began. -/
def holdS (s : State) : Nat := if timeMode s = 3 then min 65535 ((ltNs s - s.time.holdAt) / 1000000000) else 0

/-- R286: the time unit. -/
def timeWord (s : State) (o : Nat) : Word :=
  if o = 0x6000C then putFld (rd s o) 31 16 (holdS s)
  else if o = 0x60018 then BitVec.ofNat 32 (incAvg s / 2 ^ 32)
  else if o = 0x6001C then BitVec.ofNat 32 (incAvg s % 2 ^ 32)
  else if o = 0x60020 then BitVec.ofNat 32 (ltSubNs s)
  else if o = 0x60060 ∨ o = 0x60080 then
    let d := (o - 0x60060) / 0x20
    BitVec.ofNat 32 (getF s o 0 0 + 2 * bnat (tracking s d) + 2 ^ 16 * tdAge s d)
  else if 0x62000 ≤ o then
    let n := (o - 0x62000) / 0x40
    let p := o % 0x40
    if p = 0x18 then BitVec.ofNat 32 (getF s o 5 0 + 2 ^ 8 * (teAt s n).fifo.length + 2 ^ 12 * bnat (teActive s n))
    else if p = 0x1C then teCapWord s n
    else if p = 0x20 then BitVec.ofNat 32 (teAt s n).latch
    else if p = 0x24 then BitVec.ofNat 32 ((teAt s n).latch / 2 ^ 32 % 2 ^ 16)
    else rd s o
  else rd s o

/-- R446: two bits of each of sixteen segments. -/
def segStateWord (s : State) (k : Nat) : Word :=
  BitVec.ofNat 32 (((List.range 16).map fun i => segCode s (16 * k + i) * 4 ^ i).foldl (· + ·) 0)

def lanWord (s : State) (o : Nat) : Word :=
  if 0x70010 ≤ o ∧ o < 0x7001C then BitVec.ofNat 32 (triVal s 1 ((o - 0x70010) / 4))
  else if 0x7001C ≤ o ∧ o < 0x70028 then segStateWord s ((o - 0x7001C) / 4)
  else if o = 0x70040 then BitVec.ofNat 32 s.lan.lnt
  else rd s o

def secWord (s : State) (o : Nat) : Word :=
  if o = 0x9000C then BitVec.ofNat 32 (triVal s 4 0)
  else if o = 0x90010 then putFld (putFld (rd s o) 3 3 (bnat s.otp.enrolled)) 26 16 (validSlots s)
  else if 0x91000 ≤ o ∧ o < 0x95000 then
    let c := (o - 0x91000) / 0x400
    let p := (o - 0x91000) % 0x400
    if !pageUsed s c then 0
    else if p = 0x24 then jobDoneWord s c
    else if p = 0x28 then BitVec.ofNat 32 (jobHeld s c + 2 ^ 5 * (jobPage s c).done.length + 2 ^ 10 * getF s o 10 10)
    else rd s o
  else rd s o

/-- R94: valid XIM entries. -/
def ximCount (s : State) : Nat := ((tList s tXim).filter fun e => xiValid e.2).length

def motWord (s : State) (o : Nat) : Word :=
  if o = 0xA8610 then BitVec.ofNat 32 (ximCount s)
  else if o < 0xA8600 ∧ o % 0x20 = 0x18 then lockWord s ((o - 0xA8000) / 0x20)
  else rd s o

/-- R62: a CAN channel. -/
def canWord (s : State) (o : Nat) : Word :=
  let n := (o - 0x100000) / 0x1000
  let p := o % 0x1000
  if p = 0 then putFld (rd s o) 13 13 (bnat (modeCur s n == 6 && (rd s o).getLsbD 13))
  else if p = 4 then putFld (rd s o) 10 10 (bnat (crcMismatch s (canR n 0x38)))
  else if p = 0xC then (canCfg s n).proto
  else if p = 0x30 then putFld (rd s o) 16 16 (bnat (stbAsserted s n))
  else rd s o

/-- R212: an Ethernet port. -/
def ethWord (s : State) (o : Nat) : Word :=
  let p := (o - 0x140000) / 0x1000
  let x := o % 0x1000
  if x = 4 then putFld (rd s o) 8 8 (bnat (crcMismatch s (ethR p 0x28)))
  else if x = 0xC then linkWord s p
  else if 0xA0 ≤ x ∧ x < 0xC0 then creditWord s p ((x - 0xA0) / 4)
  else rd s o

/-- R263: the registers of a plane: learned entries of its EFT. -/
def eftCount (s : State) (pl : Nat) : Nat := ((tList s (tEft pl)).filter fun e => eValid e.2).length

def fwdWord (s : State) (o : Nat) : Word :=
  if o = 0x182040 ∨ o = 0x182044 then BitVec.ofNat 32 (eftCount s ((o - 0x182040) / 4))
  else if 0x182100 ≤ o ∧ o < 0x182460 ∧ o % 0x20 = 4 then
    let q := (o - 0x182100) / 0x20
    if 8 ≤ q ∧ q < 24 then putFld (rd s o) 8 8 (bnat (authorised s q)) else rd s o
  else rd s o

/-- R129: sixteen segment modes of a vehicle. -/
def segModeWord (s : State) (k : Nat) : Word :=
  BitVec.ofNat 32 (((List.range 16).map fun i => SMap.get (fun _ => 0) s.smt (16 * k + i) * 4 ^ i).foldl (· + ·) 0)

def imgWord (s : State) (o : Nat) : Word :=
  if o = 0x1A0058 then BitVec.ofNat 32 (pinnedLines s)
  else if 0x1A0400 ≤ o then segModeWord s ((o - 0x1A0400) / 4)
  else rd s o

/-- R97 to R99: the forerunner aperture. -/
def apWord (s : State) (o : Nat) : Word :=
  let n := (o - 0xF00000) / 0x10000
  let p := o % 0x10000
  let f := o % 16
  if o = 0xFC0000 then 0x32120001
  else if !frEn s n then 0
  else if p = 0 then apModeWord s n
  else if p = 4 then rd s (canR n 0x10)
  else if p = 8 then apErrWord s n
  else if p = 0xC then BitVec.ofNat 32 (apStatus s n)
  else if p = 0x14 then BitVec.ofNat 32 (chan s n).apIrqEn
  else if (0x100 ≤ p ∧ p < 0x500) ∨ 0x8000 ≤ p then
    let obj := if p < 0x8000 then 98304 + n * 64 + (p - 0x100) / 16 else n * 2048 + (p - 0x8000) / 16
    if f = 0 then apWord0 s obj
    else if f = 4 then (if p < 0x8000 then BitVec.ofNat 32 (getF s o 28 0) else 0)
    else BitVec.ofNat 32 (leNat (payRead s (areaAt (motAt s obj) + f - 8) 4))
  else 0

/-- R397: a flash access is pending: the loader's, a helper-data read, an update being staged, the reload of a block or of Popezal. -/
def flashPending (s : State) : Bool :=
  decide (powerState s < 2) && (s.boot.stage == 2 || (decide (s.boot.stage ≥ 3) && !s.boot.todo.isEmpty && !s.boot.rescue)
    || (decide (s.boot.stage ≥ 2) && !s.boot.rescue && getF s 0x90010 1 0 == 0) || s.upd.mode == 1 || s.boot.blk.isSome || s.boot.supReset)

/-- R397, R410: CLK_GATE: which gates are open. -/
def clkGate (s : State) : Word :=
  let run := bnat (decide (powerState s < 2))
  let isl (g : Nat) : Nat := bnat ((List.range 8).any fun k => modeCur s (8 * g + k) != 0)
  let can := (List.range 6).foldl (fun a g => a + isl g * 2 ^ g) 0
  let flash := bnat (flashPending s)
  let sd := bnat ((List.range 24).any fun p => portEn s p)
  BitVec.ofNat 32 (run * 3 + 4 * bnat (can != 0) + 8 * bnat (portEn s 24) + 16 * flash + 32 * sd + 64 * can)

/-- R410: the clock registers. -/
def clkWord (s : State) (o : Nat) : Word :=
  if o = 0x10014 then clkGate s
  else if o = 0x1000C then putFld (rd s o) 12 12 (bnat (!s.clk.ramps.isEmpty))
  else rd s o

/-- R466: BUD_CLAIM and BUD_MODE. -/
def budWord (s : State) (o : Nat) : Word :=
  if o = 0x8000C then
    BitVec.ofNat 32 (claimCfg s + 2 ^ 8 * ownClaim s + 2 ^ 16 * partnerClaim s + 2 ^ 24 * bnat s.bud.pHeard + 2 ^ 25 * getF s o 25 25
      + 2 ^ 26 * bnat s.bud.override + 2 ^ 27 * bnat (holdsClaim s))
  else
    let pct := if s.bud.wantPages = 0 then 0 else s.bud.pages.length * 100 / s.bud.wantPages
    putFld (putFld (putFld (rd s o) 3 2 (partnerState s)) 6 6 (bnat s.bud.resync)) 13 7 (if s.bud.resync then pct else 0)

/-! ### A read -/

/-- The word at a BAR0 offset as requester `q` reads it, without what the read does. -/
def regWord (s : State) (q : Requester) (o : Nat) : Word :=
  let w :=
    if o < 0x1000 then devWord s q o
    else if 0x20000 ≤ o ∧ o < 0x30000 then irqWord s o
    else if 0x30000 ≤ o ∧ o < 0x3A000 then mbxWord s ((o - 0x30000) / 0x1000) (o % 0x1000)
    else if 0x40000 ≤ o ∧ o < 0x41000 then jnlWord s q ((o - 0x40000) / 0x40) (o % 0x40)
    else if 0x50000 ≤ o ∧ o < 0x51000 ∧ o % 0x20 = 0 then ringCfgWord s ((o - 0x50000) / 0x20)
    else if 0x60000 ≤ o ∧ o < 0x70000 then timeWord s o
    else if 0x70000 ≤ o ∧ o < 0x80000 then lanWord s o
    else if o = 0x8000C ∨ o = 0x80010 then budWord s o
    else if 0x10000 ≤ o ∧ o < 0x11000 then clkWord s o
    else if 0x90000 ≤ o ∧ o < 0xA0000 then secWord s o
    else if 0xA0000 ≤ o ∧ o < 0xB0000 then motWord s o
    else if 0xB0000 ≤ o ∧ o < 0xC0000 ∧ o % 0x1000 = 0 then 0
    else if 0x100000 ≤ o ∧ o < 0x140000 then canWord s o
    else if 0x140000 ≤ o ∧ o < 0x160000 then ethWord s o
    else if 0x182000 ≤ o ∧ o < 0x182460 ∧ swOnly o = false then fwdWord s o
    else if 0x1A0000 ≤ o ∧ o < 0x1A1000 then imgWord s o
    else if 0xF00000 ≤ o then apWord s o
    else rd s (regKey o)
  withMismatch s o w

/-- R377: the _LO words of the 64-bit counters. -/
def isLo (o : Nat) : Bool :=
  if 0x100000 ≤ o && o < 0x130000 then o % 0x1000 == 0x40 || o % 0x1000 == 0x48
  else if 0x140000 ≤ o && o < 0x159000 then [0x100, 0x108, 0x110, 0x118].contains (o % 0x1000)
  else if 0x181000 ≤ o && o < 0x182B00 && (o < 0x182000 || swOnly o) then o % 0x100 == 0x80 || o % 0x100 == 0x88
  else if 0x98000 ≤ o && o < 0x98800 then o % 0x100 == 0x10 || o % 0x100 == 0x28
  else [0x60100, 0x1A0048, 0x1A0050, 0x1A1100, 0x1A2040, 0x1A2048].contains o

def latchKey (q : Requester) (o : Nat) : Nat := reqNo q * 2 ^ 24 + o

/-- R377: a read of _LO copies _HI into the requester's latch. -/
def loLatch (s : State) (q : Requester) (o : Nat) : State :=
  { s with hiLatch := SMap.set (fun _ => (0 : Word)) s.hiLatch (latchKey q (o + 4)) (rd s (regKey (o + 4))) }

/-- R377: the latch that a read of _HI returns. -/
def hiWord (s : State) (q : Requester) (o : Nat) : Word := SMap.get (fun _ => (0 : Word)) s.hiLatch (latchKey q o)

/-- A read of a register without access RS: the word, and the latches it fills. -/
def readReg (s : State) (q : Requester) (o : Nat) : Word × State :=
  if isLo o then (regWord s q o, loLatch s q o)
  else if isLo (o - 4) then (hiWord s q o, s)
  else if o = 0x60020 then (regWord s q o, ltLatch s)
  else if 0x140000 ≤ o && o < 0x158000 && (o % 0x1000 == 0x18 || o % 0x1000 == 0x1C || o % 0x1000 == 0x20) then
    let s := eqLive s ((o - 0x140000) / 0x1000)
    (regWord s q o, s)
  else (regWord s q o, s)

/-- R376: whether a location is one that a read or a write finds, for this requester. -/
def locExists (s : State) (q : Requester) (o : Nat) : Bool :=
  if 0xF00000 ≤ o then decide (o < 0x1000000)
  else if q = .host ∧ ((0x38000 ≤ o ∧ o < 0x3A000) ∨ o = 0x20940 ∨ o = 0x20944) then false
  else if 0x91000 ≤ o ∧ o < 0x95000 ∧ !pageUsed s ((o - 0x91000) / 0x400) = true then false
  else (regMasks o).isSome

/-- R377: the row: a read of a _LO word. -/
def counterLoRead (s : State) (q : Requester) (o : Nat) : State :=
  if isLo o && locExists s q o then send (loLatch s q o) (.completion q 0 (leBytes 4 (rd s (regKey o)).toNat)) else s

def execCounterLoRead (q : Requester) (off : BitVec 24) (s : State) : Host.Outcome State Fault Refusal :=
  done (counterLoRead s q off.toNat)

/-- Words of consecutive registers, as bytes. -/
def regBytes (s : State) (os : List Nat) : List Byte := os.flatMap fun o => leBytes 4 (regWord s .supervisor o).toNat

end Sys2Proof.Machine
end

