-- ==== Sys2Proof/Machine/HostEvents.lean ====
section
/-!
DEFINITION. Sys2Proof/Machine/HostEvents.lean: what the PCI Express link and its pins do to the block: the function level reset, PERST and
loss of the link (R332, R366, R367, R507).
-/
namespace Sys2Proof.Machine

/-- R332: a ring disabled. -/
def ringOff (s : State) (r : Nat) : State := ringEn s r false

/-- R332: the locks of channel `n` that a transmit ring holds. They are paired state: an ACTIVE unit forwards the release, and those of a
STANDBY unit are its partner's. -/
def ringLockFree (s : State) (n : Nat) : State :=
  match (chan s n).lock with
  | some l =>
    if budMode s ≠ 2 ∧ 0x40 ≤ l.owner ∧ l.owner < 0x50 then
      lockDrop (budInput s 4 [5, BitVec.ofNat 8 l.owner, BitVec.ofNat 8 n]) n
    else s
  | none => s

/-- R332, R343: the claims of target `t` end as though completed. -/
def claimsEnd (s : State) (t : Nat) : State :=
  let held := (185 :: (List.range 512).filter fun n => n != 185).filter fun n => heldBy s t n
  { s with irq := held.foldl (fun q n => irqRelease q t n) s.irq }

/-- R332: the MSI-X state at reset: the table with every vector masked (PCI Express; PRESUMED, log 9), the PBA, enable and function mask. -/
def msixReset (s : State) : State :=
  let s := (wordsFrom 0x2F000 32).foldl (fun a o => wr a o (resetWord o)) s
  { s with irq := { s.irq with pba := 0 }, pcie := { s.pcie with msixEn := false, msixMask := false } }

/-- R332, R366, R367: a function level reset. -/
def functionReset (s : State) : State :=
  let s := (List.range 32).foldl ringOff s
  let s := (List.range 48).foldl ringLockFree s
  let s := (List.range 8).foldl claimsEnd s
  let s := disarm (msixReset s) .host
  detachAll ((List.range 8).foldl resetOp s)

def execFunctionLevelReset (s : State) : Host.Outcome State Fault Refusal := done (functionReset s)

/-- R424: Configuration Request Retry Status until DEVICE is applied, then answered fully. Bit 15 of Device Control makes a function level
reset (R320, R332). -/
def configRequest (s : State) (wrt : Bool) (off : Nat) (data : Word) : State :=
  if !configReady s then send s (.config none)
  else if wrt then
    let t := send (configWrite s off data) (.config (some 0))
    if 64 ≤ off && decide (off < 256) && data.getLsbD 15 && off / 4 == capExp + 2 then functionReset t else t
  else send s (.config (some (configWord s off)))

def execPcieConfigRequest (wrt : Bool) (off : BitVec 12) (data : Word) (s : State) : Host.Outcome State Fault Refusal :=
  done (configRequest s wrt off.toNat data)

/-- R507: PERST: the function and its configuration space are reset, the link is held in reset. In SLEEP the pin is ignored (R506);
its level holds the link from the wake on. -/
def perstLow (s : State) : State :=
  if inSleep s then { s with pcie := { s.pcie with perst := true } }
  else
    let s := functionReset s
    { s with pcie := { s.pcie with cfg := [], link := false, perst := true, aerUR := false, aerAdv := false, aerCA := false, header := [] } }

def execPciePerst (s : State) : Host.Outcome State Fault Refusal := done (perstLow s)

/-- R507, R414: PERST released: the link trains where the rails are up. -/
def perstHigh (s : State) : State := { s with pcie := { s.pcie with perst := false, link := ready s 1 && decide (powerState s < 2) } }

def execPciePerstRelease (s : State) : Host.Outcome State Fault Refusal := done (perstHigh s)

/-- R367: loss of the link detaches every context; in STANDBY they are detached at the return (R496, row 20). -/
def linkLost (s : State) : State :=
  let s := { s with pcie := { s.pcie with link := false } }
  if powerState s ≥ 2 then s else detachAll s

def execPcieLinkDown (s : State) : Host.Outcome State Fault Refusal := done (linkLost s)

end Sys2Proof.Machine
end

