-- ==== Sys2Proof/Machine/Can.lean ====
section
/-!
DEFINITION. Sys2Proof/Machine/Can.lean: the rows of a CAN channel (chapters 2 and 3): modes, frames, errors, attempts, locks, counters.
-/
namespace Sys2Proof.Machine

/-! ### What a channel of a pair does (R453, R454, R462) -/

/-- R461, R468: a difference from the frame of the TXCHOICE, which both units then diagnose; the partner's CRC reads 0. -/
def bitDiff (s : State) : State :=
  let s := diverge (incC s 0x80058) s.bud.digFirst (BitVec.ofNat 32 (crc32c s.bud.events)) 0
  budRecord s 9 (5 :: beBytes 4 s.bud.digFirst)

/-- An error type and a phase as records carry them. -/
def canErrOf : Nat → CanErr
  | 1 => .stuff
  | 2 => .form
  | 3 => .ack
  | 4 => .bitRecessive
  | 5 => .bitDominant
  | _ => .crc

def canPhaseOf (n : Nat) : CanPhase := if n = 0 then .nominal else if n = 1 then .fdData else .xlData

/-- The operands of an error as records carry them. -/
def errBytes (k : CanErr) (ph : CanPhase) (tx : Bool) (cnt : ErrCnt) (v : Option Nat) : List Byte :=
  u8s [lecCode k, phaseCode ph, bnat tx] ++ beBytes 2 cnt.tec.toNat ++ beBytes 1 cnt.rec'.toNat
    ++ beBytes 2 (match v with | some v => v + 1 | none => 0)

def errCntOf (x : List Byte) (p : Nat) : ErrCnt := { tec := BitVec.ofNat 9 (beAt x p 2), rec' := BitVec.ofNat 8 (beAt x (p + 2) 1) }

/-- R437: an error detected aborts a settle of the segment. -/
def errorStep (s : State) (n : Nat) (k : CanErr) (ph : CanPhase) (tx : Bool) (cnt : ErrCnt) (v : Option Nat) : State :=
  let s := canError s n k ph tx cnt v
  let s := if tx then setChoice s n none else s
  abortSeg s n n

/-- R43: the frame on the bus ends in the error of its measurement. -/
def tdcStep (s : State) (n : Nat) (cnt : ErrCnt) : State :=
  match (chan s n).bus with
  | some b => abortSeg (tdcError (setChoice s n none) n b.frame cnt) n n
  | none => s

/-- What the inputs of a channel other than frames do, by number, with their operands. -/
def canStep (s : State) (n k : Nat) (x : List Byte) : State :=
  match k with
  | 0 => errorStep s n (canErrOf (leAt x 0 1)) (canPhaseOf (leAt x 1 1)) (leAt x 2 1 == 1) (errCntOf x 3) (if beAt x 6 2 = 0 then none else some (beAt x 6 2 - 1))
  | 1 => protoSkip s n
  | 2 => abortSeg (protoForm s n (leAt x 0 1)) n n
  | 3 => incC s (canR n 0x68)
  | 4 => attemptFailed (setChoice (incC s (canR n 0x64)) n none) n .lost
  | 5 => tdcStep s n (errCntOf x 0)
  | 6 => integrated s n
  | 7 => enterMode s n
  | 8 => modeForced s n
  | 9 => recovered s n
  | 10 => stbWakeEnd s n
  | _ => lockTimeoutOp s n

/-- R453, R454: an input of a channel, whose protocol state is paired. An ACTIVE unit sends it as a record, and a STANDBY one takes it from there alone
(log 21). -/
def canInput (s : State) (n k : Nat) (x : List Byte) : State :=
  if budMode s = 2 then s else canStep (budInput s 4 ([7, BitVec.ofNat 8 n, BitVec.ofNat 8 k] ++ x)) n k x

/-! ### Modes (R52 to R61) -/

def execModeReqWrite (q : Requester) (n : Chan) (data : Word) (s : State) : Host.Outcome State Fault Refusal :=
  done (disarm (pairedWrite s q (canR n.val 0) data fun a => modeReqSet a n.val (fld data 2 0)) q)

def execModeChangeEffect (n : Chan) (s : State) : Host.Outcome State Fault Refusal :=
  done (if effectDue s n.val then canInput s n.val 7 [] else s)

def execModeChangeForced (n : Chan) (s : State) : Host.Outcome State Fault Refusal :=
  done (if forcedDue s n.val then canInput s n.val 8 [] else s)

def execIntegrationComplete (n : Chan) (s : State) : Host.Outcome State Fault Refusal := done (canInput s n.val 6 [])

def execStbWakeExpiry (n : Chan) (s : State) : Host.Outcome State Fault Refusal :=
  done (if stbWakeDue s n.val then canInput s n.val 10 [] else s)

def execRecover (q : Requester) (n : Chan) (s : State) : Host.Outcome State Fault Refusal :=
  done (disarm (pairedWrite s q (canR n.val 8) 1 fun a => startRecovery a n.val) q)

def execRecoveryComplete (n : Chan) (s : State) : Host.Outcome State Fault Refusal := done (canInput s n.val 9 [])

/-! ### Reception (R71, R73, R454, R461) -/

/-- R452: the payload of a CANRX record, with the counters as they stand in `s`. `kind`: 0 a frame received, 1 the unit's own in loopback, 2 its own
sent (log 21). -/
def canrxBytes (s : State) (n : Nat) (f : CanFrame) (kind look : Nat) : List Byte :=
  [BitVec.ofNat 8 n, BitVec.ofNat 8 kind] ++ beBytes 8 (stampNow s) ++ beBytes 2 (tecOf s n) ++ beBytes 1 (recOf s n)
    ++ beBytes 4 look ++ canFrameBytes f

/-- R454, R461: a STANDBY unit holds what it receives; the frame of its own candidate is compared instead. -/
def standbyReceive (s : State) (n : Nat) (f : CanFrame) : State :=
  match choiceOf s n with
  | some c =>
    if frameKey c = frameKey f then (if c = f then s else bitDiff s)
    else { s with bud := { s.bud with held := s.bud.held ++ [{ chan := n, frame := f, at_ := ltNs s }] } }
  | none => { s with bud := { s.bud with held := s.bud.held ++ [{ chan := n, frame := f, at_ := ltNs s }] } }

/-- R35: the data lengths of a CAN FD frame. -/
def fdLengths : List Nat := [0, 1, 2, 3, 4, 5, 6, 7, 8, 12, 16, 20, 24, 32, 48, 64]

/-- R35: a frame that can be valid on channel `n`, with its settings. -/
def frameLegal (s : State) (n : Nat) (f : CanFrame) : Bool :=
  match f.fmt with
  | .classical => decide (f.data.length ≤ 8) && !f.brs
  | .fd => fmtOn s n 1 && !f.rtr && fdLengths.contains f.data.length
  | .xl => fmtOn s n 2 && !f.rtr && !f.ide && !f.brs && decide (1 ≤ f.data.length) && decide (f.data.length ≤ 2048)

/-- R56: the frame reaches the channel's receiver: another node's from RXD, which LOOPBACK_INT ignores; its own in the loopback modes, as it stands on
the bus. -/
def frameReaches (s : State) (n : Nat) (f : CanFrame) (own : Bool) : Bool :=
  if own then (modeCur s n == 4 || modeCur s n == 5) && (match (chan s n).bus with
    | some b => decide (b.frame = f)
    | none => false)
  else modeCur s n != 4

/-- R20, R35, R56: a frame valid for the receiver on a channel that takes part in its bus. -/
def frameArrives (s : State) (n : Nat) (f : CanFrame) (own : Bool) (cnt : ErrCnt) (look : Nat) : State :=
  if !onBus s n || integrating s n || !frameLegal s n f || !frameReaches s n f own then s
  else if budMode s = 2 then standbyReceive s n f
  else
    let s := gateAtEnd (if own then s else errReceived s n cnt) n
    canReceive (budInput s 1 (canrxBytes (if own then errSent s n else s) n f (bnat own) look)) n f own look

def execCanFrameReceived (n : Chan) (f : CanFrame) (own : Bool) (cnt : ErrCnt) (look : Nat) (s : State) : Host.Outcome State Fault Refusal :=
  done (frameArrives (segDue s n.val) n.val f own cnt look)

def execXlOverflowWriteDone (n : Chan) (s : State) : Host.Outcome State Fault Refusal := done (xlFlush s n.val)

/-! ### Errors (R38, R50) -/

/-- R38, R56, R437: a protocol exception; LOOPBACK_INT ignores RXD, and the form error of PEX_EN = 0 aborts a settle as every detected error. -/
def protoExc (s : State) (n : Nat) : State :=
  if !errSeen s n .form false || !canExcept s n then s
  else if getB s (canR n 0xC) 2 then canInput s n 1 []
  else
    let x := fresh s
    canInput (gateAtEnd x.2 n) n 2 [BitVec.ofNat 8 x.1]

def execProtocolException (n : Chan) (s : State) : Host.Outcome State Fault Refusal := done (protoExc (segDue s n.val) n.val)

/-- A bit error of the sender. -/
def isBitErr : CanErr → Bool
  | .bitRecessive => true
  | .bitDominant => true
  | .stuff => false
  | .form => false
  | .ack => false
  | .crc => false

/-- R50, R461: an error detected. A STANDBY unit's own comparison of its candidate with RXD finds a difference. -/
def errorOp (s : State) (n : Nat) (k : CanErr) (ph : CanPhase) (tx : Bool) (cnt : ErrCnt) (v : Option Nat) : State :=
  if !errSeen s n k tx then s
  else if budMode s = 2 then (if tx && isBitErr k && (choiceOf s n).isSome then bitDiff s else s)
  else canInput (gateAtEnd s n) n 0 (errBytes k ph tx cnt v)

def execErrorDetected (n : Chan) (k : CanErr) (ph : CanPhase) (tx : Bool) (cnt : ErrCnt) (tdc : Option (BitVec 8)) (s : State) :
    Host.Outcome State Fault Refusal :=
  done (errorOp (segDue s n.val) n.val k ph tx cnt (tdc.map fun v => v.toNat))

/-- R50, R56: an overload frame sent or received, on a channel that takes part in its bus. -/
def overloadOp (s : State) (n : Nat) : State := if onBus s n && !integrating s n && modeCur s n != 4 then canInput s n 3 [] else s

def execOverloadFrame (n : Chan) (s : State) : Host.Outcome State Fault Refusal :=
  done (overloadOp (segDue s n.val) n.val)

/-! ### Transmission (R83 to R86) -/

/-- R452: a TXCHOICE record of an ACTIVE unit. -/
def choiceRecord (s : State) (n : Nat) (f : CanFrame) : State :=
  budInput s 2 ([BitVec.ofNat 8 n, BitVec.ofNat 8 (getF s (canR n 0x20) 6 0)] ++ canFrameBytes f)

/-- R85: the choice point. A STANDBY unit takes its choices from the records (R461), and the channels of a WITHDRAWN one only listen
(R496, row 4). -/
def choicePoint (s : State) (n : Nat) : State :=
  if budMode s ≥ 2 then s
  else
    match choice s n with
    | some c => putOnBus (choiceRecord s n c.frame) n c
    | none => s

def execTxChoicePoint (n : Chan) (s : State) : Host.Outcome State Fault Refusal := done (choicePoint (segDue s n.val) n.val)

/-- R50, R83: arbitration lost; LOOPBACK_INT ignores RXD and loses none. -/
def arbLost (s : State) (n : Nat) : State :=
  if (chan s n).bus.isSome && modeCur s n != 4 then canInput s n 4 [] else s

def execArbitrationLost (n : Chan) (s : State) : Host.Outcome State Fault Refusal := done (arbLost (segDue s n.val) n.val)

/-- R437: what the success of a roll-call frame does to its segment. -/
def rollSent (s : State) (n : Nat) : OnBusKind → State
  | .rollCall op => if op = 1 then callSent s n else s
  | .object _ _ _ _ => s
  | .copy _ => s

/-- R36, R42, R48: what the success of the frame on the bus does, whose delay was measured as `v`. -/
def sentStep (s : State) (n : Nat) (v : Option Nat) : State :=
  match (chan s n).bus with
  | none => s
  | some b =>
    let s := errSent (setChoice s n none) n
    let s := match v with
      | some v => tdcMeasured s n b.frame v
      | none => s
    rollSent (txSucceeded s n) n b.kind

/-- R43: the measurement of the frame on the bus has failed, for want of an edge too. -/
def txFails (s : State) (n : Nat) (f : CanFrame) (v : Option Nat) : Bool :=
  match v with
  | some v => tdcFails s n f v
  | none => (unmeasured s n none true).isSome

/-- R36, R42, R48, R83: the frame on the bus is valid for the transmitter. One whose measurement fails is cut by that error before (R43). A STANDBY unit
takes the success from the record (log 21). -/
def txOk (s : State) (n : Nat) (cnt : ErrCnt) (v : Option Nat) : State :=
  match (chan s n).bus with
  | none => s
  | some b =>
    if txFails s n b.frame v then canInput s n 5 (beBytes 2 cnt.tec.toNat ++ beBytes 1 cnt.rec'.toNat)
    else if budMode s = 2 then s
    else sentStep (budInput s 1 (canrxBytes (errSent s n) n b.frame 2 (match v with | some v => v + 1 | none => 0))) n v

def execFrameTxSuccess (n : Chan) (cnt : ErrCnt) (tdcv : Option (BitVec 7)) (s : State) : Host.Outcome State Fault Refusal :=
  done (txOk (segDue s n.val) n.val cnt (tdcv.map fun v => v.toNat))

/-! ### Locks and counters (R42, R64, R91, R95) -/

def execLockTimeout (n : Chan) (s : State) : Host.Outcome State Fault Refusal :=
  done (if lockOver s n.val then canInput s n.val 11 [] else s)

def execCanCntClr (q : Requester) (n : Chan) (s : State) : Host.Outcome State Fault Refusal :=
  done (disarm (pairedWrite s q (canR n.val 8) 2 fun a => zeroAll a (canCounters n.val)) q)

def execTdcMeasClr (q : Requester) (n : Chan) (s : State) : Host.Outcome State Fault Refusal :=
  done (disarm (pairedWrite s q (canR n.val 8) 4 fun a => tdcClear a n.val) q)

def execMotClrOne (q : Requester) (ch : BitVec 6) (s : State) : Host.Outcome State Fault Refusal :=
  done (disarm (pairedWrite s q 0xA8608 (strobe s 0xA8608 (64 + ch.toNat)) fun a => motClearOne a ch.toNat) q)

def execMotClrAll (q : Requester) (s : State) : Host.Outcome State Fault Refusal :=
  done (disarm (pairedWrite s q 0xA8608 (strobe s 0xA8608 128) motClearAll) q)

end Sys2Proof.Machine
end

