-- ==== Sys2Proof/Machine/UpdBase.lean ====
section
/-!
DEFINITION. Sys2Proof/Machine/UpdBase.lean: the boot flash and its structures (R416 to R419, R473, R475), and how the update changes its mode
(R476, R486). The rows are in Machine/Upd.lean.
-/
namespace Sys2Proof.Machine

/-! ### The flash (R416) -/

/-- `n` bytes from address `a` erased. -/
def flashErase (s : State) (a n : Nat) : State :=
  { s with flash := s.flash.filter fun e => decide (e.1 < a) || decide (a + n ≤ e.1) }

/-- Bytes programmed from address `a`. -/
def flashProgram (s : State) (a : Nat) : List Byte → State
  | [] => s
  | b :: bs => flashProgram { s with flash := SMap.set flashErased s.flash a b } (a + 1) bs

/-- Whether the next erase or program succeeds: the manual names the failure and not its causes (log 36). -/
def flashTry (s : State) : Bool × State := (Config.flashOk s.free, { s with free := s.free + 1 })

def bankBase (b : Nat) : Nat := if b = 0 then 0x100000 else 0x900000
def bankSize : Nat := 0x800000
def manifestBase (b : Nat) : Nat := if b = 0 then 0x4000 else 0x5000

/-- R12: a 32-bit sequence number newer than another. -/
def seqNewer (a b : Nat) : Bool :=
  let d := (a + 2 ^ 32 - b % 2 ^ 32) % 2 ^ 32
  decide (0 < d) && decide (d < 2 ^ 31)

/-! ### Boot records (R417) -/

/-- The fields of a boot record. -/
structure BootRecord where
  seq      : Nat
  bank     : Nat
  fallback : Bool
  deriving DecidableEq, Repr

/-- Bytes 0 to 63 of a record. -/
def recordBytes (r : BootRecord) : List Byte :=
  let b := leBytes 4 0x64480001 ++ leBytes 4 r.seq ++ [BitVec.ofNat 8 r.bank, BitVec.ofNat 8 (bnat r.fallback)] ++ List.replicate 50 0
  b ++ leBytes 4 (crc32c b)

/-- A record that is valid. -/
def recordOf (b : List Byte) : Option BootRecord :=
  if leAt b 0 4 == 0x64480001 && leAt b 60 4 == crc32c (b.take 60) && decide (leAt b 8 1 < 2) && decide (leAt b 9 1 < 2)
      && (slice b 10 50).all (· == 0) then
    some { seq := leAt b 4 4, bank := leAt b 8 1, fallback := leAt b 9 1 == 1 }
  else none

def recordAt (s : State) (k : Nat) : Option BootRecord := recordOf (flashRead s (0x1000 * k) 64)

/-- R417: the number of the record to follow, with the record: the newer one; record 0 where neither is newer. -/
def followed (s : State) : Option (Nat × BootRecord) :=
  match recordAt s 0, recordAt s 1 with
  | some a, some b => if seqNewer b.seq a.seq then some (1, b) else some (0, a)
  | some a, none => some (0, a)
  | none, some b => some (1, b)
  | none, none => none

/-- A record programmed in an erased place; false: the program failed and the place holds no valid record. -/
def recordProgram (s : State) (k : Nat) (r : BootRecord) : State × Bool :=
  let x := flashTry (flashErase s (0x1000 * k) 0x1000)
  if x.1 then (flashProgram x.2 (0x1000 * k) (recordBytes r), true) else (x.2, false)

/-! ### Directories (R418, R419) -/

/-- An entry of a bank's directory. -/
structure DirEnt where
  ty    : Nat
  floor : Nat
  ver   : Nat
  off   : Nat
  len   : Nat
  crc   : Nat
  deriving DecidableEq, Repr

def dirEnt (b : List Byte) (i : Nat) : DirEnt :=
  let p := 16 + 20 * i
  { ty := leAt b p 1, floor := leAt b (p + 2) 1, ver := leAt b (p + 4) 4, off := leAt b (p + 8) 4, len := leAt b (p + 12) 4
    crc := leAt b (p + 16) 4 }

/-- The required types, in ascending order. -/
def requiredTypes : List Nat := [1, 2, 3, 4, 5, 6, 7, 8, 9, 10, 11]

/-- R473: the part of a section type. -/
def partOf (ty : Nat) : Nat :=
  if ty = 2 then 1 else if ty = 4 then 2 else if ty = 7 then 3 else if ty = 11 then 4 else if ty = 12 then 5 else 0

/-- Whether entries are a directory: types known, none twice, none missing, every section inside. -/
def dirShape (size : Nat) (req : List Nat) (es : List DirEnt) : Bool :=
  es.all (fun e => decide (1 ≤ e.ty) && decide (e.ty ≤ 12) && decide (e.off + e.len ≤ size))
    && decide (es.map fun e => e.ty).Nodup && req.all fun t => es.any fun e => e.ty == t

/-- The directory at the head of `size` bytes of flash from `a`, where its MAGIC, COUNT, CRC and entries are right. -/
def dirAt (s : State) (a size : Nat) (req : List Nat) : Option (List DirEnt) :=
  let h := flashRead s a 16
  let n := leAt h 4 2
  if leAt h 0 4 == 0x64480002 && decide (1 ≤ n) && decide (n ≤ 32) then
    let b := flashRead s a (16 + 20 * n)
    let es := (List.range n).map (dirEnt b)
    if leAt h 12 4 == crc32c (b.take 12 ++ b.drop 16) && dirShape size req es then some es else none
  else none

def bankDir (s : State) (b : Nat) : Option (List DirEnt) := dirAt s (bankBase b) bankSize requiredTypes

/-- R473: no FLOOR lies below that of its part in OTP. -/
def floorsOk (s : State) (es : List DirEnt) : Bool := es.all fun e => decide (s.otp.floors.getD (partOf e.ty) 0 ≤ e.floor)

def dirFind (es : List DirEnt) (ty : Nat) : Option DirEnt := es.find? fun e => e.ty == ty

/-- The bytes of a section of bank `b`. -/
def sectionBytes (s : State) (b : Nat) (e : DirEnt) : List Byte := flashRead s (bankBase b + e.off) e.len

/-! ### The SerDes table (R198, R269, R419; the layout of the section is the model's, log 37) -/

/-- R195: the modes of a port, in the order of their codes. -/
def portModes (p : Nat) : List Nat := if p < 8 then [1, 2, 3] else [4, 5, 6]

/-- SERDES: an entry of 20 bytes for each mode of each port. -/
def serdesRow (bs : List Byte) (k : Nat) : SerdesRow :=
  { ctle := leAt bs (20 * k) 4, dfe := leAt bs (20 * k + 4) 4, fir := leAt bs (20 * k + 8) 4
    rxlat := leAt bs (20 * k + 12) 4, txlat := leAt bs (20 * k + 16) 4 }

/-- R198, R480: the SerDes table; a port takes its entry at its next link bring-up or change of MODE. -/
def loadSerdes (s : State) (bs : List Byte) : State :=
  { s with serdes := (List.range 24).foldl (fun m p => (List.range 3).foldl (fun m i =>
      SMap.set (fun _ => SerdesRow.init) m (8 * p + (portModes p).getD i 0) (serdesRow bs (3 * p + i))) m) s.serdes }

/-! ### Modes and items (R476, R486) -/

/-- BOOT_SEQ of the new record; where there is none nothing gives the value: free (log 2). -/
def newSeq (s : State) (known : Bool) : Nat × State := if known then ((followed s).elim 0 fun x => x.2.seq, s) else fresh s

/-- Item 0xD0: the mode goes from `old` to the present one, by event `ev`. -/
def updItemOf (s : State) (old ev : Nat) (known : Bool) : State :=
  let x := newSeq s known
  evtItem x.2 0x28 0 0xD0 0 (u8s [old, s.upd.mode, ev, 0] ++ leBytes 4 x.1)

/-- The events 2 to 5 and 7 come with a new record. -/
def updItem (s : State) (old ev : Nat) : State := updItemOf s old ev (decide (2 ≤ ev) && ev != 6)

def updMode (s : State) (m ev : Nat) : State := updItem { s with upd := { s.upd with mode := m } } s.upd.mode ev

/-- A change of mode for which R486 lists no event: the event byte is a free value (log 2). -/
def updModeFree (s : State) (m : Nat) : State :=
  let x := fresh s
  updItemOf { x.2 with upd := { x.2.upd with mode := m } } s.upd.mode (x.1 % 256) false

/-- The mailbox whose request in service is UPD_ACTIVATE. -/
def activating (s : State) : Option (Nat × MbxReq) :=
  (List.range 10).findSome? fun m => ((mbxAt s m).inSvc.filter fun x => leAt x.hdr 0 2 == 0x0905).map fun x => (m, x)

/-- The answer of a UPD_ACTIVATE that waited for the partner. -/
def activateAnswer (s : State) (st : Nat) : State :=
  match activating s with
  | some (m, x) => respond s m (reqOf m false x) { status := st, data := [], wait := false }
  | none => s

/-- R479: a refusal before the commit point: STAGING, VERIFIED 0. -/
def activateRefused (s : State) : State :=
  let s := { s with upd := { s.upd with verified := false, pair := 0 } }
  if s.upd.mode = 2 then updModeFree s 1 else s

/-- R483: the partner has failed, or has fallen silent. -/
def partnerFailed (s : State) : State := if s.upd.pair = 1 then activateAnswer (activateRefused s) eCheck else s

end Sys2Proof.Machine
end

