-- ==== Sys2Proof/Machine/Bud.lean ====
section
/-!
DEFINITION. Sys2Proof/Machine/Bud.lean: the modes of a buddy pair, its claims, lanes and gates, and the BUD commands (R448 to R451, R457 to R468).
The records that a unit receives are in Machine/BudRec.lean.
-/
namespace Sys2Proof.Machine

/-! ### Modes (R459, R460) -/

/-- R468: item 0xC0. -/
def modeItem (s : State) (old new cause : Nat) : State :=
  evtItem s 0x80008 8 0xC0 0 (u8s [old, new, cause, partnerClaim s, ownClaim s])

/-- R460: a change of the holder counts. `was` says whether the unit held the claim before. -/
def holderCount (s : State) (was : Bool) : State := if holdsClaim s = was then s else raise (incC s 0x80040) 0x80000 0

/-- R460: the gates close, of TE, GPIO and INH and of every channel. -/
def gatesClose (s : State) : State := { s with bud := { s.bud with gate := false, canGate := 0, withdrawing := false } }

/-- R461: the channels whose gates open at once: those with the TXCHOICE of the frame on the bus, or with no frame there. Whether another node's frame is
there as the unit takes the claim, no row tells: bit `n` of the free value `v` (log 21). -/
def gateChans (s : State) (v : Nat) : BitVec 48 :=
  (List.range 48).foldl (fun a n => if (choiceOf s n).isSome || ((chan s n).bus.isNone && !v.testBit n) then a ||| BitVec.ofNat 48 (2 ^ n) else a) 0

def gatesOpen (s : State) : State :=
  let x := fresh s
  let s := x.2
  { s with bud := { s.bud with gate := true, canGate := gateChans s x.1, withdrawing := false } }

/-- R460: an orderly close waits until the partner is known to be ACTIVE; a silent partner is not waited for. -/
def gatesSettle (s : State) : State :=
  if s.bud.withdrawing && (partnerState s == 1 || !s.bud.pHeard) then gatesClose s else s

/-- A mode entered. -/
def toBudMode (s : State) (new cause : Nat) (was : Bool) : State :=
  let old := budMode s
  let s := if old = 3 ∧ new ≠ 3 then bite s [0x8001C, 0x80008] else s
  let s := holderCount (raise (setF s 0x80010 1 0 new) 0x80000 0) was
  modeItem s old new cause

/-- R454: a frame that a STANDBY unit held is committed; the counters are as the records have left them (R496, row 4). -/
def heldCommit (s : State) (h : Held) : State :=
  canReceive s h.chan h.frame false 0

/-- R464: a unit that becomes ACTIVE commits the frames that no record covered, in their order, and continues as the sequencer. -/
def becomeActive (s : State) (cause : Nat) (was : Bool) : State :=
  let hs := s.bud.held
  let s := gatesOpen (toBudMode s 1 cause was)
  hs.foldl heldCommit { s with bud := { s.bud with held := [], choice := [], resync := false, events := [], digCount := 0 } }

/-- R451, R459: WITHDRAWN: the receive tracker is emptied; gates close at once after a failure, or in an orderly way. -/
def withdraw (s : State) (cause : Nat) (atOnce : Bool) : State :=
  let was := holdsClaim s
  let s := toBudMode s 3 cause was
  let s := { s with bud := { s.bud with rx := none, w := ltNs s, held := [], choice := [], resync := false, live := [], withdrawing := s.bud.gate } }
  if atOnce then gatesClose s else gatesSettle s

def laneUp (s : State) (k : Nat) : Bool := getB s 0x80010 (4 + k)

/-- R459: the stream from a living partner is lost: both lanes are down. -/
def streamLost (s : State) : Bool := !laneUp s 0 && !laneUp s 1 && s.bud.pHeard

/-- R459: a stream gap or too much lag takes a STANDBY unit to WITHDRAWN. -/
def budGap (s : State) : State := if budMode s = 2 then withdraw s 6 true else s

/-- R459: STANDBY, from ACTIVE or after resynchronisation. The gates of an ACTIVE unit close in an orderly handover. A unit without a stream goes on to
WITHDRAWN. -/
def becomeStandby (s : State) (cause : Nat) (was : Bool) : State :=
  let s := toBudMode s 2 cause was
  let s := gatesSettle { s with bud := { s.bud with held := [], choice := [], resync := false, events := [], digCount := 0, own := []
                                                    withdrawing := s.bud.gate } }
  if streamLost s then budGap s else s

/-- R459: the exits of ACTIVE and STANDBY that the claims give. `was`: the unit held the claim before. -/
def budEval (s : State) (cause : Nat) (was : Bool) : State :=
  let s :=
    if budMode s = 1 ∧ holdsClaim s = false then becomeStandby s cause was
    else if budMode s = 2 ∧ holdsClaim s = true then becomeActive s cause was
    else if holdsClaim s = was then s
    else modeItem (holderCount s was) (budMode s) (budMode s) cause
  gatesSettle s

/-- R463: a self-diagnosis failure outside divergence acts at once. -/
def budFail (s : State) : State :=
  if budMode s = 1 ∨ budMode s = 2 then withdraw { s with bud := { s.bud with failed := true } } 4 true else s

/-- R463: a CFG_MISMATCH that arises in a paired block. -/
def pairedCrc (b : Nat × Nat) : Bool :=
  (decide (0x100000 ≤ b.1) && decide (b.1 < 0x130000)) || decide (0x1A0000 ≤ b.1)

def pairedMismatch (s : State) : Bool := cfgBlocks.any fun b => pairedCrc b && mismatch s b

def mismatchJudge (was s : State) : State := if pairedMismatch s && !pairedMismatch was then budFail s else s

/-- R463: an ACTIVE unit sends the running CRC of a paired block, for its partner to compare (log 21). -/
def crcSend (s : State) (b : Nat) : State :=
  let k := cfgBlock b
  if budMode s = 1 ∧ pairedCrc k = true then budRecord s 9 (u8s [6, b] ++ beBytes 4 (rd s k.1).toNat) else s

def execCfgCrcUpdate (b : Fin 87) (s : State) : Host.Outcome State Fault Refusal :=
  done (crcSend (mismatchJudge s (crcUpdate s b.val)) b.val)

def execCommitComplete (s : State) : Host.Outcome State Fault Refusal := done (mismatchJudge s (commitEnd s))

/-! ### Claims (R457, R458) -/

def claimSend (s : State) : State :=
  if budIdle s then s
  else { send s (.claim (BitVec.ofNat 32 (claimFrame s))) with bud := { s.bud with roll := (s.bud.roll + 1) % 4 } }

def execClaimFrameSend (s : State) : Host.Outcome State Fault Refusal := done (claimSend s)

/-- R457: SYNC and CRC are right. -/
def claimOk (f : Nat) : Bool := nbits f 31 28 == 0xB && crc8 20 (nbits f 27 8) == nbits f 7 0

/-- R458: what a valid claim frame, or a record's, says of the partner. -/
def partnerHeard (s : State) (f : Nat) : State :=
  let was := holdsClaim s
  let st := nbits f 11 10
  let s := if s.bud.pHeard then s else raise s 0x80000 1
  let b := { s.bud with pClaim := nbits f 27 20, pCand := nbits f 19 12, pState := st, pLast := ltNs s, pHeard := true
                        w := if st = 1 ∨ st = 2 ∨ partnerState s = 1 ∨ partnerState s = 2 then ltNs s else s.bud.w }
  budEval { s with bud := b } 2 was

def claimReceived (s : State) (f : Nat) : State :=
  if budIdle s then s else if claimOk f then partnerHeard s f else incC s 0x8004C

def execClaimFrameReceived (f : BitVec 32) (s : State) : Host.Outcome State Fault Refusal := done (claimReceived s f.toNat)

/-- R458, R451, R459, R483: outside [last valid, last valid + 8 µs) the partner is silent; until then its state was what it had last said. -/
def silence (s : State) : State :=
  if budIdle s = false ∧ s.bud.pHeard = true ∧ s.bud.pLast + 8000 ≤ ltNs s then
    let was := holdsClaim s
    let w := if s.bud.pState = 1 ∨ s.bud.pState = 2 then s.bud.pLast + 8000 else s.bud.w
    let s := raise { s with bud := { s.bud with pHeard := false, pClaim := 0, pCand := 0, pState := 3, rx := none, w := w } } 0x80000 1
    partnerFailed (budEval s 1 was)
  else s

def execPartnerSilent (s : State) : Host.Outcome State Fault Refusal := done (silence s)

/-- R459, exit 2 of WITHDRAWN. -/
def startWait (s : State) : State :=
  if budMode s = 3 ∧ budIdle s = false ∧ partnerState s ≠ 1 ∧ partnerState s ≠ 2 ∧ beats s (ownCand s) (partnerCand s) = true
      ∧ s.bud.w + frcF s 0x8001C 15 0 * 1000000 ≤ ltNs s then becomeActive s 0 (holdsClaim s)
  else s

def execStartWaitEnd (s : State) : Host.Outcome State Fault Refusal := done (startWait s)

/-! ### Lanes (R449, R450) -/

/-- R468: item 0xC2: 0 down, 1 up, 2 training failed. -/
def laneItem (s : State) (k ev : Nat) : State :=
  evtItem s 0x80008 8 0xC2 k (u8s [ev, 0, 0, 0] ++ leBytes 4 (rd s 0x80048).toNat)

/-- R450: when lane k last delivered a valid record. -/
def laneSeen (s : State) (k : Nat) : Nat := if k = 0 then s.bud.laneAt.1 else s.bud.laneAt.2

def laneMark (s : State) (k : Nat) : State :=
  { s with bud := { s.bud with laneAt := if k = 0 then (ltNs s, s.bud.laneAt.2) else (s.bud.laneAt.1, ltNs s) } }

/-- R450, R451, R459: a lane that has delivered nothing valid for 10 µs goes down; with both down the tracker is emptied and a STANDBY unit has lost its stream. -/
def laneLost (s : State) (k : Nat) : State :=
  if budIdle s = true ∨ laneUp s k = false ∨ ltNs s < laneSeen s k + 10000 then s
  else
    let s := laneItem (raise (setB s 0x80010 (4 + k) false) 0x80000 4) k 0
    if laneUp s 0 || laneUp s 1 then s
    else if streamLost s then budGap { s with bud := { s.bud with rx := none } }
    else { s with bud := { s.bud with rx := none } }

def execLaneDown (k : Fin 2) (s : State) : Host.Outcome State Fault Refusal := done (laneLost s k.val)

/-- R450: a lane delivers valid records again, or its training has failed. -/
def laneTrained (s : State) (k : Nat) (ok : Bool) : State :=
  if budIdle s = true ∨ laneUp s k = true then s
  else if ok then laneItem (raise (laneMark (setB s 0x80010 (4 + k) true) k) 0x80000 4) k 1
  else laneItem s k 2

def execBuddyLaneUp (k : Fin 2) (ok : Bool) (s : State) : Host.Outcome State Fault Refusal := done (laneTrained s k.val ok)

/-- R450, R452: an ACK record: the SEQ last executed and the mode; it carries the claim frame. -/
def ackSend (s : State) : State :=
  if budIdle s then s
  else budRecord s 8 (beBytes 4 (rd s 0x80018).toNat ++ [BitVec.ofNat 8 (budMode s)])

def execBudAckSend (s : State) : Host.Outcome State Fault Refusal := done (ackSend s)

/-! ### Lag (R454, R459) -/

/-- LAG and LAG_PEAK, in ns. -/
def lagStore (s : State) (ns : Nat) : State :=
  let n := min ns 65535
  setF (setF s 0x80014 15 0 n) 0x80014 31 16 (max n (getF s 0x80014 31 16))

/-- LAG_EV above 2 µs; above LAG_MAX µs the unit withdraws. -/
def lagSeen (s : State) (ns : Nat) : State :=
  if budMode s ≠ 2 then s
  else
    let s := lagStore s ns
    let s := if ns > 2000 then raise s 0x80000 3 else s
    if ns > getF s 0x80008 31 16 * 1000 then budGap s else s

/-! ### Self-diagnosis (R462, R463) -/

/-- Item 0xC1's outcome code. -/
def outcomeCode : DiagOutcome → Nat
  | .ownFails => 0
  | .partnerFails => 1
  | .bothPass => 2
  | .bothFail => 3

/-- R462: what the outcome does to this unit. -/
def outcomeApply (s : State) (out : DiagOutcome) : State :=
  match out with
  | .ownFails => if budMode s = 1 ∨ budMode s = 2 then withdraw { s with bud := { s.bud with failed := true } } 3 true else s
  | .bothFail => if budMode s = 1 ∨ budMode s = 2 then withdraw { s with bud := { s.bud with failed := true } } 3 true else s
  | .bothPass => if budMode s = 2 then withdraw s 3 true else s
  | .partnerFails => s

def diagnosed (s : State) (out : DiagOutcome) : State :=
  match s.bud.diverged with
  | none => s
  | some d =>
    let s := evtItem { s with bud := { s.bud with diverged := none } } 0x80008 8 0xC1 0
      (leBytes 4 d.1 ++ leBytes 4 d.2.1.toNat ++ leBytes 4 d.2.2.toNat ++ [BitVec.ofNat 8 (outcomeCode out)])
    outcomeApply s out

def execSelfDiagnosisComplete (out : DiagOutcome) (s : State) : Host.Outcome State Fault Refusal := done (diagnosed s out)

/-! ### Registers (R466) -/

/-- R466: every counter, and LAG_PEAK, which is the largest lag since CNT_CLR. -/
def budClear (s : State) : State := setF (zeroAll s (wordsFrom 0x80040 7)) 0x80014 31 16 0

def execBudCntClr (q : Requester) (s : State) : Host.Outcome State Fault Refusal := done (disarm (budClear s) q)

/-! ### Commands (R467) -/

def budStatusBytes (s : State) : List Byte := regBytes s [0x8000C, 0x80010, 0x80014, 0x80018]

def cmdBudStatus : Command := fun s r => checked true (r.len == 0) s (s, answerOk (budStatusBytes s))

/-- R390, R458: all three copies written; the holder may change. -/
def setClaim (s : State) (v : Nat) : State := budEval (setTri s 2 0 v) 2 (holdsClaim s)

def cmdBudSetClaim : Command := fun s r =>
  let v := r.at 0 1
  checked (r.comp == 0) (r.len == 4) s
    (if budMode s = 0 then refuse s eState
     else if v = 0 ∨ v > 254 then refuse s eRange
     else (setClaim s v, answerOk (u8s [claimCfg s, 0, 0, 0])))

/-- R458: claim 255 set or cleared. -/
def setOverride (s : State) (b : Bool) : State := budEval { s with bud := { s.bud with override := b } } 5 (holdsClaim s)

def cmdBudOverride : Command := fun s r =>
  let v := r.at 0 1
  checked (r.comp == 0) (r.len == 4) s
    (if budMode s = 0 || budMode s = 3 then refuse s eState
     else if v > 1 then refuse s eRange
     else (setOverride s (v == 1), answerOk (u8s [bnat (holdsClaim (setOverride s (v == 1))), 0, 0, 0])))

def cmdBudWithdraw : Command := fun s r =>
  checked (r.comp == 0) (r.len == 0) s
    (if budMode s = 0 || budMode s = 3 then refuse s eState else (withdraw s 5 false, answerOk []))

/-- R465: resynchronisation is requested; the pages are counted from here. -/
def resyncStart (s : State) : State :=
  { s with bud := { s.bud with resync := true, pages := [], wantPages := 0, rx := none } }

def cmdBudRejoin : Command := fun s r =>
  checked (r.comp == 0) (r.len == 0) s
    (if budMode s ≠ 3 || ownCand s == 0 || partnerState s ≠ 1 then refuse s eState else (resyncStart s, answerOk []))

def execBudGetStatus (m : Mbx) (s : State) : Host.Outcome State Fault Refusal := done (cmdRow s m.val 0x0801 cmdBudStatus)
def execBudSetClaim (m : Mbx) (s : State) : Host.Outcome State Fault Refusal := done (cmdRow s m.val 0x0802 cmdBudSetClaim)
def execBudOverride (m : Mbx) (s : State) : Host.Outcome State Fault Refusal := done (cmdRow s m.val 0x0803 cmdBudOverride)
def execBudWithdraw (m : Mbx) (s : State) : Host.Outcome State Fault Refusal := done (cmdRow s m.val 0x0804 cmdBudWithdraw)
def execBudRejoin (m : Mbx) (s : State) : Host.Outcome State Fault Refusal := done (cmdRow s m.val 0x0805 cmdBudRejoin)

end Sys2Proof.Machine
end

