-- ==== Sys2Proof/Machine/Clk.lean ====
section
/-!
DEFINITION. Sys2Proof/Machine/Clk.lean: oscillators and loops, clock failures and their recovery, rails, and the pacing loop (R395 to R411).
-/
namespace Sys2Proof.Machine

/-! ### Loops (R395, R396) -/

/-- The source of loop k: 0 stopped, 1 internal oscillator, 2 crystal or SerDes reference, 3 coasting. -/
def loopSrc (s : State) (k : Nat) : Nat := getF s 0x1000C (2 * k + 1) (2 * k)
def setLoop (s : State) (k v : Nat) : State := setF s 0x1000C (2 * k + 1) (2 * k) v

def xtalOk (s : State) : Bool := getB s 0x1000C 13
def oscOk (s : State) : Bool := getB s 0x1000C 14
def sdrefOk (s : State) : Bool := getB s 0x1000C 15

/-- The monitor runs, and the loops are clocked, in ACTIVE and PARTIAL. -/
def powered (s : State) : Bool := decide (powerState s < 2)

def rampAt (s : State) (k : Nat) : Option Ramp := (s.clk.ramps.find? fun e => e.1 == k).map fun e => e.2
def setRamp (s : State) (k : Nat) (x : Ramp) : State :=
  { s with clk := { s.clk with ramps := SMap.set (fun _ => Ramp.init) s.clk.ramps k x } }
def endRamp (s : State) (k : Nat) : State := { s with clk := { s.clk with ramps := SMap.del s.clk.ramps k } }

/-- R411: item 0x05, with CLK_OSC_MEAS. -/
def clkItem (s : State) (src ev : Nat) : State :=
  evtItem s 0x10008 0 0x05 src (u8s [ev, 0, 0, 0] ++ leBytes 2 (getF s 0x10010 15 0))

/-- R396: loop k starts a ramp to another reference: its first step begins. -/
def rampStart (s : State) (k new : Nat) : State := setRamp s k { step := 1, old := loopSrc s k, new := new, back := false }

/-- R396: one microsecond: each ramp goes one step on, or back (R402). -/
def rampMove (x : Ramp) : Ramp := if x.back then { x with step := x.step - 1 } else { x with step := min 16 (x.step + 1) }

def rampStepOp (s : State) : State := { s with clk := { s.clk with ramps := s.clk.ramps.map fun e => (e.1, rampMove e.2) } }

def execRampStep (s : State) : Host.Outcome State Fault Refusal := done (rampStepOp s)

/-- The channels follow their clock when loop 2 runs again, or runs from the crystal. -/
def channelsRun (s : State) : State := (List.range 48).foldl clockRun s

/-- R396, R400, R401: a ramp complete: the loop runs from the reference it reached. -/
def rampEnd (s : State) (k : Nat) (to_ : Nat) (changed : Bool) : State :=
  let s := clkItem (setLoop (endRamp s k) k to_) k (if to_ = 1 then 3 else 4)
  let s := if k < 2 ∧ changed = true then raise (incC s 0x10048) 0x10000 2 else s
  let s := if k = 0 ∧ changed = true ∧ to_ = 2 then timeSourceChange s else s
  if k = 2 ∧ to_ = 2 then channelsRun s else s

def rampDone (s : State) (k : Nat) : State :=
  match rampAt s k with
  | none => s
  | some x =>
    if x.back = true ∧ x.step = 0 then rampEnd s k x.old false
    else if x.back = false ∧ x.step = 16 then rampEnd s k x.new true
    else s

def execRampComplete (k : Fin 6) (s : State) : Host.Outcome State Fault Refusal := done (rampDone s k.val)

/-! ### Failures (R398 to R402) -/

/-- R400: the CAN quantum clock coasts: its channels hold; where one is left in CLOCK_HOLD the self-diagnosis fails (R463). -/
def canCoast (s : State) : State :=
  let s := (List.range 48).foldl clockHold s
  if (List.range 48).any fun n => modeCur s n == 7 then budFail s else s

/-- R400: loop k begins to coast, with what its blocks do. -/
def coast (s : State) (k : Nat) : State :=
  if loopSrc s k = 0 ∨ loopSrc s k = 3 then s
  else
    let s := clkItem (raise (incC (setLoop (endRamp s k) k 3) 0x1004C) 0x10000 3) k 5
    match k with
    | 0 => timeSourceChange s
    | 2 => canCoast s
    | 3 => linkFails s 24 0
    | 5 => (List.range 24).foldl (fun a p => linkFails a p 0) s
    | _ => s

/-- R400, R402: the crystal fails under loop k. -/
def xtalLost (s : State) (k : Nat) : State :=
  match rampAt s k with
  | some x =>
    if x.new = 2 ∧ x.back = false then (if oscOk s then setRamp s k { x with back := true } else coast s k)
    else s
  | none =>
    if loopSrc s k ≠ 2 then s
    else if k < 2 ∧ oscOk s = true then
      let s := rampStart s k 1
      if k = 0 then timeSourceChange s else s
    else coast s k

/-- R401: the windows of a start: 1 ms for the crystal; the manual gives the SerDes reference none (log 34). -/
def qualStart (s : State) : SMap (Nat × Nat) := [(0, (s.ticks, 500000)), (2, (s.ticks, 0))]

/-- R401: source `k` (0 crystal, 1 internal oscillator, 2 SerDes reference) has failed: it qualifies over 100 ms; a source that is qualifying begins
its window anew. -/
def qualRestart (s : State) (k : Nat) (was : Bool) : State :=
  let w := if was then 50000000 else (SMap.get (fun _ => (0, 0)) s.clk.qual k).2
  { s with clk := { s.clk with qual := SMap.set (fun _ => (0, 0)) s.clk.qual k (s.ticks, w) } }

/-- R401: the window of source `k` is over. -/
def qualOver (s : State) (k : Nat) : Bool :=
  let x := SMap.get (fun _ => (0, 0)) s.clk.qual k
  decide (x.1 + x.2 ≤ s.ticks)

/-- R400: the crystal is judged failed. -/
def xtalFail (s : State) : State :=
  if !powered s then s
  else if !xtalOk s then qualRestart s 0 false
  else
    let s := qualRestart s 0 true
    let s := devFault (raise (incC (setB s 0x1000C 13 false) 0x10040) 0x10000 0) 5
    [0, 1, 2, 3, 4].foldl xtalLost (clkItem s 0xFF 0)

def execXtalFailure (s : State) : Host.Outcome State Fault Refusal := done (xtalFail s)

/-- R400, R402: the internal oscillator fails under loop k. A loop that runs from it has lost its reference (log 34). -/
def oscLost (s : State) (k : Nat) : State :=
  match rampAt s k with
  | some x => if x.new = 1 ∨ x.back = true then coast s k else s
  | none => if loopSrc s k = 1 then coast s k else s

def oscFailOp (s : State) : State :=
  if !powered s then s
  else if !oscOk s then qualRestart s 1 false
  else
    let s := qualRestart s 1 true
    let s := devFault (raise (incC (setB s 0x1000C 14 false) 0x10044) 0x10000 1) 5
    [0, 1, 2, 4].foldl oscLost (clkItem s 0xFF 1)

def execOscFailure (s : State) : Host.Outcome State Fault Refusal := done (oscFailOp s)

/-- R400: the SerDes reference fails; it has no fail bit and no counter of its own. -/
def sdrefFail (s : State) : State :=
  if !powered s then s
  else if !sdrefOk s then qualRestart s 2 false
  else coast (clkItem (devFault (setB (qualRestart s 2 true) 0x1000C 15 false) 5) 0xFF 2) 5

def execSdrefFailure (s : State) : Host.Outcome State Fault Refusal := done (sdrefFail s)

/-! ### Qualification (R401, R414) -/

/-- R426: a function ready: its failure is forgotten. -/
def readySet (s : State) (b : Nat) : State := setB (setB s 0x14 b true) 0x18 b false

/-- R414, R423: CAN_EARLY, once EARLY is applied and the CAN quantum clock runs: the channels that it has set are the early-start channels. -/
def canEarly (s : State) : State :=
  if ready s 2 || s.boot.rescue || s.boot.todo.contains 3 || decide (s.boot.stage < 3) || loopSrc s 2 == 0 || loopSrc s 2 == 3 then s
  else
    let m := ((List.range 48).filter fun n => modeReq s n != 0).foldl (fun a n => a + 2 ^ n) 0
    channelsRun (readySet { s with boot := { s.boot with early := m } } 2)

/-- R414: CAN is set once XTAL is, and REGISTERS is applied. -/
def canReady (s : State) : State :=
  if ready s 3 && !s.boot.rescue && !s.boot.todo.contains 5 && s.boot.stage ≥ 3 && !ready s 4 then channelsRun (readySet s 4) else s

/-- R395, R444: the crystal has not qualified since the start, or since the return from STANDBY: loop 3 has not started. -/
def xtalNew (s : State) : Bool := loopSrc s 3 == 0

/-- R414, R426: DEV_READY1 XTAL and CAN fail together and come ready one by one. -/
def xtalFirst (s : State) : State :=
  let s := [0, 1, 2, 4].foldl (fun a k => if loopSrc a k = 1 ∧ (rampAt a k).isNone = true then rampStart a k 2 else a) s
  canReady (readySet (if loopSrc s 3 = 0 then setLoop s 3 2 else s) 3)

/-- R401: loops 0 and 1 ramp back to a qualified crystal, where no ramp runs. -/
def rampBack (s : State) : State :=
  if xtalOk s && s.clk.ramps.isEmpty then
    [0, 1].foldl (fun a k => if loopSrc a k = 1 then rampStart a k 2 else a) s
  else s

def qualified (s : State) (src : ClkSrc) : State :=
  if !powered s || decide (s.boot.stage < 2) then s
  else
    match src with
    | .crystal =>
      if xtalOk s || !qualOver s 0 then s
      else
        let s := clkItem (setB s 0x1000C 13 true) 0xFF 7
        if xtalNew s then xtalFirst s else if getB s 0x10008 8 then rampBack s else s
    | .oscillator => if oscOk s || !qualOver s 1 then s else clkItem (setB s 0x1000C 14 true) 0xFF 7
    | .serdesRef =>
      if sdrefOk s || !qualOver s 2 then s
      else
        let s := clkItem (setB s 0x1000C 15 true) 0xFF 7
        if loopSrc s 5 = 0 then setLoop s 5 2 else s

def execSourceQualified (src : ClkSrc) (s : State) : Host.Outcome State Fault Refusal := done (qualified s src)

/-- The reference that a coasting loop relocks to: its reference in service; before XTAL ready, or for a privileged loop without the crystal,
the internal oscillator (log 34). -/
def relockTo (s : State) (k : Nat) : Option Nat :=
  if k = 5 then (if sdrefOk s then some 2 else none)
  else if xtalOk s then some 2
  else if k ≠ 3 ∧ oscOk s = true ∧ (k < 2 ∨ xtalNew s = true) then some 1
  else none

/-- R401: a coasting loop locks again; its blocks leave their held states by their own rules. -/
def relock (s : State) (k : Nat) : State :=
  if !powered s || loopSrc s k ≠ 3 then s
  else
    match relockTo s k with
    | none => s
    | some v =>
      let s := clkItem (setLoop s k v) k 6
      if k = 0 then timeSourceChange s
      else if k = 2 then canEarly (channelsRun s)
      else if k = 3 then setPort s 24 { port s 24 with training := some (ltNs s) }
      else s

def execLoopRelock (k : Fin 6) (s : State) : Host.Outcome State Fault Refusal := done (relock s k.val)

/-- R401, R402: RETURN, a locked write-only field. -/
def returnOp (s : State) (q : Requester) : State := if keyOk s q then rampBack s else lockReject s

def execClkReturn (q : Requester) (s : State) : Host.Outcome State Fault Refusal := done (disarm (returnOp s q) q)

/-! ### Rails (R403, R404) -/

/-- R411: item 0x06; the voltage is measured: a free value (log 2). -/
def railItem (s : State) (r ev : Nat) : State :=
  let x := fresh s
  evtItem x.2 0x10008 0 0x06 r (u8s [ev, 0, 0, 0] ++ leBytes 4 x.1)

/-- R405: rails that are on: VDDQ is off in STANDBY; in SLEEP only the lantern's is on. -/
def railOn (s : State) (r : Nat) : Bool :=
  if powerState s < 2 then true else if powerState s = 2 then r != 5 else decide (r ≥ 6)

def railOut (s : State) (r : Nat) : State :=
  if !railOn s r || !getB s 0x10018 r then s
  else railItem (raise (incC (setB (setB s 0x10018 r false) 0x10018 (8 + r) true) 0x10050) 0x10000 4) r 0

def execRailWindowExit (r : Fin 8) (s : State) : Host.Outcome State Fault Refusal := done (railOut s r.val)

def railIn (s : State) (r : Nat) : State :=
  if !railOn s r || getB s 0x10018 r || !ready s 1 then s else railItem (setB s 0x10018 r true) r 1

def execRailWindowReturn (r : Fin 8) (s : State) : Host.Outcome State Fault Refusal := done (railIn s r.val)

/-! ### Pacing (R406 to R408) -/

def paceTarget (s : State) : Nat := getF s 0x10100 12 0
def paceHyst (s : State) : Nat := getF s 0x10100 20 13
def vcode (s : State) : Nat := getF s 0x10108 14 8
def paceLimit (s : State) : Bool := getB s 0x10108 0

/-- R407: while FREEZE = 1 both limits are the code that held when it was set. -/
def paceLo (s : State) : Nat := s.clk.freeze.getD (getF s 0x10104 6 0)
def paceHi (s : State) : Nat := s.clk.freeze.getD (getF s 0x10104 14 8)

/-- R407: the rule that moves the code: the new code and `below`. -/
def paceRule (lo hi target hyst c below m : Nat) : Nat × Nat :=
  if c > hi then (c - 1, below)
  else if c < lo then (c + 1, below)
  else if m > target + hyst then (min (c + 4) hi, 0)
  else if m > target then (min (c + 1) hi, 0)
  else if m + hyst < target then (if below + 1 = 64 then (max (c - 1) lo, 0) else (c, below + 1))
  else (c, 0)

/-- R411: item 0x07. -/
def paceItem (s : State) (mode cause m : Nat) : State :=
  evtItem s 0x10008 0 0x07 0 (u8s [mode, cause] ++ leBytes 2 m ++ u8s [vcode s])

/-- R408: LIMIT entered from NORMAL. -/
def toLimit (s : State) (cause m : Nat) : State :=
  let s := { setB (houseAdd s 19 1) 0x10108 0 true with clk := { s.clk with good := 0, ceil := 0 } }
  paceItem (devFault (raise (incC s 0x10110) 0x10000 5) 2) 1 cause m

/-- R408: the exits of the mode; `top`: the code stood at the ceiling when m was measured. -/
def paceMode (s : State) (m : Nat) (top : Bool) : State :=
  let good := if m ≤ paceTarget s ∧ getB s 0x10108 1 = true then s.clk.good + 1 else 0
  let ceil := if top = true ∧ m > paceTarget s then s.clk.ceil + 1 else 0
  let s := { s with clk := { s.clk with good := good, ceil := ceil } }
  if paceLimit s then
    (if good ≥ 1000 then paceItem { setB s 0x10108 0 false with clk := { s.clk with ceil := 0 } } 0 2 m else s)
  else if m ≥ 4950 then toLimit s 0 m
  else if ceil ≥ 16 then toLimit s 1 m
  else s

/-- R406, R407: one measurement, of `m` ps. -/
def pace (s : State) (m : Nat) : State :=
  if !ready s 1 || !powered s then s
  else
    let fr := if getB s 0x10100 21 then some (s.clk.freeze.getD (vcode s)) else none
    let s := { s with clk := { s.clk with freeze := fr, last10 := (m :: s.clk.last10).take 10 } }
    let c := vcode s
    let x := paceRule (paceLo s) (paceHi s) (paceTarget s) (paceHyst s) c s.clk.below m
    let top := c == paceHi s
    let s := setF (setF { s with clk := { s.clk with below := x.2 } } 0x10108 14 8 x.1) 0x10108 31 16 m
    paceMode (setF s 0x1010C 15 0 (max m (getF s 0x1010C 15 0))) m top

def execPacingMeasurement (ps : BitVec 16) (s : State) : Host.Outcome State Fault Refusal := done (pace s ps.toNat)

/-! ### Counters (R410) -/

def clkClear (s : State) : State := zeroAll s (wordsFrom 0x10040 5 ++ [0x1010C, 0x10110])

def execClkCntClr (q : Requester) (s : State) : Host.Outcome State Fault Refusal := done (disarm (clkClear s) q)

end Sys2Proof.Machine
end

