-- ==== Sys2Proof/Machine/Start.lean ====
section
/-!
DEFINITION. Sys2Proof/Machine/Start.lean: the kinds of start and what they reset and keep (R412, R413, R391, R404). The boot flash and the loader
are in Machine/Boot.lean.
-/
namespace Sys2Proof.Machine

/-! ### What a reset keeps -/

/-- R448: BUD_POS, sampled at each start: the pin is where it was. -/
def posPin (s : State) : SMap Word := if getB s 0x8000C 25 then [(0x8000C, 0x2000000)] else []

/-- The lantern's registers, which no start but a cold one resets. -/
def lanternRegs (m : SMap Word) : SMap Word := m.filter fun e => decide (0x70000 ≤ e.1) && decide (e.1 < 0x70700)

/-- The lantern's wake enables, the one triplicated field that it holds. -/
def wakeTri (m : SMap Tri) : SMap Tri := m.filter fun e => e.1 / 2 ^ 24 == 1

/-- R476: at a start the update is IDLE, or ACTIVATING where a trial is latched in the lantern (R482). -/
def updKept (u : Upd) : Upd :=
  { Upd.init with trial := u.trial, confirm := u.confirm, mode := if u.trial.isSome then 2 else 0 }

/-- R412: every block but the lantern at reset. The lantern keeps its registers, its time, its latches and the bank it has marked failed; the
one-time-programmable memory and the boot flash keep their contents. What device memory holds is given up: a byte then reads as one that
nothing has written (log 35). -/
def blocksReset (s : State) : State :=
  { State.reset with
    pending := s.pending, regs := lanternRegs s.regs ++ posPin s, tri := wakeTri s.tri, otp := s.otp, flash := s.flash, upd := updKept s.upd
    lan := s.lan, sec := { Sec.init with tamperLatch := s.sec.tamperLatch, owed := s.sec.owed, tap := s.sec.tap }, pcie := { Pcie.init with perst := s.pcie.perst }
    boot := { Boot.init with badBank := s.boot.badBank, cause := s.boot.cause, causeRail := s.boot.causeRail }
    free := s.free, out := s.out }

/-- R442: a segment starts AWAKE; its windows run from here, a retry window runs on. -/
def segStart (s : State) (n : Nat) : State :=
  let s := if (segAt s n).st = 2 then setSleepReq s n false else s
  setSeg s n { Seg.init with w := s.lan.lnt, a := (segAt s n).a }

/-- R413: the cause of a start, in the lantern's latch. -/
def setCause (s : State) (cause rail : Nat) : State := { s with boot := { s.boot with cause := cause, causeRail := rail } }

/-- The lantern's part of every start: it is in ACTIVE, with no window and no entry in hand. -/
def lanternActive (s : State) : State :=
  setB (setF { s with lan := { s.lan with dev := none, entering := none, latched := none, waiting := none, meanwhile := [] } } 0x7000C 1 0 0)
    0x7000C 3 false

/-- R412, R414: held in reset: RESET_N low, or a brown-out. An entry into STANDBY or SLEEP in hand is given up. -/
def holdReset (s : State) (cause rail : Nat) : State :=
  let s := lanternActive (setCause (blocksReset s) cause rail)
  { s with boot := { s.boot with resetLow := true } }

/-- R412, R442: a device reset at its t = 0: LANTERN is set, every segment starts AWAKE. R421: the bank marked failed is one of a run of starts, which a
start for another cause ends. -/
def deviceStart (s : State) (cause rail : Nat) : State :=
  let s := lanternActive (setCause (blocksReset s) cause rail)
  let s := (List.range 48).foldl segStart s
  setB { s with boot := { s.boot with stage := 1, badBank := if cause = 5 then s.boot.badBank else none } } 0x14 0 true

/-! ### The rows -/

/-- R391: DEVICE in DEV_RESET, a locked write-only field. -/
def devResetOp (s : State) (q : Requester) : State := if keyOk s q then deviceStart s 2 0 else lockReject s

def execDeviceResetWrite (q : Requester) (s : State) : Host.Outcome State Fault Refusal := done (disarm (devResetOp s q) q)

/-- R412, R506: RESET_N low for 1 µs; in SLEEP the lantern latches it. -/
def resetLow (s : State) : State :=
  if inSleep s then { setCause s 1 0 with boot := { s.boot with cause := 1, causeRail := 0, resetLow := true } } else holdReset s 1 0

def execResetNAsserted (s : State) : Host.Outcome State Fault Refusal := done (resetLow s)

/-- R403: the rails with a brown-out limit: VCORE, VSRAM, 1.8 V I/O, VIN. -/
def brownRail (r : Nat) : Bool := r < 3 || r == 6

/-- R404, R412, R520: a rail below its limit holds the device in reset until it is over, and what the voltage sensor has reported of the same dip is
kept; below the lantern rail's, the lantern is reset too, and
only a cold start follows. -/
def brownOutOp (s : State) (r : Nat) : State :=
  if r = 7 then
    { State.reset with pending := s.pending, regs := posPin s, otp := s.otp, flash := s.flash
                       pcie := { Pcie.init with perst := s.pcie.perst }, free := s.free, out := s.out }
  else if brownRail r && railOn s r && (decide (s.boot.stage > 0) || inSleep s) then
    holdReset { s with sec := { s.sec with owed := s.sec.owed ++ s.sec.tripped } } 3 r
  else s

def execBrownOut (r : Fin 8) (s : State) : Host.Outcome State Fault Refusal := done (brownOutOp s r.val)

/-- R412: RESET_N high again, or the end of the brown-out: the device starts with the cause that was latched. -/
def resetEnd (s : State) : State := if s.boot.resetLow then deviceStart s s.boot.cause s.boot.causeRail else s

def execDeviceReset (s : State) : Host.Outcome State Fault Refusal := done (resetEnd s)

/-- R412: VIN has been there for 100 µs: everything starts, the lantern too; nothing of an earlier run is left but OTP and flash. -/
def coldStartOp (s : State) : State :=
  { State.reset with pending := s.pending, regs := posPin s, otp := s.otp, flash := s.flash
                     pcie := { Pcie.init with perst := s.pcie.perst }, free := s.free, out := s.out }

def execColdStart (s : State) : Host.Outcome State Fault Refusal := done (coldStartOp s)

end Sys2Proof.Machine
end

