-- ==== Sys2Proof/Machine/Lan.lean ====
section
/-!
DEFINITION. Sys2Proof/Machine/Lan.lean: wake sources, the power states of the device, and the PWR commands (R434, R441 to R447). The segments are
in Machine/Segments.lean.
-/
namespace Sys2Proof.Machine

/-! ### The device window (R441) -/

def deepOf (s : State) : Nat := getF s 0x70008 9 8

/-- Every segment whose MODE_REQ is not DISABLED is ASLEEP. -/
def allAsleep (s : State) : Bool := (List.range 48).all fun n => modeReq s n == 0 || (segAt s n).st == 2

/-- The conditions of the device window; in a pair the ACTIVE unit alone opens it, and none opens in ACTIVATING (R496, rows 18 and 19). -/
def devCond (s : State) : Bool :=
  deepOf s != 0 && getB s 0x3A004 0 && !getB s 0x7000C 2 && allAsleep s && decide (budMode s < 2) && s.upd.mode != 2
    && decide (s.boot.stage > 0) && decide (powerState s < 2)

/-- The window closes early: SLEEP_ABORT alone; LAN_ABORT_CNT counts the aborts of segments (DESIGN CHOICE, log 42). -/
def devAbort (s : State) : State :=
  raise (setB { s with lan := { s.lan with dev := none } } 0x7000C 3 false) 0x70000 2

/-! ### Entry into STANDBY and SLEEP (R441, R443, R496) -/

/-- Every channel held DISABLED, its standby asserted by the lantern. -/
def channelHold (s : State) (n : Nat) : State := setB (enterDisabled s n) (canR n 0x30) 17 true

/-- R496, row 9: the link gone, the queue discarded with cause 1. -/
def portHold (s : State) (p : Nat) : State := portOff s p

/-- R279: outputs of the lines at their inactive level; an edge that waits is not captured. -/
def linesIdle (s : State) : State := (List.range 16).foldl (fun a n => setTe a n { teAt a n with active := false, cand := none }) s

/-- R280, R282: after STANDBY an output is active again where LT still lies in a window that had begun (log 17). -/
def linesBack (s : State) : State :=
  (List.range 16).foldl (fun a n =>
    let t := ltNs a
    let start := if tePeriod a n = 0 then teStart a n else t - (t - teStart a n) % tePeriod a n
    setTe a n { teAt a n with active := teDrives a n && teInside a n t && decide (start < (teAt a n).done) }) s

/-- R277, R279: the time mode after STANDBY: FREE with STEP_ARMED, and its exits judged. -/
def timeBack (s : State) : State :=
  let s := setB s 0x6000C 2 true
  timeEval (if timeMode s = 0 then s else toMode s 0 (timeSel s) 4)

/-- R441, R447, R494: the commit, in the order of the matrix: channels, ports, lines, then item 0xB1 and the state; cause 0x7D the device window, 0x7F
a command. -/
def powerCommit (s : State) (target cause : Nat) : State :=
  let s := budInput s 4 [6, BitVec.ofNat 8 target, BitVec.ofNat 8 cause]
  let s := (List.range 48).foldl channelHold s
  let s := linesIdle ((List.range 25).foldl portHold s)
  let s := pwrItem s (pwrState s) target (some cause)
  let s := setB (setF s 0x7000C 1 0 target) 0x7000C 3 false
  { s with lan := { s.lan with dev := none, entering := some target, latched := none, meanwhile := [] }
           pcie := { s.pcie with link := false } }

/-- The device window has ended: the commit that DEEP gives, which nothing stamped at or after the end prevents. -/
def devWindowOp (s : State) : State :=
  match s.lan.dev with
  | none => s
  | some (d, n) => if d + n ≤ s.lan.lnt then powerCommit s (deepOf s + 1) 0x7D else if devCond s then s else devAbort s

/-- The window as its conditions stand in this tick of LNT. One that has ended waits for its commit. -/
def devEval (s : State) : State :=
  match s.lan.dev with
  | none =>
    if devCond s then setB { s with lan := { s.lan with dev := some (s.lan.lnt, msTicks (getF s 0x70008 31 16)) } } 0x7000C 3 true else s
  | some (d, n) => if d + n ≤ s.lan.lnt || devCond s then s else devAbort s

def execDeviceWindowEnd (s : State) : Host.Outcome State Fault Refusal := done (devWindowOp s)

/-- R121: the lines of the cache written back. -/
def cacheClean (m : SMap CLine) : SMap CLine := m.map fun e => (e.1, { e.2 with dirty := false })

/-- R397: every loop stopped. -/
def loopsStop (s : State) : State := setF s 0x1000C 11 0 0

/-- R476 (row 19 of R496): SLEEP ends a staging; the block keeps nothing else but the lantern, which has the segments and its latches. -/
def sleepState (s : State) : State :=
  let t := blocksReset s
  let t := { t with sec := { t.sec with sleepCfg := rd s 0x90014, tap := .bypass }, boot := { t.boot with loaded := s.boot.loaded } }
  (List.range 48).foldl (fun a n => setB a (canR n 0x30) 17 true) t

/-! ### Leaving STANDBY (R442, R444) -/

/-- The segments that source i names (R434). -/
def sourceSegs (s : State) (i : Nat) : List Nat :=
  if i < 48 then [i]
  else if i < 72 then (List.range 48).filter fun n => getB s (0x70200 + 8 * (i - 48) + 4 * (n / 32)) (n % 32)
  else []

/-- R434: the sources that wake the device. -/
def wakesDevice (i : Nat) : Bool := decide (48 ≤ i) && decide (i < 74)

/-- R439: inside a holdoff window only a WAKE pin wakes; `t` is the source's stamp. -/
def heldOff (s : State) (n i t : Nat) : Bool := heldAt s n t && !(decide (48 ≤ i) && decide (i < 56))

/-- R437, R438: a source accepted at `t` at one of its segments. -/
def segSource (i t : Nat) (s : State) (n : Nat) : State :=
  let s := segAct (segDue s n) n
  let g := segAt s n
  if g.st = 2 then (if heldOff s n i t then s else segTurn s n 5 i)
  else if g.st = 1 then abortSeg s n i
  else s

/-- R434: accepted: PEND and LAST_WAKE. -/
def sourceMark (s : State) (i : Nat) : State := setF (setB s (0x70034 + 4 * (i / 32)) (i % 32) true) 0x7000C 14 8 i

/-- R434: the source acts: its enable is set, and for a pin EDGE accepts something. R414: enables take effect once DEVICE applies. -/
def wakeEnabled (s : State) (i : Nat) : Bool :=
  s.boot.loaded && nbit (triVal s 1 (i / 32)) (i % 32) && (decide (i < 48) || decide (72 ≤ i) || getF s (0x70100 + 4 * (i - 48)) 1 0 != 0)

/-- R447: the items of the time away are written, the one of the return before them. -/
def flushItems (s : State) : State :=
  let its := s.lan.items
  let s := { s with lan := { s.lan with items := [], wakeItem := false } }
  its.foldl (fun a x => evtItem a 0x70008 0 x.1 x.2.1 x.2.2) s

/-- R414: the loops at the rails: 0, 1, 2 and 4 from the internal oscillator, 3 stopped, 5 from a qualified SerDes reference. -/
def loopsStart (s : State) : State :=
  let s := [0, 1, 2, 4].foldl (fun a k => setLoop a k 1) (setF s 0x1000C 11 0 0)
  if sdrefOk s then setLoop s 5 2 else s

/-- R442, R439: a source accepted while the device was away wakes its segment. -/
def segAway (i t : Nat) (s : State) (n : Nat) : State :=
  if (segAt s n).st = 2 ∧ heldOff s n i t = false then segStep s n 5 i else s

/-- R444, R279, R408, R494, R496: the return from STANDBY at its wake decision by source i, its changes in the order of the matrix. The crystal qualifies anew; pacing is in LIMIT, without
its event; time is FREE with STEP_ARMED = 1; contexts lost with the link are detached; a pair's unit is WITHDRAWN. -/
def standbyReturn (s : State) (i : Nat) : State :=
  let away := s.lan.meanwhile
  let new := bnat (anyAsleep s)
  let old := pwrState s
  let s := setF { s with lan := { s.lan with entering := none, latched := none, meanwhile := [] } } 0x7000C 1 0 new
  let s := loopsStart (setB s 0x1000C 13 false)
  let s := (List.range 48).foldl (fun a n => if (segAt a n).st = 2 then a else tryLeave (setB a (canR n 0x30) 17 false) n) s
  let s := (List.range 25).foldl trainStart s
  let s := timeBack (linesBack s)
  let s := flushItems (raise (pwrItem s old new (some i)) 0x70000 0)
  let s := away.foldl (fun a j => (sourceSegs a j.1).foldl (segAway j.1 j.2) a) s
  let s := if budMode s = 0 then s else withdraw s 5 true
  let s := setB s 0x10108 0 true
  let s := { s with clk := { s.clk with good := 0, ceil := 0, below := 0, qual := qualStart s }, pcie := { s.pcie with link := !s.pcie.perst } }
  detachAll s

/-- R434 to R441: an enabled source accepted. A device window that has ended commits first. After a commit a source is latched, for the device and, with its
stamp, for its segments. -/
def sourceOp (s : State) (i : Nat) : State :=
  if !wakeEnabled s i then s
  else
    let s := devWindowOp (sourceMark s i)
    if powerState s < 2 then
      let s := (sourceSegs s i).foldl (segSource i s.lan.lnt) s
      let s := if wakesDevice i && s.lan.dev.isSome then devAbort s else s
      devEval s
    else
      let l := { s.lan with meanwhile := s.lan.meanwhile ++ [(i, s.lan.lnt)]
                            latched := if wakesDevice i && s.lan.latched.isNone then some i else s.lan.latched }
      { s with lan := l }

/-- R412, R442: the wake from SLEEP by source i: a start of its own kind. The named segments and those with ROLE OFF start AWAKE, the others
ASLEEP; a segment whose MODE_REQ proves to be DISABLED starts AWAKE once the image has set it (R437). -/
def sleepSeg0 (names : List Nat) (s : State) (n : Nat) : State :=
  if names.contains n || segRole s n == 0 then segStart s n
  else setB (setSeg s n { Seg.init with st := 2, w := s.lan.lnt, a := (segAt s n).a, f := (segAt s n).f }) (canR n 0x30) 17 true

def sleepReturn (s : State) (i : Nat) : State :=
  let names := sourceSegs s i
  let old := pwrState s
  let s := lanternActive (setCause (blocksReset s) 4 0)
  let s := (List.range 48).foldl (sleepSeg0 names) { s with boot := { s.boot with badBank := none } }
  let new := bnat (anyAsleep s)
  let s := raise (setF { s with lan := { s.lan with wakeItem := true } } 0x7000C 1 0 new) 0x70000 0
  let s := pwrItem s old new (some i)
  setB { s with boot := { s.boot with stage := 1, wake := some i } } 0x14 0 true

/-- A device wake source, and the return that it brings where the device is in STANDBY or SLEEP. R507: a RESET_N that the lantern has latched in SLEEP is
not lost to it: the start waits for its release. -/
def wakeReturn (s : State) : State :=
  match s.lan.latched with
  | none => s
  | some i => if s.boot.resetLow then s else if inStandby s then standbyReturn s i else if inSleep s then sleepReturn s i else s

def execWakeSourceAccepted (i : Fin 74) (s : State) : Host.Outcome State Fault Refusal := done (wakeReturn (sourceOp s i.val))

def execStandbyWake (i : Fin 74) (s : State) : Host.Outcome State Fault Refusal :=
  done (if inStandby s && wakesDevice i.val then wakeReturn (sourceOp s i.val) else s)

def execSleepWake (i : Fin 74) (s : State) : Host.Outcome State Fault Refusal :=
  done (if inSleep s && wakesDevice i.val then wakeReturn (sourceOp s i.val) else s)

/-- R396, R441: the state that is entered can be reached: no loop that it stops is ramping. -/
def entryReady (s : State) (target : Nat) : Bool := s.lan.entering == some target && s.clk.ramps.isEmpty

/-- R443, R444: STANDBY is reached: loops stopped, the cache written back, the image retained; a latched source ends it at once. -/
def standbyOp (s : State) : State :=
  if entryReady s 2 then
    let s := loopsStop { s with lan := { s.lan with entering := none }, cache := cacheClean s.cache, boot := { s.boot with resume := s.boot.resume || imageReady s } }
    wakeReturn (setB (setB s 0x1A0000 0 false) 0x14 8 false)
  else s

def execStandbyReached (s : State) : Host.Outcome State Fault Refusal := done (standbyOp s)

/-- R443: SLEEP is reached: only the lantern runs. -/
def sleepOp (s : State) : State :=
  if entryReady s 3 then wakeReturn (sleepState { s with lan := { s.lan with entering := none } }) else s

def execSleepReached (s : State) : Host.Outcome State Fault Refusal := done (sleepOp s)

/-! ### Segment rows (R436 to R439) -/

/-- Segment rows act while the segments do. -/
def segRow (s : State) (n : Nat) (op : State → Nat → State) : State := if powerState s < 2 then devEval (op s n) else s

def execSettleEnd (n : Chan) (s : State) : Host.Outcome State Fault Refusal := done (segRow s n.val settleEndOp)
def execMaxAwakeExpiry (n : Chan) (s : State) : Host.Outcome State Fault Refusal := done (segRow s n.val maxAwakeOp)
def execMinAwakeEnd (n : Chan) (s : State) : Host.Outcome State Fault Refusal :=
  done (segRow s n.val fun a k => if minOver a k then trySettle a k else a)
def execRetryWindowEnd (n : Chan) (s : State) : Host.Outcome State Fault Refusal :=
  done (segRow s n.val fun a k => if retryOver a k then trySettle a k else a)
def execHoldoffEnd (n : Chan) (s : State) : Host.Outcome State Fault Refusal := done (segRow s n.val holdoffOp)

/-- R436, R445: LAN_CMD as a register word: SEG above 47 is out of range; with both bits the wake wins, and the meeting counts. -/
def lanCmdOp (s : State) (data : Word) : State :=
  let n := fld data 5 0
  if n > 47 then raise s 0x70000 5
  else
    let s := if data.getLsbD 6 then (askWake s n).1 else s
    let s := if data.getLsbD 7 then (askSleep s n).1 else s
    devEval s

def execLanCmdSleep (q : Requester) (data : Word) (s : State) : Host.Outcome State Fault Refusal :=
  done (disarm (pairedWrite s q 0x70030 (putFld data 7 7 1) fun a => lanCmdOp a (putFld data 7 7 1)) q)

def execLanCmdWake (q : Requester) (data : Word) (s : State) : Host.Outcome State Fault Refusal :=
  done (disarm (pairedWrite s q 0x70030 (putFld data 6 6 1) fun a => lanCmdOp a (putFld data 6 6 1)) q)

/-- R445: the four counters. -/
def lanClear (s : State) : State := zeroAll s (wordsFrom 0x70060 4)

def execLanCntClr (q : Requester) (s : State) : Host.Outcome State Fault Refusal := done (disarm (lanClear s) q)

/-! ### Commands (R446) -/

/-- The segments that a mask names. -/
def maskSegs (m : Nat) : List Nat := (List.range 48).filter fun n => m.testBit n

def segMask (l : List Nat) : Nat := l.foldl (fun a n => a + 2 ^ n) 0

/-- C0 and the owner of every segment named; bits that name no segment pass (log 33). -/
def maskComp (s : State) (r : Req) (m : Nat) : Bool := (maskSegs m).all fun n => mayAct r.comp (chanOwner s n)

def maskBad (m : Nat) : Bool := decide (m ≥ 2 ^ 48)

def pwrStateBytes (s : State) : List Byte :=
  u8s [pwrState s, getF s 0x7000C 14 8, getF s 0x7000C 2 2, 0]
    ++ regBytes s (wordsFrom 0x7001C 3 ++ wordsFrom 0x70034 3 ++ wordsFrom 0x70028 2 ++ [0x70040])

def cmdPwrGet : Command := fun s r => checked true (r.len == 0) s (s, answerOk (pwrStateBytes s))

/-- A command over the segments of a mask: what each does, and which of them said yes. -/
def eachSeg (op : State → Nat → State × Bool) (s : State) (l : List Nat) : State × List Nat :=
  l.foldl (fun a n => let x := op a.1 n; (x.1, if x.2 then a.2 ++ [n] else a.2)) (s, [])

def cmdSegSleep : Command := fun s r =>
  let m := r.at 0 8
  checked (maskComp s r m) (r.len == 8) s
    (if budBars s then refuse s eState
     else if maskBad m then refuse s eRange
     else
       let x := eachSeg askSleep s (maskSegs m)
       (x.1, answerOk (leBytes 8 (segMask x.2) ++ leBytes 8 (m - segMask x.2))))

def cmdSegWake : Command := fun s r =>
  let m := r.at 0 8
  checked (maskComp s r m) (r.len == 8) s
    (if budBars s then refuse s eState
     else if maskBad m then refuse s eRange
     else
       let x := eachSeg askWake s (maskSegs m)
       (devEval x.1, answerOk (leBytes 8 (segMask x.2))))

def cmdSetHold : Command := fun s r =>
  let m := r.at 0 8
  let v := r.at 8 1
  checked (maskComp s r m) (r.len == 12) s
    (if budBars s then refuse s eState
     else if maskBad m || v > 1 then refuse s eRange
     else (supWrote ((maskSegs m).foldl (fun a n => holdSet a n (v == 1)) s), answerOk []))

/-- R434, R390: the three words of the wake enables; word 2 has ten sources. -/
def setWakes (s : State) (a b c : Nat) : State := setTri (setTri (setTri s 1 0 a) 1 1 b) 1 2 c

def cmdSetWake : Command := fun s r =>
  checked (r.comp == 0) (r.len == 12) s
    (if r.at 8 4 ≥ 1024 then refuse s eRange else (setWakes s (r.at 0 4) (r.at 4 4) (r.at 8 4), answerOk []))

/-- PWR_SET_STATE 2 and 3: every segment ASLEEP without roll call and without holdoff, then the commit. -/
def forceAsleep (s : State) : State :=
  (List.range 48).foldl (fun a n => if (segAt a n).st = 2 then a else segTurn a n 1 0x7F) s

def powerEnter (s : State) (act : Nat) : State :=
  if s.upd.mode = 2 ∧ (s.upd.swaps ≠ 0 ∨ s.upd.pair ≠ 0) then { s with lan := { s.lan with waiting := some act } }
  else powerCommit (forceAsleep s) act 0x7F

def setDevHold (s : State) (b : Bool) : State := devEval (setB (devWindowOp s) 0x7000C 2 b)

/-- The response is posted before entry begins: the entry is the last thing the command does (`respond` follows in the same step).
R496, row 18: only an ACTIVE unit of a pair executes it. R528, item 1: another answers E_STATE. -/
def cmdSetState : Command := fun s r =>
  let a := r.at 0 1
  let ans := answerOk (u8s [pwrState s, 0, 0, 0])
  checked (r.comp == 0) (r.len == 4) s
    (if budBars s || budMode s == 3 then refuse s eState
     else if a > 3 then refuse s eRange
     else if a < 2 then (supWrote (setDevHold s (a == 1)), ans)
     else (powerEnter s a, ans))

def execPwrGetState (m : Mbx) (s : State) : Host.Outcome State Fault Refusal := done (cmdRow s m.val 0x0701 cmdPwrGet)
def execPwrSegSleep (m : Mbx) (s : State) : Host.Outcome State Fault Refusal := done (cmdRow s m.val 0x0702 cmdSegSleep)
def execPwrSegWake (m : Mbx) (s : State) : Host.Outcome State Fault Refusal := done (cmdRow s m.val 0x0703 cmdSegWake)
def execPwrSetHold (m : Mbx) (s : State) : Host.Outcome State Fault Refusal := done (cmdRow s m.val 0x0704 cmdSetHold)
def execPwrSetWake (m : Mbx) (s : State) : Host.Outcome State Fault Refusal := done (cmdRow s m.val 0x0705 cmdSetWake)
def execPwrSetState (m : Mbx) (s : State) : Host.Outcome State Fault Refusal := done (cmdRow s m.val 0x0706 cmdSetState)

end Sys2Proof.Machine
end

