-- ==== Sys2Proof/Machine/Rings.lean ====
section
/-!
DEFINITION. Sys2Proof/Machine/Rings.lean: transmit rings: KICK and the four kinds of descriptor (R323 to R329, R455). Descriptors of a
reserved KIND are returned as the ring is examined (txExamine in Machine/Egress.lean).
-/
namespace Sys2Proof.Machine

/-- R329: completion statuses. -/
def dsOk : Nat := 0
def dsInvalid : Nat := 1
def dsRange : Nat := 2
def dsDenied : Nat := 3
def dsRefused : Nat := 4
def dsSuppressed : Nat := 5
def dsState : Nat := 6
def dsSent : Nat := 7

/-- R327: KICK; ignored while the ring is disabled. -/
def kickOp (s : State) (r : Nat) : State :=
  if !ringOn s r then s
  else
    let s := setRing s r { ringAt s r with kicked := true }
    if budMode s = 2 then s else txExamine r (ringSize s r) s

def execRingKick (q : Requester) (r : Fin 16) (win : List (BitVec 32 × List Byte)) (s : State) : Host.Outcome State Fault Refusal :=
  done (disarm (kickOp (hostWrites s win) r.val) q)

/-- The descriptor at POS is carried out now and is of this KIND. -/
def txReady (s : State) (r kind : Nat) : Bool :=
  ringOn s r && (ringAt s r).kicked && (ringAt s r).wait.isNone && budMode s != 2 && txOwn s r && txKind s r == kind

/-- A descriptor of a kind: its effect and its status. -/
def txRow (s : State) (r kind : Nat) (op : State → Nat → State × Nat) : State :=
  if txReady s r kind then
    let x := op s r
    txDone x.1 r x.2
  else s

/-- R324: the tag of the descriptor and the compartment it acts for. -/
def txTag (s : State) (r : Nat) : Nat := fld (descWord s r 0) 31 16
def ringClass (s : State) (r : Nat) : Nat := getF s (ringR r 0) 13 12

/-! ### FRAME -/

/-- The frame of a FRAME descriptor. -/
def txFrameOf (s : State) (r : Nat) (d : Nat) : SwFrame :=
  let w := descWord s r 2
  { newFrame (winRead s (descWord s r 1).toNat (fld w 13 0)) 25 (lt16 s) false with
      tc := fld w 16 14, csum := w.getLsbD 17, directed := d == 1, ts := if w.getLsbD 18 then some r else none }

/-- R329: what stops a FRAME before it enters the switch. -/
def txFrameCheck (s : State) (r : Nat) : Nat :=
  let w := descWord s r 2
  let n := fld w 13 0
  let p := fld w 24 20
  if n < 60 ∨ n > 9212 ∨ (w.getLsbD 19 ∧ p > 23) then dsInvalid
  else if !inWindow s (descWord s r 1).toNat n then dsRange
  else if w.getLsbD 19 && !mayAct (ringOwner s r) (portOwner s p) then dsDenied
  else if !getB s 0x180000 0 then dsState
  else dsOk

/-- R210, R328, R456: a frame directed at a port that is DOWN, or at one of a pair that sends frames from SG alone, is dropped, counted as one without a
target (log 30). -/
def txDirect (s : State) (r p : Nat) (f : SwFrame) : State × Bool × Bool :=
  if portState s p = 0 || syncOnly s (p - p % 2) then (incC s (fwdR 25 0x18), false, false)
  else
    let x := placeFrame s f none { va := none, vb := none, d := [p], auth := false, comp := ringOwner s r }
    (x.1, x.2, true)

/-- R216, R237: a frame decided in the planes of SW_HP_PLANE. -/
def txSwitched (s : State) (r : Nat) (f : SwFrame) : State × Bool × Bool :=
  let c := ringOwner s r
  let d := decideBoth s (getF s 0x180010 (2 * r + 1) (2 * r)) { q := 25, phys := none, comp := c, tc := some f.tc, data := f.data }
  let v := verdictOf d.2.1 d.2.2
  let x := placeFrame d.1 { f with tc := v.tc, vid := v.vid } none { va := d.2.1, vb := d.2.2, d := [], auth := false, comp := c }
  (x.1, x.2, !(verdictTargets d.2.1 ++ verdictTargets d.2.2).isEmpty)

/-- A stored frame that HP and SG alone have: no port will release it with an egress stamp. -/
def innerOnly (s : State) (id : Nat) : Bool :=
  match frameAt s id with
  | some f => (f.queued ++ f.sending).all (· ≥ 24)
  | none => false

def dropTs (s : State) (id : Nat) : State :=
  match frameAt s id with
  | some f => setFrame s { f with ts := none }
  | none => s

/-- R328: a FRAME. With TSREQ the descriptor waits for the release of the stored frame. -/
def txFrame (s : State) (r : Nat) : State :=
  let st := txFrameCheck s r
  if st ≠ dsOk then txDone s r st
  else
    let w := descWord s r 2
    let id := s.sw.nextId
    let f := txFrameOf s r (fld w 19 19)
    let s := if w.getLsbD 18 then setRing s r { ringAt s r with wait := some id } else s
    let x := if w.getLsbD 19 then txDirect s r (fld w 24 20) f else txSwitched s r f
    if !x.2.1 then txDone x.1 r (if x.2.2 then dsRefused else dsOk)
    else if innerOnly x.1 id then txDone (dropTs x.1 id) r dsOk
    else if !w.getLsbD 18 || ((ringAt x.1 r).wait.isSome && (frameAt x.1 id).isNone) then txDone x.1 r dsOk
    else x.1

def execTxDescFrame (r : Fin 16) (s : State) : Host.Outcome State Fault Refusal :=
  done (if txReady s r.val 1 then txFrame s r.val else s)

/-! ### CAN -/

/-- R90, R309, R328: the effect of a CAN descriptor; whether a request was made comes with the state. -/
def canSendOp (s : State) (o owner : Nat) (lock : Option Nat) (hdr : XlHdr) (data : List Byte) : State × Bool :=
  let live := objLive s o
  let s := match lock, live with
    | some ms, some x => (lockAsk s x.1 owner ms).1
    | _, _ => s
  let x := sendSealed s o hdr data owner
  (x.1, x.2 && live.isSome)

/-- The payload of a CMD record of kind 3: a CAN descriptor. -/
def canSendBytes (o owner : Nat) (lock : Option Nat) (hdr : XlHdr) (data : List Byte) : List Byte :=
  [3, BitVec.ofNat 8 owner] ++ beBytes 4 o ++ [BitVec.ofNat 8 (bnat lock.isSome)] ++ beBytes 2 (lock.getD 0) ++ hdrBytes hdr ++ data

def txCan (s : State) (r : Nat) : State × Nat :=
  let o := fld (descWord s r 2) 16 0
  let w := descWord s r 3
  let len := fld w 11 0
  let lock := w.getLsbD 12
  let ms := fld (descWord s r 4) 15 0
  let e := motAt s o
  let c := ringOwner s r
  let skip := if moXl e then 8 else 0
  let buf := (descWord s r 1).toNat
  let other := match objIdent s o with
    | some x => lock && !mayAct c (chanOwner s x.1)
    | none => false
  if !moValid e || !moTx e || !sendLenOk e 2048 len || (lock && ms == 0) then (s, dsInvalid)
  else if !inWindow s buf (skip + len) then (s, dsRange)
  else if !mayAct c (owned s (moComp e)) || other then (s, dsDenied)
  else
    let bs := winRead s buf (skip + len)
    let hdr := if moXl e then hdrOf bs else noHdr
    let lk := if lock then some ms else none
    let x := canSendOp (budInput s 4 (canSendBytes o (0x40 + r) lk hdr (bs.drop skip))) o (0x40 + r) lk hdr (bs.drop skip)
    (x.1, if x.2 then dsOk else dsState)

def execTxDescCan (r : Fin 16) (s : State) : Host.Outcome State Fault Refusal := done (txRow s r.val 2 txCan)

/-! ### SIGNAL -/

/-- R162, R180: one signal write: local as an update, else posted. -/
def signalWrite (s : State) (orig tag : Nat) (w : RwRec) : State × Nat :=
  if gVeh w.g = ownVeh s then
    let u := hostWritePooled s (12 + ringClass s (orig - 0x40)) w
    (u.1, if u.2.isNone then dsRefused else if u.2 = some true then dsOk else dsSuppressed)
  else ((rwSendTo s (gVeh w.g) orig tag [w]).1, dsSent)

/-- The payload of a CMD record of kind 4: a signal write. -/
def signalBytes (orig tag : Nat) (w : RwRec) : List Byte :=
  [4, BitVec.ofNat 8 orig] ++ beBytes 2 tag ++ beBytes 4 w.g ++ beBytes 8 w.value.toNat

def txSignal (s : State) (r : Nat) : State × Nat :=
  let g := fld (descWord s r 2) 24 0
  let w : RwRec := { g := g, value := BitVec.ofNat 64 ((descWord s r 4).toNat + 2 ^ 32 * (descWord s r 5).toNat) }
  let p := 12 + ringClass s r
  if gSeg g < 56 ∨ gSeg g > 59 then (s, dsInvalid)
  else if !mayAct (ringOwner s r) (segOwner s (gSeg g)) then (s, dsDenied)
  else if !imageReady s then (s, dsState)
  else if gVeh g = ownVeh s && !poolFits s p 8 then (poolRefuse s p 3 0xFFFFFFFF, dsRefused)
  else signalWrite (budInput s 4 (signalBytes (0x40 + r) (txTag s r) w)) (0x40 + r) (txTag s r) w

def execTxDescSignal (r : Fin 16) (s : State) : Host.Outcome State Fault Refusal := done (txRow s r.val 3 txSignal)

/-! ### UNLOCK -/

def txUnlock (s : State) (r : Nat) : State × Nat :=
  let n := fld (descWord s r 2) 5 0
  if n > 47 then (s, dsInvalid)
  else
    let x := lockFree (budInput s 4 [5, BitVec.ofNat 8 (0x40 + r), BitVec.ofNat 8 n]) n (0x40 + r)
    (x.1, if x.2 then dsOk else dsInvalid)

def execTxDescUnlock (r : Fin 16) (s : State) : Host.Outcome State Fault Refusal := done (txRow s r.val 4 txUnlock)

end Sys2Proof.Machine
end

