-- ==== Sys2Proof/Machine/Tables.lean ====
section
/-!
DEFINITION. Sys2Proof/Machine/Tables.lean: the table command interface (R92, R93, R160, R191, R256 to R260, R317, R527): READ, the choice
of an operation, and the sixteen command pages.
-/
namespace Sys2Proof.Machine

/-- R92, R160, R191, R260, R317: the operations each table lists. -/
def tblOps (tab : Nat) : List Nat :=
  match tab with
  | 0x01 => [1, 2, 3]
  | 0x02 => [1, 7, 8]
  | 0x03 => [1, 4, 5, 6]
  | 0x04 => [1, 2, 3, 8]
  | 0x05 => [1, 2, 3]
  | 0x06 => [1, 2, 3]
  | 0x07 => [1, 2, 3]
  | 0x08 => [1, 2, 3, 8]
  | 0x09 => [1, 2, 3, 8]
  | 0x0A => [1, 2, 3]
  | 0x0B => [1, 2, 3]
  | 0x0C => [1, 2, 3]
  | 0x0D => [1, 2, 3, 8]
  | 0x10 => [1, 2, 3, 4, 5, 6, 0xA]
  | 0x11 => [1, 2, 3, 4, 5, 6, 0xA]
  | 0x12 => [1, 2, 3]
  | 0x13 => [1, 2, 3]
  | 0x14 => [1, 2, 3]
  | 0x15 => [1, 2, 3]
  | 0x16 => [1, 2, 3]
  | 0x17 => [1, 2, 3]
  | 0x18 => [1, 2, 3]
  | _ => []

def tblKnown (tab : Nat) : Bool := !(tblOps tab).isEmpty

/-- The operation codes of the manual. -/
def opKnown (op : Nat) : Bool := [1, 2, 3, 4, 5, 6, 7, 8, 0xA].contains op

/-- R261: the tables with shadows. -/
def tblShadowed (tab : Nat) : Bool := decide (0x10 ≤ tab) && decide (tab ≤ 0x16)

/-- R527: the owner of an entry; none where the table's entries have no owner. -/
def entryOwner (s : State) (tab i : Nat) (e : BitVec 768) : Option Nat :=
  match tab with
  | 0x01 => some (owned s (moComp e))
  | 0x03 => some (owned s (xiComp e))
  | 0x04 => some (tstOwner s i)
  | 0x05 => some (owned s (sdComp e))
  | 0x07 => some (owned s (rlComp e))
  | 0x08 => some (owned s (dsComp e))
  | 0x09 => some (owned s (puComp e))
  | 0x0A => some (owned s (suComp e))
  | 0x0B => some (owned s (etComp e))
  | 0x0C => some (owned s (baComp e))
  | 0x0D => some (owned s (ttComp e))
  | 0x10 => some (owned s (efComp e))
  | 0x11 => some (owned s (efComp e))
  | 0x12 => some (owned s (vlComp e))
  | 0x13 => some (owned s (vlComp e))
  | 0x14 => some (owned s (irtComp e))
  | 0x15 => some (owned s (irtComp e))
  | 0x16 => some (owned s (meterComp e))
  | 0x17 => some (owned s (seComp e))
  | 0x18 => some (owned s (saComp e))
  | _ => none

/-- What a READ of an entry takes: TPT entry 0 is the identity (R137); with SHADOW the shadow's entry. -/
def readEntry (s : State) (tab i : Nat) (shadow : Bool) : BitVec 768 :=
  if shadow then shGet s tab i else if tab = 6 then tptAt s i else tGet s tab i

/-- R79, R92, R527: READ; MOVED, with the new index, of a position whose occupant has been copied and not yet invalidated. -/
def tblReadOp (s : State) (c tab i : Nat) (shadow : Bool) : State × TblRes :=
  let e := readEntry s tab i shadow
  let denied := match entryOwner s tab i e with
    | some o => !mayAct c o
    | none => false
  let st := tblStatus (decide (i ≥ tCount tab)) false denied false false false
  if st ≠ 0 then (s, tblStat st i)
  else
    match movedTo s tab i with
    | some j => (s, { status := if shadow then stOk else stMoved, result := if shadow then i else j, entry := some (eBytes (tBytes tab) e) })
    | none => (s, tblEntry i (eBytes (tBytes tab) e))

/-- WRITE. -/
def tblWriteOp (s : State) (c tab i : Nat) (d : List Byte) (sh : Bool) : State × TblRes :=
  match tab with
  | 0x01 => motWriteOp s c i d
  | 0x04 => tstWriteOp s c i d
  | 0x05 => sdpWriteOp s c i d
  | 0x06 => tptWriteOp s i d
  | 0x07 => rltWriteOp s c i d
  | 0x08 => dstWriteOp s c i d
  | 0x09 => pubWriteOp s c i d
  | 0x0A => subWriteOp s c i d
  | 0x0B => ettWriteOp s c i d
  | 0x0C => batWriteOp s c i d
  | 0x0D => tttWriteOp s c i d
  | 0x10 => eftWriteOp s c 0 i d sh
  | 0x11 => eftWriteOp s c 1 i d sh
  | 0x12 => vlanWriteOp s c 0 i d sh
  | 0x13 => vlanWriteOp s c 1 i d sh
  | 0x14 => irtWriteOp s c 0 i d sh
  | 0x15 => irtWriteOp s c 1 i d sh
  | 0x16 => meterWriteOp s c i d sh
  | 0x17 => sltWriteOp s c i d
  | 0x18 => saWriteOp s c i d
  | _ => (s, tblStat stInvalid i)

/-- CLEAR. -/
def tblClearOp (s : State) (c tab i : Nat) (sh : Bool) : State × TblRes :=
  match tab with
  | 0x01 => motClearOp s c i
  | 0x04 => tstClearOp s c i
  | 0x05 => sdpClearOp s c i
  | 0x06 => tptClearOp s i
  | 0x07 => rltClearOp s c i
  | 0x08 => dstClearOp s c i
  | 0x09 => pubClearOp s c i
  | 0x0A => subClearOp s c i
  | 0x0B => ettClearOp s c i
  | 0x0C => batClearOp s c i
  | 0x0D => tttClearOp s c i
  | 0x10 => eftClearOp s c 0 i sh
  | 0x11 => eftClearOp s c 1 i sh
  | 0x12 => vlanClearOp s c 0 i sh
  | 0x13 => vlanClearOp s c 1 i sh
  | 0x14 => irtClearOp s c 0 i sh
  | 0x15 => irtClearOp s c 1 i sh
  | 0x16 => meterClearOp s c i sh
  | 0x17 => sltClearOp s c i
  | 0x18 => saClearOp s c i
  | _ => (s, tblStat stInvalid i)

/-- SEND. -/
def tblSendOp (s : State) (c tab i : Nat) (d : List Byte) : State × TblRes :=
  match tab with
  | 0x02 => motSendOp s c i d
  | 0x04 => tstSendOp s c i
  | 0x08 => dstSendOp s c i
  | 0x09 => pubSendOp s c i
  | 0x0D => tttSendOp s c i
  | _ => (s, tblStat stInvalid i)

/-- A listed operation. -/
def tblListed (s : State) (c tab op i : Nat) (d : List Byte) (sh : Bool) : State × TblRes :=
  match op with
  | 1 => if tab = 2 then motStateReadOp s c i else tblReadOp s c tab i sh
  | 2 => tblWriteOp s c tab i d sh
  | 3 => tblClearOp s c tab i sh
  | 4 => if tab = 3 then ximInsertOp s c d true else eftInsertOp s c (tab % 2) d
  | 5 => if tab = 3 then ximDeleteOp s c d else eftDeleteOp s c (tab % 2) d
  | 6 => if tab = 3 then ximLookupOp s c d else eftLookupOp s c (tab % 2) d
  | 7 => motConsumeOp s c i
  | 8 => tblSendOp s c tab i d
  | _ => eftFlushOp s c (tab % 2) d

/-- R260, R527: an operation that is not listed; RANGE is the first cause in the order of statuses. -/
def tblUnlisted (s : State) (tab i : Nat) : State × TblRes :=
  (s, tblStat (if tblKnown tab && decide (i ≥ tCount tab) then stRange else stInvalid) i)

/-- R455: the tables of paired state. -/
def pairedTab (tab : Nat) : Bool := (decide (1 ≤ tab) && decide (tab ≤ 0xD)) || tab == tSlt

/-- R256, R258, R260, R261, R455, R527: a command of compartment `c`. All but READ and LOOKUP wait for a relocation of the table to end. -/
def tableOp (s : State) (c tab op i : Nat) (d : List Byte) (sh : Bool) : State × TblRes :=
  if !compExists s c then (s, tblStat stDenied i)
  else if sh && !(tblShadowed tab && decide (op ≤ 3)) then tblUnlisted s tab i
  else if pairedTab tab && budMode s == 2 && s.bud.executing.isNone then (s, tblStat stDenied i)
  else if !(tblOps tab).contains op then tblUnlisted s tab i
  else tblListed (if op == 1 || op == 6 then s else relocFinish s tab) c tab op i d sh

/-- R452: an ACTIVE unit forwards a command on a paired table, but for READ and LOOKUP, which change nothing. -/
def tblForward (s : State) (c tab op i : Nat) (d : List Byte) : State :=
  if pairedTab tab && op != 1 && op != 6 then
    budInput s 4 ([1, BitVec.ofNat 8 c, BitVec.ofNat 8 tab, BitVec.ofNat 8 op] ++ beBytes 4 i ++ d)
  else s

/-! ### The command pages (R256, R257) -/

def pageTab (s : State) (c : Nat) : Nat := getF s (pageR c 0) 7 0
def pageOp (s : State) (c : Nat) : Nat := getF s (pageR c 0) 15 8
def pageData (s : State) (c : Nat) : List Byte := (List.range 64).flatMap fun k => leBytes 4 (rd s (pageR c (0x100 + 4 * k))).toNat

/-- R78, R242: the relocation that an INSERT of compartment `c` needs which nothing refuses and which finds its buckets full. -/
def insertReloc (s : State) (c tab page : Nat) (d : List Byte) : Option Reloc :=
  if compExists s c = false then none
  else if tab = tXim then (if budMode s = 2 then none else ximReloc s c page d)
  else if tab = tEft 0 ∨ tab = tEft 1 then eftReloc s c (tab % 2) page d
  else none

/-- The relocation that the captured command of page `c` starts. -/
def pageReloc (s : State) (c : Nat) : Option Reloc :=
  if pageOp s c ≠ 4 ∨ getB s (pageR c 0) 16 = true then none else insertReloc s c (pageTab s c) c (pageData s c)

/-- The captured command of page `c`, executed. -/
def pageRun (s : State) (c : Nat) : State :=
  let tab := pageTab s c
  let op := pageOp s c
  let i := getF s (pageR c 4) 19 0
  let d := pageData s c
  let r := tableOp (if compExists s c then tblForward s c tab op i d else s) c tab op i d (getB s (pageR c 0) 16)
  pageEnd r.1 c r.2

/-- R258: an INSERT that relocates leaves the page BUSY until its last move and its entry are made; it is forwarded whole (R452). Every other command
completes at once. -/
def pageExec (s : State) (c : Nat) : State :=
  let w := if pageOp s c = 4 then relocFinish s (pageTab s c) else s
  match pageReloc w c with
  | some r =>
    let w := tblForward w c (pageTab s c) 4 (getF s (pageR c 4) 19 0) (pageData s c)
    { w with relocs := w.relocs ++ [r] }
  | none => pageRun w c

/-- The command of page `c` is under way: its relocation is in hand. -/
def relocating (s : State) (c : Nat) : Bool := s.relocs.any fun r => r.page == c

/-- A row: the page's command is executed where it is one of the row's. -/
def pageRow (s : State) (c : Nat) (tabs : List Nat) (op : Nat) : State :=
  if getB s (pageR c 8) 0 && !relocating s c && tabs.contains (pageTab s c) && pageOp s c == op then pageExec s c else s

/-- The tables with READ. -/
def readTabs : List Nat := [1, 2, 3, 4, 5, 6, 7, 8, 9, 0xA, 0xB, 0xC, 0xD, 0x10, 0x11, 0x12, 0x13, 0x14, 0x15, 0x16, 0x17, 0x18]

/-- The row of an operation that is not listed. -/
def pageUnlisted (s : State) (c : Nat) : State :=
  if getB s (pageR c 8) 0 && !(tblOps (pageTab s c)).contains (pageOp s c) then pageExec s c else s

def execTblRead (pg : Page) (s : State) : Host.Outcome State Fault Refusal := done (pageRow s pg.val readTabs 1)
def execTblUnlistedOp (pg : Page) (s : State) : Host.Outcome State Fault Refusal := done (pageUnlisted s pg.val)
def execMotWrite (pg : Page) (s : State) : Host.Outcome State Fault Refusal := done (pageRow s pg.val [1] 2)
def execMotClear (pg : Page) (s : State) : Host.Outcome State Fault Refusal := done (pageRow s pg.val [1] 3)
def execMotStateConsume (pg : Page) (s : State) : Host.Outcome State Fault Refusal := done (pageRow s pg.val [2] 7)
def execMotStateSend (pg : Page) (s : State) : Host.Outcome State Fault Refusal := done (pageRow s pg.val [2] 8)
def execXimInsert (pg : Page) (s : State) : Host.Outcome State Fault Refusal := done (pageRow s pg.val [3] 4)
def execXimDelete (pg : Page) (s : State) : Host.Outcome State Fault Refusal := done (pageRow s pg.val [3] 5)
def execXimLookup (pg : Page) (s : State) : Host.Outcome State Fault Refusal := done (pageRow s pg.val [3] 6)
def execTstWrite (pg : Page) (s : State) : Host.Outcome State Fault Refusal := done (pageRow s pg.val [4] 2)
def execTstClear (pg : Page) (s : State) : Host.Outcome State Fault Refusal := done (pageRow s pg.val [4] 3)
def execTstSend (pg : Page) (s : State) : Host.Outcome State Fault Refusal := done (pageRow s pg.val [4] 8)
def execSdpWrite (pg : Page) (s : State) : Host.Outcome State Fault Refusal := done (pageRow s pg.val [5] 2)
def execSdpClear (pg : Page) (s : State) : Host.Outcome State Fault Refusal := done (pageRow s pg.val [5] 3)
def execTptWrite (pg : Page) (s : State) : Host.Outcome State Fault Refusal := done (pageRow s pg.val [6] 2)
def execTptClear (pg : Page) (s : State) : Host.Outcome State Fault Refusal := done (pageRow s pg.val [6] 3)
def execRltWrite (pg : Page) (s : State) : Host.Outcome State Fault Refusal := done (pageRow s pg.val [7] 2)
def execRltClear (pg : Page) (s : State) : Host.Outcome State Fault Refusal := done (pageRow s pg.val [7] 3)
def execDstWrite (pg : Page) (s : State) : Host.Outcome State Fault Refusal := done (pageRow s pg.val [8] 2)
def execDstClear (pg : Page) (s : State) : Host.Outcome State Fault Refusal := done (pageRow s pg.val [8] 3)
def execDstSend (pg : Page) (s : State) : Host.Outcome State Fault Refusal := done (pageRow s pg.val [8] 8)
def execPubWrite (pg : Page) (s : State) : Host.Outcome State Fault Refusal := done (pageRow s pg.val [9] 2)
def execPubClear (pg : Page) (s : State) : Host.Outcome State Fault Refusal := done (pageRow s pg.val [9] 3)
def execPubSend (pg : Page) (s : State) : Host.Outcome State Fault Refusal := done (pageRow s pg.val [9] 8)
def execSubWrite (pg : Page) (s : State) : Host.Outcome State Fault Refusal := done (pageRow s pg.val [0xA] 2)
def execSubClear (pg : Page) (s : State) : Host.Outcome State Fault Refusal := done (pageRow s pg.val [0xA] 3)
def execEttWrite (pg : Page) (s : State) : Host.Outcome State Fault Refusal := done (pageRow s pg.val [0xB] 2)
def execEttClear (pg : Page) (s : State) : Host.Outcome State Fault Refusal := done (pageRow s pg.val [0xB] 3)
def execBatWrite (pg : Page) (s : State) : Host.Outcome State Fault Refusal := done (pageRow s pg.val [0xC] 2)
def execBatClear (pg : Page) (s : State) : Host.Outcome State Fault Refusal := done (pageRow s pg.val [0xC] 3)
def execTttWrite (pg : Page) (s : State) : Host.Outcome State Fault Refusal := done (pageRow s pg.val [0xD] 2)
def execTttClear (pg : Page) (s : State) : Host.Outcome State Fault Refusal := done (pageRow s pg.val [0xD] 3)
def execTttSend (pg : Page) (s : State) : Host.Outcome State Fault Refusal := done (pageRow s pg.val [0xD] 8)
def execEftWrite (pg : Page) (s : State) : Host.Outcome State Fault Refusal := done (pageRow s pg.val [0x10, 0x11] 2)
def execEftClear (pg : Page) (s : State) : Host.Outcome State Fault Refusal := done (pageRow s pg.val [0x10, 0x11] 3)
def execEftInsert (pg : Page) (s : State) : Host.Outcome State Fault Refusal := done (pageRow s pg.val [0x10, 0x11] 4)
def execEftDelete (pg : Page) (s : State) : Host.Outcome State Fault Refusal := done (pageRow s pg.val [0x10, 0x11] 5)
def execEftLookup (pg : Page) (s : State) : Host.Outcome State Fault Refusal := done (pageRow s pg.val [0x10, 0x11] 6)
def execEftFlush (pg : Page) (s : State) : Host.Outcome State Fault Refusal := done (pageRow s pg.val [0x10, 0x11] 0xA)
def execVlanWrite (pg : Page) (s : State) : Host.Outcome State Fault Refusal := done (pageRow s pg.val [0x12, 0x13] 2)
def execVlanClear (pg : Page) (s : State) : Host.Outcome State Fault Refusal := done (pageRow s pg.val [0x12, 0x13] 3)
def execIrtWrite (pg : Page) (s : State) : Host.Outcome State Fault Refusal := done (pageRow s pg.val [0x14, 0x15] 2)
def execIrtClear (pg : Page) (s : State) : Host.Outcome State Fault Refusal := done (pageRow s pg.val [0x14, 0x15] 3)
def execMeterWrite (pg : Page) (s : State) : Host.Outcome State Fault Refusal := done (pageRow s pg.val [0x16] 2)
def execMeterClear (pg : Page) (s : State) : Host.Outcome State Fault Refusal := done (pageRow s pg.val [0x16] 3)
def execSltWrite (pg : Page) (s : State) : Host.Outcome State Fault Refusal := done (pageRow s pg.val [0x17] 2)
def execSltClear (pg : Page) (s : State) : Host.Outcome State Fault Refusal := done (pageRow s pg.val [0x17] 3)
def execMacsecSaWrite (pg : Page) (s : State) : Host.Outcome State Fault Refusal := done (pageRow s pg.val [0x18] 2)
def execMacsecSaClear (pg : Page) (s : State) : Host.Outcome State Fault Refusal := done (pageRow s pg.val [0x18] 3)

end Sys2Proof.Machine
end

