-- ==== Sys2Proof/Machine/Bus.lean ====
section
/-!
DEFINITION. Sys2Proof/Machine/Bus.lean: a write of any BAR0 word by any requester (R6, R375 to R384): the fields by their access codes, and the
registers whose write is an operation, which call the operations that the rows of their own call.
-/
namespace Sys2Proof.Machine

/-! ### Blocks (R383) and their CFG_REJECT bits -/

/-- R383: the block of a register is disabled. -/
def blockOff (s : State) (o : Nat) : Bool :=
  if 0x100000 ≤ o ∧ o < 0x130000 then modeCur s ((o - 0x100000) / 0x1000) == 0
  else if 0x70400 ≤ o ∧ o < 0x70700 then modeCur s ((o - 0x70400) / 0x10) == 0
  else if 0x140000 ≤ o ∧ o < 0x159000 then !portEn s ((o - 0x140000) / 0x1000)
  else if 0x98000 ≤ o ∧ o < 0x98800 then !portEn s ((o - 0x98000) / 0x100)
  else if 0x180000 ≤ o ∧ o < 0x183000 then !getB s 0x180000 0
  else if 0x1A1000 ≤ o ∧ o < 0x1A2000 then !getB s 0x1A1008 0
  else if 0x1A2000 ≤ o ∧ o < 0x1A3000 then !getB s 0x1A2008 0
  else if 0x62000 ≤ o ∧ o < 0x62400 then teMode s ((o - 0x62000) / 0x40) == 0
  else if 0x80000 ≤ o ∧ o < 0x81000 then budMode s == 0 || budMode s == 3
  else if 0x50000 ≤ o ∧ o < 0x50400 then !getB s (ringR ((o - 0x50000) / 0x20) 0) 0
  else if 0x40000 ≤ o ∧ o < 0x41000 then !getB s (jnlR ((o - 0x40000) / 0x40) 0) 0
  else true

/-- The CFG_REJECT bit that a register's block has: its status word and the bit. -/
def blockRej (o : Nat) : Option (Nat × Nat) :=
  if 0x100000 ≤ o ∧ o < 0x130000 then some (canR ((o - 0x100000) / 0x1000) 4, 0)
  else if 0x10000 ≤ o ∧ o < 0x11000 then some (0x10000, 6)
  else if 0x30000 ≤ o ∧ o < 0x3A000 then some (mbxR ((o - 0x30000) / 0x1000) 4, 4)
  else if 0x40000 ≤ o ∧ o < 0x42000 then some (0x41000, 0)
  else if 0x50000 ≤ o ∧ o < 0x50400 then some (ringR ((o - 0x50000) / 0x20) 0x10, 3)
  else if 0x62000 ≤ o ∧ o < 0x62400 then some (teR ((o - 0x62000) / 0x40) 0x18, 5)
  else if 0x70000 ≤ o ∧ o < 0x71000 then some (0x70000, 5)
  else if 0x80000 ≤ o ∧ o < 0x81000 then some (0x80000, 5)
  else if 0x90000 ≤ o ∧ o < 0x99000 then some (0x90000, 0)
  else if 0x140000 ≤ o ∧ o < 0x159000 then some (ethR ((o - 0x140000) / 0x1000) 4, 0)
  else if 0x180000 ≤ o ∧ o < 0x182000 then some (0x180004, 0)
  else if 0x182000 ≤ o ∧ o < 0x183000 then some ((if swOnly o then 0x180004 else 0x182000), 0)
  else if 0x1A0000 ≤ o ∧ o < 0x1A1000 then some (0x1A0000, 5)
  else if 0x1A1000 ≤ o ∧ o < 0x1A2000 then some (0x1A1000, 5)
  else if 0x1A2000 ≤ o ∧ o < 0x1A3000 then some (0x1A2000, 6)
  else none

/-! ### Ranges that the cards give -/

/-- The bits of a field whose value is out of its range. -/
def badIf (c : Bool) (m : Nat) : Nat := if c then m else 0

def between (x a b : Nat) : Bool := decide (a ≤ x) && decide (x ≤ b)

/-- R410: such a write is ignored whole. -/
def paceCfgBad (d : Word) : Nat := badIf (!between (fld d 12 0) 3000 4900 || !between (fld d 20 13) 10 255) 0x3FFFFF

def paceVlimBad (d : Word) : Nat := badIf (fld d 6 0 > fld d 14 8 || fld d 14 8 > 100) 0x7F7F

/-- R445: the four words of a segment. -/
def segBad (s : State) (n k : Nat) (d : Word) : Nat :=
  if k = 0 then badIf (fld d 1 0 == 3) 3 + badIf (fld d 31 16 < 100) 0xFFFF0000
  else if k = 4 then badIf (!getB s (segR n 0) 6 && fld d 28 0 > 0x7FF) 0x1FFFFFFF
  else if k = 8 then badIf (!between (fld d 15 0) 10 10000) 0xFFFF
  else badIf (fld d 11 0 > 3600) 0xFFF

/-- R466. -/
def budCtrlBad (d : Word) : Nat := badIf (fld d 7 6 ≥ 2) 0xC0 + badIf (fld d 31 16 < 10) 0xFFFF0000

/-- R317: a write of SEC_TAMPER_CFG that would clear a set bit of [1:0] or [9:7], and a filter of 0. -/
def tamperBad (s : State) (d : Word) : Nat :=
  badIf ((rd s 0x90014).toNat &&& 0x383 &&& (2 ^ 32 - 1 - d.toNat) != 0) 0x3FF ||| badIf (fld d 6 2 == 0) 0x7C

/-- R263: an age time is 0, or 10 to 10,000 s. -/
def ageBad (v : Nat) : Bool := v != 0 && !between v 10 10000

/-- The bits of the fields whose value a register's card refuses with CFG_REJECT. -/
def fieldBad (s : State) (o : Nat) (d : Word) : Nat :=
  if o = 0x10100 then paceCfgBad d
  else if o = 0x10104 then paceVlimBad d
  else if 0x70400 ≤ o ∧ o < 0x70700 then segBad s ((o - 0x70400) / 0x10) (o % 0x10) d
  else if o = 0x70008 then badIf (fld d 9 8 == 3) 0x300
  else if o = 0x80008 then budCtrlBad d
  else if o = 0x8001C then badIf (!between (fld d 15 0) 10 10000) 0xFFFF
  else if o = 0x90014 then tamperBad s d
  else if 0x98000 ≤ o ∧ o < 0x98800 ∧ o % 0x100 = 0 then badIf (fld d 3 2 == 3) 0xC + badIf (fld d 5 4 == 3) 0x30
  else if o = 0x18200C then badIf (ageBad (fld d 15 0)) 0xFFFF + badIf (ageBad (fld d 31 16)) 0xFFFF0000
  else if o = 0x1A200C then badIf (fld d 15 0 != 0 && !between (fld d 15 0) 100 10000) 0xFFFF
  else if 0x30000 ≤ o ∧ o < 0x3A000 ∧ o % 0x1000 = 0xC then badIf (fld d 31 16 < 50) 0xFFFF0000
  else 0

/-- Only a value that a write would change is judged, but for the pacing words, whose range is that of the whole write (R410). -/
def badBits (s : State) (o : Nat) (d : Word) : Nat :=
  if o = 0x10100 ∨ o = 0x10104 then fieldBad s o d else fieldBad s o d &&& (rd s (regKey o) ^^^ d).toNat

/-- Fields whose value is ignored without CFG_REJECT keep their value: STB_MODE 3, PROFILE 3, AUTH_MODE 3. -/
def quietKeep (s : State) (o : Nat) (d : Word) : Word :=
  if 0x100000 ≤ o ∧ o < 0x130000 ∧ o % 0x1000 = 0x30 ∧ fld d 1 0 = 3 then putFld d 1 0 (getF s o 1 0)
  else if (o = 0x60050 ∨ o = 0x60070) ∧ fld d 9 8 = 3 then putFld d 9 8 (getF s o 9 8)
  else d

/-! ### Fields (R6, R380, R382) -/

/-- R420: fields that software reads only and that the image sets: FR_EN, the own vehicle number, SEL, BUD_EN, SIG_VIS and SIG_PIN, the
equaliser's starting values. -/
def loaderMask (o : Nat) : Nat :=
  if o = 0xA860C then 0xFFF
  else if o = 0x1A2010 then 0x3F
  else if o = 0x60008 then 1
  else if o = 0x80008 then 1
  else if 0x1A0018 ≤ o ∧ o < 0x1A0028 then 0xFFFFFFFF
  else if 0x140000 ≤ o ∧ o < 0x158000 ∧ o % 0x1000 = 0x18 then 0x1F
  else if 0x140000 ≤ o ∧ o < 0x158000 ∧ o % 0x1000 = 0x1C then 0x3FFFFFFF
  else if 0x140000 ≤ o ∧ o < 0x158000 ∧ o % 0x1000 = 0x20 then 0x7FFFF
  else 0

/-- R8: words with "at enable" fields that act while their block is disabled: LANE_TEST, START_WAIT, EVICT_MODE, SW_PLANE, the words of the mirror, those of
a segment, PRP. -/
def enableWord (o : Nat) : Bool :=
  [0x80008, 0x8001C, 0x182008, 0x18000C, 0x1A200C, 0x1A201C].contains o || (decide (0x70400 ≤ o) && decide (o < 0x70700))
    || (decide (0x140000 ≤ o) && decide (o < 0x148000) && o % 0x2000 == 0x24)
    || (decide (0x100000 ≤ o) && decide (o < 0x130000) && o % 0x1000 == 0x30)

/-- R8: a write while the block is disabled leaves the old word in force until the next enable; the loader fills fields before any enable. -/
def enableHold (s : State) (q : Requester) (o : Nat) : State :=
  if enableWord o && blockOff s o && q != .loader then holdForce s o else s

/-- A word by the access codes of its fields. -/
def plainWrite (s : State) (q : Requester) (o : Nat) (d : Word) : State :=
  let s := enableHold s q o
  match regMasks o with
  | none => s
  | some m =>
    let extra := if q = .loader then loaderMask o else 0
    writeMasked s q (regKey o) (quietKeep s o d) { m with rw := m.rw ||| extra } (blockOff s o) (blockRej o) (badBits s o d)

/-! ### Registers whose write is an operation -/

def ifBit (d : Word) (b : Nat) (op : State → State) (s : State) : State := if d.getLsbD b then op s else s

def devWrite (s : State) (q : Requester) (o : Nat) (d : Word) : State :=
  let a := plainWrite s q o d
  if o = 0x10 then (if d.getLsbD 0 && keyOk s q then deviceStart a 2 0 else a)
  else if o = 0x20 then (if d.getLsbD 0 && keyOk s q then commitStart a else a)
  else if o = 0x28 then ifBit d 7 devClear a
  else a

def clkWrite (s : State) (q : Requester) (o : Nat) (d : Word) : State :=
  let a := plainWrite s q o d
  if o = 0x10008 then
    let a := ifBit d 7 clkClear a
    if d.getLsbD 9 && keyOk s q then rampBack a else a
  else a

/-- R351: target 8 belongs to the supervisor. R346: the mask bit of source 185 stays 0. -/
def irqWrite (s : State) (q : Requester) (o : Nat) (d : Word) : State :=
  if 0x20800 ≤ o ∧ o < 0x20840 then irqPendOp s ((o - 0x20800) / 4) d 0
  else if 0x20900 ≤ o ∧ o < 0x20948 then
    (if o % 8 = 4 && (o < 0x20940 || q == .supervisor) then irqCompleteOp s ((o - 0x20904) / 8) d else s)
  else plainWrite s q o (if o = 0x20854 then putFld d 25 25 0 else d)

def mbxWrite (s : State) (q : Requester) (o : Nat) (d : Word) : State :=
  if 0x3A000 ≤ o ∨ o % 0x1000 ≠ 0 then plainWrite s q o d
  else
    let m := (o - 0x30000) / 0x1000
    ifBit d 2 (fun a => resetOp a m) (ifBit d 1 (fun a => ackOp a m) (ifBit d 0 (fun a => doorbellOp a m) (ifBit d 3 (fun a => mbxClear a m) s)))

def jnlWrite (s : State) (q : Requester) (o : Nat) (d : Word) : State :=
  if o = 0x41008 then ifBit d 0 (fun a => zeroAll a jnlCounters) s
  else if 0x41000 ≤ o then plainWrite s q o d
  else
    let j := (o - 0x40000) / 0x40
    if o % 0x40 = 0 then jnlCfgWrite s q j d
    else if o % 0x40 = 0x2C then ifBit d 0 (fun a => jnlFlush a j) s
    else plainWrite s q o d

def ringWrite (s : State) (q : Requester) (o : Nat) (d : Word) : State :=
  if o = 0x51008 then ifBit d 12 ringClear (plainWrite s q o d)
  else if 0x51000 ≤ o then plainWrite s q o d
  else
    let r := (o - 0x50000) / 0x20
    if o % 0x20 = 0 then ringCfgWrite s q r d
    else if o % 0x20 = 0xC then (if r < 16 then ifBit d 0 (fun a => kickOp a r) s else s)
    else plainWrite s q o d

/-- R274: registers of the servo owner alone. -/
def servoReg (o : Nat) : Bool :=
  o == 0x60010 || [0x60054, 0x60074, 0x6005C, 0x6007C, 0x60060, 0x60080].contains o || (decide (0x61000 ≤ o) && decide (o < 0x62000) && o % 16 == 8)

/-- R286: INC_LIMIT outside its range is ignored with SERVO_REJECT. -/
def timeCfgWrite (s : State) (q : Requester) (d : Word) : State :=
  if between (fld d 13 0) 1 10000 then plainWrite s q 0x6003C d
  else servoReject (plainWrite s q 0x6003C (putFld d 13 0 (getF s 0x6003C 13 0)))

def timeWrite (s : State) (q : Requester) (o : Nat) (d : Word) : State :=
  if o = 0x60014 then incWrite s q d
  else if o = 0x60010 ∧ timeMode s = 3 then servoReject s
  else if o = 0x60058 then offWrite s q 0 d
  else if o = 0x60078 then offWrite s q 1 d
  else if servoReg o then (if isServo s q then timeEval (plainWrite s q o d) else servoReject s)
  else if o = 0x60038 then ifBit d 0 (fun a => stepOp a q) s
  else if o = 0x6003C then timeCfgWrite s q d
  else if o = 0x60008 then timeEval (ifBit d 12 (fun a => zeroAll a timeCounters) (plainWrite s q o d))
  else if 0x62000 ≤ o ∧ o % 0x40 = 0 then teCfgWrite s q ((o - 0x62000) / 0x40) d
  else plainWrite s q o d

def lanWrite (s : State) (q : Requester) (o : Nat) (d : Word) : State :=
  if o = 0x70008 then devEval (ifBit d 7 lanClear (plainWrite s q o d))
  else if o = 0x7000C then setDevHold s (d.getLsbD 2)
  else if o = 0x70030 then lanCmdOp s d
  else if 0x70400 ≤ o ∧ o % 0x10 = 0 then
    let n := (o - 0x70400) / 0x10
    let hold := getB s o 2
    let a := plainWrite s q o (putFld d 2 2 (bnat hold))
    if d.getLsbD 2 = hold then a else devEval (holdSet a n (d.getLsbD 2))
  else plainWrite s q o d

/-- R459: a pair that the image configures starts WITHDRAWN, its gates closed, its wait running. -/
def budEnable (s : State) : State :=
  if getB s 0x80008 0 && budMode s == 0 then
    gatesClose { setF s 0x80010 1 0 3 with bud := { s.bud with w := ltNs s } }
  else s

def budWrite (s : State) (q : Requester) (o : Nat) (d : Word) : State :=
  let a := plainWrite s q o d
  if o = 0x80008 then budEnable (ifBit d 15 budClear a) else a

def secWrite (s : State) (q : Requester) (o : Nat) (d : Word) : State :=
  if o = 0x90008 then ifBit d 8 (fun a => zeroAll a secCounters) (plainWrite s q o d)
  else if 0x91000 ≤ o ∧ o < 0x95000 ∧ (o - 0x91000) % 0x400 = 0x20 then ifBit d 0 (fun a => jobPushOp a q ((o - 0x91000) / 0x400)) s
  else plainWrite s q o d

/-- R100: what the loader gives the objects of a channel whose FR_EN is set. -/
def foreObject (s : State) (o gran : Nat) : State := tSet s tMot o (ePut (ePut (tGet s tMot o) 3 18 0 gran) 3 22 19 1)

def foreChannel (s : State) (n : Nat) : State :=
  let s := (List.range 2048).foldl (fun a i => foreObject a (n * 2048 + i) (n * 2048 + i)) s
  (List.range 64).foldl (fun a k => foreObject a (98304 + n * 64 + k) (24576 + n * 64 + k)) s

def motWriteReg (s : State) (q : Requester) (o : Nat) (d : Word) : State :=
  let a := plainWrite s q o d
  if o = 0xA8608 then ifBit d 7 motClearAll (ifBit d 6 (fun b => motClearOne b (fld d 5 0)) a)
  else if o = 0xA860C ∧ q = .loader then ((List.range 12).filter fun n => d.getLsbD n).foldl foreChannel a
  else a

/-- R257: a command page. -/
def pageWrite (s : State) (q : Requester) (o : Nat) (d : Word) : State :=
  let c := (o - 0xB0000) / 0x1000
  let p := o % 0x1000
  if getB s (pageR c 8) 0 ∧ p ≠ 8 ∧ p ≠ 0xC then raise s (pageR c 8) 1
  else if p = 0 then setB (wr s o (d &&& 0x1FFFF)) (pageR c 8) 0 true
  else plainWrite s q o d

def canWrite (s : State) (q : Requester) (o : Nat) (d : Word) : State :=
  let n := (o - 0x100000) / 0x1000
  if o % 0x1000 = 0 then modeReqSet s n (fld d 2 0)
  else if o % 0x1000 = 8 then
    ifBit d 2 (fun a => tdcClear a n) (ifBit d 1 (fun a => zeroAll a (canCounters n)) (ifBit d 0 (fun a => startRecovery a n) s))
  else plainWrite s q o d

def ethWrite (s : State) (q : Requester) (o : Nat) (d : Word) : State :=
  let p := (o - 0x140000) / 0x1000
  if o % 0x1000 = 0 then ethCtrlWrite s q p d
  else if o % 0x1000 = 0x14 then plainWrite (eqLive s p) q o d
  else if o % 0x1000 = 0x30 then ifBit d 1 (fun a => eqRestartOp a p) (ifBit d 0 (fun a => zeroAll a (ethCounters p)) s)
  else plainWrite s q o d

def swWrite (s : State) (q : Requester) (o : Nat) (d : Word) : State :=
  if o = 0x180000 then ifBit d 8 swClear (swCtrlWrite s q d) else plainWrite s q o d

def fwdWrite (s : State) (q : Requester) (o : Nat) (d : Word) : State :=
  if o = 0x182008 then ifBit d 8 (fun a => zeroAll a fwdCounters) (plainWrite s q o d)
  else if 0x182100 ≤ o ∧ o < 0x182460 ∧ o % 0x20 = 4 ∧ swOnly o = false then authWrite s q ((o - 0x182100) / 0x20) d
  else plainWrite s q o d

def imgWrite (s : State) (q : Requester) (o : Nat) (d : Word) : State :=
  if o = 0x1A0008 then sweepWrite s q d
  else if o = 0x1A0014 then ifBit d 7 (fun a => zeroAll a imgCounters) (plainWrite s q o d)
  else plainWrite s q o d

def seWrite (s : State) (q : Requester) (o : Nat) (d : Word) : State :=
  if o = 0x1A1008 then ifBit d 8 seClear (seCtrlWrite s q d) else plainWrite s q o d

def mirWrite (s : State) (q : Requester) (o : Nat) (d : Word) : State :=
  if o = 0x1A2008 then ifBit d 10 (fun a => zeroAll a mirCounters) (mirCtrlWrite s q d) else plainWrite s q o d

/-- R97 to R99: the aperture object of an offset in a channel's window. -/
def apObjAt (p : Nat) : Option ApObj :=
  if 0x100 ≤ p ∧ p < 0x500 then some (.ext (Fin.ofNat 64 ((p - 0x100) / 16)))
  else if 0x8000 ≤ p then some (.base (BitVec.ofNat 11 ((p - 0x8000) / 16)))
  else none

/-- A word of an aperture object. -/
def apObjWrite (s : State) (n : Nat) (ob : ApObj) (w : Nat) (d : Word) : State :=
  if w = 0 then apWord0Op s n ob d
  else if w = 1 then (match ob with
    | .ext k => apIdentOp s n k d
    | .base _ => s)
  else apDataOp s n ob (w == 3) d

/-- R97, R98: a write in the forerunner aperture. -/
def apWrite (s : State) (q : Requester) (o : Nat) (d : Word) : State :=
  let n := (o - 0xF00000) / 0x10000
  let p := o % 0x10000
  if !frEn s n then s
  else if p = 0 then apModeOp s n d
  else if p = 4 then plainWrite s q (canR n 0x10) d
  else if p = 0xC then apStatusClear s n d
  else if p = 0x10 then ifBit d 0 (fun a => startRecovery a n) s
  else if p = 0x14 then setChan s n { chan s n with apIrqEn := fld d 4 0 }
  else
    match apObjAt p with
    | some ob => if p % 4 = 0 then apObjWrite s n ob (p % 16 / 4) d else s
    | none => s

/-! ### Any word -/

/-- The operation that a write of the word at `o` is. -/
def busOp (s : State) (q : Requester) (o : Nat) (d : Word) : State :=
  if o < 0x1000 then devWrite s q o d
  else if o < 0x20000 then clkWrite s q o d
  else if o < 0x30000 then irqWrite s q o d
  else if o < 0x40000 then mbxWrite s q o d
  else if o < 0x50000 then jnlWrite s q o d
  else if o < 0x60000 then ringWrite s q o d
  else if o < 0x70000 then timeWrite s q o d
  else if o < 0x80000 then lanWrite s q o d
  else if o < 0x90000 then budWrite s q o d
  else if o < 0xA0000 then secWrite s q o d
  else if o < 0xB0000 then motWriteReg s q o d
  else if o < 0x100000 then pageWrite s q o d
  else if o < 0x140000 then canWrite s q o d
  else if o < 0x180000 then ethWrite s q o d
  else if o < 0x182000 then swWrite s q o d
  else if o < 0x1A0000 then fwdWrite s q o d
  else if o < 0x1A1000 then imgWrite s q o d
  else if o < 0x1A2000 then seWrite s q o d
  else if o < 0xF00000 then mirWrite s q o d
  else apWrite s q o d

/-- R453, R455: the registers of the paired blocks. -/
def pairedReg (o : Nat) : Bool :=
  (decide (0x100000 ≤ o) && decide (o < 0x130000)) || (decide (0xA8000 ≤ o) && decide (o < 0xA9000))
    || (decide (0x1A0000 ≤ o) && decide (o < 0x1A3000)) || decide (0xF00000 ≤ o) || o == 0x70030
    || (decide (0x70400 ≤ o) && decide (o < 0x70700) && o % 0x10 == 0)

/-- R6, R375 to R383: a write of the word at `o`, with what becomes of the requester's key. -/
def busWrite (s : State) (q : Requester) (o : Nat) (d : Word) : State :=
  if o = 0x0C then unlockWrite s q d
  else
    let a :=
      if !locExists s q o then reservedWrite s q o d
      else if pairedReg o && q != .loader then pairedWrite s q o d fun b => busOp b q o d
      else busOp s q o d
    disarm a q

def execRegisterWrite (q : Requester) (off : BitVec 24) (data : Word) (s : State) : Host.Outcome State Fault Refusal :=
  done (busWrite s q off.toNat data)

/-- R348, R379: a host write that one of the three causes discards, which disarms the host's key; one that has none is an ordinary write. -/
def hostWriteJudged (s : State) (off : Nat) (data : Word) (be : BitVec 4) (words : Nat) : State :=
  if words = 1 && be == 15 && locExists s .host off then busWrite s .host off data else disarm (writeDiscard s off data be words) .host

def execBar0WriteDiscarded (off : BitVec 24) (data : Word) (be : BitVec 4) (words : Nat) (s : State) : Host.Outcome State Fault Refusal :=
  done (hostWriteJudged s off.toNat data be words)

end Sys2Proof.Machine
end

