-- ==== Sys2Proof/Machine/Diag.lean ====
section
/-!
DEFINITION. Sys2Proof/Machine/Diag.lean: the DIAG commands (R371).
-/
namespace Sys2Proof.Machine

/-- A requester that is a mailbox. -/
def mbxReq (m : Nat) : Requester := .mailbox (Fin.ofNat 10 m)

/-- The words of an access: `n` from offset `a`. -/
def diagOffs (r : Req) : List Nat := wordsFrom (r.at 0 4) (r.at 4 2)

/-- The range of an access: aligned, 1 to 64 words, inside BAR0, no reserved location. -/
def diagRange (s : State) (r : Req) : Bool :=
  let o := r.at 0 4
  let n := r.at 4 2
  o % 4 == 0 && decide (1 ≤ n) && decide (n ≤ 64) && decide (o + 4 * n ≤ 2 ^ 24) && (diagOffs r).all fun x => locExists s (mbxReq r.m) x

/-- The fields of access RS: JNL POP, JOB_DONE, CAP_NS, IRQ_CLAIM; and the registers of target 8. -/
def rsField (o : Nat) : Bool :=
  (decide (0x40000 ≤ o) && decide (o < 0x41000) && o % 0x40 == 8)
    || (decide (0x91000 ≤ o) && decide (o < 0x95000) && (o - 0x91000) % 0x400 == 0x24)
    || (decide (0x62000 ≤ o) && decide (o < 0x62400) && o % 0x40 == 0x1C)
    || (decide (0x20900 ≤ o) && decide (o < 0x20940) && o % 8 == 0) || o == 0x20940 || o == 0x20944

/-- Words read one after the other. -/
def readAll (q : Requester) : List Nat → State → List Byte × State
  | [], s => ([], s)
  | o :: os, s =>
    let x := readReg s q o
    let y := readAll q os x.2
    (leBytes 4 x.1.toNat ++ y.1, y.2)

def cmdDiagRead : Command := fun s r =>
  checked (r.comp == 0) (r.len == 8) s
    (if !diagRange s r then refuse s eRange
     else if (diagOffs r).any rsField then refuse s ePolicy
     else
       let x := readAll (mbxReq r.m) (diagOffs r) s
       (x.2, answerOk x.1))

/-- R371: words written in ascending order; a device reset among them ends the command. -/
def writeAll (q : Requester) : List (Nat × Word) → State → State
  | [], s => s
  | e :: es, s =>
    let a := busWrite s q e.1 e.2
    if a.boot.stage ≤ 1 then a else writeAll q es a

def diagWords (r : Req) : List (Nat × Word) :=
  (List.range (r.at 4 2)).map fun k => (r.at 0 4 + 4 * k, BitVec.ofNat 32 (r.at (8 + 4 * k) 4))

def cmdDiagWrite : Command := fun s r =>
  checked (r.comp == 0) (r.len == 8 + 4 * r.at 4 2) s
    (if !diagRange s r then refuse s eRange
     else if (diagOffs r).any fun o => decide (0x30000 ≤ o) && decide (o < 0x3A000) then refuse s ePolicy
     else
       let a := writeAll (mbxReq r.m) (diagWords r) s
       (a, { status := eOk, data := [], wait := decide (a.boot.stage ≤ 1) }))

/-! ### Device memory (R28, R261) -/

/-- A byte of a shadow: tables of `w`-byte entries from `base`. -/
def shadowByte (s : State) (a base code w : Nat) : Byte := (eBytes w (shGet s code ((a - base) / w))).getD ((a - base) % w) 0

/-- A byte of device memory; none where no rule says what it holds. -/
def memView (s : State) (a : Nat) : Option Byte :=
  if a < 0x20000000 then some ((slotBytes (slotAt s (a / 16))).getD (a % 16) 0)
  else if a < 0x28000000 then none
  else if a < 0x2C000000 then some (memByte s a)
  else if a < 0x35000000 then none
  else if a < 0x35080000 then some (shadowByte s a 0x35000000 0x10 16)
  else if a < 0x35100000 then some (shadowByte s a 0x35080000 0x11 16)
  else if a < 0x35110000 then some (shadowByte s a 0x35100000 0x12 16)
  else if a < 0x35120000 then some (shadowByte s a 0x35110000 0x13 16)
  else if a < 0x35180000 then some (shadowByte s a 0x35120000 0x14 96)
  else if a < 0x351E0000 then some (shadowByte s a 0x35180000 0x15 96)
  else if a < 0x351F0000 then some (shadowByte s a 0x351E0000 0x16 32)
  else if a < hostBase then none
  else if a < hostBase + hostSize s then some (memByte s a)
  else if s.poolZero.contains (a / 64 * 64) then some 0
  else none

/-- Bytes of device memory; where no rule says what they hold they are free values (log 2). -/
def memViewAll : List Nat → State → List Byte × State
  | [], s => ([], s)
  | a :: as, s =>
    match memView s a with
    | some b =>
      let y := memViewAll as s
      (b :: y.1, y.2)
    | none =>
      let x := fresh s
      let y := memViewAll as x.2
      (BitVec.ofNat 8 x.1 :: y.1, y.2)

/-- R105: slots of the image are read through the cache. -/
def touchImage (s : State) (a n : Nat) : State :=
  if a < 0x20000000 then (bar4Slots a (min n (0x20000000 - a))).foldl (fun b g => touch b g false) s else s

/-- The supervisor and thermos regions. -/
def memPrivate (a n : Nat) : Bool := decide (a < 0x35000000) && decide (0x2C000000 < a + n)

def cmdDiagMem : Command := fun s r =>
  let a := r.at 0 4
  let n := r.at 4 2
  checked (r.comp == 0) (r.len == 8) s
    (if a % 4 ≠ 0 || n < 4 || n > 2048 || n % 4 ≠ 0 || a + n > 0xE0000000 then refuse s eRange
     else if memPrivate a n then refuse s ePolicy
     else
       let s := if a < 0x2C000000 ∧ 0x28000000 < a + n then xlFlushAll s else s
       let x := memViewAll ((List.range n).map fun i => a + i) (touchImage s a n)
       (x.2, answerOk x.1))

def statsBytes (s : State) : List Byte :=
  (List.range 10).flatMap fun m => leBytes 4 (mbxStatus s m).toNat ++ regBytes s (wordsFrom (mbxR m 0x10) 4)

def cmdDiagStats : Command := fun s r => checked (r.comp == 0) (r.len == 0) s (s, answerOk (statsBytes s))

def execDiagRegRead (m : Mbx) (s : State) : Host.Outcome State Fault Refusal := done (cmdRow s m.val 0x0A01 cmdDiagRead)
def execDiagRegWrite (m : Mbx) (s : State) : Host.Outcome State Fault Refusal := done (cmdRow s m.val 0x0A02 cmdDiagWrite)
def execDiagMemRead (m : Mbx) (s : State) : Host.Outcome State Fault Refusal := done (cmdRow s m.val 0x0A03 cmdDiagMem)
def execDiagMbxStats (m : Mbx) (s : State) : Host.Outcome State Fault Refusal := done (cmdRow s m.val 0x0A04 cmdDiagStats)

end Sys2Proof.Machine
end

