-- ==== Sys2Proof/Machine/Upd.lean ====
section
/-!
DEFINITION. Sys2Proof/Machine/Upd.lean: the field update: the manifest and its checks, staging, activation, swaps, trial and rollback, and the UPD
commands (R473 to R486).
-/
namespace Sys2Proof.Machine

/-- The bank that is staged: the one that does not run. -/
def stagedBank (s : State) : Nat := 1 - s.boot.bank

/-! ### The manifest (R475) -/

/-- An entry of a manifest. -/
structure ManEnt where
  ty      : Nat
  partner : Bool
  flags   : Nat
  floor   : Nat
  ver     : Nat
  len     : Nat
  digest  : List Byte
  spare   : Bool
  deriving DecidableEq, Repr

/-- Entry `i`; `spare`: a reserved byte is not zero. -/
def manEnt (m : List Byte) (i : Nat) : ManEnt :=
  let b := slice m (88 + 48 * i) 48
  { ty := beAt b 0 1, partner := nbit (beAt b 1 1) 0, flags := beAt b 1 1, floor := beAt b 2 1, ver := beAt b 4 4, len := beAt b 8 4
    digest := slice b 12 32, spare := beAt b 3 1 != 0 || beAt b 44 4 != 0 }

def manCount (m : List Byte) : Nat := beAt m 6 2
def manEntries (m : List Byte) : List ManEnt := (List.range (manCount m)).map (manEnt m)

/-- The bytes before the signature, and the signature. -/
def manSigned (m : List Byte) : List Byte := m.take (88 + 48 * manCount m)
def manSignature (m : List Byte) : List Byte := slice m (88 + 48 * manCount m) 64

def manifest (s : State) (b : Nat) : List Byte := flashRead s (manifestBase b) 4096

/-! ### UPD_VERIFY (R478) -/

/-- A check that failed: its row, its status, the TYPE and part concerned (0 and 0xFF for none), the value compared. -/
structure VerFail where
  row    : Nat
  status : Nat
  ty     : Nat
  part   : Nat
  value  : Option Nat
  deriving DecidableEq, Repr

def verFail (row status : Nat) : VerFail := { row := row, status := status, ty := 0, part := 0xFF, value := none }

def verFailAt (row status : Nat) (e : ManEnt) (v : Option Nat) : VerFail :=
  { row := row, status := status, ty := e.ty, part := partOf e.ty, value := v }

/-- Row 0: the form. -/
def manForm (m : List Byte) : Bool :=
  beAt m 0 4 == 0x64484D46 && beAt m 4 2 == 1 && decide (1 ≤ manCount m) && decide (manCount m ≤ 40) && beAt m 21 3 == 0
    && (manEntries m).all fun e => decide (e.flags < 2) && !e.spare

/-- Row 1: the target. -/
def manTarget (s : State) (m : List Byte) : Bool :=
  let d := (rd s 0).toNat
  (beAt m 8 4 == d || beAt m 8 4 == d - d % 256) && (beAt m 12 8 == 0 || beAt m 12 8 == unitId s)

/-- Row 2: the signer. -/
def signerOk (s : State) (m : List Byte) : Bool :=
  match s.otp.keys[beAt m 20 1]? with
  | some (d, revoked) => !d.isEmpty && !revoked && Config.sha256 (slice m 24 64) == d
  | none => false

/-- Row 3: the signature. -/
def signatureOk (m : List Byte) : Bool := Config.ecdsaOk (slice m 24 64) (Config.sha256 (manSigned m)) (manSignature m)

/-- Row 4: an entry of the directory and one of the manifest say the same. -/
def sameEnt (d : DirEnt) (e : ManEnt) : Bool := d.ty == e.ty && d.floor == e.floor && d.ver == e.ver && d.len == e.len

def corresponds (ds : List DirEnt) (es : List ManEnt) : Bool :=
  ds.length == es.length && ds.all (fun d => es.any (sameEnt d)) && es.all fun e => ds.any fun d => sameEnt d e

/-- Row 5: the section that an entry describes has its digest. -/
def digestOk (s : State) (base : Nat) (ds : List DirEnt) (e : ManEnt) : Bool :=
  match dirFind ds e.ty with
  | some d => Config.sha256 (flashRead s (base + d.off) e.len) == e.digest
  | none => false

/-- R475: the sections that differ on the partner: a directory inside the PARTNER section, its offsets from that section's start (log 36). -/
def partnerDir (s : State) (b : Nat) (ds : List DirEnt) : Nat × List DirEnt :=
  match dirFind ds 12 with
  | some d => (bankBase b + d.off, (dirAt s (bankBase b + d.off) d.len []).getD [])
  | none => (0, [])

/-- Row 6: the FLOOR or else the VERSION of an entry that is not that of the first entry of its part. -/
def unevenEnt (es : List ManEnt) (e : ManEnt) : Option Nat :=
  match es.find? fun x => partOf x.ty == partOf e.ty with
  | some x => if x.floor ≠ e.floor then some e.floor else if x.ver ≠ e.ver then some e.ver else none
  | none => none

/-- The VERSION of a part in the running bank; none in rescue. -/
def runningVer (s : State) (p : Nat) : Nat :=
  if s.boot.rescue then 0
  else (((bankDir s s.boot.bank).getD []).find? fun d => partOf d.ty == p).elim 0 fun d => d.ver

/-- Row 7: what a FLOOR or VERSION falls below. -/
def tooOld (s : State) (e : ManEnt) : Option Nat :=
  let p := partOf e.ty
  if e.floor < s.otp.floors.getD p 0 then some e.floor else if e.ver < runningVer s p then some e.ver else none

/-- Rows 0 to 3. -/
def verifyHead (s : State) (m : List Byte) : Option VerFail :=
  if !manForm m then some (verFail 0 eCheck)
  else if !manTarget s m then some (verFail 1 ePolicy)
  else if !signerOk s m then some (verFail 2 ePolicy)
  else if !signatureOk m then some (verFail 3 eCheck)
  else none

/-- Rows 6 and 7, over entries. -/
def verifyParts (s : State) (es : List ManEnt) : Option VerFail :=
  match es.findSome? fun e => (unevenEnt es e).map fun v => verFailAt 6 eCheck e (some v) with
  | some x => some x
  | none => es.findSome? fun e => (tooOld s e).map fun v => verFailAt 7 ePolicy e (some v)

/-- Rows 4 to 7 with the entries `es` of bank `b`, and `ps` of its PARTNER section. -/
def verifyBank (s : State) (b : Nat) (es ps : List ManEnt) : Option VerFail :=
  match bankDir s b with
  | none => some (verFail 4 eCheck)
  | some ds =>
    let pd := partnerDir s b ds
    if !corresponds ds es then some (verFail 4 eCheck)
    else
      match es.find? fun e => !digestOk s (bankBase b) ds e with
      | some e => some (verFailAt 5 eCheck e none)
      | none =>
        match ps.find? fun e => !digestOk s pd.1 pd.2 e with
        | some e => some (verFailAt 5 eCheck e none)
        | none => verifyParts s es

/-- R478: the staged bank: the first check that fails. -/
def verifyStaged (s : State) : Option VerFail :=
  let b := stagedBank s
  let m := manifest s b
  match verifyHead s m with
  | some x => some x
  | none => verifyBank s b ((manEntries m).filter fun e => !e.partner) ((manEntries m).filter fun e => e.partner)

/-- Item 0xD1. A value that no check compared is free (log 2). -/
def verFailItem (s : State) (x : VerFail) : State :=
  let v := match x.value with
    | some v => (v, s)
    | none => fresh s
  evtItem v.2 0x28 0 0xD1 x.row (u8s [x.ty, x.part, 0, 0] ++ leBytes 4 v.1)

/-- R478, R481: the class is live: the configuration image is the running one, and the staged Popezal reads the running thermos format. -/
def classLive (s : State) : Bool :=
  match bankDir s s.boot.bank, bankDir s (stagedBank s) with
  | some a, some b =>
    let same := (b.filter fun e => partOf e.ty == 0).all fun e =>
      match dirFind a e.ty with
      | some r => Config.sha256 (sectionBytes s s.boot.bank r) == Config.sha256 (sectionBytes s (stagedBank s) e)
      | none => false
    let pop := (dirFind b 11).elim [] fun e => (sectionBytes s (stagedBank s) e).take 16
    same && decide (leAt pop 8 2 ≤ Config.thermosFormat) && decide (Config.thermosFormat ≤ leAt pop 10 2) && !s.boot.rescue
  | _, _ => false

/-- The number of the boot record that is not followed. -/
def otherRecord (s : State) : Nat := if s.boot.rec1 then 0 else 1

/-- R478: a bank that has passed. -/
def verifyPassed (s : State) : State :=
  let s := flashErase { s with upd := { s.upd with verified := true, live := classLive s } } (0x1000 * otherRecord s) 0x1000
  updItem s s.upd.mode 1

/-! ### Activation (R479) -/

/-- The Popezal, microcode and lantern sections, of these entries, read again. -/
def partsOf (s : State) (es : List ManEnt) : Bool :=
  (es.filter fun e => [2, 7, 11].contains e.ty).all fun e => digestOk s (bankBase (stagedBank s)) ((bankDir s (stagedBank s)).getD []) e

def partsRead (s : State) : Bool := partsOf s ((manEntries (manifest s (stagedBank s))).filter fun e => !e.partner)

/-- The record that activates the staged bank. -/
def newRecord (s : State) : BootRecord := { seq := (s.boot.bootSeq + 1) % 2 ^ 32, bank := stagedBank s, fallback := true }

/-- R479, R482: the commit point is passed: the trial is latched; live: the swaps begin; restart: the device resets, or in a pair waits
for its partner. -/
def committed (s : State) : State :=
  let u := s.upd
  let s := { s with upd := { u with
    mode := 2, trial := if u.trialT = 0 then none else some (s.lan.lnt, u.trialT), confirm := u.trialT == 0
    swaps := if u.restart then 0 else 1, pair := if u.restart && budMode s == 1 then 2 else 0
    reset := u.restart && budMode s != 1 } }
  updItem s u.mode 2

/-- R479: up to the commit point; false: it was not reached. -/
def commitPoint (s : State) : State × Bool :=
  if !partsRead s then (activateRefused s, false)
  else
    let x := recordProgram s (otherRecord s) (newRecord s)
    if x.2 then (committed x.1, true) else (activateRefused x.1, false)

/-! ### The partner (R483): the records that carry the update, as the model lays them out (log 21, log 36) -/

/-- The pages of image space, in order: 2,048 bytes each, the manifest area last. -/
def pageAddr (b k : Nat) : Nat := if k < 4096 then bankBase b + 2048 * k else manifestBase b + 2048 * (k - 4096)

def sendPage (s : State) (k : Nat) : State :=
  budRecord s 9 (2 :: (beBytes 2 k ++ flashRead s (pageAddr (stagedBank s) k) 2048))

/-- The manifest and the staged bank sent, and the activation asked for. -/
def sendUpdate (s : State) : State :=
  let s := (List.range 4098).foldl sendPage s
  budRecord s 9 ([3, BitVec.ofNat 8 (bnat s.upd.restart)] ++ beBytes 2 s.upd.trialT)

/-- A page taken by the partner; the first one erases its inactive bank. -/
def takePage (s : State) (k : Nat) (bs : List Byte) : State :=
  let b := stagedBank s
  let s := if k = 0 then flashErase (flashErase s (bankBase b) bankSize) (manifestBase b) 0x1000 else s
  flashProgram s (pageAddr b k) bs

/-- A section laid into a bank: its directory entry with its new place, and its bytes. -/
def laid (s : State) (base off : Nat) (d : DirEnt) : DirEnt × List Byte := ({ d with off := off }, flashRead s (base + d.off) d.len)

def layAll : List (DirEnt × List Byte) → Nat → List (DirEnt × List Byte)
  | [], _ => []
  | (d, bs) :: r, off => ({ d with off := off }, padTo (ceilDiv bs.length 4 * 4) bs) :: layAll r (off + ceilDiv bs.length 4 * 4)

def dirEntBytes (d : DirEnt) : List Byte :=
  u8s [d.ty, 0, d.floor, 0] ++ leBytes 4 d.ver ++ leBytes 4 d.off ++ leBytes 4 d.len ++ leBytes 4 d.crc

/-- A bank of sections, laid one after the other behind the directory. -/
def bankImage (l : List (DirEnt × List Byte)) : List Byte :=
  let l := layAll l (16 + 20 * l.length)
  let h := leBytes 4 0x64480002 ++ leBytes 2 l.length ++ List.replicate 6 0
  let es := l.flatMap fun x => dirEntBytes x.1
  h ++ leBytes 4 (crc32c (h ++ es)) ++ es ++ l.flatMap fun x => x.2

/-- R483: each type that the PARTNER section holds comes from it; the section itself is left out. -/
def partnerBuild (s : State) : State :=
  let b := stagedBank s
  match bankDir s b with
  | none => s
  | some ds =>
    let pd := partnerDir s b ds
    let own := (ds.filter fun d => d.ty != 12).map fun d =>
      match dirFind pd.2 d.ty with
      | some p => laid s pd.1 0 p
      | none => laid s (bankBase b) 0 d
    flashProgram (flashErase s (bankBase b) bankSize) (bankBase b) (bankImage own)

/-- The entries of the manifest that describe the partner's bank. -/
def partnerEntries (m : List Byte) : List ManEnt :=
  let ps := (manEntries m).filter fun e => e.partner
  ps ++ (manEntries m).filter fun e => !e.partner && e.ty != 12 && !ps.any fun p => p.ty == e.ty

def partnerVerify (s : State) : Bool :=
  let m := manifest s (stagedBank s)
  (verifyHead s m).isNone && (verifyBank s (stagedBank s) (partnerEntries m) []).isNone

/-- R478, R479: the partner's bank may be activated in this mode: verified, of class live for a live activation, its parts read again. -/
def partnerReady (s : State) (restart : Bool) : Bool :=
  s.upd.mode == 0 && partnerVerify s && (restart || classLive s) && partsOf s (partnerEntries (manifest s (stagedBank s)))

/-- R482: a record naming bank `b`, and the reset. Whether it allows a fallback is stated nowhere: free (log 2). -/
def rollbackTo (s : State) (b : Nat) : State :=
  let x := fresh s
  let k := (followed s).elim 0 fun x => 1 - x.1
  let seq := ((followed s).elim 0 fun x => x.2.seq + 1) % 2 ^ 32
  let y := recordProgram x.2 k { seq := seq, bank := b, fallback := nbit x.1 0 }
  let s := updItem { y.1 with upd := { y.1.upd with trial := none, confirm := false, swaps := 0, pair := 0 } } s.upd.mode 5
  { s with upd := { s.upd with reset := true } }

/-- R483: the partner fails: it says so, and rolls back to the bank that it runs. -/
def partnerBack (s : State) : State := rollbackTo (budRecord s 9 [4, 0]) s.boot.bank

/-- The partner activates: it builds, verifies and commits, and says how that ended; a restart follows its answer. -/
def partnerActivate (s : State) (restart : Bool) (t : Nat) : State :=
  let s := partnerBuild s
  if partnerReady s restart then
    let s := flashErase { s with upd := { s.upd with restart := restart, trialT := t } } (0x1000 * otherRecord s) 0x1000
    let x := recordProgram s (otherRecord s) (newRecord s)
    if x.2 then budRecord (committed x.1) 9 [4, 1] else partnerBack x.1
  else partnerBack s

/-- The partner's verdict at the active unit. -/
def partnerVerdict (s : State) (ok : Bool) : State :=
  if s.upd.pair ≠ 1 then s
  else if !ok then partnerFailed s
  else
    let x := commitPoint s
    activateAnswer x.1 (if x.2 then eOk else eCheck)

/-- R483: in restart mode the active unit follows its partner's modes: it has left STANDBY, it is STANDBY again, it is ACTIVE. -/
def partnerStep (s : State) (m : Nat) : State :=
  if s.upd.pair = 2 ∧ m ≠ 2 then { s with upd := { s.upd with pair := 3 } }
  else if s.upd.pair = 3 ∧ m = 2 then withdraw { s with upd := { s.upd with pair := 4 } } 5 false
  else if s.upd.pair = 4 ∧ m = 1 then { s with upd := { s.upd with pair := 0, reset := true } }
  else s

/-- The device resets at the end of a step that asked for it, after its response has been posted. -/
def resetIfDue (s : State) : State := if s.upd.reset then deviceStart s 2 0 else s

/-! ### Rollback and confirmation (R482) -/

/-- The bank to which an unconfirmed activation goes back. -/
def previousBank (s : State) : Nat :=
  if s.upd.pair = 1 then s.boot.bank else (followed s).elim s.boot.bank fun x => 1 - x.2.bank

/-- R482: the rollback. -/
def rollback (s : State) : State := rollbackTo s (previousBank s)

/-- The running bank is the one that the newest record names. -/
def runsNewest (s : State) : Bool :=
  !s.boot.rescue && (followed s).elim false fun x => x.2.bank == s.boot.bank

/-- The floors of the running bank, burnt where they are higher. -/
def raiseFloors (s : State) : State :=
  let ds := (bankDir s s.boot.bank).getD []
  let fl := (List.range 6).map fun p =>
    max (s.otp.floors.getD p 0) (min 64 ((ds.find? fun d => partOf d.ty == p).elim 0 fun d => d.floor))
  { s with otp := { s.otp with floors := fl } }

/-- R482: confirmation. -/
def confirmOp (s : State) : State :=
  let s := raiseFloors s
  let s := { s with upd := { s.upd with trial := none, confirm := false } }
  updMode s (if s.upd.mode = 2 then 0 else s.upd.mode) 4

/-- R482: with T = 0 the start of the new bank confirms it at CONFIG, after a swap that failed too. -/
def confirmAtConfig (s : State) : State := if s.upd.confirm && runsNewest s then confirmOp s else s

/-! ### Swaps (R480, R481) -/

/-- A swap that fails resets the device. -/
def swapTry (s : State) (op : State → State) : State :=
  let k := s.free
  let s := { s with free := s.free + 1 }
  if Config.swapOk k then op s
  else deviceStart (updItem s s.upd.mode 7) 2 0

def toSwap (s : State) (n : Nat) : State := { s with upd := { s.upd with swaps := n } }

/-- R480: the engines take the new microcode; carriers have waited in their pools. -/
def microcodeSwapOp (s : State) : State := if s.upd.swaps = 1 then swapTry s fun a => toSwap a 2 else s

def execMicrocodeSwap (s : State) : Host.Outcome State Fault Refusal := done (microcodeSwapOp s)

/-- R480: the SerDes table of the bank that is activated: used at each port's next link bring-up or EQ_RESTART. -/
def serdesSwap (s : State) : State :=
  match dirFind ((bankDir s (stagedBank s)).getD []) 4 with
  | some e => (List.range 24).foldl (fun a p => setPort a p { port a p with latDue := true }) (loadSerdes s (sectionBytes s (stagedBank s) e))
  | none => s

/-- R480: the lantern's program restarts; LNT, segments, windows and latches are kept; the SerDes tables follow it. -/
def lanternSwapOp (s : State) : State := if s.upd.swaps = 2 then swapTry s fun a => toSwap (serdesSwap a) 3 else s

def execLanternSwap (s : State) : Host.Outcome State Fault Refusal := done (lanternSwapOp s)

/-- R364, R481: the handover begins once no request is in service: PAUSED reads 1. -/
def handoverOp (s : State) : State := if s.upd.swaps = 3 ∧ inService s = 0 then toSwap s 4 else s

def execPopezalHandover (s : State) : Host.Outcome State Fault Refusal := done (handoverOp s)

/-- R496, row 19: an action that waited for the swaps. -/
def waitingEnter (s : State) : State :=
  match s.lan.waiting with
  | some act =>
    if s.upd.mode = 2 ∧ (s.upd.swaps ≠ 0 ∨ s.upd.pair ≠ 0) then s
    else powerCommit (forceAsleep { s with lan := { s.lan with waiting := none } }) act 0x7F
  | none => s

/-- R481, R482: the new Popezal serves: the swaps are complete and the new bank runs; with T = 0 that confirms it. -/
def swapsDone (s : State) : State :=
  let ver := fun ty old => (dirFind ((bankDir s (stagedBank s)).getD []) ty).elim old fun e => e.ver
  let boot := { s.boot with bank := stagedBank s, bootSeq := (newRecord s).seq, rec1 := !s.boot.rec1, fallback := false,
                            imageVer := ver 1 s.boot.imageVer, popVer := ver 11 s.boot.popVer }
  let s := sgResume { toSwap s 0 with boot := boot }
  let s := updItem s s.upd.mode 3
  waitingEnter (if s.upd.trial.isNone then confirmOp s else s)

def thermosOp (s : State) : State := if s.upd.swaps = 4 then swapTry s swapsDone else s

def execThermosHandoverComplete (s : State) : Host.Outcome State Fault Refusal := done (thermosOp s)

/-- R482, R496: the trial window, in ticks of LNT; one that ends in STANDBY or SLEEP rolls back at the return. -/
def trialOver (s : State) : Bool :=
  match s.upd.trial with
  | some (a, t) => decide (a + t * 32768 ≤ s.lan.lnt) && decide (powerState s < 2)
  | none => false

def trialEnd (s : State) : State := if trialOver s then resetIfDue (rollback s) else s

def execTrialWindowEnd (s : State) : Host.Outcome State Fault Refusal := done (trialEnd s)

/-! ### Commands (R485) -/

/-- Seconds of the trial window left, a part counted whole (log 36). -/
def trialLeft (s : State) : Nat :=
  match s.upd.trial with
  | some (a, t) => ceilDiv (a + t * 32768 - s.lan.lnt) 32768
  | none => 0

def updStatusBytes (s : State) : List Byte :=
  u8s [s.upd.mode, bnat s.upd.verified + 2 * bnat s.upd.live + 4 * bnat s.upd.trial.isSome + 8 * bnat s.boot.rescue, stagedBank s, s.boot.bank]
    ++ leBytes 4 s.upd.nWords ++ leBytes 4 s.boot.bootSeq ++ leBytes 4 (trialLeft s) ++ u8s s.otp.floors ++ [0, 0]
    ++ leBytes 4 s.upd.pktOk ++ leBytes 4 s.upd.pktBad

def cmdUpdStatus : Command := fun s r => checked true (r.len == 0) s (s, answerOk (updStatusBytes s))

/-- R483: in a pair, the ACTIVE unit alone. -/
def updBars (s : State) : Bool := decide (budMode s ≥ 2)

/-- R477: the inactive bank and its manifest area erased. -/
def beginOp (s : State) : State :=
  let b := stagedBank s
  let s := flashErase (flashErase s (bankBase b) bankSize) (manifestBase b) 0x1000
  let s := { s with upd := { s.upd with words := [], nWords := 0, failed := false, verified := false, live := false } }
  updMode s 1 0

def cmdUpdBegin : Command := fun s r =>
  checked (r.comp == 0) (r.len == 0) s
    (if s.upd.mode ≠ 0 || updBars s then refuse s eState
     else
       let x := flashTry s
       if x.1 then (beginOp x.2, answerOk (u8s [stagedBank s, 0, 0, 0])) else refuse x.2 eCheck)

/-- R477: in STAGING, with a bank that no flash failure has spoiled: such a one must be staged again from UPD_BEGIN, and until then the requests that
need the staging answer E_STATE (log 36). -/
def staging (s : State) : Bool := s.upd.mode == 1 && !s.upd.failed

/-- R477: image space. -/
def imageEnd : Nat := 0x801000

/-- The flash address of an offset of image space. -/
def imageAddr (b off : Nat) : Nat := if off < bankSize then bankBase b + off else manifestBase b + (off - bankSize)

/-- The words of image space from an offset. -/
def imageWords (off n : Nat) : List Nat := (List.range (n / 4)).map fun k => off / 4 + k

def writtenBefore (s : State) (w : Nat) : Bool := SMap.get (fun _ => false) s.upd.words w

def markWord (s : State) (w : Nat) : State :=
  { s with upd := { s.upd with words := SMap.set (fun _ => false) s.upd.words w true, nWords := s.upd.nWords + 1 } }

/-- One word programmed. A word whose program failed is not programmed again either: the bank is staged anew (R477). -/
def programWord (data : List Byte) (off : Nat) (s : State) (w : Nat) : State :=
  markWord (flashProgram s (imageAddr (stagedBank s) (4 * w)) (slice data (4 * w - off) 4)) w

def cmdUpdWrite : Command := fun s r =>
  let off := r.at 0 4
  let n := r.len - 4
  checked (r.comp == 0) (decide (8 ≤ r.len) && decide (r.len ≤ 1028) && r.len % 4 == 0) s
    (if !staging s || updBars s then refuse s eState
     else if off % 4 ≠ 0 || off + n > imageEnd || (imageWords off n).any (writtenBefore s) then refuse s eRange
     else
       let x := flashTry { s with upd := { s.upd with verified := false } }
       if x.1 then ((imageWords off n).foldl (programWord (r.f.drop 4) off) x.2, answerOk [])
       else
         let w := (imageWords off n).foldl markWord x.2
         refuse { w with upd := { w.upd with failed := true } } eCheck)

def cmdUpdVerify : Command := fun s r =>
  checked (r.comp == 0) (r.len == 0) s
    (if !staging s then refuse s eState
     else
       match verifyStaged s with
       | some x => refuse (verFailItem s x) x.status
       | none => (verifyPassed s, answerOk (u8s [bnat (!classLive s), 0, 0, 0])))

/-- R483: in a pair the partner goes first; the answer waits for it. -/
def activatePair (s : State) (sync : Bool) : State × Ans :=
  if partnerState s ≠ 2 then refuse (activateRefused s) eCheck
  else
    let s := sendUpdate s
    ({ s with upd := { s.upd with pair := 1 } }, { status := eOk, data := [], wait := !sync })

def cmdUpdActivate : Command := fun s r =>
  let mode := r.at 0 1
  checked (r.comp == 0) (r.len == 4) s
    (if s.upd.mode ≠ 1 || !s.upd.verified || updBars s then refuse s eState
     else if mode > 1 then refuse s eRange
     else if mode = 0 && (!s.upd.live || s.boot.rescue) then refuse s eState
     else
       let s := updModeFree { s with upd := { s.upd with restart := mode == 1, trialT := r.at 2 2 } } 2
       if budMode s = 1 then activatePair s r.sync
       else
         let x := commitPoint s
         (x.1, answer (if x.2 then eOk else eCheck)))

def cmdUpdConfirm : Command := fun s r =>
  checked (r.comp == 0) (r.len == 0) s
    (if !runsNewest s then refuse s eState else (confirmOp s, answerOk (u8s (raiseFloors s).otp.floors)))

def abortOp (s : State) : State :=
  if s.upd.mode = 1 then updMode { s with upd := { s.upd with verified := false } } 0 6
  else rollback (if s.upd.pair = 1 then activateAnswer s eCheck else s)

def cmdUpdAbort : Command := fun s r =>
  checked (r.comp == 0) (r.len == 0) s (if s.upd.mode = 0 then refuse s eState else (abortOp s, answerOk []))

/-- R485: a key of C0 with CMAC_VER. -/
def svcKeyOk (s : State) (k : Nat) : Bool := slotOwner s k == 0 && nbit (usageCur s k) 3

def cmdUpdSetService : Command := fun s r =>
  let k := r.at 8 2
  checked (r.comp == 0) (r.len == 12) s
    (if k > 1023 then refuse s eRange
     else if !svcKeyOk s k then refuse s ePolicy
     else
       let v : SvcSet := { ip := r.at 0 4, port := r.at 4 2, auth := nbit (r.at 6 1) 0, key := k }
       ({ s with upd := { s.upd with svc := v } }, answerOk []))

def keyPosition (s : State) (p : Nat) : List Byte × Bool := s.otp.keys.getD p ([], false)

/-- R474: keys programmed and not revoked, beside position `p`. -/
def otherKeys (s : State) (p : Nat) : Bool :=
  (List.range 4).any fun i => i != p && !(keyPosition s i).1.isEmpty && !(keyPosition s i).2

def setKeyPosition (s : State) (p : Nat) (x : List Byte × Bool) : State :=
  { s with otp := { s.otp with keys := s.otp.keys.set p x } }

/-- Corcen programs position 0 at test. -/
def cmdUpdOtpKey : Command := fun s r =>
  let p := r.at 0 1
  let op := r.at 1 1
  let x := keyPosition s p
  checked (r.comp == 0) (r.len == 36) s
    (if p > 3 || op > 1 then refuse s eRange
     else if op = 0 then
       (if p = 0 || !x.1.isEmpty then refuse s eState else (setKeyPosition s p (slice r.f 4 32, x.2), answerOk []))
     else if !x.1.isEmpty && !x.2 && !otherKeys s p then refuse s eState
     else (setKeyPosition s p (x.1, true), answerOk []))

def execUpdGetStatus (m : Mbx) (s : State) : Host.Outcome State Fault Refusal := done (cmdRow s m.val 0x0901 cmdUpdStatus)
def execUpdBegin (m : Mbx) (s : State) : Host.Outcome State Fault Refusal := done (cmdRow s m.val 0x0902 cmdUpdBegin)
def execUpdWrite (m : Mbx) (s : State) : Host.Outcome State Fault Refusal := done (cmdRow s m.val 0x0903 cmdUpdWrite)
def execUpdVerify (m : Mbx) (s : State) : Host.Outcome State Fault Refusal := done (cmdRow s m.val 0x0904 cmdUpdVerify)
def execUpdActivate (m : Mbx) (s : State) : Host.Outcome State Fault Refusal := done (resetIfDue (cmdRow s m.val 0x0905 cmdUpdActivate))
def execUpdConfirm (m : Mbx) (s : State) : Host.Outcome State Fault Refusal := done (cmdRow s m.val 0x0906 cmdUpdConfirm)
def execUpdAbort (m : Mbx) (s : State) : Host.Outcome State Fault Refusal := done (resetIfDue (cmdRow s m.val 0x0907 cmdUpdAbort))
def execUpdSetService (m : Mbx) (s : State) : Host.Outcome State Fault Refusal := done (cmdRow s m.val 0x0908 cmdUpdSetService)
def execUpdOtpKey (m : Mbx) (s : State) : Host.Outcome State Fault Refusal := done (cmdRow s m.val 0x0909 cmdUpdOtpKey)

end Sys2Proof.Machine
end

