-- ==== Sys2Proof/Machine/Boot.lean ====
section
/-!
DEFINITION. Sys2Proof/Machine/Boot.lean: the start-up sequence, the hardware loader, readiness, rescue, the start-up report and the reset of
single blocks (R412 to R432).
-/
namespace Sys2Proof.Machine

/-! ### Lantern and rails (R414, R405) -/

/-- The lantern's regulator and oscillator run. -/
def lanternOn (s : State) : State :=
  if s.boot.stage = 0 ∧ s.boot.resetLow = false ∧ powerState s < 2 then setB { s with boot := { s.boot with stage := 1 } } 0x14 0 true else s

def execLanternUp (s : State) : Host.Outcome State Fault Refusal := done (lanternOn s)

/-- R405, R406, R414: every rail is in its window: the loops start on the internal oscillator, pacing measures in LIMIT, the PCIe link trains, the
loader may start. -/
def railsOn (s : State) : State :=
  if s.boot.stage ≠ 1 then s
  else
    let s := setB (setF (loopsStart s) 0x10018 7 0 0xFF) 0x10108 1 s.otp.trimOk
    setB { s with boot := { s.boot with stage := 2 }, clk := { s.clk with qual := qualStart s }, pcie := { s.pcie with link := !s.pcie.perst } } 0x14 1 true

def execRailsUp (s : State) : Host.Outcome State Fault Refusal := done (railsOn s)

/-! ### Records (R420, R421) -/

/-- A record of a section: where it stands, its header's fields, its data. -/
structure LoadRec where
  pos  : Nat
  kind : Nat
  code : Nat
  addr : Nat
  data : List Byte
  deriving DecidableEq, Repr

/-- The records of a section from position `p`; `n` bounds them. -/
def recordsFrom (bs : List Byte) : Nat → Nat → List LoadRec
  | 0, _ => []
  | n + 1, p =>
    if p + 8 ≤ bs.length then
      let len := leAt bs (p + 2) 2
      { pos := p, kind := leAt bs p 1, code := leAt bs (p + 1) 1, addr := leAt bs (p + 4) 4, data := slice bs (p + 8) len }
        :: recordsFrom bs n (p + 8 + ceilDiv len 4 * 4)
    else []

/-- KIND 4: one value for each resource from the first index on, of `w` bytes. The classes and widths are the model's (log 10). -/
def ownWrite (field base w : Nat) (r : LoadRec) (s : State) : State :=
  (List.range (r.data.length / w)).foldl (fun a k => setTri a field (base + (r.addr + k)) (leAt r.data (w * k) w)) s

def slotOwnWrite (r : LoadRec) (s : State) : State :=
  (List.range r.data.length).foldl (fun a k => setTri a 3 (4 * (r.addr + k)) (leAt r.data k 1)) s

/-- R298: a byte for each of the current and the pending key of a slot. -/
def usageWrite (r : LoadRec) (s : State) : State :=
  (List.range (r.data.length / 2)).foldl
    (fun a k => setUsagePend (setUsageCur a (r.addr + k) (leAt r.data (2 * k) 1)) (r.addr + k) (leAt r.data (2 * k + 1) 1)) s

def policyWrite (s : State) (r : LoadRec) : State × Bool :=
  if r.code ≤ 7 then (ownWrite 0 (r.code * 2 ^ 16) 1 r s, true)
  else if r.code = 0x10 then (ownWrite 1 0 4 r s, true)
  else if r.code = 0x11 then (ownWrite 2 0 1 r s, true)
  else if r.code = 0x12 then (slotOwnWrite r s, true)
  else if r.code = 0x13 then (ownWrite 4 0 4 r s, true)
  else if r.code = 0x14 then (usageWrite r s, true)
  else (s, false)

/-- One record; false: it is refused. -/
def applyRecord (s : State) (r : LoadRec) : State × Bool :=
  if r.kind = 1 then
    (if locExists s .loader r.addr && r.addr % 4 == 0 then (busWrite s .loader r.addr (BitVec.ofNat 32 (leAt r.data 0 4)), true) else (s, false))
  else if r.kind = 2 ∨ r.kind = 3 then
    let x := tableOp s 0 r.code (if r.kind = 2 then 2 else 4) r.addr (padTo 256 r.data) false
    (x.1, x.2.status == stOk)
  else if r.kind = 4 then policyWrite s r
  else (s, false)

/-- R421: a refused record is skipped and counted; the first is remembered. -/
def loadRecord (ty : Nat) (s : State) (r : LoadRec) : State :=
  let x := applyRecord s r
  if x.2 then x.1
  else
    let b := x.1.boot
    { x.1 with boot := { b with refused := b.refused + 1, firstTy := if b.refused = 0 then ty else b.firstTy
                                firstOff := if b.refused = 0 then r.pos else b.firstOff } }

def loadRecords (s : State) (ty : Nat) (bs : List Byte) (from_ : Nat) : State :=
  (recordsFrom bs (bs.length / 8) from_).foldl (loadRecord ty) s

/-! ### Sections (R419). Where the manual gives no layout, the model has its own (log 37). -/

/-- DEVICE: the header's fields, then ownership and policy. -/
def loadDevice (s : State) (bs : List Byte) : State :=
  let s := setTri s 0 (7 * 2 ^ 16) (leAt bs 0 1)
  let s := setTri (setF s 0x1A2010 5 0 (leAt bs 1 1)) 4 0 (leAt bs 16 4)
  let s := wr (wr s 0x1A2020 (BitVec.ofNat 32 (leAt bs 8 4))) 0x1A2024 (BitVec.ofNat 32 (leAt bs 12 4))
  let s := { s with boot := { s.boot with sizeCode := leAt bs 2 1, subsys := BitVec.ofNat 32 (leAt bs 4 4) } }
  let s := loadRecords s 1 bs 64
  { s with boot := { s.boot with loaded := true } }

/-- R261: the entries of one shadow out of the section's bytes. -/
def loadShadow (bs : List Byte) (s : State) (t : Nat × Nat) : State :=
  let w := tBytes t.1
  let n := min (tCount t.1) ((bs.length - t.2) / w)
  (List.range n).foldl (fun a i => shSet a t.1 i (eOf (slice bs (t.2 + w * i) w))) s

def shadowPlaces : List (Nat × Nat) :=
  [(0x10, 0), (0x11, 0x80000), (0x12, 0x100000), (0x13, 0x110000), (0x14, 0x120000), (0x15, 0x180000), (0x16, 0x1E0000)]

/-- R116: segment 63 of the own vehicle is always LIVE; code 3 names no mode and is taken as LIVE (log 37). -/
def segLoad (s : State) (k b : Nat) : Nat := if k = ownVeh s * 64 + 63 ∨ b % 4 = 3 then 0 else b % 4

/-- SEGMENTS: a byte for each segment of each vehicle, then SIG_VIS and SIG_PIN. -/
def loadSegments (s : State) (bs : List Byte) : State :=
  let s := { s with smt := (List.range 4096).foldl (fun m k => SMap.set (fun _ => 0) m k (segLoad s k (leAt bs k 1))) s.smt }
  (List.range 4).foldl (fun a k => wr a (0x1A0018 + 4 * k) (BitVec.ofNat 32 (leAt bs (4096 + 4 * k) 4))) s

/-- SCRIPTS: `n` requests, and what follows them. -/
def scriptFrom : Nat → List Byte → List (List Byte × List Byte) × List Byte
  | 0, bs => ([], bs)
  | n + 1, bs =>
    let len := leAt bs 6 2
    let x := scriptFrom n (bs.drop (16 + ceilDiv len 4 * 4))
    ((bs.take 16, slice bs 16 len) :: x.1, x.2)

def loadScripts (s : State) (bs : List Byte) : State :=
  let a := scriptFrom (min 256 (leAt bs 0 4)) (bs.drop 4)
  let b := scriptFrom (min 256 (leAt a.2 0 4)) (a.2.drop 4)
  { s with boot := { s.boot with scripts := [a.1, b.1] } }

/-- R419: one section applied. -/
def loadSection (s : State) (e : DirEnt) : State :=
  let bs := sectionBytes s s.boot.bank e
  match e.ty with
  | 1 => loadDevice { s with boot := { s.boot with imageVer := e.ver } } bs
  | 3 => loadRecords s 3 bs 0
  | 4 => loadSerdes s bs
  | 5 => loadRecords s 5 bs 0
  | 6 => loadRecords s 6 bs 0
  | 8 => shadowPlaces.foldl (loadShadow bs) s
  | 9 => loadSegments s bs
  | 10 => loadScripts s bs
  | 11 => { s with boot := { s.boot with popVer := e.ver, popOk := true, badBank := none } }
  | _ => s

/-! ### Rescue (R427) -/

/-- R426, R427: no bank can be loaded: every block but the lantern, the clocks and the service port has its reset state. -/
def enterRescue (s : State) : State :=
  let t := blocksReset s
  let keep (o : Nat) : Bool := (decide (0x70000 ≤ o) && decide (o < 0x70700)) || (decide (0x10000 ≤ o) && decide (o < 0x11000)) || o == 0x8000C
  let u := { t with
    regs := s.regs.filter fun e => keep e.1, clk := s.clk, time := s.time, ticks := s.ticks, pcie := s.pcie
    boot := { t.boot with stage := 3, rescue := true, rec1 := s.boot.rec1, bootSeq := s.boot.bootSeq, bank := s.boot.bank } }
  wr (wr u 0x14 (rd s 0x14 &&& 0xB)) 0x18 (BitVec.ofNat 32 ((rd s 0x18).toNat &&& 8 ||| 0xB34))

/-! ### The bank (R417, R418, R421) -/

/-- The banks that the followed record lets the loader try, in order. -/
def bankTries (s : State) (r : BootRecord) : List Nat :=
  if s.boot.badBank = some r.bank then (if r.fallback then [1 - r.bank] else [])
  else if r.fallback ∧ s.boot.badBank.isNone = true then [r.bank, 1 - r.bank]
  else [r.bank]

/-- A bank whose directory passes. -/
def bankOk (s : State) (b : Nat) : Bool :=
  match bankDir s b with
  | some es => floorsOk s es
  | none => false

/-- R417 to R422: the record, the bank, its directory. -/
def chooseBank (s : State) : State :=
  match followed s with
  | none => enterRescue s
  | some (k, r) =>
    let s := { s with boot := { s.boot with rec1 := k == 1, bootSeq := r.seq, bank := r.bank } }
    match (bankTries s r).find? (bankOk s) with
    | none => enterRescue s
    | some b =>
      { s with boot := { s.boot with bank := b, fallback := b != r.bank, stage := 3, todo := requiredTypes
                                     badBank := if b ≠ r.bank then some r.bank else s.boot.badBank } }

/-- R428: item 0x03. -/
def startReport (s : State) : State :=
  let b := s.boot
  evtItem s 0x28 0 0x03 (rd s 0x18).toNat
    (u8s [b.cause, if b.cause = 3 then b.causeRail else 0, b.bank, bnat b.fallback + 2 * bnat b.helper1 + 4 * bnat b.retried + 8 * bnat b.rec1]
      ++ leBytes 4 b.bootSeq ++ leBytes 4 b.refused ++ u8s [b.firstTy] ++ leBytes 3 b.firstOff)

/-- R421: a section whose CRC fails: the bank is marked and the start ends with a device reset, unless the other has been tried. R428: where rescue
makes CONFIG failed after REGISTERS was applied, the report is due; EVT_JNL_EN, which rescue has put back to reset, then decides that it is not written. -/
def bankFailed (s : State) : State :=
  if s.boot.badBank.isNone then deviceStart { s with boot := { s.boot with badBank := some s.boot.bank } } 5 0
  else if s.boot.todo.contains 5 then enterRescue s
  else startReport (enterRescue s)

/-! ### Readiness (R414, R423, R426) -/

/-- R437: only a segment whose channel is in use sleeps; the image has now said which are. -/
def segConfigured (s : State) (n : Nat) : State :=
  if (segAt s n).st = 2 ∧ modeReq s n = 0 then segStart (setB s (canR n 0x30) 17 false) n else s

/-- R386, R414, R425, R447, R305, R482, R506, R520: the start-up commit, CONFIG, and what waited for it. -/
def configDone (s : State) : State :=
  let was := s
  let s := commitEnd (commitStart s)
  let left := s.boot.todo.filter (11 == ·)
  let bad := if left.isEmpty then none else s.boot.badBank
  let s := setB (setB { s with boot := { s.boot with stage := 4, todo := left, badBank := bad } } 0x14 11 true) 0x18 11
    (s.boot.refused > 0 || getB s 0x18 7)
  let s := mismatchRises was s cfgBlocks
  confirmAtConfig (pwrFollow ((List.range 48).foldl segConfigured (flushItems (tamperLatched (owedItems (tamperWake (startReport s)))))) none)

/-- What a section's application makes ready. -/
def sectionReady (s : State) (ty : Nat) : State :=
  if ty = 3 then canEarly s
  else if ty = 5 then canReady s
  else if ty = 6 then readySet s 5
  else if ty = 10 then configDone s
  else s

/-- The next section, read and applied. -/
def applyNext (s : State) : State :=
  match s.boot.todo with
  | [] => s
  | ty :: rest =>
    if ty = 8 ∧ ready s 7 = false then (if getB s 0x18 7 then configDone { s with boot := { s.boot with todo := [] } } else s)
    else
      match dirFind ((bankDir s s.boot.bank).getD []) ty with
      | none => bankFailed s
      | some e =>
        if crc32c (sectionBytes s s.boot.bank e) ≠ e.crc then bankFailed s
        else sectionReady (loadSection { s with boot := { s.boot with todo := rest } } e) ty

/-- R420 to R422: a step of the loader: at first it chooses the bank. It waits for the flash (R400). -/
def loaderStep (s : State) : State :=
  if s.boot.rescue || flashWaits s then s
  else if s.boot.stage = 2 then
    let t := chooseBank s
    if t.boot.rescue then t else applyNext t
  else if s.boot.stage ≥ 3 then applyNext s
  else s

def execLoaderSectionApplied (s : State) : Host.Outcome State Fault Refusal := done (loaderStep s)

/-! ### Memory, crystal, Popezal (R414, R426) -/

/-- R126, R414: every slot is zero once the image is initialised. -/
def dramUp (s : State) (retried : Bool) : State :=
  if s.boot.stage < 2 ∨ s.boot.rescue = true ∨ ready s 7 = true then s
  else readySet { s with slots := [], boot := { s.boot with retried := retried } } 7

def execDramTrained (retried : Bool) (s : State) : Host.Outcome State Fault Refusal := done (dramUp s retried)

/-- R426: three attempts have failed. -/
def dramDown (s : State) : State :=
  if s.boot.stage < 2 ∨ s.boot.rescue = true ∨ ready s 7 = true then s
  else devFault (setB (setB (setB s 0x18 7 true) 0x18 8 true) 0x18 9 true) 3

def execDramTrainingFailed (s : State) : Host.Outcome State Fault Refusal := done (dramDown s)

/-- R126: slots zeroed, SEGMENTS applied. -/
def imageInit (s : State) : State :=
  if s.boot.stage ≥ 3 && ready s 7 && !s.boot.todo.contains 9 && !s.boot.rescue && !s.boot.resume && !imageReady s && decide (powerState s < 2) then
    setB (imageUp s) 0x18 8 false
  else s

def execImageInitComplete (s : State) : Host.Outcome State Fault Refusal := done (imageInit s)

/-- R127: after STANDBY, where the image was up when it was entered. -/
def imageResume (s : State) : State :=
  if s.boot.resume && ready s 7 && decide (powerState s < 2) then imageUp (resumePass { s with boot := { s.boot with resume := false } }) else s

def execResumePassComplete (s : State) : Host.Outcome State Fault Refusal := done (imageResume s)

/-- R426: the crystal has not qualified. -/
def xtalLate (s : State) : State :=
  if s.boot.stage = 0 ∨ ready s 3 = true ∨ 2 ≤ powerState s then s else devFault (setB (setB s 0x18 3 true) 0x18 4 true) 5

def execXtalQualifyTimeout (s : State) : Host.Outcome State Fault Refusal := done (xtalLate s)

/-- R368, R414, R432: Popezal runs: at a start it begins the START script; after a restart it takes requests. -/
def popServing (s : State) : State :=
  if s.boot.popOk = false ∨ ready s 9 = true ∨ s.script.isSome = true ∨ 2 ≤ powerState s then s
  else if s.boot.startRun then readySet s 9
  else scriptStart { s with boot := { s.boot with startRun := true } } 0

def execPopezalServing (s : State) : Host.Outcome State Fault Refusal := done (popServing s)

/-- R426. -/
def popLate (s : State) : State := if s.boot.popOk && !ready s 9 then setB s 0x18 9 true else s

def execPopezalLoadTimeout (s : State) : Host.Outcome State Fault Refusal := done (popLate s)

/-! ### Popezal restarts (R432, R490) -/

/-- R429, R432: POPEZAL in the active bank passes its check. -/
def popCopyOk (s : State) : Bool :=
  match dirFind ((bankDir s s.boot.bank).getD []) 11 with
  | some e => crc32c (sectionBytes s s.boot.bank e) == e.crc
  | none => false

/-- R368: a script that a restart cuts off: no code of item 0xA2 says so; the outcome byte is a free value (log 2). -/
def scriptCut (s : State) : State :=
  match s.script with
  | none => s
  | some x =>
    let v := fresh s
    evtItem { setB v.2 0x3A004 1 false with script := none } 0x3A000 0 0xA2 (bnat x.hostless)
      ([BitVec.ofNat 8 v.1, 0] ++ leBytes 2 (x.next - 1) ++ leBytes 2 x.lastCode ++ leBytes 2 x.lastStat)

/-- R490: restarts within the last second, this one among them. -/
def restartsNow (s : State) : List Nat := (s.boot.restarts ++ [ltNs s]).filter fun t => decide (ltNs s < t + 1000000000)

/-- R365, R429, R432, R490: Popezal restarts, and the supervisor is reset; item 0x09 with its cause. A restart in a handover is a swap that failed (R480); the third within one
second resets the device. -/
def popRestart (s : State) (cause : Nat) : State :=
  if !s.boot.popOk then s
  else
    let x := abortAll (scriptCut (setB s 0x14 9 false))
    let rs := restartsNow s
    let s := { x.1 with boot := { x.1.boot with restarts := rs, supReset := s.boot.blk.all fun y => y.1 != .supervisor } }
    let s := evtItem s 0x28 0 0x09 0 (u8s [cause, min 255 x.2, min 255 rs.length])
    if rs.length ≥ 3 then deviceStart s 2 0
    else if s.upd.swaps = 4 then deviceStart (updItem s s.upd.mode 7) 2 0
    else if popCopyOk s then s
    else setB { s with boot := { s.boot with popOk := false } } 0x18 9 true

/-- A restart for which no cause is named: which of the three causes of R491 its item bears is a free value (log 2). -/
def popRestartFree (s : State) : State :=
  let x := fresh s
  popRestart x.2 (x.1 % 3)

def execPopezalRestart (s : State) : Host.Outcome State Fault Refusal := done (popRestartFree s)

/-! ### Resets of single blocks (R429 to R431) -/

/-- The kind of a block, and the range of its registers: base and length. -/
def blkKind : ResetBlk → Nat
  | .can _ => 0
  | .eth _ => 1
  | .switch => 2
  | .cipher _ => 3
  | .supervisor => 4

def blkBase : ResetBlk → Nat
  | .can n => canR n.val 0
  | .eth p => ethR p.val 0
  | .switch => 0x180000
  | .cipher e => 0x90000 + e.val
  | .supervisor => 0x30000

def inBlk (b : ResetBlk) (o : Nat) : Bool :=
  match b with
  | .can n => decide (canR n.val 0 ≤ o) && decide (o < canR n.val 0x1000)
  | .eth p => decide (ethR p.val 0 ≤ o) && decide (o < ethR p.val 0x1000)
  | .switch => (decide (0x180000 ≤ o) && decide (o < 0x182000)) || swOnly o
  | _ => false

/-- The registers of a block at reset. The model keeps some of the switch core's elsewhere (log 12). -/
def blkRegs (s : State) (b : ResetBlk) : State :=
  { s with
    regs := s.regs.filter fun e => !(inBlk b e.1 || (b == .switch && decide (0x1182000 ≤ e.1) && decide (e.1 < 0x1182B00)))
    inForce := s.inForce.filter fun e => !inBlk b e.1 }

/-- R297, R430: the key registers of engine `e` are cleared; its job in progress ends with FAULT. -/
def engineFault (s : State) (e : Nat) : State :=
  let s := setEngineKey s e none
  match engineJob s e with
  | some (c, j) => jobEnd (jobZero s j) c j jsFault
  | none => s

/-- R226, R430: the free pool is rebuilt: a frame that is still being sent has no cells and no charges left. -/
def poolRebuilt (s : State) : State :=
  { s with sw := { s.sw with frames := s.sw.frames.map fun f => { f with chain := [], cells := 0, cellsA := 0, cellsB := 0 } } }

/-- R230: after a reset of the switch core a port that is enabled with its link up serves again. -/
def portsServe (s : State) : State :=
  (List.range 24).foldl (fun a p => if portEn a p && linkIs a p then setEg a p 0 else a) s

/-- The KIND 1 records of the active bank that address a block, section by section; none when a section's CRC fails. -/
def blkRecords (s : State) (b : ResetBlk) : Option (List LoadRec) :=
  let ds := (bankDir s s.boot.bank).getD []
  let sec (ty : Nat) : Option (List LoadRec) :=
    match dirFind ds ty with
    | none => none
    | some e =>
      let bs := sectionBytes s s.boot.bank e
      if crc32c bs = e.crc then some ((recordsFrom bs (bs.length / 8) (if ty = 1 then 64 else 0)).filter fun r => r.kind == 1 && inBlk b r.addr)
      else none
  match sec 1, sec 3, sec 5, sec 6 with
  | some a, some c, some d, some e => some (a ++ c ++ d ++ e)
  | _, _, _, _ => none

/-- A block goes back to reset, with what R430 returns besides its registers. STB stays the lantern's while the segment is ASLEEP, and in STANDBY and SLEEP (R60). -/
def blkClear (s : State) (b : ResetBlk) : State :=
  match b with
  | .can n =>
    let t := blkRegs (enterDisabled s n.val) b
    setB t (canR n.val 0x30) 17 (decide ((segAt t n.val).st = 2 ∨ 2 ≤ pwrState t))
  | .eth p => eqStart (blkRegs (portOff s p.val) b) p.val
  | .switch => poolRebuilt (blkRegs (swPortList.foldl (fun a p => (dropQueue a p 0x70 4 fun _ => true).1) s) b)
  | .cipher e => engineFault s e.val
  | .supervisor => popRestartFree s

/-- The records reapplied. -/
def blkReload (s : State) (b : ResetBlk) : State := ((blkRecords s b).getD []).foldl (fun a r => (applyRecord a r).1) s

/-- R429: a block reset, and the records of the bank reapplied, once the flash can be read (R400). An access to the block waits for both, so they are one
step. -/
def blkStart (s : State) (b : ResetBlk) : State :=
  let t := blkClear { s with boot := { s.boot with blk := some (b, (blkRecords s b).map List.length) } } b
  if flashWaits s then { t with boot := { t.boot with blkHeld := t.boot.blk.isSome } } else blkReload t b

def execBlockReset (b : ResetBlk) (s : State) : Host.Outcome State Fault Refusal :=
  done (if s.boot.blk.isSome || decide (s.boot.stage < 4) then s else blkStart s b)

/-- R429: item 0x04 of a reset of block `b`. -/
def blkItem (s : State) (b : ResetBlk) (n : Option Nat) : State :=
  evtItem s 0x28 0 0x04 (blkBase b) (u8s [blkKind b, min 255 (n.getD 0), bnat n.isNone])

/-- R429: the reset is complete: item 0x04. A reset of the supervisor that a restart made completes after it, with no records. -/
def blkEnd (s : State) : State :=
  match s.boot.blk with
  | none => if s.boot.supReset then blkItem { s with boot := { s.boot with supReset := false } } .supervisor (some 0) else s
  | some (b, n) =>
    if s.boot.blkHeld && flashWaits s then s
    else
      let s := if s.boot.blkHeld then blkReload s b else s
      let s := { s with boot := { s.boot with blk := none, blkHeld := false } }
      blkItem (if b = .switch then portsServe s else s) b n

def execBlockResetComplete (s : State) : Host.Outcome State Fault Refusal := done (blkEnd s)

end Sys2Proof.Machine
end

