-- ==== Sys2Proof/Machine/CmdCan.lean ====
section
/-!
DEFINITION. Sys2Proof/Machine/CmdCan.lean: the CAN commands of the mailboxes (R63, R64, R96). Each makes its checks in the order of R360 and
R528: the card's compartments, the length, the state that depends on no field, the range of the channel or object, its state, the rest.
-/
namespace Sys2Proof.Machine

/-- R63: accepted from C0 and from the compartment that owns the channel; a number above 47 names no owner to hold against, and E_RANGE
answers it (DEDUCED, log 33). -/
def chanComp (s : State) (r : Req) : Bool := decide (r.at 0 1 > 47) || mayAct r.comp (chanOwner s (r.at 0 1))

def chanBad (r : Req) : Bool := decide (r.at 0 1 > 47)

/-- R63, R64: CAN_SET_MODE acts as a write of MODE_REQ; it is refused where R41 or R46 refuses the enable. -/
def modeRefused (s : State) (n m : Nat) : Bool := modeCur s n == 0 && m != 0 && !timingOk (canCfg s n)

def cmdSetMode : Command := fun s r =>
  let n := r.at 0 1
  let m := r.at 1 1
  checked (chanComp s r) (r.len == 4) s
    (if budBars s then refuse s eState
     else if chanBad r || m > 5 then refuse s eRange
     else if modeRefused s n m then refuse (modeReqSet s n m) eState
     else
       let s := supWrote (modeReqSet s n m)
       (s, answerOk (u8s [modeCur s n, 0, 0, 0])))

/-- R64: the configuration that CAN_SET_TIMING asks for. -/
def cfgAsked (r : Req) : CanCfg :=
  { proto := BitVec.ofNat 32 (r.at 4 4), nbt := BitVec.ofNat 32 (r.at 8 4), dbt := BitVec.ofNat 32 (r.at 12 4)
    xbt := BitVec.ofNat 32 (r.at 16 4), tdc := BitVec.ofNat 32 (r.at 20 4), pwm := BitVec.ofNat 32 (r.at 24 4) }

/-- R37: the fields that CC16 to CC47 do not have. -/
def cfgXl (c : CanCfg) : Bool :=
  (c.proto &&& 0x1A#32) != 0 || (c.xbt &&& 0x3FFFF#32) != 0 || fld c.tdc 21 15 != 0 || (c.pwm &&& 0x3F3F3F#32) != 0

/-- The bits that the six registers have, on CC0 to CC15 and on the others. -/
def cfgMask (n : Nat) : List Nat :=
  if n < 16 then [0xF1F, 0x3FFFFFFF, 0x3FFFF, 0x3FFFF, 0x3FFFFF, 0x3F3F3F] else [0xF05, 0x3FFFFFFF, 0x3FFFF, 0, 0x7FFF, 0]

/-- The configuration written whole, with STB_POL and STB_WAKE, which act at the enable (R8). -/
def cfgPut (s : State) (n : Nat) (c : CanCfg) (stb : Word) : State :=
  let put (s : State) (k o : Nat) (w : Word) := wr s (canR n o) (w &&& BitVec.ofNat 32 ((cfgMask n).getD k 0))
  let s := put (put (put (put (put (put s 0 0xC c.proto) 1 0x10 c.nbt) 2 0x14 c.dbt) 3 0x18 c.xbt) 4 0x1C c.tdc) 5 0x24 c.pwm
  wr (holdForce s (canR n 0x30)) (canR n 0x30) (takeBits (rd s (canR n 0x30)) stb 0xFF04)

def cmdSetTiming : Command := fun s r =>
  let n := r.at 0 1
  let c := cfgAsked r
  checked (chanComp s r) (r.len == 32) s
    (if budBars s then refuse s eState
     else if chanBad r then refuse s eRange
     else if modeCur s n != 0 then refuse s eState
     else if (decide (16 ≤ n) && cfgXl c) || !timingOk c then refuse s eRange
     else (supWrote (cfgPut s n c (BitVec.ofNat 32 (r.at 28 4))), answerOk []))

def cmdRecover : Command := fun s r =>
  let n := r.at 0 1
  checked (chanComp s r) (r.len == 4) s
    (if budBars s then refuse s eState
     else if chanBad r then refuse s eRange
     else if modeCur s n != 6 || getB s (canR n 0) 13 then refuse s eState
     else (supWrote (startRecovery s n), answerOk []))

def cmdGetStatus : Command := fun s r =>
  let n := r.at 0 1
  checked (chanComp s r) (r.len == 4) s
    (if chanBad r then refuse s eRange
     else (s, answerOk (regBytes s [canR n 0, canR n 4, canR n 0x28, canR n 0x2C, canR n 0x20, canR n 0x30])))

/-- R64: thirteen counters in one instant, cleared in the same instant where the flag asks. -/
def cmdGetCounters : Command := fun s r =>
  let n := r.at 0 1
  checked (chanComp s r) (r.len == 4) s
    (if chanBad r || r.at 1 1 > 1 then refuse s eRange
     else (if r.at 1 1 = 1 then zeroAll s (canCounters n) else s, answerOk (regBytes s (canCounters n))))

def cmdSetStb : Command := fun s r =>
  let n := r.at 0 1
  checked (chanComp s r) (r.len == 4) s
    (if budBars s then refuse s eState
     else if chanBad r || r.at 1 1 > 2 then refuse s eRange
     else
       let s := supWrote (setF s (canR n 0x30) 1 0 (r.at 1 1))
       (s, answerOk (u8s [bnat (stbAsserted s n), getF s (canR n 0x30) 17 17, 0, 0])))

/-- R96: the owner of the channel after the request. -/
def lockOwner (s : State) (n : Nat) : Nat :=
  match (chan s n).lock with
  | some l => l.owner
  | none => 0

def cmdLock : Command := fun s r =>
  let n := r.at 0 1
  checked (chanComp s r) (r.len == 4) s
    (if budBars s then refuse s eState
     else if chanBad r || !lockCode (r.at 1 1) then refuse s eRange
     else if !(lockAsk s n (r.at 1 1) (r.at 2 2)).2 then refuse s eState
     else if r.at 2 2 == 0 then refuse s eRange
     else
       let x := lockAsk s n (r.at 1 1) (r.at 2 2)
       (x.1, answerOk (u8s [lockOwner x.1 n, 0, 0, 0])))

def cmdUnlock : Command := fun s r =>
  let n := r.at 0 1
  checked (chanComp s r) (r.len == 4) s
    (if budBars s then refuse s eState
     else if chanBad r || !lockCode (r.at 1 1) then refuse s eRange
     else
       let x := lockFree s n (r.at 1 1)
       if x.2 then (x.1, answerOk []) else refuse s eState)

/-- R96: accepted from C0, from the compartment of the object and from that of its channel (DEDUCED, log 33). -/
def objComp (s : State) (r : Req) : Bool :=
  decide (r.at 0 4 > 131071) || mayAct r.comp (motOwner s (r.at 0 4))
    || (match objIdent s (r.at 0 4) with
        | some x => r.comp == chanOwner s x.1
        | none => false)

/-- R96: 8 + LEN, or 16 + LEN for an XL object; a number that names no object names no XL object. -/
def objSendLen (s : State) (r : Req) : Bool :=
  r.len == (if decide (r.at 0 4 ≤ 131071) && moXl (motAt s (r.at 0 4)) then 16 else 8) + r.at 4 2

def cmdObjSend : Command := fun s r =>
  let o := r.at 0 4
  let e := motAt s o
  let n := r.at 4 2
  checked (objComp s r) (objSendLen s r) s
    (if budBars s then refuse s eState
     else if o > 131071 then refuse s eRange
     else if !moValid e || !moTx e then refuse s eState
     else if !sendLenOk e 64 n then refuse s eRange
     else
       let hdr := if moXl e then hdrOf (slice r.f 8 8) else noHdr
       (sendObj s o hdr (slice r.f (if moXl e then 16 else 8) n) (0x50 + r.m), answerOk []))

def execCanSetMode (m : Mbx) (s : State) : Host.Outcome State Fault Refusal := done (cmdRow s m.val 0x0201 cmdSetMode)
def execCanSetTiming (m : Mbx) (s : State) : Host.Outcome State Fault Refusal := done (cmdRow s m.val 0x0202 cmdSetTiming)
def execCanRecover (m : Mbx) (s : State) : Host.Outcome State Fault Refusal := done (cmdRow s m.val 0x0203 cmdRecover)
def execCanGetStatus (m : Mbx) (s : State) : Host.Outcome State Fault Refusal := done (cmdRow s m.val 0x0204 cmdGetStatus)
def execCanGetCounters (m : Mbx) (s : State) : Host.Outcome State Fault Refusal := done (cmdRow s m.val 0x0205 cmdGetCounters)
def execCanSetStb (m : Mbx) (s : State) : Host.Outcome State Fault Refusal := done (cmdRow s m.val 0x0206 cmdSetStb)
def execCanLock (m : Mbx) (s : State) : Host.Outcome State Fault Refusal := done (cmdRow s m.val 0x0207 cmdLock)
def execCanUnlock (m : Mbx) (s : State) : Host.Outcome State Fault Refusal := done (cmdRow s m.val 0x0208 cmdUnlock)
def execCanObjSend (m : Mbx) (s : State) : Host.Outcome State Fault Refusal := done (cmdRow s m.val 0x0209 cmdObjSend)

end Sys2Proof.Machine
end

