-- ==== Sys2Proof/Machine/CmdSec.lean ====
section
/-!
DEFINITION. Sys2Proof/Machine/CmdSec.lean: the SEC commands of the mailboxes: loading, committing, clearing and reporting keys, and the PUF
enrolment (R298 to R302, R318).
-/
namespace Sys2Proof.Machine

/-- R318: C0 and the slot's owner; a number above 1,023 names no slot (log 33). -/
def slotComp (s : State) (r : Req) : Bool := decide (r.at 0 2 > 1023) || mayAct r.comp (slotOwner s (r.at 0 2))

/-- The lengths of SEC_KEY_LOAD: the wrapped key or the plaintext follows the twelve bytes. -/
def loadLen (r : Req) : Bool :=
  if r.at 2 1 < 2 then r.len == 44 || r.len == 60
  else if r.at 2 1 = 2 then (if r.at 8 1 > 1 then r.len == 28 || r.len == 44 else r.len == 12 + 16 * (r.at 8 1 + 1))
  else [28, 44, 60].contains r.len

/-- R299: the key that unwraps: the root, or a slot that may and that belongs to the target's owner; none is a policy refusal. -/
def loadKek (s : State) (r : Req) : Option (List Byte) :=
  if r.at 2 1 = 0 then s.sec.root
  else if slotOwner s (r.at 4 2) = slotOwner s (r.at 0 2) then keyFor s (r.at 4 2) 5
  else none

/-- R299: a pending key put into its slot. -/
def loaded (s : State) (k usage : Nat) (key : List Byte) : State × Ans := (keyPend s k usage key, answerOk (kcv key))

/-- R299: modes 0 and 1. -/
def loadWrapped (s : State) (r : Req) : State × Ans :=
  let k := r.at 0 2
  match loadKek s r with
  | none => refuse s ePolicy
  | some kek =>
    match unwrapKey s kek k (r.f.drop 12) with
    | none => refuse (unwrapFailed s k) eCheck
    | some x => loaded s k x.1 x.2

def cmdKeyLoad : Command := fun s r =>
  let k := r.at 0 2
  let mode := r.at 2 1
  checked (slotComp s r) (loadLen r) s
    (if !keyReady s then refuse s eState
     else if k > 1023 || mode > 2 || (mode == 1 && r.at 4 2 > 1023) then refuse s eRange
     else if mode == 0 && !rootOk s then refuse s eState
     else if mode == 2 && (r.at 6 2 > 511 || r.at 8 1 > 1) then refuse s eRange
     else if mode == 2 then
       (if getB s 0x90008 0 then loaded s k (r.at 6 2) (r.f.drop 12) else refuse s ePolicy)
     else loadWrapped s r)

def cmdKeyCommit : Command := fun s r =>
  let k := r.at 0 2
  checked (slotComp s r) (r.len == 8) s
    (if !keyReady s then refuse s eState
     else if k > 1023 then refuse s eRange
     else
       match (keyAt s k).pend with
       | none => refuse s eState
       | some key =>
         let x := keyCommit s k key (slice r.f 4 4)
         if x.2 then (x.1, answerOk []) else refuse x.1 eCheck)

def cmdKeyClear : Command := fun s r =>
  checked (slotComp s r) (r.len == 4) s
    (if !keyReady s then refuse s eState
     else if r.at 0 2 > 1023 then refuse s eRange
     else (keyClear s (r.at 0 2), answerOk []))

def kcvOf (k : Option (List Byte)) : List Byte :=
  match k with
  | some key => padTo 4 (kcv key)
  | none => [0, 0, 0, 0]

def is256 (k : Option (List Byte)) : Bool :=
  match k with
  | some key => key.length == 32
  | none => false

/-- R303, R318: outside READY every slot is reported not valid. -/
def keyInfo (s : State) (k : Nat) : List Byte :=
  let x := if keyReady s then keyAt s k else KeySlot.init
  u8s [bnat x.cur.isSome + 2 * bnat x.pend.isSome + 4 * bnat (is256 x.cur) + 8 * bnat (is256 x.pend), slotOwner s k]
    ++ leBytes 2 (if x.cur.isSome then usageCur s k else 0) ++ leBytes 2 (if x.pend.isSome then usagePend s k else 0) ++ [0, 0]
    ++ kcvOf x.cur ++ kcvOf x.pend

def cmdKeyInfo : Command := fun s r =>
  checked (slotComp s r) (r.len == 4) s
    (if r.at 0 2 > 1023 then refuse s eRange else (s, answerOk (keyInfo s (r.at 0 2))))

/-- R302: the root and its helper data are generated, once in the life of the device; R426: the next start regenerates the root from the
helper data, and the store is without it until then. -/
def enroll (s : State) : State := { s with otp := { s.otp with enrolled := true } }

def cmdPufEnroll : Command := fun s r =>
  checked (r.comp == 0) (r.len == 0) s
    (if !keyReady s || s.otp.enrolled then refuse s eState else (enroll s, answerOk (padTo 2048 Config.helperData)))

def execSecKeyLoad (m : Mbx) (s : State) : Host.Outcome State Fault Refusal := done (cmdRow s m.val 0x0601 cmdKeyLoad)
def execSecKeyCommit (m : Mbx) (s : State) : Host.Outcome State Fault Refusal := done (cmdRow s m.val 0x0602 cmdKeyCommit)
def execSecKeyClear (m : Mbx) (s : State) : Host.Outcome State Fault Refusal := done (cmdRow s m.val 0x0603 cmdKeyClear)
def execSecKeyInfo (m : Mbx) (s : State) : Host.Outcome State Fault Refusal := done (cmdRow s m.val 0x0604 cmdKeyInfo)
def execSecPufEnroll (m : Mbx) (s : State) : Host.Outcome State Fault Refusal := done (cmdRow s m.val 0x0605 cmdPufEnroll)

end Sys2Proof.Machine
end

