-- ==== Sys2Proof/Machine/CmdSig.lean ====
section
/-!
DEFINITION. Sys2Proof/Machine/CmdSig.lean: the SIG commands of the mailboxes: segment modes, slots, visibility and pins (R116 to R128), HG
writes and derivation runs (R162), the consist and presence (R187, R193).
-/
namespace Sys2Proof.Machine

/-! ### Segment modes (R116 to R119) -/

def pairMode (s : State) (p : Nat) : Nat := SMap.get (fun _ => 0) s.smt p

/-- R116: the entry of segment 63 of the own vehicle is LIVE, whatever a command that waited would have made of it (log 42). -/
def setPairMode (s : State) (p m : Nat) : State :=
  let m := if p = ownVeh s * 64 + 63 then 0 else m
  { s with smt := SMap.set (fun _ => 0) s.smt p m }

/-- R118: the entry is written and the pass is to be made; while a pass of the pair runs, the command waits for it. -/
def passStart (s : State) (p new : Nat) (mbx : Option Mbx) : State :=
  let x : ModePass := { pair := p, old := pairMode s p, new := new, mbx := mbx }
  if s.passes.any fun y => y.pair == p then { s with passes := s.passes ++ [x] }
  else { setPairMode s p new with passes := s.passes ++ [x] }

/-- The first of the waiting passes of pair `p` starts: its entry is written. -/
def passNext (s : State) (p : Nat) : State :=
  match s.passes.find? fun y => y.pair == p with
  | none => s
  | some x =>
    let y := { x with old := pairMode s p }
    setPairMode { s with passes := s.passes.map fun z => if z = x then y else z } p x.new

def modeAns (p : ModePass) : Ans := answerOk (u8s [p.old, 0, 0, 0])

/-- R118: the response of the command that asked for the pass. -/
def passAnswer (s : State) (p : ModePass) : State :=
  match p.mbx with
  | none => s
  | some m =>
    match (mbxAt s m.val).inSvc with
    | none => s
    | some x => respond s m.val (reqOf m.val false x) (modeAns p)

/-- R118: the oldest pass completes. -/
def modePassOp (s : State) : State :=
  match s.passes with
  | [] => s
  | p :: rest => passNext (passAnswer (passOver { s with passes := rest } p) p) p.pair

def execModePass (s : State) : Host.Outcome State Fault Refusal := done (modePassOp s)

/-- R127, R128: SIG commands, but for SIG_GET_PRESENCE, need the image. -/
def sigBars (s : State) : Bool := !imageReady s || budBars s

def segComp (s : State) (r : Req) (seg : Nat) : Bool := decide (seg > 63) || mayAct r.comp (segOwner s seg)

/-- A pass made at once, after those of its pair that wait: in a script, or for a record. -/
def passNow (s : State) (p new : Nat) : State × Ans :=
  let n := (s.passes.filter fun y => y.pair == p).length
  let s := if n = 0 then s else (List.range s.passes.length).foldl (fun a _ => modePassOp a) s
  let x : ModePass := { pair := p, old := pairMode s p, new := new, mbx := none }
  (passOver (setPairMode s p new) x, modeAns x)

def cmdSetSegmentMode : Command := fun s r =>
  let v := r.at 0 1
  let seg := r.at 1 1
  let p := v * 64 + seg
  checked (segComp s r seg) (r.len == 4) s
    (if sigBars s then refuse s eState
     else if v > 63 || seg > 63 || r.at 2 1 > 2 || (v == ownVeh s && seg == 63) then refuse s eRange
     else if r.sync then passNow s p (r.at 2 1)
     else (passStart s p (r.at 2 1) (some (Fin.ofNat 10 r.m)), { status := eOk, data := [], wait := true }))

/-! ### Slots, visibility, pins (R123, R128) -/

def gsidsOf (r : Req) : List Nat := (List.range ((r.len - 4) / 4)).map fun i => r.at (4 + 4 * i) 4

/-- C0 and the owner of every segment named. -/
def gsidComp (s : State) (r : Req) (gs : List Nat) : Bool := gs.all fun g => decide (g ≥ 2 ^ 25) || mayAct r.comp (segOwner s (gSeg g))

def cmdReadSlots : Command := fun s r =>
  let n := r.at 0 2
  let gs := gsidsOf r
  checked (gsidComp s r gs) (decide (4 ≤ r.len) && r.len == 4 + 4 * n) s
    (if !imageReady s then refuse s eState
     else if n = 0 || n > 64 || gs.any (fun g => decide (g ≥ 2 ^ 25)) then refuse s eRange
     else (gs.foldl (fun a g => touch a g false) s, answerOk (gs.flatMap fun g => slotBytes (slotAt s g))))

/-- A 64-bit mask in two registers. -/
def setMask (s : State) (o v : Nat) : State := wr (wr s o (BitVec.ofNat 32 v)) (o + 4) (BitVec.ofNat 32 (v / 2 ^ 32))

def cmdSetVisibility : Command := fun s r =>
  checked (r.comp == 0) (r.len == 8) s
    (if sigBars s then refuse s eState else (setMask s 0x1A0018 (r.at 0 8), answerOk []))

def bitCount (v n : Nat) : Nat := ((List.range n).filter fun i => nbit v i).length

/-- R123: every slot of a newly pinned segment is loaded. -/
def pinLoad (s : State) (seg : Nat) : State :=
  (List.range 8192).foldl (fun a i => if (cacheHit a (gsid (ownVeh a) seg i)).isSome then a else touch a (gsid (ownVeh a) seg i) false) s

def setPins (s : State) (v : Nat) : State :=
  let fresh := (List.range 64).filter fun seg => nbit v seg && !getB s (0x1A0020 + 4 * (seg / 32)) (seg % 32)
  fresh.foldl pinLoad (setMask s 0x1A0020 v)

def cmdSetPin : Command := fun s r =>
  checked (r.comp == 0) (r.len == 8) s
    (if sigBars s then refuse s eState
     else if bitCount (r.at 0 8) 64 > 12 then refuse s eRange
     else (setPins s (r.at 0 8), answerOk []))

/-! ### HG writes and derivation runs (R162, R180) -/

def hgRecs (r : Req) : List RwRec :=
  (List.range ((r.len - 4) / 16)).map fun i => { g := r.at (4 + 16 * i) 4, value := BitVec.ofNat 64 (r.at (12 + 16 * i) 8) }

def hgSeg (g : Nat) : Bool := decide (g < 2 ^ 25) && decide (56 ≤ gSeg g) && decide (gSeg g ≤ 59)

/-- R149, R162: the own-vehicle records, each an update, in request order, through pool 12, class 0 (DESIGN CHOICE, log 28); the number applied or
suppressed is counted. -/
def hgLocal (s : State) (rs : List RwRec) : State × Nat :=
  rs.foldl (fun a x => let u := hostWritePooled a.1 12 x; (u.1, a.2 + bnat u.2.isSome)) (s, 0)

/-- R180: the records that name one vehicle go in one bundle; the number sent is added. -/
def hgRemote (orig tag : Nat) (rs : List RwRec) (x : State × Nat) (v : Nat) : State × Nat :=
  let y := rwSendTo x.1 v orig tag (rs.filter fun w => gVeh w.g == v)
  (y.1, x.2 + y.2)

def cmdWriteHg : Command := fun s r =>
  let n := r.at 0 2
  let rs := hgRecs r
  checked (gsidComp s r (rs.map fun x => x.g)) (decide (4 ≤ r.len) && r.len == 4 + 16 * n) s
    (if sigBars s then refuse s eState
     else if n = 0 || n > 32 || !(rs.all fun x => hgSeg x.g) then refuse s eRange
     else
       let own := rs.filter fun x => gVeh x.g == ownVeh s
       let far := rs.filter fun x => gVeh x.g != ownVeh s
       let l := hgLocal s own
       let y := ((far.map fun x => gVeh x.g).eraseDups).foldl (hgRemote (0x50 + r.m) r.tag far) (l.1, 0)
       (y.1, answerOk (leBytes 2 l.2 ++ leBytes 2 y.2)))

def dstComp (s : State) (r : Req) : Bool :=
  decide (r.at 0 2 > 255) || mayAct r.comp (owned s (dsComp (tGet s tDst (r.at 0 2))))

def cmdRunDerive : Command := fun s r =>
  let i := r.at 0 2
  checked (dstComp s r) (r.len == 4) s
    (if !getB s 0x1A1008 0 || sigBars s then refuse s eState
     else if i > 255 then refuse s eRange
     else if dsTrig (tGet s tDst i) = 0 then refuse s eState
     else (dstFire s i, answerOk []))

/-! ### The consist (R187, R193) -/

/-- R187: the copy that v_new.s.i takes of v_old.s.i. -/
def moved (x : Slot) : Slot := { x.put 5 false with gen := x.gen + 1 }

/-- R187, step 2: the slots of `old` copied to `new`. -/
def copyVehicle (m : SMap Slot) (old new : Nat) : SMap Slot :=
  let block := (List.range (2 ^ 19)).map fun i => (new * 2 ^ 19 + i, moved (SMap.get (fun _ => Slot.init) m (old * 2 ^ 19 + i)))
  (m.filter fun e => decide (e.1 < new * 2 ^ 19)) ++ (block.filter fun e => e.2 != Slot.init)
    ++ m.filter fun e => decide ((new + 1) * 2 ^ 19 ≤ e.1)

/-- R187, step 2: the SMT entries of `old` move to `new`; those of `old` become LIVE. -/
def moveModes (m : SMap Nat) (old new : Nat) : SMap Nat :=
  (m.filter fun e => decide (e.1 < new * 64) && e.1 / 64 != old)
    ++ ((m.filter fun e => e.1 / 64 == old).map fun e => (new * 64 + e.1 % 64, e.2))
    ++ m.filter fun e => decide ((new + 1) * 64 ≤ e.1) && e.1 / 64 != old

/-- R187, step 3: every slot of another vehicle becomes sixteen zero bytes. -/
def onlyVehicle (m : SMap Slot) (v : Nat) : SMap Slot := m.filter fun e => e.1 / 2 ^ 19 == v

def freshPub (m : SMap PubRt) (i : Nat) : SMap PubRt :=
  SMap.set (fun _ => PubRt.init) m i { SMap.get (fun _ => PubRt.init) m i with dirty := [] }
def freshSub (m : SMap SubRt) (i : Nat) : SMap SubRt :=
  SMap.set (fun _ => SubRt.init) m i { SMap.get (fun _ => SubRt.init) m i with tr := none, missed := false, clean := false }
def freshTtt (m : SMap TttRt) (i : Nat) : SMap TttRt :=
  SMap.set (fun _ => TttRt.init) m i { SMap.get (fun _ => TttRt.init) m i with tr := none }

/-- R187, step 4: trackers, missed flags, dirty marks, presence and duplicate bits cleared, each presence bit with its event and item
(R189); pending remote writes fail with cause 5. -/
def mirForget (s : State) : State :=
  let ws := s.mir.rw
  let m := { s.mir with rw := [], trk := [], veh := [], pub := (s.mir.pub.map fun e => e.1).foldl freshPub s.mir.pub
                        sub := (s.mir.sub.map fun e => e.1).foldl freshSub s.mir.sub
                        ttt := (s.mir.ttt.map fun e => e.1).foldl freshTtt s.mir.ttt }
  let s := ((List.range 64).filter (presBit s)).foldl (fun a v => vehItem (raise (setPres a v false) 0x1A2000 1) v 1) s
  ws.foldl (fun a w => rwFail a w 5) (zeroAll { s with mir := m } (wordsFrom 0x1A2028 4))

/-- R187: the five steps, as one. The copy and the clear do not pass through the signal cache (DESIGN CHOICE, log 42). -/
def setConsist (s : State) (v : Nat) (keep : Bool) (etb op : Nat) : State :=
  let old := ownVeh s
  let s := if v = old then s else houseAdd { s with slots := copyVehicle s.slots old v, smt := moveModes s.smt old v } 1049 (2 ^ 19)
  let s := if keep then s else houseAdd { s with slots := onlyVehicle s.slots v } 1049 (63 * 2 ^ 19)
  let s := wr (wr (setF s 0x1A2010 5 0 v) 0x1A2014 (BitVec.ofNat 32 etb)) 0x1A2018 (BitVec.ofNat 32 op)
  evtItem (raise (mirForget s) 0x1A2000 5) 0x1A2008 3 0x44 v ([BitVec.ofNat 8 old, BitVec.ofNat 8 (bnat keep), 0, 0] ++ leBytes 4 etb)

def cmdSetConsist : Command := fun s r =>
  let v := r.at 0 1
  let keep := nbit (r.at 1 1) 0
  checked (r.comp == 0) (r.len == 12) s
    (if sigBars s then refuse s eState
     else if v > 63 || r.at 1 1 > 1 || (keep && v != ownVeh s) then refuse s eRange
     else (setConsist s v keep (r.at 4 4) (r.at 8 4), answerOk (u8s [ownVeh s, 0, 0, 0])))

def cmdGetPresence : Command := fun s r =>
  checked true (r.len == 0) s
    (s, answerOk (regBytes s (wordsFrom 0x1A2028 4 ++ [0x1A2014, 0x1A2018]) ++ u8s [ownVeh s, 0, 0, 0]))

def execSigSetSegmentMode (m : Mbx) (s : State) : Host.Outcome State Fault Refusal := done (cmdRow s m.val 0x0301 cmdSetSegmentMode)
def execSigReadSlots (m : Mbx) (s : State) : Host.Outcome State Fault Refusal := done (cmdRow s m.val 0x0302 cmdReadSlots)
def execSigSetVisibility (m : Mbx) (s : State) : Host.Outcome State Fault Refusal := done (cmdRow s m.val 0x0303 cmdSetVisibility)
def execSigSetPin (m : Mbx) (s : State) : Host.Outcome State Fault Refusal := done (cmdRow s m.val 0x0304 cmdSetPin)
def execSigWriteHg (m : Mbx) (s : State) : Host.Outcome State Fault Refusal := done (cmdRow s m.val 0x0305 cmdWriteHg)
def execSigRunDerive (m : Mbx) (s : State) : Host.Outcome State Fault Refusal := done (cmdRow s m.val 0x0306 cmdRunDerive)
def execSigSetConsist (m : Mbx) (s : State) : Host.Outcome State Fault Refusal := done (cmdRow s m.val 0x0307 cmdSetConsist)
def execSigGetPresence (m : Mbx) (s : State) : Host.Outcome State Fault Refusal := done (cmdRow s m.val 0x0308 cmdGetPresence)

end Sys2Proof.Machine
end

