-- ==== Sys2Proof/Machine/CmdSw.lean ====
section
/-!
DEFINITION. Sys2Proof/Machine/CmdSw.lean: the SW commands of the mailboxes: ports and MDIO (R213), the hamper (R234), tables and
controlled ports (R264).
-/
namespace Sys2Proof.Machine

/-- R213: C0 and the port's owner; a port number above 24 names none (log 33). SP is port 24. -/
def portComp (s : State) (r : Req) : Bool := decide (r.at 0 1 > 24) || mayAct r.comp (portOwner s (r.at 0 1))

def cmdPortStatus : Command := fun s r =>
  let p := r.at 0 1
  checked (portComp s r) (r.len == 4) s
    (if p > 24 then refuse s eRange
     else let s := eqLive s p; (s, answerOk (regBytes s [ethR p 0, ethR p 4, ethR p 0xC, ethR p 0x18])))

def cmdPortCounters : Command := fun s r =>
  let p := r.at 0 1
  checked (portComp s r) (r.len == 4) s
    (if p > 24 || r.at 1 1 > 1 then refuse s eRange
     else (if r.at 1 1 = 1 then zeroAll s (ethCounters p) else s, answerOk (regBytes s (ethCounters p))))

/-- R213, R492: what a read brings: what the PHY drives; 0xFFFF where none answers at the address. -/
def mdioRead (phy : Option (BitVec 16)) : Nat :=
  match phy with
  | some w => w.toNat
  | none => 0xFFFF

/-- R213: one MDIO transaction. -/
def cmdMdio (phy : Option (BitVec 16)) : Command := fun s r =>
  checked (r.comp == 0) (r.len == 8) s
    (if r.at 0 1 > 3 || r.at 1 1 > 31 || r.at 2 1 > 31 then refuse s eRange
     else
       (send s (.mdio (r.at 0 1) (r.at 1 1) (r.at 2 1) (r.at 4 2) (r.at 6 2)),
         answerOk (leBytes 2 (if r.at 0 1 % 2 = 0 then mdioRead phy else 0) ++ [0, 0])))

def cmdHamperStatus : Command := fun s r =>
  checked (r.comp == 0) (r.len == 0) s
    (s, answerOk ([cellsUse s, getF s 0x180028 17 0, planeUse s 0, planeUse s 1, 131072 - cellsUse s].flatMap fun n => leBytes 4 n))

/-- R234: C0, and the owner of a port 0 to 23. -/
def queueComp (s : State) (r : Req) : Bool :=
  let q := r.at 0 1
  r.comp == 0 || (decide (q < 24) && mayAct r.comp (portOwner s q))

def cmdQueueFlush : Command := fun s r =>
  let q := r.at 0 1
  checked (queueComp s r) (r.len == 4) s
    (if !getB s 0x180000 0 then refuse s eState
     else if q = 24 || q > 26 || r.at 1 1 == 0 then refuse s eRange
     else
       let x := queueFlush s q (r.at 1 1)
       (x.1, answerOk (leBytes 4 x.2)))

/-- R264: the response of SW_TABLE_OP. -/
def tableBytes (x : TblRes) : List Byte := [BitVec.ofNat 8 x.status, 0, 0, 0] ++ leBytes 4 x.result ++ x.entry.getD []

/-- R258: the relocation that the INSERT of a request needs; a request of a script or a record waits for nothing and makes its own whole (log 14). -/
def mbxReloc (s : State) (r : Req) (d : List Byte) : Option Reloc :=
  if r.at 1 1 ≠ 4 ∨ r.at 2 1 ≠ 0 ∨ r.sync = true then none else insertReloc (relocFinish s (r.at 0 1)) r.comp (r.at 0 1) (16 + r.m) d

/-- R264: SW_TABLE_OP: an operation as through a page of the header's compartment. The response of an INSERT that relocates waits for its last move. -/
def cmdTableOp : Command := fun s r =>
  let tab := r.at 0 1
  let op := r.at 1 1
  let d := padTo 256 (slice r.f 8 (r.len - 8))
  checked true (decide (8 ≤ r.len) && decide (r.len ≤ 264)) s
    (if !tblKnown tab || !opKnown op || r.at 2 1 > 1 then refuse s eRange
     else
       match mbxReloc s r d with
       | some x =>
         let w := relocFinish s tab
         ({ w with relocs := w.relocs ++ [x] }, { status := eOk, data := [], wait := true })
       | none =>
         let x := tableOp s r.comp tab op (r.at 4 4) d (nbit (r.at 2 1) 0)
         (x.1, answerOk (tableBytes x.2)))

/-- R258: the answer to an INSERT whose relocation has ended. -/
def relocReply (s : State) (r : Reloc) : State :=
  match (mbxAt s (r.page - 16)).inSvc with
  | some x => respond s (r.page - 16) (reqOf (r.page - 16) false x) (answerOk (tableBytes (tblStat 0 r.slot)))
  | none => s

def relocReplies (s : State) : State :=
  (s.relocs.filter fun r => r.ended).foldl relocReply { s with relocs := s.relocs.filter fun r => !r.ended }

/-- R264: AUTHORISED written on a port whose AUTH_MODE is 2. -/
def portAuth (s : State) (q v : Nat) : State :=
  let was := authorised s q
  stateDiscard (authChange (setF s (fwdR q 4) 2 2 v) was q 1) q

def cmdPortAuth : Command := fun s r =>
  let q := r.at 0 1
  checked (decide (q < 8) || decide (q > 23) || mayAct r.comp (portOwner s q)) (r.len == 4) s
    (if q < 8 || q > 23 then refuse s eRange
     else if getF s (fwdR q 4) 1 0 != 2 then refuse s eState
     else if r.at 1 1 > 1 then refuse s eRange
     else
       let s := supWrote (portAuth s q (r.at 1 1))
       (s, answerOk (u8s [bnat (authorised s q), 0, 0, 0])))

def execSwPortStatus (m : Mbx) (s : State) : Host.Outcome State Fault Refusal := done (cmdRow s m.val 0x0401 cmdPortStatus)
def execSwPortCounters (m : Mbx) (s : State) : Host.Outcome State Fault Refusal := done (cmdRow s m.val 0x0402 cmdPortCounters)
def execSwMdio (m : Mbx) (phy : Option (BitVec 16)) (s : State) : Host.Outcome State Fault Refusal := done (cmdRow s m.val 0x0403 (cmdMdio phy))
def execSwHamperStatus (m : Mbx) (s : State) : Host.Outcome State Fault Refusal := done (cmdRow s m.val 0x0404 cmdHamperStatus)
def execSwQueueFlush (m : Mbx) (s : State) : Host.Outcome State Fault Refusal := done (cmdRow s m.val 0x0405 cmdQueueFlush)
def execSwTableOp (m : Mbx) (s : State) : Host.Outcome State Fault Refusal := done (cmdRow s m.val 0x0406 cmdTableOp)
def execSwPortAuth (m : Mbx) (s : State) : Host.Outcome State Fault Refusal := done (cmdRow s m.val 0x0407 cmdPortAuth)

end Sys2Proof.Machine
end

