-- ==== Sys2Proof/Machine/CmdTime.lean ====
section
/-!
DEFINITION. Sys2Proof/Machine/CmdTime.lean: the TIME commands of the mailboxes (R275, R277, R281, R288).
-/
namespace Sys2Proof.Machine

/-- Everything TIME_GET reports, at one tick. -/
def timeBytes (s : State) : List Byte :=
  leBytes 8 (ltSec s) ++ leBytes 4 (ltSubNs s) ++ leBytes 4 (ltFrac s)
    ++ u8s [timeMode s, timeSel s, getF s 0x6000C 2 2, bnat (tracking s 0) + 2 * bnat (tracking s 1)]
    ++ regBytes s [0x60054, 0x60058, 0x60074, 0x60078]

def cmdTimeGet : Command := fun s r => checked true (r.len == 0) s (s, answerOk (timeBytes s))

/-- R277: TIME_SELECT of a tracking domain: an exit of LOCKED to the other domain alone; elsewhere it changes nothing. -/
def timeSelectOp (s : State) (d : Nat) : State := if timeMode s = 2 - d then enterLocked s d 2 else s

def cmdTimeSelect : Command := fun s r =>
  let d := r.at 0 1
  checked (r.comp == 0) (r.len == 4) s
    (if d > 1 then refuse s eRange
     else if !tracking s d then refuse s eState
     else (supWrote (timeSelectOp s d), answerOk (u8s [timeMode (timeSelectOp s d), 0, 0, 0])))

/-- R275: STEP_ARMED is set. -/
def cmdArmStep : Command := fun s r =>
  checked (r.comp == 0) (r.len == 0) s (supWrote (setB s 0x6000C 2 true), answerOk [])

/-- The six words of a line. -/
def teWords (r : Req) : List Word := (List.range 6).map fun k => BitVec.ofNat 32 (r.at (4 + 4 * k) 4)

/-- R281, R288: TIME_SET_TE; a refused request leaves the line OFF. -/
def cmdSetTe : Command := fun s r =>
  let n := r.at 0 1
  checked (r.comp == 0) (r.len == 28) s
    (if n > 15 then refuse s eRange
     else
       let x := teSetOp s n (teWords r)
       if x.2 then (supWrote x.1, answerOk (u8s [teMode x.1 n, 0, 0, 0])) else refuse (supWrote x.1) eRange)

def execTimeGet (m : Mbx) (s : State) : Host.Outcome State Fault Refusal := done (cmdRow s m.val 0x0501 cmdTimeGet)
def execTimeSelect (m : Mbx) (s : State) : Host.Outcome State Fault Refusal := done (cmdRow s m.val 0x0502 cmdTimeSelect)
def execTimeArmStep (m : Mbx) (s : State) : Host.Outcome State Fault Refusal := done (cmdRow s m.val 0x0503 cmdArmStep)
def execTimeSetTe (m : Mbx) (s : State) : Host.Outcome State Fault Refusal := done (cmdRow s m.val 0x0504 cmdSetTe)

end Sys2Proof.Machine
end

