-- ==== Sys2Proof/Machine/Script.lean ====
section
/-!
DEFINITION. Sys2Proof/Machine/Script.lean: the commands by their CODE (R373), and the scripts that run them (R368).
-/
namespace Sys2Proof.Machine

/-! ### Commands by CODE (R373) -/

/-- SW_MDIO where no row carries what the PHY answers: that is a free value (log 2). -/
def mdioFree : Command := fun s r =>
  let x := fresh s
  cmdMdio (BitVec.ofNat 16 x.1) x.2 r

def canCommand (code : Nat) : Option Command :=
  if code = 0x0201 then some cmdSetMode
  else if code = 0x0202 then some cmdSetTiming
  else if code = 0x0203 then some cmdRecover
  else if code = 0x0204 then some cmdGetStatus
  else if code = 0x0205 then some cmdGetCounters
  else if code = 0x0206 then some cmdSetStb
  else if code = 0x0207 then some cmdLock
  else if code = 0x0208 then some cmdUnlock
  else if code = 0x0209 then some cmdObjSend
  else none

def sigCommand (code : Nat) : Option Command :=
  if code = 0x0301 then some cmdSetSegmentMode
  else if code = 0x0302 then some cmdReadSlots
  else if code = 0x0303 then some cmdSetVisibility
  else if code = 0x0304 then some cmdSetPin
  else if code = 0x0305 then some cmdWriteHg
  else if code = 0x0306 then some cmdRunDerive
  else if code = 0x0307 then some cmdSetConsist
  else if code = 0x0308 then some cmdGetPresence
  else none

def swCommand (code : Nat) : Option Command :=
  if code = 0x0401 then some cmdPortStatus
  else if code = 0x0402 then some cmdPortCounters
  else if code = 0x0403 then some mdioFree
  else if code = 0x0404 then some cmdHamperStatus
  else if code = 0x0405 then some cmdQueueFlush
  else if code = 0x0406 then some cmdTableOp
  else if code = 0x0407 then some cmdPortAuth
  else none

def timeSecCommand (code : Nat) : Option Command :=
  if code = 0x0501 then some cmdTimeGet
  else if code = 0x0502 then some cmdTimeSelect
  else if code = 0x0503 then some cmdArmStep
  else if code = 0x0504 then some cmdSetTe
  else if code = 0x0601 then some cmdKeyLoad
  else if code = 0x0602 then some cmdKeyCommit
  else if code = 0x0603 then some cmdKeyClear
  else if code = 0x0604 then some cmdKeyInfo
  else if code = 0x0605 then some cmdPufEnroll
  else none

def pwrBudCommand (code : Nat) : Option Command :=
  if code = 0x0701 then some cmdPwrGet
  else if code = 0x0702 then some cmdSegSleep
  else if code = 0x0703 then some cmdSegWake
  else if code = 0x0704 then some cmdSetHold
  else if code = 0x0705 then some cmdSetWake
  else if code = 0x0706 then some cmdSetState
  else if code = 0x0801 then some cmdBudStatus
  else if code = 0x0802 then some cmdBudSetClaim
  else if code = 0x0803 then some cmdBudOverride
  else if code = 0x0804 then some cmdBudWithdraw
  else if code = 0x0805 then some cmdBudRejoin
  else none

def updDiagCommand (code : Nat) : Option Command :=
  if code = 0x0901 then some cmdUpdStatus
  else if code = 0x0902 then some cmdUpdBegin
  else if code = 0x0903 then some cmdUpdWrite
  else if code = 0x0904 then some cmdUpdVerify
  else if code = 0x0905 then some cmdUpdActivate
  else if code = 0x0906 then some cmdUpdConfirm
  else if code = 0x0907 then some cmdUpdAbort
  else if code = 0x0908 then some cmdUpdSetService
  else if code = 0x0909 then some cmdUpdOtpKey
  else if code = 0x0A01 then some cmdDiagRead
  else if code = 0x0A02 then some cmdDiagWrite
  else if code = 0x0A03 then some cmdDiagMem
  else if code = 0x0A04 then some cmdDiagStats
  else none

def sysCommand (code : Nat) : Option Command :=
  if code = 0x0101 then some cmdGetInfo
  else if code = 0x0102 then some cmdHostAttach
  else if code = 0x0103 then some cmdHostDetach
  else if code = 0x0104 then some cmdNop
  else none

/-- The command that a CODE names. -/
def commandOf (code : Nat) : Option Command :=
  match code / 256 with
  | 1 => sysCommand code
  | 2 => canCommand code
  | 3 => sigCommand code
  | 4 => swCommand code
  | 5 => timeSecCommand code
  | 6 => timeSecCommand code
  | 7 => pwrBudCommand code
  | 8 => pwrBudCommand code
  | _ => updDiagCommand code

/-! ### Scripts (R368) -/

/-- R357, R360: an entry's envelope: its mailbox is one of C0, so any existing compartment may stand in its header. -/
def entryEnvelope (s : State) (r : Req) : Nat :=
  if r.flags ≥ 2 || r.res != 0 || r.len > 1968 then eHeader else if !compExists s r.comp then eComp else eOk

/-- R360, R368: an entry that the envelope refuses counts, and is reported, as a request of mailbox 8. -/
def entryRefused (s : State) (r : Req) (st : Nat) : State := mbxItem (incC s (mbxR 8 0x14)) 8 r st

/-- An entry executed: its status comes with the state. An ACTIVE unit forwards what changes paired state (R455). -/
def runEntry (s : State) (x : MbxReq) : State × Nat :=
  let r := reqOf 8 true x
  let st := entryEnvelope s r
  if st ≠ eOk then (entryRefused s r st, st)
  else
    match commandOf r.code with
    | none => (entryRefused s r eUnknown, eUnknown)
    | some cmd =>
      let a := cmd (forward s 8 x r cmd) r
      (a.1, a.2.status)

/-- The end of a script: item 0xA2; after the START script Popezal takes requests and HOSTLESS is entered. -/
def scriptEnd (s : State) (x : Script) (outcome : Nat) : State :=
  let s := scriptItem { setB s 0x3A004 1 false with script := none } x outcome
  if x.hostless then s else hostlessEntry (readySet s 9)

/-- What follows an executed entry: `x` names the next one. -/
def scriptNext (s : State) (x : Script) : State :=
  if x.lastStat ≠ eOk then scriptEnd s x 1
  else if x.stopReq then scriptEnd s x 2
  else if x.entries.length ≤ x.next then scriptEnd s x 0
  else { s with script := some x }

/-- R368: the next entry of the script that runs. A script without entries, or one that an attach has stopped meanwhile, ends. An attach
that the entry itself makes shows in the state after it. -/
def scriptStep (s : State) : State :=
  match s.script with
  | none => s
  | some x =>
    if mbxPaused s || decide (2 ≤ powerState s) then s
    else if x.stopReq then scriptEnd s x 2
    else
      match x.entries[x.next]? with
      | none => scriptEnd s x 0
      | some e =>
        let a := runEntry s e
        match a.1.script with
        | none => resetIfDue a.1
        | some y => resetIfDue (scriptNext a.1 { y with next := x.next + 1, lastCode := leAt e.hdr 0 2, lastStat := a.2 })

def execScriptEntryExecute (s : State) : Host.Outcome State Fault Refusal := done (scriptStep s)

end Sys2Proof.Machine
end

