-- ==== Sys2Proof/Machine/BudRec.lean ====
section
/-!
DEFINITION. Sys2Proof/Machine/BudRec.lean: the records that a unit of a buddy pair receives (R450 to R456, R461, R462), and
resynchronisation (R465). The layouts of the payloads are the model's own (log 21).
-/
namespace Sys2Proof.Machine

/-! ### Acceptance (R450, R451) -/

/-- R450, R451: whether a record is the next one, with the tracker after it. A gap takes a STANDBY unit out; another unit, whose state hangs
on no record, goes on from the record it has (log 21). -/
def recAccept (s : State) (r : BudRec) : State × Bool :=
  let took := { s with bud := { s.bud with rx := some r.seq.toNat } }
  match s.bud.rx with
  | none => (took, true)
  | some t =>
    let d := (r.seq.toNat + 2 ^ 32 - t) % 2 ^ 32
    if d = 1 then (took, true)
    else if d = 0 ∨ 2 ^ 31 ≤ d then (s, false)
    else if budMode s = 2 then (budGap s, false)
    else (took, true)

/-- R457, R458: what a record with CLAIM_INFO says of the partner. -/
def recClaim (s : State) (r : BudRec) : State :=
  match r.claim with
  | some f => if claimOk f.toNat then partnerHeard s f.toNat else s
  | none => s

/-- R449, R450: what arrives on a lane: in a lane test, or with a CRC or a length that is not valid, it counts as an error and no more; a valid
record keeps its lane up, and its claim is heard after what it brings. -/
def recGate (s : State) (r : BudRec) (op : State → State) : State :=
  if budIdle s then s
  else if laneTest s || !r.crcOk || decide (2080 < r.payload.length) then incC s 0x80048
  else recClaim (op (laneMark s r.lane.val)) r

/-- A record of one of the types `tys`, taken and then handled by `op`. -/
def recTake (s : State) (r : BudRec) (tys : List Nat) (op : State → State) : State :=
  if !tys.contains r.ty.toNat then s
  else
    recGate s r fun a =>
      let x := recAccept a r
      if x.2 then op x.1 else x.1

/-- R454: an input of the ACTIVE unit executed under its STAMP and SEQ. -/
def recExec (s : State) (r : BudRec) (op : State → State) : State :=
  let a := op (digestMark { s with bud := { s.bud with executing := some (BitVec.ofNat 32 r.stamp.toNat) } } r.seq.toNat)
  { a with bud := { a.bud with executing := none } }

/-- R454, R465: a STANDBY unit executes an input of the ACTIVE one; in a unit that resynchronises it waits for the pages; no other takes it. -/
def recRun (s : State) (r : BudRec) (ty : Nat) (op : State → State) : State :=
  recTake s r [ty] fun a =>
    if budMode a = 2 then recExec a r op
    else if budMode a = 3 ∧ a.bud.resync = true then { a with bud := { a.bud with live := a.bud.live ++ [r] } }
    else a

/-! ### CAN (R454, R461) -/

/-- R454: the frame of channel `n` held whose instant is nearest to the decision point `t` of a record. -/
def heldNear (s : State) (n t : Nat) : Option Held :=
  let dist := fun h : Held => (h.at_ - t) + (t - h.at_)
  (s.bud.held.filter fun h => h.chan == n).foldl (fun a h => match a with
    | none => some h
    | some g => if dist h < dist g then some h else a) none

/-- R454: the unit's own reception that the record of channel `n` and decision point `t` covers: it counts when it differs. Frames of the channel
held from before it, which no record brought, count and go (log 21). -/
def heldTake (s : State) (n : Nat) (f : CanFrame) (t : Nat) : State :=
  match heldNear s n t with
  | some h =>
    let old := s.bud.held.filter fun x => x.chan == n && decide (x.at_ < h.at_)
    let s := { s with bud := { s.bud with held := (s.bud.held.filter fun x => x.chan != n || decide (h.at_ ≤ x.at_)).erase h } }
    addC s 0x80050 (old.length + bnat (decide (h.frame ≠ f)))
  | none => if choiceOf s n = some f then s else incC s 0x80050

/-- R454: a CANRX record: a frame that the ACTIVE unit received, its own in loopback, or its own sent, whose success ends the attempt of this unit's
candidate. TEC and REC are the record's. -/
def canrxIn (s : State) (p : List Byte) : State :=
  let n := leAt p 0 1 % 48
  let t := beAt p 2 8
  let look := beAt p 13 4
  let f := canFrameOf p 17
  let s := match leAt p 1 1 with
    | 0 => canReceive (heldTake s n f t) n f false look
    | 1 => canReceive s n f true look
    | _ => sentStep (if choiceOf s n = some f then s else heldTake s n f t) n (if look = 0 then none else some (look - 1))
  setErr s n (beAt p 10 2 % 512) (beAt p 12 1)

def execBudCanrxRecord (r : BudRec) (s : State) : Host.Outcome State Fault Refusal := done (recRun s r 1 fun a => canrxIn a r.payload)

/-- R461: the ACTIVE unit's choice: the unit's own candidate with the same identifier goes the same way. -/
def txchoiceIn (s : State) (p : List Byte) : State :=
  let n := leAt p 0 1 % 48
  let f := canFrameOf p 2
  let s := setChoice { s with bud := { s.bud with choiceTdc := SMap.set (fun _ => 0) s.bud.choiceTdc n (leAt p 1 1) } } n (some f)
  match (if (chan s n).bus.isNone then (cands s n).find? fun c => frameKey c.frame == frameKey f else none) with
  | some c => putOnBus s n c
  | none => s

def execBudTxchoiceRecord (r : BudRec) (s : State) : Host.Outcome State Fault Refusal :=
  done (recRun s r 2 fun a => txchoiceIn a r.payload)

/-! ### SG (R452) -/

def execBudSgrxRecord (r : BudRec) (s : State) : Host.Outcome State Fault Refusal :=
  done (recRun s r 3 fun a => sgRecIn a (sgRecOf r.payload))

/-! ### Commands (R452, R455) -/

/-- The requester that a record names. -/
def recReq (n : Nat) : Requester := if n = 0 then .host else if n = 1 then .supervisor else if n = 12 then .loader else .mailbox (Fin.ofNat 10 (n - 2))

/-- A register write with the key that its requester had armed. -/
def recWrite (s : State) (p : List Byte) : State :=
  let b := leAt p 1 1
  let q := recReq (b % 16)
  let own := armed s q
  setArmed (busOp (setArmed s q (nbit b 4)) q (beAt p 2 4) (BitVec.ofNat 32 (beAt p 6 4))) q own

/-- A mailbox request, with its own mailbox, TAG and COMP. -/
def recRequest (s : State) (p : List Byte) : State :=
  let r := reqOf (leAt p 1 1) true { hdr := slice p 2 16, fields := p.drop 18, at_ := 0, tmo := 0, expired := false }
  match commandOf r.code with
  | some cmd => (cmd s r).1
  | none => s

def recCanSend (s : State) (p : List Byte) : State :=
  (canSendOp s (beAt p 2 4) (leAt p 1 1) (if leAt p 6 1 = 1 then some (beAt p 7 2) else none) (hdrOf (slice p 9 8)) (p.drop 17)).1

def recSignal (s : State) (p : List Byte) : State :=
  (signalWrite s (leAt p 1 1) (beAt p 2 2) { g := beAt p 4 4, value := BitVec.ofNat 64 (beAt p 8 8) }).1

/-- A CMD record by its kind. -/
def cmdIn (s : State) (p : List Byte) : State :=
  match leAt p 0 1 with
  | 0 => recWrite s p
  | 1 => (tableOp s (leAt p 1 1) (leAt p 2 1) (leAt p 3 1) (beAt p 4 4) (p.drop 8) false).1
  | 2 => recRequest s p
  | 3 => recCanSend s p
  | 4 => recSignal s p
  | 5 => (lockFree s (leAt p 2 1 % 48) (leAt p 1 1)).1
  | 6 => powerCommit s (leAt p 1 1 % 4) (leAt p 2 1)
  | 7 => canStep s (leAt p 1 1 % 48) (leAt p 2 1) (p.drop 3)
  | 8 => segStep s (leAt p 1 1 % 48) (leAt p 2 1) (leAt p 3 1)
  | _ => s

def execBudCmdRecord (r : BudRec) (s : State) : Host.Outcome State Fault Refusal := done (recRun s r 4 fun a => cmdIn a r.payload)

/-! ### Firings (R454) -/

def fireIn (s : State) (p : List Byte) : State :=
  let i := beAt p 1 4
  match leAt p 0 1 with
  | 0 => tstFire s i
  | 1 => dstFire s i
  | 2 => pubFire s i
  | 3 => tttFire s i
  | 4 => scanRun s
  | 5 => sweepNext s
  | 6 => pubChangeRun s i
  | 7 => subAct s i
  | 8 => tstFireBy s i false
  | _ => s

def execBudFireRecord (r : BudRec) (s : State) : Host.Outcome State Fault Refusal := done (recRun s r 5 fun a => fireIn a r.payload)

/-! ### Digests (R462) -/

/-- R462: a partner's digest over the same records, compared. A STANDBY unit closes its own digest where the ACTIVE one has, so that both
cover the same records (log 21); digests that cover others are not compared. -/
def digestIn (s : State) (p : List Byte) : State :=
  let a := beAt p 0 4
  let b := beAt p 4 4
  let c := BitVec.ofNat 32 (beAt p 8 4)
  let s := if budMode s = 2 then digestClose s else s
  match s.bud.own.find? fun d => d.first == a && d.last == b with
  | some d => if d.crc = c then s else diverge s a d.crc c
  | none => s

def execBudDigestRecord (r : BudRec) (s : State) : Host.Outcome State Fault Refusal :=
  done (recTake s r [6] fun a => if budMode a = 1 || budMode a = 2 then digestIn a r.payload else a)

/-! ### ACK and MBX (R450, R452, R483) -/

/-- An ACK: the SEQ that the partner last executed, and its mode. -/
def ackIn (s : State) (p : List Byte) : State := partnerStep { s with bud := { s.bud with pExec := beAt p 0 4 } } (leAt p 4 1 % 4)

/-- R450: any other TYPE is a gap. -/
def unknownTy (r : BudRec) : Bool := r.ty.toNat == 0 || decide (9 < r.ty.toNat)

def execBudAckRecord (r : BudRec) (s : State) : Host.Outcome State Fault Refusal :=
  done (if unknownTy r then recGate s r budGap else resetIfDue (recTake s r [8] fun a => ackIn a r.payload))

/-- A request from the partner's buddy mailbox enters the queue of mailbox 9 as at a doorbell. -/
def partnerBell (s : State) (p : List Byte) : State :=
  let x := mbxAt s 9
  if inFlight x ≥ 8 then raise (incC s (mbxR 9 0x1C)) (mbxR 9 4) 1
  else
    setMbx s 9 { x with queue := x.queue ++ [{ hdr := slice p 1 16, fields := slice p 17 (leAt (slice p 1 16) 6 2), at_ := ltNs s
                                               tmo := getF s (mbxR 9 0x0C) 31 16, expired := false }] }

/-- R463: the running CRC of a paired block, compared by a STANDBY unit with its own (log 21). -/
def crcCompare (s : State) (b : Nat) (c : Word) : State :=
  if budMode s = 2 ∧ pairedCrc (cfgBlock b) = true ∧ crcWords (cfgWords s (cfgBlock b).1) ≠ c then budFail s else s

def mbxIn (s : State) (p : List Byte) : State :=
  match leAt p 0 1 with
  | 0 => partnerBell s p
  | 1 => { s with bud := { s.bud with mbxHand := s.bud.mbxHand ++ [p.drop 1] } }
  | 2 => takePage s (beAt p 1 2) (p.drop 3)
  | 3 => partnerActivate s (leAt p 1 1 == 1) (beAt p 2 2)
  | 4 => partnerVerdict s (leAt p 1 1 == 1)
  | 5 => if budMode s = 1 then diverge s (beAt p 1 4) (BitVec.ofNat 32 (crc32c s.bud.events)) 0 else s
  | 6 => crcCompare s (leAt p 1 1) (BitVec.ofNat 32 (beAt p 2 4))
  | _ => s

def execBudMbxRecord (r : BudRec) (s : State) : Host.Outcome State Fault Refusal :=
  done (resetIfDue (recTake s r [9] fun a => mbxIn a r.payload))

/-! ### The paired state as numbers (R453, log 21): each item a list of numbers, its kind first -/

def optN : Option Nat → Nat
  | none => 0
  | some n => n + 1

def nOpt (n : Nat) : Option Nat := if n = 0 then none else some (n - 1)

def bytesN (l : List Byte) : Nat := beAt (1 :: l) 0 (l.length + 1)

/-- Bytes that a number takes. -/
def natLen (n : Nat) : Nat := if n = 0 then 0 else Nat.log2 n / 8 + 1

def nBytes (n : Nat) : List Byte := (beBytes (natLen n) n).drop 1

/-- A number on the lanes: two bytes of length, then its bytes. -/
def natOut (n : Nat) : List Byte := beBytes 2 (natLen n) ++ beBytes (natLen n) n

def itemOut (l : List Nat) : List Byte := natOut l.length ++ l.flatMap natOut

/-- `k` numbers from the front of the bytes, and what follows them. -/
def natsIn : Nat → List Byte → List Nat × List Byte
  | 0, bs => ([], bs)
  | k + 1, bs =>
    let n := beAt bs 0 2
    let y := natsIn k (bs.drop (2 + n))
    (beAt bs 2 n :: y.1, y.2)

/-- The items in the bytes; `fuel` bounds their number. -/
def itemsIn : Nat → List Byte → List (List Nat)
  | 0, _ => []
  | _ + 1, [] => []
  | fuel + 1, bs =>
    let h := natsIn 1 bs
    let y := natsIn (h.1.headD 0) h.2
    y.1 :: itemsIn fuel y.2

def frameN (f : CanFrame) : Nat := bytesN (canFrameBytes f)
def frameOf (n : Nat) : CanFrame := canFrameOf (nBytes n) 0

def copyItem (n : Nat) (c : CanCopy) : List Nat := [8, n, c.copy, c.cls, c.seq, c.owner, c.attempts, bnat c.noRetry, frameN c.frame]

def copyOf (l : List Nat) : CanCopy :=
  { copy := l.getD 2 0, cls := l.getD 3 0, seq := l.getD 4 0, owner := l.getD 5 0, attempts := l.getD 6 0, noRetry := l.getD 7 0 == 1
    frame := frameOf (l.getD 8 0) }

def lockItem (n : Nat) : Option Lock → List (List Nat)
  | none => []
  | some l => [[10, n, l.owner, l.start, l.timeout]]

def busItem (n : Nat) : Option OnBus → List (List Nat)
  | none => []
  | some b =>
    match b.kind with
    | .object o e rp a => [[9, n, 0, frameN b.frame, o, e.toNat, bnat rp, a]]
    | .copy c => [[9, n, 1, frameN b.frame] ++ (copyItem n c).drop 2]
    | .rollCall op => [[9, n, 2, frameN b.frame, op]]

def busOf (l : List Nat) : OnBus :=
  { kind := match l.getD 2 0 with
      | 0 => .object (l.getD 4 0) (BitVec.ofNat 128 (l.getD 5 0)) (l.getD 6 0 == 1) (l.getD 7 0)
      | 1 => .copy (copyOf (l.drop 2))
      | _ => .rollCall (l.getD 4 0)
    frame := frameOf (l.getD 3 0) }

def chanItems (e : Nat × CanRt) : List (List Nat) :=
  let n := e.1
  let c := e.2
  let xl := match c.xlWrite with
    | none => []
    | some w => [[11, n, w.1, bytesN w.2]]
  [[7, n, optN c.pendSince, optN c.stbUntil, bnat c.holdBusOff, optN c.rollCall, c.rollSeq, c.rollAtt, bnat c.apTxDone, c.apIrqEn]]
    ++ c.copies.map (copyItem n) ++ busItem n c.bus ++ lockItem n c.lock ++ xl

def trkN : Option Tracker → List Nat
  | none => [0, 0]
  | some t => [t.seq + 1, t.at_]

def trkOf (a b : Nat) : Option Tracker := if a = 0 then none else some { seq := a - 1, at_ := b }

/-- R453: the words that pages carry: the registers of the paired blocks, and SLEEP_REQ. -/
def pagedReg (o : Nat) : Bool := pairedReg o || o == 0x70028 || o == 0x7002C

/-- R453: a byte of memory that holds the payload of an object. -/
def pagedMem (a : Nat) : Bool := decide (overflowAt 0 ≤ a) && decide (a < overflowAt 32768)

/-- Kinds 0 to 6: registers, tables, objects, sets, the payload store, slots and segment modes. -/
def storeItems (s : State) : List (List Nat) :=
  (s.regs.filter fun e => pagedReg e.1).map (fun e => [0, e.1, e.2.toNat])
    ++ (s.tbl.filter fun e => pairedTab (e.1 / 2 ^ 20)).map (fun e => [1, e.1, e.2.toNat])
    ++ s.obj.map (fun e => [2, e.1, e.2.st.toNat, e.2.stamp.toNat, bnat e.2.kept, e.2.owner, e.2.keptOwner, e.2.seq])
    ++ s.tst.map (fun e => [3, e.1, optN e.2.last, bnat e.2.change])
    ++ s.pay.map (fun e => [4, e.1, e.2.toNat])
    ++ s.slots.map (fun e => [5, e.1, e.2.value.toNat, e.2.stamp.toNat, e.2.status.toNat, e.2.gen.toNat])
    ++ s.smt.map (fun e => [6, e.1, e.2])

/-- Kinds 12 to 23: descriptors, publications, subscriptions, telegrams, echo and sequence numbers, trackers, remote writes, vehicles. -/
def mirItems (s : State) : List (List Nat) :=
  s.desc.map (fun e => [12, e.1, e.2.last, bnat e.2.acted, bnat e.2.missed])
    ++ s.mir.pub.map (fun e => [13, e.1, e.2.seq, optN e.2.lastSend, optN (e.2.busy.map bnat), optN (e.2.pend.map bnat)] ++ e.2.dirty)
    ++ s.mir.sub.map (fun e => [14, e.1, bnat e.2.missed, bnat e.2.clean, e.2.last, bnat e.2.acted] ++ trkN e.2.tr)
    ++ s.mir.ett.map (fun e => [15, e.1, e.2])
    ++ s.mir.ttt.map (fun e => [16, e.1, e.2.seq] ++ trkN e.2.tr)
    ++ s.mir.seqRw.map (fun e => [17, e.1, e.2])
    ++ s.mir.seqRr.map (fun e => [18, e.1, e.2])
    ++ s.mir.trk.map (fun e => [19, e.1] ++ trkN e.2)
    ++ s.mir.rw.map (fun w => [20, w.target, w.gsid, w.tag, w.orig, w.value.toNat, w.sent])
    ++ s.mir.veh.map (fun e => [21, e.1, e.2.pres, e.2.dup, optN e.2.topo, e.2.unit.toNat, e.2.lastTopo])
    ++ [[22, s.mir.seqBcn, s.mir.lastBcn, s.reqSeq, s.copyNext]]
    ++ s.copies.map (fun e => [23, e.1, e.2.pool, e.2.entries, e.2.refs, e.2.kind, e.2.src])

/-- R453: the SeqNr of each PRP pair of SYNC_PAIRS, the segments, and the words in force of the paired blocks. -/
def restItems (s : State) : List (List Nat) :=
  ((List.range 4).filter fun k => getB s 0x80008 (2 + k)).map (fun k => [24, k, getF s (ethR (2 * k) 0x24) 31 16])
    ++ s.lan.seg.map (fun e => [25, e.1, e.2.st, e.2.w, optN e.2.a, e.2.c, optN e.2.f, optN e.2.act, optN e.2.ask])
    ++ (s.inForce.filter fun e => pairedReg e.1).map (fun e => [26, e.1, optN (e.2.map fun w => w.toNat)])
    ++ (s.mem.filter fun e => pagedMem e.1).map (fun e => [27, e.1, e.2.toNat])

def pairedItems (s : State) : List (List Nat) := storeItems s ++ s.can.flatMap chanItems ++ mirItems s ++ restItems s

/-- Paired state emptied, before pages fill it. -/
def pairedClear (s : State) : State :=
  { s with regs := s.regs.filter fun e => !pagedReg e.1
           mem := s.mem.filter fun e => !pagedMem e.1
           inForce := s.inForce.filter fun e => !pairedReg e.1
           tbl := s.tbl.filter fun e => !pairedTab (e.1 / 2 ^ 20)
           obj := [], tst := [], pay := [], slots := [], smt := [], can := [], desc := [], copies := [], cache := []
           lan := { s.lan with seg := [] }
           mir := { s.mir with pub := [], sub := [], ett := [], ttt := [], seqRw := [], seqRr := [], trk := [], rw := [], veh := [] } }

/-- An item of the stores. -/
def putStore (s : State) (l : List Nat) : State :=
  let x := fun i => l.getD i 0
  let k := x 1
  match x 0 with
  | 0 => wr s k (BitVec.ofNat 32 (x 2))
  | 1 => { s with tbl := SMap.set zeroEntry s.tbl k (BitVec.ofNat 768 (x 2)) }
  | 2 => setObj s k { st := BitVec.ofNat 32 (x 2), stamp := BitVec.ofNat 32 (x 3), kept := x 4 == 1, owner := x 5, keptOwner := x 6, seq := x 7 }
  | 3 => setTst s k { last := nOpt (x 2), change := x 3 == 1 }
  | 4 => { s with pay := SMap.set (fun _ => (0 : Byte)) s.pay k (BitVec.ofNat 8 (x 2)) }
  | 5 => setSlot s k { value := BitVec.ofNat 64 (x 2), stamp := BitVec.ofNat 32 (x 3), status := BitVec.ofNat 16 (x 4), gen := BitVec.ofNat 16 (x 5) }
  | _ => { s with smt := SMap.set (fun _ => 0) s.smt k (x 2) }

/-- An item of a channel. -/
def putChan (s : State) (l : List Nat) : State :=
  let x := fun i => l.getD i 0
  let n := x 1
  let c := chan s n
  setChan s n (match x 0 with
    | 7 => { c with pendSince := nOpt (x 2), stbUntil := nOpt (x 3), holdBusOff := x 4 == 1, rollCall := nOpt (x 5), rollSeq := x 6
                    rollAtt := x 7, apTxDone := x 8 == 1, apIrqEn := x 9 }
    | 8 => { c with copies := c.copies ++ [copyOf l] }
    | 9 => { c with bus := some (busOf l) }
    | 10 => { c with lock := some { owner := x 2, start := x 3, timeout := x 4 } }
    | _ => { c with xlWrite := some (x 2, nBytes (x 3)) })

/-- An item of mirroring. -/
def putMir (s : State) (l : List Nat) : State :=
  let x := fun i => l.getD i 0
  let k := x 1
  let m := s.mir
  match x 0 with
  | 12 => { s with desc := SMap.set (fun _ => DescRt.init) s.desc k { last := x 2, acted := x 3 == 1, missed := x 4 == 1 } }
  | 13 => setPub s k { seq := x 2, dirty := l.drop 6, lastSend := nOpt (x 3), busy := (nOpt (x 4)).map (· == 1), pend := (nOpt (x 5)).map (· == 1) }
  | 14 =>
    let v : SubRt := { tr := trkOf (x 6) (x 7), missed := x 2 == 1, clean := x 3 == 1, last := x 4, acted := x 5 == 1 }
    { s with mir := { m with sub := SMap.set (fun _ => SubRt.init) m.sub k v } }
  | 15 => { s with mir := { m with ett := SMap.set (fun _ => 0) m.ett k (x 2) } }
  | 16 => { s with mir := { m with ttt := SMap.set (fun _ => TttRt.init) m.ttt k { seq := x 2, tr := trkOf (x 3) (x 4) } } }
  | 17 => { s with mir := { m with seqRw := SMap.set (fun _ => 0) m.seqRw k (x 2) } }
  | 18 => { s with mir := { m with seqRr := SMap.set (fun _ => 0) m.seqRr k (x 2) } }
  | 19 => { s with mir := { m with trk := SMap.set (fun _ => none) m.trk k (trkOf (x 2) (x 3)) } }
  | 20 =>
    let v : RWrite := { target := k, gsid := x 2, tag := x 3, orig := x 4, value := BitVec.ofNat 64 (x 5), sent := x 6 }
    { s with mir := { m with rw := m.rw ++ [v] } }
  | 21 =>
    let v : VehRt := { pres := x 2, dup := x 3, topo := nOpt (x 4), unit := BitVec.ofNat 64 (x 5), lastTopo := x 6 }
    { s with mir := { m with veh := SMap.set (fun _ => VehRt.init) m.veh k v } }
  | 22 => { s with mir := { m with seqBcn := k, lastBcn := x 2 }, reqSeq := x 3, copyNext := x 4 }
  | _ => setCopy s k { pool := x 2, entries := x 3, refs := x 4, kind := x 5, src := x 6 }

def putItem (s : State) (l : List Nat) : State :=
  let x := fun i => l.getD i 0
  if x 0 < 7 then putStore s l
  else if x 0 < 12 then putChan s l
  else if x 0 < 24 then putMir s l
  else if x 0 = 24 then setF s (ethR (2 * x 1) 0x24) 31 16 (x 2)
  else if x 0 = 27 then memWrite s (x 1) [BitVec.ofNat 8 (x 2)]
  else if x 0 = 26 then { s with inForce := SMap.set (fun _ => none) s.inForce (x 1) ((nOpt (x 2)).map fun w => BitVec.ofNat 32 w) }
  else
    let v : Seg := { st := x 2, w := x 3, a := nOpt (x 4), c := x 5, f := nOpt (x 6), act := nOpt (x 7), ask := nOpt (x 8) }
    { s with lan := { s.lan with seg := SMap.set (fun _ => Seg.init) s.lan.seg (x 1) v } }

/-! ### Resynchronisation (R465) -/

def pageLen : Nat := 2048

def pagesIn (bs : List Byte) : Nat := max 1 (ceilDiv bs.length pageLen)

/-- R465: every page of paired state, with the SEQ last executed. -/
def sendPages (s : State) : State :=
  let bs := (pairedItems s).flatMap itemOut
  let n := pagesIn bs
  let seq := (rd s 0x80018).toNat
  (List.range n).foldl (fun a k => budRecord a 7 (beBytes 3 k ++ beBytes 3 n ++ beBytes 4 seq ++ slice bs (pageLen * k) pageLen)) s

/-- A unit whose lanes are up and whose candidate is not 0 asks, at once under AUTO_REJOIN or else once BUD_REJOIN has; an ACTIVE unit whose
partner is such a WITHDRAWN one answers. R452 has no record for the request itself: the row is it, at either unit (log 21). -/
def resyncOp (s : State) : State :=
  if budIdle s then s
  else if budMode s = 3 ∧ (laneUp s 0 || laneUp s 1) = true ∧ ownCand s ≠ 0 ∧ (getB s 0x80008 1 || s.bud.resync) = true then resyncStart s
  else if budMode s = 1 ∧ partnerState s = 3 ∧ partnerCand s ≠ 0 then sendPages s
  else s

def execResyncRequest (s : State) : Host.Outcome State Fault Refusal := done (resyncOp s)

/-- R465: a record of the live stream, newer than the pages (R12). -/
def liveRun (seq : Nat) (s : State) (r : BudRec) : State :=
  let d := (r.seq.toNat + 2 ^ 32 - seq) % 2 ^ 32
  if d = 0 ∨ 2 ^ 31 ≤ d then s
  else
    match r.ty.toNat with
    | 1 => recExec s r fun a => canrxIn a r.payload
    | 2 => recExec s r fun a => txchoiceIn a r.payload
    | 3 => recExec s r fun a => sgRecIn a (sgRecOf r.payload)
    | 4 => recExec s r fun a => cmdIn a r.payload
    | 5 => recExec s r fun a => fireIn a r.payload
    | _ => s

/-- R465: the live stream executed over the pages, as STANDBY executes it; the mode is entered afterwards. -/
def liveRuns (s : State) (seq : Nat) : State :=
  let s' := s.bud.live.foldl (liveRun seq) (setF s 0x80010 1 0 2)
  setF { s' with bud := { s'.bud with live := [] } } 0x80010 1 0 3

/-- R459, R465: every page has arrived and the lag allows it: STANDBY, or ACTIVE where the unit then holds the claim. -/
def resyncDone (s : State) : State :=
  let seq := beAt (SMap.get (fun _ => []) s.bud.pages 0) 6 4
  let n := s.bud.wantPages
  let bs := (List.range n).flatMap fun k => (SMap.get (fun _ => []) s.bud.pages k).drop 10
  let was := holdsClaim s
  let s := (itemsIn bs.length bs).foldl putItem (pairedClear s)
  let s := liveRuns (wr { s with bud := { s.bud with resync := false, pages := [], wantPages := 0 } } 0x80018 (BitVec.ofNat 32 seq)) seq
  if holdsClaim (setF s 0x80010 1 0 2) then becomeActive s 7 was else becomeStandby s 7 was

/-- R465: the end of the resynchronisation, where nothing is missing. -/
def resyncTry (s : State) : State :=
  if s.bud.resync = true ∧ s.bud.wantPages ≠ 0 ∧ s.bud.pages.length = s.bud.wantPages ∧ getF s 0x80014 15 0 ≤ 2000 then resyncDone s else s

/-- R454, R465: the lag as it stands now. -/
def lagRow (s : State) (ns : Nat) : State := if budMode s = 3 ∧ s.bud.resync = true then resyncTry (lagStore s ns) else lagSeen s ns

def execLagLimitExceeded (lagNs : Nat) (s : State) : Host.Outcome State Fault Refusal := done (lagRow s lagNs)

/-- R465: a page. Pages of another read of the state do not mix: a changed count begins again. -/
def pageArrives (s : State) (p : List Byte) : State :=
  if budMode s ≠ 3 ∨ s.bud.resync = false then s
  else
    let n := beAt p 3 3
    let b := if s.bud.wantPages = n then s.bud else { s.bud with pages := [], wantPages := n }
    let s := { s with bud := { b with pages := SMap.set (fun _ => []) b.pages (beAt p 0 3) p } }
    resyncTry s

def execBudStateRecord (r : BudRec) (s : State) : Host.Outcome State Fault Refusal := done (recTake s r [7] fun a => pageArrives a r.payload)

end Sys2Proof.Machine
end

