-- ==== Sys2Proof/Machine/Faults.lean ====
section
/-!
DEFINITION. Sys2Proof/Machine/Faults.lean: faults and their recovery (R124, R219, R489 to R491). The numbers of the on-die arrays are
the model's own: a table by its TABLE code, then the arrays named below (log 38).
-/
namespace Sys2Proof.Machine

/-! ### Memory errors (R489, R491) -/

/-- R491: item 0x08. -/
def memItem (s : State) (src region addr : Nat) : State :=
  evtItem s 0x28 0 0x08 src (u8s [region, 0, 0, 0] ++ leBytes 4 addr)

/-- R463: an uncorrectable error in paired state. -/
def pairedHit (s : State) (b : Bool) : State := if b then budFail s else s

/-- Housekeeping 24 to 27: corrected and uncorrectable errors of DRAM, then of SRAM. -/
def dramUe (s : State) : State := devFault (houseAdd s 25 1) 3
def sramUe (s : State) : State := devFault (houseAdd s 27 1) 4

def blockOf (a : Nat) : Nat := a / 64 * 64

/-- The bytes of a 64-byte block, all zero. -/
def zeroBlock (s : State) (a : Nat) : State := memWrite s (blockOf a) (List.replicate 64 0)

/-- R261: the tables in the shadow region: code, first address, bytes of an entry. -/
def shadowTabs : List (Nat × Nat × Nat) :=
  [(0x10, 0x35000000, 16), (0x11, 0x35080000, 16), (0x12, 0x35100000, 16), (0x13, 0x35110000, 16), (0x14, 0x35120000, 96),
   (0x15, 0x35180000, 96), (0x16, 0x351E0000, 32)]

/-- The shadow positions that share a byte with the block at `b`. -/
def shadowHit (b : Nat) : List (Nat × Nat) :=
  shadowTabs.flatMap fun t =>
    if b + 64 ≤ t.2.1 then []
    else
      let lo := (b - t.2.1) / t.2.2
      ((List.range 5).map fun k => (t.1, lo + k)).filter fun x =>
        decide (x.2 < tCount t.1) && decide (t.2.1 + x.2 * t.2.2 < b + 64) && decide (b < t.2.1 + (x.2 + 1) * t.2.2)

/-- A shadow entry with the bytes of the block at `b` zeroed: `a` is where the entry begins, `w` its length. -/
def shadowZeroed (e : BitVec 768) (a w b : Nat) : BitVec 768 :=
  eOf (((eBytes w e).zipIdx).map fun x => if b ≤ a + x.2 ∧ a + x.2 < b + 64 then 0 else x.1)

/-- One position: zeroed and left out of the compare. -/
def shadowLose (s : State) (b : Nat) (x : Nat × Nat) : State :=
  match shadowTabs.find? fun t => t.1 == x.1 with
  | none => s
  | some t =>
    let s := shSet s x.1 x.2 (shadowZeroed (shGet s x.1 x.2) (t.2.1 + x.2 * t.2.2) t.2.2 b)
    { s with fwd := { s.fwd with noCompare := s.fwd.noCompare ++ [tKey x.1 x.2] } }

def shadowBlock (s : State) (a : Nat) : State :=
  let xs := shadowHit (blockOf a)
  let x := xs.headD (0, 0)
  memItem (xs.foldl (fun c y => shadowLose c (blockOf a) y) s) (x.1 * 2 ^ 24 + x.2) 6 a

/-- The host window: the block becomes zero, and its first read by the host is poisoned. -/
def windowBlock (s : State) (a : Nat) : State :=
  let s := zeroBlock s a
  memItem { s with pcie := { s.pcie with poison := s.pcie.poison.filter (· != blockOf a) ++ [blockOf a] } } 0 4 a

/-- The GSIDs of the four slots in the 64-byte block of address `a`. -/
def slotsOf (a : Nat) : List Nat := (List.range 4).map fun k => a / 64 * 4 + k

/-- An uncorrectable error of device memory, by the region of R28. -/
def dramLost (s : State) (a : Nat) : State :=
  let s := dramUe s
  if a < 0x20000000 then pairedHit (resetSlots s (slotsOf a) 0) true
  else if a < 0x28000000 then memItem (jnlFlush s ((a - 0x20000000) / 0x200000)) ((a - 0x20000000) / 0x200000) 2 a
  else if a < 0x2C000000 then pairedHit (memItem (zeroBlock s a) 0 5 a) true
  else if a < 0x35000000 then popRestart s 2
  else if a < 0x37000000 then shadowBlock s a
  else if a < hostBase + hostSize s then windowBlock s a
  else if a < 0xE0000000 then memItem { s with poolZero := s.poolZero.filter (· != blockOf a) ++ [blockOf a] } 0 7 a
  else s

/-- R124: a line of the signal cache: one with changes costs its slot; another is filled again from memory, and stays where it is. -/
def lineLost (s : State) (g : Nat) : State :=
  let s := sramUe s
  match cacheHit s g with
  | none => s
  | some k => if (cacheAt s k).dirty then pairedHit (resetSlots (setCache s k { cacheAt s k with dirty := false }) [g] 1) true else s

/-- The on-die arrays beside the tables: payload store and state records by object, key slots, journal registers, the gateway pools, the
hamper's cells by the frame that they hold. -/
def arrPayload : Nat := 0x100
def arrState : Nat := 0x101
def arrKey : Nat := 0x102
def arrJournal : Nat := 0x103
def arrPool : Nat := 0x104
def arrCell : Nat := 0x105

/-- An entry cleared as by CLEAR of C0, its shadow left as it stands; a learned EFT entry is removed as aged. -/
def entryLost (s : State) (tab i : Nat) : State :=
  if (tab = 0x10 ∨ tab = 0x11) ∧ learned (tGet s tab i) = true then ageOut s (tab - 0x10) i
  else
    let r := tblClearOp s 0 tab i false
    let t := if r.2.status = 0 then r.1 else tSet s tab i 0
    { t with shadow := s.shadow, fwd := { t.fwd with noCompare := s.fwd.noCompare } }

/-- The payload area and the state record of an object, zero. -/
def objectLost (s : State) (o : Nat) : State :=
  let e := motAt s o
  objReplaced (payWrite s (areaAt e) (List.replicate (8 * moGr e) 0)) o

/-- R150: the copy that holds entry `i` of the gateway buffer: copies take the entries one after the other, in the order of their numbers (log 38). -/
def copyHolding : SMap PoolCopy → Nat → Option Nat
  | [], _ => none
  | e :: es, i => if i < e.2.entries then some e.1 else copyHolding es (i - e.2.entries)

/-- A damaged snapshot or dataset: the carrier goes, and its ring copies are handed over (R156). -/
def carrierLost (s : State) (c : Nat) : State :=
  match s.carriers.find? fun k => k.copy == c with
  | some k => carrierEnd (setMissed { s with carriers := s.carriers.erase k } k.descs) k
  | none => s

/-- A damaged carrier of queue 2: a dataset goes; of a bundle only its place stays (R176). -/
def work2Lost (s : State) (c : Nat) : State :=
  s.work2.foldl (fun a w => match w with
    | .dataset k => if k.copy = c then carrierEnd (setMissed { a with work2 := a.work2.erase w } k.descs) k else a
    | .bundle b =>
      if b.copy = c ∧ b.refused = false then
        copyDone { a with work2 := a.work2.map fun x => if x = w then .bundle { b with copy := 0, refused := true, recs := [] } else x } c
      else a) s

/-- The channel has the damaged copy on the bus, and so has read it. -/
def copyOnBus (s : State) (n c : Nat) : Bool :=
  match (chan s n).bus with
  | some b => match b.kind with
    | .copy k => k.copy == c
    | .object _ _ _ _ => false
    | .rollCall _ => false
  | none => false

/-- A damaged routed copy: it goes from every channel that has not begun to send it, and from every ring. -/
def routedLost (s : State) (c : Nat) : State :=
  let s := (List.range 48).foldl (fun a n =>
    if copyOnBus a n c then a
    else ((chan a n).copies.filter fun x => x.copy == c).foldl (fun a _ => copyDone a c) (setChan a n { chan a n with copies := (chan a n).copies.filter fun x => x.copy != c })) s
  (List.range 16).foldl (fun a r =>
    let x := ringAt a (16 + r)
    (x.deliv.filter fun d => d.copy == some c).foldl (fun a _ => copyDone a c) (setRing a (16 + r) { x with deliv := x.deliv.filter fun d => d.copy != some c })) s

/-- R489, R151: an error in an entry of the gateway buffer: its copy or snapshot is refused. An entry that holds nothing costs nothing. -/
def poolLost (s : State) (i : Nat) : State :=
  match copyHolding s.copies i with
  | none => s
  | some c =>
    let x := copyAt s c
    routedLost (work2Lost (carrierLost (poolRefuse s x.pool x.kind x.src) c) c) c

/-- An uncorrectable error of an on-die array. -/
def sramLost (s : State) (arr i : Nat) : State :=
  if arr = arrCell then (s.sw.frames.find? fun f => f.chain.contains i).elim (sramUe s) fun f => eccStop s f
  else
    let s := sramUe s
    if arr < arrPayload then
      if tblKnown arr && decide (i < tCount arr) then pairedHit (memItem (entryLost s arr i) (arr * 2 ^ 24 + i) 0 0) (pairedTab arr) else s
    else if arr = arrPayload ∨ arr = arrState then pairedHit (memItem (objectLost s i) (tMot * 2 ^ 24 + i) 1 0) true
    else if arr = arrKey then keyClear s (i % 1024)
    else if arr = arrJournal then memItem (jnlFlush s (i % 64)) (i % 64) 2 0
    else if arr = arrPool then poolLost s i
    else s

/-- R489: what ECC finds. Errors of a memory that is not up are no errors of the machine's state. -/
def memFault (s : State) (e : MemErr) : State :=
  match e with
  | .dramCorrected _ => houseAdd s 24 1
  | .dramUncorrectable a => if ready s 7 then dramLost s a.toNat else s
  | .cacheLine g => lineLost s g.toNat
  | .sramCorrected _ _ => houseAdd s 26 1
  | .sramUncorrectable arr i => sramLost s arr i

def execMemoryScrubVisit (e : MemErr) (s : State) : Host.Outcome State Fault Refusal := done (memFault s e)

/-! ### The supervisor and the junction (R463, R489, R490) -/

/-- R490: a watchdog restart sets no DEV_FAULT bit. -/
def watchdogOp (s : State) : State := popRestart s 1

def execWatchdogExpiry (s : State) : Host.Outcome State Fault Refusal := done (watchdogOp s)

def lockstepOp (s : State) : State := budFail (popRestart (devFault s 6) 0)

def execLockstepDisagree (s : State) : Host.Outcome State Fault Refusal := done (lockstepOp s)

def thermalOp (s : State) : State := budFail (devFault s 7)

def execThermalFault (s : State) : Host.Outcome State Fault Refusal := done (thermalOp s)

end Sys2Proof.Machine
end

