-- ==== Sys2Proof/Machine/Service.lean ====
section
/-!
DEFINITION. Sys2Proof/Machine/Service.lean: the service port handler: ARP, the judging of datagrams, and rescue (R469 to R472).
-/
namespace Sys2Proof.Machine

/-- SP is up, or in rescue comes up by itself (R427). -/
def spServes (s : State) : Bool := s.boot.rescue || (decide (portState s 24 ≠ 0) && decide (powerState s < 2))

/-- R469: a discarded packet. -/
def svcDiscard (s : State) : State := { s with upd := { s.upd with pktBad := (s.upd.pktBad + 1) % 2 ^ 32 } }

/-! ### ARP (R469) -/

/-- An ARP request (RFC 826) for an IPv4 address. -/
def arpFor (f : List Byte) (ip : Nat) : Bool :=
  beAt f 12 2 == 0x0806 && beAt f 14 2 == 1 && beAt f 16 2 == 0x0800 && beAt f 18 2 == 0x0604 && beAt f 20 2 == 1 && beAt f 38 4 == ip
    && decide (42 ≤ f.length)

def arpReply (s : State) (f : List Byte) : List Byte :=
  slice f 22 6 ++ svcMac s ++ [0x08, 0x06] ++ [0, 1, 0x08, 0, 6, 4, 0, 2] ++ svcMac s ++ slice f 38 4 ++ slice f 22 10

def arpOp (s : State) (f : List Byte) : State :=
  if !spServes s then s else if arpFor f s.upd.svc.ip then spSend s (arpReply s f) else svcDiscard s

def execServiceArp (f : List Byte) (s : State) : Host.Outcome State Fault Refusal := done (arpOp s f)

/-! ### Datagrams (R470, R471) -/

/-- A frame that is a whole UDP datagram to the handler: no tag, no options, no fragment. -/
def svcUdp (s : State) (f : List Byte) : Bool :=
  beAt f 12 2 == 0x0800 && byteAt f 14 == 0x45 && isUdpTo f s.upd.svc.port && ipDst f == s.upd.svc.ip
    && decide (28 ≤ beAt f 16 2) && decide (14 + beAt f 16 2 ≤ f.length) && beAt f 38 2 + 20 == beAt f 16 2

/-- The UDP payload, and where it comes from. -/
def svcData (f : List Byte) : List Byte := slice f 42 (beAt f 38 2 - 8)
def svcFrom (f : List Byte) : Nat × Nat := (ipSrc f, l4Src f)

def svcLen (p : List Byte) : Nat := beAt p 8 2
def svcSeq (p : List Byte) : Nat := beAt p 4 4
def svcHasMac (p : List Byte) : Bool := nbit (beAt p 10 1) 0
def svcBody (p : List Byte) : List Byte := slice p 12 (svcLen p)

/-- Well formed, with this KIND. -/
def svcForm (p : List Byte) (kind : Nat) : Bool :=
  beAt p 0 2 == 0xC5A1 && beAt p 2 1 == 1 && beAt p 3 1 == kind && decide (16 ≤ svcLen p) && decide (svcLen p ≤ 1984)
    && decide (beAt p 10 1 < 2) && beAt p 11 1 == 0 && p.length == 12 + svcLen p + (if svcHasMac p then 16 else 0)

/-- The trailer is there and right. -/
def svcMacOk (s : State) (p : List Byte) : Bool :=
  svcHasMac p && (match svcKey s s.upd.svc.key with
    | some k => svcMacOf k (p.take (12 + svcLen p)) == p.drop (12 + svcLen p)
    | none => false)

/-- A request of the client waits or is in service. -/
def svcBusy (s : State) : Bool := !(mbxAt s 8).queue.isEmpty || (mbxAt s 8).inSvc.isSome

/-- The client's window [last accepted, last accepted + 10 s). -/
def svcHeld (s : State) : Bool := decide (ltNs s < s.upd.clientAt + 10000000000)

/-- R471: accepted: the client and its SEQ. -/
def svcAccept (s : State) (f : List Byte) : State :=
  { s with upd := { s.upd with client := some (svcFrom f), clientAt := ltNs s, clientSeq := svcSeq (svcData f), resp := none
                               cSvc := s.upd.svc, peerMac := slice f 6 6, pktOk := (s.upd.pktOk + 1) % 2 ^ 32 } }

/-- The words of an area of a mailbox page. -/
def putWords (s : State) (o : Nat) (bs : List Byte) : State :=
  (List.range (ceilDiv bs.length 4)).foldl (fun a k => wr a (o + 4 * k) (BitVec.ofNat 32 (leAt bs (4 * k) 4))) s

/-- R352: passed to mailbox 8. -/
def svcPass (s : State) (body : List Byte) : State := doorbellOp (putWords s (mbxR 8 0x20) body) 8

/-- The stored response sent again to where request `f` comes from (R469), under the settings of now. -/
def svcResend (s : State) (f : List Byte) (kind : Nat) : State :=
  match s.upd.resp with
  | some bs => svcAnswerTo s s.upd.svc (slice f 6 6) (svcFrom f) kind bs
  | none => s

/-- R471: the rows from the third on, in their order; only the third names a client. `take` is what an accepted request does. -/
def svcJudge (s : State) (f : List Byte) (kind : Nat) (take : State → State) : State :=
  let seq := svcSeq (svcData f)
  match s.upd.client with
  | some c =>
    if c ≠ svcFrom f ∧ svcHeld s = true then svcSend s s.upd.svc (slice f 6 6) (svcFrom f) 2 seq []
    else if seq = s.upd.clientSeq then svcResend s f kind
    else if !seqNewer seq s.upd.clientSeq || svcBusy s then svcDiscard s
    else take (svcAccept s f)
  | none => take (svcAccept s f)

def serviceOp (s : State) (f : List Byte) : State :=
  if !spServes s then s
  else if !svcUdp s f || !svcForm (svcData f) 0 || s.boot.rescue || (s.upd.svc.auth && !svcMacOk s (svcData f)) then svcDiscard s
  else svcJudge s f 1 fun a => svcPass a (svcBody (svcData f))

def execServiceDatagram (f : List Byte) (s : State) : Host.Outcome State Fault Refusal := done (serviceOp s f)

/-! ### Rescue (R427, R472) -/

/-- R472: the commands that the handler executes itself; a LENGTH that the body does not have is no length of theirs. -/
def rescueCmd (s : State) (r : Req) (whole : Bool) : State × Ans :=
  if 0x0901 ≤ r.code ∧ r.code ≤ 0x0905 ∧ whole = false then refuse s eLength
  else if r.code = 0x0901 then cmdUpdStatus s r
  else if r.code = 0x0902 then cmdUpdBegin s r
  else if r.code = 0x0903 then cmdUpdWrite s r
  else if r.code = 0x0904 then cmdUpdVerify s r
  else if r.code = 0x0905 then cmdUpdActivate s r
  else refuse s eState

/-- A request of KIND 3: its header and fields as a mailbox would take them. -/
def rescueReq (body : List Byte) : Req :=
  reqOf 8 true { hdr := body.take 16, fields := slice body 16 (leAt body 6 2), at_ := 0, tmo := 0, expired := false }

def rescueRun (s : State) (body : List Byte) : State :=
  let r := rescueReq body
  let a := rescueCmd s r (decide (r.len + 16 = body.length))
  svcRespond a.1 4 (respBytes a.1 r a.2)

def rescueOp (s : State) (f : List Byte) : State :=
  if !spServes s then s
  else if !s.boot.rescue || !svcUdp s f || !svcForm (svcData f) 3 then svcDiscard s
  else resetIfDue (svcJudge s f 4 fun a => rescueRun a (svcBody (svcData f)))

def execRescueRequest (f : List Byte) (s : State) : Host.Outcome State Fault Refusal := done (rescueOp s f)

end Sys2Proof.Machine
end

