-- ==== Sys2Proof/Machine/Dispatch.lean ====
section
/-!
DEFINITION. Sys2Proof/Machine/Dispatch.lean: one arm per command: a direct call of its meaning.
-/
namespace Sys2Proof.Machine

def exec (i : Instr) (s : State) : Host.Outcome State Fault Refusal :=
  match i with
  | .registerWrite q off data => Sys2Proof.Machine.execRegisterWrite q off data s
  | .bar0WriteDiscarded off data be words => Sys2Proof.Machine.execBar0WriteDiscarded off data be words s
  | .bar0ReadAbort off be words => Sys2Proof.Machine.execBar0ReadAbort off be words s
  | .pcieConfigRequest wr off data => Sys2Proof.Machine.execPcieConfigRequest wr off data s
  | .functionLevelReset => Sys2Proof.Machine.execFunctionLevelReset s
  | .pciePerst => Sys2Proof.Machine.execPciePerst s
  | .pcieLinkDown => Sys2Proof.Machine.execPcieLinkDown s
  | .modeReqWrite q n data => Sys2Proof.Machine.execModeReqWrite q n data s
  | .modeChangeEffect n => Sys2Proof.Machine.execModeChangeEffect n s
  | .modeChangeForced n => Sys2Proof.Machine.execModeChangeForced n s
  | .integrationComplete n => Sys2Proof.Machine.execIntegrationComplete n s
  | .stbWakeExpiry n => Sys2Proof.Machine.execStbWakeExpiry n s
  | .canFrameReceived n f own cnt look => Sys2Proof.Machine.execCanFrameReceived n f own cnt look s
  | .xlOverflowWriteDone n => Sys2Proof.Machine.execXlOverflowWriteDone n s
  | .protocolException n => Sys2Proof.Machine.execProtocolException n s
  | .errorDetected n k ph tx cnt tdc => Sys2Proof.Machine.execErrorDetected n k ph tx cnt tdc s
  | .overloadFrame n => Sys2Proof.Machine.execOverloadFrame n s
  | .txChoicePoint n => Sys2Proof.Machine.execTxChoicePoint n s
  | .arbitrationLost n => Sys2Proof.Machine.execArbitrationLost n s
  | .frameTxSuccess n cnt tdcv => Sys2Proof.Machine.execFrameTxSuccess n cnt tdcv s
  | .recover q n => Sys2Proof.Machine.execRecover q n s
  | .recoveryComplete n => Sys2Proof.Machine.execRecoveryComplete n s
  | .canCntClr q n => Sys2Proof.Machine.execCanCntClr q n s
  | .tdcMeasClr q n => Sys2Proof.Machine.execTdcMeasClr q n s
  | .canSetMode m => Sys2Proof.Machine.execCanSetMode m s
  | .canSetTiming m => Sys2Proof.Machine.execCanSetTiming m s
  | .canRecover m => Sys2Proof.Machine.execCanRecover m s
  | .canGetStatus m => Sys2Proof.Machine.execCanGetStatus m s
  | .canGetCounters m => Sys2Proof.Machine.execCanGetCounters m s
  | .canSetStb m => Sys2Proof.Machine.execCanSetStb m s
  | .canLock m => Sys2Proof.Machine.execCanLock m s
  | .canUnlock m => Sys2Proof.Machine.execCanUnlock m s
  | .canObjSend m => Sys2Proof.Machine.execCanObjSend m s
  | .lockTimeout n => Sys2Proof.Machine.execLockTimeout n s
  | .tstFirePeriodic ix => Sys2Proof.Machine.execTstFirePeriodic ix s
  | .tstChangeFire ix => Sys2Proof.Machine.execTstChangeFire ix s
  | .compositionRun => Sys2Proof.Machine.execCompositionRun s
  | .apertureModeWrite q n data => Sys2Proof.Machine.execApertureModeWrite q n data s
  | .apertureRecover q n => Sys2Proof.Machine.execApertureRecover q n s
  | .apertureTxreq q n ob data => Sys2Proof.Machine.execApertureTxreq q n ob data s
  | .apertureValidWrite q n ob data => Sys2Proof.Machine.execApertureValidWrite q n ob data s
  | .apertureDataWrite q n ob hi data => Sys2Proof.Machine.execApertureDataWrite q n ob hi data s
  | .motClrOne q ch => Sys2Proof.Machine.execMotClrOne q ch s
  | .motClrAll q => Sys2Proof.Machine.execMotClrAll q s
  | .tblRead pg => Sys2Proof.Machine.execTblRead pg s
  | .tblUnlistedOp pg => Sys2Proof.Machine.execTblUnlistedOp pg s
  | .motWrite pg => Sys2Proof.Machine.execMotWrite pg s
  | .motClear pg => Sys2Proof.Machine.execMotClear pg s
  | .motStateConsume pg => Sys2Proof.Machine.execMotStateConsume pg s
  | .motStateSend pg => Sys2Proof.Machine.execMotStateSend pg s
  | .ximInsert pg => Sys2Proof.Machine.execXimInsert pg s
  | .ximDelete pg => Sys2Proof.Machine.execXimDelete pg s
  | .ximLookup pg => Sys2Proof.Machine.execXimLookup pg s
  | .tstWrite pg => Sys2Proof.Machine.execTstWrite pg s
  | .tstClear pg => Sys2Proof.Machine.execTstClear pg s
  | .tstSend pg => Sys2Proof.Machine.execTstSend pg s
  | .sdpWrite pg => Sys2Proof.Machine.execSdpWrite pg s
  | .sdpClear pg => Sys2Proof.Machine.execSdpClear pg s
  | .tptWrite pg => Sys2Proof.Machine.execTptWrite pg s
  | .tptClear pg => Sys2Proof.Machine.execTptClear pg s
  | .rltWrite pg => Sys2Proof.Machine.execRltWrite pg s
  | .rltClear pg => Sys2Proof.Machine.execRltClear pg s
  | .dstWrite pg => Sys2Proof.Machine.execDstWrite pg s
  | .dstClear pg => Sys2Proof.Machine.execDstClear pg s
  | .dstSend pg => Sys2Proof.Machine.execDstSend pg s
  | .pubWrite pg => Sys2Proof.Machine.execPubWrite pg s
  | .pubClear pg => Sys2Proof.Machine.execPubClear pg s
  | .pubSend pg => Sys2Proof.Machine.execPubSend pg s
  | .subWrite pg => Sys2Proof.Machine.execSubWrite pg s
  | .subClear pg => Sys2Proof.Machine.execSubClear pg s
  | .ettWrite pg => Sys2Proof.Machine.execEttWrite pg s
  | .ettClear pg => Sys2Proof.Machine.execEttClear pg s
  | .batWrite pg => Sys2Proof.Machine.execBatWrite pg s
  | .batClear pg => Sys2Proof.Machine.execBatClear pg s
  | .tttWrite pg => Sys2Proof.Machine.execTttWrite pg s
  | .tttClear pg => Sys2Proof.Machine.execTttClear pg s
  | .tttSend pg => Sys2Proof.Machine.execTttSend pg s
  | .eftWrite pg => Sys2Proof.Machine.execEftWrite pg s
  | .eftClear pg => Sys2Proof.Machine.execEftClear pg s
  | .eftInsert pg => Sys2Proof.Machine.execEftInsert pg s
  | .eftDelete pg => Sys2Proof.Machine.execEftDelete pg s
  | .eftLookup pg => Sys2Proof.Machine.execEftLookup pg s
  | .eftFlush pg => Sys2Proof.Machine.execEftFlush pg s
  | .vlanWrite pg => Sys2Proof.Machine.execVlanWrite pg s
  | .vlanClear pg => Sys2Proof.Machine.execVlanClear pg s
  | .irtWrite pg => Sys2Proof.Machine.execIrtWrite pg s
  | .irtClear pg => Sys2Proof.Machine.execIrtClear pg s
  | .meterWrite pg => Sys2Proof.Machine.execMeterWrite pg s
  | .meterClear pg => Sys2Proof.Machine.execMeterClear pg s
  | .sltWrite pg => Sys2Proof.Machine.execSltWrite pg s
  | .sltClear pg => Sys2Proof.Machine.execSltClear pg s
  | .macsecSaWrite pg => Sys2Proof.Machine.execMacsecSaWrite pg s
  | .macsecSaClear pg => Sys2Proof.Machine.execMacsecSaClear pg s
  | .sweeperVisit => Sys2Proof.Machine.execSweeperVisit s
  | .sweepPause q data => Sys2Proof.Machine.execSweepPause q data s
  | .sweepResume q data => Sys2Proof.Machine.execSweepResume q data s
  | .sweepRearm => Sys2Proof.Machine.execSweepRearm s
  | .bar4Read off len => Sys2Proof.Machine.execBar4Read off len s
  | .bar4Write off len => Sys2Proof.Machine.execBar4Write off len s
  | .cacheCountHalving => Sys2Proof.Machine.execCacheCountHalving s
  | .housekeepingWrite idx meas => Sys2Proof.Machine.execHousekeepingWrite idx meas s
  | .sigSetSegmentMode m => Sys2Proof.Machine.execSigSetSegmentMode m s
  | .modePass => Sys2Proof.Machine.execModePass s
  | .sigReadSlots m => Sys2Proof.Machine.execSigReadSlots m s
  | .sigSetVisibility m => Sys2Proof.Machine.execSigSetVisibility m s
  | .sigSetPin m => Sys2Proof.Machine.execSigSetPin m s
  | .sigImgCntClr q => Sys2Proof.Machine.execSigImgCntClr q s
  | .imageInitComplete => Sys2Proof.Machine.execImageInitComplete s
  | .resumePassComplete => Sys2Proof.Machine.execResumePassComplete s
  | .engineDecode => Sys2Proof.Machine.execEngineDecode s
  | .engineResume => Sys2Proof.Machine.execEngineResume s
  | .timeoutScan => Sys2Proof.Machine.execTimeoutScan s
  | .dstFirePeriodic ix => Sys2Proof.Machine.execDstFirePeriodic ix s
  | .derivationRun => Sys2Proof.Machine.execDerivationRun s
  | .rtEnSet q data => Sys2Proof.Machine.execRtEnSet q data s
  | .rtEnClear q data => Sys2Proof.Machine.execRtEnClear q data s
  | .sigWriteHg m => Sys2Proof.Machine.execSigWriteHg m s
  | .sigRunDerive m => Sys2Proof.Machine.execSigRunDerive m s
  | .seCntClr q => Sys2Proof.Machine.execSeCntClr q s
  | .pubFirePeriodic ix => Sys2Proof.Machine.execPubFirePeriodic ix s
  | .pubRefreshCycle ix => Sys2Proof.Machine.execPubRefreshCycle ix s
  | .pubChangePass ix => Sys2Proof.Machine.execPubChangePass ix s
  | .bundleReceived => Sys2Proof.Machine.execBundleReceived s
  | .signalsBundleUnpack => Sys2Proof.Machine.execSignalsBundleUnpack s
  | .beaconSend => Sys2Proof.Machine.execBeaconSend s
  | .presenceExpiry v => Sys2Proof.Machine.execPresenceExpiry v s
  | .subTimeout ix => Sys2Proof.Machine.execSubTimeout ix s
  | .rwriteTimeout => Sys2Proof.Machine.execRwriteTimeout s
  | .trdpPdReceived => Sys2Proof.Machine.execTrdpPdReceived s
  | .trdpPrReceived => Sys2Proof.Machine.execTrdpPrReceived s
  | .trdpMdReceived => Sys2Proof.Machine.execTrdpMdReceived s
  | .tttFirePeriodic ix => Sys2Proof.Machine.execTttFirePeriodic ix s
  | .tttComposeSend => Sys2Proof.Machine.execTttComposeSend s
  | .mirEnSet q data => Sys2Proof.Machine.execMirEnSet q data s
  | .mirEnClear q data => Sys2Proof.Machine.execMirEnClear q data s
  | .sigSetConsist m => Sys2Proof.Machine.execSigSetConsist m s
  | .sigGetPresence m => Sys2Proof.Machine.execSigGetPresence m s
  | .sigMirCntClr q => Sys2Proof.Machine.execSigMirCntClr q s
  | .portEnSet q p data => Sys2Proof.Machine.execPortEnSet q p data s
  | .portEnClear q p data => Sys2Proof.Machine.execPortEnClear q p data s
  | .linkUp p speed => Sys2Proof.Machine.execLinkUp p speed s
  | .linkDown p fault => Sys2Proof.Machine.execLinkDown p fault s
  | .trainingTimeout p => Sys2Proof.Machine.execTrainingTimeout p s
  | .trainingRetry p => Sys2Proof.Machine.execTrainingRetry p s
  | .eqRestart q p => Sys2Proof.Machine.execEqRestart q p s
  | .ethFrameReceived p f => Sys2Proof.Machine.execEthFrameReceived p f s
  | .pauseWindowEnd p => Sys2Proof.Machine.execPauseWindowEnd p s
  | .egressFrameStart p ue => Sys2Proof.Machine.execEgressFrameStart p ue s
  | .ethFrameTxComplete p => Sys2Proof.Machine.execEthFrameTxComplete p s
  | .blockWrite q p data => Sys2Proof.Machine.execBlockWrite q p data s
  | .portCntClr q p => Sys2Proof.Machine.execPortCntClr q p s
  | .swPortStatus m => Sys2Proof.Machine.execSwPortStatus m s
  | .swPortCounters m => Sys2Proof.Machine.execSwPortCounters m s
  | .swMdio m phy => Sys2Proof.Machine.execSwMdio m phy s
  | .graceWindowEnd p => Sys2Proof.Machine.execGraceWindowEnd p s
  | .swEnSet q data => Sys2Proof.Machine.execSwEnSet q data s
  | .swEnClear q data => Sys2Proof.Machine.execSwEnClear q data s
  | .swHamperStatus m => Sys2Proof.Machine.execSwHamperStatus m s
  | .swQueueFlush m => Sys2Proof.Machine.execSwQueueFlush m s
  | .swCntClr q => Sys2Proof.Machine.execSwCntClr q s
  | .learnApply pl => Sys2Proof.Machine.execLearnApply pl s
  | .ageingScan pl => Sys2Proof.Machine.execAgeingScan pl s
  | .shadowCompareVisit => Sys2Proof.Machine.execShadowCompareVisit s
  | .authRegisterWrite q p data => Sys2Proof.Machine.execAuthRegisterWrite q p data s
  | .swTableOp m => Sys2Proof.Machine.execSwTableOp m s
  | .swPortAuth m => Sys2Proof.Machine.execSwPortAuth m s
  | .swFwdCntClr q => Sys2Proof.Machine.execSwFwdCntClr q s
  | .timeLtNsRead q => Sys2Proof.Machine.execTimeLtNsRead q s
  | .timeIncWrite q data => Sys2Proof.Machine.execTimeIncWrite q data s
  | .tdOffNsWrite q d data => Sys2Proof.Machine.execTdOffNsWrite q d data s
  | .tdTrackingLost d => Sys2Proof.Machine.execTdTrackingLost d s
  | .holdoverExpiry => Sys2Proof.Machine.execHoldoverExpiry s
  | .timeStep q => Sys2Proof.Machine.execTimeStep q s
  | .timeGet m => Sys2Proof.Machine.execTimeGet m s
  | .timeSelect m => Sys2Proof.Machine.execTimeSelect m s
  | .timeArmStep m => Sys2Proof.Machine.execTimeArmStep m s
  | .timeSetTe m => Sys2Proof.Machine.execTimeSetTe m s
  | .teModeWrite q l data => Sys2Proof.Machine.execTeModeWrite q l data s
  | .teWindowStart l => Sys2Proof.Machine.execTeWindowStart l s
  | .teWindowEnd l => Sys2Proof.Machine.execTeWindowEnd l s
  | .teEdgeCapture l rise => Sys2Proof.Machine.execTeEdgeCapture l rise s
  | .teCapPop q l => Sys2Proof.Machine.execTeCapPop q l s
  | .timeCntClr q => Sys2Proof.Machine.execTimeCntClr q s
  | .jobPush q c => Sys2Proof.Machine.execJobPush q c s
  | .jobExecute c => Sys2Proof.Machine.execJobExecute c s
  | .jobDonePop q c => Sys2Proof.Machine.execJobDonePop q c s
  | .secKeyLoad m => Sys2Proof.Machine.execSecKeyLoad m s
  | .secKeyCommit m => Sys2Proof.Machine.execSecKeyCommit m s
  | .secKeyClear m => Sys2Proof.Machine.execSecKeyClear m s
  | .secKeyInfo m => Sys2Proof.Machine.execSecKeyInfo m s
  | .secPufEnroll m => Sys2Proof.Machine.execSecPufEnroll m s
  | .keyStoreLoaded => Sys2Proof.Machine.execKeyStoreLoaded s
  | .tamperPinTrip pin low also busy => Sys2Proof.Machine.execTamperPinTrip pin low also busy s
  | .sensorTrip k on also busy => Sys2Proof.Machine.execSensorTrip k on also busy s
  | .guardParityError e busy => Sys2Proof.Machine.execGuardParityError e busy s
  | .secCntClr q => Sys2Proof.Machine.execSecCntClr q s
  | .jtagInstructionLoad ir => Sys2Proof.Machine.execJtagInstructionLoad ir s
  | .ringKick q r win => Sys2Proof.Machine.execRingKick q r win s
  | .txDescFrame r => Sys2Proof.Machine.execTxDescFrame r s
  | .txDescCan r => Sys2Proof.Machine.execTxDescCan r s
  | .txDescSignal r => Sys2Proof.Machine.execTxDescSignal r s
  | .txDescUnlock r => Sys2Proof.Machine.execTxDescUnlock r s
  | .rxDelivery r => Sys2Proof.Machine.execRxDelivery r s
  | .ringEnable q r data win => Sys2Proof.Machine.execRingEnable q r data win s
  | .ringDisable q r data => Sys2Proof.Machine.execRingDisable q r data s
  | .ringCntClr q => Sys2Proof.Machine.execRingCntClr q s
  | .journalPop q j lost => Sys2Proof.Machine.execJournalPop q j lost s
  | .journalFlush q j => Sys2Proof.Machine.execJournalFlush q j s
  | .journalEnable q j data => Sys2Proof.Machine.execJournalEnable q j data s
  | .journalDisable q j data => Sys2Proof.Machine.execJournalDisable q j data s
  | .jnlCntClr q => Sys2Proof.Machine.execJnlCntClr q s
  | .irqClaim q t => Sys2Proof.Machine.execIrqClaim q t s
  | .irqComplete q t data => Sys2Proof.Machine.execIrqComplete q t data s
  | .irqPendWrite q k data edges => Sys2Proof.Machine.execIrqPendWrite q k data edges s
  | .doorbell q m => Sys2Proof.Machine.execDoorbell q m s
  | .respAck q m => Sys2Proof.Machine.execRespAck q m s
  | .mbxReset q m => Sys2Proof.Machine.execMbxReset q m s
  | .mbxCntClr q m => Sys2Proof.Machine.execMbxCntClr q m s
  | .mbxUnknownCode m => Sys2Proof.Machine.execMbxUnknownCode m s
  | .requestTakeTimeout m => Sys2Proof.Machine.execRequestTakeTimeout m s
  | .sysGetInfo m => Sys2Proof.Machine.execSysGetInfo m s
  | .sysHostAttach m => Sys2Proof.Machine.execSysHostAttach m s
  | .sysHostDetach m => Sys2Proof.Machine.execSysHostDetach m s
  | .sysNop m => Sys2Proof.Machine.execSysNop m s
  | .diagRegRead m => Sys2Proof.Machine.execDiagRegRead m s
  | .diagRegWrite m => Sys2Proof.Machine.execDiagRegWrite m s
  | .diagMemRead m => Sys2Proof.Machine.execDiagMemRead m s
  | .diagMbxStats m => Sys2Proof.Machine.execDiagMbxStats m s
  | .hostWatchExpiry t => Sys2Proof.Machine.execHostWatchExpiry t s
  | .scriptEntryExecute => Sys2Proof.Machine.execScriptEntryExecute s
  | .popezalRestart => Sys2Proof.Machine.execPopezalRestart s
  | .popezalServing => Sys2Proof.Machine.execPopezalServing s
  | .watchdogExpiry => Sys2Proof.Machine.execWatchdogExpiry s
  | .lockstepDisagree => Sys2Proof.Machine.execLockstepDisagree s
  | .devUnlockWrite q data => Sys2Proof.Machine.execDevUnlockWrite q data s
  | .devCommitWrite q => Sys2Proof.Machine.execDevCommitWrite q s
  | .commitComplete => Sys2Proof.Machine.execCommitComplete s
  | .cfgCrcUpdate b => Sys2Proof.Machine.execCfgCrcUpdate b s
  | .voteScrub upset => Sys2Proof.Machine.execVoteScrub upset s
  | .deviceResetWrite q => Sys2Proof.Machine.execDeviceResetWrite q s
  | .devCntClr q => Sys2Proof.Machine.execDevCntClr q s
  | .xtalFailure => Sys2Proof.Machine.execXtalFailure s
  | .oscFailure => Sys2Proof.Machine.execOscFailure s
  | .sdrefFailure => Sys2Proof.Machine.execSdrefFailure s
  | .rampStep => Sys2Proof.Machine.execRampStep s
  | .rampComplete k => Sys2Proof.Machine.execRampComplete k s
  | .sourceQualified src => Sys2Proof.Machine.execSourceQualified src s
  | .loopRelock k => Sys2Proof.Machine.execLoopRelock k s
  | .clkReturn q => Sys2Proof.Machine.execClkReturn q s
  | .railWindowExit r => Sys2Proof.Machine.execRailWindowExit r s
  | .railWindowReturn r => Sys2Proof.Machine.execRailWindowReturn r s
  | .brownOut r => Sys2Proof.Machine.execBrownOut r s
  | .pacingMeasurement ps => Sys2Proof.Machine.execPacingMeasurement ps s
  | .clkCntClr q => Sys2Proof.Machine.execClkCntClr q s
  | .coldStart => Sys2Proof.Machine.execColdStart s
  | .deviceReset => Sys2Proof.Machine.execDeviceReset s
  | .lanternUp => Sys2Proof.Machine.execLanternUp s
  | .railsUp => Sys2Proof.Machine.execRailsUp s
  | .loaderSectionApplied => Sys2Proof.Machine.execLoaderSectionApplied s
  | .dramTrained retried => Sys2Proof.Machine.execDramTrained retried s
  | .dramTrainingFailed => Sys2Proof.Machine.execDramTrainingFailed s
  | .xtalQualifyTimeout => Sys2Proof.Machine.execXtalQualifyTimeout s
  | .popezalLoadTimeout => Sys2Proof.Machine.execPopezalLoadTimeout s
  | .blockReset b => Sys2Proof.Machine.execBlockReset b s
  | .blockResetComplete => Sys2Proof.Machine.execBlockResetComplete s
  | .memoryScrubVisit e => Sys2Proof.Machine.execMemoryScrubVisit e s
  | .thermalFault => Sys2Proof.Machine.execThermalFault s
  | .wakeSourceAccepted ix => Sys2Proof.Machine.execWakeSourceAccepted ix s
  | .lanCmdSleep q data => Sys2Proof.Machine.execLanCmdSleep q data s
  | .lanCmdWake q data => Sys2Proof.Machine.execLanCmdWake q data s
  | .settleEnd n => Sys2Proof.Machine.execSettleEnd n s
  | .maxAwakeExpiry n => Sys2Proof.Machine.execMaxAwakeExpiry n s
  | .minAwakeEnd n => Sys2Proof.Machine.execMinAwakeEnd n s
  | .retryWindowEnd n => Sys2Proof.Machine.execRetryWindowEnd n s
  | .holdoffEnd n => Sys2Proof.Machine.execHoldoffEnd n s
  | .deviceWindowEnd => Sys2Proof.Machine.execDeviceWindowEnd s
  | .standbyReached => Sys2Proof.Machine.execStandbyReached s
  | .sleepReached => Sys2Proof.Machine.execSleepReached s
  | .standbyWake ix => Sys2Proof.Machine.execStandbyWake ix s
  | .sleepWake ix => Sys2Proof.Machine.execSleepWake ix s
  | .pwrGetState m => Sys2Proof.Machine.execPwrGetState m s
  | .pwrSegSleep m => Sys2Proof.Machine.execPwrSegSleep m s
  | .pwrSegWake m => Sys2Proof.Machine.execPwrSegWake m s
  | .pwrSetHold m => Sys2Proof.Machine.execPwrSetHold m s
  | .pwrSetWake m => Sys2Proof.Machine.execPwrSetWake m s
  | .pwrSetState m => Sys2Proof.Machine.execPwrSetState m s
  | .lanCntClr q => Sys2Proof.Machine.execLanCntClr q s
  | .budCanrxRecord r => Sys2Proof.Machine.execBudCanrxRecord r s
  | .budTxchoiceRecord r => Sys2Proof.Machine.execBudTxchoiceRecord r s
  | .budSgrxRecord r => Sys2Proof.Machine.execBudSgrxRecord r s
  | .budCmdRecord r => Sys2Proof.Machine.execBudCmdRecord r s
  | .budFireRecord r => Sys2Proof.Machine.execBudFireRecord r s
  | .budDigestRecord r => Sys2Proof.Machine.execBudDigestRecord r s
  | .budStateRecord r => Sys2Proof.Machine.execBudStateRecord r s
  | .budAckRecord r => Sys2Proof.Machine.execBudAckRecord r s
  | .budMbxRecord r => Sys2Proof.Machine.execBudMbxRecord r s
  | .laneDown k => Sys2Proof.Machine.execLaneDown k s
  | .budAckSend => Sys2Proof.Machine.execBudAckSend s
  | .claimFrameSend => Sys2Proof.Machine.execClaimFrameSend s
  | .claimFrameReceived f => Sys2Proof.Machine.execClaimFrameReceived f s
  | .partnerSilent => Sys2Proof.Machine.execPartnerSilent s
  | .startWaitEnd => Sys2Proof.Machine.execStartWaitEnd s
  | .selfDiagnosisComplete out => Sys2Proof.Machine.execSelfDiagnosisComplete out s
  | .resyncRequest => Sys2Proof.Machine.execResyncRequest s
  | .budGetStatus m => Sys2Proof.Machine.execBudGetStatus m s
  | .budSetClaim m => Sys2Proof.Machine.execBudSetClaim m s
  | .budOverride m => Sys2Proof.Machine.execBudOverride m s
  | .budWithdraw m => Sys2Proof.Machine.execBudWithdraw m s
  | .budRejoin m => Sys2Proof.Machine.execBudRejoin m s
  | .budCntClr q => Sys2Proof.Machine.execBudCntClr q s
  | .serviceDatagram f => Sys2Proof.Machine.execServiceDatagram f s
  | .serviceArp f => Sys2Proof.Machine.execServiceArp f s
  | .rescueRequest f => Sys2Proof.Machine.execRescueRequest f s
  | .updGetStatus m => Sys2Proof.Machine.execUpdGetStatus m s
  | .updBegin m => Sys2Proof.Machine.execUpdBegin m s
  | .updWrite m => Sys2Proof.Machine.execUpdWrite m s
  | .updVerify m => Sys2Proof.Machine.execUpdVerify m s
  | .updActivate m => Sys2Proof.Machine.execUpdActivate m s
  | .updConfirm m => Sys2Proof.Machine.execUpdConfirm m s
  | .updAbort m => Sys2Proof.Machine.execUpdAbort m s
  | .updSetService m => Sys2Proof.Machine.execUpdSetService m s
  | .updOtpKey m => Sys2Proof.Machine.execUpdOtpKey m s
  | .microcodeSwap => Sys2Proof.Machine.execMicrocodeSwap s
  | .lanternSwap => Sys2Proof.Machine.execLanternSwap s
  | .popezalHandover => Sys2Proof.Machine.execPopezalHandover s
  | .trialWindowEnd => Sys2Proof.Machine.execTrialWindowEnd s
  | .resetNAsserted => Sys2Proof.Machine.execResetNAsserted s
  | .pciePerstRelease => Sys2Proof.Machine.execPciePerstRelease s
  | .buddyLaneUp k ok => Sys2Proof.Machine.execBuddyLaneUp k ok s
  | .phyInBandStatus p speed full => Sys2Proof.Machine.execPhyInBandStatus p speed full s
  | .thermosHandoverComplete => Sys2Proof.Machine.execThermosHandoverComplete s
  | .lagLimitExceeded lagNs => Sys2Proof.Machine.execLagLimitExceeded lagNs s
  | .counterLoRead q off => Sys2Proof.Machine.execCounterLoRead q off s

end Sys2Proof.Machine
end

