-- ==== Sys2Proof/Machine/Tick.lean ====
section
/-!
DEFINITION. Sys2Proof/Machine/Tick.lean: what a step with an empty queue does: one tick of the 500 MHz time-base loop, with the counters that
run on it, and perhaps one of the lantern's oscillator (logs 1 and 6).
-/
namespace Sys2Proof.Machine

/-- R279, R395 to R397, R400: the time base runs: its loop has a source, and the power state is ACTIVE or PARTIAL. -/
def timeRuns (s : State) : Bool := (loopSrc s 0 == 1 || loopSrc s 0 == 2) && decide (powerState s < 2)

/-- R120: a rate is the count of the last whole second. -/
def rateRoll (s : State) (i : Nat) : State := houseSet (houseSet s i (houseAt s (1000 + i))) (1000 + i) 0

/-- R245, R120: what happens once a second. -/
def secondTick (s : State) : State :=
  let s := rateRoll (rateRoll s 48) 49
  setF { s with time := { s.time with secSub := 0 } } 0x182020 15 0 (getF s 0x182020 15 0 + 1)

/-- R106: the stamp clock, every 500 ticks. -/
def microTick (s : State) : State :=
  wr { s with time := { s.time with sub := 0 } } 0x1A0010 (rd s 0x1A0010 + 1)

/-- R398: the internal oscillator against the crystal, once in a window of 10 µs from RAILS on, a crystal that is still qualifying among them: the
measure is a free value (log 2). -/
def oscTick (s : State) : State :=
  if s.ticks % 5000 = 0 ∧ 2 ≤ s.boot.stage ∧ powered s = true ∧ oscOk s = true then
    let x := fresh s
    wr x.2 0x10010 (BitVec.ofNat 32 (x.1 % 2 ^ 16))
  else s

/-- R283: an edge that has held its level for FILT ticks is accepted. -/
def edgesHeld (s : State) : State := (s.time.te.map fun e => e.1).foldl teFilter s

/-- R266: LT advances by TIME_INC, and the counters of the time base with it. -/
def timeTick (s : State) : State :=
  if timeRuns s then
    let t := s.time
    let s := { s with time := { t with lt := (t.lt + t.inc) % ltModulus, sub := t.sub + 1, secSub := t.secSub + 1 } }
    let s := edgesHeld (if 500 ≤ s.time.sub then microTick s else s)
    if 500000000 ≤ s.time.secSub then secondTick s else s
  else s

/-- R433, R436, R437, R441, R496: a tick of LNT, with what the lantern finds at it: a sleep request that nothing holds back any longer, the
conditions of the device window, an action that waited. -/
def lanternNext (s : State) : State :=
  let s := { s with lan := { s.lan with lnt := s.lan.lnt + 1 } }
  waitingEnter (devEval ((List.range 48).foldl trySettle s))

/-- R433: the lantern runs in every power state and through every reset. -/
def lanternTickOp (s : State) : State := if Config.lanternTick s.ticks then lanternNext s else s

/-- One tick; a relocation in hand makes half a move in it (R79, log 14). -/
def tick (s : State) : State := lanternTickOp (oscTick (timeTick (relocReplies (relocNext { s with ticks := s.ticks + 1 }))))

end Sys2Proof.Machine
end

