-- ==== Sys2Proof/Machine/Pins.lean ====
section
/-!
DEFINITION. Sys2Proof/Machine/Pins.lean: what the pins show (R393, R441, R505, R506): the supply groups, and the level of each kind of output in every power
state. Nothing here is state: each level follows from the registers and the power state.
-/
namespace Sys2Proof.Machine

/-- A pin: at a level, high-impedance, idle (a SerDes pair), or driven as its unit's traffic gives. -/
inductive PinLevel where
  | low
  | high
  | highZ
  | idle
  | driven
  deriving DecidableEq, Repr

/-- R505: the supply groups. -/
inductive PinGroup where
  | v33
  | v18
  | ana
  | sd
  deriving DecidableEq, Repr

/-- R505: the group has power. In the analog group only the crystal needs any. -/
def groupPowered (s : State) : PinGroup → Bool
  | .v33 => true
  | .v18 => !inSleep s
  | .ana => !inSleep s && !inStandby s
  | .sd => !inSleep s && !inStandby s

/-- R505: an output of a group that has no power is high-impedance. -/
def groupPin (s : State) (g : PinGroup) (l : PinLevel) : PinLevel := if groupPowered s g then l else .highZ

def levelOf (b : Bool) : PinLevel := if b then .high else .low

/-- R56, R460, R506: TXD: recessive in reset, in STANDBY and SLEEP, behind a closed gate and in the modes that send nothing. -/
def txdPin (s : State) (n : Nat) : PinLevel :=
  if powerState s < 2 ∧ canGateOpen s n = true ∧ (modeCur s n = 1 ∨ modeCur s n = 2 ∨ modeCur s n = 5) then .driven else .high

/-- R60, R506: STB: asserted in STANDBY and SLEEP and while the channel's block is not set up. STB_POL = 0 asserts it high; a write of it
acts at the next enable (R8). -/
def stbPin (s : State) (n : Nat) : PinLevel :=
  levelOf ((decide (2 ≤ powerState s) || stbAsserted s n) != frcB s (canR n 0x30) 2)

/-- R280, R506: a TE line; an input, a line behind a closed gate and every line in SLEEP is high-impedance. -/
def teLevel (s : State) (n : Nat) : PinLevel :=
  if inSleep s then .highZ
  else
    match tePin s n with
    | some b => levelOf b
    | none => .highZ

/-- R441, R460, R506: INH: none while its gate is closed or before LANTERN; negated in SLEEP, where the lantern alone runs. -/
def inhPin (s : State) : PinLevel :=
  if inSleep s then .low
  else if !ready s 0 || !s.bud.gate then .highZ
  else if powerState s = 3 then .low
  else if powerState s = 2 then levelOf (getB s 0x70008 10)
  else .high

/-- R393, R427, R506: FAULT_N, open-drain. -/
def faultPin (s : State) : PinLevel := if !inSleep s && faultLow s then .low else .highZ

/-- R506: GPIO are inputs. -/
def gpioPin : PinLevel := .highZ

/-- R195, R506: the service port's outputs. -/
def spPins (s : State) : PinLevel := groupPin s .v18 (if powerState s < 2 ∧ ready s 5 = true then .driven else .low)

/-- R213, R506: MDC runs only within an SW_MDIO. -/
def mdcPin (s : State) : PinLevel := groupPin s .v18 .low

/-- R506: XSPI_CS_N outside an access; the access of the loader, of an update or of a reload is within the row that makes it. -/
def xspiCsPin (s : State) : PinLevel := groupPin s .v18 .high

/-- R506: XSPI_RESET_N. The 10 µs after RAILS are not counted (R414 lets the loader begin only then). -/
def xspiResetPin (s : State) : PinLevel := groupPin s .v18 (levelOf (decide (2 ≤ s.boot.stage)))

/-- R506, R508: TDO, driven while shifting alone; no row shifts. -/
def tdoPin : PinLevel := .highZ

/-- R457, R506: BUD_CLAIM_O. -/
def claimPin (s : State) : PinLevel := groupPin s .v18 (if budIdle s then .low else .driven)

/-- R506: the transmit pair of a SerDes port of the switch. -/
def portTxPin (s : State) (p : Nat) : PinLevel := groupPin s .sd (if powerState s < 2 ∧ portEn s p = true then .driven else .idle)

/-- R448, R506: the transmit pair of a buddy lane. -/
def laneTxPin (s : State) : PinLevel := groupPin s .sd (if budIdle s then .idle else .driven)

/-- R506: the transmit pairs of the PCI Express link. -/
def pcieTxPin (s : State) : PinLevel := groupPin s .sd (if s.pcie.link then .driven else .idle)

/-- R506: the 100 Ω termination of the SerDes receive pairs and of the two reference clocks. -/
def rxTerminated (s : State) : Bool := decide (powerState s < 2)

end Sys2Proof.Machine
end

