-- ==== Sys2Proof/Safety.lean ====
section
/-!
DEFINITION. Sys2Proof/Safety.lean: the terms that statements use: that a command is carried out, what a frame leaves as it was, and the
invariant of the interrupt controller.
-/
namespace Sys2Proof.Machine

/-- The command is carried out (it ends in no fault and no refusal), and the state after it satisfies `P`. -/
def Answers (c : Instr) (s : State) (P : State → Prop) : Prop := ∃ t, exec c s = .next t ∧ P t

/-- Every register word outside `l` reads as before. -/
def RegsKept (s t : State) (l : List Nat) : Prop := ∀ o, o ∉ l → rd t o = rd s o

/-- Every byte of device memory reads as before. -/
def MemKept (s t : State) : Prop := ∀ a, memByte t a = memByte s a

/-- Nothing changes but the register words of `l`, the interrupt controller and what is sent. -/
def OnlyRegs (s t : State) (l : List Nat) : Prop :=
  t = { s with regs := t.regs, irq := t.irq, out := t.out } ∧ RegsKept s t l

/-- Nothing changes but the register words of `l`, the key of requester `q`, the buddy stream (its registers among `l`), the
interrupt controller and what is sent. -/
def OnlyRegsOf (q : Requester) (s t : State) (l : List Nat) : Prop :=
  t = { s with regs := t.regs, armed := t.armed, bud := t.bud, irq := t.irq, out := t.out } ∧ RegsKept s t (0x80018 :: l)
    ∧ ∀ q', q' ≠ q → armed t q' = armed s q'

/-- Nothing changes but the register words of `l`, the journals with their registers (0x4_0000 to 0x4_100F) and the housekeeping count
of their items, the interrupt controller and what is sent. -/
def OnlyNoted (s t : State) (l : List Nat) : Prop :=
  t = { s with regs := t.regs, jnl := t.jnl, house := t.house, irq := t.irq, out := t.out } ∧
    ∀ o, o ∉ l → (o < 0x40000 ∨ 0x41010 ≤ o) → rd t o = rd s o

/-- What the signal image's own rows never touch: tables and shadows, CAN channels, objects and the payload store. -/
def CarriersKept (s t : State) : Prop :=
  t.tbl = s.tbl ∧ t.shadow = s.shadow ∧ t.can = s.can ∧ t.obj = s.obj ∧ t.pay = s.pay

/-- What is sent after `s` begins with `x`. -/
def Sends (s t : State) (x : Out) : Prop := ∃ l, t.out = s.out ++ x :: l

/-- R356, R360, R400: mailbox `m` (0 to 7) has a request of this CODE at its head that may be taken, which does not wait for the boot flash, passes
the envelope, is not QUIET, and whose response no RESET has asked to be discarded. -/
def Asks (s : State) (m code : Nat) (x : MbxReq) : Prop :=
  m < 8 ∧ takeable s m = some x ∧ leAt x.hdr 0 2 = code ∧ flashHolds s code = false ∧ envelope s m (reqOf m false x) = eOk ∧ (reqOf m false x).quiet = false ∧
    (mbxAt s m).dropResp = false

/-- R63: a CAN command of `len` bytes for channel `n`, from C0 or the channel's owner, at a unit that is not STANDBY. -/
def CanAsks (s : State) (m code : Nat) (x : MbxReq) (len n : Nat) : Prop :=
  Asks s m code x ∧ leAt x.hdr 6 2 = len ∧ n = leAt x.fields 0 1 ∧ n ≤ 47 ∧ mayAct (leAt x.hdr 4 1) (chanOwner s n) = true ∧ budMode s ≠ 2

/-- R355, R358: the request has left service and its response, with this STATUS and these fields, is posted behind those before it. -/
def Replies (s t : State) (m : Nat) (x : MbxReq) (st : Nat) (data : List Byte) : Prop :=
  (mbxAt t m).inSvc = none ∧
    ∃ l, (mbxAt t m).posted = (mbxAt s m).posted ++ respBytes s (reqOf m false x) { status := st, data := data, wait := false } :: l

/-- R324, R327: SIZE of ring `r` is in its range, and the descriptor behind the one at POS is the host's. -/
def NextIsHosts (s : State) (r : Nat) : Prop :=
  getF s (ringR r 0) 4 1 ≤ 8 ∧ (ringAt s r).after = none ∧ fld (BitVec.ofNat 32 (leNat (winRead s ((rd s (ringR r 4)).toNat + 32 * ((getF s (ringR r 8) 11 0 + 1) % ringSize s r)) 4))) 0 0 = 0

/-- R327, R329: the descriptor at POS of transmit ring `r` is returned with this STATUS: OWN is 0, KIND and TAG are as the host wrote them; POS has advanced, DONE counts it. -/
def TxReturned (s t : State) (r st : Nat) : Prop :=
  BitVec.ofNat 32 (leNat (winRead t (descAt s r) 4)) = putFld (putFld (descWord s r 0) 11 4 st) 0 0 0 ∧
    getF t (ringR r 8) 11 0 = (getF s (ringR r 8) 11 0 + 1) % ringSize s r ∧ rd t (ringR r 0x18) = rd s (ringR r 0x18) + 1 ∧
    getB t (ringR r 0x10) 0 = true

/-- R256: page `pg` is busy with operation `op` on entry `i` of table `tab`, without SHADOW; its compartment exists, the unit is not STANDBY, and no
relocation is in hand. -/
def PageCmd (s : State) (pg tab op i : Nat) : Prop :=
  getB s (pageR pg 8) 0 = true ∧ pageTab s pg = tab ∧ pageOp s pg = op ∧ getF s (pageR pg 4) 19 0 = i ∧ getB s (pageR pg 0) 16 = false
    ∧ compExists s pg = true ∧ budMode s ≠ 2 ∧ s.relocs = []

/-- R257: page `pg` has completed its command: BUSY is 0, STATUS and RESULT stand. -/
def PageDone (t : State) (pg st i : Nat) : Prop :=
  getB t (pageR pg 8) 0 = false ∧ getF t (pageR pg 8) 11 8 = st ∧ rd t (pageR pg 0xC) = BitVec.ofNat 32 i

/-- R257: the data words of page `pg` hold an entry. -/
def PageEntry (t : State) (pg : Nat) (bs : List Byte) : Prop :=
  ∀ k, k < 64 → rd t (pageR pg (0x100 + 4 * k)) = BitVec.ofNat 32 (leAt (padTo 256 bs) (4 * k) 4)

/-- Every other entry of every table is as before. -/
def OtherEntries (s t : State) (tab i : Nat) : Prop :=
  ∀ tab' j, j < 2 ^ 20 → (tab', j) ≠ (tab, i) → tGet t tab' j = tGet s tab' j

/-- R7, R82, R133, R184, R249, R252, R313: the entry that a WRITE of these data stores in a table: reserved fields zero, and the fields that
the 6448 counts in start from zero. -/
def storedEntry (tab : Nat) (d : List Byte) : BitVec 768 :=
  if tab = 0x05 then eOf (d.take 16) &&& BitVec.ofNat 768 (sdpMask (eOf (d.take 16)))
  else if tab = 0x0D then eOf (d.take 32) &&& BitVec.ofNat 768 (tttMask (eOf (d.take 32)))
  else if tab = 0x14 ∨ tab = 0x15 then ePut (entryIn 0x14 d) 23 31 0 0
  else if tab = 0x16 then shadowForm 0x16 (entryIn 0x16 d)
  else if tab = 0x18 then saPut (entryIn tSa d) (saPn (entryIn tSa d)) 0
  else entryIn tab d

/-- An entry that is not in use: VALID, OP or TRIG is 0 (a rule names no compartment but C0). -/
def offEntry (tab : Nat) (e : BitVec 768) : Bool :=
  if tab = 0x04 then tsTrig e == 0 else if tab = 0x05 then sdOp e == 0 else if tab = 0x06 then !tptBad e else if tab = 0x08 then dsTrig e == 0
  else if tab = 0x14 ∨ tab = 0x15 then irtA e 0 0 0 != 1 && irtComp e == 0 else !e.getLsbD 0

/-- The second state is the first for the switch: what differs is the image's cache, the mirror but for the frames that wait for it, the payload store, the
compositions, the buddy stream, the mailboxes, the journals, and the registers of those blocks. -/
def SgSame (s a : State) : Prop :=
  a = { s with regs := a.regs, cache := a.cache, mir := a.mir, bud := a.bud, pay := a.pay, comps := a.comps, house := a.house, jnl := a.jnl, mbx := a.mbx,
               boot := { s.boot with turn := a.boot.turn }, out := a.out } ∧
    a.mir.sgIn = s.mir.sgIn ∧ ∀ o, (o < 0x30000 ∨ 0x41010 ≤ o) → (o < 0x1A0000 ∨ 0x1A3000 ≤ o) → o ≠ 0x80018 → rd a o = rd s o

/-- R165, R216: these frames, and no other, are handed to the switch by SG between the two states, one after the other, with this compartment and gateway class;
`csum`: with checksums to insert. -/
def SgSends (comp cls : Nat) (csum : Bool) : List (List Byte) → State → State → Prop
  | [], s, t => t.sw = s.sw ∧ t.tbl = s.tbl ∧ t.mir.sgIn = s.mir.sgIn
  | f :: fs, s, t => ∃ a, SgSame s a ∧ SgSends comp cls csum fs (sgSend a comp cls f csum) t

/-- R166: the records of the valid slots among these. -/
def slotRecords (s : State) (gs : List Nat) : List (List Byte) := (gs.filter fun g => (slotAt s g).valid).map fun g => signalRecord g (slotAt s g)

/-- R171, R172: the frames of a pass of publication `i` with these records, at most 92 in each: a refresh cycle has BEGIN on the first and END on the last, and at
least one frame. -/
def passFrames (s : State) (i : Nat) (refresh : Bool) (recs : List (List Byte)) : List (List Byte) :=
  let e := tGet s 9 i
  let groups := if recs.isEmpty then (if refresh then [[]] else []) else chunks 92 (recs.length + 1) recs
  groups.mapIdx fun k r => bundleFrame s (puBat e) 0 (if refresh then bnat (k == 0) + 2 * bnat (k + 1 == groups.length) else 0) (puStream e)
    (if k = 0 then (pubRt s i).seq else ((pubRt s i).seq + k) % 2 ^ 16) r.length (r.flatMap id)

/-- R367, R368: every context of `s` is detached in `t`; where one was attached, the block is HOSTLESS, the servo is Popezal's and the HOSTLESS script
has begun. -/
def AllDetached (s t : State) : Prop :=
  (∀ k, k < 8 → attached t k = false ∧ (attached s k = true → (mbxAt t k).attached = false ∧ (mbxAt t k).watch = 0)) ∧
    ((∃ k, k < 8 ∧ attached s k = true) → getB t 0x3A004 0 = true ∧ getB t 0x3A004 1 = true ∧ getB t 0x60008 2 = false ∧
      ∃ x, t.script = some x ∧ x.hostless = true ∧ x.next = 0)

/-- R332, R366, R367: what a function level reset leaves: every ring disabled, or to be disabled once its descriptor in hand is finished; the locks of the
transmit rings released; the claims of H0 to H7 ended; MSI-X reset; the host's key disarmed; the mailboxes H0 to H7 empty and detached. -/
def FunctionReset (s t : State) : Prop :=
  (∀ r, r < 32 → ((ringAt s r).wait = none → getB t (ringR r 0) 0 = false) ∧ ((ringAt s r).wait ≠ none → (ringAt t r).after = some false)) ∧
    (∀ n l, n < 48 → budMode s ≠ 2 → (chan s n).lock = some l → 0x40 ≤ l.owner → l.owner < 0x50 → (chan t n).lock = none) ∧
    (∀ k n, k < 8 → n < 512 → heldBy t k n = false) ∧ (∀ o ∈ wordsFrom 0x2F000 32, rd t o = resetWord o) ∧ t.pcie.msixEn = false ∧ t.pcie.msixMask = false ∧
    armed t .host = false ∧ (∀ m, m < 8 → (mbxAt t m).queue = [] ∧ (mbxAt t m).posted = [] ∧ (mbxAt t m).dropResp = (mbxAt s m).inSvc.isSome) ∧
    AllDetached s t ∧ t.tbl = s.tbl ∧ t.slots = s.slots ∧ MemKept s t

/-- R437: no window of segment `n` has ended unseen. -/
def SegQuiet (s : State) (n : Nat) : Prop := awakeOver s n = false ∧ ((segAt s n).st = 1 → settleOver s n = false)

/-- R441: there is no device window, and none would open. -/
def DevQuiet (s : State) : Prop := s.lan.dev = none ∧ devCond s = false

/-- R212, R469, R470: SP sends this frame, counts it, and nothing else changes but what a free value takes. -/
def SpSends (s t : State) (b : List Byte) : Prop :=
  Sends s t (.service b) ∧ OnlyRegs { s with free := t.free } t [ethR 24 0x110, ethR 24 0x114, ethR 24 0x118, ethR 24 0x11C]

/-- R469 to R471: the handler's datagram of this KIND and SEQ in answer to frame `f`, under the service settings `v`; its time to live is a free value. -/
def svcReply (s : State) (v : SvcSet) (f : List Byte) (kind seq : Nat) (body : List Byte) : Option (List Byte) :=
  (svcSigned s v kind seq body).map fun p => svcFrame s v (slice f 6 6) ((fresh s).1 % 256) (svcFrom f).1 (svcFrom f).2 p

/-- R412, R413, R442: the block right after a start with this cause: LANTERN is set and the segments are AWAKE; the lantern keeps its settings, its time, its
latches and its wake enables, OTP and flash keep their contents; every other register word has its reset value. -/
def Started (s t : State) (cause rail : Nat) : Prop :=
  t.boot = { Boot.init with stage := 1, cause := cause, causeRail := rail, badBank := if cause = 5 then s.boot.badBank else none } ∧ powerState t = 0 ∧ ready t 0 = true ∧
    t.sec = { Sec.init with tamperLatch := s.sec.tamperLatch, owed := s.sec.owed, tap := s.sec.tap } ∧ t.lan.lnt = s.lan.lnt ∧ t.slots = [] ∧ t.mem = [] ∧ t.tbl = [] ∧ t.otp = s.otp ∧ t.flash = s.flash ∧ t.pending = s.pending ∧
    (∀ n, n < 48 → (segAt t n).st = 0) ∧ (∀ k, k < 3 → triVal t 1 k = triVal s 1 k) ∧ (∀ o, 0x70100 ≤ o → o < 0x70700 → rd t o = rd s o) ∧
    ∀ o, (o < 0x70000 ∨ 0x70700 ≤ o) → o ≠ 0x14 → o ≠ 0x8000C → rd t o = resetWord o

/-- R412, R414: the block held in reset by RESET_N or a brown-out. -/
def HeldInReset (s t : State) (cause rail : Nat) : Prop :=
  t.boot = { Boot.init with cause := cause, causeRail := rail, badBank := s.boot.badBank, resetLow := true } ∧ t.slots = [] ∧ t.mem = [] ∧
    t.otp = s.otp ∧ t.flash = s.flash ∧ (∀ o, 0x70000 ≤ o → o < 0x70700 → rd t o = rd s o) ∧
    ∀ o, (o < 0x70000 ∨ 0x70700 ≤ o) → o ≠ 0x8000C → rd t o = resetWord o

/-- R412: the block right after a cold start: nothing of an earlier run is left but OTP and flash. -/
def ColdStarted (s t : State) : Prop :=
  t = { State.reset with pending := s.pending, regs := t.regs, otp := s.otp, flash := s.flash, pcie := { Pcie.init with perst := s.pcie.perst }, free := s.free, irq := t.irq, out := t.out } ∧
    (∀ o, o ≠ 0x8000C → rd t o = resetWord o) ∧ getB t 0x8000C 25 = getB s 0x8000C 25

/-- R449, R450, R459: what arrives is a record, and a valid one: the units talk, no lane test runs, its CRC and its length are right. -/
def ValidRecord (s : State) (r : BudRec) : Prop := budIdle s = false ∧ laneTest s = false ∧ r.crcOk = true ∧ r.payload.length ≤ 2080

/-- The state with the instant at which the record's lane delivered it, and its SEQ in the receive tracker. -/
def tookRecord (s : State) (r : BudRec) : State := { s with bud := { (laneMark s r.lane.val).bud with rx := some r.seq.toNat } }

/-- R450, R451: the record is the next one for the receive tracker. -/
def NextRecord (s : State) (r : BudRec) : Prop := s.bud.rx = none ∨ ∃ k, s.bud.rx = some k ∧ (r.seq.toNat + 2 ^ 32 - k) % 2 ^ 32 = 1

/-- R454: the rows of the records that only a STANDBY unit executes, with their types. -/
def InputRecord (r : BudRec) (i : Instr) (ty : Nat) : Prop :=
  i = .budCanrxRecord r ∧ ty = 1 ∨ i = .budTxchoiceRecord r ∧ ty = 2 ∨ i = .budSgrxRecord r ∧ ty = 3 ∨ i = .budCmdRecord r ∧ ty = 4 ∨ i = .budFireRecord r ∧ ty = 5

/-- R341, R344, R346: the interrupt controller agrees with the levels: every source of 1 to 255 but 185 whose level is 1 and that is not in service is
pending; so is source 185 for every target that does not serve it; bit t of `had` says whether target t has a claimable source; and a vector is left in the
PBA only while its target has one and it cannot be sent. -/
def IrqSettled (s : State) : Prop :=
  (∀ n, n < 256 → n ≠ 185 → level s n = true → s.irq.insvc.getLsbD n = false → s.irq.pend.getLsbD n = true) ∧
  (level s 185 = true → ∀ t, t < 9 → s.irq.nmiSvc.getLsbD t = false → s.irq.nmiPend.getLsbD t = true) ∧
  (∀ t, t < 9 → s.irq.had.getLsbD t = anyClaimable s s.irq t) ∧
  (∀ t, t < 8 → s.irq.pba.getLsbD t = true → msixOpen s t = false ∧ s.irq.had.getLsbD t = true)

end Sys2Proof.Machine
end

