-- ==== Sys2Proof/Certificates/Slice0/Obligations.lean ====
section
/-!
DEFINITION. Sys2Proof/Certificates/Slice0/Obligations.lean: the statements for the provers. Each says for which states and operands a command is
carried out, what the state after it holds, and what is as before. The rules of the manual that a statement rests on stand first in its docstring.
-/
open Sys2Proof Sys2Proof.Machine

/-- R54, R98: a write of MODE_REQ, or of the forerunner mode word, in a running mode: MODE_REQ takes the value, MODE_CUR stays, and the
count of the pending change starts at the first write that makes the two differ, and ends at one that makes them equal. -/
def Obligations.ModeRequestIsPending : Prop :=
  (∀ (q : Requester) (n : Chan) (data : Word) (s : State), budMode s ≠ 2 → 1 ≤ modeCur s n → modeCur s n ≤ 5 → fld data 2 0 ≤ 5 →
    Answers (.modeReqWrite q n data) s fun t =>
      modeReq t n = fld data 2 0 ∧ modeCur t n = modeCur s n ∧
      (chan t n).pendSince = (if fld data 2 0 = modeCur s n then none else some ((chan s n).pendSince.getD (ltNs s))) ∧
      (∀ k, k ≠ n.val → chan t k = chan s k) ∧ RegsKept s t [canR n 0, 0x80018] ∧ MemKept s t ∧ armed t q = false) ∧
  (∀ (q : Requester) (n : Fin 12) (data : Word) (s : State), budMode s ≠ 2 → frEn s n = true → 1 ≤ modeCur s n → modeCur s n ≤ 5 →
    Answers (.apertureModeWrite q n data) s fun t =>
      modeReq t n = apMode (fld data 1 0) ∧ modeCur t n = modeCur s n ∧
      (chan t n).pendSince = (if apMode (fld data 1 0) = modeCur s n then none else some ((chan s n).pendSince.getD (ltNs s))) ∧
      (∀ k, k ≠ n.val → chan t k = chan s k) ∧ RegsKept s t [canR n 0, 0x80018] ∧ MemKept s t ∧ armed t q = false)

/-- R52, R53, R54, R55, R61, R87: at an idle point the pending mode is entered; the forced change does the same after the frame on the bus
has been cut off; DISABLED zeroes the error counters; integration and the standby wait end. RECOVER in BUS_OFF starts the recovery, from
the channel's own word and from the forerunner control word; in every other state it is ignored; when 128 runs have been counted the
counters are zero, RECOVERED_EV is set and MODE_REQ is entered without integration. A STANDBY unit leaves these instants to its records. -/
def Obligations.ModeChangeAndRecovery : Prop :=
  ((∀ (n : Chan) (s : State), budMode s ≠ 2 → (chan s n).pendSince.isSome = true → (chan s n).bus = none →
      (modeReq s n ≠ 0 → Answers (.modeChangeEffect n) s fun t =>
        modeCur t n = modeReq s n ∧ (chan t n).pendSince = none ∧ (modeCur s n ≠ modeReq s n → getB t (canR n 4) 9 = true) ∧
        integrating t n = (integrating s n && modeReq s n != 4) ∧ t.obj = s.obj ∧ RegsKept s t [canR n 0, canR n 4, 0x80018] ∧ MemKept s t) ∧
      (modeReq s n = 0 → Answers (.modeChangeEffect n) s fun t =>
        modeCur t n = 0 ∧ rd t (canR n 0x28) = 0 ∧ integrating t n = false)) ∧
    (∀ (n : Chan) (s : State) (a : Nat), budMode s ≠ 2 → (chan s n).pendSince = some a →
      (a + 25600 * (nomTime (canCfg s n).nbt).cycles ≤ ltNs s → modeReq s n ≠ 0 →
        Answers (.modeChangeForced n) s fun t =>
          modeCur t n = modeReq s n ∧ (chan t n).pendSince = none ∧ (chan t n).bus = none ∧
          rd t (canR n 0x28) = rd s (canR n 0x28) ∧ (modeCur s n ≠ modeReq s n → getB t (canR n 4) 9 = true)) ∧
      (ltNs s < a + 25600 * (nomTime (canCfg s n).nbt).cycles → Answers (.modeChangeForced n) s fun t => t = settle s)) ∧
    (∀ (n : Chan) (s : State), budMode s ≠ 2 → integrating s n = true → (chan s n).stbUntil = none →
      Answers (.integrationComplete n) s fun t => integrating t n = false ∧ modeCur t n = modeCur s n ∧
        OnlyRegs { s with bud := t.bud } t [canR n 0, 0x80018]) ∧
    (∀ (n : Chan) (s : State) (u : Nat), budMode s ≠ 2 → (chan s n).stbUntil = some u → u ≤ ltNs s →
      Answers (.stbWakeExpiry n) s fun t => chan t n = { chan s n with stbUntil := none } ∧ (∀ k, k ≠ n.val → chan t k = chan s k) ∧
        RegsKept s t [0x80018] ∧ MemKept s t) ∧
    (∀ (n : Chan) (s : State) (c : Instr), budMode s = 2 →
      c ∈ [Instr.modeChangeEffect n, .modeChangeForced n, .integrationComplete n, .stbWakeExpiry n, .recoveryComplete n, .lockTimeout n] →
      Answers c s fun t => t = settle s)) ∧
  ((∀ (q : Requester) (n : Chan) (s : State), budMode s ≠ 2 →
      (modeCur s n = 6 → Answers (.recover q n) s fun t => getB t (canR n 0) 13 = true ∧ modeCur t n = 6 ∧ OnlyRegsOf q s t [canR n 0]) ∧
      (modeCur s n ≠ 6 → Answers (.recover q n) s fun t => OnlyRegsOf q s t [])) ∧
    (∀ (q : Requester) (n : Fin 12) (s : State), budMode s ≠ 2 → frEn s n = true →
      (modeCur s n = 6 → Answers (.apertureRecover q n) s fun t => getB t (canR n 0) 13 = true ∧ modeCur t n = 6 ∧ OnlyRegsOf q s t [canR n 0]) ∧
      (modeCur s n ≠ 6 → Answers (.apertureRecover q n) s fun t => OnlyRegsOf q s t [])) ∧
    (∀ (n : Chan) (s : State), budMode s ≠ 2 → modeCur s n = 6 → getB s (canR n 0) 13 = true →
      Answers (.recoveryComplete n) s fun t => modeCur t n = modeReq s n ∧ rd t (canR n 0x28) = 0 ∧ getB t (canR n 4) 5 = true ∧
        getB t (canR n 0) 13 = false ∧ integrating t n = false ∧
        (modeReq s n ≠ 0 → OnlyRegs { s with bud := t.bud } t [canR n 0, canR n 4, canR n 0x28, 0x80018])))

/-- R43, R49, R50, R56: an error that the channel's mode lets it see, a lost arbitration, an overload frame and a protocol exception are each counted once, in their own counter;
an error sets LEC, PHASE and TX; a delay measurement that fails, for want of its edge too, is a bit error 5 of the transmitter in the data phase, is counted in TDC_ERR and leaves TDC_MEAS; in RESTRICTED, MONITOR and LOOPBACK_INT the error counters keep their values; a protocol exception
integrates. The channel is as the windows of its segment that are over have left it. -/
def Obligations.BusEventsAreCounted : Prop :=
  (∀ (n : Chan) (k : CanErr) (ph : CanPhase) (tx : Bool) (cnt : ErrCnt) (s a : State), a = segDue s n → budMode a ≠ 2 → onBus a n = true →
    integrating a n = false → (modeCur a n = 4 → tx = true) → (4 ≤ modeCur a n → tx = true → k ≠ .ack) → unmeasured a n none (tx && ph != .nominal) = none →
    Answers (.errorDetected n k ph tx cnt none) s fun t =>
      rd t (canR n 0x2C) = BitVec.ofNat 32 (lecCode k + 8 * phaseCode ph + 32 * bnat tx) ∧
      rd t (canR n (errOffset k)) = rd a (canR n (errOffset k)) + 1#32 ∧
      (∀ o ∈ [0x50, 0x54, 0x58, 0x5C, 0x60], o ≠ errOffset k → rd t (canR n o) = rd a (canR n o)) ∧
      (2 ≤ modeCur a n → modeCur a n ≤ 4 → rd t (canR n 0x28) = rd a (canR n 0x28))) ∧
  (∀ (n : Chan) (k : CanErr) (ph : CanPhase) (cnt : ErrCnt) (v : Option (BitVec 8)) (s a : State) (b : OnBus), a = segDue s n → budMode a ≠ 2 → onBus a n = true →
    integrating a n = false → (4 ≤ modeCur a n → k ≠ .ack) → (chan a n).bus = some b → getB a (canR n 0x1C) 0 = true →
    (b.frame.fmt = .fd ∧ b.frame.brs = true ∨ b.frame.fmt = .xl) →
    (v = none ∧ modeCur a n ≠ 4 ∧ ph ≠ .nominal
      ∨ ∃ x, v = some x ∧ (getF a (canR n 0x1C) 14 8 < x.toNat ∨ fourBits a n b.frame ≤ x.toNat + sspOffset a n b.frame)) →
    Answers (.errorDetected n k ph true cnt v) s fun t =>
      rd t (canR n 0x2C) = (if b.frame.fmt = .xl then 0x35#32 else 0x2D#32) ∧ rd t (canR n 0x5C) = rd a (canR n 0x5C) + 1#32 ∧
      rd t (canR n 0x74) = rd a (canR n 0x74) + 1#32 ∧ getB t (canR n 4) 7 = true ∧ rd t (canR n 0x20) = rd a (canR n 0x20) ∧ (chan t n).bus = none) ∧
  (∀ (n : Chan) (s a : State), a = segDue s n → budMode a ≠ 2 → onBus a n = true → integrating a n = false → modeCur a n ≠ 4 →
    Answers (.overloadFrame n) s fun t => rd t (canR n 0x68) = rd a (canR n 0x68) + 1#32 ∧ OnlyRegs { a with bud := t.bud } t [canR n 0x68, 0x80018]) ∧
  (∀ (n : Chan) (s a : State), a = segDue s n → budMode a ≠ 2 → (chan a n).bus.isSome = true → modeCur a n ≠ 4 →
    Answers (.arbitrationLost n) s fun t => rd t (canR n 0x64) = rd a (canR n 0x64) + 1#32 ∧ (chan t n).bus = none) ∧
  (∀ (n : Chan) (s a : State), a = segDue s n → modeCur a n = 4 → Answers (.overloadFrame n) s (fun t => t = settle a) ∧
    Answers (.arbitrationLost n) s (fun t => t = settle a) ∧ Answers (.protocolException n) s (fun t => t = settle a)) ∧
  (∀ (n : Chan) (s a : State), a = segDue s n → budMode a ≠ 2 → onBus a n = true → integrating a n = false → modeCur a n ≠ 4 → canExcept a n = true →
    (getB a (canR n 0xC) 2 = true → Answers (.protocolException n) s fun t =>
      rd t (canR n 0x70) = rd a (canR n 0x70) + 1#32 ∧ getB t (canR n 4) 6 = true ∧ integrating t n = true ∧
      OnlyRegs { a with bud := t.bud } t [canR n 0, canR n 4, canR n 0x70, 0x80018]) ∧
    (getB a (canR n 0xC) 2 = false → Answers (.protocolException n) s fun t =>
      rd t (canR n 0x54) = rd a (canR n 0x54) + 1#32 ∧ rd t (canR n 0x2C) = 2#32 ∧ rd t (canR n 0x70) = rd a (canR n 0x70)))

/-- R83, R85, R91: at a choice point the frame chosen goes on the bus; a frame that is valid for the transmitter counts in TX_OK and
leaves the bus, and its object reads NEW = 1; one whose delay measurement has failed is cut and counted instead; outside its window a lock is released and
counted. The channel is as the windows of its segment that are over have left it. -/
def Obligations.ChosenFrameIsSent : Prop :=
  (∀ (n : Chan) (s a : State) (c : Cand), a = segDue s n → budMode a < 2 → choice a n = some c →
    Answers (.txChoicePoint n) s fun t => (chan t n).bus = some { kind := c.kind, frame := c.frame } ∧
      (∀ o e r a, c.kind = .object o e r a → obBit t o 19 = true)) ∧
  (∀ (n : Chan) (s a : State), a = segDue s n → budMode a ≥ 2 ∨ choice a n = none → Answers (.txChoicePoint n) s fun t => t = settle a) ∧
  (∀ (n : Chan) (s a : State) (b : OnBus) (cnt : ErrCnt) (v : Option (BitVec 7)), a = segDue s n → budMode a ≠ 2 → (chan a n).bus = some b →
    (txFails a n b.frame (v.map fun x => x.toNat) = false → Answers (.frameTxSuccess n cnt v) s fun t =>
      (chan t n).bus = none ∧ rd t (canR n 0x48) = rd a (canR n 0x48) + 1#32 ∧
      (∀ o e k, b.kind = .object o e false k → obBit t o 16 = true ∧ obBit t o 19 = false)) ∧
    (txFails a n b.frame (v.map fun x => x.toNat) = true → Answers (.frameTxSuccess n cnt v) s fun t =>
      (chan t n).bus = none ∧ rd t (canR n 0x48) = rd a (canR n 0x48) ∧ rd t (canR n 0x74) = rd a (canR n 0x74) + 1#32)) ∧
  (∀ (n : Chan) (s : State) (l : Lock), budMode s ≠ 2 → (chan s n).lock = some l → lockEnd l ≤ ltNs s →
    Answers (.lockTimeout n) s fun t => (chan t n).lock = none ∧ rd t (motR n 0x1C) = rd s (motR n 0x1C) + 1#32 ∧ getB t 0xA8600 1 = true ∧
      (∀ k, k ≠ n.val → chan t k = chan s k) ∧ MemKept s t) ∧
  (∀ (n : Chan) (s : State) (l : Lock), (chan s n).lock = some l → ltNs s < lockEnd l → Answers (.lockTimeout n) s fun t => t = settle s)

/-- R20, R35, R70, R71, R73, R74: a received frame counts in RX_OK; a base frame whose object is no valid receive object counts in ACC_NORX
alone and changes no object; one that a plain receive object accepts counts in ACC_OK, its bytes are stored and the object reads NEW = 1
with its length; a longer one than the object takes counts in ACC_LEN. One whose entry has been written since it was looked up counts in ACC_OK by the entry that was there, and commits nothing. Overflow bytes
that wait reach memory. -/
def Obligations.ReceivedFrameIsAccepted : Prop :=
  (∀ (n : Chan) (f : CanFrame) (cnt : ErrCnt) (look : Nat) (s a : State), a = segDue s n → onBus a n = true → integrating a n = false → budMode a ≠ 2 → f.rtr = false →
    f.ide = false → changesSince a look = [] → frameLegal a n f = true → modeCur a n ≠ 4 →
    ((moValid (motAt a (n * 2048 + f.ident.toNat % 2048)) = false ∨ moTx (motAt a (n * 2048 + f.ident.toNat % 2048)) = true
        ∨ ruleFor (chanOwner a n) (owned a (moComp (motAt a (n * 2048 + f.ident.toNat % 2048)))) = false) →
      Answers (.canFrameReceived n f false cnt look) s fun t =>
        rd t (canR n 0x40) = rd a (canR n 0x40) + 1#32 ∧ rd t (motR n 4) = rd a (motR n 4) + 1#32 ∧ rd t (motR n 0) = rd a (motR n 0) ∧
        t.obj = a.obj ∧ t.pay = a.pay ∧ MemKept s t) ∧
    (∀ e, e = motAt a (n * 2048 + f.ident.toNat % 2048) → moValid e = true → moTx e = false → ruleFor (chanOwner a n) (owned a (moComp e)) = true →
      nbit (moFmt e) (canFmtNo f.fmt) = true → f.data.length ≤ acceptMax a e → moXl e = false → moSealed e = false → moNotify e = false → moHostrx e = false →
      moRoute e = false → moSigr e = false → Answers (.canFrameReceived n f false cnt look) s fun t =>
        rd t (canR n 0x40) = rd a (canR n 0x40) + 1#32 ∧ rd t (motR n 0) = rd a (motR n 0) + 1#32 ∧
        obBit t (n * 2048 + f.ident.toNat % 2048) 16 = true ∧ obLen t (n * 2048 + f.ident.toNat % 2048) = f.data.length % 4096 ∧
        (∀ i, i < f.data.length → i < 64 → payByte t (dataAt e + i) = f.data.getD i 0) ∧ MemKept s t) ∧
    (∀ e, e = motAt a (n * 2048 + f.ident.toNat % 2048) → moValid e = true → moTx e = false → ruleFor (chanOwner a n) (owned a (moComp e)) = true →
      nbit (moFmt e) (canFmtNo f.fmt) = true → acceptMax a e < f.data.length → Answers (.canFrameReceived n f false cnt look) s fun t =>
        rd t (canR n 0x40) = rd a (canR n 0x40) + 1#32 ∧ rd t (motR n 0xC) = rd a (motR n 0xC) + 1#32 ∧ t.obj = a.obj ∧ t.pay = a.pay)) ∧
  (∀ (n : Chan) (f : CanFrame) (cnt : ErrCnt) (look k : Nat) (s a : State) (o : Nat) (e : BitVec 768), a = segDue s n → onBus a n = true → integrating a n = false →
    budMode a ≠ 2 → f.rtr = false → f.ide = false → frameLegal a n f = true → modeCur a n ≠ 4 → o = n * 2048 + f.ident.toNat % 2048 →
    changesSince a look = [(k, tKey 1 o, e)] → moValid e = true → moTx e = false → ruleFor (chanOwner a n) (owned a (moComp e)) = true →
    nbit (moFmt e) (canFmtNo f.fmt) = true → f.data.length ≤ acceptMax a e → moSealed e = false → moRoute e = false → moSigr e = false →
    Answers (.canFrameReceived n f false cnt look) s fun t =>
      rd t (canR n 0x40) = rd a (canR n 0x40) + 1#32 ∧ rd t (motR n 0) = rd a (motR n 0) + 1#32 ∧ t.obj = a.obj ∧ t.pay = a.pay ∧ t.tbl = s.tbl ∧ MemKept s t) ∧
  (∀ (n : Chan) (s : State) (a : Nat) (bs : List Byte), (chan s n).xlWrite = some (a, bs) →
    Answers (.xlOverflowWriteDone n) s fun t => (chan t n).xlWrite = none ∧
      (∀ x, memByte t x = if a ≤ x ∧ x < a + bs.length then bs.getD (x - a) 0 else memByte s x) ∧ RegsKept s t [])

/-- R42, R64, R95, R126, R161, R192, R212, R233, R263, R287, R316, R349, R350, R369, R391, R410, R445, R466: the clear commands: every
counter they name reads zero afterwards, the measured delay's extremes are reset, and nothing else changes. A write of 1 to a block's
CNT_CLR zeroes every counter of the block in one step and changes nothing else; a peak restarts from the present use. -/
def Obligations.EveryCounterClears : Prop :=
  ((∀ (q : Requester) (n : Chan) (s : State), budMode s ≠ 2 → Answers (.canCntClr q n) s fun t =>
      (∀ o ∈ canCounters n, rd t o = 0) ∧ OnlyRegsOf q s t (canCounters n) ∧ armed t q = false) ∧
    (∀ (q : Requester) (n : Chan) (s : State), budMode s ≠ 2 → Answers (.tdcMeasClr q n) s fun t =>
      getF t (canR n 0x20) 6 0 = getF s (canR n 0x20) 6 0 ∧ getF t (canR n 0x20) 14 8 = 127 ∧ getF t (canR n 0x20) 22 16 = 0 ∧
        getB t (canR n 0x20) 31 = false ∧ OnlyRegsOf q s t [canR n 0x20]) ∧
    (∀ (q : Requester) (ch : BitVec 6) (s : State), budMode s ≠ 2 → Answers (.motClrOne q ch) s fun t =>
      (ch.toNat < 48 → (∀ o ∈ motCounters ch.toNat, rd t o = 0) ∧ OnlyRegsOf q s t (motCounters ch.toNat)) ∧
      (48 ≤ ch.toNat → OnlyRegsOf q s t [])) ∧
    (∀ (q : Requester) (s : State), budMode s ≠ 2 → Answers (.motClrAll q) s fun t =>
      (∀ n, n < 48 → ∀ o ∈ motCounters n, rd t o = 0) ∧ rd t 0xA8614 = 0 ∧ rd t 0xA8618 = 0 ∧
      OnlyRegsOf q s t ([0xA8614, 0xA8618] ++ (List.range 48).flatMap motCounters))) ∧
  ((∀ (q : Requester) (p : Port) (s : State) (c : Instr) (l : List Nat),
      (c, l) ∈ [(Instr.portCntClr q p, ethCounters p.val), (.swFwdCntClr q, fwdCounters), (.timeCntClr q, timeCounters), (.secCntClr q, secCounters),
        (.ringCntClr q, ringCounters), (.jnlCntClr q, jnlCounters), (.devCntClr q, [0x2C, 0x30]), (.clkCntClr q, wordsFrom 0x10040 5 ++ [0x1010C, 0x10110]),
        (.lanCntClr q, wordsFrom 0x70060 4)] →
      Answers c s fun t => (∀ o ∈ l, rd t o = 0) ∧ OnlyRegsOf q s t l ∧ armed t q = false) ∧
    (∀ (q : Requester) (s : State) (c : Instr) (l : List Nat), budMode s ≠ 2 → (c, l) ∈ [(Instr.sigMirCntClr q, mirCounters), (.sigImgCntClr q, imgCounters)] →
      Answers c s fun t => (∀ o ∈ l, rd t o = 0) ∧ OnlyRegsOf q s t l ∧ armed t q = false) ∧
    (∀ (q : Requester) (m : Mbx) (s : State),
      (pageHidden q m.val = false → Answers (.mbxCntClr q m) s fun t =>
        (∀ o ∈ wordsFrom (mbxR m 0x10) 4, rd t o = 0) ∧ OnlyRegsOf q s t (wordsFrom (mbxR m 0x10) 4)) ∧
      (pageHidden q m.val = true → Answers (.mbxCntClr q m) s fun t => rd t 0x51014 = rd s 0x51014 + 1 ∧ ∀ o ∈ wordsFrom (mbxR m 0x10) 4, rd t o = rd s o)) ∧
    (∀ (q : Requester) (s : State), Answers (.budCntClr q) s fun t =>
      (∀ o ∈ wordsFrom 0x80040 7, rd t o = 0) ∧ getF t 0x80014 31 16 = 0 ∧ getF t 0x80014 15 0 = getF s 0x80014 15 0 ∧
        OnlyRegsOf q s t (0x80014 :: wordsFrom 0x80040 7)) ∧
    (∀ (q : Requester) (s : State), budMode s ≠ 2 → Answers (.seCntClr q) s fun t =>
      (∀ o ∈ seCounters, rd t o = 0) ∧ (∀ p, p < 16 → getF t (poolUseR p) 30 16 = poolUse s p ∧ poolUse t p = poolUse s p)) ∧
    (∀ (q : Requester) (s : State), Answers (.swCntClr q) s fun t =>
      (∀ o ∈ swCounters, rd t o = 0) ∧ getF t 0x180028 17 0 = cellsUse s ∧ (∀ p ∈ swPortList, getF t (swR p 0x7C) 17 0 = portUse s p)))

/-- R88, R92, R160, R191, R260, R317: CLEAR by C0 of an entry in range: OK; VALID is 0, and in the tables whose CLEAR leaves a zero entry
all of it; no other entry changes. Entry 0 of the TPT and a meter that a valid rule names are not cleared; a descriptor or transform is, where no execution
waits that began with it (R158). -/
def Obligations.TableClears : Prop :=
  ∀ (s : State) (c : Instr) (tab i : Nat),
    (c, tab) ∈ [(Instr.motClear 0, 1), (.tstClear 0, 4), (.sdpClear 0, 5), (.tptClear 0, 6), (.rltClear 0, 7), (.dstClear 0, 8), (.pubClear 0, 9),
      (.subClear 0, 0xA), (.ettClear 0, 0xB), (.batClear 0, 0xC), (.tttClear 0, 0xD), (.eftClear 0, 0x10), (.eftClear 0, 0x11), (.vlanClear 0, 0x12),
      (.vlanClear 0, 0x13), (.irtClear 0, 0x14), (.irtClear 0, 0x15), (.meterClear 0, 0x16), (.sltClear 0, 0x17), (.macsecSaClear 0, 0x18)] →
    PageCmd s 0 tab 3 i → i < tCount tab → (tab = 6 → i ≠ 0) → (tab = 0x16 → meterNamed s i = false) → (tab = 5 ∨ tab = 6 → s.parked = []) →
    Answers c s fun t => PageDone t 0 0 i ∧ OtherEntries s t tab i ∧ tGet t tab i =
      (if tab ∈ [4, 5, 6, 8, 9, 0xA, 0xB, 0xC, 0xD, 0x10, 0x11] then 0
        else if tab = 0x14 ∨ tab = 0x15 then ePut (tGet s tab i) 20 0 0 0 else ePut (tGet s tab i) 0 0 0 0)

/-- R92, R93, R256, R257: a WRITE by index completes in one of two ways: with OK, and the entry stored; or with another status, and every
entry as before. C0 stores an entry that is not in use with OK. No other entry changes; a descriptor or transform is written where no execution waits that
began with it (R158). -/
def Obligations.TableWrites : Prop :=
  ∀ (s : State) (pg : Page) (c : Instr) (tab i : Nat),
    (c, tab) ∈ [(Instr.motWrite pg, 1), (.tstWrite pg, 4), (.sdpWrite pg, 5), (.tptWrite pg, 6), (.rltWrite pg, 7), (.dstWrite pg, 8), (.pubWrite pg, 9),
      (.subWrite pg, 0xA), (.ettWrite pg, 0xB), (.batWrite pg, 0xC), (.tttWrite pg, 0xD), (.vlanWrite pg, 0x12), (.vlanWrite pg, 0x13),
      (.irtWrite pg, 0x14), (.irtWrite pg, 0x15), (.meterWrite pg, 0x16), (.sltWrite pg, 0x17), (.macsecSaWrite pg, 0x18)] →
    PageCmd s pg.val tab 2 i → i < tCount tab → (tab = 5 ∨ tab = 6 → s.parked = []) →
    (Answers c s fun t => OtherEntries s t tab i ∧
      ((PageDone t pg.val 0 i ∧ tGet t tab i = storedEntry tab (pageData s pg.val)) ∨
        (∃ st, st ≠ 0 ∧ PageDone t pg.val st 0 ∧ tGet t tab i = tGet s tab i))) ∧
    (pg.val = 0 → (tab = 6 → i ≠ 0) → offEntry tab (storedEntry tab (pageData s 0)) = true →
      Answers c s fun t => PageDone t 0 0 i ∧ tGet t tab i = storedEntry tab (pageData s 0))

/-- R79, R92, R93, R242, R256, R257, R260, R527: READ by C0 of an entry in range returns it, and of a state record the record and its payload; of a
position whose occupant has been copied elsewhere and still stands there, MOVED with the new index;
LOOKUP returns the entry of the key or NOT_FOUND; an operation that the table does not list ends with RANGE or INVALID. None of them
changes an entry. -/
def Obligations.TableReads : Prop :=
  (∀ (s : State) (tab i : Nat), tab ∈ readTabs → PageCmd s 0 tab 1 i → i < tCount tab →
    Answers (.tblRead 0) s fun t => PageDone t 0 0 i ∧ t.tbl = s.tbl ∧ t.obj = s.obj ∧
      PageEntry t 0 (if tab = 2 then stateEntry s i else eBytes (tBytes tab) (if tab = 6 then tptAt s i else tGet s tab i))) ∧
  (∀ (s : State) (tab i j : Nat) (r : Reloc) (ms : List (Nat × Nat)), tab = 3 ∨ tab = 0x10 ∨ tab = 0x11 → PageCmd s 0 tab 1 i → i < tCount tab → j < 2 ^ 20 → r.code = tab → r.page ≠ 0 →
    r.copied = true → r.moves = (i, j) :: ms →
    Answers (.tblRead 0) { s with relocs := [r] } fun t => PageDone t 0 1 j ∧ t.tbl = s.tbl ∧ t.relocs = [r] ∧ PageEntry t 0 (eBytes (tBytes tab) (tGet s tab i))) ∧
  (∀ (s : State) (pg : Page) (tab op i : Nat), op ∉ tblOps tab → PageCmd s pg.val tab op i →
    Answers (.tblUnlistedOp pg) s fun t => t.tbl = s.tbl ∧ PageDone t pg.val (if tblKnown tab ∧ tCount tab ≤ i then 7 else 6) 0) ∧
  (∀ (s : State) (i : Nat), PageCmd s 0 3 6 i →
    (∀ j, ximAt s (pageData s 0) = some j → j < 2 ^ 20 → Answers (.ximLookup 0) s fun t => PageDone t 0 0 j ∧ t.tbl = s.tbl ∧ PageEntry t 0 (eBytes 8 (tGet s 3 j))) ∧
    (ximAt s (pageData s 0) = none → Answers (.ximLookup 0) s fun t => PageDone t 0 2 0 ∧ t.tbl = s.tbl)) ∧
  (∀ (s : State) (pl i : Nat), pl < 2 → PageCmd s 0 (0x10 + pl) 6 i →
    (∀ j, hashFind s (0x10 + pl) eftKb (eftKb (eOf ((pageData s 0).take 16))) = some j → j < 2 ^ 20 →
      Answers (.eftLookup 0) s fun t => PageDone t 0 0 j ∧ t.tbl = s.tbl ∧ PageEntry t 0 (eBytes 16 (tGet s (0x10 + pl) j))) ∧
    (hashFind s (0x10 + pl) eftKb (eftKb (eOf ((pageData s 0).take 16))) = none → Answers (.eftLookup 0) s fun t => PageDone t 0 2 0 ∧ t.tbl = s.tbl))

/-- R75, R78, R80, R242, R246, R260: the keyed tables: INSERT by C0 of a new key where a way of its buckets is free stores the entry with
VALID = 1; where none is free but a path of moves is, the command stays BUSY with the relocation in hand; of a key that is there it ends with EXISTS (in the
EFT over a static entry; a learned one is replaced in place); DELETE leaves zero; a key that is not there is NOT_FOUND; FLUSH removes what it names. -/
def Obligations.KeyedTables : Prop :=
  (∀ (s : State) (i : Nat) (e : BitVec 768), PageCmd s 0 3 4 i → e = ePut (entryIn 3 (pageData s 0)) 0 0 0 1 → ximBad s e = false → frAny s = false →
    (∀ j, hashFind s 3 ximKb (ximKb e) = some j → Answers (.ximInsert 0) s fun t => PageDone t 0 3 0 ∧ t.tbl = s.tbl) ∧
    (∀ j, hashFind s 3 ximKb (ximKb e) = none → hashFree s 3 (ximKb e) = some j → j < 2 ^ 20 →
      Answers (.ximInsert 0) s fun t => PageDone t 0 0 j ∧ tGet t 3 j = e ∧ OtherEntries s t 3 j) ∧
    (∀ path, hashFind s 3 ximKb (ximKb e) = none → hashFree s 3 (ximKb e) = none → hashPath s 3 ximKb (ximKb e) = some path →
      Answers (.ximInsert 0) s fun t => getB t (pageR 0 8) 0 = true ∧ t.tbl = s.tbl ∧
        t.relocs = [{ code := 3, page := 0, moves := pathMoves path, copied := false, slot := path.headD 0, entry := e }])) ∧
  (∀ (s : State) (i : Nat), PageCmd s 0 3 5 i →
    (∀ j, ximAt s (pageData s 0) = some j → j < 2 ^ 20 → Answers (.ximDelete 0) s fun t => PageDone t 0 0 j ∧ tGet t 3 j = 0 ∧ OtherEntries s t 3 j) ∧
    (ximAt s (pageData s 0) = none → Answers (.ximDelete 0) s fun t => PageDone t 0 2 0 ∧ t.tbl = s.tbl)) ∧
  (∀ (s : State) (pl i : Nat) (e : BitVec 768), pl < 2 → PageCmd s 0 (0x10 + pl) 4 i → e = ePut (eftGiven s (pageData s 0)) 0 0 0 1 → eftBad s pl e = false →
    (∀ j, hashFind s (0x10 + pl) eftKb (eftKb e) = some j → efStatic (tGet s (0x10 + pl) j) = true →
      Answers (.eftInsert 0) s fun t => PageDone t 0 3 0 ∧ t.tbl = s.tbl) ∧
    (∀ j, hashFind s (0x10 + pl) eftKb (eftKb e) = some j → efStatic (tGet s (0x10 + pl) j) = false → j < 2 ^ 20 →
      Answers (.eftInsert 0) s fun t => PageDone t 0 0 j ∧ tGet t (0x10 + pl) j = e ∧ OtherEntries s t (0x10 + pl) j) ∧
    (∀ j, hashFind s (0x10 + pl) eftKb (eftKb e) = none → hashFree s (0x10 + pl) (eftKb e) = some j → j < 2 ^ 20 →
      Answers (.eftInsert 0) s fun t => PageDone t 0 0 j ∧ tGet t (0x10 + pl) j = e ∧ OtherEntries s t (0x10 + pl) j) ∧
    (∀ path, hashFind s (0x10 + pl) eftKb (eftKb e) = none → hashFree s (0x10 + pl) (eftKb e) = none → hashPath s (0x10 + pl) eftKb (eftKb e) = some path →
      Answers (.eftInsert 0) s fun t => getB t (pageR 0 8) 0 = true ∧ t.tbl = s.tbl ∧
        t.relocs = [{ code := 0x10 + pl, page := 0, moves := pathMoves path, copied := false, slot := path.headD 0, entry := e }])) ∧
  (∀ (s : State) (pl i : Nat) (k : List Byte), pl < 2 → PageCmd s 0 (0x10 + pl) 5 i → k = eftKb (eOf ((pageData s 0).take 16)) →
    (∀ j, hashFind s (0x10 + pl) eftKb k = some j → j < 2 ^ 20 →
      Answers (.eftDelete 0) s fun t => PageDone t 0 0 j ∧ tGet t (0x10 + pl) j = 0 ∧ OtherEntries s t (0x10 + pl) j) ∧
    (hashFind s (0x10 + pl) eftKb k = none → Answers (.eftDelete 0) s fun t => PageDone t 0 2 0 ∧ t.tbl = s.tbl)) ∧
  (∀ (s : State) (pl i : Nat) (e : BitVec 768), pl < 2 → PageCmd s 0 (0x10 + pl) 2 i → e = eftGiven s (pageData s 0) →
    (eValid e && eftBad s pl e) = false →
    (∀ j, hashFind s (0x10 + pl) eftKb (eftKb e) = some j → j < 2 ^ 20 →
      Answers (.eftWrite 0) s fun t => PageDone t 0 0 j ∧ tGet t (0x10 + pl) j = e ∧ OtherEntries s t (0x10 + pl) j) ∧
    (hashFind s (0x10 + pl) eftKb (eftKb e) = none → Answers (.eftWrite 0) s fun t => PageDone t 0 2 0 ∧ t.tbl = s.tbl)) ∧
  (∀ (s : State) (pl i w : Nat) (l : List Nat), pl < 2 → PageCmd s 0 (0x10 + pl) 0xA i → w = leAt (pageData s 0) 0 4 →
    l = learnedWhere s pl (fun e => (!nbit w 5 || efPort e == nbits w 4 0) && (!nbit w 18 || efFid e == nbits w 17 6)) → l.length < 2 ^ 20 →
    Answers (.eftFlush 0) s fun t => PageDone t 0 0 l.length ∧ (∀ j ∈ l, tGet t (0x10 + pl) j = 0) ∧
      (∀ j, j < 2 ^ 20 → j ∉ l → tGet t (0x10 + pl) j = tGet s (0x10 + pl) j))

/-- R82, R83, R92, R145, R157, R171, R186: SEND and CONSUME by C0: a state record's flags are cleared as it is returned; a sent object is
pending with the LEN given; a set, a derivation entry, a publication and a telegram fire as they do when their instant comes, with an
equal effect on the state. A firing that meets one that waits merges into it; a change report that waits goes on waiting behind a firing of another cause. -/
def Obligations.SendsAndFirings : Prop :=
  (∀ (s : State) (i : Nat), PageCmd s 0 2 7 i → i < 131072 → Answers (.motStateConsume 0) s fun t =>
    PageDone t 0 0 i ∧ PageEntry t 0 (stateEntry s i) ∧ (∀ b, b ∈ [16, 17, 20, 21, 22] → obBit t i b = false) ∧
    (∀ b, b ∈ [18, 19] → obBit t i b = obBit s i b) ∧ (∀ k, k ≠ i → objAt t k = objAt s k)) ∧
  (∀ (s : State) (i len : Nat) (x : Nat × Bool × Nat), PageCmd s 0 2 8 i → i < 131072 → len = leAt (pageData s 0) 0 4 % 4096 → moValid (motAt s i) = true →
    moTx (motAt s i) = true → sendLenOk (motAt s i) 64 len = true → moSealed (motAt s i) = false → objLive s i = some x →
    obBit s i 18 = false → obBit s i 19 = false →
    Answers (.motStateSend 0) s fun t => PageDone t 0 0 i ∧ obBit t i 18 = true ∧ obLen t i = (if moFmt (motAt s i) = 1 then fdLen len else len)) ∧
  (∀ (s : State) (i : Fin 768) (c : Instr),
    (c = .tstSend 0 ∧ PageCmd s 0 4 8 i.val ∧ tsTrig (tGet s 4 i) ≠ 0
      ∨ c = .tstFirePeriodic i ∧ budMode s ≠ 2 ∧ tsTrig (tGet s 4 i) = 1 ∧ periodic s (tsPeriod (tGet s 4 i)) (tsOffset (tGet s 4 i)) = true
      ∨ c = .tstChangeFire i ∧ budMode s ≠ 2 ∧ tsTrig (tGet s 4 i) ≠ 0 ∧ (tstAt s i).change = true ∧ gapOver s i = true) →
    Answers c s fun t => tstAt t i = { last := some (ltNs s), change := (tstAt s i).change && c != .tstChangeFire i } ∧
      (modeCur s (i / 16) ≠ 0 → ∀ o ∈ setObjs s (i / 16) (i % 16), moSigr (motAt s o) = false → obBit s o 19 = false → obBit t o 18 = true)) ∧
  (∀ (s : State) (i : Fin 256) (c : Instr), getB s 0x1A1008 0 = true → dsTrig (tGet s 8 i) ≠ 0 →
    (c = .dstSend 0 ∧ PageCmd s 0 8 8 i.val
      ∨ c = .dstFirePeriodic i ∧ budMode s ≠ 2 ∧ dsTrig (tGet s 8 i) = 1 ∧ periodic s (dsPeriod (tGet s 8 i)) (dsOffset (tGet s 8 i)) = true) →
    ((∀ r ∈ s.runs, r.dst = i.val → r.started = true) → Answers c s fun t =>
      t.runs = s.runs ++ [{ dst := i.val, started := false, descs := (List.range (dsCount (tGet s 8 i))).map (fun k => dsFirst (tGet s 8 i) + k), reads := none }]) ∧
    ((∃ r ∈ s.runs, r.dst = i.val ∧ r.started = false) → Answers c s fun t => t.runs = s.runs ∧ rd t 0x1A1128 = rd s 0x1A1128 + 1)) ∧
  (∀ (s : State) (i : Fin 1024) (c : Instr), pubOn s i = true → (pubRt s i).busy = none →
    (c = .pubSend 0 ∧ PageCmd s 0 9 8 i.val ∧ puTrig (tGet s 9 i) ≠ 0
      ∨ c = .pubFirePeriodic i ∧ budMode s ≠ 2 ∧ puTrig (tGet s 9 i) = 1 ∧ periodic s (puPeriod (tGet s 9 i)) (puOffset (tGet s 9 i)) = true) →
    Answers c s fun t => pubRt t i = { pubRt s i with busy := some true } ∧ ∀ k, k ≠ i.val → pubRt t k = pubRt s k) ∧
  (∀ (s : State) (i : Fin 2048) (c : Instr), ttValid (tGet s 0xD i) = true → ttSends (tGet s 0xD i) = true → trdpOn s = true →
    (∀ x ∈ s.comps, x.target = .telegram i.val → x.started = true) →
    (c = .tttSend 0 ∧ PageCmd s 0 0xD 8 i.val ∧ ttTrig (tGet s 0xD i) ≠ 0
      ∨ c = .tttFirePeriodic i ∧ budMode s ≠ 2 ∧ ttTrig (tGet s 0xD i) = 1 ∧ periodic s (ttPeriod (tGet s 0xD i)) (ttOffset (tGet s 0xD i)) = true) →
    Answers c s fun t => t.comps = s.comps ++ [{ target := .telegram i.val, started := false, buf := [], hiBit := 0, descs := [] }])

/-- A step takes the command at the front of the queue and carries it out on the state with the queue's rest. -/
def Obligations.StepTakesFront : Prop :=
  ∀ (c : Instr) (rest : List Instr) (s : State), s.pending = c :: rest → step s = exec c { s with pending := rest }

/-- R1, R8, R54, R126, R266, R333, R379, R458: what reset leaves. -/
def Obligations.ResetHolds : Prop :=
  rd State.reset 0 = 0x6448000B ∧ State.reset.pending = [] ∧
  (∀ n, n < 48 → modeCur State.reset n = 0 ∧ modeReq State.reset n = 0 ∧ rd State.reset (canR n 0x28) = 0 ∧ getF State.reset (canR n 0x20) 14 8 = 127) ∧
  (∀ q, armed State.reset q = false) ∧ (∀ tab i, tGet State.reset tab i = 0) ∧ (∀ g, slotAt State.reset g = Slot.init) ∧
  (∀ o, objAt State.reset o = ObjRt.init) ∧ ltNs State.reset = 0 ∧ State.reset.time.inc = 2 * 2 ^ 32 ∧ (∀ j, (jnlAt State.reset j).items = []) ∧
  budMode State.reset = 0

/-- The controller of the interrupts agrees with the levels at reset. -/
def Obligations.ResetSettled : Prop := IrqSettled State.reset

/-- R341, R344, R346: a step always answers a next state, whatever the command and the state; and after it the interrupt controller agrees
with the levels. -/
def Obligations.StepKeepsSettled : Prop := ∀ s, ∃ t, step s = .next t ∧ IrqSettled t

/-- R320, R348, R376, R377, R424: what the PCI Express function does with accesses that no register takes: a discarded write counts, is
latched and reported, and disarms the host's key, and one that a register takes is its write; an aborted read has no effect but AER's log; a configuration request is retried until
DEVICE is applied and then answered; a read of _LO latches _HI for its requester. -/
def Obligations.HostAccesses : Prop :=
  (∀ (off : BitVec 24) (data : Word) (be : BitVec 4) (words : Nat) (s : State), ¬ (words = 1 ∧ be = 15 ∧ locExists s .host off.toNat = true) →
    Answers (.bar0WriteDiscarded off data be words) s fun t => rd t 0x51014 = rd s 0x51014 + 1 ∧ rd t 0x51010 = BitVec.ofNat 32 off.toNat ∧ getB t 0x51000 0 = true ∧
    t.pcie = { s.pcie with aerUR := true, aerAdv := true, header := requestHeader s true off.toNat be words } ∧
    armed t .host = false ∧ (∀ q, q ≠ .host → armed t q = armed s q) ∧
    OnlyNoted { s with pcie := t.pcie, armed := t.armed, free := s.free + 1 } t [0x51000, 0x51010, 0x51014]) ∧
  (∀ (off : BitVec 24) (data : Word) (s : State), locExists s .host off.toNat = true →
    Answers (.bar0WriteDiscarded off data 15 1) s fun t => exec (.registerWrite .host off data) s = .next t) ∧
  (∀ (off : BitVec 24) (be : BitVec 4) (words : Nat) (s : State), Answers (.bar0ReadAbort off be words) s fun t =>
    Sends s t (.abort off.toNat) ∧
    t.pcie = { s.pcie with aerCA := true, header := requestHeader s false off.toNat be words } ∧
    OnlyRegs { s with pcie := t.pcie, free := s.free + 1 } t []) ∧
  (∀ (wrt : Bool) (off : BitVec 12) (data : Word) (s : State),
    (s.boot.loaded = false → Answers (.pcieConfigRequest wrt off data) s fun t => Sends s t (.config none) ∧ OnlyRegs s t []) ∧
    (s.boot.loaded = true → wrt = false → Answers (.pcieConfigRequest wrt off data) s fun t =>
      Sends s t (.config (some (configWord s off.toNat))) ∧ OnlyRegs s t []) ∧
    (s.boot.loaded = true → wrt = true → ¬ (64 ≤ off.toNat ∧ off.toNat < 256 ∧ data.getLsbD 15 = true ∧ off.toNat / 4 = capExp + 2) →
      Answers (.pcieConfigRequest wrt off data) s fun t => Sends s t (.config (some 0)) ∧
      (off.toNat / 4 < 16 → confStored t (off.toNat / 4) = data &&& BitVec.ofNat 32 (confMask s (off.toNat / 4))) ∧
      (∀ w, w ≠ off.toNat / 4 → confStored t w = confStored s w) ∧
      (64 ≤ off.toNat → off.toNat < 256 → off.toNat / 4 = capMsix → t.pcie.msixEn = data.getLsbD 31 ∧ t.pcie.msixMask = data.getLsbD 30) ∧
      OnlyRegs { s with pcie := t.pcie } t []) ∧
    (s.boot.loaded = true → wrt = true → 64 ≤ off.toNat → off.toNat < 256 → data.getLsbD 15 = true → off.toNat / 4 = capExp + 2 →
      Answers (.pcieConfigRequest wrt off data) s fun t => Sends s t (.config (some 0)) ∧ FunctionReset s t)) ∧
  (∀ (q : Requester) (off : BitVec 24) (s : State), isLo off.toNat = true → locExists s q off.toNat = true →
    Answers (.counterLoRead q off) s fun t => Sends s t (.completion q 0 (leBytes 4 (rd s (regKey off.toNat)).toNat)) ∧
      hiWord t q (off.toNat + 4) = rd s (regKey (off.toNat + 4)) ∧ (∀ q' o, (q', o) ≠ (q, off.toNat + 4) → o < 2 ^ 24 → hiWord t q' o = hiWord s q' o) ∧
      OnlyRegs { s with hiLatch := t.hiLatch } t [])

/-- R332, R366, R367, R414, R506, R507: a function level reset disables every ring, once the descriptor in hand is finished, releases the locks of transmit
rings, ends the claims of H0 to H7, resets MSI-X, empties and detaches the mailboxes H0 to H7 and disarms the host's key; PERST does the same, holds the link
in reset and resets configuration space, and in SLEEP is ignored but for its level; its release lets the link train where the rails are up; a loss of the link
takes it down and detaches every context, in STANDBY at the return. -/
def Obligations.FunctionResets : Prop :=
  (∀ (s : State), Answers .functionLevelReset s fun t => FunctionReset s t ∧ t.pcie = { s.pcie with msixEn := false, msixMask := false }) ∧
  (∀ (s : State), inSleep s = false → Answers .pciePerst s fun t => FunctionReset s t ∧
    t.pcie = { s.pcie with cfg := [], msixEn := false, msixMask := false, link := false, perst := true, aerUR := false, aerAdv := false, aerCA := false, header := [] }) ∧
  (∀ (s : State), inSleep s = true → Answers .pciePerst s fun t => t.pcie = { s.pcie with perst := true } ∧ OnlyRegs { s with pcie := t.pcie } t []) ∧
  (∀ (s : State), Answers .pciePerstRelease s fun t =>
    t.pcie = { s.pcie with perst := false, link := ready s 1 && decide (powerState s < 2) } ∧ OnlyRegs { s with pcie := t.pcie } t []) ∧
  (∀ (s : State), powerState s ≥ 2 → Answers .pcieLinkDown s fun t => t.pcie = { s.pcie with link := false } ∧ OnlyRegs { s with pcie := t.pcie } t []) ∧
  (∀ (s : State), powerState s < 2 → Answers .pcieLinkDown s fun t =>
    t.pcie = { s.pcie with link := false } ∧ AllDetached s t ∧ t.tbl = s.tbl ∧ t.slots = s.slots ∧ MemKept s t)

/-- R6, R376, R379, R384: a write of one of these status and enable words through REGISTER_WRITE: a W1C bit written 1 is cleared and
written 0 stays; an RW bit takes the value; nothing else changes but the key, which is disarmed. A host write of a location that does not
exist is discarded and counted. -/
def Obligations.RegisterWrites : Prop :=
  (∀ (q : Requester) (off : BitVec 24) (data : Word) (s : State) (m : Masks), off.toNat ∈ [4, 8, 0x10000, 0x10004, 0x41000, 0x41004, 0x51000, 0x51004, 0x60000,
      0x60004, 0x70000, 0x70004, 0x80000, 0x80004, 0x90000, 0x90004, 0x180004, 0x180008, 0x182000, 0x182004] → regMasks off.toNat = some m →
    Answers (.registerWrite q off data) s fun t =>
      (∀ b, b < 32 → getB t off.toNat b = (if m.w1c.testBit b && data.getLsbD b then false else if m.rw.testBit b then data.getLsbD b else getB s off.toNat b)) ∧
      armed t q = false ∧ (∀ q', q' ≠ q → armed t q' = armed s q') ∧ OnlyRegs { s with armed := t.armed } t [off.toNat]) ∧
  (∀ (off : BitVec 24) (data : Word) (s : State), off.toNat ≠ 0xC → locExists s .host off.toNat = false →
    Answers (.registerWrite .host off data) s fun t => rd t 0x51014 = rd s 0x51014 + 1 ∧ rd t 0x51010 = BitVec.ofNat 32 off.toNat ∧ getB t 0x51000 0 = true ∧
      armed t .host = false)

/-- R379, R380, R385 to R390, R463: the unlock key; COMMIT, which takes the staged references as they stand, and is rejected without the key;
the commit's completion, when they act and DEV_CFG_CRC covers them; the running CRC, which follows the covered fields, with CFG_MISMATCH
reported as it arises, in a paired block a failure that withdraws the unit; the scrubber, which restores a lost copy. -/
def Obligations.LocksAndCommits : Prop :=
  (∀ (q : Requester) (data : Word) (s : State), Answers (.devUnlockWrite q data) s fun t =>
    (armed t q = true ↔ fld data 15 0 = 0x6A5C) ∧ (∀ q', q' ≠ q → armed t q' = armed s q') ∧ OnlyRegs { s with armed := t.armed } t []) ∧
  (∀ (q : Requester) (s : State),
    (keyOk s q = true → getB s 0x20 1 = false → Answers (.devCommitWrite q) s fun t =>
      t.dev.commit = some (cfgBlocks.map fun b => (b.2, rd s b.2)) ∧ getB t 0x20 1 = true ∧ armed t q = false ∧
        OnlyRegs { s with dev := t.dev, armed := t.armed } t [0x20]) ∧
    (keyOk s q = true → getB s 0x20 1 = true → Answers (.devCommitWrite q) s fun t => armed t q = false ∧ OnlyRegs { s with armed := t.armed } t []) ∧
    (keyOk s q = false → Answers (.devCommitWrite q) s fun t =>
      rd t 0x2C = rd s 0x2C + 1 ∧ getB t 4 0 = true ∧ armed t q = false ∧ OnlyRegs { s with armed := t.armed } t [4, 0x2C])) ∧
  (∀ (s : State) (refs : List (Nat × Word)), s.dev.commit = some refs → (refs.map Prod.fst).Nodup → Answers .commitComplete s fun t =>
    (∀ r ∈ refs, refActive t r.1 = r.2) ∧ (∀ o, o ∉ refs.map Prod.fst → refActive t o = refActive s o) ∧ rd t 0x24 = crcWords (refs.map Prod.snd) ∧
    getB t 0x20 1 = false ∧ getB t 4 3 = true ∧ t.dev.commit = none ∧
    (budMode s = 0 ∨ budMode s = 3 → OnlyNoted { s with refActive := t.refActive, dev := t.dev } t [4, 0x20, 0x24, 0x34])) ∧
  (∀ (b : Fin 87) (s : State), Answers (.cfgCrcUpdate b) s fun t =>
    rd t (cfgBlock b).1 = crcWords (cfgWords s (cfgBlock b).1) ∧
    (ready s 11 = true → rd s (cfgBlock b).1 = refActive s (cfgBlock b).2 → crcWords (cfgWords s (cfgBlock b).1) ≠ refActive s (cfgBlock b).2 →
      getB t 4 1 = true ∧ getB t 0x34 0 = true ∧
        (budMode s = 1 ∨ budMode s = 2 → pairedCrc (cfgBlock b) = true → pairedMismatch s = false → budMode t = 3 ∧ t.bud.failed = true)) ∧
    (budMode s = 0 ∨ budMode s = 3 → OnlyNoted s t [4, 0x34, (cfgBlock b).1])) ∧
  (∀ (u : Upset) (s : State), (∀ f i, (triAt s f i).c0 = (triAt s f i).c1 ∧ (triAt s f i).c1 = (triAt s f i).c2) →
    (triAt s u.field.val u.index).vote ≠ u.value → u.index < 2 ^ 24 → Answers (.voteScrub [u]) s fun t =>
      (∀ f i, triAt t f i = triAt s f i) ∧ rd t 0x30 = rd s 0x30 + 1 ∧ getB t 4 2 = true ∧ getB t 0x34 1 = true)

/-- R83, R91, R162, R180, R210, R327 to R329, R456: a transmit descriptor at POS is carried out, returned with its status, and POS advances:
UNLOCK releases the ring's lock, or is INVALID without one; CAN makes a request; SIGNAL updates a slot of the own vehicle, and is SENT for
another; a directed FRAME that the hamper has room for is queued on its port, and one whose port is DOWN or of a synchronised pair is dropped and counted. -/
def Obligations.TransmitDescriptors : Prop :=
  (∀ (r : Fin 16) (s : State) (n : Nat), txReady s r 4 = true → NextIsHosts s r → n = fld (descWord s r 2) 5 0 → n ≤ 47 →
    (∀ l, (chan s n).lock = some l → l.owner = 0x40 + r.val → Answers (.txDescUnlock r) s fun t =>
      TxReturned s t r 0 ∧ chan t n = { chan s n with lock := none } ∧ ∀ k, k ≠ n → chan t k = chan s k) ∧
    ((chan s n).lock = none → Answers (.txDescUnlock r) s fun t => TxReturned s t r 1 ∧ ∀ k, chan t k = chan s k)) ∧
  (∀ (r : Fin 16) (s : State) (o len : Nat) (x : Nat × Bool × Nat), txReady s r 2 = true → NextIsHosts s r → o = fld (descWord s r 2) 16 0 →
    len = fld (descWord s r 3) 11 0 → (descWord s r 3).getLsbD 12 = false → moValid (motAt s o) = true → moTx (motAt s o) = true →
    sendLenOk (motAt s o) 2048 len = true → moXl (motAt s o) = false → moSealed (motAt s o) = false → objLive s o = some x →
    inWindow s (descWord s r 1).toNat len = true → mayAct (ringOwner s r) (owned s (moComp (motAt s o))) = true → obBit s o 18 = false → obBit s o 19 = false →
    Answers (.txDescCan r) s fun t => TxReturned s t r 0 ∧ obBit t o 18 = true ∧ obLen t o = (if moFmt (motAt s o) = 1 then fdLen len else len)) ∧
  (∀ (r : Fin 16) (s : State) (g : Nat), txReady s r 3 = true → NextIsHosts s r → g = fld (descWord s r 2) 24 0 → 56 ≤ gSeg g → gSeg g ≤ 59 →
    mayAct (ringOwner s r) (segOwner s (gSeg g)) = true → imageReady s = true →
    (gVeh g = ownVeh s → poolFits s (12 + ringClass s r) 8 = true → segMode s g = 0 → Answers (.txDescSignal r) s fun t => TxReturned s t r 0 ∧
      (slotAt t g).value = BitVec.ofNat 64 ((descWord s r 4).toNat + 2 ^ 32 * (descWord s r 5).toNat) ∧ (slotAt t g).gen = (slotAt s g).gen + 1 ∧
      ∀ k, k ≠ g → slotAt t k = slotAt s k) ∧
    (gVeh g ≠ ownVeh s → Answers (.txDescSignal r) s fun t => TxReturned s t r 7 ∧ ∀ k, slotAt t k = slotAt s k)) ∧
  (∀ (r : Fin 16) (s : State) (p : Nat) (w : Word), txReady s r 1 = true → NextIsHosts s r → w = descWord s r 2 → p = fld w 24 20 → w.getLsbD 19 = true → w.getLsbD 18 = false →
    txFrameCheck s r = 0 → fld w 13 0 ≤ 224 → portState s p ≠ 0 → syncOnly s (p - p % 2) = false → egState s p ≠ 2 → cellsUse s < 131072 → qUse s p (fld w 16 14) + 1 ≤ getF s (swR p (0x10 + 4 * fld w 16 14)) 17 0 →
    portUse s p + 1 ≤ getF s (swR p 8) 17 0 → Answers (.txDescFrame r) s fun t => TxReturned s t r 0 ∧
      (∃ f ∈ t.sw.frames, f.id = s.sw.nextId ∧ f.data = winRead s (descWord s r 1).toNat (fld w 13 0) ∧ f.queued = [p] ∧ f.tc = fld w 16 14 ∧ f.directed = true ∧ f.cells = 1) ∧
      (∀ f ∈ s.sw.frames, f ∈ t.sw.frames) ∧ cellsUse t = cellsUse s + 1) ∧
  (∀ (r : Fin 16) (s : State) (p : Nat) (w : Word), txReady s r 1 = true → NextIsHosts s r → w = descWord s r 2 → p = fld w 24 20 → w.getLsbD 19 = true → w.getLsbD 18 = false →
    txFrameCheck s r = 0 → portState s p = 0 ∨ syncOnly s (p - p % 2) = true → Answers (.txDescFrame r) s fun t => TxReturned s t r 0 ∧
      rd t (fwdR 25 0x18) = rd s (fwdR 25 0x18) + 1 ∧ t.sw.frames = s.sw.frames ∧ cellsUse t = cellsUse s)

/-- R229, R321, R322, R327, R331, R332, R349: what the host has written through BAR2 stands in its window; KICK of a ring that stands at a descriptor of its own
keeps it ready, at one of the host's ends the KICK, of a disabled ring is ignored; a reserved KIND is returned INVALID; a delivery fills the descriptor at POS
or, without one, is dropped and counted, and so is the frame that HP serves; a write of EN acts at once and EN = 1 sets POS to 0, or waits for the descriptor in
hand. -/
def Obligations.Rings : Prop :=
  (∀ (q : Requester) (r : Fin 16) (win : List (BitVec 32 × List Byte)) (s w : State), w = hostWrites s win → budMode s ≠ 2 →
    (ringOn w r = true → txOwn w r = true → txKnown (txKind w r) = true → Answers (.ringKick q r win) s fun t =>
      ringAt t r = { ringAt s r with kicked := true } ∧ (∀ k, k ≠ r.val → ringAt t k = ringAt s k) ∧ RegsKept s t [] ∧ MemKept w t ∧ armed t q = false) ∧
    (ringOn w r = true → txOwn w r = false → Answers (.ringKick q r win) s fun t => ringAt t r = { ringAt s r with kicked := false } ∧ RegsKept s t [] ∧ MemKept w t) ∧
    (ringOn w r = true → txOwn w r = true → txKnown (txKind w r) = false → NextIsHosts w r → Answers (.ringKick q r win) s fun t => TxReturned w t r 1) ∧
    (ringOn w r = false → Answers (.ringKick q r win) s fun t => RegsKept s t [] ∧ MemKept w t ∧ ∀ k, ringAt t k = ringAt s k)) ∧
  (∀ (q : Requester) (r : Fin 16) (off : BitVec 32) (bs : List Byte) (s : State), ringOn s r = false →
    (ready s 7 = true → inWindow s off.toNat bs.length = true → Answers (.ringKick q r [(off, bs)]) s fun t =>
      winRead t off.toNat bs.length = bs ∧ ∀ a, a < hostBase + off.toNat ∨ hostBase + off.toNat + bs.length ≤ a → memByte t a = memByte s a) ∧
    (ready s 7 = false → Answers (.ringKick q r [(off, bs)]) s fun t => MemKept s t)) ∧
  (∀ (r : Fin 16) (s : State) (d : RxDeliv) (l : List RxDeliv) (k : Nat), k = 16 + r.val → getF s (ringR k 0) 4 1 ≤ 8 → hpHead s = none → (ringAt s k).deliv = d :: l → d.copy = none →
    (ringOn s k = true → fld (descWord s k 0) 0 0 = 1 → Answers (.rxDelivery r) s fun t =>
      (ringAt t k).deliv = l ∧ getF t (ringR k 8) 11 0 = (getF s (ringR k 8) 11 0 + 1) % ringSize s k ∧ rd t (ringR k 0x18) = rd s (ringR k 0x18) + 1 ∧
      getB t (ringR k 0x10) 0 = true ∧ (inWindow s (descWord s k 1).toNat (fld (descWord s k 2) 13 0) = true → d.data.length ≤ fld (descWord s k 2) 13 0 →
        rd t (ringR k 0x1C) = rd s (ringR k 0x1C) ∧ BitVec.ofNat 32 (leNat (winRead t (descAt s k) 4)) = BitVec.ofNat 32 (d.src * 16))) ∧
    ((ringOn s k = false ∨ fld (descWord s k 0) 0 0 = 0) → Answers (.rxDelivery r) s fun t =>
      (ringAt t k).deliv = l ∧ rd t (ringR k 0x1C) = rd s (ringR k 0x1C) + 1 ∧ getB t (ringR k 0x10) 1 = true ∧ RegsKept s t [ringR k 0x10, ringR k 0x1C] ∧ MemKept s t)) ∧
  (∀ (r : Fin 16) (s : State) (f : SwFrame) (k : Nat), k = 16 + r.val → hpHead s = some f → frameAt s f.id = some f → getF s 0x5100C (4 * f.tc + 3) (4 * f.tc) = r.val → f.ts = none → (ringAt s k).deliv = [] → ringOn s k = false →
    Answers (.rxDelivery r) s fun t => (ringAt t k).deliv = [] ∧ rd t (ringR k 0x1C) = rd s (ringR k 0x1C) + 1 ∧ getB t (ringR k 0x10) 1 = true ∧
      ∀ g ∈ t.sw.frames, g.id = f.id → 25 ∉ g.queued) ∧
  (∀ (q : Requester) (r : Fin 32) (data : Word) (win : List (BitVec 32 × List Byte)) (s : State),
    (getB s (ringR r 0) 0 = false → (ringAt s r).wait = none → Answers (.ringEnable q r data win) s fun t => getB t (ringR r 0) 0 = true ∧ getF t (ringR r 0) 4 1 = fld data 4 1 ∧
      getF t (ringR r 0) 13 12 = fld data 13 12 ∧ getF t (ringR r 8) 11 0 = 0 ∧ (ringAt t r).kicked = false ∧ RegsKept s t [ringR r 0, ringR r 8] ∧ MemKept (hostWrites s win) t ∧
      armed t q = false) ∧
    (getB s (ringR r 0) 0 = true → q ≠ .loader → (ringAt s r).wait = none → Answers (.ringEnable q r data win) s fun t => getB t (ringR r 0) 0 = true ∧ getF t (ringR r 0) 4 1 = getF s (ringR r 0) 4 1 ∧
      getF t (ringR r 8) 11 0 = 0 ∧ (ringAt t r).kicked = false ∧ armed t q = false) ∧
    (getB s (ringR r 0) 0 = true → q ≠ .loader → (ringAt s r).wait = none → Answers (.ringDisable q r data) s fun t => getB t (ringR r 0) 0 = false ∧ getF t (ringR r 0) 4 1 = getF s (ringR r 0) 4 1 ∧
      getF t (ringR r 8) 11 0 = getF s (ringR r 8) 11 0 ∧ RegsKept s t [ringR r 0, ringR r 0x10] ∧ MemKept s t ∧ armed t q = false) ∧
    (∀ id, getB s (ringR r 0) 0 = true → (ringAt s r).wait = some id → Answers (.ringDisable q r data) s fun t => getB t (ringR r 0) 0 = true ∧ (ringAt t r).after = some false ∧
      (ringAt t r).wait = some id ∧ getF t (ringR r 8) 11 0 = getF s (ringR r 8) 11 0 ∧ MemKept s t ∧ armed t q = false))

/-- R336 to R339, R350: POP removes the oldest item, returns its word 0 and latches the rest for its requester, and of an empty journal
returns 0 and changes nothing; a pop that is lost counts; FLUSH empties the journal and counts; an enabled journal takes its DEPTH; a
disabled one keeps its items. -/
def Obligations.Journals : Prop :=
  (∀ (q : Requester) (j : Fin 64) (lost : Bool) (s : State),
    ((jnlAt s j).items = [] → Answers (.journalPop q j lost) s fun t => OnlyRegs s t [] ∧ (lost = false → Sends s t (.completion q 0 (leBytes 4 0)))) ∧
    (∀ i l, (jnlAt s j).items = i :: l →
      (lost = false → Answers (.journalPop q j lost) s fun t => Sends s t (.completion q 0 (leBytes 4 ((itemWords i).getD 0 0).toNat)) ∧
        jnlAt t j = setLatch { jnlAt s j with items := l } q ((itemWords i).drop 1) ∧ (∀ k, k ≠ j.val → jnlAt t k = jnlAt s k) ∧ RegsKept s t [] ∧ MemKept s t) ∧
      (lost = true → Answers (.journalPop q j lost) s fun t => (jnlAt t j).items = l ∧ rd t (jnlR j 0x34) = rd s (jnlR j 0x34) + 1 ∧ getB t 0x41000 2 = true ∧
        (∀ k, k ≠ j.val → jnlAt t k = jnlAt s k) ∧ RegsKept s t [0x41000, jnlR j 0x34] ∧ MemKept s t))) ∧
  (∀ (q : Requester) (j : Fin 64) (s : State), Answers (.journalFlush q j) s fun t =>
    (jnlAt t j).items = [] ∧ (jnlAt t j).latchH = [] ∧ (jnlAt t j).latchS = [] ∧ rd t (jnlR j 0x38) = rd s (jnlR j 0x38) + 1 ∧
    (∀ k, k ≠ j.val → jnlAt t k = jnlAt s k) ∧ RegsKept s t [jnlR j 0x38] ∧ MemKept s t ∧ armed t q = false) ∧
  (∀ (q : Requester) (j : Fin 64) (data : Word) (s : State),
    (getB s (jnlR j 0) 0 = false → fld data 4 1 ≤ 11 → Answers (.journalEnable q j data) s fun t =>
      getB t (jnlR j 0) 0 = true ∧ getF t (jnlR j 0) 4 1 = fld data 4 1 ∧ getF t (jnlR j 0) 27 12 = fld data 27 12 ∧ (jnlAt t j).depth = some (fld data 4 1) ∧
      (jnlAt t j).flushFl = true ∧ (∀ d, (jnlAt s j).depth = some d → d ≠ fld data 4 1 → (jnlAt t j).items = []) ∧
      ((jnlAt s j).depth = some (fld data 4 1) → (jnlAt t j).items = (jnlAt s j).items) ∧ (∀ k, k ≠ j.val → jnlAt t k = jnlAt s k) ∧
      RegsKept s t [jnlR j 0, jnlR j 0x38] ∧ MemKept s t) ∧
    (getB s (jnlR j 0) 0 = true → q ≠ .loader → fld data 4 1 ≤ 11 → Answers (.journalDisable q j data) s fun t =>
      getB t (jnlR j 0) 0 = false ∧ getF t (jnlR j 0) 4 1 = getF s (jnlR j 0) 4 1 ∧ getF t (jnlR j 0) 27 12 = fld data 27 12 ∧
      (getF s (jnlR j 0) 4 1 ≠ fld data 4 1 → getB t 0x41000 0 = true) ∧ (∀ k, jnlAt t k = jnlAt s k) ∧ RegsKept s t [0x41000, jnlR j 0] ∧ MemKept s t))

/-- R341, R342, R344 to R346, R351: a claim returns the claimable source with the highest PRIO, the lowest number winning a tie, clears
its P, places it in service and sets its OWNER, and with none claimable returns 0; target 8's answers the supervisor alone; a write of
IRQ_PENDk replaces the word, and an edge of a source of 256 to 511 that arrives with it sets P unless the source is in service. -/
def Obligations.InterruptClaims : Prop :=
  (∀ (q : Requester) (t : Fin 9) (s : State), (t.val = 8 → q = .supervisor) →
    ((∀ n, n < 512 → claimable s t n = false) → Answers (.irqClaim q t) s fun u => Sends s u (.completion q 0 (leBytes 4 0)) ∧ OnlyRegs s u []) ∧
    (∀ n, n < 512 → n ≠ 185 → claimable s t n = true →
      (∀ m, m < 512 → m ≠ n → claimable s t m = true → srcPrio s m < srcPrio s n ∨ (srcPrio s m = srcPrio s n ∧ n < m)) →
      Answers (.irqClaim q t) s fun u => Sends s u (.completion q 0 (leBytes 4 n)) ∧ u.irq.pend.getLsbD n = false ∧ u.irq.insvc.getLsbD n = true ∧
        SMap.get (fun _ => 15) u.irq.owner n = t.val ∧ (∀ m, m < 512 → m ≠ n → u.irq.insvc.getLsbD m = s.irq.insvc.getLsbD m) ∧ OnlyRegs s u [])) ∧
  (∀ (q : Requester) (s : State), q ≠ .supervisor → Answers (.irqClaim q 8) s fun u => (q = .host → Sends s u (.abort 0x20940)) ∧ u.irq.insvc = s.irq.insvc ∧ RegsKept s u []) ∧
  (∀ (q : Requester) (k : Fin 16) (data edges : Word) (s : State), Answers (.irqPendWrite q k data edges) s fun u =>
    (∀ b, b < 32 → 32 * k.val + b ≠ 0 → (data.getLsbD b = true → u.irq.pend.getLsbD (32 * k + b) = true) ∧
      (edges.getLsbD b = true → 8 ≤ k.val → s.irq.insvc.getLsbD (32 * k + b) = false → u.irq.pend.getLsbD (32 * k + b) = true) ∧
      (data.getLsbD b = false → (edges.getLsbD b = false ∨ s.irq.insvc.getLsbD (32 * k + b) = true ∨ k.val < 8) → (256 ≤ 32 * k.val + b ∨ level s (32 * k + b) = false ∨ s.irq.insvc.getLsbD (32 * k + b) = true) → u.irq.pend.getLsbD (32 * k + b) = false)) ∧
    u.irq.insvc = s.irq.insvc ∧ armed u q = false ∧ OnlyRegs { s with armed := u.armed } u [])

/-- R354, R355, R360, R362, R366: a doorbell queues the request that stands in the area, or with eight in flight copies nothing and
counts; RESP_ACK removes the response and brings in the next; RESET discards what is queued and posted; a request whose take window has
ended is answered E_TIMEOUT; a CODE that no command has is answered E_UNKNOWN. -/
def Obligations.MailboxProtocol : Prop :=
  (∀ (q : Requester) (m : Mbx) (s : State), pageHidden q m.val = false →
    (inFlight (mbxAt s m) < 8 → Answers (.doorbell q m) s fun t => ∃ r, mbxAt t m = { mbxAt s m with queue := (mbxAt s m).queue ++ [r], lastBell := ltNs s } ∧
      r.hdr = areaBytes s m 0x20 16 ∧ (leAt (areaBytes s m 0x20 16) 6 2 ≤ 1968 → r.fields = areaBytes s m 0x30 (leAt (areaBytes s m 0x20 16) 6 2)) ∧
      r.at_ = ltNs s ∧ r.expired = false ∧ (∀ k, k ≠ m.val → mbxAt t k = mbxAt s k) ∧ RegsKept s t [] ∧ armed t q = false) ∧
    (8 ≤ inFlight (mbxAt s m) → Answers (.doorbell q m) s fun t => mbxAt t m = { mbxAt s m with lastBell := ltNs s } ∧
      rd t (mbxR m 0x1C) = rd s (mbxR m 0x1C) + 1 ∧ getB t (mbxR m 4) 1 = true ∧ RegsKept s t [mbxR m 4, mbxR m 0x1C]) ∧
    ((mbxAt s m).posted = [] → Answers (.respAck q m) s fun t => OnlyRegs { s with armed := t.armed } t []) ∧
    (∀ b l, (mbxAt s m).posted = b :: l → Answers (.respAck q m) s fun t => mbxAt t m = { mbxAt s m with posted := l } ∧
      (l ≠ [] → getB t (mbxR m 4) 0 = true) ∧ RegsKept s t [mbxR m 4]) ∧
    (Answers (.mbxReset q m) s fun t => mbxAt t m = { mbxAt s m with queue := [], posted := [], dropResp := (mbxAt s m).inSvc.isSome } ∧
      (∀ k, k ≠ m.val → mbxAt t k = mbxAt s k) ∧ RegsKept s t [])) ∧
  (∀ (m : Mbx) (s : State) (r : MbxReq) (l : List MbxReq), m.val < 8 → (mbxAt s m).queue = r :: l → r.expired = false → takeOver s r = true → (mbxAt s m).inSvc = none →
    Answers (.requestTakeTimeout m) s fun t => rd t (mbxR m 0x18) = rd s (mbxR m 0x18) + 1 ∧ getB t (mbxR m 4) 2 = true ∧
      ∃ k, (mbxAt t m).posted = (mbxAt s m).posted ++ respBytes s (reqOf m false r) { status := 9, data := [], wait := false } :: k) ∧
  (∀ (m : Mbx) (s : State) (code : Nat) (x : MbxReq), Asks s m code x → cmdCodes.contains code = false →
    Answers (.mbxUnknownCode m) s fun t => Replies s t m x 7 [] ∧ rd t (mbxR m 0x14) = rd s (mbxR m 0x14) + 1)

/-- R367, R370, R371: SYS_GET_INFO returns what the card lists, SYS_NOP its own fields; SYS_HOST_ATTACH attaches the mailbox's context,
SYS_HOST_DETACH and the end of its watch window detach it; DIAG_REG_READ and DIAG_MEM_READ return words and bytes, DIAG_REG_WRITE writes
with the mailbox's key, DIAG_MBX_STATS returns the counters. -/
def Obligations.SystemCommands : Prop :=
  (∀ (m : Mbx) (s : State) (x : MbxReq),
    (Asks s m 0x0101 x → leAt x.hdr 6 2 = 0 → Answers (.sysGetInfo m) s fun t => Replies s t m x 0 (infoBytes s m)) ∧
    (Asks s m 0x0104 x → Answers (.sysNop m) s fun t => Replies s t m x 0 x.fields) ∧
    (Asks s m 0x0102 x → leAt x.hdr 6 2 = 4 → (leAt x.fields 0 4 = 0 ∨ (100 ≤ leAt x.fields 0 4 ∧ leAt x.fields 0 4 ≤ 60000)) → Answers (.sysHostAttach m) s fun t =>
      attached t m = true ∧ hostlessBit t = 0 ∧ (mbxAt t m).attached = true ∧ (mbxAt t m).watch = leAt x.fields 0 4 ∧
      Replies s t m x 0 [0, BitVec.ofNat 8 (attachMask t), 0, 0]) ∧
    (Asks s m 0x0103 x → leAt x.hdr 6 2 = 0 → attached s m = true → Answers (.sysHostDetach m) s fun t =>
      attached t m = false ∧ (mbxAt t m).attached = false ∧ (attachMask t = 0 → hostlessBit t = 1) ∧
      Replies s t m x 0 [BitVec.ofNat 8 (hostlessBit t), BitVec.ofNat 8 (attachMask t), 0, 0]) ∧
    (Asks s m 0x0A01 x → leAt x.hdr 4 1 = 0 → leAt x.hdr 6 2 = 8 → diagRange s (reqOf m false x) = true → leAt x.fields 4 2 = 1 → rsField (leAt x.fields 0 4) = false →
      ¬ (0x30000 ≤ leAt x.fields 0 4 ∧ leAt x.fields 0 4 < 0x3A000) → Answers (.diagRegRead m) s fun t =>
        Replies s t m x 0 (leBytes 4 (readReg s (.mailbox m) (leAt x.fields 0 4)).1.toNat)) ∧
    (∀ w, Asks s m 0x0A02 x → leAt x.hdr 4 1 = 0 → leAt x.hdr 6 2 = 12 → leAt x.fields 0 4 = 0xC → leAt x.fields 4 2 = 1 → 1 < s.boot.stage → w = leAt x.fields 8 4 →
      Answers (.diagRegWrite m) s fun t => Replies s t m x 0 [] ∧ (armed t (.mailbox m) = true ↔ w % 2 ^ 16 = 0x6A5C)) ∧
    (Asks s m 0x0A03 x → leAt x.hdr 4 1 = 0 → leAt x.hdr 6 2 = 8 → leAt x.fields 0 4 % 4 = 0 → 4 ≤ leAt x.fields 4 2 → leAt x.fields 4 2 ≤ 2048 → leAt x.fields 4 2 % 4 = 0 →
      hostBase ≤ leAt x.fields 0 4 → leAt x.fields 0 4 + leAt x.fields 4 2 ≤ hostBase + hostSize s → Answers (.diagMemRead m) s fun t =>
        Replies s t m x 0 (memRead s (leAt x.fields 0 4) (leAt x.fields 4 2)) ∧ MemKept s t) ∧
    (Asks s m 0x0A04 x → leAt x.hdr 4 1 = 0 → leAt x.hdr 6 2 = 0 → Answers (.diagMbxStats m) s fun t => ∃ d, Replies s t m x 0 d ∧ d.length = 200 ∧
      ∀ k : Mbx, ∀ j, j < 4 → leAt d (20 * k.val + 4 + 4 * j) 4 = (rd s (mbxR k (0x10 + 4 * j))).toNat)) ∧
  (∀ (k : Fin 8) (s : State), attached s k = true → (mbxAt s k).watch ≠ 0 → (mbxAt s k).lastBell + (mbxAt s k).watch * 1000000 ≤ ltNs s →
    Answers (.hostWatchExpiry k) s fun t => attached t k = false ∧ (mbxAt t k).watch = 0 ∧ ∀ j, j < 8 → j ≠ k.val → attached t j = attached s j)

/-- R63, R64, R90, R91, R96, R355: the CAN commands of a mailbox carry out what their cards say and are answered OK. -/
def Obligations.CanCommands : Prop :=
  (∀ (m : Mbx) (s : State) (x : MbxReq) (n : Nat),
    (CanAsks s m 0x0201 x 4 n → leAt x.fields 1 1 ≤ 5 → modeRefused s n (leAt x.fields 1 1) = false → Answers (.canSetMode m) s fun t =>
      modeReq t n = leAt x.fields 1 1 ∧ Replies s t m x 0 [BitVec.ofNat 8 (modeCur t n), 0, 0, 0]) ∧
    (CanAsks s m 0x0202 x 32 n → modeCur s n = 0 → (16 ≤ n → cfgXl (cfgAsked (reqOf m false x)) = false) → timingOk (cfgAsked (reqOf m false x)) = true →
      Answers (.canSetTiming m) s fun t => rd t (canR n 0x0C) = BitVec.ofNat 32 (leAt x.fields 4 4) &&& (if n < 16 then 0xF1F else 0xF05) ∧
        rd t (canR n 0x10) = BitVec.ofNat 32 (leAt x.fields 8 4) &&& 0x3FFFFFFF ∧ rd t (canR n 0x14) = BitVec.ofNat 32 (leAt x.fields 12 4) &&& 0x3FFFF ∧
        getF t (canR n 0x30) 15 8 = leAt x.fields 29 1 ∧ Replies s t m x 0 []) ∧
    (CanAsks s m 0x0203 x 4 n → modeCur s n = 6 → getB s (canR n 0) 13 = false → Answers (.canRecover m) s fun t =>
      getB t (canR n 0) 13 = true ∧ Replies s t m x 0 []) ∧
    (CanAsks s m 0x0204 x 4 n → Answers (.canGetStatus m) s fun t =>
      Replies s t m x 0 (regBytes s [canR n 0, canR n 4, canR n 0x28, canR n 0x2C, canR n 0x20, canR n 0x30]) ∧ ∀ o, o < 0x30000 ∨ 0x3A000 ≤ o → rd t o = rd s o) ∧
    (CanAsks s m 0x0205 x 4 n → leAt x.fields 1 1 ≤ 1 → Answers (.canGetCounters m) s fun t => Replies s t m x 0 (regBytes s (canCounters n)) ∧
      (leAt x.fields 1 1 = 1 → ∀ o ∈ canCounters n, rd t o = 0) ∧ (leAt x.fields 1 1 = 0 → ∀ o ∈ canCounters n, rd t o = rd s o)) ∧
    (CanAsks s m 0x0206 x 4 n → leAt x.fields 1 1 ≤ 2 → Answers (.canSetStb m) s fun t => getF t (canR n 0x30) 1 0 = leAt x.fields 1 1 ∧
      Replies s t m x 0 [BitVec.ofNat 8 (bnat (stbAsserted t n)), BitVec.ofNat 8 (getF s (canR n 0x30) 17 17), 0, 0]) ∧
    (CanAsks s m 0x0207 x 4 n → lockCode (leAt x.fields 1 1) = true → leAt x.fields 2 2 ≠ 0 → modeCur s n ≠ 0 → (chan s n).lock = none → Answers (.canLock m) s fun t =>
      (chan t n).lock = some { owner := leAt x.fields 1 1, start := lockMs s, timeout := leAt x.fields 2 2 } ∧ Replies s t m x 0 [BitVec.ofNat 8 (leAt x.fields 1 1), 0, 0, 0]) ∧
    (∀ l, CanAsks s m 0x0208 x 4 n → (chan s n).lock = some l → l.owner = leAt x.fields 1 1 → lockCode l.owner = true → Answers (.canUnlock m) s fun t =>
      (chan t n).lock = none ∧ Replies s t m x 0 [])) ∧
  (∀ (m : Mbx) (s : State) (x : MbxReq) (o len : Nat) (y : Nat × Bool × Nat), Asks s m 0x0209 x → budMode s ≠ 2 → o = leAt x.fields 0 4 → len = leAt x.fields 4 2 → o ≤ 131071 →
    leAt x.hdr 6 2 = 8 + len → objComp s (reqOf m false x) = true → moValid (motAt s o) = true → moTx (motAt s o) = true → moXl (motAt s o) = false → moSealed (motAt s o) = false →
    sendLenOk (motAt s o) 64 len = true → x.fields.length = 8 + len → objLive s o = some y → obBit s o 18 = false → obBit s o 19 = false →
    Answers (.canObjSend m) s fun t => Replies s t m x 0 [] ∧ obBit t o 18 = true ∧ obLen t o = (if moFmt (motAt s o) = 1 then fdLen len else len)) ∧
  (∀ (n : Chan) (s : State) (l : Lock), budMode s ≠ 2 → (chan s n).lock = some l → lockEnd l ≤ ltNs s → Answers (.lockTimeout n) s fun t =>
    (chan t n).lock = none ∧ rd t (motR n 0x1C) = rd s (motR n 0x1C) + 1 ∧ getB t 0xA8600 1 = true ∧ (∀ k, k ≠ n.val → chan t k = chan s k) ∧
      OnlyNoted { s with can := t.can, bud := t.bud } t [motR n 0x1C, 0xA8600, 0x80018])

/-- R97, R99: the forerunner aperture: a write of word 0 writes VALID, DIR and classical FMT into the MOT entry, zeroes its state record where VALID or
DIR changes, and clears NEW and LOST where they are written 1; with TXREQ it makes a SEND with the data that stand in the object; a data word goes into the
payload store; a channel without FR_EN ignores them. -/
def Obligations.ForerunnerAperture : Prop :=
  (∀ (q : Requester) (n : Fin 12) (i : BitVec 11) (data : Word) (s : State) (o : Nat), budMode s ≠ 2 → frEn s n = true → o = n.val * 2048 + i.toNat →
    ((data.getLsbD 0 ≠ moValid (motAt s o) ∨ data.getLsbD 1 ≠ moTx (motAt s o)) → data.getLsbD 3 = false → data.getLsbD 4 = false →
      Answers (.apertureValidWrite q n (.base i) data) s fun t => moValid (motAt t o) = data.getLsbD 0 ∧ moTx (motAt t o) = data.getLsbD 1 ∧
        moFmt (motAt t o) = (if data.getLsbD 1 then 0 else 1) ∧ objAt t o = ObjRt.init ∧ (∀ k, k ≠ o → objAt t k = objAt s k) ∧ OtherEntries s t 1 o ∧ armed t q = false) ∧
    (data.getLsbD 0 = moValid (motAt s o) → data.getLsbD 1 = moTx (motAt s o) → data.getLsbD 3 = true → data.getLsbD 4 = true →
      Answers (.apertureValidWrite q n (.base i) data) s fun t => obBit t o 16 = false ∧ obBit t o 17 = false ∧ obBit t o 18 = obBit s o 18 ∧
        moFmt (motAt t o) = (if data.getLsbD 1 then 0 else 1) ∧ moValid (motAt t o) = moValid (motAt s o) ∧ OtherEntries s t 1 o) ∧
    (∀ (len : Nat) (y : Nat × Bool × Nat), data.getLsbD 0 = true → data.getLsbD 1 = true → data.getLsbD 3 = false → data.getLsbD 4 = false → moValid (motAt s o) = true →
      moTx (motAt s o) = true → moXl (motAt s o) = false → len = fld data 11 8 → len ≤ 8 → 1 ≤ moGr (motAt s o) → moSealed (motAt s o) = false → objLive s o = some y →
      obBit s o 18 = false → obBit s o 19 = false → Answers (.apertureTxreq q n (.base i) data) s fun t =>
        obBit t o 18 = true ∧ obLen t o = len ∧ moFmt (motAt t o) = 0 ∧ OtherEntries s t 1 o) ∧
    (∀ hi : Bool, obBit s o 18 = false → Answers (.apertureDataWrite q n (.base i) hi data) s fun t =>
      payRead t (areaAt (motAt s o) + (if hi then 4 else 0)) 4 = leBytes 4 data.toNat ∧ (∀ k, objAt t k = objAt s k) ∧
      (∀ a, a < areaAt (motAt s o) + (if hi then 4 else 0) ∨ areaAt (motAt s o) + (if hi then 4 else 0) + 4 ≤ a → payByte t a = payByte s a) ∧ t.tbl = s.tbl)) ∧
  (∀ (q : Requester) (n : Fin 12) (ob : ApObj) (hi : Bool) (data : Word) (s : State), budMode s ≠ 2 → frEn s n = false →
    (Answers (.apertureTxreq q n ob data) s fun t => OnlyRegsOf q s t []) ∧ (Answers (.apertureValidWrite q n ob data) s fun t => OnlyRegsOf q s t []) ∧
    (Answers (.apertureDataWrite q n ob hi data) s fun t => OnlyRegsOf q s t []))

/-- R114: a write to BAR4 is discarded: SIG_BAR4_WR_DROP counts it and BAR4_WR_EV is set; nothing else changes, and no error completion is
returned: nothing is sent but messages of the interrupt controller. -/
def Obligations.Bar4WriteIsDiscarded : Prop :=
  ∀ (off : BitVec 29) (len : Nat) (s : State), Answers (.bar4Write off len) s fun t =>
    rd t 0x1A0038 = rd s 0x1A0038 + 1 ∧ getB t 0x1A0000 1 = true ∧ OnlyRegs s t [0x1A0000, 0x1A0038] ∧
    ∃ l, t.out = s.out ++ l ∧ ∀ x ∈ l, ∃ v a d, x = .msix v a d

/-- R108, R109, R111, R114, R120, R122, R126, R127: the sweeper's visit marks a slot that has grown old; a pause needs the key and 30
minutes of running, a resume the key, and after 60 s the sweeper runs again by itself; a read of BAR4 returns the slots as they stand, or
zeros, and changes none; housekeeping writes its slot; the cache counts halve; readiness after initialisation, when the decode windows start, and after the resume pass, which sets
STALE on every valid slot. -/
def Obligations.ImageUpkeep : Prop :=
  (∀ (s : State) (g : Nat), getB s 0x1A0008 0 = true → imageReady s = true → budMode s ≠ 2 → g = getF s 0x1A000C 24 0 →
    Answers .sweeperVisit s fun t => getF t 0x1A000C 24 0 = (g + 1) % 2 ^ 25 ∧ (∀ k, k ≠ g → slotAt t k = slotAt s k) ∧ MemKept s t ∧
      if (slotAt s g).valid = true ∧ (slotAt s g).stale = false ∧ wrapDist 32 (pairStamp s) (slotAt s g).stamp.toNat ≥ getF s 0x1A0008 19 12 * 1000000 then
        slotAt t g = { (slotAt s g).put 1 true with gen := (slotAt s g).gen + 1 } ∧ rd t 0x1A0030 = rd s 0x1A0030 + 1 ∧ getB t 0x1A0000 3 = true
      else slotAt t g = slotAt s g ∧ rd t 0x1A0030 = rd s 0x1A0030) ∧
  (∀ (q : Requester) (data : Word) (s : State), budMode s ≠ 2 → keyOk s q = true →
    (getB s 0x1A0008 0 = true → pauseOk s = true → Answers (.sweepPause q data) s fun t =>
      getB t 0x1A0008 0 = false ∧ t.sweepPauseAt = some (ltNs s) ∧ armed t q = false ∧ t.slots = s.slots) ∧
    (getB s 0x1A0008 0 = true → pauseOk s = false → Answers (.sweepPause q data) s fun t =>
      getB t 0x1A0008 0 = true ∧ getB t 0x1A0000 5 = true ∧ t.sweepPauseAt = s.sweepPauseAt ∧ t.slots = s.slots) ∧
    (getB s 0x1A0008 0 = false → Answers (.sweepResume q data) s fun t =>
      getB t 0x1A0008 0 = true ∧ t.sweepPauseAt = none ∧ t.sweepRunFrom = some (ltNs s) ∧ armed t q = false ∧ t.slots = s.slots)) ∧
  (∀ (s : State) (p : Nat), s.sweepPauseAt = some p →
    (p + 60000000000 ≤ ltNs s → Answers .sweepRearm s fun t => getB t 0x1A0008 0 = true ∧ getB t 0x1A0000 4 = true ∧ t.sweepPauseAt = none ∧
      t.sweepRunFrom = some (ltNs s) ∧ OnlyNoted { s with sweepPauseAt := t.sweepPauseAt, sweepRunFrom := t.sweepRunFrom } t [0x1A0000, 0x1A0008]) ∧
    (ltNs s < p + 60000000000 → Answers .sweepRearm s fun t => OnlyNoted s t [])) ∧
  (∀ (off : BitVec 29) (len : Nat) (s : State), Answers (.bar4Read off len) s fun t => t.slots = s.slots ∧ MemKept s t ∧
    Sends s t (.bar4 (slice ((bar4Slots off.toNat len).flatMap (bar4Slot s)) (off.toNat % 16) len)) ∧
    (imageReady s = false → Sends s t (.bar4 (List.replicate len 0)) ∧ OnlyRegs s t [])) ∧
  (∀ s : State, (s.cache.map Prod.fst).Nodup → Answers .cacheCountHalving s fun t =>
    (∀ k, cacheAt t k = { cacheAt s k with count := (cacheAt s k).count / 2 }) ∧ t.slots = s.slots ∧ RegsKept s t []) ∧
  (∀ (i : Fin 64) (v : BitVec 64) (s : State) (g : Nat), g = gsid (ownVeh s) 63 i.val → imageReady s = true → houseIdx i.val = true → getF s 0x7000C 1 0 ≤ 1 → segMode s g = 0 →
    Answers (.housekeepingWrite i v) s fun t => (∀ k, k ≠ g → slotAt t k = slotAt s k) ∧
      slotAt t g = { value := houseValue s i.val v, stamp := BitVec.ofNat 32 (pairStamp s), status := 0x11, gen := (slotAt s g).gen + 1 }) ∧
  (∀ s : State, 3 ≤ s.boot.stage → ready s 7 = true → s.boot.todo.contains 9 = false → s.boot.rescue = false → s.boot.resume = false → imageReady s = false →
    getF s 0x7000C 1 0 < 2 → Answers .imageInitComplete s fun t => imageReady t = true ∧ ready t 8 = true ∧ t.slots = s.slots ∧
      (∀ x ∈ tList s 5, sdOp x.2 = 1 → descRt t x.1 = { descRt s x.1 with last := pairStamp s, acted := false }) ∧ RegsKept s t [0x14, 0x18, 0x1A0000]) ∧
  (∀ s : State, s.boot.resume = true → ready s 7 = true → getF s 0x7000C 1 0 < 2 → Answers .resumePassComplete s fun t => imageReady t = true ∧ ready t 8 = true ∧ t.boot.resume = false ∧
    ∀ g, g < 2 ^ 25 → slotAt t g = if (slotAt s g).valid then { (slotAt s g).put 1 true with gen := (slotAt s g).gen + 1 } else slotAt s g)

/-- R116 to R119, R123, R128, R162, R187, R193: the SIG commands: a segment mode is written and its response waits for the pass; slots are
read as they stand; visibility and pins are set; a write to the host group of the own vehicle is an update; a derivation run is asked for;
the consist changes; presence is reported. The pass freezes or releases the valid slots of its pair, and its response carries the mode
before. -/
def Obligations.SignalCommands : Prop :=
  (∀ (m : Mbx) (s : State) (x : MbxReq), imageReady s = true → budMode s ≠ 2 →
    (∀ v seg new, Asks s m 0x0301 x → leAt x.hdr 6 2 = 4 → v = leAt x.fields 0 1 → seg = leAt x.fields 1 1 → new = leAt x.fields 2 1 → v ≤ 63 → seg ≤ 63 → new ≤ 2 →
      ¬ (v = ownVeh s ∧ seg = 63) → mayAct (leAt x.hdr 4 1) (segOwner s seg) = true → (∀ p ∈ s.passes, p.pair ≠ v * 64 + seg) → Answers (.sigSetSegmentMode m) s fun t =>
        pairMode t (v * 64 + seg) = new ∧ (∀ k, k ≠ v * 64 + seg → pairMode t k = pairMode s k) ∧
        t.passes = s.passes ++ [{ pair := v * 64 + seg, old := pairMode s (v * 64 + seg), new := new, mbx := some m }] ∧
        (mbxAt t m).inSvc = some x ∧ (mbxAt t m).posted = (mbxAt s m).posted ∧ t.slots = s.slots) ∧
    (Asks s m 0x0303 x → leAt x.hdr 4 1 = 0 → leAt x.hdr 6 2 = 8 → Answers (.sigSetVisibility m) s fun t => Replies s t m x 0 [] ∧
      rd t 0x1A0018 = BitVec.ofNat 32 (leAt x.fields 0 8) ∧ rd t 0x1A001C = BitVec.ofNat 32 (leAt x.fields 0 8 / 2 ^ 32) ∧ t.slots = s.slots) ∧
    (Asks s m 0x0304 x → leAt x.hdr 4 1 = 0 → leAt x.hdr 6 2 = 8 → bitCount (leAt x.fields 0 8) 64 ≤ 12 → Answers (.sigSetPin m) s fun t => Replies s t m x 0 [] ∧
      rd t 0x1A0020 = BitVec.ofNat 32 (leAt x.fields 0 8) ∧ rd t 0x1A0024 = BitVec.ofNat 32 (leAt x.fields 0 8 / 2 ^ 32) ∧ t.slots = s.slots) ∧
    (∀ g, Asks s m 0x0305 x → leAt x.hdr 6 2 = 20 → leAt x.fields 0 2 = 1 → g = leAt x.fields 4 4 → g < 2 ^ 25 → 56 ≤ gSeg g → gSeg g ≤ 59 → gVeh g = ownVeh s →
      mayAct (leAt x.hdr 4 1) (segOwner s (gSeg g)) = true → segMode s g = 0 → poolFits s 12 8 = true → Answers (.sigWriteHg m) s fun t =>
        Replies s t m x 0 [1, 0, 0, 0] ∧ (∀ k, k ≠ g → slotAt t k = slotAt s k) ∧
        slotAt t g = { value := BitVec.ofNat 64 (leAt x.fields 12 8), stamp := BitVec.ofNat 32 (pairStamp s), status := 0x11, gen := (slotAt s g).gen + 1 }) ∧
    (∀ i, Asks s m 0x0306 x → leAt x.hdr 6 2 = 4 → i = leAt x.fields 0 2 → i ≤ 255 → mayAct (leAt x.hdr 4 1) (owned s (dsComp (tGet s 8 i))) = true → getB s 0x1A1008 0 = true →
      dsTrig (tGet s 8 i) ≠ 0 → (∀ r ∈ s.runs, r.dst = i → r.started = true) → Answers (.sigRunDerive m) s fun t => Replies s t m x 0 [] ∧
        t.runs = s.runs ++ [{ dst := i, started := false, descs := (List.range (dsCount (tGet s 8 i))).map (fun k => dsFirst (tGet s 8 i) + k), reads := none }]) ∧
    (Asks s m 0x0307 x → leAt x.hdr 4 1 = 0 → leAt x.hdr 6 2 = 12 → leAt x.fields 0 1 = ownVeh s → leAt x.fields 1 1 = 1 → Answers (.sigSetConsist m) s fun t =>
      Replies s t m x 0 [BitVec.ofNat 8 (ownVeh s), 0, 0, 0] ∧ ownVeh t = ownVeh s ∧ rd t 0x1A2014 = BitVec.ofNat 32 (leAt x.fields 4 4) ∧ rd t 0x1A2018 = BitVec.ofNat 32 (leAt x.fields 8 4) ∧
      t.slots = s.slots ∧ t.mir.rw = [] ∧ (∀ o ∈ wordsFrom 0x1A2028 4, rd t o = 0) ∧ getB t 0x1A2000 5 = true)) ∧
  (∀ (m : Mbx) (s : State) (x : MbxReq),
    (Asks s m 0x0302 x → imageReady s = true → 1 ≤ leAt x.fields 0 2 → leAt x.fields 0 2 ≤ 64 → leAt x.hdr 6 2 = 4 + 4 * leAt x.fields 0 2 →
      (∀ g ∈ gsidsOf (reqOf m false x), g < 2 ^ 25 ∧ mayAct (leAt x.hdr 4 1) (segOwner s (gSeg g)) = true) → Answers (.sigReadSlots m) s fun t =>
        Replies s t m x 0 ((gsidsOf (reqOf m false x)).flatMap fun g => slotBytes (slotAt s g)) ∧ t.slots = s.slots) ∧
    (Asks s m 0x0308 x → leAt x.hdr 6 2 = 0 → Answers (.sigGetPresence m) s fun t =>
      Replies s t m x 0 (([0x1A2028, 0x1A202C, 0x1A2030, 0x1A2034, 0x1A2014, 0x1A2018].flatMap fun o => leBytes 4 (rd s o).toNat) ++ [BitVec.ofNat 8 (ownVeh s), 0, 0, 0]))) ∧
  (∀ (s : State) (p : ModePass) (l : List ModePass), s.passes = p :: l → (∀ y ∈ l, y.pair ≠ p.pair) → p.pair < 4096 → p.new ≤ 1 →
    Answers .modePass s fun t => t.passes = l ∧ (∀ g, g / 8192 ≠ p.pair → slotAt t g = slotAt s g) ∧
      (∀ g, g / 8192 = p.pair → slotAt t g =
        if p.new = 0 ∧ (slotAt s g).frozen = true then { (slotAt s g).put 6 false with gen := (slotAt s g).gen + 1 }
        else if p.new = 1 ∧ (slotAt s g).valid = true ∧ (slotAt s g).frozen = false then { (slotAt s g).put 6 true with gen := (slotAt s g).gen + 1 }
        else slotAt s g) ∧
      (∀ (m : Mbx) (x : MbxReq), p.mbx = some m → m.val < 8 → (mbxAt s m).inSvc = some x → (reqOf m false x).quiet = false → (mbxAt s m).dropResp = false →
        Replies s t m x 0 [BitVec.ofNat 8 p.old, 0, 0, 0]))

/-- R31, R136, R138, R140, R141, R143, R144, R146, R147, R157: the engines: a DECODE descriptor updates its slot with the transformed field of its
carrier, and one that would cross compartments is counted and changes none; entry 0 of the transforms changes no value; a composition fills the payload of its
object from its slots and requests it, once no carrier waits; a derivation run updates its output from its inputs, once the queues before it are empty, and one
that waited for the cache goes on. -/
def Obligations.EngineExecutions : Prop :=
  (∀ (d : BitVec 768) (raw : Nat), sdFloat d = false → raw < 2 ^ sdLen d → (sdSigned d = false → raw < 2 ^ 63) →
    (decodeXf d tptIdentity raw).val = some (if sdSigned d then toBits 64 (sInt (sdLen d) raw) else raw)) ∧
  (∀ (s : State) (c : Carrier) (rest : List Carrier) (j : Nat) (js : List Nat) (d : BitVec 768) (g v : Nat) (x : Xf), s.carriers = c :: rest → c.descs = j :: js → s.scanHeld = false →
    d = sdpAt s j → g = gOwn s (sdGsid d) → sdOp d = 1 → (∀ b ∈ fieldBits d, b < 8 * c.data.length) → gSeg (sdGsid d) = c.seg → descMay s c.comp d [g] = true → segMode s g = 0 →
    x = decodeXf d (tptAt s (sdXform d)) (takeField c.data (fieldBits d)) → x.val = some v → Answers .engineDecode s fun t =>
      slotAt t g = { value := BitVec.ofNat 64 v, stamp := BitVec.ofNat 32 (pairStamp s), status := updStatus x.sub (descRt s j).missed c.auth false, gen := (slotAt s g).gen + 1 } ∧
      (∀ k, k ≠ g → slotAt t k = slotAt s k) ∧ descRt t j = { last := pairStamp s, acted := false, missed := false } ∧
      (js ≠ [] → t.carriers = { c with descs := js } :: rest)) ∧
  (∀ (s : State) (c : Carrier) (rest : List Carrier) (j : Nat) (js : List Nat) (d : BitVec 768), s.carriers = c :: rest → c.descs = j :: js → s.scanHeld = false → d = sdpAt s j → sdOp d = 1 →
    (∀ b ∈ fieldBits d, b < 8 * c.data.length) → descMay s c.comp d [gOwn s (sdGsid d)] = false → Answers .engineDecode s fun t =>
      rd t 0x1A1114 = rd s 0x1A1114 + 1 ∧ t.slots = s.slots ∧ descRt t j = descRt s j) ∧
  (∀ (s : State) (c : Comp) (o v : Nat) (e d : BitVec 768), queueUp s 3 = true → s.scanHeld = false → s.comps.find? (fun c => !c.started) = some c → c.target = .object o →
    (∀ x ∈ s.comps, x.target = .object o → x.started = false) → e = motAt s o →
    moValid e = true → moTx e = true → moSealed e = false → moSdpN e = 1 → d = sdpAt s (moSdp e) → sdOp d = 2 → (∀ b ∈ fieldBits d, b < 8 * dataRoom e) →
    descMay s (owned s (moComp e)) d [sdGsid d] = true → (cacheHit s (sdGsid d)).isSome = true → (encodeXf d (tptAt s (sdXform d)) (slotAt s (sdGsid d))).val = some v → Answers .compositionRun s fun t =>
      payRead t (dataAt e) (dataRoom e) = putField (payRead s (dataAt e) (dataRoom e)) (fieldBits d) (encodeRaw d v) ∧
      (∀ a, a < dataAt e ∨ dataAt e + dataRoom e ≤ a → payByte t a = payByte s a) ∧
      (obLen s o ≠ 0 → obLen t o = obLen s o) ∧ (∀ y, objLive s o = some y → obBit s o 19 = false → obBit t o 18 = true) ∧ t.slots = s.slots) ∧
  (∀ (s : State) (r : Run) (i : Instr) (j : Nat) (d : BitVec 768) (g : Nat) (a b : Slot), r.descs = [j] → d = sdpAt s j → g = gOwn s (sdGsid d) → a = slotAt s (dvA d) → b = slotAt s (dvB d) →
    sdOp d = 3 → dvFn d ≤ 8 → a.valid = true → (binaryFn (dvFn d) = true → b.valid = true) →
    (dvInstale d = true → a.stale = false ∧ (binaryFn (dvFn d) = true → b.stale = false)) → segMode s g = 0 → deriveMay s r.dst d = true →
    (i = .derivationRun ∧ queueUp s 4 = true ∧ s.runs.find? (fun r => !r.started) = some r ∧ r.reads = none ∧ (∀ k ∈ dvReads s d, (cacheHit s k).isSome = true)
      ∨ i = .engineResume ∧ r.reads = some [] ∧ ∃ k l, s.parked = .run r k :: l) → Answers i s fun t =>
        slotAt t g = { value := BitVec.ofNat 64 (toBits 64 (dvValue (dvFn d) a.int b.int)), stamp := BitVec.ofNat 32 (pairStamp s),
                       status := updStatus (a.subst || (binaryFn (dvFn d) && b.subst)) false (a.auth && (!binaryFn (dvFn d) || b.auth)) false, gen := (slotAt s g).gen + 1 } ∧
        (∀ k, k ≠ g → slotAt t k = slotAt s k) ∧ (i = .engineResume → s.parked = s.parked.take 1 ++ t.parked))

/-- R142, R147, R150, R159: the timeout scan acts once on every DECODE descriptor whose window is over, and on no slot that none of them names; while an earlier
queue holds work it waits; RT_EN goes to 1 when the pools fit, and decode windows start; when they do not it stays 0 with its event; it goes to 0 and what the
engines hold is discarded. -/
def Obligations.RoutingEnableAndTimeouts : Prop :=
  (∀ s : State, getB s 0x1A1008 0 = true → imageReady s = true → budMode s ≠ 2 → queueUp s 4 = false → Answers .timeoutScan s fun t => t.scanHeld = true ∧ t.slots = s.slots ∧ t.desc = s.desc) ∧
  (∀ s : State, getB s 0x1A1008 0 = true → imageReady s = true → budMode s ≠ 2 → queueUp s 4 = true → Answers .timeoutScan s fun t => t.scanHeld = false ∧
    (∀ j ∈ (tList s 5).map Prod.fst, (descRt t j).acted = ((descRt s j).acted ||
      decide (sdOp (sdpAt s j) = 1 ∧ sdTimeout (sdpAt s j) ≠ 0 ∧ windowAge s j ≥ sdTimeout (sdpAt s j) * 1000))) ∧
    (∀ g, (∀ j ∈ (tList s 5).map Prod.fst, gOwn s (sdGsid (sdpAt s j)) ≠ g) → slotAt t g = slotAt s g) ∧
    ((∃ j ∈ (tList s 5).map Prod.fst, (descRt s j).acted = false ∧ sdOp (sdpAt s j) = 1 ∧ sdTimeout (sdpAt s j) ≠ 0 ∧ windowAge s j ≥ sdTimeout (sdpAt s j) * 1000) → getB t 0x1A1000 2 = true)) ∧
  (∀ (q : Requester) (data : Word) (s : State), budMode s ≠ 2 → keyOk s q = true →
    (getB s 0x1A1008 0 = false → poolSum s ≤ 16384 → Answers (.rtEnSet q data) s fun t => getB t 0x1A1008 0 = true ∧ armed t q = false ∧
      (∀ x ∈ tList s 5, sdOp x.2 = 1 → descRt t x.1 = { descRt s x.1 with last := pairStamp s, acted := false }) ∧ t.slots = s.slots) ∧
    (getB s 0x1A1008 0 = false → 16384 < poolSum s → Answers (.rtEnSet q data) s fun t => getB t 0x1A1008 0 = false ∧ getB t 0x1A1000 4 = true ∧ t.desc = s.desc) ∧
    (getB s 0x1A1008 0 = true → Answers (.rtEnClear q data) s fun t => getB t 0x1A1008 0 = false ∧ t.carriers = [] ∧ t.comps = [] ∧ t.runs = [] ∧ t.parked = [] ∧
      (s.parked = [] → t.slots = s.slots) ∧ armed t q = false))

/-- R165 to R168, R171 to R173, R177, R180, R182, R186, R189: what the mirror sends: a refresh cycle sends every valid slot of its range in bundles of at most
92 records, and what is pending takes its place; so does a change pass with the slots marked; a beacon; the composed telegram of a send entry; a posted remote
write. Each frame is handed to the switch as it is composed, and SEQ counts it; with no valid address nothing is sent, and that counts once; a WITHDRAWN unit
sends none. A remote write whose window has ended fails once, with cause 5; MIR_EN starts the windows of the subscriptions and stops the passes. -/
def Obligations.MirrorSends : Prop :=
  (∀ (i : Fin 1024) (s : State) (e : BitVec 768) (c : Instr) (refresh : Bool) (recs : List (List Byte)) (l : List (List Byte)), e = tGet s 9 i →
    (c = .pubRefreshCycle i ∧ refresh = true ∧ (pubRt s i).busy = some true ∧ pubOn s i = true ∧
        recs = slotRecords s ((List.range (puLast e + 1 - puFirst e)).map fun k => gsid (ownVeh s) (puSeg e) (puFirst e + k))
      ∨ c = .pubChangePass i ∧ refresh = false ∧ pubChangeDue s i = true ∧ (pubRt s i).busy ≠ some true ∧ budMode s ≠ 2 ∧
        recs = slotRecords s ((pubRt s i).dirty.map fun k => gsid (ownVeh s) (puSeg e) k)) →
    l = passFrames s i refresh recs →
    (ownBat s = true → baValid (batAt s (puBat e)) = true → budMode s ≠ 3 → Answers c s fun t =>
      SgSends (puComp e) (puClass e) false l s t ∧ rd t 0x1A2048 = rd s 0x1A2048 + BitVec.ofNat 32 l.length ∧
      pubRt t i = { seq := if l = [] then (pubRt s i).seq else ((pubRt s i).seq + l.length) % 2 ^ 16, dirty := [], lastSend := if l = [] then (pubRt s i).lastSend else some (ltNs s),
                    busy := if (pubRt s i).pend = some true then some true else none, pend := none } ∧
      (∀ k, k ≠ i.val → pubRt t k = pubRt s k) ∧ t.slots = s.slots) ∧
    (baValid (batAt s (puBat e)) = false ∨ ownBat s = true ∧ budMode s = 3 → Answers c s fun t =>
      t.sw = s.sw ∧ rd t 0x1A2048 = rd s 0x1A2048 ∧
      rd t 0x1A207C = (if l = [] ∨ baValid (batAt s (puBat e)) = true then rd s 0x1A207C else rd s 0x1A207C + 1) ∧
      pubRt t i = { pubRt s i with dirty := [], busy := if (pubRt s i).pend = some true then some true else none, pend := none } ∧
      (∀ k, k ≠ i.val → pubRt t k = pubRt s k) ∧ t.slots = s.slots)) ∧
  (∀ s : State, beaconDue s = true → Answers .beaconSend s fun t => t.mir.lastBcn = ltNs s ∧ t.slots = s.slots ∧
    (ownBat s = true → baValid (batAt s 64) = true → budMode s ≠ 3 → t.mir.seqBcn = (s.mir.seqBcn + 1) % 2 ^ 16 ∧ rd t 0x1A207C = rd s 0x1A207C ∧
      SgSends 0 0 false [bundleFrame s 64 4 0 0xFFF2 s.mir.seqBcn 0 (beBytes 8 (unitId s) ++ beBytes 4 (rd s 0x1A2018).toNat ++ [0, 0, 0, 0])] s t) ∧
    (baValid (batAt s 64) = false → t.mir.seqBcn = s.mir.seqBcn ∧ rd t 0x1A207C = rd s 0x1A207C + 1 ∧ t.sw = s.sw)) ∧
  (∀ (s : State) (c : Comp) (i : Nat) (e : BitVec 768), queueUp s 3 = true → s.scanHeld = false → s.comps.find? (fun c => !c.started) = some c → c.target = .telegram i → e = tGet s 0xD i →
    ttValid e = true → ttSends e = true → ownBat s = true → baValid (batAt s (ttBat e)) = true → budMode s ≠ 3 → (∀ x ∈ s.comps, x.target = .telegram i → x.started = false) →
    (∀ j ∈ ttDescs e, encodeMiss s (ttLen e) (owned s (ttComp e)) j = none) → Answers .tttComposeSend s fun t =>
      SgSends (ttComp e) (ttClass e) true [telegramFrame { t with mir := s.mir } i 0x5064 (ttComid e) (ttIpA e)] s t ∧
      (∀ d v, ttSdpN e = 1 → d = sdpAt s (ttSdp e) → sdOp d = 2 → encodeShort d (ttLen e) = false → descMay s (owned s (ttComp e)) d [sdGsid d] = true →
        (encodeXf d (tptAt s (sdXform d)) (slotAt s (sdGsid d))).val = some v →
        payRead t (8 * ttBase e) (ttLen e) = putField (payRead s (8 * ttBase e) (ttLen e)) (fieldBits d) (encodeRaw d v)) ∧
      (tttRt t i).seq = ((tttRt s i).seq + 1) % 2 ^ 32 ∧ (∀ k, k ≠ i → tttRt t k = tttRt s k) ∧ (∀ x ∈ t.comps, x.target ≠ .telegram i) ∧ t.slots = s.slots) ∧
  (∀ (m : Mbx) (s : State) (x : MbxReq) (g v : Nat) (w : RWrite), Asks s m 0x0305 x → imageReady s = true → budMode s < 2 → leAt x.hdr 6 2 = 20 → leAt x.fields 0 2 = 1 →
    g = leAt x.fields 4 4 → v = gVeh g → g < 2 ^ 25 → 56 ≤ gSeg g → gSeg g ≤ 59 → v ≠ ownVeh s → mayAct (leAt x.hdr 4 1) (segOwner s (gSeg g)) = true → baValid (batAt s v) = true →
    ownBat s = true → s.mir.rw.length < 1024 →
    w = { target := v, gsid := g, tag := (reqOf m false x).tag, orig := 0x50 + m.val, value := BitVec.ofNat 64 (leAt x.fields 12 8), sent := ltNs s } →
    Answers (.sigWriteHg m) s fun t => Replies s t m x 0 [0, 0, 1, 0] ∧ t.mir.rw = s.mir.rw ++ [w] ∧ rd t 0x1A2088 = rd s 0x1A2088 + 1 ∧ t.slots = s.slots ∧
      SgSends 0 (frcF s 0x1A200C 17 16) false [bundleFrame s v 2 0 0xFFF0 (SMap.get (fun _ => 0) s.mir.seqRw v) 1 (rwBytes w)] s t) ∧
  (∀ (s : State) (w : RWrite), s.mir.rw = [w] → w.sent + frcF s 0x1A2008 31 16 * 1000000 ≤ ltNs s → Answers .rwriteTimeout s fun t =>
    t.mir.rw = [] ∧ rd t 0x1A2090 = rd s 0x1A2090 + 1 ∧ t.jnl = (rwFail s w 5).jnl ∧ (getB s (0x1A2100 + 4 * (w.orig - 0x40)) 6 = true → getB t 0x1A2000 3 = true)) ∧
  (∀ s : State, Answers .rwriteTimeout s fun t =>
    t.mir.rw = (s.mir.rw.filter fun w => decide (ltNs s < w.sent + frcF s 0x1A2008 31 16 * 1000000)) ∧
    rd t 0x1A2090 = rd s 0x1A2090 + BitVec.ofNat 32 (s.mir.rw.length - t.mir.rw.length) ∧ OnlyNoted { s with mir := { s.mir with rw := t.mir.rw } } t [0x1A2000, 0x1A2090]) ∧
  (∀ (q : Requester) (data : Word) (s : State), budMode s ≠ 2 → keyOk s q = true →
    (getB s 0x1A2008 0 = false → Answers (.mirEnSet q data) s fun t => getB t 0x1A2008 0 = true ∧ armed t q = false ∧
      ∀ i ∈ (tList s 0xA).map Prod.fst, (subRt t i).last = ltNs s ∧ (subRt t i).acted = false) ∧
    (getB s 0x1A2008 0 = true → Answers (.mirEnClear q data) s fun t => getB t 0x1A2008 0 = false ∧ armed t q = false ∧
      ∀ i, (pubRt t i).busy = none ∧ (pubRt t i).pend = none ∧ (pubRt t i).seq = (pubRt s i).seq))

/-- R169, R174 to R177, R183, R185, R189, R190, R481: what the mirror receives: an accepted SIGNALS bundle waits for the unpacker and its
tracker follows; a bundle or a telegram that a check refuses is counted at the check's counter and discarded; the unpacker updates the
slot that a record names; the end of a subscription's window acts once; presence ends; process data waits for its descriptors, a pull
request is answered with its telegram, message data goes to its ring; in the handover of an update both wait. -/
def Obligations.MirrorReceives : Prop :=
  (∀ (s w : State) (f : SgFrame) (b : Bundle), sgFront (sgDrain s) = some f → sgBundle f = true → w = sgDrain (sgServe (sgDrain s) f) → b = bundleOf f.bytes → budMode s ≠ 2 → budMode s ≠ 3 → getB s 0x1A2008 0 = true → imageReady s = true →
    (∀ i gap, b.kind = 0 → bundleCheck s b = none → bundleSub s b = some i → (suMacsec (tGet s 0xA i) = true → f.auth = true) → trackJudge 16 (ltNs s) b.seq (subRt s i).tr = some gap →
      poolFits w (8 + suClass (tGet s 0xA i)) b.len = true → Answers .bundleReceived s fun t =>
        t.work2 = s.work2 ++ [.bundle { copy := w.copyNext, refused := false, sub := i, srcVeh := b.veh, auth := f.auth, gap := gap, begin_ := b.begin_, end_ := b.end_, recs := records b.count b.body }] ∧
        subRt t i = { subRt s i with tr := some { seq := b.seq, at_ := ltNs s }, last := ltNs s, acted := false } ∧ (∀ k, k ≠ i → subRt t k = subRt s k) ∧
        t.mir.sgIn = w.mir.sgIn ∧ t.mir.sgIn.length < s.mir.sgIn.length ∧ t.slots = s.slots) ∧
    (∀ off, bundleCheck s b = some off → Answers .bundleReceived s fun t =>
      rd t (0x1A2000 + off) = rd s (0x1A2000 + off) + 1 ∧ getB t 0x1A2000 4 = true ∧ t.mir.sgIn = w.mir.sgIn ∧ t.mir.sgIn.length < s.mir.sgIn.length ∧ t.work2 = s.work2 ∧
      t.slots = s.slots)) ∧
  (∀ (s : State) (b : BundleCar) (rest : List Work2) (r : List Byte) (g : Nat) (e : BitVec 768), s.carriers = [] → s.scanHeld = false → s.work2 = .bundle b :: rest → b.refused = false → b.recs = [r] →
    g = beAt r 0 4 % 2 ^ 25 → e = tGet s 0xA b.sub → gVeh g = b.srcVeh → gVeh g ≠ ownVeh s → gSeg g = suSeg e → suFirst e ≤ gIdx g → gIdx g ≤ suLast e → nbit (beAt r 4 1) 0 = true → nbit (beAt r 4 1) 1 = false → segMode s g = 0 →
    Answers .signalsBundleUnpack s fun t => t.work2 = rest ∧ (∀ k, k ≠ g → slotAt t k = slotAt s k) ∧
      slotAt t g = { value := BitVec.ofNat 64 (beAt r 8 8), stamp := BitVec.ofNat 32 (pairStamp s),
                     status := updStatus (nbit (beAt r 4 1) 2) (b.gap || (subRt s b.sub).missed) (nbit (beAt r 4 1) 3 && b.auth) true, gen := (slotAt s g).gen + 1 } ∧
      (subRt t b.sub).missed = ((b.gap || (subRt s b.sub).missed) && !(b.end_ && (b.begin_ || (!b.gap && (subRt s b.sub).clean))))) ∧
  (∀ (v : BitVec 6) (s : State), Answers (.presenceExpiry v) s fun t =>
    presBit t v.toNat = (presBit s v.toNat && !beaconOver s (vehRt s v.toNat).pres) ∧ dupBit t v.toNat = (dupBit s v.toNat && !beaconOver s (vehRt s v.toNat).dup) ∧
    ((presBit s v.toNat && beaconOver s (vehRt s v.toNat).pres) = true → getB t 0x1A2000 1 = true) ∧ (∀ w, w < 64 → w ≠ v.toNat → presBit t w = presBit s w ∧ dupBit t w = dupBit s w) ∧
    OnlyNoted s t [0x1A2000, 0x1A2028, 0x1A202C, 0x1A2030, 0x1A2034]) ∧
  (∀ (i : Fin 1024) (s : State) (e : BitVec 768), e = tGet s 0xA i → subDue s i = true → budMode s ≠ 2 → Answers (.subTimeout i) s fun t =>
    subRt t i = { subRt s i with acted := true } ∧ rd t 0x1A2084 = rd s 0x1A2084 + 1 ∧ getB t 0x1A2000 2 = true ∧
    (∀ g, (∀ k, suFirst e ≤ k → k ≤ suLast e → g ≠ gsid (suVeh e) (suSeg e) k) → slotAt t g = slotAt s g) ∧
    (suKind e = 0 → suToact e = 1 → suVeh e ≠ ownVeh s → imageReady s = true → ∀ k g, suFirst e ≤ k → k ≤ suLast e → g = gsid (suVeh e) (suSeg e) k →
      slotAt t g = if (slotAt s g).valid && !(slotAt s g).stale then { (slotAt s g).put 1 true with gen := (slotAt s g).gen + 1 } else slotAt s g) ∧
    (suKind e ≠ 0 ∨ suToact e = 0 ∨ suVeh e = ownVeh s ∨ imageReady s = false → t.slots = s.slots)) ∧
  (∀ (s w : State) (f : SgFrame), sgFront (sgDrain s) = some f → w = sgDrain (sgServe (sgDrain s) f) → budMode s ≠ 2 → budMode s ≠ 3 →
    (sgPd f = true →
      (∀ i gap, trdpCheck s f.bytes = none → trdpMatch s f.bytes = some i → (ttMacsec (tGet s 0xD i) = true → f.auth = true) →
        trackJudge 32 (ltNs s) (beAt f.bytes (trdpPos f.bytes) 4) (tttRt s i).tr = some gap → getB s 0x1A1008 0 = true → poolFits w (8 + ttClass (tGet s 0xD i)) (tdLen f.bytes) = true →
        Answers .trdpPdReceived s fun t =>
          t.work2 = s.work2 ++ [.dataset { copy := w.copyNext, seg := ttSeg (tGet s 0xD i), comp := owned s (ttComp (tGet s 0xD i)), auth := f.auth, held := [],
                                           data := slice f.bytes (trdpPos f.bytes + 40) (tdLen f.bytes), named := ttDescs (tGet s 0xD i), descs := ttDescs (tGet s 0xD i) }] ∧
          tttRt t i = { tttRt s i with tr := some { seq := beAt f.bytes (trdpPos f.bytes) 4, at_ := ltNs s } } ∧ t.mir.sgIn = w.mir.sgIn ∧ t.slots = s.slots) ∧
      (∀ off, trdpCheck s f.bytes = some off → Answers .trdpPdReceived s fun t =>
        rd t (0x1A2000 + off) = rd s (0x1A2000 + off) + 1 ∧ getB t 0x1A2000 4 = true ∧ t.mir.sgIn = w.mir.sgIn ∧ t.work2 = s.work2)) ∧
    (∀ c, c = Instr.trdpPrReceived ∧ sgPr f = true ∨ c = .trdpMdReceived ∧ sgMd f = true → mbxPaused s = true → Answers c s fun t =>
      t.mir.waiting = s.mir.waiting ++ [f] ∧ t.mir.sgIn = w.mir.sgIn ∧ t.ring = w.ring) ∧
    (∀ p rc ip, mbxPaused s = false → sgPr f = true → trdpCheck s f.bytes = none → rc = beAt f.bytes (trdpPos f.bytes + 28) 4 → ip = beAt f.bytes (trdpPos f.bytes + 32) 4 →
      ((tList s 0xD).find? fun e => ttValid e.2 && ttSends e.2 && ttComid e.2 == tdComId f.bytes) = some p → ownBat s = true → baValid (batAt s (ttBat (tGet s 0xD p.1))) = true →
      Answers .trdpPrReceived s fun t => (tttRt t p.1).seq = ((tttRt s p.1).seq + 1) % 2 ^ 32 ∧ rd t 0x1A2098 = rd s 0x1A2098 + 1 ∧
        SgSends (ttComp (tGet s 0xD p.1)) (ttClass (tGet s 0xD p.1)) true
          [telegramFrame w p.1 0x5070 (if rc = 0 then tdComId f.bytes else rc) (if ip = 0 then ipSrc f.bytes else ip)] w t) ∧
    (mbxPaused s = false → sgMd f = true → trdpReady s = true → trdpFcs f.bytes 112 = true → frcB s 0x1A200C 22 = true → Answers .trdpMdReceived s fun t =>
      ∃ d : RxDeliv, d.src = 5 ∧ d.data = f.bytes ∧ (ringAt t (16 + frcF s 0x1A200C 21 18)).deliv = (ringAt w (16 + frcF s 0x1A200C 21 18)).deliv ++ [d] ∧
        t.mir.sgIn = w.mir.sgIn))

/-- R196 to R199, R210, R211, R230, R231, R247, R400, R480: PORT_EN takes effect, or is refused with its event; cleared, it takes the link down and
empties the queue; the link goes up, while its loop and its training let it, and down with its status, counters and events, takes the latencies of a table
that a swap has brought, and opens the grace window whose end empties the queue;
training and its retry; BLOCK; a restart of the equaliser; the PHY's in-band status; LINK_HOLD. -/
def Obligations.EthernetLinks : Prop :=
  (∀ (q : Requester) (p : Port) (data w : Word) (s : State), w = mergeWord (rd s (ethR p 0)) (putFld data 0 0 1) (ethCtrlMasks p) true (keyOk s q) → portEn s p = false →
    (portBad (wr s (ethR p 0) w) p = false → Answers (.portEnSet q p data) s fun t => rd t (ethR p 0) = w ∧ portEn t p = true ∧ armed t q = false ∧
      (port t p).training = if w.getLsbD 7 then some (ltNs s) else none) ∧
    (portBad (wr s (ethR p 0) w) p = true → Answers (.portEnSet q p data) s fun t => rd t (ethR p 0) = putFld w 0 0 0 ∧ portEn t p = false ∧ getB t (ethR p 4) 1 = true ∧ armed t q = false)) ∧
  (∀ (q : Requester) (p : Port) (data : Word) (s : State),
    (portEn s p = true → Answers (.portEnClear q p data) s fun t => portEn t p = false ∧ linkIs t p = false ∧ (port t p).training = none ∧ (port t p).retry = none ∧ armed t q = false ∧
      (p.val < 24 → egState t p = 2 ∧ ∀ f ∈ t.sw.frames, p.val ∉ f.queued)) ∧
    (p.val < 24 → Answers (.blockWrite q p data) s fun t => getB t (ethR p 0) 9 = data.getLsbD 9 ∧ portEn t p = portEn s p ∧ armed t q = false) ∧
    (linkIs s p = true → Answers (.eqRestart q p) s fun t => linkIs t p = false ∧ rd t (ethR p 0x160) = rd s (ethR p 0x160) + 1 ∧ getB t (ethR p 4) 3 = true ∧ armed t q = false ∧
      (p.val < 24 → rd t (ethR p 0x18) = BitVec.ofNat 32 ((serdesOf s p).ctle % 32) ∧ rd t (ethR p 0x20) = BitVec.ofNat 32 ((serdesOf s p).fir % 2 ^ 19)))) ∧
  (∀ (p : Port) (v : BitVec 3) (s : State),
    (∀ sp, portEn s p = true → linkIs s p = false → ready s 5 = true → portClocked s p = true → trainRuns s p = true → getF s 0x7000C 1 0 < 2 →
      (inBand (ethMode s p) = true → (port s p).halfAt = none) → modeSpeed (ethMode s p) v.toNat = some sp →
      Answers (.linkUp p v) s fun t => linkIs t p = true ∧ speedCode t p = sp ∧ getB t (ethR p 4) 2 = true ∧ portEn t p = true ∧
      (port t p).training = none ∧ (port t p).retry = none ∧ (port t p).grace = none ∧ (port t p).failAt = none ∧ (p.val < 24 → egState t p = 0) ∧
      (p.val < 24 → (port s p).latDue = true → (port t p).latDue = false ∧ getF t (0x61000 + 16 * p) 23 0 = (serdesOf s p).rxlat % 2 ^ 24 ∧
        getF t (0x61004 + 16 * p) 23 0 = (serdesOf s p).txlat % 2 ^ 24)) ∧
    ((portEn s p = false ∨ ready s 5 = false ∨ portClocked s p = false ∨ trainRuns s p = false ∨ 2 ≤ getF s 0x7000C 1 0) →
      Answers (.linkUp p v) s fun t => OnlyRegs s t []) ∧
    (portEn s p = true → linkIs s p = true → ready s 5 = true → portClocked s p = true → trainRuns s p = true → getF s 0x7000C 1 0 < 2 →
      Answers (.linkUp p v) s fun t => linkIs t p = true ∧ port t p = { port s p with failAt := none } ∧ getF t (ethR p 0x0C) 9 8 = 0 ∧ RegsKept s t [ethR p 0x0C]) ∧
    (∀ fault a, portEn s p = true → linkIs s p = true → a = (port s p).failAt.getD (ltNs s) → ltNs s < a + linkHold s p * 1000000 → halfOver s p = false → Answers (.linkDown p fault) s fun t =>
      linkIs t p = true ∧ (port t p).failAt = some a ∧ getF t (ethR p 0x0C) 9 8 = (if ethMode s p = 1 ∨ ethMode s p = 2 then fault.toNat else 0) ∧ t.sw = s.sw ∧ RegsKept s t [ethR p 0x0C]) ∧
    (∀ fault, portEn s p = true → linkIs s p = true → (port s p).failAt.getD (ltNs s) + linkHold s p * 1000000 ≤ ltNs s → Answers (.linkDown p fault) s fun t =>
      linkIs t p = false ∧ rd t (ethR p 0x160) = rd s (ethR p 0x160) + 1 ∧ getB t (ethR p 4) 3 = true ∧ (port t p).tx = none ∧ (port t p).failAt = none ∧
      (p.val < 24 → egState s p = 0 → getF s (swR p 0) 31 16 = 0 → egState t p = 2 ∧ ∀ f ∈ t.sw.frames, p.val ∉ f.queued) ∧
      (p.val < 24 → egState s p = 0 → getF s (swR p 0) 31 16 ≠ 0 → egState t p = 1 ∧ (port t p).grace = some (ltNs s) ∧ (port t p).graceMs = getF s (swR p 0) 31 16)) ∧
    (p.val < 24 → egState s p = 1 → graceOver s p = true → Answers (.graceWindowEnd p) s fun t => egState t p = 2 ∧ (port t p).grace = none ∧ ∀ f ∈ t.sw.frames, p.val ∉ f.queued) ∧
    (inBand (ethMode s p) = true → v.toNat < 3 → Answers (.phyInBandStatus p v true) s fun t => (port t p).halfAt = none ∧ (linkIs s p = true → speedCode t p = v.toNat) ∧
      RegsKept s t [ethR p 4, ethR p 0x0C] ∧ MemKept s t) ∧
    (inBand (ethMode s p) = true → v.toNat < 3 → Answers (.phyInBandStatus p v false) s fun t =>
      (port t p).halfAt = some ((port s p).halfAt.getD (ltNs s)) ∧ getB t (ethR p 4) 5 = true ∧
      (linkIs s p = true → (port s p).halfAt.getD (ltNs s) + linkHold s p * 1000000 ≤ ltNs s → linkIs t p = false) ∧
      (linkIs s p = true → ltNs s < (port s p).halfAt.getD (ltNs s) + linkHold s p * 1000000 → linkIs t p = true)) ∧
    ((inBand (ethMode s p) = false ∨ 2 < v.toNat) → ∀ full, Answers (.phyInBandStatus p v full) s fun t => OnlyRegs s t [])) ∧
  (∀ (p : Port) (s : State) (t0 : Nat), portEn s p = true →
    ((port s p).training = some t0 → t0 + 500000000 ≤ ltNs s → Answers (.trainingTimeout p) s fun t => rd t (ethR p 0x15C) = rd s (ethR p 0x15C) + 1 ∧ getB t (ethR p 4) 4 = true ∧
      port t p = { port s p with training := none, retry := some (ltNs s) } ∧ (∀ k, k ≠ p.val → port t k = port s k) ∧ RegsKept s t [ethR p 4, ethR p 0x15C] ∧ MemKept s t) ∧
    ((port s p).retry = some t0 → t0 + 100000000 ≤ ltNs s → Answers (.trainingRetry p) s fun t =>
      port t p = { port s p with training := some (ltNs s), retry := none } ∧ (∀ k, k ≠ p.val → port t k = port s k) ∧ RegsKept s t [] ∧ MemKept s t))

/-- R200 to R204, R209, R218, R223, R225 to R227, R229, R236, R254: a frame that fails a receive check is counted and goes nowhere; a
pause frame stops the port for its time; EAPOL goes to its ring; a frame for one port is decided, charged its cell and queued; the oldest
frame of a queue starts, completes and leaves as its port sends it. -/
def Obligations.EthernetFrames : Prop :=
  (∀ (p : Port) (f : RxFrame) (s : State),
    (portState s p = 0 → Answers (.ethFrameReceived p f) s fun t => OnlyRegs s t []) ∧
    (∀ c, portState s p ≠ 0 → rxCheck s p f = some c → Answers (.ethFrameReceived p f) s fun t => rd t (ethR p c) = rd s (ethR p c) + 1 ∧ t.sw = s.sw ∧ t.ring = s.ring ∧ t.mir = s.mir) ∧
    (portState s p ≠ 0 → rxCheck s p f = none → isPause f.bytes = true → Answers (.ethFrameReceived p f) s fun t => rd t (ethR p 0x138) = rd s (ethR p 0x138) + 1 ∧ t.sw = s.sw ∧
      (getB s (ethR p 0) 8 = true → (port t p).pause = some { start := lt100 s, len := beAt f.bytes 16 2 * quantum s p, quantum := quantum s p }) ∧
      (getB s (ethR p 0) 8 = false → (port t p).pause = (port s p).pause)) ∧
    (p.val < 24 → portState s p ≠ 0 → rxCheck s p f = none → etherType f.bytes = 0x888E → hasTag f.bytes = false → pairOn s p = false → msOn s p = false → Answers (.ethFrameReceived p f) s fun t =>
      ∃ d : RxDeliv, d.src = 3 ∧ d.data = f.bytes ∧ d.w3 % 2 ^ 16 = p.val ∧
        (ringAt t (16 + getF s (fwdR p 4) 7 4)).deliv = (ringAt s (16 + getF s (fwdR p 4) 7 4)).deliv ++ [d]) ∧
    (p.val < 24 → portState s p = 3 → rxCheck s p f = none → etherType f.bytes ≠ 0x888E → beAt f.bytes 12 2 ≠ 0x8808 → pairOn s p = false → msOn s p = false → linkLocal f.bytes = false → ptpGroup f.bytes = false →
      getB s 0x180000 0 = false → Answers (.ethFrameReceived p f) s fun t => rd t 0x180048 = rd s 0x180048 + 1 ∧ t.sw = s.sw)) ∧
  (∀ (p : Port) (f : RxFrame) (s a b : State) (d : DecIn) (v : Verdict) (o pl : Nat), p.val < 24 → portState s p = 3 → rxCheck s p f = none → etherType f.bytes ≠ 0x888E → beAt f.bytes 12 2 ≠ 0x8808 →
    pairOn s p = false → msOn s p = false → linkLocal f.bytes = false → ptpGroup f.bytes = false → getB s 0x180000 0 = true → f.bytes.length ≤ 224 →
    a = csumCount (add64 (add64 s (ethR p 0x100) 1) (ethR p 0x108) (f.bytes.length + 4)) p f.bytes → pl = planeOf s p →
    d = { q := p.val, phys := some p.val, comp := portOwner a p, tc := none, data := f.bytes } → decide1 a pl d = (b, v) → v.drop = false → v.targets = [o] → o < 24 → v.sg = false → v.copy = false →
    pairOn s o = false → egState s o ≠ 2 → (egState s o = 1 ∨ getB s (swR o 0) 0 = false) → cellsUse s < 131072 → planeUse s pl + 1 ≤ getF s (0x180018 + 4 * pl) 17 0 → qUse s o v.tc + 1 ≤ getF s (swR o (0x10 + 4 * v.tc)) 17 0 → v.tc < 8 →
    portUse s o + 1 ≤ getF s (swR o 8) 17 0 → Answers (.ethFrameReceived p f) s fun t =>
      (∃ g : SwFrame, t.sw.frames = s.sw.frames ++ [g] ∧ g.data = f.bytes ∧ g.queued = [o] ∧ g.sending = [] ∧ g.tc = v.tc ∧ g.vid = v.vid ∧ g.ingress = p.val ∧ g.cells = 1 ∧ g.id = s.sw.nextId) ∧
      portUse t o = portUse s o + 1 ∧ qUse t o v.tc = qUse s o v.tc + 1 ∧ cellsUse t = cellsUse s + 1) ∧
  (∀ (p : Port) (s : State),
    (paused s p = false → Answers (.pauseWindowEnd p) s fun t => port t p = { port s p with pause := none } ∧ (∀ k, k ≠ p.val → port t k = port s k) ∧ RegsKept s t [] ∧ MemKept s t) ∧
    (paused s p = true → Answers (.pauseWindowEnd p) s fun t => port t p = port s p ∧ RegsKept s t []) ∧
    (∀ f a g, mayStart s p = true → chooseFrame s p = some f → maySend s p f = true → egressBytes (cbsStart s p) f p = (a, some g) → Answers (.egressFrameStart p false) s fun t =>
      (port t p).tx = some f.id ∧ (port t p).txData = g ∧ (port t p).txTc = f.tc) ∧
    (∀ id, (port s p).tx = some id → Answers (.ethFrameTxComplete p) s fun t => Sends s t (.eth p (port s p).txData false) ∧ (port t p).tx = none ∧ (port t p).txData = []))

/-- R217, R230, R232, R242, R244, R245, R247, R254, R261, R262: SW_EN takes effect or is refused; cleared, it empties the queues; a
learning request inserts, moves or refreshes its entry, or starts the relocation that makes room for it; the ageing scan removes what has reached the age; the shadow scanner finds and
repairs a difference; the mode of a controlled port. -/
def Obligations.SwitchCore : Prop :=
  (∀ (q : Requester) (data : Word) (s : State), keyOk s q = true →
    (getB s 0x180000 0 = false → swBad s = false → Answers (.swEnSet q data) s fun t => getB t 0x180000 0 = true ∧ t.sw = s.sw ∧ armed t q = false) ∧
    (getB s 0x180000 0 = false → swBad s = true → Answers (.swEnSet q data) s fun t => getB t 0x180000 0 = false ∧ getB t 0x180004 6 = true ∧ t.sw = s.sw ∧ armed t q = false) ∧
    (getB s 0x180000 0 = true → Answers (.swEnClear q data) s fun t => getB t 0x180000 0 = false ∧ (∀ f ∈ t.sw.frames, ∀ p ∈ swPortList, p ∉ f.queued) ∧ armed t q = false)) ∧
  (∀ (pl : Plane) (s : State) (r : LearnReq) (l : List LearnReq) (k : Nat), k = planeNo pl → s.relocs = [] → (if k = 0 then s.fwd.learnA else s.fwd.learnB) = r :: l →
    (∀ i, hashFind s (0x10 + k) eftKb (eftKey r.fid r.mac) = none → hashFree s (0x10 + k) (eftKey r.fid r.mac) = some i → Answers (.learnApply pl) s fun t =>
      tGet t (0x10 + k) i = learnedEntry r.fid r.mac r.port r.comp (fwdNow s) ∧ rd t (fwdCnt 0x48 k) = rd s (fwdCnt 0x48 k) + 1 ∧ (if k = 0 then t.fwd.learnA else t.fwd.learnB) = l) ∧
    (∀ path, hashFind s (0x10 + k) eftKb (eftKey r.fid r.mac) = none → relocWay s (0x10 + k) eftKb (eftKey r.fid r.mac) = some path → Answers (.learnApply pl) s fun t =>
      t.tbl = s.tbl ∧ t.relocs = [relocOf (0x10 + k) 26 path (learnedEntry r.fid r.mac r.port r.comp (fwdNow s))] ∧ (if k = 0 then t.fwd.learnA else t.fwd.learnB) = l) ∧
    (∀ i, hashFind s (0x10 + k) eftKb (eftKey r.fid r.mac) = some i → efStatic (tGet s (0x10 + k) i) = true → Answers (.learnApply pl) s fun t => t.tbl = s.tbl ∧
      (if k = 0 then t.fwd.learnA else t.fwd.learnB) = l) ∧
    (∀ i, hashFind s (0x10 + k) eftKb (eftKey r.fid r.mac) = some i → efStatic (tGet s (0x10 + k) i) = false → efPort (tGet s (0x10 + k) i) = r.port → Answers (.learnApply pl) s fun t =>
      tGet t (0x10 + k) i = efSetAge (tGet s (0x10 + k) i) (fwdNow s)) ∧
    (∀ i, hashFind s (0x10 + k) eftKb (eftKey r.fid r.mac) = some i → efStatic (tGet s (0x10 + k) i) = false → efPort (tGet s (0x10 + k) i) ≠ r.port → Answers (.learnApply pl) s fun t =>
      tGet t (0x10 + k) i = efSetAge (ePut (tGet s (0x10 + k) i) 0 8 4 r.port) (fwdNow s) ∧ rd t (fwdCnt 0x50 k) = rd s (fwdCnt 0x50 k) + 1)) ∧
  (∀ (pl : Plane) (s : State) (k : Nat), k = planeNo pl → s.relocs = [] → getF s 0x18200C (16 * k + 15) (16 * k) ≠ 0 → Answers (.ageingScan pl) s fun t =>
    ∀ i, i < 2 ^ 20 → tGet t (0x10 + k) i = (if learned (tGet s (0x10 + k) i) = true ∧ getF s 0x18200C (16 * k + 15) (16 * k) ≤ efAgeOf s (tGet s (0x10 + k) i) then 0 else tGet s (0x10 + k) i)) ∧
  (∀ (s : State) (c i : Nat), getB s 0x182008 10 = true → c = max 0x10 (getF s 0x182024 7 0) → i = getF s 0x182024 27 8 → s.fwd.noCompare.contains (tKey c i) = false →
    (shadowForm c (tGet s c i) = shGet s c i → Answers .shadowCompareVisit s fun t => rd t 0x182024 = BitVec.ofNat 32 ((shadowNext c i).1 + (shadowNext c i).2 * 256) ∧ OnlyRegs s t [0x182024]) ∧
    (shadowForm c (tGet s c i) ≠ shGet s c i → (c ≤ 0x11 → shGet s c i = 0 → learned (tGet s c i) = false ∧ eValid (tGet s c i) = true) → Answers .shadowCompareVisit s fun t =>
      rd t 0x182080 = rd s 0x182080 + 1 ∧ getB t 0x182000 1 = true ∧ rd t 0x182024 = BitVec.ofNat 32 ((shadowNext c i).1 + (shadowNext c i).2 * 256) ∧ t.shadow = s.shadow ∧
      (getB s 0x182008 11 = false → t.tbl = s.tbl) ∧ (getB s 0x182008 11 = true → c ≤ 0x13 → tGet t c i = shGet s c i))) ∧
  (∀ (q : Requester) (p : Port) (data : Word) (s : State),
    (8 ≤ p.val → p.val < 24 → fld data 1 0 ≠ 3 → Answers (.authRegisterWrite q p data) s fun t => getF t (fwdR p 4) 7 0 = fld data 7 0 ∧ armed t q = false ∧
      (authorised t p ≠ authorised s p → getB t 0x182000 4 = true)) ∧
    (8 ≤ p.val → p.val < 24 → fld data 1 0 = 3 → Answers (.authRegisterWrite q p data) s fun t => getF t (fwdR p 4) 1 0 = getF s (fwdR p 4) 1 0 ∧ getF t (fwdR p 4) 7 2 = fld data 7 2 ∧
      armed t q = false) ∧
    (p.val < 8 ∨ p.val = 24 → Answers (.authRegisterWrite q p data) s fun t => armed t q = false ∧ OnlyRegs { s with armed := t.armed } t []))

/-- R213, R232, R234, R254, R258, R264, R492: the SW commands: the port's registers and counters, an MDIO transaction, the use of the hamper, a flush
of named classes, a table read as through a page, an INSERT whose answer waits for its relocation, the state of a controlled port. -/
def Obligations.SwitchCommands : Prop :=
  ∀ (m : Mbx) (s : State) (x : MbxReq) (c : Nat), c = leAt x.hdr 4 1 →
    (∀ p, Asks s m 0x0401 x → leAt x.hdr 6 2 = 4 → p = leAt x.fields 0 1 → p ≤ 24 → mayAct c (portOwner s p) = true → Answers (.swPortStatus m) s fun t =>
      Replies s t m x 0 (regBytes s [ethR p 0, ethR p 4, ethR p 0xC] ++ regBytes t [ethR p 0x18]) ∧
        (portEn s p = false ∨ linkIs s p = false ∨ p = 24 ∨ getB s (ethR p 0x14) 0 = true → rd t (ethR p 0x18) = rd s (ethR p 0x18))) ∧
    (∀ p, Asks s m 0x0402 x → leAt x.hdr 6 2 = 4 → p = leAt x.fields 0 1 → p ≤ 24 → leAt x.fields 1 1 ≤ 1 → mayAct c (portOwner s p) = true → Answers (.swPortCounters m) s fun t =>
      Replies s t m x 0 ((ethCounters p).flatMap fun o => leBytes 4 (rd s o).toNat) ∧ (∀ o ∈ ethCounters p, rd t o = if leAt x.fields 1 1 = 1 then 0 else rd s o)) ∧
    (∀ phy : Option (BitVec 16), Asks s m 0x0403 x → leAt x.hdr 6 2 = 8 → c = 0 → leAt x.fields 0 1 ≤ 3 → leAt x.fields 1 1 ≤ 31 → leAt x.fields 2 1 ≤ 31 → Answers (.swMdio m phy) s fun t =>
      (∀ w, phy = some w → Replies s t m x 0 (leBytes 2 (if leAt x.fields 0 1 % 2 = 0 then w.toNat else 0) ++ [0, 0])) ∧
      (phy = none → Replies s t m x 0 (if leAt x.fields 0 1 % 2 = 0 then [0xFF, 0xFF, 0, 0] else [0, 0, 0, 0])) ∧
      Sends s t (.mdio (leAt x.fields 0 1) (leAt x.fields 1 1) (leAt x.fields 2 1) (leAt x.fields 4 2) (leAt x.fields 6 2))) ∧
    (Asks s m 0x0404 x → leAt x.hdr 6 2 = 0 → c = 0 → Answers (.swHamperStatus m) s fun t =>
      Replies s t m x 0 (leBytes 4 (cellsUse s) ++ leBytes 4 (getF s 0x180028 17 0) ++ leBytes 4 (planeUse s 0) ++ leBytes 4 (planeUse s 1) ++ leBytes 4 (131072 - cellsUse s))) ∧
    (∀ q k, Asks s m 0x0405 x → leAt x.hdr 6 2 = 4 → q = leAt x.fields 0 1 → k = leAt x.fields 1 1 → getB s 0x180000 0 = true → q ≤ 26 → q ≠ 24 → k ≠ 0 →
      (c = 0 ∨ q < 24 ∧ mayAct c (portOwner s q) = true) → Answers (.swQueueFlush m) s fun t =>
        Replies s t m x 0 (leBytes 4 (s.sw.frames.filter fun f => f.queued.contains q && nbit k f.tc).length) ∧ ∀ f ∈ t.sw.frames, f.queued.contains q = true → nbit k f.tc = false) ∧
    (∀ tab i, Asks s m 0x0406 x → 8 ≤ leAt x.hdr 6 2 → leAt x.hdr 6 2 ≤ 264 → c = 0 → tab = leAt x.fields 0 1 → leAt x.fields 1 1 = 1 → leAt x.fields 2 1 = 0 → i = leAt x.fields 4 4 →
      tab ∈ readTabs → i < tCount tab → budMode s ≠ 2 → s.relocs = [] → Answers (.swTableOp m) s fun t => t.tbl = s.tbl ∧
        Replies s t m x 0 ([0, 0, 0, 0] ++ leBytes 4 i ++ (if tab = 2 then stateEntry s i else eBytes (tBytes tab) (if tab = 6 then tptAt s i else tGet s tab i)))) ∧
    (∀ r, Asks s m 0x0406 x → 8 ≤ leAt x.hdr 6 2 → leAt x.hdr 6 2 ≤ 264 → tblKnown (leAt x.fields 0 1) = true → leAt x.fields 1 1 = 4 → leAt x.fields 2 1 = 0 → s.relocs = [] →
      mbxReloc s (reqOf m false x) (padTo 256 (slice x.fields 8 (leAt x.hdr 6 2 - 8))) = some r → Answers (.swTableOp m) s fun t => t.tbl = s.tbl ∧ t.relocs = [r] ∧ (mbxAt t m).inSvc = some x ∧
        (mbxAt t m).posted = (mbxAt s m).posted) ∧
    (∀ q v, Asks s m 0x0407 x → leAt x.hdr 6 2 = 4 → q = leAt x.fields 0 1 → v = leAt x.fields 1 1 → 8 ≤ q → q ≤ 23 → v ≤ 1 → mayAct c (portOwner s q) = true → getF s (fwdR q 4) 1 0 = 2 →
      Answers (.swPortAuth m) s fun t => Replies s t m x 0 [BitVec.ofNat 8 v, 0, 0, 0] ∧ authorised t q = decide (v = 1) ∧
        (authorised s q ≠ decide (v = 1) → getB t 0x182000 4 = true))

/-- R267, R273, R275 to R278: a read of TIME_LT_NS returns the nanoseconds and latches the rest of the same tick; TIME_INC is committed
within its bound, by the servo owner alone; a write of an offset marks an update, and the domain is locked to; HOLDOVER is entered when
tracking is lost, and left when it has lasted; an armed step moves LT and both offsets. -/
def Obligations.LocalTime : Prop :=
  (∀ (q : Requester) (s : State), Answers (.timeLtNsRead q) s fun t => Sends s t (.completion q 0 (leBytes 4 (ltSubNs s))) ∧ rd t 0x60024 = BitVec.ofNat 32 (ltFrac s) ∧
    rd t 0x60028 = BitVec.ofNat 32 (ltSec s) ∧ rd t 0x6002C = BitVec.ofNat 32 (ltSec s / 2 ^ 32 % 2 ^ 16) ∧ OnlyRegs s t [0x60024, 0x60028, 0x6002C]) ∧
  (∀ (q : Requester) (data : Word) (s : State) (x y : Nat), x = getF s 0x60010 7 0 * 2 ^ 32 + data.toNat → y = max (2 * 2 ^ 32 - incBound s) (min (2 * 2 ^ 32 + incBound s) x) →
    (isServo s q = true → timeMode s ≠ 3 → Answers (.timeIncWrite q data) s fun t => t.time = { s.time with inc := y, incHist := t.time.incHist, incFrom := t.time.incFrom } ∧ rd t 0x60014 = BitVec.ofNat 32 y ∧
      getF t 0x60010 7 0 = y / 2 ^ 32 % 2 ^ 8 ∧ (y ≠ x → rd t 0x60114 = rd s 0x60114 + 1 ∧ getB t 0x60000 2 = true) ∧ armed t q = false) ∧
    (isServo s q = false ∨ timeMode s = 3 → Answers (.timeIncWrite q data) s fun t => getB t 0x60000 3 = true ∧ armed t q = false ∧ OnlyRegs { s with armed := t.armed } t [0x60000])) ∧
  (∀ (q : Requester) (d : Fin 2) (data : Word) (s : State),
    (isServo s q = false → Answers (.tdOffNsWrite q d data) s fun t => getB t 0x60000 3 = true ∧ armed t q = false ∧ OnlyRegs { s with armed := t.armed } t [0x60000]) ∧
    (isServo s q = true → getB s 0x6000C 2 = false → Answers (.tdOffNsWrite q d data) s fun t => rd t (tdR d 8) = data ∧ armed t q = false ∧
      (tdAt t d).off = sInt 32 (rd s (tdR d 4)).toNat * 1000000000 + sInt 32 data.toNat ∧ (tdAt t d).upd = some (ltNs s) ∧ (tdAt t d).loss = getF s (tdR d 0) 31 16 ∧
      (timeSel s = d.val → getB s (tdR d 0x10) 0 = true → getF s (tdR d 0) 31 16 ≠ 0 → timeMode s = 0 ∨ timeMode s = 3 → timeMode t = 1 + d.val ∧ getB t 0x60000 0 = true))) ∧
  (∀ (d : Fin 2) (s : State), timeSel s = d.val → tracking s d = false → getB s 0x60008 1 = false →
    (timeMode s = 1 ∨ timeMode s = 2 → Answers (.tdTrackingLost d) s fun t => timeMode t = 3 ∧ getB t 0x60000 0 = true ∧ t.time.holdAt = ltNs s ∧ t.time.inc = incAvg s ∧ t.time.lt = s.time.lt) ∧
    (timeMode s = 3 → holdOver s = true → Answers .holdoverExpiry s fun t => timeMode t = 0 ∧ getB t 0x60000 0 = true ∧ t.time.lt = s.time.lt)) ∧
  (∀ (q : Requester) (s : State) (x : Int), x = sInt 32 (rd s 0x60030).toNat * 1000000000 + sInt 32 (rd s 0x60034).toNat →
    (isServo s q = true → getB s 0x6000C 2 = true → Answers (.timeStep q) s fun t => t.time.lt = ((s.time.lt : Int) + x * (2 ^ 32 : Nat)).toNat % ltModulus ∧
      (tdAt t 0).off = (tdAt s 0).off - x ∧ (tdAt t 1).off = (tdAt s 1).off - x ∧ getB t 0x6000C 2 = false ∧ rd t 0x60110 = rd s 0x60110 + 1 ∧ getB t 0x60000 1 = true ∧ armed t q = false) ∧
    (isServo s q = true → getB s 0x6000C 2 = false → Answers (.timeStep q) s fun t => armed t q = false ∧ OnlyRegs { s with armed := t.armed } t []) ∧
    (isServo s q = false → Answers (.timeStep q) s fun t => getB t 0x60000 3 = true ∧ armed t q = false ∧ OnlyRegs { s with armed := t.armed } t [0x60000]))

/-- R280 to R284: the timed-event lines: a line that is OFF takes a mode, or refuses it; a change from mode to mode is ignored; a due
instant opens its window and starts its control cycle, the window ends; an edge that EDGE selects waits for FILT ticks at its level, and the edge back ends that wait; an accepted edge is captured, or counted when the FIFO is full or
the gate is closed; a read pops the oldest stamp. -/
def Obligations.TimedEvents : Prop :=
  (∀ (q : Requester) (l : Fin 16) (data w : Word) (s : State) (m : Nat), m = fld data 2 0 → w = mergeWord (rd s (teR l 0)) (putFld data 2 0 0) { rw := 0, rwd := 0xFFFF8, rwk := 0, w1c := 0, kwo := 0 } true (keyOk s q) →
    (teMode s l = 0 → 1 ≤ m → m ≤ 4 → teBad (wr s (teR l 0) w) l m = false → Answers (.teModeWrite q l data) s fun t =>
      rd t (teR l 0) = putFld w 2 0 m ∧ teAt t l = { teAt s l with active := false, done := ltNsUp s } ∧ armed t q = false) ∧
    (teMode s l = 0 → 1 ≤ m → m ≤ 4 → teBad (wr s (teR l 0) w) l m = true → Answers (.teModeWrite q l data) s fun t =>
      rd t (teR l 0) = w ∧ getB t (teR l 0x18) 4 = true ∧ t.time = s.time ∧ armed t q = false) ∧
    (teMode s l ≠ 0 → q ≠ .loader → m = 0 → Answers (.teModeWrite q l data) s fun t => rd t (teR l 0) = putFld (rd s (teR l 0)) 2 0 0 ∧ teAt t l = { teAt s l with active := false, cand := none } ∧ armed t q = false) ∧
    (teMode s l ≠ 0 → q ≠ .loader → 1 ≤ m → m ≤ 4 → m ≠ teMode s l → Answers (.teModeWrite q l data) s fun t => rd t (teR l 0) = rd s (teR l 0) ∧ getB t (teR l 0x18) 5 = true ∧ t.time = s.time ∧
      armed t q = false)) ∧
  (∀ (l : Fin 16) (s : State), powerState s < 2 →
    (∀ t0, teDrives s l = true → teDue s l = some t0 → Answers (.teWindowStart l) s fun t => teAt t l = { teAt s l with active := decide (ltNs s < t0 + teWidth s l), done := t0 + 1 } ∧
      (∀ k, k ≠ l.val → teAt t k = teAt s k) ∧ rd t (teR l 0x28) = (if teMode s l = 4 then rd s (teR l 0x28) + 1 else rd s (teR l 0x28))) ∧
    ((teAt s l).active = true → teInside s l (ltNs s) = false → Answers (.teWindowEnd l) s fun t => teAt t l = { teAt s l with active := false } ∧ (∀ k, k ≠ l.val → teAt t k = teAt s k) ∧ RegsKept s t []) ∧
    (∀ rise, nbit (teEdge s l) (if rise then 0 else 1) = true → teMode s l = 1 ∨ teMode s l = 2 → (∀ c, (teAt s l).cand = some c → c.1 ≠ rise) → teFilt s l ≠ 0 →
      Answers (.teEdgeCapture l rise) s fun t => teAt t l = { teAt s l with cand := some (rise, s.ticks, ltNs s) } ∧ RegsKept s t []) ∧
    (∀ rise c, teMode s l = 1 ∨ teMode s l = 2 → (teAt s l).cand = some c → c.1 ≠ rise → nbit (teEdge s l) (if rise then 0 else 1) = false →
      Answers (.teEdgeCapture l rise) s fun t => teAt t l = { teAt s l with cand := none } ∧ RegsKept s t []) ∧
    (∀ rise, nbit (teEdge s l) (if rise then 0 else 1) = true → (teAt s l).cand = none → teFilt s l = 0 →
      (teMode s l = 1 ∨ teMode s l = 2 ∧ teGate s l (ltNs s) = true →
        ((teAt s l).fifo.length < 8 → Answers (.teEdgeCapture l rise) s fun t => teAt t l = { teAt s l with fifo := (teAt s l).fifo ++ [(ltNs s, rise)] } ∧ getB t (teR l 0x18) 0 = true) ∧
        (8 ≤ (teAt s l).fifo.length → Answers (.teEdgeCapture l rise) s fun t => teAt t l = teAt s l ∧ rd t (teR l 0x30) = rd s (teR l 0x30) + 1 ∧ getB t (teR l 0x18) 1 = true)) ∧
      (teMode s l = 2 → teGate s l (ltNs s) = false → Answers (.teEdgeCapture l rise) s fun t => teAt t l = teAt s l ∧ rd t (teR l 0x2C) = rd s (teR l 0x2C) + 1 ∧ getB t (teR l 0x18) 2 = true ∧
        OnlyRegs s t [teR l 0x18, teR l 0x2C])) ∧
    (∀ q c r, (teAt s l).fifo = c :: r → Answers (.teCapPop q l) s fun t => teAt t l = { teAt s l with fifo := r, latch := c.1 / 1000000000 } ∧
      Sends s t (.completion q 0 (leBytes 4 ((c.1 % 1000000000 + 2 ^ 30 * bnat c.2 + 2 ^ 31) % 2 ^ 32))) ∧ rd t (teR l 0x20) = BitVec.ofNat 32 (c.1 / 1000000000) ∧ RegsKept s t [teR l 0x20, teR l 0x24]) ∧
    (∀ q, (teAt s l).fifo = [] → Answers (.teCapPop q l) s fun t => Sends s t (.completion q 0 [0, 0, 0, 0]) ∧ OnlyRegs s t []))

/-- R275, R277, R281, R288, R298, R299, R300, R301, R302, R318: TIME_GET returns what its card lists; TIME_SELECT of a domain that tracks
locks to it from the other one, and elsewhere changes nothing; TIME_ARM_STEP arms the step; TIME_SET_TE sets a line. A key is loaded as the pending key of its slot, plain or unwrapped; a
commit makes it current when its check value is the expected one, and discards it otherwise; a slot is cleared and reported; the PUF is
enrolled once. -/
def Obligations.TimeAndKeyCommands : Prop :=
  (∀ (m : Mbx) (s : State) (x : MbxReq),
      (Asks s m 0x0501 x → leAt x.hdr 6 2 = 0 → Answers (.timeGet m) s fun t => Replies s t m x 0 (timeBytes s) ∧ t.time = s.time) ∧
      (∀ d, Asks s m 0x0502 x → leAt x.hdr 6 2 = 4 → leAt x.hdr 4 1 = 0 → d = leAt x.fields 0 1 → d ≤ 1 → tracking s d = true → getB s 0x6000C 2 = false → Answers (.timeSelect m) s fun t =>
        Replies s t m x 0 [BitVec.ofNat 8 (timeMode t), 0, 0, 0] ∧ t.time = { s.time with incHist := t.time.incHist, incFrom := t.time.incFrom } ∧
        (timeMode s = 2 - d → timeMode t = 1 + d ∧ timeSel t = d ∧ getB t 0x60000 0 = true) ∧ (timeMode s ≠ 2 - d → timeMode t = timeMode s ∧ timeSel t = timeSel s)) ∧
      (Asks s m 0x0503 x → leAt x.hdr 6 2 = 0 → leAt x.hdr 4 1 = 0 → Answers (.timeArmStep m) s fun t => Replies s t m x 0 [] ∧ getB t 0x6000C 2 = true ∧ t.time = s.time) ∧
      (∀ n, Asks s m 0x0504 x → leAt x.hdr 6 2 = 28 → leAt x.hdr 4 1 = 0 → n = leAt x.fields 0 1 → n ≤ 15 → leAt x.fields 4 4 % 8 ≤ 4 →
        (teSetOp s n (teWords (reqOf m false x))).2 = true → Answers (.timeSetTe m) s fun t => Replies s t m x 0 [BitVec.ofNat 8 (leAt x.fields 4 4 % 8), 0, 0, 0] ∧
          teMode t n = leAt x.fields 4 4 % 8 ∧ (teAt t n).fifo = [] ∧ (teAt t n).active = false ∧ rd t (teR n 4) = BitVec.ofNat 32 (leAt x.fields 8 4) ∧
          rd t (teR n 0x10) = BitVec.ofNat 32 (leAt x.fields 20 4) ∧ rd t (teR n 0x14) = BitVec.ofNat 32 (leAt x.fields 24 4)) ∧
      (∀ n, Asks s m 0x0504 x → leAt x.hdr 6 2 = 28 → leAt x.hdr 4 1 = 0 → n = leAt x.fields 0 1 → n ≤ 15 → (teSetOp s n (teWords (reqOf m false x))).2 = false →
        Answers (.timeSetTe m) s fun t => Replies s t m x 2 [] ∧ teMode t n = 0 ∧ (teAt t n).fifo = [])) ∧
  (∀ (m : Mbx) (s : State) (x : MbxReq) (k : Nat), k = leAt x.fields 0 2 → k ≤ 1023 → mayAct (leAt x.hdr 4 1) (slotOwner s k) = true →
      (Asks s m 0x0601 x → keyReady s = true → leAt x.fields 2 1 = 2 → leAt x.fields 8 1 ≤ 1 → leAt x.hdr 6 2 = 12 + 16 * (leAt x.fields 8 1 + 1) → leAt x.fields 6 2 ≤ 511 → getB s 0x90008 0 = true → Answers (.secKeyLoad m) s fun t =>
        Replies s t m x 0 (kcv (x.fields.drop 12)) ∧ keyAt t k = { keyAt s k with pend := some (x.fields.drop 12) } ∧ usagePend t k = leAt x.fields 6 2 ∧ usageCur t k = usageCur s k) ∧
      (∀ kek, Asks s m 0x0601 x → keyReady s = true → leAt x.fields 2 1 < 2 → (leAt x.fields 2 1 = 0 → rootOk s = true) → (leAt x.fields 2 1 = 1 → leAt x.fields 4 2 ≤ 1023) → (leAt x.hdr 6 2 = 44 ∨ leAt x.hdr 6 2 = 60) →
        loadKek s (reqOf m false x) = some kek → Answers (.secKeyLoad m) s fun t =>
          match unwrapKey s kek k (x.fields.drop 12) with
          | some u => Replies s t m x 0 (kcv u.2) ∧ keyAt t k = { keyAt s k with pend := some u.2 } ∧ usagePend t k = u.1
          | none => Replies s t m x 6 [] ∧ keyAt t k = keyAt s k ∧ getB t 0x90000 5 = true) ∧
      (∀ key, Asks s m 0x0602 x → keyReady s = true → leAt x.hdr 6 2 = 8 → (keyAt s k).pend = some key → Answers (.secKeyCommit m) s fun t =>
        (kcv key = slice x.fields 4 4 → Replies s t m x 0 [] ∧ keyAt t k = { cur := some key, pend := none } ∧ usageCur t k = usagePend s k ∧ usagePend t k = 0) ∧
        (kcv key ≠ slice x.fields 4 4 → Replies s t m x 6 [] ∧ keyAt t k = { keyAt s k with pend := none } ∧ usageCur t k = usageCur s k ∧ getB t 0x90000 5 = true)) ∧
      (Asks s m 0x0603 x → keyReady s = true → leAt x.hdr 6 2 = 4 → Answers (.secKeyClear m) s fun t => Replies s t m x 0 [] ∧ keyAt t k = KeySlot.init ∧ usageCur t k = 0 ∧ usagePend t k = 0) ∧
      (Asks s m 0x0604 x → leAt x.hdr 6 2 = 4 → Answers (.secKeyInfo m) s fun t => Replies s t m x 0 (keyInfo s k) ∧ t.sec = s.sec) ∧
      (Asks s m 0x0605 x → keyReady s = true → leAt x.hdr 6 2 = 0 → leAt x.hdr 4 1 = 0 → s.otp.enrolled = false → Answers (.secPufEnroll m) s fun t =>
        Replies s t m x 0 (padTo 2048 Config.helperData) ∧ t.otp.enrolled = true ∧ t.sec = s.sec ∧ getB t 0x90010 2 = getB s 0x90010 2))

/-- R295 to R297, R292: a job is pushed with its eight words, or refused at sixteen; the oldest job of a page is checked and done: a
refused job changes no memory, an operation writes its result or tells that verification failed; the completion carries TAG and STATUS,
and a read of JOB_DONE pops it; a guard alarm ends the job in hand and erases its key, stands against the work in hand of the other engines until it ends, and
clears the key registers of an idle one. -/
def Obligations.CipherJobs : Prop :=
  (∀ (q : Requester) (c : Page) (s : State),
    (pageUsed s c = true → jobHeld s c < 16 → Answers (.jobPush q c) s fun t =>
      jobPage t c = { jobPage s c with jobs := (jobPage s c).jobs ++ [(List.range 8).map fun k => rd s (jobR c (4 * k))] } ∧ (∀ k, k ≠ c.val → jobPage t k = jobPage s k) ∧ armed t q = false ∧ RegsKept s t []) ∧
    (pageUsed s c = true → 16 ≤ jobHeld s c → Answers (.jobPush q c) s fun t => getB t (jobR c 0x28) 10 = true ∧ armed t q = false ∧ OnlyRegs { s with armed := t.armed } t [jobR c 0x28]) ∧
    (pageUsed s c = false → Answers (.jobPush q c) s fun t => armed t q = false ∧ t.sec = s.sec ∧ (q ≠ .host → OnlyRegs { s with armed := t.armed } t []) ∧ (q = .host → rd t 0x51014 = rd s 0x51014 + 1)) ∧
    (∀ d l, pageUsed s c = true → (jobPage s c).done = d :: l → Answers (.jobDonePop q c) s fun t => Sends s t (.completion q 0 (leBytes 4 d.toNat)) ∧
      jobPage t c = { jobPage s c with done := l } ∧ (∀ k, k ≠ c.val → jobPage t k = jobPage s k) ∧ RegsKept s t []) ∧
    (pageUsed s c = true → (jobPage s c).done = [] → Answers (.jobDonePop q c) s fun t => Sends s t (.completion q 0 [0, 0, 0, 0]) ∧ jobPage t c = jobPage s c ∧ RegsKept s t []) ∧
    (pageUsed s c = false → Answers (.jobDonePop q c) s fun t => (q = .host → Sends s t (.abort (jobR c 0x24))) ∧ jobPage t c = jobPage s c ∧ RegsKept s t [])) ∧
  (∀ (c : Page) (s : State) (j : List Word) (l : List (List Word)) (key inp iv aad : List Byte), (jobPage s c).jobs = j :: l → key = jobKek s j → aad = memRead s (jbSrc j) (jbAad j) →
    inp = memRead s (jbSrc j + jbAad j) (jbLen j) → iv = memRead s (jbIv j) 12 →
    (jobCheck s c j ≠ 0 → Answers (.jobExecute c) s fun t => (jobPage t c).jobs = l ∧ (jobPage t c).done = (jobPage s c).done ++ [BitVec.ofNat 32 (jbTag j + 2 ^ 16 * jobCheck s c j + 2 ^ 31)] ∧
      rd t 0x90044 = rd s 0x90044 + 1 ∧ MemKept s t ∧ t.sec.slots = s.sec.slots ∧ RegsKept s t [0x90044]) ∧
    (jobCheck s c j = 0 → ([0, 1, 2, 3].any (guardDouble s)) = false → Answers (.jobExecute c) s fun t => (jobPage t c).jobs = l ∧ ∃ st,
      (jobPage t c).done = (jobPage s c).done ++ [BitVec.ofNat 32 (jbTag j + 2 ^ 16 * st + 2 ^ 31)] ∧ rd t (if st = 0 then 0x90040 else 0x90044) = rd s (if st = 0 then 0x90040 else 0x90044) + 1 ∧
      (jbOp j = 0 → st = 0 ∧ memRead t (jbTagAdr j) (jbTagLen j) = padTo (jbTagLen j) (Config.gcmEnc key iv aad inp).2) ∧
      (jbOp j = 1 → memRead t (jbDst j) (jbLen j) = (if padTo (jbTagLen j) (Config.gcmDec key iv aad inp).2 = memRead s (jbTagAdr j) (jbTagLen j) then padTo (jbLen j) (Config.gcmDec key iv aad inp).1
          else List.replicate (jbLen j) 0) ∧ (st = 0 ↔ padTo (jbTagLen j) (Config.gcmDec key iv aad inp).2 = memRead s (jbTagAdr j) (jbTagLen j)) ∧ (st = 0 ∨ st = 1)) ∧
      (jbOp j = 2 → st = 0 ∧ memRead t (jbTagAdr j) (jbTagLen j) = padTo (jbTagLen j) (Config.cmac key inp)) ∧
      (jbOp j = 3 → MemKept s t ∧ (st = 0 ↔ padTo (jbTagLen j) (Config.cmac key inp) = memRead s (jbTagAdr j) (jbTagLen j)) ∧ (st = 0 ∨ st = 1)) ∧
      (jbOp j = 4 → st = 0 ∧ memRead t (jbDst j) (wrapLen s j) = padTo (wrapLen s j) (Config.keyWrap key (wrapPlain s (jbSlot2 j) (((keyAt s (jbSlot2 j)).cur).getD [])))) ∧
      (jbOp j = 5 → MemKept s t ∧ match unwrapKey s key (jbSlot2 j) inp with
        | some u => st = 0 ∧ keyAt t (jbSlot2 j) = { keyAt s (jbSlot2 j) with pend := some u.2 } ∧ usagePend t (jbSlot2 j) = u.1
        | none => st = 1 ∧ keyAt t (jbSlot2 j) = keyAt s (jbSlot2 j) ∧ getB t 0x90000 5 = true))) ∧
  (∀ (e : Fin 13) (busy : BitVec 9) (s : State),
    (∀ c j, e.val < 4 → getF s 0x7000C 1 0 < 2 → engineJob s e = some (c, j) → Answers (.guardParityError e busy) s fun t => rd t 0x90054 = rd s 0x90054 + 1 ∧ getB t 0x90000 1 = true ∧
      (jobPage t c).jobs = (jobPage s c).jobs.drop 1 ∧ (jobPage t c).done = (jobPage s c).done ++ [BitVec.ofNat 32 (jbTag j + 2 ^ 16 * 4 + 2 ^ 31)] ∧
      keyAt t (jobSlot j) = (if guardDouble s e then keyAt s (jobSlot j) else KeySlot.init)) ∧
    (4 ≤ e.val → getF s 0x7000C 1 0 < 2 → busy.getLsbD (e - 4) = true → Answers (.guardParityError e busy) s fun t => engineAlarm t e = 1 ∧
      OnlyRegs { s with sec := { s.sec with alarms := t.sec.alarms } } t []) ∧
    (getF s 0x7000C 1 0 < 2 → (if e.val < 4 then engineJob s e = none else busy.getLsbD (e - 4) = false) → Answers (.guardParityError e busy) s fun t =>
      engineKey t e = (if guardDouble s e then engineKey s e else none) ∧ OnlyRegs { s with sec := { s.sec with engines := t.sec.engines } } t []) ∧
    (2 ≤ getF s 0x7000C 1 0 → Answers (.guardParityError e busy) s fun t => OnlyRegs s t []))

/-- R291, R302 to R305, R316, R505, R506, R508: the key store becomes ready with the root of the first good copy of the helper data; a tamper event erases every
key, the root and the engines' key registers, or is kept for the wake from SLEEP; SEC_SENSOR follows pins and sensors; a pin that is not to erase, and BYPASS
and SAMPLE/PRELOAD of the test port, erase nothing, and a pin's trip before the device is configured is kept; a sensor that is not to erase is a guard alarm to every engine. -/
def Obligations.KeyStoreAndTamper : Prop :=
  (∀ (s : State),
    (getF s 0x90010 1 0 = 0 → 2 ≤ s.boot.stage → s.boot.rescue = false → flashWaits s = false → Answers .keyStoreLoaded s fun t => getF t 0x90010 1 0 = 1 ∧ t.sec.root = regenerate s ∧
      getB t 0x90010 2 = (regenerate s).isSome ∧ ready t 6 = true ∧ getB t 0x18 6 = (s.otp.enrolled && (regenerate s).isNone) ∧ t.sec.start.isSome = true ∧
      t.sec.slots = s.sec.slots ∧ t.sec.engines = s.sec.engines) ∧
    (getF s 0x90010 1 0 ≠ 0 ∨ s.boot.stage < 2 ∨ s.boot.rescue = true ∨ flashWaits s = true → Answers .keyStoreLoaded s fun t => OnlyRegs s t [])) ∧
  (∀ (i : Instr) (s : State) (b : Nat) (also : BitVec 5) (busy : BitVec 9),
    ((∃ p : Fin 2, i = .tamperPinTrip p true also busy ∧ b = 3 + p.val ∧ nbit (tamperSources s) p = true) ∨
      (∃ k : Fin 3, i = .sensorTrip k true also busy ∧ b = k.val ∧ nbit (tamperSources s) (2 + k) = true)) →
    (inSleep s = false → Answers i s fun t => t.sec.slots = [] ∧ t.sec.root = none ∧ t.sec.start = none ∧ t.sec.engines = [] ∧ getF t 0x90010 1 0 = 2 ∧ getB t 0x90010 2 = false ∧
      rd t 0x9005C = rd s 0x9005C + 1 ∧ getB t 0x90000 3 = true ∧ getB t 0x90018 b = true ∧ ∀ e, 4 ≤ e → e < 13 → busy.getLsbD (e - 4) = true → engineAlarm t e = 256) ∧
    (inSleep s = true → Answers i s fun t => t.sec.tamperLatch ≠ 0 ∧ t.sec = { s.sec with tamperLatch := t.sec.tamperLatch, tripped := t.sec.tripped } ∧ RegsKept s t [])) ∧
  (∀ (p : Fin 2) (low : Bool) (also : BitVec 5) (busy : BitVec 9) (s : State), nbit (tamperSources s) p = false ∨ low = false → Answers (.tamperPinTrip p low also busy) s fun t =>
    OnlyRegs { s with sec := { s.sec with pinLatch := t.sec.pinLatch } } t [0x90018] ∧ (inSleep s = false → getB t 0x90018 (3 + p) = low) ∧
    t.sec.pinLatch = if low && ready s 0 && !ready s 11 then s.sec.pinLatch ||| 2 ^ p.val else s.sec.pinLatch) ∧
  (∀ (k : Fin 3) (also : BitVec 5) (busy : BitVec 9) (s : State),
    (Answers (.sensorTrip k false also busy) s fun t => OnlyRegs { s with sec := { s.sec with tripped := t.sec.tripped } } t [0x90018] ∧ (inSleep s = false → getB t 0x90018 k = false)) ∧
    (nbit (tamperSources s) (2 + k) = false → powerState s < 2 → Answers (.sensorTrip k true also busy) s fun t => getB t 0x90018 k = true ∧
      (∀ e c j, e < 4 → engineJob s e = some (c, j) → (jobPage t c).jobs = (jobPage s c).jobs.drop 1 ∧
        (jobPage t c).done = (jobPage s c).done ++ [BitVec.ofNat 32 (jbTag j + 2 ^ 16 * 4 + 2 ^ 31)] ∧ (guardDouble s e = false → keyAt t (jobSlot j) = KeySlot.init)) ∧
      (∀ e, 4 ≤ e → e < 13 → busy.getLsbD (e - 4) = true → engineAlarm t e = 2 ^ k.val + 1)) ∧
    (nbit (tamperSources s) (2 + k) = false → powerState s < 2 → busy = 0 → (∀ e, e < 4 → engineJob s e = none) → Answers (.sensorTrip k true also busy) s fun t =>
      OnlyRegs { s with sec := { s.sec with engines := t.sec.engines, tripped := t.sec.tripped } } t [0x90018] ∧ ∀ e, e < 13 → guardDouble s e = false → engineKey t e = none)) ∧
  (∀ (ir : BitVec 8) (s : State),
    (inSleep s = false → Answers (.jtagInstructionLoad ir) s fun t => t.sec.tap = tapOf ir ∧
      (Config.jtagCode ir < 2 → OnlyRegs { s with sec := { s.sec with tap := tapOf ir } } t []) ∧
      (2 ≤ Config.jtagCode ir → t.sec.slots = [] ∧ t.sec.root = none ∧ t.sec.engines = [] ∧ rd t 0x9005C = rd s 0x9005C + 1 ∧ getB t 0x90000 3 = true)) ∧
    (inSleep s = true → Answers (.jtagInstructionLoad ir) s fun t => OnlyRegs s t []))

/-- R365, R368, R426, R432, R463, R490: a script goes on entry by entry and stops at one that fails; START ends with the service of
mailboxes and HOSTLESS; a restart of Popezal ends the script and aborts what is in service, and the third within a second resets the
device; Popezal serves, or has not come. -/
def Obligations.SupervisorRuns : Prop :=
  (∀ (s a : State) (x y : Script) (e : MbxReq) (st : Nat), s.script = some x → mbxPaused s = false → powerState s < 2 → x.stopReq = false → x.entries[x.next]? = some e → runEntry s e = (a, st) →
    a.script = some y → a.upd.reset = false → y.stopReq = false →
    (st = 0 → x.next + 1 < y.entries.length → Answers .scriptEntryExecute s fun t => t.script = some { y with next := x.next + 1, lastCode := leAt e.hdr 0 2, lastStat := 0 } ∧ RegsKept a t []) ∧
    (st ≠ 0 → y.hostless = true → Answers .scriptEntryExecute s fun t => t.script = none ∧ getB t 0x3A004 1 = false) ∧
    (st ≠ 0 ∨ y.entries.length ≤ x.next + 1 → y.hostless = false → Answers .scriptEntryExecute s fun t => ready t 9 = true ∧ hostlessBit t = 1 ∧ ∃ z, t.script = some z ∧ z.hostless = true ∧ z.next = 0)) ∧
  (∀ (s : State) (i : Instr), i = .popezalRestart ∨ i = .watchdogExpiry ∨ i = .lockstepDisagree ∧ budMode s ≠ 1 ∧ budMode s ≠ 2 → s.boot.popOk = true →
    ((restartsNow s).length < 3 → s.upd.swaps ≠ 4 → Answers i s fun t => ready t 9 = false ∧ t.script = none ∧ (∀ m, m < 10 → (mbxAt t m).inSvc = none) ∧ t.boot.restarts = restartsNow s ∧
      t.boot.popOk = popCopyOk s ∧ (popCopyOk s = false → getB t 0x18 9 = true) ∧ (i = .lockstepDisagree → getB t 0x34 6 = true)) ∧
    (3 ≤ (restartsNow s).length → Answers i s fun t => t.boot.stage = 1 ∧ t.boot.cause = 2 ∧ ready t 9 = false ∧ t.script = none)) ∧
  (∀ s : State, budMode s = 1 ∨ budMode s = 2 → s.boot.popOk = true → (restartsNow s).length < 3 → s.upd.swaps ≠ 4 → Answers .lockstepDisagree s fun t =>
    getB t 0x34 6 = true ∧ ready t 9 = false ∧ budMode t = 3 ∧ t.bud.failed = true ∧ t.bud.gate = false ∧ t.bud.canGate = 0) ∧
  (∀ s : State, s.boot.popOk = true → ready s 9 = false → s.script = none → powerState s < 2 →
    (s.boot.startRun = true → Answers .popezalServing s fun t => ready t 9 = true ∧ t.script = none) ∧
    (s.boot.startRun = false → Answers .popezalServing s fun t => t.boot.startRun = true ∧ ready t 9 = false ∧ getB t 0x3A004 1 = true ∧ ∃ z, t.script = some z ∧ z.hostless = false ∧ z.next = 0)) ∧
  (∀ s : State,
    (s.boot.popOk = true → ready s 9 = false → Answers .popezalLoadTimeout s fun t => getB t 0x18 9 = true ∧ OnlyRegs s t [0x18]) ∧
    (s.boot.popOk = false ∨ ready s 9 = true → Answers .popezalLoadTimeout s fun t => OnlyRegs s t []))

/-- R124, R429 to R431, R463, R489, R491: what ECC finds is counted; an uncorrectable error costs the slots of its block, the block of the
host window, the key of its slot, the entry of its table; a thermal fault takes a unit out of its pair; a block goes back to reset and its
records are applied again, once the flash can be read. -/
def Obligations.FaultsAndBlockResets : Prop :=
  (∀ (s : State) (a : Word) (b i : Nat) (g : BitVec 25), budMode s ≠ 1 → budMode s ≠ 2 →
    Answers (.memoryScrubVisit (.dramCorrected a)) s (fun t => houseAt t 24 = (houseAt s 24 + 1) % 2 ^ 64 ∧ OnlyRegs { s with house := t.house } t []) ∧
    Answers (.memoryScrubVisit (.sramCorrected b i)) s (fun t => houseAt t 26 = (houseAt s 26 + 1) % 2 ^ 64 ∧ OnlyRegs { s with house := t.house } t []) ∧
    (ready s 7 = true → a.toNat < 0x20000000 → Answers (.memoryScrubVisit (.dramUncorrectable a)) s fun t => (∀ k, k / 4 = a.toNat / 64 → slotAt t k = Slot.init) ∧
      (∀ k, k / 4 ≠ a.toNat / 64 → slotAt t k = slotAt s k) ∧ getB t 0x34 3 = true ∧ rd t 0x1A0034 = rd s 0x1A0034 + 4 ∧ getB t 0x1A0000 2 = true) ∧
    (ready s 7 = true → 0x37000000 ≤ a.toNat → a.toNat < hostBase + hostSize s → Answers (.memoryScrubVisit (.dramUncorrectable a)) s fun t =>
      memRead t (a.toNat / 64 * 64) 64 = List.replicate 64 0 ∧ (∀ k, k < a.toNat / 64 * 64 ∨ a.toNat / 64 * 64 + 64 ≤ k → memByte t k = memByte s k) ∧ getB t 0x34 3 = true ∧
      t.pcie.poison.contains (a.toNat / 64 * 64) = true) ∧
    (∀ k, cacheHit s g.toNat = some k → (cacheAt s k).dirty = true → Answers (.memoryScrubVisit (.cacheLine g)) s fun t => slotAt t g.toNat = Slot.init ∧ cacheAt t k = { cacheAt s k with dirty := false } ∧
      (∀ j, j ≠ g.toNat → slotAt t j = slotAt s j) ∧ getB t 0x34 4 = true) ∧
    (∀ k, cacheHit s g.toNat = some k → (cacheAt s k).dirty = false → Answers (.memoryScrubVisit (.cacheLine g)) s fun t => t.slots = s.slots ∧ cacheAt t k = cacheAt s k ∧ getB t 0x34 4 = true) ∧
    (i < 1024 → Answers (.memoryScrubVisit (.sramUncorrectable arrKey i)) s fun t => keyAt t i = KeySlot.init ∧ getB t 0x34 4 = true) ∧
    (∀ c, copyHolding s.copies i = some c → Answers (.memoryScrubVisit (.sramUncorrectable arrPool i)) s fun t => rd t (0x1A10C0 + 4 * (copyAt s c).pool) = rd s (0x1A10C0 + 4 * (copyAt s c).pool) + 1 ∧
      getB t 0x1A1000 0 = true ∧ getB t 0x34 4 = true ∧ t.slots = s.slots) ∧
    (b ∈ [4, 5, 8, 9, 0xA, 0xB, 0xC, 0xD] → i < tCount b → Answers (.memoryScrubVisit (.sramUncorrectable b i)) s fun t => tGet t b i = 0 ∧ OtherEntries s t b i ∧ getB t 0x34 4 = true)) ∧
  (∀ s : State, Answers .thermalFault s fun t => getB t 0x34 7 = true ∧ (budMode s = 1 ∨ budMode s = 2 → budMode t = 3 ∧ t.bud.failed = true ∧ t.bud.gate = false ∧ t.bud.canGate = 0) ∧
    (budMode s = 0 ∨ budMode s = 3 → OnlyRegs s t [0x34])) ∧
  (∀ (b : ResetBlk) (s : State), s.boot.blk = none → 4 ≤ s.boot.stage →
    (b ≠ .supervisor → Answers (.blockReset b) s fun t => t.boot.blk = some (b, (blkRecords s b).map List.length) ∧ t.boot.blkHeld = flashWaits s) ∧
    (b ≠ .supervisor → flashWaits s = true ∨ blkRecords s b = none ∨ blkRecords s b = some [] → Answers (.blockReset b) s fun t =>
      (∀ o, inBlk b o = true → ¬ (∃ p : Port, b = .eth p ∧ o ∈ [ethR p 0x18, ethR p 0x1C, ethR p 0x20]) → (∀ n : Chan, b = .can n → o ≠ canR n 0x30) → rd t o = resetWord o) ∧
      ∀ n : Chan, b = .can n → getB t (canR n 0x30) 17 = decide ((segAt s n).st = 2 ∨ 2 ≤ powerState s)) ∧
    (∀ (n : Chan) (r : LoadRec), b = .can n → flashWaits s = false → blkRecords s b = some [r] → r.kind = 1 → r.addr = canR n 0x10 → Answers (.blockReset b) s fun t =>
      ∀ m, regMasks (canR n 0x10) = some m → rd t (canR n 0x10) = mergeWord (resetWord (canR n 0x10)) (BitVec.ofNat 32 (leAt r.data 0 4)) m true true) ∧
    (∀ e c j, b = .cipher e → engineJob s e = some (c, j) → Answers (.blockReset b) s fun t => (jobPage t c).jobs = (jobPage s c).jobs.drop 1 ∧ engineKey t e = none ∧
      (jobPage t c).done = (jobPage s c).done ++ [BitVec.ofNat 32 (jbTag j + 2 ^ 16 * 5 + 2 ^ 31)]) ∧
    (b = .supervisor → s.boot.popOk = true → (restartsNow s).length < 3 → s.upd.swaps ≠ 4 → Answers (.blockReset b) s fun t => ready t 9 = false ∧ ∃ n, t.boot.blk = some (b, n))) ∧
  (∀ s : State, s.boot.blk = none → Answers .blockResetComplete s fun t => OnlyNoted { s with boot := { s.boot with supReset := false } } t []) ∧
  (∀ (s : State) (b : ResetBlk) (n : Option Nat), s.boot.blk = some (b, n) →
    (s.boot.blkHeld = true → flashWaits s = true → Answers .blockResetComplete s fun t => OnlyRegs s t []) ∧
    (b ≠ .switch → s.boot.blkHeld = false ∨ flashWaits s = false ∧ (blkRecords s b = none ∨ blkRecords s b = some []) → Answers .blockResetComplete s fun t =>
      OnlyNoted { s with boot := { s.boot with blk := none, blkHeld := false } } t []) ∧
    (∀ (c : Chan) (r : LoadRec), b = .can c → s.boot.blkHeld = true → flashWaits s = false → blkRecords s b = some [r] → r.kind = 1 → r.addr = canR c 0x10 → Answers .blockResetComplete s fun t =>
      t.boot.blk = none ∧ (rd s (canR c 0x10) = resetWord (canR c 0x10) → modeReq s c = 0 →
        ∀ m, regMasks (canR c 0x10) = some m → rd t (canR c 0x10) = mergeWord (resetWord (canR c 0x10)) (BitVec.ofNat 32 (leAt r.data 0 4)) m true true)) ∧
    (b = .switch → s.boot.blkHeld = false → Answers .blockResetComplete s fun t => t.boot.blk = none ∧ t.sw = s.sw ∧ ∀ p, p < 24 → egState t p = (if portEn s p && linkIs s p then 0 else egState s p)))

/-- R391, R404, R412, R413: DEVICE in DEV_RESET, with the key armed, starts the device with cause 2; without it the write is rejected. A
cold start leaves OTP and flash. RESET_N or a brown-out holds the device in reset, and its end starts it with the cause that was latched;
in SLEEP the lantern latches it and nothing else happens; a rail that is not on, or a device without power, has no brown-out. -/
def Obligations.KindsOfStart : Prop :=
  (∀ (q : Requester) (s : State),
    (keyOk s q = true → Answers (.deviceResetWrite q) s fun t => Started s t 2 0 ∧ armed t q = false) ∧
    (keyOk s q = false → Answers (.deviceResetWrite q) s fun t => rd t 0x2C = rd s 0x2C + 1 ∧ getB t 4 0 = true ∧ OnlyRegsOf q s t [4, 0x2C])) ∧
  (∀ s : State, Answers .coldStart s fun t => ColdStarted s t) ∧
  (∀ s : State,
    (s.boot.resetLow = true → Answers .deviceReset s fun t => Started s t s.boot.cause s.boot.causeRail) ∧
    (s.boot.resetLow = false → Answers .deviceReset s fun t => OnlyRegs s t [])) ∧
  (∀ s : State,
    (inSleep s = false → Answers .resetNAsserted s fun t => HeldInReset s t 1 0 ∧ t.sec.owed = s.sec.owed) ∧
    (inSleep s = true → Answers .resetNAsserted s fun t => OnlyRegs { s with boot := { s.boot with cause := 1, causeRail := 0, resetLow := true } } t [])) ∧
  (∀ (r : Fin 8) (s : State),
    (r = 7 → Answers (.brownOut r) s fun t => ColdStarted s t) ∧
    (r = 0 ∨ r = 1 ∨ r = 2 ∨ r = 6 → railOn s r = true → 0 < s.boot.stage ∨ inSleep s = true → Answers (.brownOut r) s fun t => HeldInReset s t 3 r ∧
      t.sec.owed = s.sec.owed ++ s.sec.tripped) ∧
    (r ≠ 7 → railOn s r = false ∨ s.boot.stage = 0 ∧ inSleep s = false → Answers (.brownOut r) s fun t => OnlyRegs s t []) ∧
    (r = 3 ∨ r = 4 ∨ r = 5 → Answers (.brownOut r) s fun t => OnlyRegs s t []))

/-- R405, R406, R414, R417 to R421, R426, R427: the start-up sequence: the lantern, the rails with the loops on the internal oscillator;
the loader waits while the flash cannot be read, without a valid boot record it enters rescue, a section with the right CRC is applied, one with a wrong CRC ends the start with a
device reset, or in rescue once the other bank has been tried; device memory trains, or has failed; the crystal is late. -/
def Obligations.StartUpSequence : Prop :=
  (∀ s : State,
    (s.boot.stage = 0 → s.boot.resetLow = false → powerState s < 2 → Answers .lanternUp s fun t => ready t 0 = true ∧ OnlyRegs { s with boot := { s.boot with stage := 1 } } t [0x14]) ∧
    (s.boot.stage ≠ 0 ∨ s.boot.resetLow = true ∨ 2 ≤ powerState s → Answers .lanternUp s fun t => OnlyRegs s t []) ∧
    (s.boot.stage = 1 → Answers .railsUp s fun t => ready t 1 = true ∧ getF t 0x10018 7 0 = 0xFF ∧ getB t 0x10108 1 = s.otp.trimOk ∧ (∀ k ∈ [0, 1, 2, 4], loopSrc t k = 1) ∧ loopSrc t 3 = 0 ∧
      loopSrc t 5 = (if sdrefOk s then 2 else 0) ∧
      OnlyRegs { s with boot := { s.boot with stage := 2 }, clk := { s.clk with qual := [(0, (s.ticks, 500000)), (2, (s.ticks, 0))] }, pcie := { s.pcie with link := !s.pcie.perst } } t [0x14, 0x1000C, 0x10018, 0x10108]) ∧
    (s.boot.stage ≠ 1 → Answers .railsUp s fun t => OnlyRegs s t [])) ∧
  (∀ s : State, flashWaits s = true ∨ s.boot.rescue = true ∨ s.boot.stage < 2 → Answers .loaderSectionApplied s fun t => OnlyRegs s t []) ∧
  (∀ s : State, s.boot.rescue = false → flashWaits s = false → s.boot.stage = 2 → followed s = none → Answers .loaderSectionApplied s fun t => t.boot.rescue = true ∧ t.boot.stage = 3 ∧ t.flash = s.flash ∧
    t.otp = s.otp ∧ t.slots = [] ∧ rd t 0x14 = rd s 0x14 &&& 0xB ∧ (∀ b ∈ [2, 4, 5, 8, 9, 11], getB t 0x18 b = true) ∧ (∀ o, 0x10000 ≤ o → o < 0x11000 → rd t o = rd s o) ∧
    ∀ o, 0x11000 ≤ o → (o < 0x70000 ∨ 0x70700 ≤ o) → o ≠ 0x8000C → rd t o = resetWord o) ∧
  (∀ (s : State) (ty : Nat) (rest : List Nat) (ds : List DirEnt) (e : DirEnt), s.boot.rescue = false → flashWaits s = false → 3 ≤ s.boot.stage → s.boot.todo = ty :: rest → ty ≠ 8 → bankDir s s.boot.bank = some ds →
    dirFind ds ty = some e →
    (crc32c (sectionBytes s s.boot.bank e) = e.crc →
      (ty = 2 ∨ ty = 7 → Answers .loaderSectionApplied s fun t => OnlyRegs { s with boot := { s.boot with todo := rest } } t []) ∧
      (ty = 11 → Answers .loaderSectionApplied s fun t => OnlyRegs { s with boot := { s.boot with todo := rest, popVer := e.ver, popOk := true, badBank := none } } t []) ∧
      (ty = 9 → Answers .loaderSectionApplied s fun t => (∀ k, k < 4096 → SMap.get (fun _ => 0) t.smt k = segLoad s k (leAt (sectionBytes s s.boot.bank e) k 1)) ∧
        (∀ k, k < 4 → rd t (0x1A0018 + 4 * k) = BitVec.ofNat 32 (leAt (sectionBytes s s.boot.bank e) (4096 + 4 * k) 4)) ∧
        OnlyRegs { s with smt := t.smt, boot := { s.boot with todo := rest } } t [0x1A0018, 0x1A001C, 0x1A0020, 0x1A0024])) ∧
    (crc32c (sectionBytes s s.boot.bank e) ≠ e.crc →
      (s.boot.badBank = none → Answers .loaderSectionApplied s fun t => Started { s with boot := { s.boot with badBank := some s.boot.bank } } t 5 0) ∧
      (s.boot.badBank ≠ none → Answers .loaderSectionApplied s fun t => t.boot.rescue = true ∧ t.boot.stage = 3 ∧ t.slots = [] ∧ t.flash = s.flash))) ∧
  (∀ (b : Bool) (s : State),
    (2 ≤ s.boot.stage → s.boot.rescue = false → ready s 7 = false →
      (Answers (.dramTrained b) s fun t => ready t 7 = true ∧ getB t 0x18 7 = false ∧ OnlyRegs { s with slots := [], boot := { s.boot with retried := b } } t [0x14, 0x18]) ∧
      (Answers .dramTrainingFailed s fun t => getB t 0x18 7 = true ∧ getB t 0x18 8 = true ∧ getB t 0x18 9 = true ∧ getB t 0x34 3 = true ∧ OnlyRegs s t [0x18, 0x34])) ∧
    (s.boot.stage < 2 ∨ s.boot.rescue = true ∨ ready s 7 = true → (Answers (.dramTrained b) s fun t => OnlyRegs s t []) ∧ (Answers .dramTrainingFailed s fun t => OnlyRegs s t []))) ∧
  (∀ s : State,
    (s.boot.stage ≠ 0 → ready s 3 = false → powerState s < 2 → Answers .xtalQualifyTimeout s fun t => getB t 0x18 3 = true ∧ getB t 0x18 4 = true ∧ getB t 0x34 5 = true ∧ OnlyRegs s t [0x18, 0x34]) ∧
    (s.boot.stage = 0 ∨ ready s 3 = true ∨ 2 ≤ powerState s → Answers .xtalQualifyTimeout s fun t => OnlyRegs s t []))

/-- R396, R398 to R402: a failure of the crystal or of the oscillator clears its bit, is counted, is a clock fault and starts its qualification window again; a loop of two
references ramps to the other, a loop of one coasts; a ramp goes on step by step and at its end the loop runs from the reference it
reached; a source whose window is over is marked, and the loops take the crystal; a coasting loop locks again; RETURN starts the ramps back. -/
def Obligations.ClockSources : Prop :=
  (∀ s : State,
    (powered s = true → xtalOk s = true → Answers .xtalFailure s fun t => xtalOk t = false ∧ rd t 0x10040 = rd s 0x10040 + 1 ∧ getB t 0x10000 0 = true ∧ getB t 0x34 5 = true ∧
      (∀ k, k < 2 → rampAt s k = none → loopSrc s k = 2 → oscOk s = true → loopSrc t k = 2 ∧ rampAt t k = some { step := 1, old := 2, new := 1, back := false }) ∧
      (∀ k, k < 5 → rampAt s k = none → loopSrc s k = 2 → 2 ≤ k ∨ oscOk s = false → loopSrc t k = 3 ∧ getB t 0x10000 3 = true)) ∧
    (powered s = true → xtalOk s = true → Answers .xtalFailure s fun t => SMap.get (fun _ => (0, 0)) t.clk.qual 0 = (s.ticks, 50000000)) ∧
    (powered s = true → xtalOk s = false → Answers .xtalFailure s fun t => OnlyRegs { s with clk := (qualRestart s 0 false).clk } t []) ∧
    (powered s = false → (Answers .xtalFailure s fun t => OnlyRegs s t []) ∧ (Answers .oscFailure s fun t => OnlyRegs s t []) ∧ Answers .sdrefFailure s fun t => OnlyRegs s t []) ∧
    (powered s = true → oscOk s = true → Answers .oscFailure s fun t => oscOk t = false ∧ rd t 0x10044 = rd s 0x10044 + 1 ∧ getB t 0x10000 1 = true ∧ getB t 0x34 5 = true ∧
      (∀ k ∈ [0, 1, 2, 4], rampAt s k = none → loopSrc s k = 1 → loopSrc t k = 3 ∧ getB t 0x10000 3 = true) ∧ (∀ k, k < 6 → rampAt s k = none → loopSrc s k = 2 → loopSrc t k = 2)) ∧
    (powered s = true → oscOk s = false → Answers .oscFailure s fun t => OnlyRegs { s with clk := (qualRestart s 1 false).clk } t []) ∧
    (powered s = true → sdrefOk s = true → Answers .sdrefFailure s fun t => sdrefOk t = false ∧ getB t 0x34 5 = true ∧ (loopSrc s 5 = 1 ∨ loopSrc s 5 = 2 → loopSrc t 5 = 3 ∧ getB t 0x10000 3 = true)) ∧
    (powered s = true → sdrefOk s = false → Answers .sdrefFailure s fun t => OnlyRegs { s with clk := (qualRestart s 2 false).clk } t []) ∧
    (Answers .rampStep s fun t => (∀ k, rampAt t k = (rampAt s k).map rampMove) ∧ OnlyRegs { s with clk := t.clk } t [])) ∧
  (∀ (k : Fin 6) (s : State) (x : Ramp), rampAt s k = some x →
    (x.back = false → x.step = 16 → x.new = 1 ∨ x.new = 2 → Answers (.rampComplete k) s fun t => loopSrc t k = x.new ∧ rampAt t k = none ∧
      (k.val < 2 → rd t 0x10048 = rd s 0x10048 + 1 ∧ getB t 0x10000 2 = true)) ∧
    (x.back = true → x.step = 0 → x.old = 1 ∨ x.old = 2 → Answers (.rampComplete k) s fun t => loopSrc t k = x.old ∧ rampAt t k = none ∧ rd t 0x10048 = rd s 0x10048) ∧
    (x.back = false → x.step < 16 → Answers (.rampComplete k) s fun t => OnlyRegs s t [])) ∧
  (∀ (s : State) (src : ClkSrc), powered s = false ∨ s.boot.stage < 2 ∨ qualOver s (match src with | .crystal => 0 | .oscillator => 1 | .serdesRef => 2) = false →
    Answers (.sourceQualified src) s fun t => OnlyRegs s t []) ∧
  (∀ s : State, powered s = true → 2 ≤ s.boot.stage → qualOver s 0 = true → qualOver s 1 = true → qualOver s 2 = true →
    (xtalOk s = false → loopSrc s 3 = 0 → Answers (.sourceQualified .crystal) s fun t => xtalOk t = true ∧ ready t 3 = true ∧ getB t 0x18 3 = false ∧ loopSrc t 3 = 2 ∧
      ∀ k ∈ [0, 1, 2, 4], loopSrc s k = 1 → rampAt s k = none → rampAt t k = some { step := 1, old := 1, new := 2, back := false }) ∧
    (xtalOk s = false → loopSrc s 3 ≠ 0 → Answers (.sourceQualified .crystal) s fun t => xtalOk t = true ∧ OnlyNoted { s with clk := t.clk } t [0x1000C] ∧
      (getB s 0x10008 8 = false → t.clk = s.clk) ∧
      (getB s 0x10008 8 = true → s.clk.ramps = [] → ∀ k, k < 2 → loopSrc s k = 1 → rampAt t k = some { step := 1, old := 1, new := 2, back := false })) ∧
    (oscOk s = false → Answers (.sourceQualified .oscillator) s fun t => oscOk t = true ∧ OnlyNoted s t [0x1000C]) ∧
    (sdrefOk s = false → Answers (.sourceQualified .serdesRef) s fun t => sdrefOk t = true ∧ (loopSrc s 5 = 0 → loopSrc t 5 = 2) ∧ OnlyNoted s t [0x1000C])) ∧
  (∀ (k : Fin 6) (s : State),
    (∀ v, powered s = true → loopSrc s k = 3 → relockTo s k = some v → Answers (.loopRelock k) s fun t => loopSrc t k = v ∧ (k = 1 ∨ k = 4 ∨ k = 5 → OnlyNoted s t [0x1000C])) ∧
    (powered s = false ∨ loopSrc s k ≠ 3 ∨ relockTo s k = none → Answers (.loopRelock k) s fun t => OnlyRegs s t [])) ∧
  (∀ (q : Requester) (s : State),
    (keyOk s q = true → xtalOk s = true → s.clk.ramps = [] → Answers (.clkReturn q) s fun t => (∀ k, k < 2 → loopSrc s k = 1 → rampAt t k = some { step := 1, old := 1, new := 2, back := false }) ∧
      OnlyRegsOf q { s with clk := t.clk } t [] ∧ armed t q = false) ∧
    (keyOk s q = true → xtalOk s = false ∨ s.clk.ramps ≠ [] → Answers (.clkReturn q) s fun t => OnlyRegsOf q s t [] ∧ armed t q = false) ∧
    (keyOk s q = false → Answers (.clkReturn q) s fun t => rd t 0x2C = rd s 0x2C + 1 ∧ getB t 4 0 = true ∧ OnlyRegsOf q s t [4, 0x2C]))

/-- R403, R404, R406 to R408: a rail that leaves its window is marked, counted and raised; one that returns is in its window again. A
measurement of the pacing loop moves the code by the rule, keeps the longest measurement, and changes the mode at its limits. -/
def Obligations.RailsAndPacing : Prop :=
  (∀ (r : Fin 8) (s : State),
    (railOn s r = true → getB s 0x10018 r = true → Answers (.railWindowExit r) s fun t => getB t 0x10018 r = false ∧ getB t 0x10018 (8 + r) = true ∧ rd t 0x10050 = rd s 0x10050 + 1 ∧
      getB t 0x10000 4 = true ∧ OnlyNoted { s with free := s.free + 1 } t [0x10000, 0x10018, 0x10050]) ∧
    (railOn s r = false ∨ getB s 0x10018 r = false → Answers (.railWindowExit r) s fun t => OnlyRegs s t []) ∧
    (railOn s r = true → getB s 0x10018 r = false → ready s 1 = true → Answers (.railWindowReturn r) s fun t => getB t 0x10018 r = true ∧ OnlyNoted { s with free := s.free + 1 } t [0x10018]) ∧
    (railOn s r = false ∨ getB s 0x10018 r = true ∨ ready s 1 = false → Answers (.railWindowReturn r) s fun t => OnlyRegs s t [])) ∧
  (∀ (ps : BitVec 16) (s : State), ready s 1 = true → powered s = true → Answers (.pacingMeasurement ps) s fun t =>
    getF t 0x10108 31 16 = ps.toNat ∧ getF t 0x1010C 15 0 = max ps.toNat (getF s 0x1010C 15 0) ∧ t.clk.last10 = (ps.toNat :: s.clk.last10).take 10 ∧
    OnlyNoted { s with clk := t.clk } t [0x34, 0x10000, 0x10108, 0x1010C, 0x10110] ∧
    (getB s 0x10100 21 = false → t.clk.freeze = none ∧
      (vcode t, t.clk.below) = paceRule (getF s 0x10104 6 0) (getF s 0x10104 14 8) (paceTarget s) (paceHyst s) (vcode s) s.clk.below ps.toNat) ∧
    (getB s 0x10100 21 = true → s.clk.freeze = none → t.clk.freeze = some (vcode s) ∧ vcode t = vcode s) ∧
    (getB s 0x10100 21 = false → paceLimit s = false → ps.toNat < 4950 → s.clk.ceil < 15 → paceLimit t = false ∧
      t.clk.ceil = (if vcode s = getF s 0x10104 14 8 ∧ paceTarget s < ps.toNat then s.clk.ceil + 1 else 0)) ∧
    (getB s 0x10100 21 = false → paceLimit s = false → ps.toNat < 4950 → s.clk.ceil = 15 →
      (paceLimit t = true ↔ vcode s = getF s 0x10104 14 8 ∧ paceTarget s < ps.toNat)) ∧
    (paceLimit s = false → 4950 ≤ ps.toNat → paceLimit t = true ∧ rd t 0x10110 = rd s 0x10110 + 1 ∧ getB t 0x10000 5 = true ∧ getB t 0x34 2 = true) ∧
    (paceLimit s = true → s.clk.good < 999 → paceLimit t = true ∧ t.clk.good = (if ps.toNat ≤ paceTarget s ∧ getB s 0x10108 1 = true then s.clk.good + 1 else 0)) ∧
    (paceLimit s = true → 999 ≤ s.clk.good → ps.toNat ≤ paceTarget s → getB s 0x10108 1 = true → paceLimit t = false)) ∧
  (∀ (ps : BitVec 16) (s : State), ready s 1 = false ∨ powered s = false → Answers (.pacingMeasurement ps) s fun t => OnlyRegs s t [])

/-- R434, R436 to R440: an accepted wake source is marked and wakes its segments, or is latched after a commit; a sleep request takes a
segment by SETTLE to ASLEEP, a wake request brings it back, and one that names no segment is refused; the settle, awake, minimum, retry and holdoff windows end,
an awake window before the settle window of the same instant; a STANDBY unit leaves them to its records. -/
def Obligations.SegmentsSleepAndWake : Prop :=
  (∀ (i : Fin 74) (s : State),
    (wakeEnabled s i = false → s.lan.latched = none → Answers (.wakeSourceAccepted i) s fun t => OnlyRegs s t []) ∧
    (wakeEnabled s i = true → powerState s < 2 → budMode s ≠ 2 → (∀ d n, s.lan.dev = some (d, n) → s.lan.lnt < d + n) → Answers (.wakeSourceAccepted i) s fun t =>
      getB t (0x70034 + 4 * (i.val / 32)) (i.val % 32) = true ∧ getF t 0x7000C 14 8 = i ∧
      (wakesDevice i = true → t.lan.dev = none) ∧
      (∀ n ∈ sourceSegs s i, (segAt s n).st = 2 → heldOff s n i s.lan.lnt = false → (segAt t n).st = 0 ∧ sleepReq t n = false ∧ getB t (canR n 0x30) 17 = false ∧ getB t 0x70000 0 = true) ∧
      (∀ n ∈ sourceSegs s i, (segAt s n).st = 2 → heldOff s n i s.lan.lnt = true → (segAt t n).st = 2) ∧
      (∀ n ∈ sourceSegs s i, (segAt s n).st = 1 → SegQuiet s n → (segAt t n).st = 0 ∧ (segAt t n).a = some s.lan.lnt ∧ getB t 0x70000 2 = true) ∧
      (∀ n ∈ sourceSegs s i, (segAt s n).st = 1 → modeReq s n ≠ 0 → awakeOver s n = false → settleOver s n = true → (segAt t n).st = 0 ∧ (segAt t n).w = s.lan.lnt ∧ sleepReq t n = false ∧
        getB t 0x70000 1 = true ∧ getB t 0x70000 0 = true)) ∧
    (wakeEnabled s i = true → 2 ≤ powerState s → s.lan.latched = none → s.lan.dev = none → wakesDevice i = false ∨ s.lan.entering ≠ none → Answers (.wakeSourceAccepted i) s fun t =>
      getB t (0x70034 + 4 * (i.val / 32)) (i.val % 32) = true ∧ getF t 0x7000C 14 8 = i ∧
      OnlyRegs { s with lan := { s.lan with meanwhile := s.lan.meanwhile ++ [(i.val, s.lan.lnt)], latched := if wakesDevice i then some i.val else none } } t [0x70034 + 4 * (i.val / 32), 0x7000C])) ∧
  (∀ (q : Requester) (data : Word) (s : State) (n : Nat), budMode s ≠ 2 → n = fld data 5 0 →
    (n ≤ 47 → data.getLsbD 6 = false → (segAt s n).act ≠ some s.lan.lnt → Answers (.lanCmdSleep q data) s fun t => sleepReq t n = true ∧ armed t q = false ∧
      (segRole s n = 0 → (segAt s n).st = 0 → segHold s n = false → modeReq s n ≠ 0 → minOver s n = true → retryOver s n = true → awakeOver s n = false → (segAt t n).st = 1 ∧ (segAt t n).c = s.lan.lnt)) ∧
    (n ≤ 47 → data.getLsbD 6 = false → SegQuiet s n → DevQuiet s → (segAt s n).act = some s.lan.lnt → (segAt s n).a ≠ some s.lan.lnt → Answers (.lanCmdSleep q data) s fun t => rd t 0x70064 = rd s 0x70064 + 1 ∧
      getB t 0x70000 2 = true ∧ OnlyRegsOf q s t [0x70000, 0x70064]) ∧
    (n ≤ 47 → data.getLsbD 6 = false → SegQuiet s n → DevQuiet s → (segAt s n).act = some s.lan.lnt → (segAt s n).a = some s.lan.lnt → Answers (.lanCmdSleep q data) s fun t => OnlyRegsOf q s t []) ∧
    (n ≤ 47 → Answers (.lanCmdWake q data) s fun t => sleepReq t n = false ∧ (segAt t n).act = some s.lan.lnt ∧ armed t q = false ∧
      ((segAt s n).st = 2 → (segAt t n).st = 0 ∧ getF t 0x7000C 14 8 = 0x7F ∧ getB t (canR n 0x30) 17 = false ∧ rd t 0x70060 = rd s 0x70060 + 1)) ∧
    (47 < n → ∀ c ∈ [Instr.lanCmdWake q data, .lanCmdSleep q data], Answers c s fun t => getB t 0x70000 5 = true ∧ OnlyRegsOf q s t [0x70000])) ∧
  (∀ (n : Chan) (s : State), powerState s < 2 → budMode s ≠ 2 →
    ((segAt s n).st = 1 → modeReq s n = 0 → settleOver s n = true → Answers (.settleEnd n) s fun t => segAt t n = { segAt s n with st := 0 } ∧
      ∀ k, k ≠ n.val → segAt t k = segAt s k) ∧
    ((segAt s n).st = 1 → modeReq s n ≠ 0 → awakeOver s n = false → settleOver s n = true → Answers (.settleEnd n) s fun t => (segAt t n).st = 2 ∧ (segAt t n).f = none ∧ modeCur t n = 0 ∧
      getB t (canR n 0x30) 17 = true ∧ getB t 0x70000 1 = true ∧ powerState t = 1 ∧ ∀ k, k ≠ n.val → segAt t k = segAt s k) ∧
    (awakeOver s n = true → ∀ c ∈ (if (segAt s n).st = 1 ∧ settleOver s n = true then [Instr.maxAwakeExpiry n, .settleEnd n] else [.maxAwakeExpiry n]), Answers c s fun t =>
      (segAt t n).st = 2 ∧ (segAt t n).f = some s.lan.lnt ∧ modeCur t n = 0 ∧ rd t 0x70068 = rd s 0x70068 + 1 ∧ getB t 0x70000 3 = true ∧ powerState t = 1) ∧
    ((segAt s n).st = 0 → awakeOver s n = false → sleepReq s n = true → segHold s n = false → modeReq s n ≠ 0 → minOver s n = true → retryOver s n = true →
      (segRole s n = 0 → (Answers (.minAwakeEnd n) s fun t => (segAt t n).st = 1 ∧ (segAt t n).c = s.lan.lnt) ∧ (Answers (.retryWindowEnd n) s fun t => (segAt t n).st = 1 ∧ (segAt t n).c = s.lan.lnt)) ∧
      (segRole s n = 1 → modeCur s n = 1 → (chan s n).rollCall = none →
        (Answers (.minAwakeEnd n) s fun t => (chan t n).rollCall = some 1 ∧ (segAt t n).st = 0) ∧ (Answers (.retryWindowEnd n) s fun t => (chan t n).rollCall = some 1 ∧ (segAt t n).st = 0))) ∧
    ((segAt s n).f.isSome = true → inHoldoff s n = false → Answers (.holdoffEnd n) s fun t => segAt t n = { segAt s n with f := none } ∧ ∀ k, k ≠ n.val → segAt t k = segAt s k)) ∧
  (∀ (n : Chan) (s : State), powerState s < 2 → budMode s = 2 → DevQuiet s → ∀ c ∈ [Instr.settleEnd n, .maxAwakeExpiry n, .minAwakeEnd n, .retryWindowEnd n],
    Answers c s fun t => OnlyRegs s t []) ∧
  (∀ (n : Chan) (s : State), 2 ≤ powerState s → ∀ c ∈ [Instr.settleEnd n, .maxAwakeExpiry n, .minAwakeEnd n, .retryWindowEnd n, .holdoffEnd n], Answers c s fun t => OnlyRegs s t [])

/-- R277, R279, R441 to R444, R496, R505, R506: the device window ends in the commit that DEEP gives, or closes when its conditions fail; STANDBY and
SLEEP are reached once no loop ramps, and the pins then show what R506 gives; an enabled source of the device brings it back, from STANDBY with what it has kept, from SLEEP by a start of its own. -/
def Obligations.DevicePowerStates : Prop :=
  (∀ (s : State),
    (s.lan.dev = none → Answers .deviceWindowEnd s fun t => OnlyRegs s t []) ∧
    (∀ d n, s.lan.dev = some (d, n) →
      (devCond s = false → s.lan.lnt < d + n → Answers .deviceWindowEnd s fun t => getB t 0x70000 2 = true ∧ getB t 0x7000C 3 = false ∧
        OnlyRegs { s with lan := { s.lan with dev := none } } t [0x70000, 0x7000C]) ∧
      (devCond s = true → s.lan.lnt < d + n → Answers .deviceWindowEnd s fun t => OnlyRegs s t []) ∧
      (deepOf s ≤ 2 → d + n ≤ s.lan.lnt → Answers .deviceWindowEnd s fun t => powerState t = deepOf s + 1 ∧ t.lan.entering = some (deepOf s + 1) ∧ t.lan.dev = none ∧
        t.pcie.link = false ∧ ∀ n, n < 48 → modeCur t n = 0 ∧ getB t (canR n 0x30) 17 = true))) ∧
  (∀ s : State, s.lan.latched = none →
    (s.lan.entering = some 2 → s.clk.ramps = [] → Answers .standbyReached s fun t => t.lan.entering = none ∧ (∀ k, k < 6 → loopSrc t k = 0) ∧ imageReady t = false ∧ ready t 8 = false ∧ t.slots = s.slots ∧
      OnlyRegs { s with lan := { s.lan with entering := none }, cache := cacheClean s.cache, boot := { s.boot with resume := s.boot.resume || imageReady s } } t [0x14, 0x1000C, 0x1A0000]) ∧
    (s.lan.entering = some 2 → s.clk.ramps = [] → powerState s = 2 → Answers .standbyReached s fun t => (ready s 0 = true → s.bud.gate = true → inhPin t = levelOf (getB s 0x70008 10)) ∧
      (∀ n, n < 48 → txdPin t n = .high) ∧ claimPin t = .low ∧ spPins t = .low ∧ ∀ p, portTxPin t p = .highZ) ∧
    (s.lan.entering ≠ some 2 ∨ s.clk.ramps ≠ [] → Answers .standbyReached s fun t => OnlyRegs s t []) ∧
    (s.lan.entering = some 3 → s.clk.ramps = [] → Answers .sleepReached s fun t => powerState t = powerState s ∧ t.sec.sleepCfg = rd s 0x90014 ∧ t.lan.entering = none ∧ t.slots = [] ∧ t.mem = [] ∧ t.tbl = [] ∧ t.boot.stage = 0 ∧ t.boot.loaded = s.boot.loaded ∧ t.otp = s.otp ∧
      t.flash = s.flash ∧ (∀ n, n < 48 → modeCur t n = 0 ∧ getB t (canR n 0x30) 17 = true ∧ segAt t n = segAt s n)) ∧
    (s.lan.entering = some 3 → s.clk.ramps = [] → powerState s = 3 → Answers .sleepReached s fun t => inhPin t = .low ∧ (∀ n, n < 48 → txdPin t n = .high ∧ stbPin t n = .high) ∧
      (∀ n, n < 16 → teLevel t n = .highZ) ∧ faultPin t = .highZ ∧ claimPin t = .highZ ∧ spPins t = .highZ ∧ xspiCsPin t = .highZ) ∧
    (s.lan.entering ≠ some 3 ∨ s.clk.ramps ≠ [] → Answers .sleepReached s fun t => OnlyRegs s t [])) ∧
  (∀ (i : Fin 74) (s : State), wakesDevice i = true → wakeEnabled s i = true → s.lan.latched = none → s.lan.dev = none → s.boot.resetLow = false →
    (inStandby s = true → Answers (.standbyWake i) s fun t => powerState t < 2 ∧ getF t 0x7000C 14 8 = i ∧ getB t 0x70000 0 = true ∧ t.lan.latched = none ∧ xtalOk t = false ∧ ready t 3 = ready s 3 ∧
      paceLimit t = true ∧ (∀ k ∈ [0, 1, 2, 4], loopSrc t k = 1) ∧ (timeMode s ≠ 0 → getB t 0x60000 0 = true) ∧
      (tracking s 0 = false → tracking s 1 = false → timeMode t = 0 ∧ getB t 0x6000C 2 = true) ∧ t.slots = s.slots ∧ budMode t = (if budMode s = 0 then 0 else 3) ∧
      ∀ n ∈ sourceSegs s i, (segAt s n).st = 2 → heldOff s n i s.lan.lnt = false → (segAt t n).st = 0) ∧
    (inSleep s = true → Answers (.sleepWake i) s fun t => t.boot = { Boot.init with stage := 1, cause := 4, wake := some i.val } ∧ powerState t < 2 ∧
      getF t 0x7000C 14 8 = i ∧ t.slots = [] ∧ t.otp = s.otp ∧ t.flash = s.flash ∧
      ∀ n, n < 48 → (segAt t n).st = (if n ∈ sourceSegs s i ∨ getF s (segR n 0) 1 0 = 0 then 0 else 2))) ∧
  (∀ (i : Fin 74) (s : State),
    (wakesDevice i = false ∨ inStandby s = false → Answers (.standbyWake i) s fun t => OnlyRegs s t []) ∧
    (wakesDevice i = false ∨ inSleep s = false → Answers (.sleepWake i) s fun t => OnlyRegs s t []))

/-- R434, R441, R446, R458, R467: PWR_GET_STATE returns what its card lists; PWR_SEG_SLEEP and PWR_SEG_WAKE set and clear the requests of
the segments that they name; PWR_SET_HOLD, PWR_SET_WAKE and PWR_SET_STATE set what they name, the latter only where the unit may. The BUD commands: the status words, the
claim, the override, the withdrawal and the rejoining. -/
def Obligations.PowerAndBuddyCommands : Prop :=
  (∀ (m : Mbx) (s : State) (x : MbxReq) (k : Nat), k = leAt x.fields 0 8 →
      (Asks s m 0x0701 x → leAt x.hdr 6 2 = 0 → Answers (.pwrGetState m) s fun t => Replies s t m x 0 (pwrStateBytes s)) ∧
      (Asks s m 0x0702 x → leAt x.hdr 6 2 = 8 → budMode s ≠ 2 → maskComp s (reqOf m false x) k = true → k < 2 ^ 48 → (∀ n, n < 48 → (segAt s n).act ≠ some s.lan.lnt) →
        Answers (.pwrSegSleep m) s fun t => (∀ n, n < 48 → k.testBit n = true → sleepReq t n = true) ∧ Replies s t m x 0 (leBytes 8 k ++ leBytes 8 0)) ∧
      (Asks s m 0x0703 x → leAt x.hdr 6 2 = 8 → budMode s ≠ 2 → maskComp s (reqOf m false x) k = true → k < 2 ^ 48 → Answers (.pwrSegWake m) s fun t =>
        (∀ n, n < 48 → k.testBit n = true → sleepReq t n = false ∧ (segAt t n).st ≠ 2) ∧
        ((∀ n, n < 48 → (segAt s n).st = 2) → Replies s t m x 0 (leBytes 8 k)) ∧ ((∀ n, n < 48 → (segAt s n).st = 0 ∧ awakeOver s n = false) → Replies s t m x 0 (leBytes 8 0))) ∧
      (Asks s m 0x0704 x → leAt x.hdr 6 2 = 12 → budMode s ≠ 2 → maskComp s (reqOf m false x) k = true → k < 2 ^ 48 → leAt x.fields 8 1 ≤ 1 → Answers (.pwrSetHold m) s fun t =>
        (∀ n, n < 48 → k.testBit n = true → segHold t n = decide (leAt x.fields 8 1 = 1)) ∧ Replies s t m x 0 []) ∧
      (Asks s m 0x0705 x → leAt x.hdr 6 2 = 12 → leAt x.hdr 4 1 = 0 → leAt x.fields 8 4 < 1024 → Answers (.pwrSetWake m) s fun t =>
        triVal t 1 0 = leAt x.fields 0 4 ∧ triVal t 1 1 = leAt x.fields 4 4 ∧ triVal t 1 2 = leAt x.fields 8 4 ∧ Replies s t m x 0 []) ∧
      (∀ a, Asks s m 0x0706 x → leAt x.hdr 6 2 = 4 → leAt x.hdr 4 1 = 0 → budMode s < 2 → a = leAt x.fields 0 1 →
        (a < 2 → Answers (.pwrSetState m) s fun t => getB t 0x7000C 2 = decide (a = 1) ∧ Replies s t m x 0 [BitVec.ofNat 8 (pwrState s), 0, 0, 0]) ∧
        (a = 2 ∨ a = 3 → s.upd.mode ≠ 2 ∨ s.upd.swaps = 0 ∧ s.upd.pair = 0 → Answers (.pwrSetState m) s fun t => powerState t = a ∧ t.lan.entering = some a ∧ t.pcie.link = false ∧
          (∀ n, n < 48 → modeCur t n = 0 ∧ (segAt t n).st = 2) ∧ Replies s t m x 0 [BitVec.ofNat 8 (pwrState s), 0, 0, 0]) ∧
        (a = 2 ∨ a = 3 → s.upd.mode = 2 → s.upd.swaps ≠ 0 ∨ s.upd.pair ≠ 0 → Answers (.pwrSetState m) s fun t => t.lan = { s.lan with waiting := some a } ∧
          Replies s t m x 0 [BitVec.ofNat 8 (pwrState s), 0, 0, 0]) ∧
        (3 < a → Answers (.pwrSetState m) s fun t => Replies s t m x 2 [])) ∧
      (Asks s m 0x0706 x → leAt x.hdr 6 2 = 4 → leAt x.hdr 4 1 = 0 → 2 ≤ budMode s → Answers (.pwrSetState m) s fun t => t.lan = s.lan ∧ Replies s t m x 3 [])) ∧
  (∀ (m : Mbx) (s : State) (x : MbxReq) (v : Nat), v = leAt x.fields 0 1 →
      (Asks s m 0x0801 x → leAt x.hdr 6 2 = 0 → Answers (.budGetStatus m) s fun t => Replies s t m x 0 (regBytes s [0x8000C, 0x80010, 0x80014, 0x80018])) ∧
      (Asks s m 0x0802 x → leAt x.hdr 6 2 = 4 → leAt x.hdr 4 1 = 0 →
        (budMode s ≠ 0 → 1 ≤ v → v ≤ 254 → Answers (.budSetClaim m) s fun t => claimCfg t = v ∧ Replies s t m x 0 [BitVec.ofNat 8 (claimCfg s), 0, 0, 0]) ∧
        (budMode s = 0 → Answers (.budSetClaim m) s fun t => claimCfg t = claimCfg s ∧ Replies s t m x 3 []) ∧
        (budMode s ≠ 0 → v = 0 ∨ 254 < v → Answers (.budSetClaim m) s fun t => claimCfg t = claimCfg s ∧ Replies s t m x 2 [])) ∧
      (Asks s m 0x0803 x → leAt x.hdr 6 2 = 4 → leAt x.hdr 4 1 = 0 →
        (budMode s = 1 ∨ budMode s = 2 → v ≤ 1 → Answers (.budOverride m) s fun t => t.bud.override = decide (v = 1) ∧ Replies s t m x 0 [BitVec.ofNat 8 (bnat (holdsClaim t)), 0, 0, 0]) ∧
        (budMode s = 0 ∨ budMode s = 3 → Answers (.budOverride m) s fun t => t.bud = s.bud ∧ Replies s t m x 3 [])) ∧
      (Asks s m 0x0804 x → leAt x.hdr 6 2 = 0 → leAt x.hdr 4 1 = 0 →
        (budMode s = 1 ∨ budMode s = 2 → Answers (.budWithdraw m) s fun t => budMode t = 3 ∧ t.bud.rx = none ∧ Replies s t m x 0 []) ∧
        (budMode s = 0 ∨ budMode s = 3 → Answers (.budWithdraw m) s fun t => t.bud = s.bud ∧ Replies s t m x 3 [])) ∧
      (Asks s m 0x0805 x → leAt x.hdr 6 2 = 0 → leAt x.hdr 4 1 = 0 →
        (budMode s = 3 → ownCand s ≠ 0 → partnerState s = 1 → Answers (.budRejoin m) s fun t => t.bud = { s.bud with resync := true, pages := [], wantPages := 0, rx := none } ∧ Replies s t m x 0 []) ∧
        (budMode s ≠ 3 ∨ ownCand s = 0 ∨ partnerState s ≠ 1 → Answers (.budRejoin m) s fun t => t.bud = s.bud ∧ Replies s t m x 3 [])))

/-- R450 to R456, R461, R462, R465, R483, with the layouts of log 21: the record that is next is taken, and in STANDBY executed; one
that is not valid is counted, an old one is discarded; a FIRE record fires its entry and an SGRX record's bundle is taken as one of the unit's own; a gap takes a STANDBY unit to WITHDRAWN. A frame of a CANRX record is counted where it differs from what the unit
received; digests that differ, and running CRCs that differ, are a divergence or a failure; pages of state are collected, and when all are there the unit joins; the partner's ACK and
mailbox records are taken. -/
def Obligations.PartnerRecords : Prop :=
  (∀ (s : State) (r : BudRec) (i : Instr) (ty : Nat), InputRecord r i ty ∨ i = .budDigestRecord r ∧ ty = 6 ∨ i = .budStateRecord r ∧ ty = 7 →
    (budIdle s = true ∨ r.ty.toNat ≠ ty → Answers i s fun t => OnlyRegs s t []) ∧
    (budIdle s = false → r.ty.toNat = ty → ¬ ValidRecord s r → Answers i s fun t => rd t 0x80048 = rd s 0x80048 + 1 ∧ OnlyRegs s t [0x80048]) ∧
    (∀ k, budMode s ≠ 0 → r.ty.toNat = ty → ValidRecord s r → r.claim = none → s.bud.rx = some k →
      (r.seq.toNat + 2 ^ 32 - k) % 2 ^ 32 = 0 ∨ 2 ^ 31 ≤ (r.seq.toNat + 2 ^ 32 - k) % 2 ^ 32 → Answers i s fun t => OnlyRegs (laneMark s r.lane) t []) ∧
    (∀ k, budMode s = 2 → r.ty.toNat = ty → ValidRecord s r → r.claim = none → s.bud.rx = some k → 2 ≤ (r.seq.toNat + 2 ^ 32 - k) % 2 ^ 32 → (r.seq.toNat + 2 ^ 32 - k) % 2 ^ 32 < 2 ^ 31 →
      Answers i s fun t => budMode t = 3 ∧ t.bud.rx = none ∧ t.bud.gate = false ∧ t.bud.canGate = 0)) ∧
  (∀ (s : State) (r : BudRec) (i : Instr) (ty : Nat), InputRecord r i ty → r.ty.toNat = ty → ValidRecord s r → r.claim = none → NextRecord s r →
    (budMode s = 1 ∨ budMode s = 3 ∧ s.bud.resync = false → Answers i s fun t => OnlyRegs (tookRecord s r) t []) ∧
    (budMode s = 3 → s.bud.resync = true → Answers i s fun t => OnlyRegs { s with bud := { (tookRecord s r).bud with live := s.bud.live ++ [r] } } t []) ∧
    (budMode s = 2 → (ty = 4 → leAt r.payload 0 1 ≠ 0 ∧ leAt r.payload 0 1 ≠ 2) → Answers i s fun t =>
      t.bud.rx = some r.seq.toNat ∧ t.bud.executing = none ∧ rd t 0x80018 = BitVec.ofNat 32 r.seq.toNat ∧ budMode t = 2)) ∧
  (∀ (s : State) (r : BudRec) (n : Nat), budMode s = 2 → ValidRecord s r → r.claim = none → NextRecord s r → n = leAt r.payload 0 1 → n < 48 →
    (r.ty.toNat = 1 → leAt r.payload 1 1 = 0 →
      (∀ h old, heldNear s n (beAt r.payload 2 8) = some h → old = (s.bud.held.filter fun x => x.chan == n && decide (x.at_ < h.at_)) → Answers (.budCanrxRecord r) s fun t =>
        rd t 0x80050 = rd s 0x80050 + BitVec.ofNat 32 (old.length + if h.frame = canFrameOf r.payload 17 then 0 else 1) ∧ rd t (canR n 0x40) = rd s (canR n 0x40) + 1 ∧
        (old = [] → t.bud.held = s.bud.held.erase h) ∧ tecOf t n = beAt r.payload 10 2 % 512 ∧ recOf t n = beAt r.payload 12 1) ∧
      (heldNear s n (beAt r.payload 2 8) = none → Answers (.budCanrxRecord r) s fun t => rd t 0x80050 = (if choiceOf s n = some (canFrameOf r.payload 17) then rd s 0x80050 else rd s 0x80050 + 1) ∧
        rd t (canR n 0x40) = rd s (canR n 0x40) + 1 ∧ t.bud.held = s.bud.held)) ∧
    (r.ty.toNat = 2 → (chan s n).bus.isSome = true → Answers (.budTxchoiceRecord r) s fun t => choiceOf t n = some (canFrameOf r.payload 2) ∧ choiceTdcv t n = leAt r.payload 1 1 ∧ t.can = s.can ∧ RegsKept s t [0x80018])) ∧
  (∀ (s : State) (r : BudRec), budMode s = 2 → ValidRecord s r → r.claim = none → NextRecord s r → r.ty.toNat = 4 →
    (∀ n : Chan, r.payload = [0, 0] ++ beBytes 4 (canR n 8) ++ beBytes 4 1 → modeCur s n = 6 → Answers (.budCmdRecord r) s fun t => getB t (canR n 0) 13 = true ∧ rd t 0x80054 = rd s 0x80054 ∧
      RegsKept s t [0x80018, canR n 0]) ∧
    (∀ a, a = 2 ∨ a = 3 → r.payload = [6, BitVec.ofNat 8 a, 0x7F] → Answers (.budCmdRecord r) s fun t => powerState t = a ∧ t.lan.entering = some a ∧ t.pcie.link = false ∧ ∀ n, n < 48 → modeCur t n = 0)) ∧
  (∀ (s : State) (r : BudRec), budMode s = 2 → ValidRecord s r → r.claim = none → NextRecord s r →
    (∀ i : Fin 256, r.ty.toNat = 5 → r.payload = 1 :: beBytes 4 i → getB s 0x1A1008 0 = true → dsTrig (tGet s 8 i) ≠ 0 → (∀ x ∈ s.runs, x.dst = i.val → x.started = true) → Answers (.budFireRecord r) s fun t =>
      t.runs = s.runs ++ [{ dst := i.val, started := false, descs := (List.range (dsCount (tGet s 8 i))).map (fun k => dsFirst (tGet s 8 i) + k), reads := none }] ∧ t.slots = s.slots ∧
      rd t 0x80018 = BitVec.ofNat 32 r.seq.toNat) ∧
    (r.ty.toNat = 5 → r.payload = 5 :: beBytes 4 0 → Answers (.budFireRecord r) s fun t => getF t 0x1A000C 24 0 = (getF s 0x1A000C 24 0 + 1) % 2 ^ 25) ∧
    (∀ (f : SgFrame) (b : Bundle), r.ty.toNat = 3 → f = sgRecOf r.payload → sgBundle f = true → b = bundleOf f.bytes → getB s 0x1A2008 0 = true → imageReady s = true →
      (∀ i gap, b.kind = 0 → bundleCheck s b = none → bundleSub s b = some i → (suMacsec (tGet s 0xA i) = true → f.auth = true) → trackJudge 16 (ltNs s) b.seq (subRt s i).tr = some gap →
        poolFits s (8 + suClass (tGet s 0xA i)) b.len = true → Answers (.budSgrxRecord r) s fun t =>
          t.work2 = s.work2 ++ [.bundle { copy := s.copyNext, refused := false, sub := i, srcVeh := b.veh, auth := f.auth, gap := gap, begin_ := b.begin_, end_ := b.end_, recs := records b.count b.body }] ∧
          subRt t i = { subRt s i with tr := some { seq := b.seq, at_ := ltNs s }, last := ltNs s, acted := false } ∧ (∀ k, k ≠ i → subRt t k = subRt s k) ∧ t.slots = s.slots) ∧
      (∀ off, bundleCheck s b = some off → Answers (.budSgrxRecord r) s fun t => rd t (0x1A2000 + off) = rd s (0x1A2000 + off) + 1 ∧ getB t 0x1A2000 4 = true ∧ t.work2 = s.work2 ∧ t.slots = s.slots))) ∧
  (∀ (s : State) (r : BudRec) (d : Digest), budMode s = 1 → ValidRecord s r → r.claim = none → NextRecord s r → r.ty.toNat = 6 →
    s.bud.own.find? (fun d => d.first == beAt r.payload 0 4 && d.last == beAt r.payload 4 4) = some d →
    (d.crc = BitVec.ofNat 32 (beAt r.payload 8 4) → Answers (.budDigestRecord r) s fun t => OnlyRegs (tookRecord s r) t []) ∧
    (d.crc ≠ BitVec.ofNat 32 (beAt r.payload 8 4) → s.bud.diverged = none → Answers (.budDigestRecord r) s fun t => rd t 0x80044 = rd s 0x80044 + 1 ∧ getB t 0x80000 2 = true ∧
      t.bud.diverged = some (beAt r.payload 0 4, d.crc, BitVec.ofNat 32 (beAt r.payload 8 4)) ∧ budMode t = 1)) ∧
  (∀ (s : State) (r : BudRec), budMode s = 3 → ValidRecord s r → r.claim = none → NextRecord s r → r.ty.toNat = 7 → s.bud.pages = [] →
    (s.bud.resync = false → Answers (.budStateRecord r) s fun t => OnlyRegs (tookRecord s r) t []) ∧
    (s.bud.resync = true → 1 < beAt r.payload 3 3 → Answers (.budStateRecord r) s fun t => budMode t = 3 ∧ t.bud.wantPages = beAt r.payload 3 3 ∧
      SMap.get (fun _ => []) t.bud.pages (beAt r.payload 0 3) = r.payload ∧ RegsKept s t []) ∧
    (s.bud.resync = true → beAt r.payload 0 3 = 0 → beAt r.payload 3 3 = 1 → r.payload.length = 10 → getF s 0x80014 15 0 ≤ 2000 → s.bud.held = [] → s.bud.live = [] → Answers (.budStateRecord r) s fun t =>
      budMode t = (if holdsClaim (setF s 0x80010 1 0 2) then 1 else if streamLost s then 3 else 2) ∧ t.bud.resync = false ∧ rd t 0x80018 = BitVec.ofNat 32 (beAt r.payload 6 4) ∧ t.slots = [] ∧ t.obj = [] ∧ t.can = [] ∧
      ∀ o, pagedReg o = true → rd t o = resetWord o)) ∧
  (∀ (s : State) (r : BudRec), ValidRecord s r → NextRecord s r → s.upd.reset = false →
    (r.ty.toNat = 8 → s.upd.pair = 0 → Answers (.budAckRecord r) s fun t => t.bud.pExec = beAt r.payload 0 4 ∧ (∀ f, r.claim = some f → claimOk f.toNat = true → t.bud.pHeard = true ∧ t.bud.pLast = ltNs s ∧
      t.bud.pClaim = fld f 27 20 ∧ t.bud.pCand = fld f 19 12 ∧ t.bud.pState = fld f 11 10)) ∧
    (r.ty.toNat = 0 ∨ 9 < r.ty.toNat → r.claim = none → (budMode s = 2 → Answers (.budAckRecord r) s fun t => budMode t = 3 ∧ t.bud.rx = none) ∧
      (budMode s ≠ 2 → Answers (.budAckRecord r) s fun t => OnlyRegs (laneMark s r.lane) t [])) ∧
    (r.ty.toNat = 9 → leAt r.payload 0 1 = 0 → inFlight (mbxAt s 9) < 8 → Answers (.budMbxRecord r) s fun t => ∃ x, (mbxAt t 9).queue = (mbxAt s 9).queue ++ [x] ∧ x.hdr = slice r.payload 1 16) ∧
    (r.ty.toNat = 9 → leAt r.payload 0 1 = 1 → r.claim = none → Answers (.budMbxRecord r) s fun t =>
      OnlyRegs { s with bud := { (tookRecord s r).bud with mbxHand := s.bud.mbxHand ++ [r.payload.drop 1] } } t []) ∧
    (r.ty.toNat = 9 → leAt r.payload 0 1 = 5 → r.claim = none → budMode s = 1 → s.bud.diverged = none → Answers (.budMbxRecord r) s fun t => rd t 0x80044 = rd s 0x80044 + 1 ∧ getB t 0x80000 2 = true ∧
      t.bud.diverged ≠ none ∧ budMode t = 1) ∧
    (∀ b : Fin 87, r.ty.toNat = 9 → leAt r.payload 0 1 = 6 → leAt r.payload 1 1 = b → r.claim = none → budMode s = 2 → pairedCrc (cfgBlock b) = true →
      (crcWords (cfgWords s (cfgBlock b).1) ≠ BitVec.ofNat 32 (beAt r.payload 2 4) → Answers (.budMbxRecord r) s fun t => budMode t = 3 ∧ t.bud.failed = true ∧ t.bud.gate = false ∧ t.bud.canGate = 0) ∧
      (crcWords (cfgWords s (cfgBlock b).1) = BitVec.ofNat 32 (beAt r.payload 2 4) → Answers (.budMbxRecord r) s fun t => OnlyRegs (tookRecord s r) t [])))

/-- R449, R450, R457 to R465: a claim frame is sent with the unit's claim, candidate and mode; one received sets what is known of the
partner, one with a wrong CRC is counted; the claims give the exits of ACTIVE and STANDBY; the partner falls silent; START_WAIT ends;
lanes go down and come up; too much lag, an outcome of the self-diagnosis and a failure withdraw the unit; a WITHDRAWN unit asks for the
state, and an ACTIVE one sends it. -/
def Obligations.BuddyModes : Prop :=
  (∀ s : State,
    (budIdle s = false → Answers .claimFrameSend s fun t => Sends s t (.claim (BitVec.ofNat 32 (claimFrame s))) ∧ OnlyRegs { s with bud := { s.bud with roll := (s.bud.roll + 1) % 4 } } t []) ∧
    (budIdle s = true → ∀ f k b, ∀ c ∈ [Instr.claimFrameSend, .claimFrameReceived f, .partnerSilent, .laneDown k, .buddyLaneUp k b, .budAckSend], Answers c s fun t => OnlyRegs s t []) ∧
    (budIdle s = false → laneTest s = false → Answers .budAckSend s fun t => (∃ r, Sends s t (.bud r) ∧ r.lane = 0 ∧ r.ty = 8 ∧ r.seq = BitVec.ofNat 32 s.bud.txSeq ∧
      r.claim = some (BitVec.ofNat 32 (claimFrame s)) ∧
      r.payload = beBytes 4 (rd s 0x80018).toNat ++ [BitVec.ofNat 8 (budMode s)]) ∧ OnlyRegs { s with bud := { s.bud with txSeq := (s.bud.txSeq + 1) % 2 ^ 32 } } t [])) ∧
  (∀ (f : BitVec 32) (s : State), budIdle s = false →
    (claimOk f.toNat = false → Answers (.claimFrameReceived f) s fun t => rd t 0x8004C = rd s 0x8004C + 1 ∧ OnlyRegs s t [0x8004C]) ∧
    (claimOk f.toNat = true → Answers (.claimFrameReceived f) s fun t => t.bud.pClaim = fld f 27 20 ∧ t.bud.pCand = fld f 19 12 ∧ t.bud.pState = fld f 11 10 ∧ t.bud.pHeard = true ∧ t.bud.pLast = ltNs s ∧
      (s.bud.pHeard = false → getB t 0x80000 1 = true) ∧ (budMode s = 3 → budMode t = 3) ∧
      (budMode s = 1 → budMode t = (if beats s (ownClaim s) (fld f 27 20) then 1 else if laneUp s 0 || laneUp s 1 then 2 else 3)) ∧
      (budMode s = 2 → budMode t = (if beats s (ownClaim s) (fld f 27 20) then 1 else 2)) ∧
      (budMode s = 2 → budMode t = 1 → t.bud.gate = true ∧ t.bud.held = [] ∧ (s.bud.held = [] → t.bud.canGate = gateChans s (fresh s).1)) ∧
      (budMode s = 1 → s.bud.gate = true → budMode t = 2 → fld f 11 10 = 1 → t.bud.gate = false ∧ t.bud.canGate = 0))) ∧
  (∀ s : State, budIdle s = false →
    (s.bud.pHeard = true → s.bud.pLast + 8000 ≤ ltNs s → Answers .partnerSilent s fun t => t.bud.pHeard = false ∧ partnerClaim t = 0 ∧ partnerState t = 3 ∧ getB t 0x80000 1 = true ∧
      (budMode s = 2 → 0 < ownClaim s → budMode t = 1 ∧ t.bud.gate = true) ∧ (budMode s = 3 → budMode t = 3)) ∧
    (s.bud.pHeard = false ∨ ltNs s < s.bud.pLast + 8000 → Answers .partnerSilent s fun t => OnlyRegs s t []) ∧
    (budMode s = 3 → partnerState s ≠ 1 → partnerState s ≠ 2 → beats s (ownCand s) (partnerCand s) = true → s.bud.w + frcF s 0x8001C 15 0 * 1000000 ≤ ltNs s → Answers .startWaitEnd s fun t =>
      budMode t = 1 ∧ t.bud.gate = true ∧ (s.bud.held = [] → t.bud.canGate = gateChans s (fresh s).1)) ∧
    (budMode s ≠ 3 ∨ ltNs s < s.bud.w + frcF s 0x8001C 15 0 * 1000000 → Answers .startWaitEnd s fun t => OnlyRegs s t [])) ∧
  (∀ (k j : Fin 2) (s : State), budIdle s = false → j ≠ k →
    (ltNs s < laneSeen s k + 10000 → Answers (.laneDown k) s fun t => OnlyRegs s t []) ∧
    (laneUp s k = true → laneSeen s k + 10000 ≤ ltNs s → laneUp s j = true → Answers (.laneDown k) s fun t => laneUp t k = false ∧ laneUp t j = true ∧ getB t 0x80000 4 = true ∧ OnlyNoted s t [0x80000, 0x80010]) ∧
    (laneUp s k = true → laneSeen s k + 10000 ≤ ltNs s → laneUp s j = false → Answers (.laneDown k) s fun t => laneUp t k = false ∧ t.bud.rx = none ∧ getB t 0x80000 4 = true ∧
      budMode t = (if budMode s = 2 ∧ s.bud.pHeard = true then 3 else budMode s)) ∧
    (laneUp s k = false → Answers (.buddyLaneUp k true) s fun t => laneUp t k = true ∧ laneUp t j = laneUp s j ∧ getB t 0x80000 4 = true ∧ laneSeen t k = ltNs s ∧
      OnlyNoted (laneMark s k) t [0x80000, 0x80010]) ∧
    (laneUp s k = false → Answers (.buddyLaneUp k false) s fun t => laneUp t k = false ∧ OnlyNoted s t []) ∧
    (laneUp s k = false → Answers (.laneDown k) s fun t => OnlyRegs s t [])) ∧
  (∀ (lag : Nat) (s : State),
    (budMode s ≠ 2 → budMode s ≠ 3 ∨ s.bud.resync = false → Answers (.lagLimitExceeded lag) s fun t => OnlyRegs s t []) ∧
    (budMode s = 3 → s.bud.resync = true → s.bud.wantPages = 0 → Answers (.lagLimitExceeded lag) s fun t => getF t 0x80014 15 0 = min lag 65535 ∧ OnlyRegs s t [0x80014]) ∧
    (budMode s = 2 → Answers (.lagLimitExceeded lag) s fun t => getF t 0x80014 15 0 = min lag 65535 ∧ getF t 0x80014 31 16 = max (min lag 65535) (getF s 0x80014 31 16) ∧
      (2000 < lag → getB t 0x80000 3 = true) ∧ (getF s 0x80008 31 16 * 1000 < lag → budMode t = 3 ∧ t.bud.gate = false) ∧ (lag ≤ getF s 0x80008 31 16 * 1000 → OnlyRegs s t [0x80000, 0x80014]))) ∧
  (∀ (o : DiagOutcome) (s : State),
    (s.bud.diverged = none → Answers (.selfDiagnosisComplete o) s fun t => OnlyRegs s t []) ∧
    (s.bud.diverged ≠ none → Answers (.selfDiagnosisComplete o) s fun t => t.bud.diverged = none ∧
      (o = .partnerFails → budMode t = budMode s) ∧ (o = .bothPass → budMode t = (if budMode s = 2 then 3 else budMode s)) ∧
      (o = .ownFails ∨ o = .bothFail → budMode s = 1 ∨ budMode s = 2 → budMode t = 3 ∧ t.bud.failed = true ∧ t.bud.gate = false ∧ t.bud.canGate = 0))) ∧
  (∀ s : State,
    (budIdle s = false → budMode s = 3 → laneUp s 0 = true ∨ laneUp s 1 = true → ownCand s ≠ 0 → getB s 0x80008 1 = true ∨ s.bud.resync = true → Answers .resyncRequest s fun t =>
      OnlyRegs { s with bud := { s.bud with resync := true, pages := [], wantPages := 0, rx := none } } t []) ∧
    (budIdle s = false → budMode s = 1 → partnerState s = 3 → partnerCand s ≠ 0 → laneTest s = false → Answers .resyncRequest s fun t => (∃ r, Sends s t (.bud r) ∧ r.ty = 7 ∧ r.seq = BitVec.ofNat 32 s.bud.txSeq) ∧
      OnlyRegs { s with bud := { s.bud with txSeq := t.bud.txSeq } } t []) ∧
    (budIdle s = true ∨ budMode s = 2 → Answers .resyncRequest s fun t => OnlyRegs s t []))

/-- R469 to R472: an ARP request for the handler's address is answered; a datagram that is not to it or not well formed is counted; an
accepted one becomes the client's and its request enters mailbox 8; the client's last SEQ gets its stored response again, or the header that says that it is too
long, an older one is discarded, and another client is answered busy; in rescue the handler executes the update's requests itself, in datagrams of KIND 4. -/
def Obligations.ServicePort : Prop :=
  (∀ (f : List Byte) (s : State), spServes s = true →
    (arpFor f s.upd.svc.ip = true → Answers (.serviceArp f) s fun t => SpSends s t (arpReply s f) ∧ t.free = s.free) ∧
    (arpFor f s.upd.svc.ip = false → Answers (.serviceArp f) s fun t => OnlyRegs { s with upd := { s.upd with pktBad := (s.upd.pktBad + 1) % 2 ^ 32 } } t [])) ∧
  (∀ (f : List Byte) (s : State), spServes s = false → ∀ c ∈ [Instr.serviceArp f, .serviceDatagram f, .rescueRequest f], Answers c s fun t => OnlyRegs s t []) ∧
  (∀ (f : List Byte) (s : State), spServes s = true →
    (svcUdp s f = false ∨ svcForm (svcData f) 0 = false ∨ s.boot.rescue = true ∨ s.upd.svc.auth = true ∧ svcMacOk s (svcData f) = false → Answers (.serviceDatagram f) s fun t => OnlyRegs { s with upd := { s.upd with pktBad := (s.upd.pktBad + 1) % 2 ^ 32 } } t []) ∧
    (svcUdp s f = false ∨ svcForm (svcData f) 3 = false ∨ s.boot.rescue = false → Answers (.rescueRequest f) s fun t => OnlyRegs { s with upd := { s.upd with pktBad := (s.upd.pktBad + 1) % 2 ^ 32 } } t [])) ∧
  (∀ (f : List Byte) (s : State), spServes s = true → svcUdp s f = true → svcForm (svcData f) 0 = true → s.boot.rescue = false → s.upd.svc.auth = false ∨ svcMacOk s (svcData f) = true →
    (s.upd.client = none ∨ (∃ c, s.upd.client = some c ∧ (c = svcFrom f ∨ svcHeld s = false) ∧ seqNewer (svcSeq (svcData f)) s.upd.clientSeq = true ∧ svcBusy s = false) → inFlight (mbxAt s 8) < 8 →
      Answers (.serviceDatagram f) s fun t => t.upd.client = some (svcFrom f) ∧ t.upd.clientSeq = svcSeq (svcData f) ∧ t.upd.clientAt = ltNs s ∧ t.upd.resp = none ∧ t.upd.pktOk = (s.upd.pktOk + 1) % 2 ^ 32 ∧
        ∃ r, (mbxAt t 8).queue = (mbxAt s 8).queue ++ [r] ∧ r.hdr = (svcBody (svcData f)).take 16) ∧
    (∀ c, s.upd.client = some c → c = svcFrom f ∨ svcHeld s = false → svcSeq (svcData f) = s.upd.clientSeq →
      (∀ bs b, s.upd.resp = some bs →
        (if svcTooLong s s.upd.svc bs then svcReply s s.upd.svc f 5 s.upd.clientSeq (bs.take 16) else svcReply s s.upd.svc f 1 s.upd.clientSeq bs) = some b →
        Answers (.serviceDatagram f) s fun t => SpSends s t b) ∧
      (s.upd.resp = none → Answers (.serviceDatagram f) s fun t => OnlyRegs s t [])) ∧
    (∀ c, s.upd.client = some c → c = svcFrom f ∨ svcHeld s = false → svcSeq (svcData f) ≠ s.upd.clientSeq → seqNewer (svcSeq (svcData f)) s.upd.clientSeq = false ∨ svcBusy s = true → Answers (.serviceDatagram f) s fun t =>
      OnlyRegs { s with upd := { s.upd with pktBad := (s.upd.pktBad + 1) % 2 ^ 32 } } t []) ∧
    (∀ c b, s.upd.client = some c → c ≠ svcFrom f → svcHeld s = true → svcReply s s.upd.svc f 2 (svcSeq (svcData f)) [] = some b → Answers (.serviceDatagram f) s fun t => SpSends s t b)) ∧
  (∀ (f : List Byte) (s : State) (r : Req), s.boot.rescue = true → svcUdp s f = true → svcForm (svcData f) 3 = true → s.upd.client = none → s.upd.reset = false →
    r = rescueReq (svcBody (svcData f)) →
    (∀ a, a = (if r.code < 0x0901 ∨ 0x0905 < r.code then { status := 3, data := [], wait := false }
          else if r.len + 16 ≠ (svcBody (svcData f)).length then { status := 1, data := [], wait := false }
          else { status := 0, data := updStatusBytes (svcAccept s f), wait := false }) →
      r.code < 0x0901 ∨ 0x0905 < r.code ∨ r.len + 16 ≠ (svcBody (svcData f)).length ∨ r.code = 0x0901 ∧ r.len = 0 → Answers (.rescueRequest f) s fun t => t.upd.client = some (svcFrom f) ∧
        t.upd.resp = some (respBytes s r a) ∧
        ∀ b, svcReply s s.upd.svc f 4 (svcSeq (svcData f)) (respBytes s r a) = some b → Sends s t (.service b))) ∧
  (∀ (f : List Byte) (s : State) (c : Nat × Nat), s.boot.rescue = true → svcUdp s f = true → svcForm (svcData f) 3 = true → s.upd.client = some c → s.upd.reset = false →
    (∀ b, c ≠ svcFrom f → svcHeld s = true → svcReply s s.upd.svc f 2 (svcSeq (svcData f)) [] = some b → Answers (.rescueRequest f) s fun t => SpSends s t b) ∧
    (∀ bs b, c = svcFrom f ∨ svcHeld s = false → svcSeq (svcData f) = s.upd.clientSeq → s.upd.resp = some bs → svcReply s s.upd.svc f 4 s.upd.clientSeq bs = some b →
      Answers (.rescueRequest f) s fun t => SpSends s t b) ∧
    (c = svcFrom f ∨ svcHeld s = false → svcSeq (svcData f) ≠ s.upd.clientSeq → seqNewer (svcSeq (svcData f)) s.upd.clientSeq = false ∨ svcBusy s = true → Answers (.rescueRequest f) s fun t =>
      OnlyRegs { s with upd := { s.upd with pktBad := (s.upd.pktBad + 1) % 2 ^ 32 } } t []))

/-- R474, R476 to R479, R482, R485: the UPD commands: what they return, and what they do to the flash, the mode, the service settings and
the OTP. Whether an erase or a program succeeds is a free value (log 36). -/
def Obligations.UpdateCommands : Prop :=
  (∀ (m : Mbx) (s : State) (x : MbxReq), Asks s m 0x0901 x → leAt x.hdr 6 2 = 0 → Answers (.updGetStatus m) s fun t => Replies s t m x 0 (updStatusBytes s)) ∧
  (∀ (m : Mbx) (s : State) (x : MbxReq), Asks s m 0x0902 x → leAt x.hdr 6 2 = 0 → leAt x.hdr 4 1 = 0 →
    (s.upd.mode = 0 → budMode s < 2 → Answers (.updBegin m) s fun t =>
      (Config.flashOk s.free = true → t.upd.mode = 1 ∧ t.upd.verified = false ∧ t.upd.nWords = 0 ∧ t.upd.words = [] ∧ Replies s t m x 0 [BitVec.ofNat 8 (stagedBank s), 0, 0, 0] ∧
        ∀ a, flashByte t a = if bankBase (stagedBank s) ≤ a ∧ a < bankBase (stagedBank s) + bankSize ∨ manifestBase (stagedBank s) ≤ a ∧ a < manifestBase (stagedBank s) + 0x1000 then 0xFF else flashByte s a) ∧
      (Config.flashOk s.free = false → t.upd = s.upd ∧ t.flash = s.flash ∧ Replies s t m x 6 [])) ∧
    (s.upd.mode ≠ 0 ∨ 2 ≤ budMode s → Answers (.updBegin m) s fun t => t.upd = s.upd ∧ t.flash = s.flash ∧ Replies s t m x 3 [])) ∧
  (∀ (m : Mbx) (s : State) (x : MbxReq) (off n : Nat), Asks s m 0x0903 x → leAt x.hdr 4 1 = 0 → leAt x.hdr 6 2 = 4 + n → 4 ≤ n → n ≤ 1024 → n % 4 = 0 → x.fields.length = 4 + n → off = leAt x.fields 0 4 →
    (staging s = false ∨ 2 ≤ budMode s → Answers (.updWrite m) s fun t => t.upd = s.upd ∧ t.flash = s.flash ∧ Replies s t m x 3 []) ∧
    (staging s = true → budMode s < 2 → off % 4 = 0 → off + n ≤ imageEnd → (imageWords off n).any (writtenBefore s) = false → Answers (.updWrite m) s fun t => t.upd.verified = false ∧
      (Config.flashOk s.free = true → Replies s t m x 0 [] ∧ t.upd.nWords = s.upd.nWords + n / 4 ∧ (∀ w, writtenBefore t w = (writtenBefore s w || (imageWords off n).contains w)) ∧
        (∀ k, k < n → flashByte t (imageAddr (stagedBank s) (off + k)) = x.fields.getD (4 + k) 0) ∧
        ∀ a, (∀ k, k < n → a ≠ imageAddr (stagedBank s) (off + k)) → flashByte t a = flashByte s a) ∧
      (Config.flashOk s.free = false → Replies s t m x 6 [] ∧ t.flash = s.flash ∧ staging t = false ∧ ∀ w ∈ imageWords off n, writtenBefore t w = true)) ∧
    (staging s = true → budMode s < 2 → off % 4 ≠ 0 ∨ imageEnd < off + n ∨ (imageWords off n).any (writtenBefore s) = true → Answers (.updWrite m) s fun t => t.upd = s.upd ∧ t.flash = s.flash ∧ Replies s t m x 2 [])) ∧
  (∀ (m : Mbx) (s : State) (x : MbxReq), Asks s m 0x0904 x → leAt x.hdr 6 2 = 0 → leAt x.hdr 4 1 = 0 →
    (staging s = true → Answers (.updVerify m) s fun t =>
      (verifyStaged s = none → t.upd.verified = true ∧ t.upd.live = classLive s ∧ Replies s t m x 0 [BitVec.ofNat 8 (bnat (!classLive s)), 0, 0, 0] ∧
        ∀ a, flashByte t a = if 0x1000 * otherRecord s ≤ a ∧ a < 0x1000 * otherRecord s + 0x1000 then 0xFF else flashByte s a) ∧
      (∀ v, verifyStaged s = some v → t.upd = s.upd ∧ t.flash = s.flash ∧ Replies s t m x v.status [])) ∧
    (staging s = false → Answers (.updVerify m) s fun t => t.upd = s.upd ∧ t.flash = s.flash ∧ Replies s t m x 3 [])) ∧
  (∀ (m : Mbx) (s : State) (x : MbxReq) (a : Nat), Asks s m 0x0905 x → leAt x.hdr 6 2 = 4 → leAt x.hdr 4 1 = 0 → a = leAt x.fields 0 1 → s.upd.reset = false →
    (s.upd.mode = 1 → s.upd.verified = true → budMode s = 0 → a = 0 ∧ s.upd.live = true ∧ s.boot.rescue = false ∨ a = 1 → Answers (.updActivate m) s fun t =>
      (partsRead s = false → t.upd.mode = 1 ∧ t.upd.verified = false ∧ t.flash = s.flash ∧ Replies s t m x 6 []) ∧
      (partsRead s = true → Config.flashOk (s.free + 2) = true →
        leAt (flashRead t (0x1000 * otherRecord s) 64) 8 1 = stagedBank s ∧ leAt (flashRead t (0x1000 * otherRecord s) 64) 4 4 = (s.boot.bootSeq + 1) % 2 ^ 32 ∧
        t.upd.trial = (if leAt x.fields 2 2 = 0 then none else some (s.lan.lnt, leAt x.fields 2 2)) ∧
        t.upd.confirm = decide (leAt x.fields 2 2 = 0) ∧ (a = 0 → t.upd.mode = 2 ∧ t.upd.swaps = 1 ∧ t.boot = s.boot ∧ Replies s t m x 0 []) ∧
        (a = 1 → t.boot = { Boot.init with stage := 1, cause := 2 }))) ∧
    (s.upd.mode = 1 → s.upd.verified = true → budMode s = 1 → partnerState s ≠ 2 → a = 0 ∧ s.upd.live = true ∧ s.boot.rescue = false ∨ a = 1 → Answers (.updActivate m) s fun t =>
      t.upd.mode = 1 ∧ t.upd.verified = false ∧ t.flash = s.flash ∧ Replies s t m x 6 []) ∧
    (s.upd.mode ≠ 1 ∨ s.upd.verified = false ∨ 2 ≤ budMode s → Answers (.updActivate m) s fun t => t.upd = s.upd ∧ t.flash = s.flash ∧ Replies s t m x 3 []) ∧
    (s.upd.mode = 1 → s.upd.verified = true → budMode s < 2 → 1 < a → Answers (.updActivate m) s fun t => t.upd = s.upd ∧ t.flash = s.flash ∧ Replies s t m x 2 [])) ∧
  (∀ (m : Mbx) (s : State) (x : MbxReq), leAt x.hdr 6 2 = 0 → leAt x.hdr 4 1 = 0 →
    (Asks s m 0x0906 x → runsNewest s = true → Answers (.updConfirm m) s fun t => t.otp.floors = (raiseFloors s).otp.floors ∧ t.upd.trial = none ∧ t.upd.mode = (if s.upd.mode = 2 then 0 else s.upd.mode) ∧
      Replies s t m x 0 (u8s (raiseFloors s).otp.floors)) ∧
    (Asks s m 0x0906 x → runsNewest s = false → Answers (.updConfirm m) s fun t => t.otp = s.otp ∧ t.upd = s.upd ∧ Replies s t m x 3 []) ∧
    (Asks s m 0x0907 x → s.upd.reset = false →
      (s.upd.mode = 0 → Answers (.updAbort m) s fun t => t.upd = s.upd ∧ Replies s t m x 3 []) ∧
      (s.upd.mode = 1 → Answers (.updAbort m) s fun t => t.upd = { s.upd with mode := 0, verified := false } ∧ t.flash = s.flash ∧ Replies s t m x 0 []) ∧
      (s.upd.mode = 2 → s.upd.pair = 0 → Answers (.updAbort m) s fun t => t.boot = { Boot.init with stage := 1, cause := 2 } ∧ t.upd.mode = 0 ∧ t.upd.trial = none))) ∧
  (∀ (m : Mbx) (s : State) (x : MbxReq) (k : Nat), Asks s m 0x0908 x → leAt x.hdr 6 2 = 12 → leAt x.hdr 4 1 = 0 → k = leAt x.fields 8 2 →
    (k ≤ 1023 → svcKeyOk s k = true → Answers (.updSetService m) s fun t => Replies s t m x 0 [] ∧
      t.upd = { s.upd with svc := { ip := leAt x.fields 0 4, port := leAt x.fields 4 2, auth := nbit (leAt x.fields 6 1) 0, key := k } }) ∧
    (k ≤ 1023 → svcKeyOk s k = false → Answers (.updSetService m) s fun t => Replies s t m x 5 [] ∧ t.upd = s.upd) ∧
    (1023 < k → Answers (.updSetService m) s fun t => Replies s t m x 2 [] ∧ t.upd = s.upd)) ∧
  (∀ (m : Mbx) (s : State) (x : MbxReq) (p : Nat), Asks s m 0x0909 x → leAt x.hdr 6 2 = 36 → leAt x.hdr 4 1 = 0 → p = leAt x.fields 0 1 → p ≤ 3 → s.otp.keys.length = 4 →
    (leAt x.fields 1 1 = 0 → p ≠ 0 → (keyPosition s p).1 = [] → Answers (.updOtpKey m) s fun t => Replies s t m x 0 [] ∧ keyPosition t p = (slice x.fields 4 32, (keyPosition s p).2) ∧
      (∀ j, j ≠ p → keyPosition t j = keyPosition s j) ∧ t.otp.floors = s.otp.floors) ∧
    (leAt x.fields 1 1 = 0 → p = 0 ∨ (keyPosition s p).1 ≠ [] → Answers (.updOtpKey m) s fun t => Replies s t m x 3 [] ∧ t.otp = s.otp) ∧
    (leAt x.fields 1 1 = 1 → otherKeys s p = true → Answers (.updOtpKey m) s fun t => Replies s t m x 0 [] ∧ keyPosition t p = ((keyPosition s p).1, true) ∧ ∀ j, j ≠ p → keyPosition t j = keyPosition s j) ∧
    (leAt x.fields 1 1 = 1 → (keyPosition s p).1 ≠ [] → (keyPosition s p).2 = false → otherKeys s p = false → Answers (.updOtpKey m) s fun t => Replies s t m x 3 [] ∧ t.otp = s.otp) ∧
    (1 < leAt x.fields 1 1 → Answers (.updOtpKey m) s fun t => Replies s t m x 2 [] ∧ t.otp = s.otp))

/-- R480 to R482: the swaps follow one another, microcode, lantern, handover; one that fails resets the device (whether it does is a free
value, log 36); when the new Popezal serves, the new bank runs; an unconfirmed trial rolls back at the end of its window, with a new
record that names the previous bank, and a reset. -/
def Obligations.SwapsAndTrial : Prop :=
  (∀ s : State,
    (s.upd.swaps = 1 → Answers .microcodeSwap s fun t => (Config.swapOk s.free = true → OnlyRegs { s with free := s.free + 1, upd := { s.upd with swaps := 2 } } t []) ∧
      (Config.swapOk s.free = false → t.boot = { Boot.init with stage := 1, cause := 2 } ∧ t.flash = s.flash)) ∧
    (s.upd.swaps ≠ 1 → Answers .microcodeSwap s fun t => OnlyRegs s t []) ∧
    (s.upd.swaps = 2 → Answers .lanternSwap s fun t => (Config.swapOk s.free = true → OnlyRegs { s with free := s.free + 1, serdes := (serdesSwap s).serdes, eth := (serdesSwap s).eth, upd := { s.upd with swaps := 3 } } t []) ∧
      (Config.swapOk s.free = false → t.boot = { Boot.init with stage := 1, cause := 2 } ∧ t.flash = s.flash)) ∧
    (s.upd.swaps ≠ 2 → Answers .lanternSwap s fun t => OnlyRegs s t []) ∧
    (s.upd.swaps = 3 → inService s = 0 → Answers .popezalHandover s fun t => mbxPaused t = true ∧ OnlyRegs { s with upd := { s.upd with swaps := 4 } } t []) ∧
    (s.upd.swaps ≠ 3 ∨ inService s ≠ 0 → Answers .popezalHandover s fun t => OnlyRegs s t []) ∧
    (s.upd.swaps = 4 → s.upd.trial ≠ none → s.lan.waiting = none → s.mir.waiting = [] → Answers .thermosHandoverComplete s fun t =>
      (Config.swapOk s.free = true → t.upd = { s.upd with swaps := 0 } ∧ t.boot = { s.boot with bank := stagedBank s, bootSeq := (s.boot.bootSeq + 1) % 2 ^ 32, rec1 := !s.boot.rec1, fallback := false, imageVer := t.boot.imageVer, popVer := t.boot.popVer } ∧
        (∀ e, dirFind ((bankDir s (stagedBank s)).getD []) 11 = some e → t.boot.popVer = e.ver) ∧ mbxPaused t = false) ∧
      (Config.swapOk s.free = false → t.boot = { Boot.init with stage := 1, cause := 2 })) ∧
    (s.upd.swaps ≠ 4 → Answers .thermosHandoverComplete s fun t => OnlyRegs s t [])) ∧
  (∀ s : State,
    (trialOver s = true → Answers .trialWindowEnd s fun t => t.boot = { Boot.init with stage := 1, cause := 2 } ∧ t.upd.trial = none ∧ t.upd.mode = 0 ∧
      ∀ k r, followed s = some (k, r) → s.upd.pair = 0 → Config.flashOk (s.free + 1) = true →
        leAt (flashRead t (0x1000 * (1 - k)) 64) 8 1 = 1 - r.bank ∧ leAt (flashRead t (0x1000 * (1 - k)) 64) 4 4 = (r.seq + 1) % 2 ^ 32) ∧
    (trialOver s = false → Answers .trialWindowEnd s fun t => OnlyRegs s t []))

/-- R343: a write of s to IRQ_COMPLETEt takes s out of service when its OWNER is t; if s is a level source whose level is 1, P is set
again at once; a completion naming a source that is not in service with OWNER t is ignored, counts in IRQ_BAD_COMPLETE and sets
BAD_COMPLETE_EV. (To the host the registers of target 8 are reserved locations, R351, and its write is discarded.) -/
def Obligations.CompletionReleasesTheSource : Prop :=
  (∀ (q : Requester) (t : Fin 9) (data : Word) (s : State) (n : Nat), (t.val = 8 → q = .supervisor) → n = fld data 8 0 →
    (heldBy s t n = true → Answers (.irqComplete q t data) s fun u => heldBy u t n = false ∧ (n ≠ 185 → u.irq.insvc.getLsbD n = false ∧ SMap.get (fun _ => 15) u.irq.owner n = 15) ∧
      (∀ m, m < 512 → m ≠ n → u.irq.insvc.getLsbD m = s.irq.insvc.getLsbD m) ∧ (∀ t', t' < 9 → t' ≠ t.val ∨ n ≠ 185 → u.irq.nmiSvc.getLsbD t' = s.irq.nmiSvc.getLsbD t') ∧
      (n < 256 → level s n = true → if n = 185 then u.irq.nmiPend.getLsbD t = true else u.irq.pend.getLsbD n = true) ∧ OnlyRegs { s with armed := u.armed } u []) ∧
    (heldBy s t n = false → Answers (.irqComplete q t data) s fun u => rd u 0x20A04 = rd s 0x20A04 + 1 ∧ getB u 0x20A00 0 = true ∧ u.irq.insvc = s.irq.insvc ∧ u.irq.owner = s.irq.owner ∧
      u.irq.nmiSvc = s.irq.nmiSvc ∧ OnlyRegs { s with armed := u.armed } u [0x20A00, 0x20A04])) ∧
  (∀ (q : Requester) (data : Word) (s : State), q ≠ .supervisor → Answers (.irqComplete q 8 data) s fun u => (q = .host → rd u 0x51014 = rd s 0x51014 + 1) ∧ u.irq.insvc = s.irq.insvc ∧ u.irq.owner = s.irq.owner)

/-- R454, R455: in STANDBY a write by an own requester to a paired block is ignored and counts in BUD_LOCAL_REJECT; a command on a paired
table is answered DENIED, a request that would change paired state E_STATE; and the unit makes no firing of its own. -/
def Obligations.StandbyIgnoresItsOwn : Prop :=
  (∀ (s : State) (q : Requester) (n : Chan) (a : Fin 12) (data : Word) (ch : BitVec 6) (ob : ApObj) (hi : Bool), budMode s = 2 →
    ∀ c ∈ [Instr.modeReqWrite q n data, .recover q n, .canCntClr q n, .tdcMeasClr q n, .motClrOne q ch, .motClrAll q, .rtEnSet q data, .rtEnClear q data, .seCntClr q, .sweepPause q data,
        .sweepResume q data, .sigImgCntClr q, .lanCmdSleep q data, .lanCmdWake q data, .mirEnSet q data, .mirEnClear q data, .sigMirCntClr q, .apertureModeWrite q a data, .apertureRecover q a,
        .apertureTxreq q a ob data, .apertureValidWrite q a ob data, .apertureDataWrite q a ob hi data],
      Answers c s fun t => rd t 0x80054 = rd s 0x80054 + 1 ∧ armed t q = false ∧ OnlyRegsOf q s t [0x80054]) ∧
  (∀ (s : State) (i : Fin 768) (j : Fin 256) (k : Fin 1024) (l : Fin 2048), budMode s = 2 →
    ∀ c ∈ [Instr.tstFirePeriodic i, .tstChangeFire i, .dstFirePeriodic j, .timeoutScan, .pubFirePeriodic k, .pubChangePass k, .subTimeout k, .tttFirePeriodic l, .sweeperVisit],
      Answers c s fun t => OnlyRegs s t []) ∧
  (∀ (s : State) (pg : Page) (c : Instr) (tab op i : Nat),
    (c, tab, op) ∈ [(Instr.motWrite pg, 1, 2), (.motClear pg, 1, 3), (.tstWrite pg, 4, 2), (.sdpWrite pg, 5, 2), (.dstClear pg, 8, 3), (.pubWrite pg, 9, 2), (.subWrite pg, 0xA, 2), (.tttClear pg, 0xD, 3),
      (.sltWrite pg, 0x17, 2), (.tstSend pg, 4, 8), (.pubSend pg, 9, 8)] →
    budMode s = 2 → s.bud.executing = none → relocating s pg = false → getB s (pageR pg 8) 0 = true → pageTab s pg = tab → pageOp s pg = op → getB s (pageR pg 0) 16 = false → getF s (pageR pg 4) 19 0 = i →
    Answers c s fun t => PageDone t pg 5 0 ∧ t.tbl = s.tbl ∧ t.obj = s.obj ∧ RegsKept s t [pageR pg 8, pageR pg 0xC]) ∧
  (∀ (m : Mbx) (s : State) (x : MbxReq), budMode s = 2 → s.bud.executing = none →
    (Asks s m 0x0702 x → leAt x.hdr 6 2 = 8 → maskComp s (reqOf m false x) (leAt x.fields 0 8) = true → Answers (.pwrSegSleep m) s fun t => Replies s t m x 3 [] ∧ t.lan = s.lan) ∧
    (Asks s m 0x0706 x → leAt x.hdr 6 2 = 4 → leAt x.hdr 4 1 = 0 → Answers (.pwrSetState m) s fun t => Replies s t m x 3 [] ∧ t.lan = s.lan))

/-- R108, R109, R111, R114, R116, R119, R120, R122, R126 to R128, R162, R187, R193: each row of the signal image and each SIG command has
its effect, and none changes a table or a shadow, a CAN channel, an object or the payload store. -/
def Obligations.ImageRowsKeepCarriers : Prop :=
  (∀ s : State, imageReady s = true → budMode s ≠ 2 → getB s 0x1A0008 0 = true → Answers .sweeperVisit s fun t =>
    getF t 0x1A000C 24 0 = (getF s 0x1A000C 24 0 + 1) % 2 ^ 25 ∧ CarriersKept s t) ∧
  (∀ (q : Requester) (data : Word) (s : State), budMode s ≠ 2 → keyOk s q = true →
    (getB s 0x1A0008 0 = true → s.sweepRunFrom = none → Answers (.sweepPause q data) s fun t => getB t 0x1A0008 0 = false ∧ CarriersKept s t ∧ t.slots = s.slots) ∧
    (getB s 0x1A0008 0 = false → Answers (.sweepResume q data) s fun t => getB t 0x1A0008 0 = true ∧ CarriersKept s t ∧ t.slots = s.slots)) ∧
  (∀ (s : State) (p : Nat), s.sweepPauseAt = some p → p + 60000000000 ≤ ltNs s → Answers .sweepRearm s fun t =>
    getB t 0x1A0008 0 = true ∧ CarriersKept s t ∧ t.slots = s.slots) ∧
  (∀ (off : BitVec 29) (len : Nat) (s : State), Answers (.bar4Read off len) s fun t =>
    Sends s t (.bar4 (slice ((bar4Slots off.toNat len).flatMap (bar4Slot s)) (off.toNat % 16) len)) ∧ CarriersKept s t ∧ t.slots = s.slots) ∧
  (∀ (off : BitVec 29) (len : Nat) (s : State), Answers (.bar4Write off len) s fun t =>
    rd t 0x1A0038 = rd s 0x1A0038 + 1 ∧ getB t 0x1A0000 1 = true ∧ CarriersKept s t ∧ t.slots = s.slots) ∧
  (∀ s : State, (s.cache.map Prod.fst).Nodup → Answers .cacheCountHalving s fun t =>
    (∀ k, (cacheAt t k).count = (cacheAt s k).count / 2) ∧ CarriersKept s t ∧ t.slots = s.slots) ∧
  (∀ (i : Fin 64) (v : BitVec 64) (s : State), imageReady s = true → houseIdx i.val = true → getF s 0x7000C 1 0 ≤ 1 → segMode s (gsid (ownVeh s) 63 i.val) = 0 →
    Answers (.housekeepingWrite i v) s fun t => (slotAt t (gsid (ownVeh s) 63 i.val)).value = houseValue s i.val v ∧ CarriersKept s t) ∧
  (∀ s : State, 3 ≤ s.boot.stage → ready s 7 = true → s.boot.todo.contains 9 = false → s.boot.rescue = false → s.boot.resume = false → imageReady s = false →
    powerState s < 2 → Answers .imageInitComplete s fun t => imageReady t = true ∧ CarriersKept s t ∧ t.slots = s.slots) ∧
  (∀ s : State, s.boot.resume = true → ready s 7 = true → powerState s < 2 → Answers .resumePassComplete s fun t =>
    imageReady t = true ∧ t.boot.resume = false ∧ CarriersKept s t) ∧
  (∀ (m : Mbx) (s : State) (x : MbxReq), imageReady s = true → budMode s ≠ 2 →
    (∀ v seg new, Asks s m 0x0301 x → leAt x.hdr 6 2 = 4 → v = leAt x.fields 0 1 → seg = leAt x.fields 1 1 → new = leAt x.fields 2 1 → v ≤ 63 → seg ≤ 63 → new ≤ 2 →
      ¬ (v = ownVeh s ∧ seg = 63) → leAt x.hdr 4 1 = 0 → s.passes = [] → Answers (.sigSetSegmentMode m) s fun t =>
        pairMode t (v * 64 + seg) = new ∧ (∀ k, k ≠ v * 64 + seg → pairMode t k = pairMode s k) ∧ CarriersKept s t ∧ t.slots = s.slots) ∧
    (∀ k, Asks s m 0x0302 x → k = leAt x.fields 0 2 → 1 ≤ k → k ≤ 64 → leAt x.hdr 6 2 = 4 + 4 * k → leAt x.hdr 4 1 = 0 → (∀ g ∈ gsidsOf (reqOf m false x), g < 2 ^ 25) →
      Answers (.sigReadSlots m) s fun t => Replies s t m x 0 ((gsidsOf (reqOf m false x)).flatMap fun g => slotBytes (slotAt s g)) ∧ CarriersKept s t ∧ t.slots = s.slots) ∧
    (Asks s m 0x0303 x → leAt x.hdr 4 1 = 0 → leAt x.hdr 6 2 = 8 → Answers (.sigSetVisibility m) s fun t =>
      (∀ i, i < 64 → segVisible t i = nbit (leAt x.fields 0 8) i) ∧ CarriersKept s t ∧ t.slots = s.slots) ∧
    (Asks s m 0x0304 x → leAt x.hdr 4 1 = 0 → leAt x.hdr 6 2 = 8 → bitCount (leAt x.fields 0 8) 64 ≤ 12 → Answers (.sigSetPin m) s fun t =>
      rd t 0x1A0020 = BitVec.ofNat 32 (leAt x.fields 0 8) ∧ rd t 0x1A0024 = BitVec.ofNat 32 (leAt x.fields 0 8 / 2 ^ 32) ∧ CarriersKept s t ∧ t.slots = s.slots) ∧
    (∀ g, Asks s m 0x0305 x → leAt x.hdr 6 2 = 20 → leAt x.fields 0 2 = 1 → g = leAt x.fields 4 4 → g < 2 ^ 25 → 56 ≤ gSeg g → gSeg g ≤ 59 → gVeh g = ownVeh s →
      leAt x.hdr 4 1 = 0 → segMode s g = 0 → poolFits s 12 8 = true → Answers (.sigWriteHg m) s fun t =>
        (slotAt t g).value = BitVec.ofNat 64 (leAt x.fields 12 8) ∧ (slotAt t g).valid = true ∧ CarriersKept s t) ∧
    (∀ i, Asks s m 0x0306 x → leAt x.hdr 6 2 = 4 → i = leAt x.fields 0 2 → i ≤ 255 → leAt x.hdr 4 1 = 0 → getB s 0x1A1008 0 = true → dsTrig (tGet s 8 i) ≠ 0 →
      s.runs = [] → Answers (.sigRunDerive m) s fun t => t.runs.map Run.dst = [i] ∧ CarriersKept s t ∧ t.slots = s.slots) ∧
    (∀ v, Asks s m 0x0307 x → leAt x.hdr 4 1 = 0 → leAt x.hdr 6 2 = 12 → v = leAt x.fields 0 1 → v ≤ 63 → leAt x.fields 1 1 = 0 → Answers (.sigSetConsist m) s fun t =>
      ownVeh t = v ∧ (∀ g, g < 2 ^ 25 → gVeh g ≠ v → slotAt t g = Slot.init) ∧ CarriersKept s t) ∧
    (Asks s m 0x0308 x → leAt x.hdr 6 2 = 0 → Answers (.sigGetPresence m) s fun t => (mbxAt t m).inSvc = none ∧ CarriersKept s t ∧ t.slots = s.slots)) ∧
  (∀ (s : State) (p : ModePass), s.passes = [p] → p.pair < 4096 → Answers .modePass s fun t =>
    t.passes = [] ∧ (∀ g, g / 8192 ≠ p.pair → slotAt t g = slotAt s g) ∧ CarriersKept s t)
end

