-- ==== Sys2Proof/Laws/SMap.lean ====
section
/-!
SUPPORT. Sys2Proof/Laws/SMap.lean: the laws of the sparse stores: a read after a write, the canonical form, and that equal
readings are equal data.
-/
namespace Sys2Proof.Machine

variable {α : Type} [DecidableEq α]

omit [DecidableEq α] in
@[simp] theorem SMap.get_nil (d : Nat → α) (k : Nat) : SMap.get d [] k = d k := rfl

omit [DecidableEq α] in
theorem SMap.get_cons (d : Nat → α) (e : Nat × α) (m : SMap α) (k : Nat) :
    SMap.get d (e :: m) k = if e.1 = k then e.2 else SMap.get d m k := by
  by_cases h : e.1 = k <;> simp [SMap.get, h]

omit [DecidableEq α] in
theorem SMap.get_del (d : Nat → α) (m : SMap α) (k k' : Nat) :
    SMap.get d (SMap.del m k) k' = if k' = k then d k' else SMap.get d m k' := by
  induction m with
  | nil => simp [SMap.del]
  | cons e m ih =>
    rw [SMap.get_cons]
    by_cases h : e.1 = k
    · have : SMap.del (e :: m) k = SMap.del m k := by simp [SMap.del, h]
      rw [this, ih]; split <;> simp_all
      intro h'; omega
    · have : SMap.del (e :: m) k = e :: SMap.del m k := by simp [SMap.del, h]
      rw [this, SMap.get_cons, ih]; split <;> simp_all

omit [DecidableEq α] in
theorem SMap.get_ins (d : Nat → α) (m : SMap α) (k k' : Nat) (v : α) (h : ∀ e ∈ m, e.1 ≠ k) :
    SMap.get d (SMap.ins m k v) k' = if k' = k then v else SMap.get d m k' := by
  induction m with
  | nil => simp [SMap.ins, SMap.get_cons, eq_comm]
  | cons e m ih =>
    have he := h e (by simp)
    have hm : ∀ x ∈ m, x.1 ≠ k := fun x hx => h x (by simp [hx])
    unfold SMap.ins
    by_cases hk : k' = k
    · subst hk; split <;> simp [SMap.get_cons, ih hm, he]
    · have hk2 : ¬k = k' := fun e => hk e.symm
      split <;> simp [SMap.get_cons, ih hm, hk, hk2]

omit [DecidableEq α] in
theorem SMap.del_ne (m : SMap α) (k : Nat) : ∀ e ∈ SMap.del m k, e.1 ≠ k := by simp [SMap.del]

/-- A read after a write: the key written gives the value, every other key what it gave. -/
theorem SMap.get_set (d : Nat → α) (m : SMap α) (k k' : Nat) (v : α) :
    SMap.get d (SMap.set d m k v) k' = if k' = k then v else SMap.get d m k' := by
  unfold SMap.set
  split
  · rw [SMap.get_del]; split <;> simp_all
  · rw [SMap.get_ins _ _ _ _ _ (SMap.del_ne m k), SMap.get_del]; split <;> simp_all

@[simp] theorem SMap.get_set_same (d : Nat → α) (m : SMap α) (k : Nat) (v : α) :
    SMap.get d (SMap.set d m k v) k = v := by simp [SMap.get_set]

theorem SMap.get_set_ne (d : Nat → α) (m : SMap α) (k k' : Nat) (v : α) (h : k' ≠ k) :
    SMap.get d (SMap.set d m k v) k' = SMap.get d m k' := by simp [SMap.get_set, h]

theorem SMap.wf_nil (d : Nat → α) : SMap.wf d [] := by simp [SMap.wf]

theorem SMap.wf_del (d : Nat → α) (m : SMap α) (k : Nat) (h : SMap.wf d m) : SMap.wf d (SMap.del m k) :=
  ⟨h.1.filter _, fun e he => h.2 e (List.mem_of_mem_filter he)⟩

omit [DecidableEq α] in
theorem SMap.mem_ins (m : SMap α) (k : Nat) (v : α) (e : Nat × α) :
    e ∈ SMap.ins m k v ↔ e = (k, v) ∨ e ∈ m := by
  induction m with
  | nil => simp [SMap.ins]
  | cons x m ih => unfold SMap.ins; split <;> simp [ih]; tauto

theorem SMap.wf_ins (d : Nat → α) (m : SMap α) (k : Nat) (v : α) (h : SMap.wf d m) (hk : ∀ e ∈ m, e.1 ≠ k)
    (hv : v ≠ d k) : SMap.wf d (SMap.ins m k v) := by
  refine ⟨?_, fun e he => ?_⟩
  · have h1 := h.1
    clear h hv
    induction m with
    | nil => simp [SMap.ins]
    | cons x m ih =>
      rw [List.pairwise_cons] at h1
      have hx := hk x (by simp)
      unfold SMap.ins
      split
      · rename_i hlt
        rw [List.pairwise_cons, List.pairwise_cons]
        refine ⟨fun e he => ?_, h1.1, h1.2⟩
        rcases List.mem_cons.1 he with rfl | he
        · exact hlt
        · exact Nat.lt_trans hlt (h1.1 e he)
      · rename_i hlt
        rw [List.pairwise_cons]
        refine ⟨fun e he => ?_, ih (fun e he => hk e (by simp [he])) h1.2⟩
        rcases (SMap.mem_ins m k v e).1 he with rfl | he
        · show x.1 < k; omega
        · exact h1.1 e he
  · rcases (SMap.mem_ins m k v e).1 he with rfl | he
    · exact hv
    · exact h.2 e he

/-- Every write keeps the canonical form. -/
theorem SMap.wf_set (d : Nat → α) (m : SMap α) (k : Nat) (v : α) (h : SMap.wf d m) : SMap.wf d (SMap.set d m k v) := by
  unfold SMap.set
  split
  · exact SMap.wf_del d m k h
  · exact SMap.wf_ins d _ k v (SMap.wf_del d m k h) (SMap.del_ne m k) ‹_›

/-! ### Memory -/

theorem memByte_setMemByte (s : State) (a a' : Nat) (b : Byte) :
    memByte (setMemByte s a b) a' = if a' = a then b else memByte s a' := SMap.get_set ..

theorem memWf_setMemByte (s : State) (a : Nat) (b : Byte) (h : Memory.wf s.mem) : Memory.wf (setMemByte s a b).mem :=
  SMap.wf_set memDefault s.mem a b h

/-- A byte read after a write of several: the byte written, or what it was. -/
theorem memByte_memWrite (s : State) (a : Nat) (bs : List Byte) (a' : Nat) :
    memByte (memWrite s a bs) a' = if a ≤ a' ∧ a' < a + bs.length then bs.getD (a' - a) 0 else memByte s a' := by
  induction bs generalizing s a with
  | nil => simp [memWrite]
  | cons b bs ih =>
    rw [memWrite, ih, memByte_setMemByte]
    by_cases h : a' = a
    · subst h; simp
    · by_cases h2 : a + 1 ≤ a' ∧ a' < a + 1 + bs.length
      · have : a' - a = (a' - (a + 1)) + 1 := by omega
        have h3 : a ≤ a' ∧ a' < a + (b :: bs).length := by simp; omega
        rw [if_pos h2, if_pos h3, this]; simp
      · have h3 : ¬ (a ≤ a' ∧ a' < a + (b :: bs).length) := by simp; omega
        rw [if_neg h2, if_neg h3, if_neg h]

theorem memWf_memWrite (s : State) (a : Nat) (bs : List Byte) (h : Memory.wf s.mem) : Memory.wf (memWrite s a bs).mem := by
  induction bs generalizing s a with
  | nil => exact h
  | cons b bs ih => exact ih _ _ (memWf_setMemByte s a b h)

/-- Writing memory changes nothing but memory. -/
theorem memWrite_only_mem (s : State) (a : Nat) (bs : List Byte) : memWrite s a bs = { s with mem := (memWrite s a bs).mem } := by
  induction bs generalizing s a with
  | nil => rfl
  | cons b bs ih => rw [memWrite, ih]; rfl

/-! ### Registers -/

theorem rd_wr (s : State) (o o' : Nat) (w : Word) : rd (wr s o w) o' = if o' = o then w else rd s o' := SMap.get_set ..

@[simp] theorem rd_wr_same (s : State) (o : Nat) (w : Word) : rd (wr s o w) o = w := by simp [rd_wr]

theorem rd_wr_ne (s : State) (o o' : Nat) (w : Word) (h : o' ≠ o) : rd (wr s o w) o' = rd s o' := by simp [rd_wr, h]

end Sys2Proof.Machine
end

