-- ==== Sys2Proof/Laws/State.lean ====
section
/-!
SUPPORT. Sys2Proof/Laws/State.lean: for every basic update, each field of State that it leaves as it was, and each reading
that it leaves as it was. All true by rfl.
-/
namespace Sys2Proof.Machine

/-! ### `wr` -/

@[simp] theorem wr_pending (s : State) (o : Nat) (w : Word) : (wr s o w).pending = s.pending := (rfl)
@[simp] theorem wr_refActive (s : State) (o : Nat) (w : Word) : (wr s o w).refActive = s.refActive := (rfl)
@[simp] theorem wr_hiLatch (s : State) (o : Nat) (w : Word) : (wr s o w).hiLatch = s.hiLatch := (rfl)
@[simp] theorem wr_armed (s : State) (o : Nat) (w : Word) : (wr s o w).armed = s.armed := (rfl)
@[simp] theorem wr_tri (s : State) (o : Nat) (w : Word) : (wr s o w).tri = s.tri := (rfl)
@[simp] theorem wr_tbl (s : State) (o : Nat) (w : Word) : (wr s o w).tbl = s.tbl := (rfl)
@[simp] theorem wr_shadow (s : State) (o : Nat) (w : Word) : (wr s o w).shadow = s.shadow := (rfl)
@[simp] theorem wr_pay (s : State) (o : Nat) (w : Word) : (wr s o w).pay = s.pay := (rfl)
@[simp] theorem wr_mem (s : State) (o : Nat) (w : Word) : (wr s o w).mem = s.mem := (rfl)
@[simp] theorem wr_slots (s : State) (o : Nat) (w : Word) : (wr s o w).slots = s.slots := (rfl)
@[simp] theorem wr_smt (s : State) (o : Nat) (w : Word) : (wr s o w).smt = s.smt := (rfl)
@[simp] theorem wr_can (s : State) (o : Nat) (w : Word) : (wr s o w).can = s.can := (rfl)
@[simp] theorem wr_obj (s : State) (o : Nat) (w : Word) : (wr s o w).obj = s.obj := (rfl)
@[simp] theorem wr_tst (s : State) (o : Nat) (w : Word) : (wr s o w).tst = s.tst := (rfl)
@[simp] theorem wr_reqSeq (s : State) (o : Nat) (w : Word) : (wr s o w).reqSeq = s.reqSeq := (rfl)
@[simp] theorem wr_copyNext (s : State) (o : Nat) (w : Word) : (wr s o w).copyNext = s.copyNext := (rfl)
@[simp] theorem wr_copies (s : State) (o : Nat) (w : Word) : (wr s o w).copies = s.copies := (rfl)
@[simp] theorem wr_carriers (s : State) (o : Nat) (w : Word) : (wr s o w).carriers = s.carriers := (rfl)
@[simp] theorem wr_work2 (s : State) (o : Nat) (w : Word) : (wr s o w).work2 = s.work2 := (rfl)
@[simp] theorem wr_comps (s : State) (o : Nat) (w : Word) : (wr s o w).comps = s.comps := (rfl)
@[simp] theorem wr_runs (s : State) (o : Nat) (w : Word) : (wr s o w).runs = s.runs := (rfl)
@[simp] theorem wr_parked (s : State) (o : Nat) (w : Word) : (wr s o w).parked = s.parked := (rfl)
@[simp] theorem wr_desc (s : State) (o : Nat) (w : Word) : (wr s o w).desc = s.desc := (rfl)
@[simp] theorem wr_inForce (s : State) (o : Nat) (w : Word) : (wr s o w).inForce = s.inForce := (rfl)
@[simp] theorem wr_relocs (s : State) (o : Nat) (w : Word) : (wr s o w).relocs = s.relocs := (rfl)
@[simp] theorem wr_motLog (s : State) (o : Nat) (w : Word) : (wr s o w).motLog = s.motLog := (rfl)
@[simp] theorem wr_poolZero (s : State) (o : Nat) (w : Word) : (wr s o w).poolZero = s.poolZero := (rfl)
@[simp] theorem wr_scanHeld (s : State) (o : Nat) (w : Word) : (wr s o w).scanHeld = s.scanHeld := (rfl)
@[simp] theorem wr_serdes (s : State) (o : Nat) (w : Word) : (wr s o w).serdes = s.serdes := (rfl)
@[simp] theorem wr_cache (s : State) (o : Nat) (w : Word) : (wr s o w).cache = s.cache := (rfl)
@[simp] theorem wr_passes (s : State) (o : Nat) (w : Word) : (wr s o w).passes = s.passes := (rfl)
@[simp] theorem wr_sweepPauseAt (s : State) (o : Nat) (w : Word) : (wr s o w).sweepPauseAt = s.sweepPauseAt := (rfl)
@[simp] theorem wr_sweepRunFrom (s : State) (o : Nat) (w : Word) : (wr s o w).sweepRunFrom = s.sweepRunFrom := (rfl)
@[simp] theorem wr_mir (s : State) (o : Nat) (w : Word) : (wr s o w).mir = s.mir := (rfl)
@[simp] theorem wr_time (s : State) (o : Nat) (w : Word) : (wr s o w).time = s.time := (rfl)
@[simp] theorem wr_jnl (s : State) (o : Nat) (w : Word) : (wr s o w).jnl = s.jnl := (rfl)
@[simp] theorem wr_ring (s : State) (o : Nat) (w : Word) : (wr s o w).ring = s.ring := (rfl)
@[simp] theorem wr_mbx (s : State) (o : Nat) (w : Word) : (wr s o w).mbx = s.mbx := (rfl)
@[simp] theorem wr_script (s : State) (o : Nat) (w : Word) : (wr s o w).script = s.script := (rfl)
@[simp] theorem wr_irq (s : State) (o : Nat) (w : Word) : (wr s o w).irq = s.irq := (rfl)
@[simp] theorem wr_sw (s : State) (o : Nat) (w : Word) : (wr s o w).sw = s.sw := (rfl)
@[simp] theorem wr_eth (s : State) (o : Nat) (w : Word) : (wr s o w).eth = s.eth := (rfl)
@[simp] theorem wr_fwd (s : State) (o : Nat) (w : Word) : (wr s o w).fwd = s.fwd := (rfl)
@[simp] theorem wr_sec (s : State) (o : Nat) (w : Word) : (wr s o w).sec = s.sec := (rfl)
@[simp] theorem wr_dev (s : State) (o : Nat) (w : Word) : (wr s o w).dev = s.dev := (rfl)
@[simp] theorem wr_clk (s : State) (o : Nat) (w : Word) : (wr s o w).clk = s.clk := (rfl)
@[simp] theorem wr_boot (s : State) (o : Nat) (w : Word) : (wr s o w).boot = s.boot := (rfl)
@[simp] theorem wr_otp (s : State) (o : Nat) (w : Word) : (wr s o w).otp = s.otp := (rfl)
@[simp] theorem wr_flash (s : State) (o : Nat) (w : Word) : (wr s o w).flash = s.flash := (rfl)
@[simp] theorem wr_upd (s : State) (o : Nat) (w : Word) : (wr s o w).upd = s.upd := (rfl)
@[simp] theorem wr_lan (s : State) (o : Nat) (w : Word) : (wr s o w).lan = s.lan := (rfl)
@[simp] theorem wr_bud (s : State) (o : Nat) (w : Word) : (wr s o w).bud = s.bud := (rfl)
@[simp] theorem wr_pcie (s : State) (o : Nat) (w : Word) : (wr s o w).pcie = s.pcie := (rfl)
@[simp] theorem wr_ticks (s : State) (o : Nat) (w : Word) : (wr s o w).ticks = s.ticks := (rfl)
@[simp] theorem wr_free (s : State) (o : Nat) (w : Word) : (wr s o w).free = s.free := (rfl)
@[simp] theorem wr_house (s : State) (o : Nat) (w : Word) : (wr s o w).house = s.house := (rfl)
@[simp] theorem wr_out (s : State) (o : Nat) (w : Word) : (wr s o w).out = s.out := (rfl)

/-! ### `setMemByte` -/

@[simp] theorem setMemByte_pending (s : State) (a : Nat) (b : Byte) : (setMemByte s a b).pending = s.pending := (rfl)
@[simp] theorem setMemByte_regs (s : State) (a : Nat) (b : Byte) : (setMemByte s a b).regs = s.regs := (rfl)
@[simp] theorem setMemByte_refActive (s : State) (a : Nat) (b : Byte) : (setMemByte s a b).refActive = s.refActive := (rfl)
@[simp] theorem setMemByte_hiLatch (s : State) (a : Nat) (b : Byte) : (setMemByte s a b).hiLatch = s.hiLatch := (rfl)
@[simp] theorem setMemByte_armed (s : State) (a : Nat) (b : Byte) : (setMemByte s a b).armed = s.armed := (rfl)
@[simp] theorem setMemByte_tri (s : State) (a : Nat) (b : Byte) : (setMemByte s a b).tri = s.tri := (rfl)
@[simp] theorem setMemByte_tbl (s : State) (a : Nat) (b : Byte) : (setMemByte s a b).tbl = s.tbl := (rfl)
@[simp] theorem setMemByte_shadow (s : State) (a : Nat) (b : Byte) : (setMemByte s a b).shadow = s.shadow := (rfl)
@[simp] theorem setMemByte_pay (s : State) (a : Nat) (b : Byte) : (setMemByte s a b).pay = s.pay := (rfl)
@[simp] theorem setMemByte_slots (s : State) (a : Nat) (b : Byte) : (setMemByte s a b).slots = s.slots := (rfl)
@[simp] theorem setMemByte_smt (s : State) (a : Nat) (b : Byte) : (setMemByte s a b).smt = s.smt := (rfl)
@[simp] theorem setMemByte_can (s : State) (a : Nat) (b : Byte) : (setMemByte s a b).can = s.can := (rfl)
@[simp] theorem setMemByte_obj (s : State) (a : Nat) (b : Byte) : (setMemByte s a b).obj = s.obj := (rfl)
@[simp] theorem setMemByte_tst (s : State) (a : Nat) (b : Byte) : (setMemByte s a b).tst = s.tst := (rfl)
@[simp] theorem setMemByte_reqSeq (s : State) (a : Nat) (b : Byte) : (setMemByte s a b).reqSeq = s.reqSeq := (rfl)
@[simp] theorem setMemByte_copyNext (s : State) (a : Nat) (b : Byte) : (setMemByte s a b).copyNext = s.copyNext := (rfl)
@[simp] theorem setMemByte_copies (s : State) (a : Nat) (b : Byte) : (setMemByte s a b).copies = s.copies := (rfl)
@[simp] theorem setMemByte_carriers (s : State) (a : Nat) (b : Byte) : (setMemByte s a b).carriers = s.carriers := (rfl)
@[simp] theorem setMemByte_work2 (s : State) (a : Nat) (b : Byte) : (setMemByte s a b).work2 = s.work2 := (rfl)
@[simp] theorem setMemByte_comps (s : State) (a : Nat) (b : Byte) : (setMemByte s a b).comps = s.comps := (rfl)
@[simp] theorem setMemByte_runs (s : State) (a : Nat) (b : Byte) : (setMemByte s a b).runs = s.runs := (rfl)
@[simp] theorem setMemByte_parked (s : State) (a : Nat) (b : Byte) : (setMemByte s a b).parked = s.parked := (rfl)
@[simp] theorem setMemByte_desc (s : State) (a : Nat) (b : Byte) : (setMemByte s a b).desc = s.desc := (rfl)
@[simp] theorem setMemByte_inForce (s : State) (a : Nat) (b : Byte) : (setMemByte s a b).inForce = s.inForce := (rfl)
@[simp] theorem setMemByte_relocs (s : State) (a : Nat) (b : Byte) : (setMemByte s a b).relocs = s.relocs := (rfl)
@[simp] theorem setMemByte_motLog (s : State) (a : Nat) (b : Byte) : (setMemByte s a b).motLog = s.motLog := (rfl)
@[simp] theorem setMemByte_poolZero (s : State) (a : Nat) (b : Byte) : (setMemByte s a b).poolZero = s.poolZero := (rfl)
@[simp] theorem setMemByte_scanHeld (s : State) (a : Nat) (b : Byte) : (setMemByte s a b).scanHeld = s.scanHeld := (rfl)
@[simp] theorem setMemByte_serdes (s : State) (a : Nat) (b : Byte) : (setMemByte s a b).serdes = s.serdes := (rfl)
@[simp] theorem setMemByte_cache (s : State) (a : Nat) (b : Byte) : (setMemByte s a b).cache = s.cache := (rfl)
@[simp] theorem setMemByte_passes (s : State) (a : Nat) (b : Byte) : (setMemByte s a b).passes = s.passes := (rfl)
@[simp] theorem setMemByte_sweepPauseAt (s : State) (a : Nat) (b : Byte) : (setMemByte s a b).sweepPauseAt = s.sweepPauseAt := (rfl)
@[simp] theorem setMemByte_sweepRunFrom (s : State) (a : Nat) (b : Byte) : (setMemByte s a b).sweepRunFrom = s.sweepRunFrom := (rfl)
@[simp] theorem setMemByte_mir (s : State) (a : Nat) (b : Byte) : (setMemByte s a b).mir = s.mir := (rfl)
@[simp] theorem setMemByte_time (s : State) (a : Nat) (b : Byte) : (setMemByte s a b).time = s.time := (rfl)
@[simp] theorem setMemByte_jnl (s : State) (a : Nat) (b : Byte) : (setMemByte s a b).jnl = s.jnl := (rfl)
@[simp] theorem setMemByte_ring (s : State) (a : Nat) (b : Byte) : (setMemByte s a b).ring = s.ring := (rfl)
@[simp] theorem setMemByte_mbx (s : State) (a : Nat) (b : Byte) : (setMemByte s a b).mbx = s.mbx := (rfl)
@[simp] theorem setMemByte_script (s : State) (a : Nat) (b : Byte) : (setMemByte s a b).script = s.script := (rfl)
@[simp] theorem setMemByte_irq (s : State) (a : Nat) (b : Byte) : (setMemByte s a b).irq = s.irq := (rfl)
@[simp] theorem setMemByte_sw (s : State) (a : Nat) (b : Byte) : (setMemByte s a b).sw = s.sw := (rfl)
@[simp] theorem setMemByte_eth (s : State) (a : Nat) (b : Byte) : (setMemByte s a b).eth = s.eth := (rfl)
@[simp] theorem setMemByte_fwd (s : State) (a : Nat) (b : Byte) : (setMemByte s a b).fwd = s.fwd := (rfl)
@[simp] theorem setMemByte_sec (s : State) (a : Nat) (b : Byte) : (setMemByte s a b).sec = s.sec := (rfl)
@[simp] theorem setMemByte_dev (s : State) (a : Nat) (b : Byte) : (setMemByte s a b).dev = s.dev := (rfl)
@[simp] theorem setMemByte_clk (s : State) (a : Nat) (b : Byte) : (setMemByte s a b).clk = s.clk := (rfl)
@[simp] theorem setMemByte_boot (s : State) (a : Nat) (b : Byte) : (setMemByte s a b).boot = s.boot := (rfl)
@[simp] theorem setMemByte_otp (s : State) (a : Nat) (b : Byte) : (setMemByte s a b).otp = s.otp := (rfl)
@[simp] theorem setMemByte_flash (s : State) (a : Nat) (b : Byte) : (setMemByte s a b).flash = s.flash := (rfl)
@[simp] theorem setMemByte_upd (s : State) (a : Nat) (b : Byte) : (setMemByte s a b).upd = s.upd := (rfl)
@[simp] theorem setMemByte_lan (s : State) (a : Nat) (b : Byte) : (setMemByte s a b).lan = s.lan := (rfl)
@[simp] theorem setMemByte_bud (s : State) (a : Nat) (b : Byte) : (setMemByte s a b).bud = s.bud := (rfl)
@[simp] theorem setMemByte_pcie (s : State) (a : Nat) (b : Byte) : (setMemByte s a b).pcie = s.pcie := (rfl)
@[simp] theorem setMemByte_ticks (s : State) (a : Nat) (b : Byte) : (setMemByte s a b).ticks = s.ticks := (rfl)
@[simp] theorem setMemByte_free (s : State) (a : Nat) (b : Byte) : (setMemByte s a b).free = s.free := (rfl)
@[simp] theorem setMemByte_house (s : State) (a : Nat) (b : Byte) : (setMemByte s a b).house = s.house := (rfl)
@[simp] theorem setMemByte_out (s : State) (a : Nat) (b : Byte) : (setMemByte s a b).out = s.out := (rfl)

/-! ### `setChan` -/

@[simp] theorem setChan_pending (s : State) (n : Nat) (x : CanRt) : (setChan s n x).pending = s.pending := (rfl)
@[simp] theorem setChan_regs (s : State) (n : Nat) (x : CanRt) : (setChan s n x).regs = s.regs := (rfl)
@[simp] theorem setChan_refActive (s : State) (n : Nat) (x : CanRt) : (setChan s n x).refActive = s.refActive := (rfl)
@[simp] theorem setChan_hiLatch (s : State) (n : Nat) (x : CanRt) : (setChan s n x).hiLatch = s.hiLatch := (rfl)
@[simp] theorem setChan_armed (s : State) (n : Nat) (x : CanRt) : (setChan s n x).armed = s.armed := (rfl)
@[simp] theorem setChan_tri (s : State) (n : Nat) (x : CanRt) : (setChan s n x).tri = s.tri := (rfl)
@[simp] theorem setChan_tbl (s : State) (n : Nat) (x : CanRt) : (setChan s n x).tbl = s.tbl := (rfl)
@[simp] theorem setChan_shadow (s : State) (n : Nat) (x : CanRt) : (setChan s n x).shadow = s.shadow := (rfl)
@[simp] theorem setChan_pay (s : State) (n : Nat) (x : CanRt) : (setChan s n x).pay = s.pay := (rfl)
@[simp] theorem setChan_mem (s : State) (n : Nat) (x : CanRt) : (setChan s n x).mem = s.mem := (rfl)
@[simp] theorem setChan_slots (s : State) (n : Nat) (x : CanRt) : (setChan s n x).slots = s.slots := (rfl)
@[simp] theorem setChan_smt (s : State) (n : Nat) (x : CanRt) : (setChan s n x).smt = s.smt := (rfl)
@[simp] theorem setChan_obj (s : State) (n : Nat) (x : CanRt) : (setChan s n x).obj = s.obj := (rfl)
@[simp] theorem setChan_tst (s : State) (n : Nat) (x : CanRt) : (setChan s n x).tst = s.tst := (rfl)
@[simp] theorem setChan_reqSeq (s : State) (n : Nat) (x : CanRt) : (setChan s n x).reqSeq = s.reqSeq := (rfl)
@[simp] theorem setChan_copyNext (s : State) (n : Nat) (x : CanRt) : (setChan s n x).copyNext = s.copyNext := (rfl)
@[simp] theorem setChan_copies (s : State) (n : Nat) (x : CanRt) : (setChan s n x).copies = s.copies := (rfl)
@[simp] theorem setChan_carriers (s : State) (n : Nat) (x : CanRt) : (setChan s n x).carriers = s.carriers := (rfl)
@[simp] theorem setChan_work2 (s : State) (n : Nat) (x : CanRt) : (setChan s n x).work2 = s.work2 := (rfl)
@[simp] theorem setChan_comps (s : State) (n : Nat) (x : CanRt) : (setChan s n x).comps = s.comps := (rfl)
@[simp] theorem setChan_runs (s : State) (n : Nat) (x : CanRt) : (setChan s n x).runs = s.runs := (rfl)
@[simp] theorem setChan_parked (s : State) (n : Nat) (x : CanRt) : (setChan s n x).parked = s.parked := (rfl)
@[simp] theorem setChan_desc (s : State) (n : Nat) (x : CanRt) : (setChan s n x).desc = s.desc := (rfl)
@[simp] theorem setChan_inForce (s : State) (n : Nat) (x : CanRt) : (setChan s n x).inForce = s.inForce := (rfl)
@[simp] theorem setChan_relocs (s : State) (n : Nat) (x : CanRt) : (setChan s n x).relocs = s.relocs := (rfl)
@[simp] theorem setChan_motLog (s : State) (n : Nat) (x : CanRt) : (setChan s n x).motLog = s.motLog := (rfl)
@[simp] theorem setChan_poolZero (s : State) (n : Nat) (x : CanRt) : (setChan s n x).poolZero = s.poolZero := (rfl)
@[simp] theorem setChan_scanHeld (s : State) (n : Nat) (x : CanRt) : (setChan s n x).scanHeld = s.scanHeld := (rfl)
@[simp] theorem setChan_serdes (s : State) (n : Nat) (x : CanRt) : (setChan s n x).serdes = s.serdes := (rfl)
@[simp] theorem setChan_cache (s : State) (n : Nat) (x : CanRt) : (setChan s n x).cache = s.cache := (rfl)
@[simp] theorem setChan_passes (s : State) (n : Nat) (x : CanRt) : (setChan s n x).passes = s.passes := (rfl)
@[simp] theorem setChan_sweepPauseAt (s : State) (n : Nat) (x : CanRt) : (setChan s n x).sweepPauseAt = s.sweepPauseAt := (rfl)
@[simp] theorem setChan_sweepRunFrom (s : State) (n : Nat) (x : CanRt) : (setChan s n x).sweepRunFrom = s.sweepRunFrom := (rfl)
@[simp] theorem setChan_mir (s : State) (n : Nat) (x : CanRt) : (setChan s n x).mir = s.mir := (rfl)
@[simp] theorem setChan_time (s : State) (n : Nat) (x : CanRt) : (setChan s n x).time = s.time := (rfl)
@[simp] theorem setChan_jnl (s : State) (n : Nat) (x : CanRt) : (setChan s n x).jnl = s.jnl := (rfl)
@[simp] theorem setChan_ring (s : State) (n : Nat) (x : CanRt) : (setChan s n x).ring = s.ring := (rfl)
@[simp] theorem setChan_mbx (s : State) (n : Nat) (x : CanRt) : (setChan s n x).mbx = s.mbx := (rfl)
@[simp] theorem setChan_script (s : State) (n : Nat) (x : CanRt) : (setChan s n x).script = s.script := (rfl)
@[simp] theorem setChan_irq (s : State) (n : Nat) (x : CanRt) : (setChan s n x).irq = s.irq := (rfl)
@[simp] theorem setChan_sw (s : State) (n : Nat) (x : CanRt) : (setChan s n x).sw = s.sw := (rfl)
@[simp] theorem setChan_eth (s : State) (n : Nat) (x : CanRt) : (setChan s n x).eth = s.eth := (rfl)
@[simp] theorem setChan_fwd (s : State) (n : Nat) (x : CanRt) : (setChan s n x).fwd = s.fwd := (rfl)
@[simp] theorem setChan_sec (s : State) (n : Nat) (x : CanRt) : (setChan s n x).sec = s.sec := (rfl)
@[simp] theorem setChan_dev (s : State) (n : Nat) (x : CanRt) : (setChan s n x).dev = s.dev := (rfl)
@[simp] theorem setChan_clk (s : State) (n : Nat) (x : CanRt) : (setChan s n x).clk = s.clk := (rfl)
@[simp] theorem setChan_boot (s : State) (n : Nat) (x : CanRt) : (setChan s n x).boot = s.boot := (rfl)
@[simp] theorem setChan_otp (s : State) (n : Nat) (x : CanRt) : (setChan s n x).otp = s.otp := (rfl)
@[simp] theorem setChan_flash (s : State) (n : Nat) (x : CanRt) : (setChan s n x).flash = s.flash := (rfl)
@[simp] theorem setChan_upd (s : State) (n : Nat) (x : CanRt) : (setChan s n x).upd = s.upd := (rfl)
@[simp] theorem setChan_lan (s : State) (n : Nat) (x : CanRt) : (setChan s n x).lan = s.lan := (rfl)
@[simp] theorem setChan_bud (s : State) (n : Nat) (x : CanRt) : (setChan s n x).bud = s.bud := (rfl)
@[simp] theorem setChan_pcie (s : State) (n : Nat) (x : CanRt) : (setChan s n x).pcie = s.pcie := (rfl)
@[simp] theorem setChan_ticks (s : State) (n : Nat) (x : CanRt) : (setChan s n x).ticks = s.ticks := (rfl)
@[simp] theorem setChan_free (s : State) (n : Nat) (x : CanRt) : (setChan s n x).free = s.free := (rfl)
@[simp] theorem setChan_house (s : State) (n : Nat) (x : CanRt) : (setChan s n x).house = s.house := (rfl)
@[simp] theorem setChan_out (s : State) (n : Nat) (x : CanRt) : (setChan s n x).out = s.out := (rfl)

/-! ### `setObj` -/

@[simp] theorem setObj_pending (s : State) (n : Nat) (x : ObjRt) : (setObj s n x).pending = s.pending := (rfl)
@[simp] theorem setObj_regs (s : State) (n : Nat) (x : ObjRt) : (setObj s n x).regs = s.regs := (rfl)
@[simp] theorem setObj_refActive (s : State) (n : Nat) (x : ObjRt) : (setObj s n x).refActive = s.refActive := (rfl)
@[simp] theorem setObj_hiLatch (s : State) (n : Nat) (x : ObjRt) : (setObj s n x).hiLatch = s.hiLatch := (rfl)
@[simp] theorem setObj_armed (s : State) (n : Nat) (x : ObjRt) : (setObj s n x).armed = s.armed := (rfl)
@[simp] theorem setObj_tri (s : State) (n : Nat) (x : ObjRt) : (setObj s n x).tri = s.tri := (rfl)
@[simp] theorem setObj_tbl (s : State) (n : Nat) (x : ObjRt) : (setObj s n x).tbl = s.tbl := (rfl)
@[simp] theorem setObj_shadow (s : State) (n : Nat) (x : ObjRt) : (setObj s n x).shadow = s.shadow := (rfl)
@[simp] theorem setObj_pay (s : State) (n : Nat) (x : ObjRt) : (setObj s n x).pay = s.pay := (rfl)
@[simp] theorem setObj_mem (s : State) (n : Nat) (x : ObjRt) : (setObj s n x).mem = s.mem := (rfl)
@[simp] theorem setObj_slots (s : State) (n : Nat) (x : ObjRt) : (setObj s n x).slots = s.slots := (rfl)
@[simp] theorem setObj_smt (s : State) (n : Nat) (x : ObjRt) : (setObj s n x).smt = s.smt := (rfl)
@[simp] theorem setObj_can (s : State) (n : Nat) (x : ObjRt) : (setObj s n x).can = s.can := (rfl)
@[simp] theorem setObj_tst (s : State) (n : Nat) (x : ObjRt) : (setObj s n x).tst = s.tst := (rfl)
@[simp] theorem setObj_reqSeq (s : State) (n : Nat) (x : ObjRt) : (setObj s n x).reqSeq = s.reqSeq := (rfl)
@[simp] theorem setObj_copyNext (s : State) (n : Nat) (x : ObjRt) : (setObj s n x).copyNext = s.copyNext := (rfl)
@[simp] theorem setObj_copies (s : State) (n : Nat) (x : ObjRt) : (setObj s n x).copies = s.copies := (rfl)
@[simp] theorem setObj_carriers (s : State) (n : Nat) (x : ObjRt) : (setObj s n x).carriers = s.carriers := (rfl)
@[simp] theorem setObj_work2 (s : State) (n : Nat) (x : ObjRt) : (setObj s n x).work2 = s.work2 := (rfl)
@[simp] theorem setObj_comps (s : State) (n : Nat) (x : ObjRt) : (setObj s n x).comps = s.comps := (rfl)
@[simp] theorem setObj_runs (s : State) (n : Nat) (x : ObjRt) : (setObj s n x).runs = s.runs := (rfl)
@[simp] theorem setObj_parked (s : State) (n : Nat) (x : ObjRt) : (setObj s n x).parked = s.parked := (rfl)
@[simp] theorem setObj_desc (s : State) (n : Nat) (x : ObjRt) : (setObj s n x).desc = s.desc := (rfl)
@[simp] theorem setObj_inForce (s : State) (n : Nat) (x : ObjRt) : (setObj s n x).inForce = s.inForce := (rfl)
@[simp] theorem setObj_relocs (s : State) (n : Nat) (x : ObjRt) : (setObj s n x).relocs = s.relocs := (rfl)
@[simp] theorem setObj_motLog (s : State) (n : Nat) (x : ObjRt) : (setObj s n x).motLog = s.motLog := (rfl)
@[simp] theorem setObj_poolZero (s : State) (n : Nat) (x : ObjRt) : (setObj s n x).poolZero = s.poolZero := (rfl)
@[simp] theorem setObj_scanHeld (s : State) (n : Nat) (x : ObjRt) : (setObj s n x).scanHeld = s.scanHeld := (rfl)
@[simp] theorem setObj_serdes (s : State) (n : Nat) (x : ObjRt) : (setObj s n x).serdes = s.serdes := (rfl)
@[simp] theorem setObj_cache (s : State) (n : Nat) (x : ObjRt) : (setObj s n x).cache = s.cache := (rfl)
@[simp] theorem setObj_passes (s : State) (n : Nat) (x : ObjRt) : (setObj s n x).passes = s.passes := (rfl)
@[simp] theorem setObj_sweepPauseAt (s : State) (n : Nat) (x : ObjRt) : (setObj s n x).sweepPauseAt = s.sweepPauseAt := (rfl)
@[simp] theorem setObj_sweepRunFrom (s : State) (n : Nat) (x : ObjRt) : (setObj s n x).sweepRunFrom = s.sweepRunFrom := (rfl)
@[simp] theorem setObj_mir (s : State) (n : Nat) (x : ObjRt) : (setObj s n x).mir = s.mir := (rfl)
@[simp] theorem setObj_time (s : State) (n : Nat) (x : ObjRt) : (setObj s n x).time = s.time := (rfl)
@[simp] theorem setObj_jnl (s : State) (n : Nat) (x : ObjRt) : (setObj s n x).jnl = s.jnl := (rfl)
@[simp] theorem setObj_ring (s : State) (n : Nat) (x : ObjRt) : (setObj s n x).ring = s.ring := (rfl)
@[simp] theorem setObj_mbx (s : State) (n : Nat) (x : ObjRt) : (setObj s n x).mbx = s.mbx := (rfl)
@[simp] theorem setObj_script (s : State) (n : Nat) (x : ObjRt) : (setObj s n x).script = s.script := (rfl)
@[simp] theorem setObj_irq (s : State) (n : Nat) (x : ObjRt) : (setObj s n x).irq = s.irq := (rfl)
@[simp] theorem setObj_sw (s : State) (n : Nat) (x : ObjRt) : (setObj s n x).sw = s.sw := (rfl)
@[simp] theorem setObj_eth (s : State) (n : Nat) (x : ObjRt) : (setObj s n x).eth = s.eth := (rfl)
@[simp] theorem setObj_fwd (s : State) (n : Nat) (x : ObjRt) : (setObj s n x).fwd = s.fwd := (rfl)
@[simp] theorem setObj_sec (s : State) (n : Nat) (x : ObjRt) : (setObj s n x).sec = s.sec := (rfl)
@[simp] theorem setObj_dev (s : State) (n : Nat) (x : ObjRt) : (setObj s n x).dev = s.dev := (rfl)
@[simp] theorem setObj_clk (s : State) (n : Nat) (x : ObjRt) : (setObj s n x).clk = s.clk := (rfl)
@[simp] theorem setObj_boot (s : State) (n : Nat) (x : ObjRt) : (setObj s n x).boot = s.boot := (rfl)
@[simp] theorem setObj_otp (s : State) (n : Nat) (x : ObjRt) : (setObj s n x).otp = s.otp := (rfl)
@[simp] theorem setObj_flash (s : State) (n : Nat) (x : ObjRt) : (setObj s n x).flash = s.flash := (rfl)
@[simp] theorem setObj_upd (s : State) (n : Nat) (x : ObjRt) : (setObj s n x).upd = s.upd := (rfl)
@[simp] theorem setObj_lan (s : State) (n : Nat) (x : ObjRt) : (setObj s n x).lan = s.lan := (rfl)
@[simp] theorem setObj_bud (s : State) (n : Nat) (x : ObjRt) : (setObj s n x).bud = s.bud := (rfl)
@[simp] theorem setObj_pcie (s : State) (n : Nat) (x : ObjRt) : (setObj s n x).pcie = s.pcie := (rfl)
@[simp] theorem setObj_ticks (s : State) (n : Nat) (x : ObjRt) : (setObj s n x).ticks = s.ticks := (rfl)
@[simp] theorem setObj_free (s : State) (n : Nat) (x : ObjRt) : (setObj s n x).free = s.free := (rfl)
@[simp] theorem setObj_house (s : State) (n : Nat) (x : ObjRt) : (setObj s n x).house = s.house := (rfl)
@[simp] theorem setObj_out (s : State) (n : Nat) (x : ObjRt) : (setObj s n x).out = s.out := (rfl)

/-! ### `setPort` -/

@[simp] theorem setPort_pending (s : State) (n : Nat) (x : EthRt) : (setPort s n x).pending = s.pending := (rfl)
@[simp] theorem setPort_regs (s : State) (n : Nat) (x : EthRt) : (setPort s n x).regs = s.regs := (rfl)
@[simp] theorem setPort_refActive (s : State) (n : Nat) (x : EthRt) : (setPort s n x).refActive = s.refActive := (rfl)
@[simp] theorem setPort_hiLatch (s : State) (n : Nat) (x : EthRt) : (setPort s n x).hiLatch = s.hiLatch := (rfl)
@[simp] theorem setPort_armed (s : State) (n : Nat) (x : EthRt) : (setPort s n x).armed = s.armed := (rfl)
@[simp] theorem setPort_tri (s : State) (n : Nat) (x : EthRt) : (setPort s n x).tri = s.tri := (rfl)
@[simp] theorem setPort_tbl (s : State) (n : Nat) (x : EthRt) : (setPort s n x).tbl = s.tbl := (rfl)
@[simp] theorem setPort_shadow (s : State) (n : Nat) (x : EthRt) : (setPort s n x).shadow = s.shadow := (rfl)
@[simp] theorem setPort_pay (s : State) (n : Nat) (x : EthRt) : (setPort s n x).pay = s.pay := (rfl)
@[simp] theorem setPort_mem (s : State) (n : Nat) (x : EthRt) : (setPort s n x).mem = s.mem := (rfl)
@[simp] theorem setPort_slots (s : State) (n : Nat) (x : EthRt) : (setPort s n x).slots = s.slots := (rfl)
@[simp] theorem setPort_smt (s : State) (n : Nat) (x : EthRt) : (setPort s n x).smt = s.smt := (rfl)
@[simp] theorem setPort_can (s : State) (n : Nat) (x : EthRt) : (setPort s n x).can = s.can := (rfl)
@[simp] theorem setPort_obj (s : State) (n : Nat) (x : EthRt) : (setPort s n x).obj = s.obj := (rfl)
@[simp] theorem setPort_tst (s : State) (n : Nat) (x : EthRt) : (setPort s n x).tst = s.tst := (rfl)
@[simp] theorem setPort_reqSeq (s : State) (n : Nat) (x : EthRt) : (setPort s n x).reqSeq = s.reqSeq := (rfl)
@[simp] theorem setPort_copyNext (s : State) (n : Nat) (x : EthRt) : (setPort s n x).copyNext = s.copyNext := (rfl)
@[simp] theorem setPort_copies (s : State) (n : Nat) (x : EthRt) : (setPort s n x).copies = s.copies := (rfl)
@[simp] theorem setPort_carriers (s : State) (n : Nat) (x : EthRt) : (setPort s n x).carriers = s.carriers := (rfl)
@[simp] theorem setPort_work2 (s : State) (n : Nat) (x : EthRt) : (setPort s n x).work2 = s.work2 := (rfl)
@[simp] theorem setPort_comps (s : State) (n : Nat) (x : EthRt) : (setPort s n x).comps = s.comps := (rfl)
@[simp] theorem setPort_runs (s : State) (n : Nat) (x : EthRt) : (setPort s n x).runs = s.runs := (rfl)
@[simp] theorem setPort_parked (s : State) (n : Nat) (x : EthRt) : (setPort s n x).parked = s.parked := (rfl)
@[simp] theorem setPort_desc (s : State) (n : Nat) (x : EthRt) : (setPort s n x).desc = s.desc := (rfl)
@[simp] theorem setPort_inForce (s : State) (n : Nat) (x : EthRt) : (setPort s n x).inForce = s.inForce := (rfl)
@[simp] theorem setPort_relocs (s : State) (n : Nat) (x : EthRt) : (setPort s n x).relocs = s.relocs := (rfl)
@[simp] theorem setPort_motLog (s : State) (n : Nat) (x : EthRt) : (setPort s n x).motLog = s.motLog := (rfl)
@[simp] theorem setPort_poolZero (s : State) (n : Nat) (x : EthRt) : (setPort s n x).poolZero = s.poolZero := (rfl)
@[simp] theorem setPort_scanHeld (s : State) (n : Nat) (x : EthRt) : (setPort s n x).scanHeld = s.scanHeld := (rfl)
@[simp] theorem setPort_serdes (s : State) (n : Nat) (x : EthRt) : (setPort s n x).serdes = s.serdes := (rfl)
@[simp] theorem setPort_cache (s : State) (n : Nat) (x : EthRt) : (setPort s n x).cache = s.cache := (rfl)
@[simp] theorem setPort_passes (s : State) (n : Nat) (x : EthRt) : (setPort s n x).passes = s.passes := (rfl)
@[simp] theorem setPort_sweepPauseAt (s : State) (n : Nat) (x : EthRt) : (setPort s n x).sweepPauseAt = s.sweepPauseAt := (rfl)
@[simp] theorem setPort_sweepRunFrom (s : State) (n : Nat) (x : EthRt) : (setPort s n x).sweepRunFrom = s.sweepRunFrom := (rfl)
@[simp] theorem setPort_mir (s : State) (n : Nat) (x : EthRt) : (setPort s n x).mir = s.mir := (rfl)
@[simp] theorem setPort_time (s : State) (n : Nat) (x : EthRt) : (setPort s n x).time = s.time := (rfl)
@[simp] theorem setPort_jnl (s : State) (n : Nat) (x : EthRt) : (setPort s n x).jnl = s.jnl := (rfl)
@[simp] theorem setPort_ring (s : State) (n : Nat) (x : EthRt) : (setPort s n x).ring = s.ring := (rfl)
@[simp] theorem setPort_mbx (s : State) (n : Nat) (x : EthRt) : (setPort s n x).mbx = s.mbx := (rfl)
@[simp] theorem setPort_script (s : State) (n : Nat) (x : EthRt) : (setPort s n x).script = s.script := (rfl)
@[simp] theorem setPort_irq (s : State) (n : Nat) (x : EthRt) : (setPort s n x).irq = s.irq := (rfl)
@[simp] theorem setPort_sw (s : State) (n : Nat) (x : EthRt) : (setPort s n x).sw = s.sw := (rfl)
@[simp] theorem setPort_fwd (s : State) (n : Nat) (x : EthRt) : (setPort s n x).fwd = s.fwd := (rfl)
@[simp] theorem setPort_sec (s : State) (n : Nat) (x : EthRt) : (setPort s n x).sec = s.sec := (rfl)
@[simp] theorem setPort_dev (s : State) (n : Nat) (x : EthRt) : (setPort s n x).dev = s.dev := (rfl)
@[simp] theorem setPort_clk (s : State) (n : Nat) (x : EthRt) : (setPort s n x).clk = s.clk := (rfl)
@[simp] theorem setPort_boot (s : State) (n : Nat) (x : EthRt) : (setPort s n x).boot = s.boot := (rfl)
@[simp] theorem setPort_otp (s : State) (n : Nat) (x : EthRt) : (setPort s n x).otp = s.otp := (rfl)
@[simp] theorem setPort_flash (s : State) (n : Nat) (x : EthRt) : (setPort s n x).flash = s.flash := (rfl)
@[simp] theorem setPort_upd (s : State) (n : Nat) (x : EthRt) : (setPort s n x).upd = s.upd := (rfl)
@[simp] theorem setPort_lan (s : State) (n : Nat) (x : EthRt) : (setPort s n x).lan = s.lan := (rfl)
@[simp] theorem setPort_bud (s : State) (n : Nat) (x : EthRt) : (setPort s n x).bud = s.bud := (rfl)
@[simp] theorem setPort_pcie (s : State) (n : Nat) (x : EthRt) : (setPort s n x).pcie = s.pcie := (rfl)
@[simp] theorem setPort_ticks (s : State) (n : Nat) (x : EthRt) : (setPort s n x).ticks = s.ticks := (rfl)
@[simp] theorem setPort_free (s : State) (n : Nat) (x : EthRt) : (setPort s n x).free = s.free := (rfl)
@[simp] theorem setPort_house (s : State) (n : Nat) (x : EthRt) : (setPort s n x).house = s.house := (rfl)
@[simp] theorem setPort_out (s : State) (n : Nat) (x : EthRt) : (setPort s n x).out = s.out := (rfl)

/-! ### `setJnl` -/

@[simp] theorem setJnl_pending (s : State) (n : Nat) (x : Jnl) : (setJnl s n x).pending = s.pending := (rfl)
@[simp] theorem setJnl_regs (s : State) (n : Nat) (x : Jnl) : (setJnl s n x).regs = s.regs := (rfl)
@[simp] theorem setJnl_refActive (s : State) (n : Nat) (x : Jnl) : (setJnl s n x).refActive = s.refActive := (rfl)
@[simp] theorem setJnl_hiLatch (s : State) (n : Nat) (x : Jnl) : (setJnl s n x).hiLatch = s.hiLatch := (rfl)
@[simp] theorem setJnl_armed (s : State) (n : Nat) (x : Jnl) : (setJnl s n x).armed = s.armed := (rfl)
@[simp] theorem setJnl_tri (s : State) (n : Nat) (x : Jnl) : (setJnl s n x).tri = s.tri := (rfl)
@[simp] theorem setJnl_tbl (s : State) (n : Nat) (x : Jnl) : (setJnl s n x).tbl = s.tbl := (rfl)
@[simp] theorem setJnl_shadow (s : State) (n : Nat) (x : Jnl) : (setJnl s n x).shadow = s.shadow := (rfl)
@[simp] theorem setJnl_pay (s : State) (n : Nat) (x : Jnl) : (setJnl s n x).pay = s.pay := (rfl)
@[simp] theorem setJnl_mem (s : State) (n : Nat) (x : Jnl) : (setJnl s n x).mem = s.mem := (rfl)
@[simp] theorem setJnl_slots (s : State) (n : Nat) (x : Jnl) : (setJnl s n x).slots = s.slots := (rfl)
@[simp] theorem setJnl_smt (s : State) (n : Nat) (x : Jnl) : (setJnl s n x).smt = s.smt := (rfl)
@[simp] theorem setJnl_can (s : State) (n : Nat) (x : Jnl) : (setJnl s n x).can = s.can := (rfl)
@[simp] theorem setJnl_obj (s : State) (n : Nat) (x : Jnl) : (setJnl s n x).obj = s.obj := (rfl)
@[simp] theorem setJnl_tst (s : State) (n : Nat) (x : Jnl) : (setJnl s n x).tst = s.tst := (rfl)
@[simp] theorem setJnl_reqSeq (s : State) (n : Nat) (x : Jnl) : (setJnl s n x).reqSeq = s.reqSeq := (rfl)
@[simp] theorem setJnl_copyNext (s : State) (n : Nat) (x : Jnl) : (setJnl s n x).copyNext = s.copyNext := (rfl)
@[simp] theorem setJnl_copies (s : State) (n : Nat) (x : Jnl) : (setJnl s n x).copies = s.copies := (rfl)
@[simp] theorem setJnl_carriers (s : State) (n : Nat) (x : Jnl) : (setJnl s n x).carriers = s.carriers := (rfl)
@[simp] theorem setJnl_work2 (s : State) (n : Nat) (x : Jnl) : (setJnl s n x).work2 = s.work2 := (rfl)
@[simp] theorem setJnl_comps (s : State) (n : Nat) (x : Jnl) : (setJnl s n x).comps = s.comps := (rfl)
@[simp] theorem setJnl_runs (s : State) (n : Nat) (x : Jnl) : (setJnl s n x).runs = s.runs := (rfl)
@[simp] theorem setJnl_parked (s : State) (n : Nat) (x : Jnl) : (setJnl s n x).parked = s.parked := (rfl)
@[simp] theorem setJnl_desc (s : State) (n : Nat) (x : Jnl) : (setJnl s n x).desc = s.desc := (rfl)
@[simp] theorem setJnl_inForce (s : State) (n : Nat) (x : Jnl) : (setJnl s n x).inForce = s.inForce := (rfl)
@[simp] theorem setJnl_relocs (s : State) (n : Nat) (x : Jnl) : (setJnl s n x).relocs = s.relocs := (rfl)
@[simp] theorem setJnl_motLog (s : State) (n : Nat) (x : Jnl) : (setJnl s n x).motLog = s.motLog := (rfl)
@[simp] theorem setJnl_poolZero (s : State) (n : Nat) (x : Jnl) : (setJnl s n x).poolZero = s.poolZero := (rfl)
@[simp] theorem setJnl_scanHeld (s : State) (n : Nat) (x : Jnl) : (setJnl s n x).scanHeld = s.scanHeld := (rfl)
@[simp] theorem setJnl_serdes (s : State) (n : Nat) (x : Jnl) : (setJnl s n x).serdes = s.serdes := (rfl)
@[simp] theorem setJnl_cache (s : State) (n : Nat) (x : Jnl) : (setJnl s n x).cache = s.cache := (rfl)
@[simp] theorem setJnl_passes (s : State) (n : Nat) (x : Jnl) : (setJnl s n x).passes = s.passes := (rfl)
@[simp] theorem setJnl_sweepPauseAt (s : State) (n : Nat) (x : Jnl) : (setJnl s n x).sweepPauseAt = s.sweepPauseAt := (rfl)
@[simp] theorem setJnl_sweepRunFrom (s : State) (n : Nat) (x : Jnl) : (setJnl s n x).sweepRunFrom = s.sweepRunFrom := (rfl)
@[simp] theorem setJnl_mir (s : State) (n : Nat) (x : Jnl) : (setJnl s n x).mir = s.mir := (rfl)
@[simp] theorem setJnl_time (s : State) (n : Nat) (x : Jnl) : (setJnl s n x).time = s.time := (rfl)
@[simp] theorem setJnl_ring (s : State) (n : Nat) (x : Jnl) : (setJnl s n x).ring = s.ring := (rfl)
@[simp] theorem setJnl_mbx (s : State) (n : Nat) (x : Jnl) : (setJnl s n x).mbx = s.mbx := (rfl)
@[simp] theorem setJnl_script (s : State) (n : Nat) (x : Jnl) : (setJnl s n x).script = s.script := (rfl)
@[simp] theorem setJnl_irq (s : State) (n : Nat) (x : Jnl) : (setJnl s n x).irq = s.irq := (rfl)
@[simp] theorem setJnl_sw (s : State) (n : Nat) (x : Jnl) : (setJnl s n x).sw = s.sw := (rfl)
@[simp] theorem setJnl_eth (s : State) (n : Nat) (x : Jnl) : (setJnl s n x).eth = s.eth := (rfl)
@[simp] theorem setJnl_fwd (s : State) (n : Nat) (x : Jnl) : (setJnl s n x).fwd = s.fwd := (rfl)
@[simp] theorem setJnl_sec (s : State) (n : Nat) (x : Jnl) : (setJnl s n x).sec = s.sec := (rfl)
@[simp] theorem setJnl_dev (s : State) (n : Nat) (x : Jnl) : (setJnl s n x).dev = s.dev := (rfl)
@[simp] theorem setJnl_clk (s : State) (n : Nat) (x : Jnl) : (setJnl s n x).clk = s.clk := (rfl)
@[simp] theorem setJnl_boot (s : State) (n : Nat) (x : Jnl) : (setJnl s n x).boot = s.boot := (rfl)
@[simp] theorem setJnl_otp (s : State) (n : Nat) (x : Jnl) : (setJnl s n x).otp = s.otp := (rfl)
@[simp] theorem setJnl_flash (s : State) (n : Nat) (x : Jnl) : (setJnl s n x).flash = s.flash := (rfl)
@[simp] theorem setJnl_upd (s : State) (n : Nat) (x : Jnl) : (setJnl s n x).upd = s.upd := (rfl)
@[simp] theorem setJnl_lan (s : State) (n : Nat) (x : Jnl) : (setJnl s n x).lan = s.lan := (rfl)
@[simp] theorem setJnl_bud (s : State) (n : Nat) (x : Jnl) : (setJnl s n x).bud = s.bud := (rfl)
@[simp] theorem setJnl_pcie (s : State) (n : Nat) (x : Jnl) : (setJnl s n x).pcie = s.pcie := (rfl)
@[simp] theorem setJnl_ticks (s : State) (n : Nat) (x : Jnl) : (setJnl s n x).ticks = s.ticks := (rfl)
@[simp] theorem setJnl_free (s : State) (n : Nat) (x : Jnl) : (setJnl s n x).free = s.free := (rfl)
@[simp] theorem setJnl_house (s : State) (n : Nat) (x : Jnl) : (setJnl s n x).house = s.house := (rfl)
@[simp] theorem setJnl_out (s : State) (n : Nat) (x : Jnl) : (setJnl s n x).out = s.out := (rfl)

/-! ### `setRing` -/

@[simp] theorem setRing_pending (s : State) (n : Nat) (x : Ring) : (setRing s n x).pending = s.pending := (rfl)
@[simp] theorem setRing_regs (s : State) (n : Nat) (x : Ring) : (setRing s n x).regs = s.regs := (rfl)
@[simp] theorem setRing_refActive (s : State) (n : Nat) (x : Ring) : (setRing s n x).refActive = s.refActive := (rfl)
@[simp] theorem setRing_hiLatch (s : State) (n : Nat) (x : Ring) : (setRing s n x).hiLatch = s.hiLatch := (rfl)
@[simp] theorem setRing_armed (s : State) (n : Nat) (x : Ring) : (setRing s n x).armed = s.armed := (rfl)
@[simp] theorem setRing_tri (s : State) (n : Nat) (x : Ring) : (setRing s n x).tri = s.tri := (rfl)
@[simp] theorem setRing_tbl (s : State) (n : Nat) (x : Ring) : (setRing s n x).tbl = s.tbl := (rfl)
@[simp] theorem setRing_shadow (s : State) (n : Nat) (x : Ring) : (setRing s n x).shadow = s.shadow := (rfl)
@[simp] theorem setRing_pay (s : State) (n : Nat) (x : Ring) : (setRing s n x).pay = s.pay := (rfl)
@[simp] theorem setRing_mem (s : State) (n : Nat) (x : Ring) : (setRing s n x).mem = s.mem := (rfl)
@[simp] theorem setRing_slots (s : State) (n : Nat) (x : Ring) : (setRing s n x).slots = s.slots := (rfl)
@[simp] theorem setRing_smt (s : State) (n : Nat) (x : Ring) : (setRing s n x).smt = s.smt := (rfl)
@[simp] theorem setRing_can (s : State) (n : Nat) (x : Ring) : (setRing s n x).can = s.can := (rfl)
@[simp] theorem setRing_obj (s : State) (n : Nat) (x : Ring) : (setRing s n x).obj = s.obj := (rfl)
@[simp] theorem setRing_tst (s : State) (n : Nat) (x : Ring) : (setRing s n x).tst = s.tst := (rfl)
@[simp] theorem setRing_reqSeq (s : State) (n : Nat) (x : Ring) : (setRing s n x).reqSeq = s.reqSeq := (rfl)
@[simp] theorem setRing_copyNext (s : State) (n : Nat) (x : Ring) : (setRing s n x).copyNext = s.copyNext := (rfl)
@[simp] theorem setRing_copies (s : State) (n : Nat) (x : Ring) : (setRing s n x).copies = s.copies := (rfl)
@[simp] theorem setRing_carriers (s : State) (n : Nat) (x : Ring) : (setRing s n x).carriers = s.carriers := (rfl)
@[simp] theorem setRing_work2 (s : State) (n : Nat) (x : Ring) : (setRing s n x).work2 = s.work2 := (rfl)
@[simp] theorem setRing_comps (s : State) (n : Nat) (x : Ring) : (setRing s n x).comps = s.comps := (rfl)
@[simp] theorem setRing_runs (s : State) (n : Nat) (x : Ring) : (setRing s n x).runs = s.runs := (rfl)
@[simp] theorem setRing_parked (s : State) (n : Nat) (x : Ring) : (setRing s n x).parked = s.parked := (rfl)
@[simp] theorem setRing_desc (s : State) (n : Nat) (x : Ring) : (setRing s n x).desc = s.desc := (rfl)
@[simp] theorem setRing_inForce (s : State) (n : Nat) (x : Ring) : (setRing s n x).inForce = s.inForce := (rfl)
@[simp] theorem setRing_relocs (s : State) (n : Nat) (x : Ring) : (setRing s n x).relocs = s.relocs := (rfl)
@[simp] theorem setRing_motLog (s : State) (n : Nat) (x : Ring) : (setRing s n x).motLog = s.motLog := (rfl)
@[simp] theorem setRing_poolZero (s : State) (n : Nat) (x : Ring) : (setRing s n x).poolZero = s.poolZero := (rfl)
@[simp] theorem setRing_scanHeld (s : State) (n : Nat) (x : Ring) : (setRing s n x).scanHeld = s.scanHeld := (rfl)
@[simp] theorem setRing_serdes (s : State) (n : Nat) (x : Ring) : (setRing s n x).serdes = s.serdes := (rfl)
@[simp] theorem setRing_cache (s : State) (n : Nat) (x : Ring) : (setRing s n x).cache = s.cache := (rfl)
@[simp] theorem setRing_passes (s : State) (n : Nat) (x : Ring) : (setRing s n x).passes = s.passes := (rfl)
@[simp] theorem setRing_sweepPauseAt (s : State) (n : Nat) (x : Ring) : (setRing s n x).sweepPauseAt = s.sweepPauseAt := (rfl)
@[simp] theorem setRing_sweepRunFrom (s : State) (n : Nat) (x : Ring) : (setRing s n x).sweepRunFrom = s.sweepRunFrom := (rfl)
@[simp] theorem setRing_mir (s : State) (n : Nat) (x : Ring) : (setRing s n x).mir = s.mir := (rfl)
@[simp] theorem setRing_time (s : State) (n : Nat) (x : Ring) : (setRing s n x).time = s.time := (rfl)
@[simp] theorem setRing_jnl (s : State) (n : Nat) (x : Ring) : (setRing s n x).jnl = s.jnl := (rfl)
@[simp] theorem setRing_mbx (s : State) (n : Nat) (x : Ring) : (setRing s n x).mbx = s.mbx := (rfl)
@[simp] theorem setRing_script (s : State) (n : Nat) (x : Ring) : (setRing s n x).script = s.script := (rfl)
@[simp] theorem setRing_irq (s : State) (n : Nat) (x : Ring) : (setRing s n x).irq = s.irq := (rfl)
@[simp] theorem setRing_sw (s : State) (n : Nat) (x : Ring) : (setRing s n x).sw = s.sw := (rfl)
@[simp] theorem setRing_eth (s : State) (n : Nat) (x : Ring) : (setRing s n x).eth = s.eth := (rfl)
@[simp] theorem setRing_fwd (s : State) (n : Nat) (x : Ring) : (setRing s n x).fwd = s.fwd := (rfl)
@[simp] theorem setRing_sec (s : State) (n : Nat) (x : Ring) : (setRing s n x).sec = s.sec := (rfl)
@[simp] theorem setRing_dev (s : State) (n : Nat) (x : Ring) : (setRing s n x).dev = s.dev := (rfl)
@[simp] theorem setRing_clk (s : State) (n : Nat) (x : Ring) : (setRing s n x).clk = s.clk := (rfl)
@[simp] theorem setRing_boot (s : State) (n : Nat) (x : Ring) : (setRing s n x).boot = s.boot := (rfl)
@[simp] theorem setRing_otp (s : State) (n : Nat) (x : Ring) : (setRing s n x).otp = s.otp := (rfl)
@[simp] theorem setRing_flash (s : State) (n : Nat) (x : Ring) : (setRing s n x).flash = s.flash := (rfl)
@[simp] theorem setRing_upd (s : State) (n : Nat) (x : Ring) : (setRing s n x).upd = s.upd := (rfl)
@[simp] theorem setRing_lan (s : State) (n : Nat) (x : Ring) : (setRing s n x).lan = s.lan := (rfl)
@[simp] theorem setRing_bud (s : State) (n : Nat) (x : Ring) : (setRing s n x).bud = s.bud := (rfl)
@[simp] theorem setRing_pcie (s : State) (n : Nat) (x : Ring) : (setRing s n x).pcie = s.pcie := (rfl)
@[simp] theorem setRing_ticks (s : State) (n : Nat) (x : Ring) : (setRing s n x).ticks = s.ticks := (rfl)
@[simp] theorem setRing_free (s : State) (n : Nat) (x : Ring) : (setRing s n x).free = s.free := (rfl)
@[simp] theorem setRing_house (s : State) (n : Nat) (x : Ring) : (setRing s n x).house = s.house := (rfl)
@[simp] theorem setRing_out (s : State) (n : Nat) (x : Ring) : (setRing s n x).out = s.out := (rfl)

/-! ### `setMbx` -/

@[simp] theorem setMbx_pending (s : State) (n : Nat) (x : MbxRt) : (setMbx s n x).pending = s.pending := (rfl)
@[simp] theorem setMbx_regs (s : State) (n : Nat) (x : MbxRt) : (setMbx s n x).regs = s.regs := (rfl)
@[simp] theorem setMbx_refActive (s : State) (n : Nat) (x : MbxRt) : (setMbx s n x).refActive = s.refActive := (rfl)
@[simp] theorem setMbx_hiLatch (s : State) (n : Nat) (x : MbxRt) : (setMbx s n x).hiLatch = s.hiLatch := (rfl)
@[simp] theorem setMbx_armed (s : State) (n : Nat) (x : MbxRt) : (setMbx s n x).armed = s.armed := (rfl)
@[simp] theorem setMbx_tri (s : State) (n : Nat) (x : MbxRt) : (setMbx s n x).tri = s.tri := (rfl)
@[simp] theorem setMbx_tbl (s : State) (n : Nat) (x : MbxRt) : (setMbx s n x).tbl = s.tbl := (rfl)
@[simp] theorem setMbx_shadow (s : State) (n : Nat) (x : MbxRt) : (setMbx s n x).shadow = s.shadow := (rfl)
@[simp] theorem setMbx_pay (s : State) (n : Nat) (x : MbxRt) : (setMbx s n x).pay = s.pay := (rfl)
@[simp] theorem setMbx_mem (s : State) (n : Nat) (x : MbxRt) : (setMbx s n x).mem = s.mem := (rfl)
@[simp] theorem setMbx_slots (s : State) (n : Nat) (x : MbxRt) : (setMbx s n x).slots = s.slots := (rfl)
@[simp] theorem setMbx_smt (s : State) (n : Nat) (x : MbxRt) : (setMbx s n x).smt = s.smt := (rfl)
@[simp] theorem setMbx_can (s : State) (n : Nat) (x : MbxRt) : (setMbx s n x).can = s.can := (rfl)
@[simp] theorem setMbx_obj (s : State) (n : Nat) (x : MbxRt) : (setMbx s n x).obj = s.obj := (rfl)
@[simp] theorem setMbx_tst (s : State) (n : Nat) (x : MbxRt) : (setMbx s n x).tst = s.tst := (rfl)
@[simp] theorem setMbx_reqSeq (s : State) (n : Nat) (x : MbxRt) : (setMbx s n x).reqSeq = s.reqSeq := (rfl)
@[simp] theorem setMbx_copyNext (s : State) (n : Nat) (x : MbxRt) : (setMbx s n x).copyNext = s.copyNext := (rfl)
@[simp] theorem setMbx_copies (s : State) (n : Nat) (x : MbxRt) : (setMbx s n x).copies = s.copies := (rfl)
@[simp] theorem setMbx_carriers (s : State) (n : Nat) (x : MbxRt) : (setMbx s n x).carriers = s.carriers := (rfl)
@[simp] theorem setMbx_work2 (s : State) (n : Nat) (x : MbxRt) : (setMbx s n x).work2 = s.work2 := (rfl)
@[simp] theorem setMbx_comps (s : State) (n : Nat) (x : MbxRt) : (setMbx s n x).comps = s.comps := (rfl)
@[simp] theorem setMbx_runs (s : State) (n : Nat) (x : MbxRt) : (setMbx s n x).runs = s.runs := (rfl)
@[simp] theorem setMbx_parked (s : State) (n : Nat) (x : MbxRt) : (setMbx s n x).parked = s.parked := (rfl)
@[simp] theorem setMbx_desc (s : State) (n : Nat) (x : MbxRt) : (setMbx s n x).desc = s.desc := (rfl)
@[simp] theorem setMbx_inForce (s : State) (n : Nat) (x : MbxRt) : (setMbx s n x).inForce = s.inForce := (rfl)
@[simp] theorem setMbx_relocs (s : State) (n : Nat) (x : MbxRt) : (setMbx s n x).relocs = s.relocs := (rfl)
@[simp] theorem setMbx_motLog (s : State) (n : Nat) (x : MbxRt) : (setMbx s n x).motLog = s.motLog := (rfl)
@[simp] theorem setMbx_poolZero (s : State) (n : Nat) (x : MbxRt) : (setMbx s n x).poolZero = s.poolZero := (rfl)
@[simp] theorem setMbx_scanHeld (s : State) (n : Nat) (x : MbxRt) : (setMbx s n x).scanHeld = s.scanHeld := (rfl)
@[simp] theorem setMbx_serdes (s : State) (n : Nat) (x : MbxRt) : (setMbx s n x).serdes = s.serdes := (rfl)
@[simp] theorem setMbx_cache (s : State) (n : Nat) (x : MbxRt) : (setMbx s n x).cache = s.cache := (rfl)
@[simp] theorem setMbx_passes (s : State) (n : Nat) (x : MbxRt) : (setMbx s n x).passes = s.passes := (rfl)
@[simp] theorem setMbx_sweepPauseAt (s : State) (n : Nat) (x : MbxRt) : (setMbx s n x).sweepPauseAt = s.sweepPauseAt := (rfl)
@[simp] theorem setMbx_sweepRunFrom (s : State) (n : Nat) (x : MbxRt) : (setMbx s n x).sweepRunFrom = s.sweepRunFrom := (rfl)
@[simp] theorem setMbx_mir (s : State) (n : Nat) (x : MbxRt) : (setMbx s n x).mir = s.mir := (rfl)
@[simp] theorem setMbx_time (s : State) (n : Nat) (x : MbxRt) : (setMbx s n x).time = s.time := (rfl)
@[simp] theorem setMbx_jnl (s : State) (n : Nat) (x : MbxRt) : (setMbx s n x).jnl = s.jnl := (rfl)
@[simp] theorem setMbx_ring (s : State) (n : Nat) (x : MbxRt) : (setMbx s n x).ring = s.ring := (rfl)
@[simp] theorem setMbx_script (s : State) (n : Nat) (x : MbxRt) : (setMbx s n x).script = s.script := (rfl)
@[simp] theorem setMbx_irq (s : State) (n : Nat) (x : MbxRt) : (setMbx s n x).irq = s.irq := (rfl)
@[simp] theorem setMbx_sw (s : State) (n : Nat) (x : MbxRt) : (setMbx s n x).sw = s.sw := (rfl)
@[simp] theorem setMbx_eth (s : State) (n : Nat) (x : MbxRt) : (setMbx s n x).eth = s.eth := (rfl)
@[simp] theorem setMbx_fwd (s : State) (n : Nat) (x : MbxRt) : (setMbx s n x).fwd = s.fwd := (rfl)
@[simp] theorem setMbx_sec (s : State) (n : Nat) (x : MbxRt) : (setMbx s n x).sec = s.sec := (rfl)
@[simp] theorem setMbx_dev (s : State) (n : Nat) (x : MbxRt) : (setMbx s n x).dev = s.dev := (rfl)
@[simp] theorem setMbx_clk (s : State) (n : Nat) (x : MbxRt) : (setMbx s n x).clk = s.clk := (rfl)
@[simp] theorem setMbx_boot (s : State) (n : Nat) (x : MbxRt) : (setMbx s n x).boot = s.boot := (rfl)
@[simp] theorem setMbx_otp (s : State) (n : Nat) (x : MbxRt) : (setMbx s n x).otp = s.otp := (rfl)
@[simp] theorem setMbx_flash (s : State) (n : Nat) (x : MbxRt) : (setMbx s n x).flash = s.flash := (rfl)
@[simp] theorem setMbx_upd (s : State) (n : Nat) (x : MbxRt) : (setMbx s n x).upd = s.upd := (rfl)
@[simp] theorem setMbx_lan (s : State) (n : Nat) (x : MbxRt) : (setMbx s n x).lan = s.lan := (rfl)
@[simp] theorem setMbx_bud (s : State) (n : Nat) (x : MbxRt) : (setMbx s n x).bud = s.bud := (rfl)
@[simp] theorem setMbx_pcie (s : State) (n : Nat) (x : MbxRt) : (setMbx s n x).pcie = s.pcie := (rfl)
@[simp] theorem setMbx_ticks (s : State) (n : Nat) (x : MbxRt) : (setMbx s n x).ticks = s.ticks := (rfl)
@[simp] theorem setMbx_free (s : State) (n : Nat) (x : MbxRt) : (setMbx s n x).free = s.free := (rfl)
@[simp] theorem setMbx_house (s : State) (n : Nat) (x : MbxRt) : (setMbx s n x).house = s.house := (rfl)
@[simp] theorem setMbx_out (s : State) (n : Nat) (x : MbxRt) : (setMbx s n x).out = s.out := (rfl)

/-! ### `setSeg` -/

@[simp] theorem setSeg_pending (s : State) (n : Nat) (x : Seg) : (setSeg s n x).pending = s.pending := (rfl)
@[simp] theorem setSeg_regs (s : State) (n : Nat) (x : Seg) : (setSeg s n x).regs = s.regs := (rfl)
@[simp] theorem setSeg_refActive (s : State) (n : Nat) (x : Seg) : (setSeg s n x).refActive = s.refActive := (rfl)
@[simp] theorem setSeg_hiLatch (s : State) (n : Nat) (x : Seg) : (setSeg s n x).hiLatch = s.hiLatch := (rfl)
@[simp] theorem setSeg_armed (s : State) (n : Nat) (x : Seg) : (setSeg s n x).armed = s.armed := (rfl)
@[simp] theorem setSeg_tri (s : State) (n : Nat) (x : Seg) : (setSeg s n x).tri = s.tri := (rfl)
@[simp] theorem setSeg_tbl (s : State) (n : Nat) (x : Seg) : (setSeg s n x).tbl = s.tbl := (rfl)
@[simp] theorem setSeg_shadow (s : State) (n : Nat) (x : Seg) : (setSeg s n x).shadow = s.shadow := (rfl)
@[simp] theorem setSeg_pay (s : State) (n : Nat) (x : Seg) : (setSeg s n x).pay = s.pay := (rfl)
@[simp] theorem setSeg_mem (s : State) (n : Nat) (x : Seg) : (setSeg s n x).mem = s.mem := (rfl)
@[simp] theorem setSeg_slots (s : State) (n : Nat) (x : Seg) : (setSeg s n x).slots = s.slots := (rfl)
@[simp] theorem setSeg_smt (s : State) (n : Nat) (x : Seg) : (setSeg s n x).smt = s.smt := (rfl)
@[simp] theorem setSeg_can (s : State) (n : Nat) (x : Seg) : (setSeg s n x).can = s.can := (rfl)
@[simp] theorem setSeg_obj (s : State) (n : Nat) (x : Seg) : (setSeg s n x).obj = s.obj := (rfl)
@[simp] theorem setSeg_tst (s : State) (n : Nat) (x : Seg) : (setSeg s n x).tst = s.tst := (rfl)
@[simp] theorem setSeg_reqSeq (s : State) (n : Nat) (x : Seg) : (setSeg s n x).reqSeq = s.reqSeq := (rfl)
@[simp] theorem setSeg_copyNext (s : State) (n : Nat) (x : Seg) : (setSeg s n x).copyNext = s.copyNext := (rfl)
@[simp] theorem setSeg_copies (s : State) (n : Nat) (x : Seg) : (setSeg s n x).copies = s.copies := (rfl)
@[simp] theorem setSeg_carriers (s : State) (n : Nat) (x : Seg) : (setSeg s n x).carriers = s.carriers := (rfl)
@[simp] theorem setSeg_work2 (s : State) (n : Nat) (x : Seg) : (setSeg s n x).work2 = s.work2 := (rfl)
@[simp] theorem setSeg_comps (s : State) (n : Nat) (x : Seg) : (setSeg s n x).comps = s.comps := (rfl)
@[simp] theorem setSeg_runs (s : State) (n : Nat) (x : Seg) : (setSeg s n x).runs = s.runs := (rfl)
@[simp] theorem setSeg_parked (s : State) (n : Nat) (x : Seg) : (setSeg s n x).parked = s.parked := (rfl)
@[simp] theorem setSeg_desc (s : State) (n : Nat) (x : Seg) : (setSeg s n x).desc = s.desc := (rfl)
@[simp] theorem setSeg_inForce (s : State) (n : Nat) (x : Seg) : (setSeg s n x).inForce = s.inForce := (rfl)
@[simp] theorem setSeg_relocs (s : State) (n : Nat) (x : Seg) : (setSeg s n x).relocs = s.relocs := (rfl)
@[simp] theorem setSeg_motLog (s : State) (n : Nat) (x : Seg) : (setSeg s n x).motLog = s.motLog := (rfl)
@[simp] theorem setSeg_poolZero (s : State) (n : Nat) (x : Seg) : (setSeg s n x).poolZero = s.poolZero := (rfl)
@[simp] theorem setSeg_scanHeld (s : State) (n : Nat) (x : Seg) : (setSeg s n x).scanHeld = s.scanHeld := (rfl)
@[simp] theorem setSeg_serdes (s : State) (n : Nat) (x : Seg) : (setSeg s n x).serdes = s.serdes := (rfl)
@[simp] theorem setSeg_cache (s : State) (n : Nat) (x : Seg) : (setSeg s n x).cache = s.cache := (rfl)
@[simp] theorem setSeg_passes (s : State) (n : Nat) (x : Seg) : (setSeg s n x).passes = s.passes := (rfl)
@[simp] theorem setSeg_sweepPauseAt (s : State) (n : Nat) (x : Seg) : (setSeg s n x).sweepPauseAt = s.sweepPauseAt := (rfl)
@[simp] theorem setSeg_sweepRunFrom (s : State) (n : Nat) (x : Seg) : (setSeg s n x).sweepRunFrom = s.sweepRunFrom := (rfl)
@[simp] theorem setSeg_mir (s : State) (n : Nat) (x : Seg) : (setSeg s n x).mir = s.mir := (rfl)
@[simp] theorem setSeg_time (s : State) (n : Nat) (x : Seg) : (setSeg s n x).time = s.time := (rfl)
@[simp] theorem setSeg_jnl (s : State) (n : Nat) (x : Seg) : (setSeg s n x).jnl = s.jnl := (rfl)
@[simp] theorem setSeg_ring (s : State) (n : Nat) (x : Seg) : (setSeg s n x).ring = s.ring := (rfl)
@[simp] theorem setSeg_mbx (s : State) (n : Nat) (x : Seg) : (setSeg s n x).mbx = s.mbx := (rfl)
@[simp] theorem setSeg_script (s : State) (n : Nat) (x : Seg) : (setSeg s n x).script = s.script := (rfl)
@[simp] theorem setSeg_irq (s : State) (n : Nat) (x : Seg) : (setSeg s n x).irq = s.irq := (rfl)
@[simp] theorem setSeg_sw (s : State) (n : Nat) (x : Seg) : (setSeg s n x).sw = s.sw := (rfl)
@[simp] theorem setSeg_eth (s : State) (n : Nat) (x : Seg) : (setSeg s n x).eth = s.eth := (rfl)
@[simp] theorem setSeg_fwd (s : State) (n : Nat) (x : Seg) : (setSeg s n x).fwd = s.fwd := (rfl)
@[simp] theorem setSeg_sec (s : State) (n : Nat) (x : Seg) : (setSeg s n x).sec = s.sec := (rfl)
@[simp] theorem setSeg_dev (s : State) (n : Nat) (x : Seg) : (setSeg s n x).dev = s.dev := (rfl)
@[simp] theorem setSeg_clk (s : State) (n : Nat) (x : Seg) : (setSeg s n x).clk = s.clk := (rfl)
@[simp] theorem setSeg_boot (s : State) (n : Nat) (x : Seg) : (setSeg s n x).boot = s.boot := (rfl)
@[simp] theorem setSeg_otp (s : State) (n : Nat) (x : Seg) : (setSeg s n x).otp = s.otp := (rfl)
@[simp] theorem setSeg_flash (s : State) (n : Nat) (x : Seg) : (setSeg s n x).flash = s.flash := (rfl)
@[simp] theorem setSeg_upd (s : State) (n : Nat) (x : Seg) : (setSeg s n x).upd = s.upd := (rfl)
@[simp] theorem setSeg_bud (s : State) (n : Nat) (x : Seg) : (setSeg s n x).bud = s.bud := (rfl)
@[simp] theorem setSeg_pcie (s : State) (n : Nat) (x : Seg) : (setSeg s n x).pcie = s.pcie := (rfl)
@[simp] theorem setSeg_ticks (s : State) (n : Nat) (x : Seg) : (setSeg s n x).ticks = s.ticks := (rfl)
@[simp] theorem setSeg_free (s : State) (n : Nat) (x : Seg) : (setSeg s n x).free = s.free := (rfl)
@[simp] theorem setSeg_house (s : State) (n : Nat) (x : Seg) : (setSeg s n x).house = s.house := (rfl)
@[simp] theorem setSeg_out (s : State) (n : Nat) (x : Seg) : (setSeg s n x).out = s.out := (rfl)

/-! ### `setKey` -/

@[simp] theorem setKey_pending (s : State) (n : Nat) (x : KeySlot) : (setKey s n x).pending = s.pending := (rfl)
@[simp] theorem setKey_regs (s : State) (n : Nat) (x : KeySlot) : (setKey s n x).regs = s.regs := (rfl)
@[simp] theorem setKey_refActive (s : State) (n : Nat) (x : KeySlot) : (setKey s n x).refActive = s.refActive := (rfl)
@[simp] theorem setKey_hiLatch (s : State) (n : Nat) (x : KeySlot) : (setKey s n x).hiLatch = s.hiLatch := (rfl)
@[simp] theorem setKey_armed (s : State) (n : Nat) (x : KeySlot) : (setKey s n x).armed = s.armed := (rfl)
@[simp] theorem setKey_tri (s : State) (n : Nat) (x : KeySlot) : (setKey s n x).tri = s.tri := (rfl)
@[simp] theorem setKey_tbl (s : State) (n : Nat) (x : KeySlot) : (setKey s n x).tbl = s.tbl := (rfl)
@[simp] theorem setKey_shadow (s : State) (n : Nat) (x : KeySlot) : (setKey s n x).shadow = s.shadow := (rfl)
@[simp] theorem setKey_pay (s : State) (n : Nat) (x : KeySlot) : (setKey s n x).pay = s.pay := (rfl)
@[simp] theorem setKey_mem (s : State) (n : Nat) (x : KeySlot) : (setKey s n x).mem = s.mem := (rfl)
@[simp] theorem setKey_slots (s : State) (n : Nat) (x : KeySlot) : (setKey s n x).slots = s.slots := (rfl)
@[simp] theorem setKey_smt (s : State) (n : Nat) (x : KeySlot) : (setKey s n x).smt = s.smt := (rfl)
@[simp] theorem setKey_can (s : State) (n : Nat) (x : KeySlot) : (setKey s n x).can = s.can := (rfl)
@[simp] theorem setKey_obj (s : State) (n : Nat) (x : KeySlot) : (setKey s n x).obj = s.obj := (rfl)
@[simp] theorem setKey_tst (s : State) (n : Nat) (x : KeySlot) : (setKey s n x).tst = s.tst := (rfl)
@[simp] theorem setKey_reqSeq (s : State) (n : Nat) (x : KeySlot) : (setKey s n x).reqSeq = s.reqSeq := (rfl)
@[simp] theorem setKey_copyNext (s : State) (n : Nat) (x : KeySlot) : (setKey s n x).copyNext = s.copyNext := (rfl)
@[simp] theorem setKey_copies (s : State) (n : Nat) (x : KeySlot) : (setKey s n x).copies = s.copies := (rfl)
@[simp] theorem setKey_carriers (s : State) (n : Nat) (x : KeySlot) : (setKey s n x).carriers = s.carriers := (rfl)
@[simp] theorem setKey_work2 (s : State) (n : Nat) (x : KeySlot) : (setKey s n x).work2 = s.work2 := (rfl)
@[simp] theorem setKey_comps (s : State) (n : Nat) (x : KeySlot) : (setKey s n x).comps = s.comps := (rfl)
@[simp] theorem setKey_runs (s : State) (n : Nat) (x : KeySlot) : (setKey s n x).runs = s.runs := (rfl)
@[simp] theorem setKey_parked (s : State) (n : Nat) (x : KeySlot) : (setKey s n x).parked = s.parked := (rfl)
@[simp] theorem setKey_desc (s : State) (n : Nat) (x : KeySlot) : (setKey s n x).desc = s.desc := (rfl)
@[simp] theorem setKey_inForce (s : State) (n : Nat) (x : KeySlot) : (setKey s n x).inForce = s.inForce := (rfl)
@[simp] theorem setKey_relocs (s : State) (n : Nat) (x : KeySlot) : (setKey s n x).relocs = s.relocs := (rfl)
@[simp] theorem setKey_motLog (s : State) (n : Nat) (x : KeySlot) : (setKey s n x).motLog = s.motLog := (rfl)
@[simp] theorem setKey_poolZero (s : State) (n : Nat) (x : KeySlot) : (setKey s n x).poolZero = s.poolZero := (rfl)
@[simp] theorem setKey_scanHeld (s : State) (n : Nat) (x : KeySlot) : (setKey s n x).scanHeld = s.scanHeld := (rfl)
@[simp] theorem setKey_serdes (s : State) (n : Nat) (x : KeySlot) : (setKey s n x).serdes = s.serdes := (rfl)
@[simp] theorem setKey_cache (s : State) (n : Nat) (x : KeySlot) : (setKey s n x).cache = s.cache := (rfl)
@[simp] theorem setKey_passes (s : State) (n : Nat) (x : KeySlot) : (setKey s n x).passes = s.passes := (rfl)
@[simp] theorem setKey_sweepPauseAt (s : State) (n : Nat) (x : KeySlot) : (setKey s n x).sweepPauseAt = s.sweepPauseAt := (rfl)
@[simp] theorem setKey_sweepRunFrom (s : State) (n : Nat) (x : KeySlot) : (setKey s n x).sweepRunFrom = s.sweepRunFrom := (rfl)
@[simp] theorem setKey_mir (s : State) (n : Nat) (x : KeySlot) : (setKey s n x).mir = s.mir := (rfl)
@[simp] theorem setKey_time (s : State) (n : Nat) (x : KeySlot) : (setKey s n x).time = s.time := (rfl)
@[simp] theorem setKey_jnl (s : State) (n : Nat) (x : KeySlot) : (setKey s n x).jnl = s.jnl := (rfl)
@[simp] theorem setKey_ring (s : State) (n : Nat) (x : KeySlot) : (setKey s n x).ring = s.ring := (rfl)
@[simp] theorem setKey_mbx (s : State) (n : Nat) (x : KeySlot) : (setKey s n x).mbx = s.mbx := (rfl)
@[simp] theorem setKey_script (s : State) (n : Nat) (x : KeySlot) : (setKey s n x).script = s.script := (rfl)
@[simp] theorem setKey_irq (s : State) (n : Nat) (x : KeySlot) : (setKey s n x).irq = s.irq := (rfl)
@[simp] theorem setKey_sw (s : State) (n : Nat) (x : KeySlot) : (setKey s n x).sw = s.sw := (rfl)
@[simp] theorem setKey_eth (s : State) (n : Nat) (x : KeySlot) : (setKey s n x).eth = s.eth := (rfl)
@[simp] theorem setKey_fwd (s : State) (n : Nat) (x : KeySlot) : (setKey s n x).fwd = s.fwd := (rfl)
@[simp] theorem setKey_dev (s : State) (n : Nat) (x : KeySlot) : (setKey s n x).dev = s.dev := (rfl)
@[simp] theorem setKey_clk (s : State) (n : Nat) (x : KeySlot) : (setKey s n x).clk = s.clk := (rfl)
@[simp] theorem setKey_boot (s : State) (n : Nat) (x : KeySlot) : (setKey s n x).boot = s.boot := (rfl)
@[simp] theorem setKey_otp (s : State) (n : Nat) (x : KeySlot) : (setKey s n x).otp = s.otp := (rfl)
@[simp] theorem setKey_flash (s : State) (n : Nat) (x : KeySlot) : (setKey s n x).flash = s.flash := (rfl)
@[simp] theorem setKey_upd (s : State) (n : Nat) (x : KeySlot) : (setKey s n x).upd = s.upd := (rfl)
@[simp] theorem setKey_lan (s : State) (n : Nat) (x : KeySlot) : (setKey s n x).lan = s.lan := (rfl)
@[simp] theorem setKey_bud (s : State) (n : Nat) (x : KeySlot) : (setKey s n x).bud = s.bud := (rfl)
@[simp] theorem setKey_pcie (s : State) (n : Nat) (x : KeySlot) : (setKey s n x).pcie = s.pcie := (rfl)
@[simp] theorem setKey_ticks (s : State) (n : Nat) (x : KeySlot) : (setKey s n x).ticks = s.ticks := (rfl)
@[simp] theorem setKey_free (s : State) (n : Nat) (x : KeySlot) : (setKey s n x).free = s.free := (rfl)
@[simp] theorem setKey_house (s : State) (n : Nat) (x : KeySlot) : (setKey s n x).house = s.house := (rfl)
@[simp] theorem setKey_out (s : State) (n : Nat) (x : KeySlot) : (setKey s n x).out = s.out := (rfl)

/-! ### `setJobPage` -/

@[simp] theorem setJobPage_pending (s : State) (n : Nat) (x : JobPage) : (setJobPage s n x).pending = s.pending := (rfl)
@[simp] theorem setJobPage_regs (s : State) (n : Nat) (x : JobPage) : (setJobPage s n x).regs = s.regs := (rfl)
@[simp] theorem setJobPage_refActive (s : State) (n : Nat) (x : JobPage) : (setJobPage s n x).refActive = s.refActive := (rfl)
@[simp] theorem setJobPage_hiLatch (s : State) (n : Nat) (x : JobPage) : (setJobPage s n x).hiLatch = s.hiLatch := (rfl)
@[simp] theorem setJobPage_armed (s : State) (n : Nat) (x : JobPage) : (setJobPage s n x).armed = s.armed := (rfl)
@[simp] theorem setJobPage_tri (s : State) (n : Nat) (x : JobPage) : (setJobPage s n x).tri = s.tri := (rfl)
@[simp] theorem setJobPage_tbl (s : State) (n : Nat) (x : JobPage) : (setJobPage s n x).tbl = s.tbl := (rfl)
@[simp] theorem setJobPage_shadow (s : State) (n : Nat) (x : JobPage) : (setJobPage s n x).shadow = s.shadow := (rfl)
@[simp] theorem setJobPage_pay (s : State) (n : Nat) (x : JobPage) : (setJobPage s n x).pay = s.pay := (rfl)
@[simp] theorem setJobPage_mem (s : State) (n : Nat) (x : JobPage) : (setJobPage s n x).mem = s.mem := (rfl)
@[simp] theorem setJobPage_slots (s : State) (n : Nat) (x : JobPage) : (setJobPage s n x).slots = s.slots := (rfl)
@[simp] theorem setJobPage_smt (s : State) (n : Nat) (x : JobPage) : (setJobPage s n x).smt = s.smt := (rfl)
@[simp] theorem setJobPage_can (s : State) (n : Nat) (x : JobPage) : (setJobPage s n x).can = s.can := (rfl)
@[simp] theorem setJobPage_obj (s : State) (n : Nat) (x : JobPage) : (setJobPage s n x).obj = s.obj := (rfl)
@[simp] theorem setJobPage_tst (s : State) (n : Nat) (x : JobPage) : (setJobPage s n x).tst = s.tst := (rfl)
@[simp] theorem setJobPage_reqSeq (s : State) (n : Nat) (x : JobPage) : (setJobPage s n x).reqSeq = s.reqSeq := (rfl)
@[simp] theorem setJobPage_copyNext (s : State) (n : Nat) (x : JobPage) : (setJobPage s n x).copyNext = s.copyNext := (rfl)
@[simp] theorem setJobPage_copies (s : State) (n : Nat) (x : JobPage) : (setJobPage s n x).copies = s.copies := (rfl)
@[simp] theorem setJobPage_carriers (s : State) (n : Nat) (x : JobPage) : (setJobPage s n x).carriers = s.carriers := (rfl)
@[simp] theorem setJobPage_work2 (s : State) (n : Nat) (x : JobPage) : (setJobPage s n x).work2 = s.work2 := (rfl)
@[simp] theorem setJobPage_comps (s : State) (n : Nat) (x : JobPage) : (setJobPage s n x).comps = s.comps := (rfl)
@[simp] theorem setJobPage_runs (s : State) (n : Nat) (x : JobPage) : (setJobPage s n x).runs = s.runs := (rfl)
@[simp] theorem setJobPage_parked (s : State) (n : Nat) (x : JobPage) : (setJobPage s n x).parked = s.parked := (rfl)
@[simp] theorem setJobPage_desc (s : State) (n : Nat) (x : JobPage) : (setJobPage s n x).desc = s.desc := (rfl)
@[simp] theorem setJobPage_inForce (s : State) (n : Nat) (x : JobPage) : (setJobPage s n x).inForce = s.inForce := (rfl)
@[simp] theorem setJobPage_relocs (s : State) (n : Nat) (x : JobPage) : (setJobPage s n x).relocs = s.relocs := (rfl)
@[simp] theorem setJobPage_motLog (s : State) (n : Nat) (x : JobPage) : (setJobPage s n x).motLog = s.motLog := (rfl)
@[simp] theorem setJobPage_poolZero (s : State) (n : Nat) (x : JobPage) : (setJobPage s n x).poolZero = s.poolZero := (rfl)
@[simp] theorem setJobPage_scanHeld (s : State) (n : Nat) (x : JobPage) : (setJobPage s n x).scanHeld = s.scanHeld := (rfl)
@[simp] theorem setJobPage_serdes (s : State) (n : Nat) (x : JobPage) : (setJobPage s n x).serdes = s.serdes := (rfl)
@[simp] theorem setJobPage_cache (s : State) (n : Nat) (x : JobPage) : (setJobPage s n x).cache = s.cache := (rfl)
@[simp] theorem setJobPage_passes (s : State) (n : Nat) (x : JobPage) : (setJobPage s n x).passes = s.passes := (rfl)
@[simp] theorem setJobPage_sweepPauseAt (s : State) (n : Nat) (x : JobPage) : (setJobPage s n x).sweepPauseAt = s.sweepPauseAt := (rfl)
@[simp] theorem setJobPage_sweepRunFrom (s : State) (n : Nat) (x : JobPage) : (setJobPage s n x).sweepRunFrom = s.sweepRunFrom := (rfl)
@[simp] theorem setJobPage_mir (s : State) (n : Nat) (x : JobPage) : (setJobPage s n x).mir = s.mir := (rfl)
@[simp] theorem setJobPage_time (s : State) (n : Nat) (x : JobPage) : (setJobPage s n x).time = s.time := (rfl)
@[simp] theorem setJobPage_jnl (s : State) (n : Nat) (x : JobPage) : (setJobPage s n x).jnl = s.jnl := (rfl)
@[simp] theorem setJobPage_ring (s : State) (n : Nat) (x : JobPage) : (setJobPage s n x).ring = s.ring := (rfl)
@[simp] theorem setJobPage_mbx (s : State) (n : Nat) (x : JobPage) : (setJobPage s n x).mbx = s.mbx := (rfl)
@[simp] theorem setJobPage_script (s : State) (n : Nat) (x : JobPage) : (setJobPage s n x).script = s.script := (rfl)
@[simp] theorem setJobPage_irq (s : State) (n : Nat) (x : JobPage) : (setJobPage s n x).irq = s.irq := (rfl)
@[simp] theorem setJobPage_sw (s : State) (n : Nat) (x : JobPage) : (setJobPage s n x).sw = s.sw := (rfl)
@[simp] theorem setJobPage_eth (s : State) (n : Nat) (x : JobPage) : (setJobPage s n x).eth = s.eth := (rfl)
@[simp] theorem setJobPage_fwd (s : State) (n : Nat) (x : JobPage) : (setJobPage s n x).fwd = s.fwd := (rfl)
@[simp] theorem setJobPage_dev (s : State) (n : Nat) (x : JobPage) : (setJobPage s n x).dev = s.dev := (rfl)
@[simp] theorem setJobPage_clk (s : State) (n : Nat) (x : JobPage) : (setJobPage s n x).clk = s.clk := (rfl)
@[simp] theorem setJobPage_boot (s : State) (n : Nat) (x : JobPage) : (setJobPage s n x).boot = s.boot := (rfl)
@[simp] theorem setJobPage_otp (s : State) (n : Nat) (x : JobPage) : (setJobPage s n x).otp = s.otp := (rfl)
@[simp] theorem setJobPage_flash (s : State) (n : Nat) (x : JobPage) : (setJobPage s n x).flash = s.flash := (rfl)
@[simp] theorem setJobPage_upd (s : State) (n : Nat) (x : JobPage) : (setJobPage s n x).upd = s.upd := (rfl)
@[simp] theorem setJobPage_lan (s : State) (n : Nat) (x : JobPage) : (setJobPage s n x).lan = s.lan := (rfl)
@[simp] theorem setJobPage_bud (s : State) (n : Nat) (x : JobPage) : (setJobPage s n x).bud = s.bud := (rfl)
@[simp] theorem setJobPage_pcie (s : State) (n : Nat) (x : JobPage) : (setJobPage s n x).pcie = s.pcie := (rfl)
@[simp] theorem setJobPage_ticks (s : State) (n : Nat) (x : JobPage) : (setJobPage s n x).ticks = s.ticks := (rfl)
@[simp] theorem setJobPage_free (s : State) (n : Nat) (x : JobPage) : (setJobPage s n x).free = s.free := (rfl)
@[simp] theorem setJobPage_house (s : State) (n : Nat) (x : JobPage) : (setJobPage s n x).house = s.house := (rfl)
@[simp] theorem setJobPage_out (s : State) (n : Nat) (x : JobPage) : (setJobPage s n x).out = s.out := (rfl)

/-! ### `setSlot` -/

@[simp] theorem setSlot_pending (s : State) (n : Nat) (x : Slot) : (setSlot s n x).pending = s.pending := (rfl)
@[simp] theorem setSlot_regs (s : State) (n : Nat) (x : Slot) : (setSlot s n x).regs = s.regs := (rfl)
@[simp] theorem setSlot_refActive (s : State) (n : Nat) (x : Slot) : (setSlot s n x).refActive = s.refActive := (rfl)
@[simp] theorem setSlot_hiLatch (s : State) (n : Nat) (x : Slot) : (setSlot s n x).hiLatch = s.hiLatch := (rfl)
@[simp] theorem setSlot_armed (s : State) (n : Nat) (x : Slot) : (setSlot s n x).armed = s.armed := (rfl)
@[simp] theorem setSlot_tri (s : State) (n : Nat) (x : Slot) : (setSlot s n x).tri = s.tri := (rfl)
@[simp] theorem setSlot_tbl (s : State) (n : Nat) (x : Slot) : (setSlot s n x).tbl = s.tbl := (rfl)
@[simp] theorem setSlot_shadow (s : State) (n : Nat) (x : Slot) : (setSlot s n x).shadow = s.shadow := (rfl)
@[simp] theorem setSlot_pay (s : State) (n : Nat) (x : Slot) : (setSlot s n x).pay = s.pay := (rfl)
@[simp] theorem setSlot_mem (s : State) (n : Nat) (x : Slot) : (setSlot s n x).mem = s.mem := (rfl)
@[simp] theorem setSlot_smt (s : State) (n : Nat) (x : Slot) : (setSlot s n x).smt = s.smt := (rfl)
@[simp] theorem setSlot_can (s : State) (n : Nat) (x : Slot) : (setSlot s n x).can = s.can := (rfl)
@[simp] theorem setSlot_obj (s : State) (n : Nat) (x : Slot) : (setSlot s n x).obj = s.obj := (rfl)
@[simp] theorem setSlot_tst (s : State) (n : Nat) (x : Slot) : (setSlot s n x).tst = s.tst := (rfl)
@[simp] theorem setSlot_reqSeq (s : State) (n : Nat) (x : Slot) : (setSlot s n x).reqSeq = s.reqSeq := (rfl)
@[simp] theorem setSlot_copyNext (s : State) (n : Nat) (x : Slot) : (setSlot s n x).copyNext = s.copyNext := (rfl)
@[simp] theorem setSlot_copies (s : State) (n : Nat) (x : Slot) : (setSlot s n x).copies = s.copies := (rfl)
@[simp] theorem setSlot_carriers (s : State) (n : Nat) (x : Slot) : (setSlot s n x).carriers = s.carriers := (rfl)
@[simp] theorem setSlot_work2 (s : State) (n : Nat) (x : Slot) : (setSlot s n x).work2 = s.work2 := (rfl)
@[simp] theorem setSlot_comps (s : State) (n : Nat) (x : Slot) : (setSlot s n x).comps = s.comps := (rfl)
@[simp] theorem setSlot_runs (s : State) (n : Nat) (x : Slot) : (setSlot s n x).runs = s.runs := (rfl)
@[simp] theorem setSlot_parked (s : State) (n : Nat) (x : Slot) : (setSlot s n x).parked = s.parked := (rfl)
@[simp] theorem setSlot_desc (s : State) (n : Nat) (x : Slot) : (setSlot s n x).desc = s.desc := (rfl)
@[simp] theorem setSlot_inForce (s : State) (n : Nat) (x : Slot) : (setSlot s n x).inForce = s.inForce := (rfl)
@[simp] theorem setSlot_relocs (s : State) (n : Nat) (x : Slot) : (setSlot s n x).relocs = s.relocs := (rfl)
@[simp] theorem setSlot_motLog (s : State) (n : Nat) (x : Slot) : (setSlot s n x).motLog = s.motLog := (rfl)
@[simp] theorem setSlot_poolZero (s : State) (n : Nat) (x : Slot) : (setSlot s n x).poolZero = s.poolZero := (rfl)
@[simp] theorem setSlot_scanHeld (s : State) (n : Nat) (x : Slot) : (setSlot s n x).scanHeld = s.scanHeld := (rfl)
@[simp] theorem setSlot_serdes (s : State) (n : Nat) (x : Slot) : (setSlot s n x).serdes = s.serdes := (rfl)
@[simp] theorem setSlot_cache (s : State) (n : Nat) (x : Slot) : (setSlot s n x).cache = s.cache := (rfl)
@[simp] theorem setSlot_passes (s : State) (n : Nat) (x : Slot) : (setSlot s n x).passes = s.passes := (rfl)
@[simp] theorem setSlot_sweepPauseAt (s : State) (n : Nat) (x : Slot) : (setSlot s n x).sweepPauseAt = s.sweepPauseAt := (rfl)
@[simp] theorem setSlot_sweepRunFrom (s : State) (n : Nat) (x : Slot) : (setSlot s n x).sweepRunFrom = s.sweepRunFrom := (rfl)
@[simp] theorem setSlot_mir (s : State) (n : Nat) (x : Slot) : (setSlot s n x).mir = s.mir := (rfl)
@[simp] theorem setSlot_time (s : State) (n : Nat) (x : Slot) : (setSlot s n x).time = s.time := (rfl)
@[simp] theorem setSlot_jnl (s : State) (n : Nat) (x : Slot) : (setSlot s n x).jnl = s.jnl := (rfl)
@[simp] theorem setSlot_ring (s : State) (n : Nat) (x : Slot) : (setSlot s n x).ring = s.ring := (rfl)
@[simp] theorem setSlot_mbx (s : State) (n : Nat) (x : Slot) : (setSlot s n x).mbx = s.mbx := (rfl)
@[simp] theorem setSlot_script (s : State) (n : Nat) (x : Slot) : (setSlot s n x).script = s.script := (rfl)
@[simp] theorem setSlot_irq (s : State) (n : Nat) (x : Slot) : (setSlot s n x).irq = s.irq := (rfl)
@[simp] theorem setSlot_sw (s : State) (n : Nat) (x : Slot) : (setSlot s n x).sw = s.sw := (rfl)
@[simp] theorem setSlot_eth (s : State) (n : Nat) (x : Slot) : (setSlot s n x).eth = s.eth := (rfl)
@[simp] theorem setSlot_fwd (s : State) (n : Nat) (x : Slot) : (setSlot s n x).fwd = s.fwd := (rfl)
@[simp] theorem setSlot_sec (s : State) (n : Nat) (x : Slot) : (setSlot s n x).sec = s.sec := (rfl)
@[simp] theorem setSlot_dev (s : State) (n : Nat) (x : Slot) : (setSlot s n x).dev = s.dev := (rfl)
@[simp] theorem setSlot_clk (s : State) (n : Nat) (x : Slot) : (setSlot s n x).clk = s.clk := (rfl)
@[simp] theorem setSlot_boot (s : State) (n : Nat) (x : Slot) : (setSlot s n x).boot = s.boot := (rfl)
@[simp] theorem setSlot_otp (s : State) (n : Nat) (x : Slot) : (setSlot s n x).otp = s.otp := (rfl)
@[simp] theorem setSlot_flash (s : State) (n : Nat) (x : Slot) : (setSlot s n x).flash = s.flash := (rfl)
@[simp] theorem setSlot_upd (s : State) (n : Nat) (x : Slot) : (setSlot s n x).upd = s.upd := (rfl)
@[simp] theorem setSlot_lan (s : State) (n : Nat) (x : Slot) : (setSlot s n x).lan = s.lan := (rfl)
@[simp] theorem setSlot_bud (s : State) (n : Nat) (x : Slot) : (setSlot s n x).bud = s.bud := (rfl)
@[simp] theorem setSlot_pcie (s : State) (n : Nat) (x : Slot) : (setSlot s n x).pcie = s.pcie := (rfl)
@[simp] theorem setSlot_ticks (s : State) (n : Nat) (x : Slot) : (setSlot s n x).ticks = s.ticks := (rfl)
@[simp] theorem setSlot_free (s : State) (n : Nat) (x : Slot) : (setSlot s n x).free = s.free := (rfl)
@[simp] theorem setSlot_house (s : State) (n : Nat) (x : Slot) : (setSlot s n x).house = s.house := (rfl)
@[simp] theorem setSlot_out (s : State) (n : Nat) (x : Slot) : (setSlot s n x).out = s.out := (rfl)

/-! ### `tSet` -/

@[simp] theorem tSet_pending (s : State) (c i : Nat) (e : BitVec 768) : (tSet s c i e).pending = s.pending := (rfl)
@[simp] theorem tSet_regs (s : State) (c i : Nat) (e : BitVec 768) : (tSet s c i e).regs = s.regs := (rfl)
@[simp] theorem tSet_refActive (s : State) (c i : Nat) (e : BitVec 768) : (tSet s c i e).refActive = s.refActive := (rfl)
@[simp] theorem tSet_hiLatch (s : State) (c i : Nat) (e : BitVec 768) : (tSet s c i e).hiLatch = s.hiLatch := (rfl)
@[simp] theorem tSet_armed (s : State) (c i : Nat) (e : BitVec 768) : (tSet s c i e).armed = s.armed := (rfl)
@[simp] theorem tSet_tri (s : State) (c i : Nat) (e : BitVec 768) : (tSet s c i e).tri = s.tri := (rfl)
@[simp] theorem tSet_shadow (s : State) (c i : Nat) (e : BitVec 768) : (tSet s c i e).shadow = s.shadow := (rfl)
@[simp] theorem tSet_pay (s : State) (c i : Nat) (e : BitVec 768) : (tSet s c i e).pay = s.pay := (rfl)
@[simp] theorem tSet_mem (s : State) (c i : Nat) (e : BitVec 768) : (tSet s c i e).mem = s.mem := (rfl)
@[simp] theorem tSet_slots (s : State) (c i : Nat) (e : BitVec 768) : (tSet s c i e).slots = s.slots := (rfl)
@[simp] theorem tSet_smt (s : State) (c i : Nat) (e : BitVec 768) : (tSet s c i e).smt = s.smt := (rfl)
@[simp] theorem tSet_can (s : State) (c i : Nat) (e : BitVec 768) : (tSet s c i e).can = s.can := (rfl)
@[simp] theorem tSet_obj (s : State) (c i : Nat) (e : BitVec 768) : (tSet s c i e).obj = s.obj := (rfl)
@[simp] theorem tSet_tst (s : State) (c i : Nat) (e : BitVec 768) : (tSet s c i e).tst = s.tst := (rfl)
@[simp] theorem tSet_reqSeq (s : State) (c i : Nat) (e : BitVec 768) : (tSet s c i e).reqSeq = s.reqSeq := (rfl)
@[simp] theorem tSet_copyNext (s : State) (c i : Nat) (e : BitVec 768) : (tSet s c i e).copyNext = s.copyNext := (rfl)
@[simp] theorem tSet_copies (s : State) (c i : Nat) (e : BitVec 768) : (tSet s c i e).copies = s.copies := (rfl)
@[simp] theorem tSet_carriers (s : State) (c i : Nat) (e : BitVec 768) : (tSet s c i e).carriers = s.carriers := (rfl)
@[simp] theorem tSet_work2 (s : State) (c i : Nat) (e : BitVec 768) : (tSet s c i e).work2 = s.work2 := (rfl)
@[simp] theorem tSet_comps (s : State) (c i : Nat) (e : BitVec 768) : (tSet s c i e).comps = s.comps := (rfl)
@[simp] theorem tSet_runs (s : State) (c i : Nat) (e : BitVec 768) : (tSet s c i e).runs = s.runs := (rfl)
@[simp] theorem tSet_parked (s : State) (c i : Nat) (e : BitVec 768) : (tSet s c i e).parked = s.parked := (rfl)
@[simp] theorem tSet_desc (s : State) (c i : Nat) (e : BitVec 768) : (tSet s c i e).desc = s.desc := (rfl)
@[simp] theorem tSet_inForce (s : State) (c i : Nat) (e : BitVec 768) : (tSet s c i e).inForce = s.inForce := (rfl)
@[simp] theorem tSet_relocs (s : State) (c i : Nat) (e : BitVec 768) : (tSet s c i e).relocs = s.relocs := (rfl)
@[simp] theorem tSet_motLog (s : State) (c i : Nat) (e : BitVec 768) : (tSet s c i e).motLog = s.motLog := (rfl)
@[simp] theorem tSet_poolZero (s : State) (c i : Nat) (e : BitVec 768) : (tSet s c i e).poolZero = s.poolZero := (rfl)
@[simp] theorem tSet_scanHeld (s : State) (c i : Nat) (e : BitVec 768) : (tSet s c i e).scanHeld = s.scanHeld := (rfl)
@[simp] theorem tSet_serdes (s : State) (c i : Nat) (e : BitVec 768) : (tSet s c i e).serdes = s.serdes := (rfl)
@[simp] theorem tSet_cache (s : State) (c i : Nat) (e : BitVec 768) : (tSet s c i e).cache = s.cache := (rfl)
@[simp] theorem tSet_passes (s : State) (c i : Nat) (e : BitVec 768) : (tSet s c i e).passes = s.passes := (rfl)
@[simp] theorem tSet_sweepPauseAt (s : State) (c i : Nat) (e : BitVec 768) : (tSet s c i e).sweepPauseAt = s.sweepPauseAt := (rfl)
@[simp] theorem tSet_sweepRunFrom (s : State) (c i : Nat) (e : BitVec 768) : (tSet s c i e).sweepRunFrom = s.sweepRunFrom := (rfl)
@[simp] theorem tSet_mir (s : State) (c i : Nat) (e : BitVec 768) : (tSet s c i e).mir = s.mir := (rfl)
@[simp] theorem tSet_time (s : State) (c i : Nat) (e : BitVec 768) : (tSet s c i e).time = s.time := (rfl)
@[simp] theorem tSet_jnl (s : State) (c i : Nat) (e : BitVec 768) : (tSet s c i e).jnl = s.jnl := (rfl)
@[simp] theorem tSet_ring (s : State) (c i : Nat) (e : BitVec 768) : (tSet s c i e).ring = s.ring := (rfl)
@[simp] theorem tSet_mbx (s : State) (c i : Nat) (e : BitVec 768) : (tSet s c i e).mbx = s.mbx := (rfl)
@[simp] theorem tSet_script (s : State) (c i : Nat) (e : BitVec 768) : (tSet s c i e).script = s.script := (rfl)
@[simp] theorem tSet_irq (s : State) (c i : Nat) (e : BitVec 768) : (tSet s c i e).irq = s.irq := (rfl)
@[simp] theorem tSet_sw (s : State) (c i : Nat) (e : BitVec 768) : (tSet s c i e).sw = s.sw := (rfl)
@[simp] theorem tSet_eth (s : State) (c i : Nat) (e : BitVec 768) : (tSet s c i e).eth = s.eth := (rfl)
@[simp] theorem tSet_fwd (s : State) (c i : Nat) (e : BitVec 768) : (tSet s c i e).fwd = s.fwd := (rfl)
@[simp] theorem tSet_sec (s : State) (c i : Nat) (e : BitVec 768) : (tSet s c i e).sec = s.sec := (rfl)
@[simp] theorem tSet_dev (s : State) (c i : Nat) (e : BitVec 768) : (tSet s c i e).dev = s.dev := (rfl)
@[simp] theorem tSet_clk (s : State) (c i : Nat) (e : BitVec 768) : (tSet s c i e).clk = s.clk := (rfl)
@[simp] theorem tSet_boot (s : State) (c i : Nat) (e : BitVec 768) : (tSet s c i e).boot = s.boot := (rfl)
@[simp] theorem tSet_otp (s : State) (c i : Nat) (e : BitVec 768) : (tSet s c i e).otp = s.otp := (rfl)
@[simp] theorem tSet_flash (s : State) (c i : Nat) (e : BitVec 768) : (tSet s c i e).flash = s.flash := (rfl)
@[simp] theorem tSet_upd (s : State) (c i : Nat) (e : BitVec 768) : (tSet s c i e).upd = s.upd := (rfl)
@[simp] theorem tSet_lan (s : State) (c i : Nat) (e : BitVec 768) : (tSet s c i e).lan = s.lan := (rfl)
@[simp] theorem tSet_bud (s : State) (c i : Nat) (e : BitVec 768) : (tSet s c i e).bud = s.bud := (rfl)
@[simp] theorem tSet_pcie (s : State) (c i : Nat) (e : BitVec 768) : (tSet s c i e).pcie = s.pcie := (rfl)
@[simp] theorem tSet_ticks (s : State) (c i : Nat) (e : BitVec 768) : (tSet s c i e).ticks = s.ticks := (rfl)
@[simp] theorem tSet_free (s : State) (c i : Nat) (e : BitVec 768) : (tSet s c i e).free = s.free := (rfl)
@[simp] theorem tSet_house (s : State) (c i : Nat) (e : BitVec 768) : (tSet s c i e).house = s.house := (rfl)
@[simp] theorem tSet_out (s : State) (c i : Nat) (e : BitVec 768) : (tSet s c i e).out = s.out := (rfl)

/-! ### `shSet` -/

@[simp] theorem shSet_pending (s : State) (c i : Nat) (e : BitVec 768) : (shSet s c i e).pending = s.pending := (rfl)
@[simp] theorem shSet_regs (s : State) (c i : Nat) (e : BitVec 768) : (shSet s c i e).regs = s.regs := (rfl)
@[simp] theorem shSet_refActive (s : State) (c i : Nat) (e : BitVec 768) : (shSet s c i e).refActive = s.refActive := (rfl)
@[simp] theorem shSet_hiLatch (s : State) (c i : Nat) (e : BitVec 768) : (shSet s c i e).hiLatch = s.hiLatch := (rfl)
@[simp] theorem shSet_armed (s : State) (c i : Nat) (e : BitVec 768) : (shSet s c i e).armed = s.armed := (rfl)
@[simp] theorem shSet_tri (s : State) (c i : Nat) (e : BitVec 768) : (shSet s c i e).tri = s.tri := (rfl)
@[simp] theorem shSet_tbl (s : State) (c i : Nat) (e : BitVec 768) : (shSet s c i e).tbl = s.tbl := (rfl)
@[simp] theorem shSet_pay (s : State) (c i : Nat) (e : BitVec 768) : (shSet s c i e).pay = s.pay := (rfl)
@[simp] theorem shSet_mem (s : State) (c i : Nat) (e : BitVec 768) : (shSet s c i e).mem = s.mem := (rfl)
@[simp] theorem shSet_slots (s : State) (c i : Nat) (e : BitVec 768) : (shSet s c i e).slots = s.slots := (rfl)
@[simp] theorem shSet_smt (s : State) (c i : Nat) (e : BitVec 768) : (shSet s c i e).smt = s.smt := (rfl)
@[simp] theorem shSet_can (s : State) (c i : Nat) (e : BitVec 768) : (shSet s c i e).can = s.can := (rfl)
@[simp] theorem shSet_obj (s : State) (c i : Nat) (e : BitVec 768) : (shSet s c i e).obj = s.obj := (rfl)
@[simp] theorem shSet_tst (s : State) (c i : Nat) (e : BitVec 768) : (shSet s c i e).tst = s.tst := (rfl)
@[simp] theorem shSet_reqSeq (s : State) (c i : Nat) (e : BitVec 768) : (shSet s c i e).reqSeq = s.reqSeq := (rfl)
@[simp] theorem shSet_copyNext (s : State) (c i : Nat) (e : BitVec 768) : (shSet s c i e).copyNext = s.copyNext := (rfl)
@[simp] theorem shSet_copies (s : State) (c i : Nat) (e : BitVec 768) : (shSet s c i e).copies = s.copies := (rfl)
@[simp] theorem shSet_carriers (s : State) (c i : Nat) (e : BitVec 768) : (shSet s c i e).carriers = s.carriers := (rfl)
@[simp] theorem shSet_work2 (s : State) (c i : Nat) (e : BitVec 768) : (shSet s c i e).work2 = s.work2 := (rfl)
@[simp] theorem shSet_comps (s : State) (c i : Nat) (e : BitVec 768) : (shSet s c i e).comps = s.comps := (rfl)
@[simp] theorem shSet_runs (s : State) (c i : Nat) (e : BitVec 768) : (shSet s c i e).runs = s.runs := (rfl)
@[simp] theorem shSet_parked (s : State) (c i : Nat) (e : BitVec 768) : (shSet s c i e).parked = s.parked := (rfl)
@[simp] theorem shSet_desc (s : State) (c i : Nat) (e : BitVec 768) : (shSet s c i e).desc = s.desc := (rfl)
@[simp] theorem shSet_inForce (s : State) (c i : Nat) (e : BitVec 768) : (shSet s c i e).inForce = s.inForce := (rfl)
@[simp] theorem shSet_relocs (s : State) (c i : Nat) (e : BitVec 768) : (shSet s c i e).relocs = s.relocs := (rfl)
@[simp] theorem shSet_motLog (s : State) (c i : Nat) (e : BitVec 768) : (shSet s c i e).motLog = s.motLog := (rfl)
@[simp] theorem shSet_poolZero (s : State) (c i : Nat) (e : BitVec 768) : (shSet s c i e).poolZero = s.poolZero := (rfl)
@[simp] theorem shSet_scanHeld (s : State) (c i : Nat) (e : BitVec 768) : (shSet s c i e).scanHeld = s.scanHeld := (rfl)
@[simp] theorem shSet_serdes (s : State) (c i : Nat) (e : BitVec 768) : (shSet s c i e).serdes = s.serdes := (rfl)
@[simp] theorem shSet_cache (s : State) (c i : Nat) (e : BitVec 768) : (shSet s c i e).cache = s.cache := (rfl)
@[simp] theorem shSet_passes (s : State) (c i : Nat) (e : BitVec 768) : (shSet s c i e).passes = s.passes := (rfl)
@[simp] theorem shSet_sweepPauseAt (s : State) (c i : Nat) (e : BitVec 768) : (shSet s c i e).sweepPauseAt = s.sweepPauseAt := (rfl)
@[simp] theorem shSet_sweepRunFrom (s : State) (c i : Nat) (e : BitVec 768) : (shSet s c i e).sweepRunFrom = s.sweepRunFrom := (rfl)
@[simp] theorem shSet_mir (s : State) (c i : Nat) (e : BitVec 768) : (shSet s c i e).mir = s.mir := (rfl)
@[simp] theorem shSet_time (s : State) (c i : Nat) (e : BitVec 768) : (shSet s c i e).time = s.time := (rfl)
@[simp] theorem shSet_jnl (s : State) (c i : Nat) (e : BitVec 768) : (shSet s c i e).jnl = s.jnl := (rfl)
@[simp] theorem shSet_ring (s : State) (c i : Nat) (e : BitVec 768) : (shSet s c i e).ring = s.ring := (rfl)
@[simp] theorem shSet_mbx (s : State) (c i : Nat) (e : BitVec 768) : (shSet s c i e).mbx = s.mbx := (rfl)
@[simp] theorem shSet_script (s : State) (c i : Nat) (e : BitVec 768) : (shSet s c i e).script = s.script := (rfl)
@[simp] theorem shSet_irq (s : State) (c i : Nat) (e : BitVec 768) : (shSet s c i e).irq = s.irq := (rfl)
@[simp] theorem shSet_sw (s : State) (c i : Nat) (e : BitVec 768) : (shSet s c i e).sw = s.sw := (rfl)
@[simp] theorem shSet_eth (s : State) (c i : Nat) (e : BitVec 768) : (shSet s c i e).eth = s.eth := (rfl)
@[simp] theorem shSet_sec (s : State) (c i : Nat) (e : BitVec 768) : (shSet s c i e).sec = s.sec := (rfl)
@[simp] theorem shSet_dev (s : State) (c i : Nat) (e : BitVec 768) : (shSet s c i e).dev = s.dev := (rfl)
@[simp] theorem shSet_clk (s : State) (c i : Nat) (e : BitVec 768) : (shSet s c i e).clk = s.clk := (rfl)
@[simp] theorem shSet_boot (s : State) (c i : Nat) (e : BitVec 768) : (shSet s c i e).boot = s.boot := (rfl)
@[simp] theorem shSet_otp (s : State) (c i : Nat) (e : BitVec 768) : (shSet s c i e).otp = s.otp := (rfl)
@[simp] theorem shSet_flash (s : State) (c i : Nat) (e : BitVec 768) : (shSet s c i e).flash = s.flash := (rfl)
@[simp] theorem shSet_upd (s : State) (c i : Nat) (e : BitVec 768) : (shSet s c i e).upd = s.upd := (rfl)
@[simp] theorem shSet_lan (s : State) (c i : Nat) (e : BitVec 768) : (shSet s c i e).lan = s.lan := (rfl)
@[simp] theorem shSet_bud (s : State) (c i : Nat) (e : BitVec 768) : (shSet s c i e).bud = s.bud := (rfl)
@[simp] theorem shSet_pcie (s : State) (c i : Nat) (e : BitVec 768) : (shSet s c i e).pcie = s.pcie := (rfl)
@[simp] theorem shSet_ticks (s : State) (c i : Nat) (e : BitVec 768) : (shSet s c i e).ticks = s.ticks := (rfl)
@[simp] theorem shSet_free (s : State) (c i : Nat) (e : BitVec 768) : (shSet s c i e).free = s.free := (rfl)
@[simp] theorem shSet_house (s : State) (c i : Nat) (e : BitVec 768) : (shSet s c i e).house = s.house := (rfl)
@[simp] theorem shSet_out (s : State) (c i : Nat) (e : BitVec 768) : (shSet s c i e).out = s.out := (rfl)

/-! ### `setTri` -/

@[simp] theorem setTri_pending (s : State) (f i v : Nat) : (setTri s f i v).pending = s.pending := (rfl)
@[simp] theorem setTri_regs (s : State) (f i v : Nat) : (setTri s f i v).regs = s.regs := (rfl)
@[simp] theorem setTri_refActive (s : State) (f i v : Nat) : (setTri s f i v).refActive = s.refActive := (rfl)
@[simp] theorem setTri_hiLatch (s : State) (f i v : Nat) : (setTri s f i v).hiLatch = s.hiLatch := (rfl)
@[simp] theorem setTri_armed (s : State) (f i v : Nat) : (setTri s f i v).armed = s.armed := (rfl)
@[simp] theorem setTri_tbl (s : State) (f i v : Nat) : (setTri s f i v).tbl = s.tbl := (rfl)
@[simp] theorem setTri_shadow (s : State) (f i v : Nat) : (setTri s f i v).shadow = s.shadow := (rfl)
@[simp] theorem setTri_pay (s : State) (f i v : Nat) : (setTri s f i v).pay = s.pay := (rfl)
@[simp] theorem setTri_mem (s : State) (f i v : Nat) : (setTri s f i v).mem = s.mem := (rfl)
@[simp] theorem setTri_slots (s : State) (f i v : Nat) : (setTri s f i v).slots = s.slots := (rfl)
@[simp] theorem setTri_smt (s : State) (f i v : Nat) : (setTri s f i v).smt = s.smt := (rfl)
@[simp] theorem setTri_can (s : State) (f i v : Nat) : (setTri s f i v).can = s.can := (rfl)
@[simp] theorem setTri_obj (s : State) (f i v : Nat) : (setTri s f i v).obj = s.obj := (rfl)
@[simp] theorem setTri_tst (s : State) (f i v : Nat) : (setTri s f i v).tst = s.tst := (rfl)
@[simp] theorem setTri_reqSeq (s : State) (f i v : Nat) : (setTri s f i v).reqSeq = s.reqSeq := (rfl)
@[simp] theorem setTri_copyNext (s : State) (f i v : Nat) : (setTri s f i v).copyNext = s.copyNext := (rfl)
@[simp] theorem setTri_copies (s : State) (f i v : Nat) : (setTri s f i v).copies = s.copies := (rfl)
@[simp] theorem setTri_carriers (s : State) (f i v : Nat) : (setTri s f i v).carriers = s.carriers := (rfl)
@[simp] theorem setTri_work2 (s : State) (f i v : Nat) : (setTri s f i v).work2 = s.work2 := (rfl)
@[simp] theorem setTri_comps (s : State) (f i v : Nat) : (setTri s f i v).comps = s.comps := (rfl)
@[simp] theorem setTri_runs (s : State) (f i v : Nat) : (setTri s f i v).runs = s.runs := (rfl)
@[simp] theorem setTri_parked (s : State) (f i v : Nat) : (setTri s f i v).parked = s.parked := (rfl)
@[simp] theorem setTri_desc (s : State) (f i v : Nat) : (setTri s f i v).desc = s.desc := (rfl)
@[simp] theorem setTri_inForce (s : State) (f i v : Nat) : (setTri s f i v).inForce = s.inForce := (rfl)
@[simp] theorem setTri_relocs (s : State) (f i v : Nat) : (setTri s f i v).relocs = s.relocs := (rfl)
@[simp] theorem setTri_motLog (s : State) (f i v : Nat) : (setTri s f i v).motLog = s.motLog := (rfl)
@[simp] theorem setTri_poolZero (s : State) (f i v : Nat) : (setTri s f i v).poolZero = s.poolZero := (rfl)
@[simp] theorem setTri_scanHeld (s : State) (f i v : Nat) : (setTri s f i v).scanHeld = s.scanHeld := (rfl)
@[simp] theorem setTri_serdes (s : State) (f i v : Nat) : (setTri s f i v).serdes = s.serdes := (rfl)
@[simp] theorem setTri_cache (s : State) (f i v : Nat) : (setTri s f i v).cache = s.cache := (rfl)
@[simp] theorem setTri_passes (s : State) (f i v : Nat) : (setTri s f i v).passes = s.passes := (rfl)
@[simp] theorem setTri_sweepPauseAt (s : State) (f i v : Nat) : (setTri s f i v).sweepPauseAt = s.sweepPauseAt := (rfl)
@[simp] theorem setTri_sweepRunFrom (s : State) (f i v : Nat) : (setTri s f i v).sweepRunFrom = s.sweepRunFrom := (rfl)
@[simp] theorem setTri_mir (s : State) (f i v : Nat) : (setTri s f i v).mir = s.mir := (rfl)
@[simp] theorem setTri_time (s : State) (f i v : Nat) : (setTri s f i v).time = s.time := (rfl)
@[simp] theorem setTri_jnl (s : State) (f i v : Nat) : (setTri s f i v).jnl = s.jnl := (rfl)
@[simp] theorem setTri_ring (s : State) (f i v : Nat) : (setTri s f i v).ring = s.ring := (rfl)
@[simp] theorem setTri_mbx (s : State) (f i v : Nat) : (setTri s f i v).mbx = s.mbx := (rfl)
@[simp] theorem setTri_script (s : State) (f i v : Nat) : (setTri s f i v).script = s.script := (rfl)
@[simp] theorem setTri_irq (s : State) (f i v : Nat) : (setTri s f i v).irq = s.irq := (rfl)
@[simp] theorem setTri_sw (s : State) (f i v : Nat) : (setTri s f i v).sw = s.sw := (rfl)
@[simp] theorem setTri_eth (s : State) (f i v : Nat) : (setTri s f i v).eth = s.eth := (rfl)
@[simp] theorem setTri_fwd (s : State) (f i v : Nat) : (setTri s f i v).fwd = s.fwd := (rfl)
@[simp] theorem setTri_sec (s : State) (f i v : Nat) : (setTri s f i v).sec = s.sec := (rfl)
@[simp] theorem setTri_dev (s : State) (f i v : Nat) : (setTri s f i v).dev = s.dev := (rfl)
@[simp] theorem setTri_clk (s : State) (f i v : Nat) : (setTri s f i v).clk = s.clk := (rfl)
@[simp] theorem setTri_boot (s : State) (f i v : Nat) : (setTri s f i v).boot = s.boot := (rfl)
@[simp] theorem setTri_otp (s : State) (f i v : Nat) : (setTri s f i v).otp = s.otp := (rfl)
@[simp] theorem setTri_flash (s : State) (f i v : Nat) : (setTri s f i v).flash = s.flash := (rfl)
@[simp] theorem setTri_upd (s : State) (f i v : Nat) : (setTri s f i v).upd = s.upd := (rfl)
@[simp] theorem setTri_lan (s : State) (f i v : Nat) : (setTri s f i v).lan = s.lan := (rfl)
@[simp] theorem setTri_bud (s : State) (f i v : Nat) : (setTri s f i v).bud = s.bud := (rfl)
@[simp] theorem setTri_pcie (s : State) (f i v : Nat) : (setTri s f i v).pcie = s.pcie := (rfl)
@[simp] theorem setTri_ticks (s : State) (f i v : Nat) : (setTri s f i v).ticks = s.ticks := (rfl)
@[simp] theorem setTri_free (s : State) (f i v : Nat) : (setTri s f i v).free = s.free := (rfl)
@[simp] theorem setTri_house (s : State) (f i v : Nat) : (setTri s f i v).house = s.house := (rfl)
@[simp] theorem setTri_out (s : State) (f i v : Nat) : (setTri s f i v).out = s.out := (rfl)

/-! ### `setArmed` -/

@[simp] theorem setArmed_pending (s : State) (q : Requester) (b : Bool) : (setArmed s q b).pending = s.pending := (rfl)
@[simp] theorem setArmed_regs (s : State) (q : Requester) (b : Bool) : (setArmed s q b).regs = s.regs := (rfl)
@[simp] theorem setArmed_refActive (s : State) (q : Requester) (b : Bool) : (setArmed s q b).refActive = s.refActive := (rfl)
@[simp] theorem setArmed_hiLatch (s : State) (q : Requester) (b : Bool) : (setArmed s q b).hiLatch = s.hiLatch := (rfl)
@[simp] theorem setArmed_tri (s : State) (q : Requester) (b : Bool) : (setArmed s q b).tri = s.tri := (rfl)
@[simp] theorem setArmed_tbl (s : State) (q : Requester) (b : Bool) : (setArmed s q b).tbl = s.tbl := (rfl)
@[simp] theorem setArmed_shadow (s : State) (q : Requester) (b : Bool) : (setArmed s q b).shadow = s.shadow := (rfl)
@[simp] theorem setArmed_pay (s : State) (q : Requester) (b : Bool) : (setArmed s q b).pay = s.pay := (rfl)
@[simp] theorem setArmed_mem (s : State) (q : Requester) (b : Bool) : (setArmed s q b).mem = s.mem := (rfl)
@[simp] theorem setArmed_slots (s : State) (q : Requester) (b : Bool) : (setArmed s q b).slots = s.slots := (rfl)
@[simp] theorem setArmed_smt (s : State) (q : Requester) (b : Bool) : (setArmed s q b).smt = s.smt := (rfl)
@[simp] theorem setArmed_can (s : State) (q : Requester) (b : Bool) : (setArmed s q b).can = s.can := (rfl)
@[simp] theorem setArmed_obj (s : State) (q : Requester) (b : Bool) : (setArmed s q b).obj = s.obj := (rfl)
@[simp] theorem setArmed_tst (s : State) (q : Requester) (b : Bool) : (setArmed s q b).tst = s.tst := (rfl)
@[simp] theorem setArmed_reqSeq (s : State) (q : Requester) (b : Bool) : (setArmed s q b).reqSeq = s.reqSeq := (rfl)
@[simp] theorem setArmed_copyNext (s : State) (q : Requester) (b : Bool) : (setArmed s q b).copyNext = s.copyNext := (rfl)
@[simp] theorem setArmed_copies (s : State) (q : Requester) (b : Bool) : (setArmed s q b).copies = s.copies := (rfl)
@[simp] theorem setArmed_carriers (s : State) (q : Requester) (b : Bool) : (setArmed s q b).carriers = s.carriers := (rfl)
@[simp] theorem setArmed_work2 (s : State) (q : Requester) (b : Bool) : (setArmed s q b).work2 = s.work2 := (rfl)
@[simp] theorem setArmed_comps (s : State) (q : Requester) (b : Bool) : (setArmed s q b).comps = s.comps := (rfl)
@[simp] theorem setArmed_runs (s : State) (q : Requester) (b : Bool) : (setArmed s q b).runs = s.runs := (rfl)
@[simp] theorem setArmed_parked (s : State) (q : Requester) (b : Bool) : (setArmed s q b).parked = s.parked := (rfl)
@[simp] theorem setArmed_desc (s : State) (q : Requester) (b : Bool) : (setArmed s q b).desc = s.desc := (rfl)
@[simp] theorem setArmed_inForce (s : State) (q : Requester) (b : Bool) : (setArmed s q b).inForce = s.inForce := (rfl)
@[simp] theorem setArmed_relocs (s : State) (q : Requester) (b : Bool) : (setArmed s q b).relocs = s.relocs := (rfl)
@[simp] theorem setArmed_motLog (s : State) (q : Requester) (b : Bool) : (setArmed s q b).motLog = s.motLog := (rfl)
@[simp] theorem setArmed_poolZero (s : State) (q : Requester) (b : Bool) : (setArmed s q b).poolZero = s.poolZero := (rfl)
@[simp] theorem setArmed_scanHeld (s : State) (q : Requester) (b : Bool) : (setArmed s q b).scanHeld = s.scanHeld := (rfl)
@[simp] theorem setArmed_serdes (s : State) (q : Requester) (b : Bool) : (setArmed s q b).serdes = s.serdes := (rfl)
@[simp] theorem setArmed_cache (s : State) (q : Requester) (b : Bool) : (setArmed s q b).cache = s.cache := (rfl)
@[simp] theorem setArmed_passes (s : State) (q : Requester) (b : Bool) : (setArmed s q b).passes = s.passes := (rfl)
@[simp] theorem setArmed_sweepPauseAt (s : State) (q : Requester) (b : Bool) : (setArmed s q b).sweepPauseAt = s.sweepPauseAt := (rfl)
@[simp] theorem setArmed_sweepRunFrom (s : State) (q : Requester) (b : Bool) : (setArmed s q b).sweepRunFrom = s.sweepRunFrom := (rfl)
@[simp] theorem setArmed_mir (s : State) (q : Requester) (b : Bool) : (setArmed s q b).mir = s.mir := (rfl)
@[simp] theorem setArmed_time (s : State) (q : Requester) (b : Bool) : (setArmed s q b).time = s.time := (rfl)
@[simp] theorem setArmed_jnl (s : State) (q : Requester) (b : Bool) : (setArmed s q b).jnl = s.jnl := (rfl)
@[simp] theorem setArmed_ring (s : State) (q : Requester) (b : Bool) : (setArmed s q b).ring = s.ring := (rfl)
@[simp] theorem setArmed_mbx (s : State) (q : Requester) (b : Bool) : (setArmed s q b).mbx = s.mbx := (rfl)
@[simp] theorem setArmed_script (s : State) (q : Requester) (b : Bool) : (setArmed s q b).script = s.script := (rfl)
@[simp] theorem setArmed_irq (s : State) (q : Requester) (b : Bool) : (setArmed s q b).irq = s.irq := (rfl)
@[simp] theorem setArmed_sw (s : State) (q : Requester) (b : Bool) : (setArmed s q b).sw = s.sw := (rfl)
@[simp] theorem setArmed_eth (s : State) (q : Requester) (b : Bool) : (setArmed s q b).eth = s.eth := (rfl)
@[simp] theorem setArmed_fwd (s : State) (q : Requester) (b : Bool) : (setArmed s q b).fwd = s.fwd := (rfl)
@[simp] theorem setArmed_sec (s : State) (q : Requester) (b : Bool) : (setArmed s q b).sec = s.sec := (rfl)
@[simp] theorem setArmed_dev (s : State) (q : Requester) (b : Bool) : (setArmed s q b).dev = s.dev := (rfl)
@[simp] theorem setArmed_clk (s : State) (q : Requester) (b : Bool) : (setArmed s q b).clk = s.clk := (rfl)
@[simp] theorem setArmed_boot (s : State) (q : Requester) (b : Bool) : (setArmed s q b).boot = s.boot := (rfl)
@[simp] theorem setArmed_otp (s : State) (q : Requester) (b : Bool) : (setArmed s q b).otp = s.otp := (rfl)
@[simp] theorem setArmed_flash (s : State) (q : Requester) (b : Bool) : (setArmed s q b).flash = s.flash := (rfl)
@[simp] theorem setArmed_upd (s : State) (q : Requester) (b : Bool) : (setArmed s q b).upd = s.upd := (rfl)
@[simp] theorem setArmed_lan (s : State) (q : Requester) (b : Bool) : (setArmed s q b).lan = s.lan := (rfl)
@[simp] theorem setArmed_bud (s : State) (q : Requester) (b : Bool) : (setArmed s q b).bud = s.bud := (rfl)
@[simp] theorem setArmed_pcie (s : State) (q : Requester) (b : Bool) : (setArmed s q b).pcie = s.pcie := (rfl)
@[simp] theorem setArmed_ticks (s : State) (q : Requester) (b : Bool) : (setArmed s q b).ticks = s.ticks := (rfl)
@[simp] theorem setArmed_free (s : State) (q : Requester) (b : Bool) : (setArmed s q b).free = s.free := (rfl)
@[simp] theorem setArmed_house (s : State) (q : Requester) (b : Bool) : (setArmed s q b).house = s.house := (rfl)
@[simp] theorem setArmed_out (s : State) (q : Requester) (b : Bool) : (setArmed s q b).out = s.out := (rfl)

/-! ### `send` -/

@[simp] theorem send_pending (s : State) (m : Out) : (send s m).pending = s.pending := (rfl)
@[simp] theorem send_regs (s : State) (m : Out) : (send s m).regs = s.regs := (rfl)
@[simp] theorem send_refActive (s : State) (m : Out) : (send s m).refActive = s.refActive := (rfl)
@[simp] theorem send_hiLatch (s : State) (m : Out) : (send s m).hiLatch = s.hiLatch := (rfl)
@[simp] theorem send_armed (s : State) (m : Out) : (send s m).armed = s.armed := (rfl)
@[simp] theorem send_tri (s : State) (m : Out) : (send s m).tri = s.tri := (rfl)
@[simp] theorem send_tbl (s : State) (m : Out) : (send s m).tbl = s.tbl := (rfl)
@[simp] theorem send_shadow (s : State) (m : Out) : (send s m).shadow = s.shadow := (rfl)
@[simp] theorem send_pay (s : State) (m : Out) : (send s m).pay = s.pay := (rfl)
@[simp] theorem send_mem (s : State) (m : Out) : (send s m).mem = s.mem := (rfl)
@[simp] theorem send_slots (s : State) (m : Out) : (send s m).slots = s.slots := (rfl)
@[simp] theorem send_smt (s : State) (m : Out) : (send s m).smt = s.smt := (rfl)
@[simp] theorem send_can (s : State) (m : Out) : (send s m).can = s.can := (rfl)
@[simp] theorem send_obj (s : State) (m : Out) : (send s m).obj = s.obj := (rfl)
@[simp] theorem send_tst (s : State) (m : Out) : (send s m).tst = s.tst := (rfl)
@[simp] theorem send_reqSeq (s : State) (m : Out) : (send s m).reqSeq = s.reqSeq := (rfl)
@[simp] theorem send_copyNext (s : State) (m : Out) : (send s m).copyNext = s.copyNext := (rfl)
@[simp] theorem send_copies (s : State) (m : Out) : (send s m).copies = s.copies := (rfl)
@[simp] theorem send_carriers (s : State) (m : Out) : (send s m).carriers = s.carriers := (rfl)
@[simp] theorem send_work2 (s : State) (m : Out) : (send s m).work2 = s.work2 := (rfl)
@[simp] theorem send_comps (s : State) (m : Out) : (send s m).comps = s.comps := (rfl)
@[simp] theorem send_runs (s : State) (m : Out) : (send s m).runs = s.runs := (rfl)
@[simp] theorem send_parked (s : State) (m : Out) : (send s m).parked = s.parked := (rfl)
@[simp] theorem send_desc (s : State) (m : Out) : (send s m).desc = s.desc := (rfl)
@[simp] theorem send_inForce (s : State) (m : Out) : (send s m).inForce = s.inForce := (rfl)
@[simp] theorem send_relocs (s : State) (m : Out) : (send s m).relocs = s.relocs := (rfl)
@[simp] theorem send_motLog (s : State) (m : Out) : (send s m).motLog = s.motLog := (rfl)
@[simp] theorem send_poolZero (s : State) (m : Out) : (send s m).poolZero = s.poolZero := (rfl)
@[simp] theorem send_scanHeld (s : State) (m : Out) : (send s m).scanHeld = s.scanHeld := (rfl)
@[simp] theorem send_serdes (s : State) (m : Out) : (send s m).serdes = s.serdes := (rfl)
@[simp] theorem send_cache (s : State) (m : Out) : (send s m).cache = s.cache := (rfl)
@[simp] theorem send_passes (s : State) (m : Out) : (send s m).passes = s.passes := (rfl)
@[simp] theorem send_sweepPauseAt (s : State) (m : Out) : (send s m).sweepPauseAt = s.sweepPauseAt := (rfl)
@[simp] theorem send_sweepRunFrom (s : State) (m : Out) : (send s m).sweepRunFrom = s.sweepRunFrom := (rfl)
@[simp] theorem send_mir (s : State) (m : Out) : (send s m).mir = s.mir := (rfl)
@[simp] theorem send_time (s : State) (m : Out) : (send s m).time = s.time := (rfl)
@[simp] theorem send_jnl (s : State) (m : Out) : (send s m).jnl = s.jnl := (rfl)
@[simp] theorem send_ring (s : State) (m : Out) : (send s m).ring = s.ring := (rfl)
@[simp] theorem send_mbx (s : State) (m : Out) : (send s m).mbx = s.mbx := (rfl)
@[simp] theorem send_script (s : State) (m : Out) : (send s m).script = s.script := (rfl)
@[simp] theorem send_irq (s : State) (m : Out) : (send s m).irq = s.irq := (rfl)
@[simp] theorem send_sw (s : State) (m : Out) : (send s m).sw = s.sw := (rfl)
@[simp] theorem send_eth (s : State) (m : Out) : (send s m).eth = s.eth := (rfl)
@[simp] theorem send_fwd (s : State) (m : Out) : (send s m).fwd = s.fwd := (rfl)
@[simp] theorem send_sec (s : State) (m : Out) : (send s m).sec = s.sec := (rfl)
@[simp] theorem send_dev (s : State) (m : Out) : (send s m).dev = s.dev := (rfl)
@[simp] theorem send_clk (s : State) (m : Out) : (send s m).clk = s.clk := (rfl)
@[simp] theorem send_boot (s : State) (m : Out) : (send s m).boot = s.boot := (rfl)
@[simp] theorem send_otp (s : State) (m : Out) : (send s m).otp = s.otp := (rfl)
@[simp] theorem send_flash (s : State) (m : Out) : (send s m).flash = s.flash := (rfl)
@[simp] theorem send_upd (s : State) (m : Out) : (send s m).upd = s.upd := (rfl)
@[simp] theorem send_lan (s : State) (m : Out) : (send s m).lan = s.lan := (rfl)
@[simp] theorem send_bud (s : State) (m : Out) : (send s m).bud = s.bud := (rfl)
@[simp] theorem send_pcie (s : State) (m : Out) : (send s m).pcie = s.pcie := (rfl)
@[simp] theorem send_ticks (s : State) (m : Out) : (send s m).ticks = s.ticks := (rfl)
@[simp] theorem send_free (s : State) (m : Out) : (send s m).free = s.free := (rfl)
@[simp] theorem send_house (s : State) (m : Out) : (send s m).house = s.house := (rfl)

/-! ### `houseSet` -/

@[simp] theorem houseSet_pending (s : State) (i v : Nat) : (houseSet s i v).pending = s.pending := (rfl)
@[simp] theorem houseSet_regs (s : State) (i v : Nat) : (houseSet s i v).regs = s.regs := (rfl)
@[simp] theorem houseSet_refActive (s : State) (i v : Nat) : (houseSet s i v).refActive = s.refActive := (rfl)
@[simp] theorem houseSet_hiLatch (s : State) (i v : Nat) : (houseSet s i v).hiLatch = s.hiLatch := (rfl)
@[simp] theorem houseSet_armed (s : State) (i v : Nat) : (houseSet s i v).armed = s.armed := (rfl)
@[simp] theorem houseSet_tri (s : State) (i v : Nat) : (houseSet s i v).tri = s.tri := (rfl)
@[simp] theorem houseSet_tbl (s : State) (i v : Nat) : (houseSet s i v).tbl = s.tbl := (rfl)
@[simp] theorem houseSet_shadow (s : State) (i v : Nat) : (houseSet s i v).shadow = s.shadow := (rfl)
@[simp] theorem houseSet_pay (s : State) (i v : Nat) : (houseSet s i v).pay = s.pay := (rfl)
@[simp] theorem houseSet_mem (s : State) (i v : Nat) : (houseSet s i v).mem = s.mem := (rfl)
@[simp] theorem houseSet_slots (s : State) (i v : Nat) : (houseSet s i v).slots = s.slots := (rfl)
@[simp] theorem houseSet_smt (s : State) (i v : Nat) : (houseSet s i v).smt = s.smt := (rfl)
@[simp] theorem houseSet_can (s : State) (i v : Nat) : (houseSet s i v).can = s.can := (rfl)
@[simp] theorem houseSet_obj (s : State) (i v : Nat) : (houseSet s i v).obj = s.obj := (rfl)
@[simp] theorem houseSet_tst (s : State) (i v : Nat) : (houseSet s i v).tst = s.tst := (rfl)
@[simp] theorem houseSet_reqSeq (s : State) (i v : Nat) : (houseSet s i v).reqSeq = s.reqSeq := (rfl)
@[simp] theorem houseSet_copyNext (s : State) (i v : Nat) : (houseSet s i v).copyNext = s.copyNext := (rfl)
@[simp] theorem houseSet_copies (s : State) (i v : Nat) : (houseSet s i v).copies = s.copies := (rfl)
@[simp] theorem houseSet_carriers (s : State) (i v : Nat) : (houseSet s i v).carriers = s.carriers := (rfl)
@[simp] theorem houseSet_work2 (s : State) (i v : Nat) : (houseSet s i v).work2 = s.work2 := (rfl)
@[simp] theorem houseSet_comps (s : State) (i v : Nat) : (houseSet s i v).comps = s.comps := (rfl)
@[simp] theorem houseSet_runs (s : State) (i v : Nat) : (houseSet s i v).runs = s.runs := (rfl)
@[simp] theorem houseSet_parked (s : State) (i v : Nat) : (houseSet s i v).parked = s.parked := (rfl)
@[simp] theorem houseSet_desc (s : State) (i v : Nat) : (houseSet s i v).desc = s.desc := (rfl)
@[simp] theorem houseSet_inForce (s : State) (i v : Nat) : (houseSet s i v).inForce = s.inForce := (rfl)
@[simp] theorem houseSet_relocs (s : State) (i v : Nat) : (houseSet s i v).relocs = s.relocs := (rfl)
@[simp] theorem houseSet_motLog (s : State) (i v : Nat) : (houseSet s i v).motLog = s.motLog := (rfl)
@[simp] theorem houseSet_poolZero (s : State) (i v : Nat) : (houseSet s i v).poolZero = s.poolZero := (rfl)
@[simp] theorem houseSet_scanHeld (s : State) (i v : Nat) : (houseSet s i v).scanHeld = s.scanHeld := (rfl)
@[simp] theorem houseSet_serdes (s : State) (i v : Nat) : (houseSet s i v).serdes = s.serdes := (rfl)
@[simp] theorem houseSet_cache (s : State) (i v : Nat) : (houseSet s i v).cache = s.cache := (rfl)
@[simp] theorem houseSet_passes (s : State) (i v : Nat) : (houseSet s i v).passes = s.passes := (rfl)
@[simp] theorem houseSet_sweepPauseAt (s : State) (i v : Nat) : (houseSet s i v).sweepPauseAt = s.sweepPauseAt := (rfl)
@[simp] theorem houseSet_sweepRunFrom (s : State) (i v : Nat) : (houseSet s i v).sweepRunFrom = s.sweepRunFrom := (rfl)
@[simp] theorem houseSet_mir (s : State) (i v : Nat) : (houseSet s i v).mir = s.mir := (rfl)
@[simp] theorem houseSet_time (s : State) (i v : Nat) : (houseSet s i v).time = s.time := (rfl)
@[simp] theorem houseSet_jnl (s : State) (i v : Nat) : (houseSet s i v).jnl = s.jnl := (rfl)
@[simp] theorem houseSet_ring (s : State) (i v : Nat) : (houseSet s i v).ring = s.ring := (rfl)
@[simp] theorem houseSet_mbx (s : State) (i v : Nat) : (houseSet s i v).mbx = s.mbx := (rfl)
@[simp] theorem houseSet_script (s : State) (i v : Nat) : (houseSet s i v).script = s.script := (rfl)
@[simp] theorem houseSet_irq (s : State) (i v : Nat) : (houseSet s i v).irq = s.irq := (rfl)
@[simp] theorem houseSet_sw (s : State) (i v : Nat) : (houseSet s i v).sw = s.sw := (rfl)
@[simp] theorem houseSet_eth (s : State) (i v : Nat) : (houseSet s i v).eth = s.eth := (rfl)
@[simp] theorem houseSet_fwd (s : State) (i v : Nat) : (houseSet s i v).fwd = s.fwd := (rfl)
@[simp] theorem houseSet_sec (s : State) (i v : Nat) : (houseSet s i v).sec = s.sec := (rfl)
@[simp] theorem houseSet_dev (s : State) (i v : Nat) : (houseSet s i v).dev = s.dev := (rfl)
@[simp] theorem houseSet_clk (s : State) (i v : Nat) : (houseSet s i v).clk = s.clk := (rfl)
@[simp] theorem houseSet_boot (s : State) (i v : Nat) : (houseSet s i v).boot = s.boot := (rfl)
@[simp] theorem houseSet_otp (s : State) (i v : Nat) : (houseSet s i v).otp = s.otp := (rfl)
@[simp] theorem houseSet_flash (s : State) (i v : Nat) : (houseSet s i v).flash = s.flash := (rfl)
@[simp] theorem houseSet_upd (s : State) (i v : Nat) : (houseSet s i v).upd = s.upd := (rfl)
@[simp] theorem houseSet_lan (s : State) (i v : Nat) : (houseSet s i v).lan = s.lan := (rfl)
@[simp] theorem houseSet_bud (s : State) (i v : Nat) : (houseSet s i v).bud = s.bud := (rfl)
@[simp] theorem houseSet_pcie (s : State) (i v : Nat) : (houseSet s i v).pcie = s.pcie := (rfl)
@[simp] theorem houseSet_ticks (s : State) (i v : Nat) : (houseSet s i v).ticks = s.ticks := (rfl)
@[simp] theorem houseSet_free (s : State) (i v : Nat) : (houseSet s i v).free = s.free := (rfl)
@[simp] theorem houseSet_out (s : State) (i v : Nat) : (houseSet s i v).out = s.out := (rfl)

/-! ### `setCopy` -/

@[simp] theorem setCopy_pending (s : State) (c : Nat) (x : PoolCopy) : (setCopy s c x).pending = s.pending := (rfl)
@[simp] theorem setCopy_regs (s : State) (c : Nat) (x : PoolCopy) : (setCopy s c x).regs = s.regs := (rfl)
@[simp] theorem setCopy_refActive (s : State) (c : Nat) (x : PoolCopy) : (setCopy s c x).refActive = s.refActive := (rfl)
@[simp] theorem setCopy_hiLatch (s : State) (c : Nat) (x : PoolCopy) : (setCopy s c x).hiLatch = s.hiLatch := (rfl)
@[simp] theorem setCopy_armed (s : State) (c : Nat) (x : PoolCopy) : (setCopy s c x).armed = s.armed := (rfl)
@[simp] theorem setCopy_tri (s : State) (c : Nat) (x : PoolCopy) : (setCopy s c x).tri = s.tri := (rfl)
@[simp] theorem setCopy_tbl (s : State) (c : Nat) (x : PoolCopy) : (setCopy s c x).tbl = s.tbl := (rfl)
@[simp] theorem setCopy_shadow (s : State) (c : Nat) (x : PoolCopy) : (setCopy s c x).shadow = s.shadow := (rfl)
@[simp] theorem setCopy_pay (s : State) (c : Nat) (x : PoolCopy) : (setCopy s c x).pay = s.pay := (rfl)
@[simp] theorem setCopy_mem (s : State) (c : Nat) (x : PoolCopy) : (setCopy s c x).mem = s.mem := (rfl)
@[simp] theorem setCopy_slots (s : State) (c : Nat) (x : PoolCopy) : (setCopy s c x).slots = s.slots := (rfl)
@[simp] theorem setCopy_smt (s : State) (c : Nat) (x : PoolCopy) : (setCopy s c x).smt = s.smt := (rfl)
@[simp] theorem setCopy_can (s : State) (c : Nat) (x : PoolCopy) : (setCopy s c x).can = s.can := (rfl)
@[simp] theorem setCopy_obj (s : State) (c : Nat) (x : PoolCopy) : (setCopy s c x).obj = s.obj := (rfl)
@[simp] theorem setCopy_tst (s : State) (c : Nat) (x : PoolCopy) : (setCopy s c x).tst = s.tst := (rfl)
@[simp] theorem setCopy_reqSeq (s : State) (c : Nat) (x : PoolCopy) : (setCopy s c x).reqSeq = s.reqSeq := (rfl)
@[simp] theorem setCopy_copyNext (s : State) (c : Nat) (x : PoolCopy) : (setCopy s c x).copyNext = s.copyNext := (rfl)
@[simp] theorem setCopy_carriers (s : State) (c : Nat) (x : PoolCopy) : (setCopy s c x).carriers = s.carriers := (rfl)
@[simp] theorem setCopy_work2 (s : State) (c : Nat) (x : PoolCopy) : (setCopy s c x).work2 = s.work2 := (rfl)
@[simp] theorem setCopy_comps (s : State) (c : Nat) (x : PoolCopy) : (setCopy s c x).comps = s.comps := (rfl)
@[simp] theorem setCopy_runs (s : State) (c : Nat) (x : PoolCopy) : (setCopy s c x).runs = s.runs := (rfl)
@[simp] theorem setCopy_parked (s : State) (c : Nat) (x : PoolCopy) : (setCopy s c x).parked = s.parked := (rfl)
@[simp] theorem setCopy_desc (s : State) (c : Nat) (x : PoolCopy) : (setCopy s c x).desc = s.desc := (rfl)
@[simp] theorem setCopy_inForce (s : State) (c : Nat) (x : PoolCopy) : (setCopy s c x).inForce = s.inForce := (rfl)
@[simp] theorem setCopy_relocs (s : State) (c : Nat) (x : PoolCopy) : (setCopy s c x).relocs = s.relocs := (rfl)
@[simp] theorem setCopy_motLog (s : State) (c : Nat) (x : PoolCopy) : (setCopy s c x).motLog = s.motLog := (rfl)
@[simp] theorem setCopy_poolZero (s : State) (c : Nat) (x : PoolCopy) : (setCopy s c x).poolZero = s.poolZero := (rfl)
@[simp] theorem setCopy_scanHeld (s : State) (c : Nat) (x : PoolCopy) : (setCopy s c x).scanHeld = s.scanHeld := (rfl)
@[simp] theorem setCopy_serdes (s : State) (c : Nat) (x : PoolCopy) : (setCopy s c x).serdes = s.serdes := (rfl)
@[simp] theorem setCopy_cache (s : State) (c : Nat) (x : PoolCopy) : (setCopy s c x).cache = s.cache := (rfl)
@[simp] theorem setCopy_passes (s : State) (c : Nat) (x : PoolCopy) : (setCopy s c x).passes = s.passes := (rfl)
@[simp] theorem setCopy_sweepPauseAt (s : State) (c : Nat) (x : PoolCopy) : (setCopy s c x).sweepPauseAt = s.sweepPauseAt := (rfl)
@[simp] theorem setCopy_sweepRunFrom (s : State) (c : Nat) (x : PoolCopy) : (setCopy s c x).sweepRunFrom = s.sweepRunFrom := (rfl)
@[simp] theorem setCopy_mir (s : State) (c : Nat) (x : PoolCopy) : (setCopy s c x).mir = s.mir := (rfl)
@[simp] theorem setCopy_time (s : State) (c : Nat) (x : PoolCopy) : (setCopy s c x).time = s.time := (rfl)
@[simp] theorem setCopy_jnl (s : State) (c : Nat) (x : PoolCopy) : (setCopy s c x).jnl = s.jnl := (rfl)
@[simp] theorem setCopy_ring (s : State) (c : Nat) (x : PoolCopy) : (setCopy s c x).ring = s.ring := (rfl)
@[simp] theorem setCopy_mbx (s : State) (c : Nat) (x : PoolCopy) : (setCopy s c x).mbx = s.mbx := (rfl)
@[simp] theorem setCopy_script (s : State) (c : Nat) (x : PoolCopy) : (setCopy s c x).script = s.script := (rfl)
@[simp] theorem setCopy_irq (s : State) (c : Nat) (x : PoolCopy) : (setCopy s c x).irq = s.irq := (rfl)
@[simp] theorem setCopy_sw (s : State) (c : Nat) (x : PoolCopy) : (setCopy s c x).sw = s.sw := (rfl)
@[simp] theorem setCopy_eth (s : State) (c : Nat) (x : PoolCopy) : (setCopy s c x).eth = s.eth := (rfl)
@[simp] theorem setCopy_fwd (s : State) (c : Nat) (x : PoolCopy) : (setCopy s c x).fwd = s.fwd := (rfl)
@[simp] theorem setCopy_sec (s : State) (c : Nat) (x : PoolCopy) : (setCopy s c x).sec = s.sec := (rfl)
@[simp] theorem setCopy_dev (s : State) (c : Nat) (x : PoolCopy) : (setCopy s c x).dev = s.dev := (rfl)
@[simp] theorem setCopy_clk (s : State) (c : Nat) (x : PoolCopy) : (setCopy s c x).clk = s.clk := (rfl)
@[simp] theorem setCopy_boot (s : State) (c : Nat) (x : PoolCopy) : (setCopy s c x).boot = s.boot := (rfl)
@[simp] theorem setCopy_otp (s : State) (c : Nat) (x : PoolCopy) : (setCopy s c x).otp = s.otp := (rfl)
@[simp] theorem setCopy_flash (s : State) (c : Nat) (x : PoolCopy) : (setCopy s c x).flash = s.flash := (rfl)
@[simp] theorem setCopy_upd (s : State) (c : Nat) (x : PoolCopy) : (setCopy s c x).upd = s.upd := (rfl)
@[simp] theorem setCopy_lan (s : State) (c : Nat) (x : PoolCopy) : (setCopy s c x).lan = s.lan := (rfl)
@[simp] theorem setCopy_bud (s : State) (c : Nat) (x : PoolCopy) : (setCopy s c x).bud = s.bud := (rfl)
@[simp] theorem setCopy_pcie (s : State) (c : Nat) (x : PoolCopy) : (setCopy s c x).pcie = s.pcie := (rfl)
@[simp] theorem setCopy_ticks (s : State) (c : Nat) (x : PoolCopy) : (setCopy s c x).ticks = s.ticks := (rfl)
@[simp] theorem setCopy_free (s : State) (c : Nat) (x : PoolCopy) : (setCopy s c x).free = s.free := (rfl)
@[simp] theorem setCopy_house (s : State) (c : Nat) (x : PoolCopy) : (setCopy s c x).house = s.house := (rfl)
@[simp] theorem setCopy_out (s : State) (c : Nat) (x : PoolCopy) : (setCopy s c x).out = s.out := (rfl)

/-! ### `settle` -/

@[simp] theorem settle_pending (s : State) : (settle s).pending = s.pending := (rfl)
@[simp] theorem settle_regs (s : State) : (settle s).regs = s.regs := (rfl)
@[simp] theorem settle_refActive (s : State) : (settle s).refActive = s.refActive := (rfl)
@[simp] theorem settle_hiLatch (s : State) : (settle s).hiLatch = s.hiLatch := (rfl)
@[simp] theorem settle_armed (s : State) : (settle s).armed = s.armed := (rfl)
@[simp] theorem settle_tri (s : State) : (settle s).tri = s.tri := (rfl)
@[simp] theorem settle_tbl (s : State) : (settle s).tbl = s.tbl := (rfl)
@[simp] theorem settle_shadow (s : State) : (settle s).shadow = s.shadow := (rfl)
@[simp] theorem settle_pay (s : State) : (settle s).pay = s.pay := (rfl)
@[simp] theorem settle_mem (s : State) : (settle s).mem = s.mem := (rfl)
@[simp] theorem settle_slots (s : State) : (settle s).slots = s.slots := (rfl)
@[simp] theorem settle_smt (s : State) : (settle s).smt = s.smt := (rfl)
@[simp] theorem settle_can (s : State) : (settle s).can = s.can := (rfl)
@[simp] theorem settle_obj (s : State) : (settle s).obj = s.obj := (rfl)
@[simp] theorem settle_tst (s : State) : (settle s).tst = s.tst := (rfl)
@[simp] theorem settle_reqSeq (s : State) : (settle s).reqSeq = s.reqSeq := (rfl)
@[simp] theorem settle_copyNext (s : State) : (settle s).copyNext = s.copyNext := (rfl)
@[simp] theorem settle_copies (s : State) : (settle s).copies = s.copies := (rfl)
@[simp] theorem settle_carriers (s : State) : (settle s).carriers = s.carriers := (rfl)
@[simp] theorem settle_work2 (s : State) : (settle s).work2 = s.work2 := (rfl)
@[simp] theorem settle_comps (s : State) : (settle s).comps = s.comps := (rfl)
@[simp] theorem settle_runs (s : State) : (settle s).runs = s.runs := (rfl)
@[simp] theorem settle_parked (s : State) : (settle s).parked = s.parked := (rfl)
@[simp] theorem settle_desc (s : State) : (settle s).desc = s.desc := (rfl)
@[simp] theorem settle_inForce (s : State) : (settle s).inForce = s.inForce := (rfl)
@[simp] theorem settle_relocs (s : State) : (settle s).relocs = s.relocs := (rfl)
@[simp] theorem settle_motLog (s : State) : (settle s).motLog = s.motLog := (rfl)
@[simp] theorem settle_poolZero (s : State) : (settle s).poolZero = s.poolZero := (rfl)
@[simp] theorem settle_scanHeld (s : State) : (settle s).scanHeld = s.scanHeld := (rfl)
@[simp] theorem settle_serdes (s : State) : (settle s).serdes = s.serdes := (rfl)
@[simp] theorem settle_cache (s : State) : (settle s).cache = s.cache := (rfl)
@[simp] theorem settle_passes (s : State) : (settle s).passes = s.passes := (rfl)
@[simp] theorem settle_sweepPauseAt (s : State) : (settle s).sweepPauseAt = s.sweepPauseAt := (rfl)
@[simp] theorem settle_sweepRunFrom (s : State) : (settle s).sweepRunFrom = s.sweepRunFrom := (rfl)
@[simp] theorem settle_mir (s : State) : (settle s).mir = s.mir := (rfl)
@[simp] theorem settle_time (s : State) : (settle s).time = s.time := (rfl)
@[simp] theorem settle_jnl (s : State) : (settle s).jnl = s.jnl := (rfl)
@[simp] theorem settle_ring (s : State) : (settle s).ring = s.ring := (rfl)
@[simp] theorem settle_mbx (s : State) : (settle s).mbx = s.mbx := (rfl)
@[simp] theorem settle_script (s : State) : (settle s).script = s.script := (rfl)
@[simp] theorem settle_sw (s : State) : (settle s).sw = s.sw := (rfl)
@[simp] theorem settle_eth (s : State) : (settle s).eth = s.eth := (rfl)
@[simp] theorem settle_fwd (s : State) : (settle s).fwd = s.fwd := (rfl)
@[simp] theorem settle_sec (s : State) : (settle s).sec = s.sec := (rfl)
@[simp] theorem settle_dev (s : State) : (settle s).dev = s.dev := (rfl)
@[simp] theorem settle_clk (s : State) : (settle s).clk = s.clk := (rfl)
@[simp] theorem settle_boot (s : State) : (settle s).boot = s.boot := (rfl)
@[simp] theorem settle_otp (s : State) : (settle s).otp = s.otp := (rfl)
@[simp] theorem settle_flash (s : State) : (settle s).flash = s.flash := (rfl)
@[simp] theorem settle_upd (s : State) : (settle s).upd = s.upd := (rfl)
@[simp] theorem settle_lan (s : State) : (settle s).lan = s.lan := (rfl)
@[simp] theorem settle_bud (s : State) : (settle s).bud = s.bud := (rfl)
@[simp] theorem settle_pcie (s : State) : (settle s).pcie = s.pcie := (rfl)
@[simp] theorem settle_ticks (s : State) : (settle s).ticks = s.ticks := (rfl)
@[simp] theorem settle_free (s : State) : (settle s).free = s.free := (rfl)
@[simp] theorem settle_house (s : State) : (settle s).house = s.house := (rfl)

/-! ### `setF` -/

@[simp] theorem setF_pending (s : State) (o hi0 lo0 v : Nat) : (setF s o hi0 lo0 v).pending = s.pending := (rfl)
@[simp] theorem setF_refActive (s : State) (o hi0 lo0 v : Nat) : (setF s o hi0 lo0 v).refActive = s.refActive := (rfl)
@[simp] theorem setF_hiLatch (s : State) (o hi0 lo0 v : Nat) : (setF s o hi0 lo0 v).hiLatch = s.hiLatch := (rfl)
@[simp] theorem setF_armed (s : State) (o hi0 lo0 v : Nat) : (setF s o hi0 lo0 v).armed = s.armed := (rfl)
@[simp] theorem setF_tri (s : State) (o hi0 lo0 v : Nat) : (setF s o hi0 lo0 v).tri = s.tri := (rfl)
@[simp] theorem setF_tbl (s : State) (o hi0 lo0 v : Nat) : (setF s o hi0 lo0 v).tbl = s.tbl := (rfl)
@[simp] theorem setF_shadow (s : State) (o hi0 lo0 v : Nat) : (setF s o hi0 lo0 v).shadow = s.shadow := (rfl)
@[simp] theorem setF_pay (s : State) (o hi0 lo0 v : Nat) : (setF s o hi0 lo0 v).pay = s.pay := (rfl)
@[simp] theorem setF_mem (s : State) (o hi0 lo0 v : Nat) : (setF s o hi0 lo0 v).mem = s.mem := (rfl)
@[simp] theorem setF_slots (s : State) (o hi0 lo0 v : Nat) : (setF s o hi0 lo0 v).slots = s.slots := (rfl)
@[simp] theorem setF_smt (s : State) (o hi0 lo0 v : Nat) : (setF s o hi0 lo0 v).smt = s.smt := (rfl)
@[simp] theorem setF_can (s : State) (o hi0 lo0 v : Nat) : (setF s o hi0 lo0 v).can = s.can := (rfl)
@[simp] theorem setF_obj (s : State) (o hi0 lo0 v : Nat) : (setF s o hi0 lo0 v).obj = s.obj := (rfl)
@[simp] theorem setF_tst (s : State) (o hi0 lo0 v : Nat) : (setF s o hi0 lo0 v).tst = s.tst := (rfl)
@[simp] theorem setF_reqSeq (s : State) (o hi0 lo0 v : Nat) : (setF s o hi0 lo0 v).reqSeq = s.reqSeq := (rfl)
@[simp] theorem setF_copyNext (s : State) (o hi0 lo0 v : Nat) : (setF s o hi0 lo0 v).copyNext = s.copyNext := (rfl)
@[simp] theorem setF_copies (s : State) (o hi0 lo0 v : Nat) : (setF s o hi0 lo0 v).copies = s.copies := (rfl)
@[simp] theorem setF_carriers (s : State) (o hi0 lo0 v : Nat) : (setF s o hi0 lo0 v).carriers = s.carriers := (rfl)
@[simp] theorem setF_work2 (s : State) (o hi0 lo0 v : Nat) : (setF s o hi0 lo0 v).work2 = s.work2 := (rfl)
@[simp] theorem setF_comps (s : State) (o hi0 lo0 v : Nat) : (setF s o hi0 lo0 v).comps = s.comps := (rfl)
@[simp] theorem setF_runs (s : State) (o hi0 lo0 v : Nat) : (setF s o hi0 lo0 v).runs = s.runs := (rfl)
@[simp] theorem setF_parked (s : State) (o hi0 lo0 v : Nat) : (setF s o hi0 lo0 v).parked = s.parked := (rfl)
@[simp] theorem setF_desc (s : State) (o hi0 lo0 v : Nat) : (setF s o hi0 lo0 v).desc = s.desc := (rfl)
@[simp] theorem setF_inForce (s : State) (o hi0 lo0 v : Nat) : (setF s o hi0 lo0 v).inForce = s.inForce := (rfl)
@[simp] theorem setF_relocs (s : State) (o hi0 lo0 v : Nat) : (setF s o hi0 lo0 v).relocs = s.relocs := (rfl)
@[simp] theorem setF_motLog (s : State) (o hi0 lo0 v : Nat) : (setF s o hi0 lo0 v).motLog = s.motLog := (rfl)
@[simp] theorem setF_poolZero (s : State) (o hi0 lo0 v : Nat) : (setF s o hi0 lo0 v).poolZero = s.poolZero := (rfl)
@[simp] theorem setF_scanHeld (s : State) (o hi0 lo0 v : Nat) : (setF s o hi0 lo0 v).scanHeld = s.scanHeld := (rfl)
@[simp] theorem setF_serdes (s : State) (o hi0 lo0 v : Nat) : (setF s o hi0 lo0 v).serdes = s.serdes := (rfl)
@[simp] theorem setF_cache (s : State) (o hi0 lo0 v : Nat) : (setF s o hi0 lo0 v).cache = s.cache := (rfl)
@[simp] theorem setF_passes (s : State) (o hi0 lo0 v : Nat) : (setF s o hi0 lo0 v).passes = s.passes := (rfl)
@[simp] theorem setF_sweepPauseAt (s : State) (o hi0 lo0 v : Nat) : (setF s o hi0 lo0 v).sweepPauseAt = s.sweepPauseAt := (rfl)
@[simp] theorem setF_sweepRunFrom (s : State) (o hi0 lo0 v : Nat) : (setF s o hi0 lo0 v).sweepRunFrom = s.sweepRunFrom := (rfl)
@[simp] theorem setF_mir (s : State) (o hi0 lo0 v : Nat) : (setF s o hi0 lo0 v).mir = s.mir := (rfl)
@[simp] theorem setF_time (s : State) (o hi0 lo0 v : Nat) : (setF s o hi0 lo0 v).time = s.time := (rfl)
@[simp] theorem setF_jnl (s : State) (o hi0 lo0 v : Nat) : (setF s o hi0 lo0 v).jnl = s.jnl := (rfl)
@[simp] theorem setF_ring (s : State) (o hi0 lo0 v : Nat) : (setF s o hi0 lo0 v).ring = s.ring := (rfl)
@[simp] theorem setF_mbx (s : State) (o hi0 lo0 v : Nat) : (setF s o hi0 lo0 v).mbx = s.mbx := (rfl)
@[simp] theorem setF_script (s : State) (o hi0 lo0 v : Nat) : (setF s o hi0 lo0 v).script = s.script := (rfl)
@[simp] theorem setF_irq (s : State) (o hi0 lo0 v : Nat) : (setF s o hi0 lo0 v).irq = s.irq := (rfl)
@[simp] theorem setF_sw (s : State) (o hi0 lo0 v : Nat) : (setF s o hi0 lo0 v).sw = s.sw := (rfl)
@[simp] theorem setF_eth (s : State) (o hi0 lo0 v : Nat) : (setF s o hi0 lo0 v).eth = s.eth := (rfl)
@[simp] theorem setF_fwd (s : State) (o hi0 lo0 v : Nat) : (setF s o hi0 lo0 v).fwd = s.fwd := (rfl)
@[simp] theorem setF_sec (s : State) (o hi0 lo0 v : Nat) : (setF s o hi0 lo0 v).sec = s.sec := (rfl)
@[simp] theorem setF_dev (s : State) (o hi0 lo0 v : Nat) : (setF s o hi0 lo0 v).dev = s.dev := (rfl)
@[simp] theorem setF_clk (s : State) (o hi0 lo0 v : Nat) : (setF s o hi0 lo0 v).clk = s.clk := (rfl)
@[simp] theorem setF_boot (s : State) (o hi0 lo0 v : Nat) : (setF s o hi0 lo0 v).boot = s.boot := (rfl)
@[simp] theorem setF_otp (s : State) (o hi0 lo0 v : Nat) : (setF s o hi0 lo0 v).otp = s.otp := (rfl)
@[simp] theorem setF_flash (s : State) (o hi0 lo0 v : Nat) : (setF s o hi0 lo0 v).flash = s.flash := (rfl)
@[simp] theorem setF_upd (s : State) (o hi0 lo0 v : Nat) : (setF s o hi0 lo0 v).upd = s.upd := (rfl)
@[simp] theorem setF_lan (s : State) (o hi0 lo0 v : Nat) : (setF s o hi0 lo0 v).lan = s.lan := (rfl)
@[simp] theorem setF_bud (s : State) (o hi0 lo0 v : Nat) : (setF s o hi0 lo0 v).bud = s.bud := (rfl)
@[simp] theorem setF_pcie (s : State) (o hi0 lo0 v : Nat) : (setF s o hi0 lo0 v).pcie = s.pcie := (rfl)
@[simp] theorem setF_ticks (s : State) (o hi0 lo0 v : Nat) : (setF s o hi0 lo0 v).ticks = s.ticks := (rfl)
@[simp] theorem setF_free (s : State) (o hi0 lo0 v : Nat) : (setF s o hi0 lo0 v).free = s.free := (rfl)
@[simp] theorem setF_house (s : State) (o hi0 lo0 v : Nat) : (setF s o hi0 lo0 v).house = s.house := (rfl)
@[simp] theorem setF_out (s : State) (o hi0 lo0 v : Nat) : (setF s o hi0 lo0 v).out = s.out := (rfl)

/-! ### `setB` -/

@[simp] theorem setB_pending (s : State) (o b : Nat) (v : Bool) : (setB s o b v).pending = s.pending := (rfl)
@[simp] theorem setB_refActive (s : State) (o b : Nat) (v : Bool) : (setB s o b v).refActive = s.refActive := (rfl)
@[simp] theorem setB_hiLatch (s : State) (o b : Nat) (v : Bool) : (setB s o b v).hiLatch = s.hiLatch := (rfl)
@[simp] theorem setB_armed (s : State) (o b : Nat) (v : Bool) : (setB s o b v).armed = s.armed := (rfl)
@[simp] theorem setB_tri (s : State) (o b : Nat) (v : Bool) : (setB s o b v).tri = s.tri := (rfl)
@[simp] theorem setB_tbl (s : State) (o b : Nat) (v : Bool) : (setB s o b v).tbl = s.tbl := (rfl)
@[simp] theorem setB_shadow (s : State) (o b : Nat) (v : Bool) : (setB s o b v).shadow = s.shadow := (rfl)
@[simp] theorem setB_pay (s : State) (o b : Nat) (v : Bool) : (setB s o b v).pay = s.pay := (rfl)
@[simp] theorem setB_mem (s : State) (o b : Nat) (v : Bool) : (setB s o b v).mem = s.mem := (rfl)
@[simp] theorem setB_slots (s : State) (o b : Nat) (v : Bool) : (setB s o b v).slots = s.slots := (rfl)
@[simp] theorem setB_smt (s : State) (o b : Nat) (v : Bool) : (setB s o b v).smt = s.smt := (rfl)
@[simp] theorem setB_can (s : State) (o b : Nat) (v : Bool) : (setB s o b v).can = s.can := (rfl)
@[simp] theorem setB_obj (s : State) (o b : Nat) (v : Bool) : (setB s o b v).obj = s.obj := (rfl)
@[simp] theorem setB_tst (s : State) (o b : Nat) (v : Bool) : (setB s o b v).tst = s.tst := (rfl)
@[simp] theorem setB_reqSeq (s : State) (o b : Nat) (v : Bool) : (setB s o b v).reqSeq = s.reqSeq := (rfl)
@[simp] theorem setB_copyNext (s : State) (o b : Nat) (v : Bool) : (setB s o b v).copyNext = s.copyNext := (rfl)
@[simp] theorem setB_copies (s : State) (o b : Nat) (v : Bool) : (setB s o b v).copies = s.copies := (rfl)
@[simp] theorem setB_carriers (s : State) (o b : Nat) (v : Bool) : (setB s o b v).carriers = s.carriers := (rfl)
@[simp] theorem setB_work2 (s : State) (o b : Nat) (v : Bool) : (setB s o b v).work2 = s.work2 := (rfl)
@[simp] theorem setB_comps (s : State) (o b : Nat) (v : Bool) : (setB s o b v).comps = s.comps := (rfl)
@[simp] theorem setB_runs (s : State) (o b : Nat) (v : Bool) : (setB s o b v).runs = s.runs := (rfl)
@[simp] theorem setB_parked (s : State) (o b : Nat) (v : Bool) : (setB s o b v).parked = s.parked := (rfl)
@[simp] theorem setB_desc (s : State) (o b : Nat) (v : Bool) : (setB s o b v).desc = s.desc := (rfl)
@[simp] theorem setB_inForce (s : State) (o b : Nat) (v : Bool) : (setB s o b v).inForce = s.inForce := (rfl)
@[simp] theorem setB_relocs (s : State) (o b : Nat) (v : Bool) : (setB s o b v).relocs = s.relocs := (rfl)
@[simp] theorem setB_motLog (s : State) (o b : Nat) (v : Bool) : (setB s o b v).motLog = s.motLog := (rfl)
@[simp] theorem setB_poolZero (s : State) (o b : Nat) (v : Bool) : (setB s o b v).poolZero = s.poolZero := (rfl)
@[simp] theorem setB_scanHeld (s : State) (o b : Nat) (v : Bool) : (setB s o b v).scanHeld = s.scanHeld := (rfl)
@[simp] theorem setB_serdes (s : State) (o b : Nat) (v : Bool) : (setB s o b v).serdes = s.serdes := (rfl)
@[simp] theorem setB_cache (s : State) (o b : Nat) (v : Bool) : (setB s o b v).cache = s.cache := (rfl)
@[simp] theorem setB_passes (s : State) (o b : Nat) (v : Bool) : (setB s o b v).passes = s.passes := (rfl)
@[simp] theorem setB_sweepPauseAt (s : State) (o b : Nat) (v : Bool) : (setB s o b v).sweepPauseAt = s.sweepPauseAt := (rfl)
@[simp] theorem setB_sweepRunFrom (s : State) (o b : Nat) (v : Bool) : (setB s o b v).sweepRunFrom = s.sweepRunFrom := (rfl)
@[simp] theorem setB_mir (s : State) (o b : Nat) (v : Bool) : (setB s o b v).mir = s.mir := (rfl)
@[simp] theorem setB_time (s : State) (o b : Nat) (v : Bool) : (setB s o b v).time = s.time := (rfl)
@[simp] theorem setB_jnl (s : State) (o b : Nat) (v : Bool) : (setB s o b v).jnl = s.jnl := (rfl)
@[simp] theorem setB_ring (s : State) (o b : Nat) (v : Bool) : (setB s o b v).ring = s.ring := (rfl)
@[simp] theorem setB_mbx (s : State) (o b : Nat) (v : Bool) : (setB s o b v).mbx = s.mbx := (rfl)
@[simp] theorem setB_script (s : State) (o b : Nat) (v : Bool) : (setB s o b v).script = s.script := (rfl)
@[simp] theorem setB_irq (s : State) (o b : Nat) (v : Bool) : (setB s o b v).irq = s.irq := (rfl)
@[simp] theorem setB_sw (s : State) (o b : Nat) (v : Bool) : (setB s o b v).sw = s.sw := (rfl)
@[simp] theorem setB_eth (s : State) (o b : Nat) (v : Bool) : (setB s o b v).eth = s.eth := (rfl)
@[simp] theorem setB_fwd (s : State) (o b : Nat) (v : Bool) : (setB s o b v).fwd = s.fwd := (rfl)
@[simp] theorem setB_sec (s : State) (o b : Nat) (v : Bool) : (setB s o b v).sec = s.sec := (rfl)
@[simp] theorem setB_dev (s : State) (o b : Nat) (v : Bool) : (setB s o b v).dev = s.dev := (rfl)
@[simp] theorem setB_clk (s : State) (o b : Nat) (v : Bool) : (setB s o b v).clk = s.clk := (rfl)
@[simp] theorem setB_boot (s : State) (o b : Nat) (v : Bool) : (setB s o b v).boot = s.boot := (rfl)
@[simp] theorem setB_otp (s : State) (o b : Nat) (v : Bool) : (setB s o b v).otp = s.otp := (rfl)
@[simp] theorem setB_flash (s : State) (o b : Nat) (v : Bool) : (setB s o b v).flash = s.flash := (rfl)
@[simp] theorem setB_upd (s : State) (o b : Nat) (v : Bool) : (setB s o b v).upd = s.upd := (rfl)
@[simp] theorem setB_lan (s : State) (o b : Nat) (v : Bool) : (setB s o b v).lan = s.lan := (rfl)
@[simp] theorem setB_bud (s : State) (o b : Nat) (v : Bool) : (setB s o b v).bud = s.bud := (rfl)
@[simp] theorem setB_pcie (s : State) (o b : Nat) (v : Bool) : (setB s o b v).pcie = s.pcie := (rfl)
@[simp] theorem setB_ticks (s : State) (o b : Nat) (v : Bool) : (setB s o b v).ticks = s.ticks := (rfl)
@[simp] theorem setB_free (s : State) (o b : Nat) (v : Bool) : (setB s o b v).free = s.free := (rfl)
@[simp] theorem setB_house (s : State) (o b : Nat) (v : Bool) : (setB s o b v).house = s.house := (rfl)
@[simp] theorem setB_out (s : State) (o b : Nat) (v : Bool) : (setB s o b v).out = s.out := (rfl)

/-! ### `raise` -/

@[simp] theorem raise_pending (s : State) (o b : Nat) : (raise s o b).pending = s.pending := (rfl)
@[simp] theorem raise_refActive (s : State) (o b : Nat) : (raise s o b).refActive = s.refActive := (rfl)
@[simp] theorem raise_hiLatch (s : State) (o b : Nat) : (raise s o b).hiLatch = s.hiLatch := (rfl)
@[simp] theorem raise_armed (s : State) (o b : Nat) : (raise s o b).armed = s.armed := (rfl)
@[simp] theorem raise_tri (s : State) (o b : Nat) : (raise s o b).tri = s.tri := (rfl)
@[simp] theorem raise_tbl (s : State) (o b : Nat) : (raise s o b).tbl = s.tbl := (rfl)
@[simp] theorem raise_shadow (s : State) (o b : Nat) : (raise s o b).shadow = s.shadow := (rfl)
@[simp] theorem raise_pay (s : State) (o b : Nat) : (raise s o b).pay = s.pay := (rfl)
@[simp] theorem raise_mem (s : State) (o b : Nat) : (raise s o b).mem = s.mem := (rfl)
@[simp] theorem raise_slots (s : State) (o b : Nat) : (raise s o b).slots = s.slots := (rfl)
@[simp] theorem raise_smt (s : State) (o b : Nat) : (raise s o b).smt = s.smt := (rfl)
@[simp] theorem raise_can (s : State) (o b : Nat) : (raise s o b).can = s.can := (rfl)
@[simp] theorem raise_obj (s : State) (o b : Nat) : (raise s o b).obj = s.obj := (rfl)
@[simp] theorem raise_tst (s : State) (o b : Nat) : (raise s o b).tst = s.tst := (rfl)
@[simp] theorem raise_reqSeq (s : State) (o b : Nat) : (raise s o b).reqSeq = s.reqSeq := (rfl)
@[simp] theorem raise_copyNext (s : State) (o b : Nat) : (raise s o b).copyNext = s.copyNext := (rfl)
@[simp] theorem raise_copies (s : State) (o b : Nat) : (raise s o b).copies = s.copies := (rfl)
@[simp] theorem raise_carriers (s : State) (o b : Nat) : (raise s o b).carriers = s.carriers := (rfl)
@[simp] theorem raise_work2 (s : State) (o b : Nat) : (raise s o b).work2 = s.work2 := (rfl)
@[simp] theorem raise_comps (s : State) (o b : Nat) : (raise s o b).comps = s.comps := (rfl)
@[simp] theorem raise_runs (s : State) (o b : Nat) : (raise s o b).runs = s.runs := (rfl)
@[simp] theorem raise_parked (s : State) (o b : Nat) : (raise s o b).parked = s.parked := (rfl)
@[simp] theorem raise_desc (s : State) (o b : Nat) : (raise s o b).desc = s.desc := (rfl)
@[simp] theorem raise_inForce (s : State) (o b : Nat) : (raise s o b).inForce = s.inForce := (rfl)
@[simp] theorem raise_relocs (s : State) (o b : Nat) : (raise s o b).relocs = s.relocs := (rfl)
@[simp] theorem raise_motLog (s : State) (o b : Nat) : (raise s o b).motLog = s.motLog := (rfl)
@[simp] theorem raise_poolZero (s : State) (o b : Nat) : (raise s o b).poolZero = s.poolZero := (rfl)
@[simp] theorem raise_scanHeld (s : State) (o b : Nat) : (raise s o b).scanHeld = s.scanHeld := (rfl)
@[simp] theorem raise_serdes (s : State) (o b : Nat) : (raise s o b).serdes = s.serdes := (rfl)
@[simp] theorem raise_cache (s : State) (o b : Nat) : (raise s o b).cache = s.cache := (rfl)
@[simp] theorem raise_passes (s : State) (o b : Nat) : (raise s o b).passes = s.passes := (rfl)
@[simp] theorem raise_sweepPauseAt (s : State) (o b : Nat) : (raise s o b).sweepPauseAt = s.sweepPauseAt := (rfl)
@[simp] theorem raise_sweepRunFrom (s : State) (o b : Nat) : (raise s o b).sweepRunFrom = s.sweepRunFrom := (rfl)
@[simp] theorem raise_mir (s : State) (o b : Nat) : (raise s o b).mir = s.mir := (rfl)
@[simp] theorem raise_time (s : State) (o b : Nat) : (raise s o b).time = s.time := (rfl)
@[simp] theorem raise_jnl (s : State) (o b : Nat) : (raise s o b).jnl = s.jnl := (rfl)
@[simp] theorem raise_ring (s : State) (o b : Nat) : (raise s o b).ring = s.ring := (rfl)
@[simp] theorem raise_mbx (s : State) (o b : Nat) : (raise s o b).mbx = s.mbx := (rfl)
@[simp] theorem raise_script (s : State) (o b : Nat) : (raise s o b).script = s.script := (rfl)
@[simp] theorem raise_irq (s : State) (o b : Nat) : (raise s o b).irq = s.irq := (rfl)
@[simp] theorem raise_sw (s : State) (o b : Nat) : (raise s o b).sw = s.sw := (rfl)
@[simp] theorem raise_eth (s : State) (o b : Nat) : (raise s o b).eth = s.eth := (rfl)
@[simp] theorem raise_fwd (s : State) (o b : Nat) : (raise s o b).fwd = s.fwd := (rfl)
@[simp] theorem raise_sec (s : State) (o b : Nat) : (raise s o b).sec = s.sec := (rfl)
@[simp] theorem raise_dev (s : State) (o b : Nat) : (raise s o b).dev = s.dev := (rfl)
@[simp] theorem raise_clk (s : State) (o b : Nat) : (raise s o b).clk = s.clk := (rfl)
@[simp] theorem raise_boot (s : State) (o b : Nat) : (raise s o b).boot = s.boot := (rfl)
@[simp] theorem raise_otp (s : State) (o b : Nat) : (raise s o b).otp = s.otp := (rfl)
@[simp] theorem raise_flash (s : State) (o b : Nat) : (raise s o b).flash = s.flash := (rfl)
@[simp] theorem raise_upd (s : State) (o b : Nat) : (raise s o b).upd = s.upd := (rfl)
@[simp] theorem raise_lan (s : State) (o b : Nat) : (raise s o b).lan = s.lan := (rfl)
@[simp] theorem raise_bud (s : State) (o b : Nat) : (raise s o b).bud = s.bud := (rfl)
@[simp] theorem raise_pcie (s : State) (o b : Nat) : (raise s o b).pcie = s.pcie := (rfl)
@[simp] theorem raise_ticks (s : State) (o b : Nat) : (raise s o b).ticks = s.ticks := (rfl)
@[simp] theorem raise_free (s : State) (o b : Nat) : (raise s o b).free = s.free := (rfl)
@[simp] theorem raise_house (s : State) (o b : Nat) : (raise s o b).house = s.house := (rfl)
@[simp] theorem raise_out (s : State) (o b : Nat) : (raise s o b).out = s.out := (rfl)

/-! ### `clearBits` -/

@[simp] theorem clearBits_pending (s : State) (o : Nat) (m : Word) : (clearBits s o m).pending = s.pending := (rfl)
@[simp] theorem clearBits_refActive (s : State) (o : Nat) (m : Word) : (clearBits s o m).refActive = s.refActive := (rfl)
@[simp] theorem clearBits_hiLatch (s : State) (o : Nat) (m : Word) : (clearBits s o m).hiLatch = s.hiLatch := (rfl)
@[simp] theorem clearBits_armed (s : State) (o : Nat) (m : Word) : (clearBits s o m).armed = s.armed := (rfl)
@[simp] theorem clearBits_tri (s : State) (o : Nat) (m : Word) : (clearBits s o m).tri = s.tri := (rfl)
@[simp] theorem clearBits_tbl (s : State) (o : Nat) (m : Word) : (clearBits s o m).tbl = s.tbl := (rfl)
@[simp] theorem clearBits_shadow (s : State) (o : Nat) (m : Word) : (clearBits s o m).shadow = s.shadow := (rfl)
@[simp] theorem clearBits_pay (s : State) (o : Nat) (m : Word) : (clearBits s o m).pay = s.pay := (rfl)
@[simp] theorem clearBits_mem (s : State) (o : Nat) (m : Word) : (clearBits s o m).mem = s.mem := (rfl)
@[simp] theorem clearBits_slots (s : State) (o : Nat) (m : Word) : (clearBits s o m).slots = s.slots := (rfl)
@[simp] theorem clearBits_smt (s : State) (o : Nat) (m : Word) : (clearBits s o m).smt = s.smt := (rfl)
@[simp] theorem clearBits_can (s : State) (o : Nat) (m : Word) : (clearBits s o m).can = s.can := (rfl)
@[simp] theorem clearBits_obj (s : State) (o : Nat) (m : Word) : (clearBits s o m).obj = s.obj := (rfl)
@[simp] theorem clearBits_tst (s : State) (o : Nat) (m : Word) : (clearBits s o m).tst = s.tst := (rfl)
@[simp] theorem clearBits_reqSeq (s : State) (o : Nat) (m : Word) : (clearBits s o m).reqSeq = s.reqSeq := (rfl)
@[simp] theorem clearBits_copyNext (s : State) (o : Nat) (m : Word) : (clearBits s o m).copyNext = s.copyNext := (rfl)
@[simp] theorem clearBits_copies (s : State) (o : Nat) (m : Word) : (clearBits s o m).copies = s.copies := (rfl)
@[simp] theorem clearBits_carriers (s : State) (o : Nat) (m : Word) : (clearBits s o m).carriers = s.carriers := (rfl)
@[simp] theorem clearBits_work2 (s : State) (o : Nat) (m : Word) : (clearBits s o m).work2 = s.work2 := (rfl)
@[simp] theorem clearBits_comps (s : State) (o : Nat) (m : Word) : (clearBits s o m).comps = s.comps := (rfl)
@[simp] theorem clearBits_runs (s : State) (o : Nat) (m : Word) : (clearBits s o m).runs = s.runs := (rfl)
@[simp] theorem clearBits_parked (s : State) (o : Nat) (m : Word) : (clearBits s o m).parked = s.parked := (rfl)
@[simp] theorem clearBits_desc (s : State) (o : Nat) (m : Word) : (clearBits s o m).desc = s.desc := (rfl)
@[simp] theorem clearBits_inForce (s : State) (o : Nat) (m : Word) : (clearBits s o m).inForce = s.inForce := (rfl)
@[simp] theorem clearBits_relocs (s : State) (o : Nat) (m : Word) : (clearBits s o m).relocs = s.relocs := (rfl)
@[simp] theorem clearBits_motLog (s : State) (o : Nat) (m : Word) : (clearBits s o m).motLog = s.motLog := (rfl)
@[simp] theorem clearBits_poolZero (s : State) (o : Nat) (m : Word) : (clearBits s o m).poolZero = s.poolZero := (rfl)
@[simp] theorem clearBits_scanHeld (s : State) (o : Nat) (m : Word) : (clearBits s o m).scanHeld = s.scanHeld := (rfl)
@[simp] theorem clearBits_serdes (s : State) (o : Nat) (m : Word) : (clearBits s o m).serdes = s.serdes := (rfl)
@[simp] theorem clearBits_cache (s : State) (o : Nat) (m : Word) : (clearBits s o m).cache = s.cache := (rfl)
@[simp] theorem clearBits_passes (s : State) (o : Nat) (m : Word) : (clearBits s o m).passes = s.passes := (rfl)
@[simp] theorem clearBits_sweepPauseAt (s : State) (o : Nat) (m : Word) : (clearBits s o m).sweepPauseAt = s.sweepPauseAt := (rfl)
@[simp] theorem clearBits_sweepRunFrom (s : State) (o : Nat) (m : Word) : (clearBits s o m).sweepRunFrom = s.sweepRunFrom := (rfl)
@[simp] theorem clearBits_mir (s : State) (o : Nat) (m : Word) : (clearBits s o m).mir = s.mir := (rfl)
@[simp] theorem clearBits_time (s : State) (o : Nat) (m : Word) : (clearBits s o m).time = s.time := (rfl)
@[simp] theorem clearBits_jnl (s : State) (o : Nat) (m : Word) : (clearBits s o m).jnl = s.jnl := (rfl)
@[simp] theorem clearBits_ring (s : State) (o : Nat) (m : Word) : (clearBits s o m).ring = s.ring := (rfl)
@[simp] theorem clearBits_mbx (s : State) (o : Nat) (m : Word) : (clearBits s o m).mbx = s.mbx := (rfl)
@[simp] theorem clearBits_script (s : State) (o : Nat) (m : Word) : (clearBits s o m).script = s.script := (rfl)
@[simp] theorem clearBits_irq (s : State) (o : Nat) (m : Word) : (clearBits s o m).irq = s.irq := (rfl)
@[simp] theorem clearBits_sw (s : State) (o : Nat) (m : Word) : (clearBits s o m).sw = s.sw := (rfl)
@[simp] theorem clearBits_eth (s : State) (o : Nat) (m : Word) : (clearBits s o m).eth = s.eth := (rfl)
@[simp] theorem clearBits_fwd (s : State) (o : Nat) (m : Word) : (clearBits s o m).fwd = s.fwd := (rfl)
@[simp] theorem clearBits_sec (s : State) (o : Nat) (m : Word) : (clearBits s o m).sec = s.sec := (rfl)
@[simp] theorem clearBits_dev (s : State) (o : Nat) (m : Word) : (clearBits s o m).dev = s.dev := (rfl)
@[simp] theorem clearBits_clk (s : State) (o : Nat) (m : Word) : (clearBits s o m).clk = s.clk := (rfl)
@[simp] theorem clearBits_boot (s : State) (o : Nat) (m : Word) : (clearBits s o m).boot = s.boot := (rfl)
@[simp] theorem clearBits_otp (s : State) (o : Nat) (m : Word) : (clearBits s o m).otp = s.otp := (rfl)
@[simp] theorem clearBits_flash (s : State) (o : Nat) (m : Word) : (clearBits s o m).flash = s.flash := (rfl)
@[simp] theorem clearBits_upd (s : State) (o : Nat) (m : Word) : (clearBits s o m).upd = s.upd := (rfl)
@[simp] theorem clearBits_lan (s : State) (o : Nat) (m : Word) : (clearBits s o m).lan = s.lan := (rfl)
@[simp] theorem clearBits_bud (s : State) (o : Nat) (m : Word) : (clearBits s o m).bud = s.bud := (rfl)
@[simp] theorem clearBits_pcie (s : State) (o : Nat) (m : Word) : (clearBits s o m).pcie = s.pcie := (rfl)
@[simp] theorem clearBits_ticks (s : State) (o : Nat) (m : Word) : (clearBits s o m).ticks = s.ticks := (rfl)
@[simp] theorem clearBits_free (s : State) (o : Nat) (m : Word) : (clearBits s o m).free = s.free := (rfl)
@[simp] theorem clearBits_house (s : State) (o : Nat) (m : Word) : (clearBits s o m).house = s.house := (rfl)
@[simp] theorem clearBits_out (s : State) (o : Nat) (m : Word) : (clearBits s o m).out = s.out := (rfl)

/-! ### Readings -/

@[simp] theorem memByte_wr (s : State) (o : Nat) (w : Word) (k : Nat) : memByte (wr s o w) k = memByte s k := (rfl)
@[simp] theorem chan_wr (s : State) (o : Nat) (w : Word) (k : Nat) : chan (wr s o w) k = chan s k := (rfl)
@[simp] theorem objAt_wr (s : State) (o : Nat) (w : Word) (k : Nat) : objAt (wr s o w) k = objAt s k := (rfl)
@[simp] theorem port_wr (s : State) (o : Nat) (w : Word) (k : Nat) : port (wr s o w) k = port s k := (rfl)
@[simp] theorem jnlAt_wr (s : State) (o : Nat) (w : Word) (k : Nat) : jnlAt (wr s o w) k = jnlAt s k := (rfl)
@[simp] theorem ringAt_wr (s : State) (o : Nat) (w : Word) (k : Nat) : ringAt (wr s o w) k = ringAt s k := (rfl)
@[simp] theorem mbxAt_wr (s : State) (o : Nat) (w : Word) (k : Nat) : mbxAt (wr s o w) k = mbxAt s k := (rfl)
@[simp] theorem segAt_wr (s : State) (o : Nat) (w : Word) (k : Nat) : segAt (wr s o w) k = segAt s k := (rfl)
@[simp] theorem keyAt_wr (s : State) (o : Nat) (w : Word) (k : Nat) : keyAt (wr s o w) k = keyAt s k := (rfl)
@[simp] theorem jobPage_wr (s : State) (o : Nat) (w : Word) (k : Nat) : jobPage (wr s o w) k = jobPage s k := (rfl)
@[simp] theorem slotAt_wr (s : State) (o : Nat) (w : Word) (k : Nat) : slotAt (wr s o w) k = slotAt s k := (rfl)
@[simp] theorem tGet_wr (s : State) (o : Nat) (w : Word) (c' k : Nat) : tGet (wr s o w) c' k = tGet s c' k := (rfl)
@[simp] theorem shGet_wr (s : State) (o : Nat) (w : Word) (c' k : Nat) : shGet (wr s o w) c' k = shGet s c' k := (rfl)
@[simp] theorem triVal_wr (s : State) (o : Nat) (w : Word) (f' k : Nat) : triVal (wr s o w) f' k = triVal s f' k := (rfl)
@[simp] theorem armed_wr (s : State) (o : Nat) (w : Word) (r : Requester) : armed (wr s o w) r = armed s r := (rfl)
@[simp] theorem houseAt_wr (s : State) (o : Nat) (w : Word) (k : Nat) : houseAt (wr s o w) k = houseAt s k := (rfl)
@[simp] theorem copyAt_wr (s : State) (o : Nat) (w : Word) (k : Nat) : copyAt (wr s o w) k = copyAt s k := (rfl)
@[simp] theorem ltNs_wr (s : State) (o : Nat) (w : Word) : ltNs (wr s o w) = ltNs s := (rfl)
@[simp] theorem stampNow_wr (s : State) (o : Nat) (w : Word) : stampNow (wr s o w) = stampNow s := (rfl)
@[simp] theorem rd_setMemByte (s : State) (a : Nat) (b : Byte) (k : Nat) : rd (setMemByte s a b) k = rd s k := (rfl)
@[simp] theorem chan_setMemByte (s : State) (a : Nat) (b : Byte) (k : Nat) : chan (setMemByte s a b) k = chan s k := (rfl)
@[simp] theorem objAt_setMemByte (s : State) (a : Nat) (b : Byte) (k : Nat) : objAt (setMemByte s a b) k = objAt s k := (rfl)
@[simp] theorem port_setMemByte (s : State) (a : Nat) (b : Byte) (k : Nat) : port (setMemByte s a b) k = port s k := (rfl)
@[simp] theorem jnlAt_setMemByte (s : State) (a : Nat) (b : Byte) (k : Nat) : jnlAt (setMemByte s a b) k = jnlAt s k := (rfl)
@[simp] theorem ringAt_setMemByte (s : State) (a : Nat) (b : Byte) (k : Nat) : ringAt (setMemByte s a b) k = ringAt s k := (rfl)
@[simp] theorem mbxAt_setMemByte (s : State) (a : Nat) (b : Byte) (k : Nat) : mbxAt (setMemByte s a b) k = mbxAt s k := (rfl)
@[simp] theorem segAt_setMemByte (s : State) (a : Nat) (b : Byte) (k : Nat) : segAt (setMemByte s a b) k = segAt s k := (rfl)
@[simp] theorem keyAt_setMemByte (s : State) (a : Nat) (b : Byte) (k : Nat) : keyAt (setMemByte s a b) k = keyAt s k := (rfl)
@[simp] theorem jobPage_setMemByte (s : State) (a : Nat) (b : Byte) (k : Nat) : jobPage (setMemByte s a b) k = jobPage s k := (rfl)
@[simp] theorem slotAt_setMemByte (s : State) (a : Nat) (b : Byte) (k : Nat) : slotAt (setMemByte s a b) k = slotAt s k := (rfl)
@[simp] theorem tGet_setMemByte (s : State) (a : Nat) (b : Byte) (c' k : Nat) : tGet (setMemByte s a b) c' k = tGet s c' k := (rfl)
@[simp] theorem shGet_setMemByte (s : State) (a : Nat) (b : Byte) (c' k : Nat) : shGet (setMemByte s a b) c' k = shGet s c' k := (rfl)
@[simp] theorem triVal_setMemByte (s : State) (a : Nat) (b : Byte) (f' k : Nat) : triVal (setMemByte s a b) f' k = triVal s f' k := (rfl)
@[simp] theorem armed_setMemByte (s : State) (a : Nat) (b : Byte) (r : Requester) : armed (setMemByte s a b) r = armed s r := (rfl)
@[simp] theorem houseAt_setMemByte (s : State) (a : Nat) (b : Byte) (k : Nat) : houseAt (setMemByte s a b) k = houseAt s k := (rfl)
@[simp] theorem copyAt_setMemByte (s : State) (a : Nat) (b : Byte) (k : Nat) : copyAt (setMemByte s a b) k = copyAt s k := (rfl)
@[simp] theorem getF_setMemByte (s : State) (a : Nat) (b : Byte) (r' hi lo : Nat) : getF (setMemByte s a b) r' hi lo = getF s r' hi lo := (rfl)
@[simp] theorem getB_setMemByte (s : State) (a : Nat) (b : Byte) (r' k : Nat) : getB (setMemByte s a b) r' k = getB s r' k := (rfl)
@[simp] theorem ltNs_setMemByte (s : State) (a : Nat) (b : Byte) : ltNs (setMemByte s a b) = ltNs s := (rfl)
@[simp] theorem stampNow_setMemByte (s : State) (a : Nat) (b : Byte) : stampNow (setMemByte s a b) = stampNow s := (rfl)
@[simp] theorem sigNow_setMemByte (s : State) (a : Nat) (b : Byte) : sigNow (setMemByte s a b) = sigNow s := (rfl)
@[simp] theorem rd_setChan (s : State) (n : Nat) (x : CanRt) (k : Nat) : rd (setChan s n x) k = rd s k := (rfl)
@[simp] theorem memByte_setChan (s : State) (n : Nat) (x : CanRt) (k : Nat) : memByte (setChan s n x) k = memByte s k := (rfl)
@[simp] theorem objAt_setChan (s : State) (n : Nat) (x : CanRt) (k : Nat) : objAt (setChan s n x) k = objAt s k := (rfl)
@[simp] theorem port_setChan (s : State) (n : Nat) (x : CanRt) (k : Nat) : port (setChan s n x) k = port s k := (rfl)
@[simp] theorem jnlAt_setChan (s : State) (n : Nat) (x : CanRt) (k : Nat) : jnlAt (setChan s n x) k = jnlAt s k := (rfl)
@[simp] theorem ringAt_setChan (s : State) (n : Nat) (x : CanRt) (k : Nat) : ringAt (setChan s n x) k = ringAt s k := (rfl)
@[simp] theorem mbxAt_setChan (s : State) (n : Nat) (x : CanRt) (k : Nat) : mbxAt (setChan s n x) k = mbxAt s k := (rfl)
@[simp] theorem segAt_setChan (s : State) (n : Nat) (x : CanRt) (k : Nat) : segAt (setChan s n x) k = segAt s k := (rfl)
@[simp] theorem keyAt_setChan (s : State) (n : Nat) (x : CanRt) (k : Nat) : keyAt (setChan s n x) k = keyAt s k := (rfl)
@[simp] theorem jobPage_setChan (s : State) (n : Nat) (x : CanRt) (k : Nat) : jobPage (setChan s n x) k = jobPage s k := (rfl)
@[simp] theorem slotAt_setChan (s : State) (n : Nat) (x : CanRt) (k : Nat) : slotAt (setChan s n x) k = slotAt s k := (rfl)
@[simp] theorem tGet_setChan (s : State) (n : Nat) (x : CanRt) (c' k : Nat) : tGet (setChan s n x) c' k = tGet s c' k := (rfl)
@[simp] theorem shGet_setChan (s : State) (n : Nat) (x : CanRt) (c' k : Nat) : shGet (setChan s n x) c' k = shGet s c' k := (rfl)
@[simp] theorem triVal_setChan (s : State) (n : Nat) (x : CanRt) (f' k : Nat) : triVal (setChan s n x) f' k = triVal s f' k := (rfl)
@[simp] theorem armed_setChan (s : State) (n : Nat) (x : CanRt) (r : Requester) : armed (setChan s n x) r = armed s r := (rfl)
@[simp] theorem houseAt_setChan (s : State) (n : Nat) (x : CanRt) (k : Nat) : houseAt (setChan s n x) k = houseAt s k := (rfl)
@[simp] theorem copyAt_setChan (s : State) (n : Nat) (x : CanRt) (k : Nat) : copyAt (setChan s n x) k = copyAt s k := (rfl)
@[simp] theorem getF_setChan (s : State) (n : Nat) (x : CanRt) (r' hi lo : Nat) : getF (setChan s n x) r' hi lo = getF s r' hi lo := (rfl)
@[simp] theorem getB_setChan (s : State) (n : Nat) (x : CanRt) (r' k : Nat) : getB (setChan s n x) r' k = getB s r' k := (rfl)
@[simp] theorem ltNs_setChan (s : State) (n : Nat) (x : CanRt) : ltNs (setChan s n x) = ltNs s := (rfl)
@[simp] theorem stampNow_setChan (s : State) (n : Nat) (x : CanRt) : stampNow (setChan s n x) = stampNow s := (rfl)
@[simp] theorem sigNow_setChan (s : State) (n : Nat) (x : CanRt) : sigNow (setChan s n x) = sigNow s := (rfl)
@[simp] theorem rd_setObj (s : State) (n : Nat) (x : ObjRt) (k : Nat) : rd (setObj s n x) k = rd s k := (rfl)
@[simp] theorem memByte_setObj (s : State) (n : Nat) (x : ObjRt) (k : Nat) : memByte (setObj s n x) k = memByte s k := (rfl)
@[simp] theorem chan_setObj (s : State) (n : Nat) (x : ObjRt) (k : Nat) : chan (setObj s n x) k = chan s k := (rfl)
@[simp] theorem port_setObj (s : State) (n : Nat) (x : ObjRt) (k : Nat) : port (setObj s n x) k = port s k := (rfl)
@[simp] theorem jnlAt_setObj (s : State) (n : Nat) (x : ObjRt) (k : Nat) : jnlAt (setObj s n x) k = jnlAt s k := (rfl)
@[simp] theorem ringAt_setObj (s : State) (n : Nat) (x : ObjRt) (k : Nat) : ringAt (setObj s n x) k = ringAt s k := (rfl)
@[simp] theorem mbxAt_setObj (s : State) (n : Nat) (x : ObjRt) (k : Nat) : mbxAt (setObj s n x) k = mbxAt s k := (rfl)
@[simp] theorem segAt_setObj (s : State) (n : Nat) (x : ObjRt) (k : Nat) : segAt (setObj s n x) k = segAt s k := (rfl)
@[simp] theorem keyAt_setObj (s : State) (n : Nat) (x : ObjRt) (k : Nat) : keyAt (setObj s n x) k = keyAt s k := (rfl)
@[simp] theorem jobPage_setObj (s : State) (n : Nat) (x : ObjRt) (k : Nat) : jobPage (setObj s n x) k = jobPage s k := (rfl)
@[simp] theorem slotAt_setObj (s : State) (n : Nat) (x : ObjRt) (k : Nat) : slotAt (setObj s n x) k = slotAt s k := (rfl)
@[simp] theorem tGet_setObj (s : State) (n : Nat) (x : ObjRt) (c' k : Nat) : tGet (setObj s n x) c' k = tGet s c' k := (rfl)
@[simp] theorem shGet_setObj (s : State) (n : Nat) (x : ObjRt) (c' k : Nat) : shGet (setObj s n x) c' k = shGet s c' k := (rfl)
@[simp] theorem triVal_setObj (s : State) (n : Nat) (x : ObjRt) (f' k : Nat) : triVal (setObj s n x) f' k = triVal s f' k := (rfl)
@[simp] theorem armed_setObj (s : State) (n : Nat) (x : ObjRt) (r : Requester) : armed (setObj s n x) r = armed s r := (rfl)
@[simp] theorem houseAt_setObj (s : State) (n : Nat) (x : ObjRt) (k : Nat) : houseAt (setObj s n x) k = houseAt s k := (rfl)
@[simp] theorem copyAt_setObj (s : State) (n : Nat) (x : ObjRt) (k : Nat) : copyAt (setObj s n x) k = copyAt s k := (rfl)
@[simp] theorem getF_setObj (s : State) (n : Nat) (x : ObjRt) (r' hi lo : Nat) : getF (setObj s n x) r' hi lo = getF s r' hi lo := (rfl)
@[simp] theorem getB_setObj (s : State) (n : Nat) (x : ObjRt) (r' k : Nat) : getB (setObj s n x) r' k = getB s r' k := (rfl)
@[simp] theorem ltNs_setObj (s : State) (n : Nat) (x : ObjRt) : ltNs (setObj s n x) = ltNs s := (rfl)
@[simp] theorem stampNow_setObj (s : State) (n : Nat) (x : ObjRt) : stampNow (setObj s n x) = stampNow s := (rfl)
@[simp] theorem sigNow_setObj (s : State) (n : Nat) (x : ObjRt) : sigNow (setObj s n x) = sigNow s := (rfl)
@[simp] theorem rd_setPort (s : State) (n : Nat) (x : EthRt) (k : Nat) : rd (setPort s n x) k = rd s k := (rfl)
@[simp] theorem memByte_setPort (s : State) (n : Nat) (x : EthRt) (k : Nat) : memByte (setPort s n x) k = memByte s k := (rfl)
@[simp] theorem chan_setPort (s : State) (n : Nat) (x : EthRt) (k : Nat) : chan (setPort s n x) k = chan s k := (rfl)
@[simp] theorem objAt_setPort (s : State) (n : Nat) (x : EthRt) (k : Nat) : objAt (setPort s n x) k = objAt s k := (rfl)
@[simp] theorem jnlAt_setPort (s : State) (n : Nat) (x : EthRt) (k : Nat) : jnlAt (setPort s n x) k = jnlAt s k := (rfl)
@[simp] theorem ringAt_setPort (s : State) (n : Nat) (x : EthRt) (k : Nat) : ringAt (setPort s n x) k = ringAt s k := (rfl)
@[simp] theorem mbxAt_setPort (s : State) (n : Nat) (x : EthRt) (k : Nat) : mbxAt (setPort s n x) k = mbxAt s k := (rfl)
@[simp] theorem segAt_setPort (s : State) (n : Nat) (x : EthRt) (k : Nat) : segAt (setPort s n x) k = segAt s k := (rfl)
@[simp] theorem keyAt_setPort (s : State) (n : Nat) (x : EthRt) (k : Nat) : keyAt (setPort s n x) k = keyAt s k := (rfl)
@[simp] theorem jobPage_setPort (s : State) (n : Nat) (x : EthRt) (k : Nat) : jobPage (setPort s n x) k = jobPage s k := (rfl)
@[simp] theorem slotAt_setPort (s : State) (n : Nat) (x : EthRt) (k : Nat) : slotAt (setPort s n x) k = slotAt s k := (rfl)
@[simp] theorem tGet_setPort (s : State) (n : Nat) (x : EthRt) (c' k : Nat) : tGet (setPort s n x) c' k = tGet s c' k := (rfl)
@[simp] theorem shGet_setPort (s : State) (n : Nat) (x : EthRt) (c' k : Nat) : shGet (setPort s n x) c' k = shGet s c' k := (rfl)
@[simp] theorem triVal_setPort (s : State) (n : Nat) (x : EthRt) (f' k : Nat) : triVal (setPort s n x) f' k = triVal s f' k := (rfl)
@[simp] theorem armed_setPort (s : State) (n : Nat) (x : EthRt) (r : Requester) : armed (setPort s n x) r = armed s r := (rfl)
@[simp] theorem houseAt_setPort (s : State) (n : Nat) (x : EthRt) (k : Nat) : houseAt (setPort s n x) k = houseAt s k := (rfl)
@[simp] theorem copyAt_setPort (s : State) (n : Nat) (x : EthRt) (k : Nat) : copyAt (setPort s n x) k = copyAt s k := (rfl)
@[simp] theorem getF_setPort (s : State) (n : Nat) (x : EthRt) (r' hi lo : Nat) : getF (setPort s n x) r' hi lo = getF s r' hi lo := (rfl)
@[simp] theorem getB_setPort (s : State) (n : Nat) (x : EthRt) (r' k : Nat) : getB (setPort s n x) r' k = getB s r' k := (rfl)
@[simp] theorem ltNs_setPort (s : State) (n : Nat) (x : EthRt) : ltNs (setPort s n x) = ltNs s := (rfl)
@[simp] theorem stampNow_setPort (s : State) (n : Nat) (x : EthRt) : stampNow (setPort s n x) = stampNow s := (rfl)
@[simp] theorem sigNow_setPort (s : State) (n : Nat) (x : EthRt) : sigNow (setPort s n x) = sigNow s := (rfl)
@[simp] theorem rd_setJnl (s : State) (n : Nat) (x : Jnl) (k : Nat) : rd (setJnl s n x) k = rd s k := (rfl)
@[simp] theorem memByte_setJnl (s : State) (n : Nat) (x : Jnl) (k : Nat) : memByte (setJnl s n x) k = memByte s k := (rfl)
@[simp] theorem chan_setJnl (s : State) (n : Nat) (x : Jnl) (k : Nat) : chan (setJnl s n x) k = chan s k := (rfl)
@[simp] theorem objAt_setJnl (s : State) (n : Nat) (x : Jnl) (k : Nat) : objAt (setJnl s n x) k = objAt s k := (rfl)
@[simp] theorem port_setJnl (s : State) (n : Nat) (x : Jnl) (k : Nat) : port (setJnl s n x) k = port s k := (rfl)
@[simp] theorem ringAt_setJnl (s : State) (n : Nat) (x : Jnl) (k : Nat) : ringAt (setJnl s n x) k = ringAt s k := (rfl)
@[simp] theorem mbxAt_setJnl (s : State) (n : Nat) (x : Jnl) (k : Nat) : mbxAt (setJnl s n x) k = mbxAt s k := (rfl)
@[simp] theorem segAt_setJnl (s : State) (n : Nat) (x : Jnl) (k : Nat) : segAt (setJnl s n x) k = segAt s k := (rfl)
@[simp] theorem keyAt_setJnl (s : State) (n : Nat) (x : Jnl) (k : Nat) : keyAt (setJnl s n x) k = keyAt s k := (rfl)
@[simp] theorem jobPage_setJnl (s : State) (n : Nat) (x : Jnl) (k : Nat) : jobPage (setJnl s n x) k = jobPage s k := (rfl)
@[simp] theorem slotAt_setJnl (s : State) (n : Nat) (x : Jnl) (k : Nat) : slotAt (setJnl s n x) k = slotAt s k := (rfl)
@[simp] theorem tGet_setJnl (s : State) (n : Nat) (x : Jnl) (c' k : Nat) : tGet (setJnl s n x) c' k = tGet s c' k := (rfl)
@[simp] theorem shGet_setJnl (s : State) (n : Nat) (x : Jnl) (c' k : Nat) : shGet (setJnl s n x) c' k = shGet s c' k := (rfl)
@[simp] theorem triVal_setJnl (s : State) (n : Nat) (x : Jnl) (f' k : Nat) : triVal (setJnl s n x) f' k = triVal s f' k := (rfl)
@[simp] theorem armed_setJnl (s : State) (n : Nat) (x : Jnl) (r : Requester) : armed (setJnl s n x) r = armed s r := (rfl)
@[simp] theorem houseAt_setJnl (s : State) (n : Nat) (x : Jnl) (k : Nat) : houseAt (setJnl s n x) k = houseAt s k := (rfl)
@[simp] theorem copyAt_setJnl (s : State) (n : Nat) (x : Jnl) (k : Nat) : copyAt (setJnl s n x) k = copyAt s k := (rfl)
@[simp] theorem getF_setJnl (s : State) (n : Nat) (x : Jnl) (r' hi lo : Nat) : getF (setJnl s n x) r' hi lo = getF s r' hi lo := (rfl)
@[simp] theorem getB_setJnl (s : State) (n : Nat) (x : Jnl) (r' k : Nat) : getB (setJnl s n x) r' k = getB s r' k := (rfl)
@[simp] theorem ltNs_setJnl (s : State) (n : Nat) (x : Jnl) : ltNs (setJnl s n x) = ltNs s := (rfl)
@[simp] theorem stampNow_setJnl (s : State) (n : Nat) (x : Jnl) : stampNow (setJnl s n x) = stampNow s := (rfl)
@[simp] theorem sigNow_setJnl (s : State) (n : Nat) (x : Jnl) : sigNow (setJnl s n x) = sigNow s := (rfl)
@[simp] theorem rd_setRing (s : State) (n : Nat) (x : Ring) (k : Nat) : rd (setRing s n x) k = rd s k := (rfl)
@[simp] theorem memByte_setRing (s : State) (n : Nat) (x : Ring) (k : Nat) : memByte (setRing s n x) k = memByte s k := (rfl)
@[simp] theorem chan_setRing (s : State) (n : Nat) (x : Ring) (k : Nat) : chan (setRing s n x) k = chan s k := (rfl)
@[simp] theorem objAt_setRing (s : State) (n : Nat) (x : Ring) (k : Nat) : objAt (setRing s n x) k = objAt s k := (rfl)
@[simp] theorem port_setRing (s : State) (n : Nat) (x : Ring) (k : Nat) : port (setRing s n x) k = port s k := (rfl)
@[simp] theorem jnlAt_setRing (s : State) (n : Nat) (x : Ring) (k : Nat) : jnlAt (setRing s n x) k = jnlAt s k := (rfl)
@[simp] theorem mbxAt_setRing (s : State) (n : Nat) (x : Ring) (k : Nat) : mbxAt (setRing s n x) k = mbxAt s k := (rfl)
@[simp] theorem segAt_setRing (s : State) (n : Nat) (x : Ring) (k : Nat) : segAt (setRing s n x) k = segAt s k := (rfl)
@[simp] theorem keyAt_setRing (s : State) (n : Nat) (x : Ring) (k : Nat) : keyAt (setRing s n x) k = keyAt s k := (rfl)
@[simp] theorem jobPage_setRing (s : State) (n : Nat) (x : Ring) (k : Nat) : jobPage (setRing s n x) k = jobPage s k := (rfl)
@[simp] theorem slotAt_setRing (s : State) (n : Nat) (x : Ring) (k : Nat) : slotAt (setRing s n x) k = slotAt s k := (rfl)
@[simp] theorem tGet_setRing (s : State) (n : Nat) (x : Ring) (c' k : Nat) : tGet (setRing s n x) c' k = tGet s c' k := (rfl)
@[simp] theorem shGet_setRing (s : State) (n : Nat) (x : Ring) (c' k : Nat) : shGet (setRing s n x) c' k = shGet s c' k := (rfl)
@[simp] theorem triVal_setRing (s : State) (n : Nat) (x : Ring) (f' k : Nat) : triVal (setRing s n x) f' k = triVal s f' k := (rfl)
@[simp] theorem armed_setRing (s : State) (n : Nat) (x : Ring) (r : Requester) : armed (setRing s n x) r = armed s r := (rfl)
@[simp] theorem houseAt_setRing (s : State) (n : Nat) (x : Ring) (k : Nat) : houseAt (setRing s n x) k = houseAt s k := (rfl)
@[simp] theorem copyAt_setRing (s : State) (n : Nat) (x : Ring) (k : Nat) : copyAt (setRing s n x) k = copyAt s k := (rfl)
@[simp] theorem getF_setRing (s : State) (n : Nat) (x : Ring) (r' hi lo : Nat) : getF (setRing s n x) r' hi lo = getF s r' hi lo := (rfl)
@[simp] theorem getB_setRing (s : State) (n : Nat) (x : Ring) (r' k : Nat) : getB (setRing s n x) r' k = getB s r' k := (rfl)
@[simp] theorem ltNs_setRing (s : State) (n : Nat) (x : Ring) : ltNs (setRing s n x) = ltNs s := (rfl)
@[simp] theorem stampNow_setRing (s : State) (n : Nat) (x : Ring) : stampNow (setRing s n x) = stampNow s := (rfl)
@[simp] theorem sigNow_setRing (s : State) (n : Nat) (x : Ring) : sigNow (setRing s n x) = sigNow s := (rfl)
@[simp] theorem rd_setMbx (s : State) (n : Nat) (x : MbxRt) (k : Nat) : rd (setMbx s n x) k = rd s k := (rfl)
@[simp] theorem memByte_setMbx (s : State) (n : Nat) (x : MbxRt) (k : Nat) : memByte (setMbx s n x) k = memByte s k := (rfl)
@[simp] theorem chan_setMbx (s : State) (n : Nat) (x : MbxRt) (k : Nat) : chan (setMbx s n x) k = chan s k := (rfl)
@[simp] theorem objAt_setMbx (s : State) (n : Nat) (x : MbxRt) (k : Nat) : objAt (setMbx s n x) k = objAt s k := (rfl)
@[simp] theorem port_setMbx (s : State) (n : Nat) (x : MbxRt) (k : Nat) : port (setMbx s n x) k = port s k := (rfl)
@[simp] theorem jnlAt_setMbx (s : State) (n : Nat) (x : MbxRt) (k : Nat) : jnlAt (setMbx s n x) k = jnlAt s k := (rfl)
@[simp] theorem ringAt_setMbx (s : State) (n : Nat) (x : MbxRt) (k : Nat) : ringAt (setMbx s n x) k = ringAt s k := (rfl)
@[simp] theorem segAt_setMbx (s : State) (n : Nat) (x : MbxRt) (k : Nat) : segAt (setMbx s n x) k = segAt s k := (rfl)
@[simp] theorem keyAt_setMbx (s : State) (n : Nat) (x : MbxRt) (k : Nat) : keyAt (setMbx s n x) k = keyAt s k := (rfl)
@[simp] theorem jobPage_setMbx (s : State) (n : Nat) (x : MbxRt) (k : Nat) : jobPage (setMbx s n x) k = jobPage s k := (rfl)
@[simp] theorem slotAt_setMbx (s : State) (n : Nat) (x : MbxRt) (k : Nat) : slotAt (setMbx s n x) k = slotAt s k := (rfl)
@[simp] theorem tGet_setMbx (s : State) (n : Nat) (x : MbxRt) (c' k : Nat) : tGet (setMbx s n x) c' k = tGet s c' k := (rfl)
@[simp] theorem shGet_setMbx (s : State) (n : Nat) (x : MbxRt) (c' k : Nat) : shGet (setMbx s n x) c' k = shGet s c' k := (rfl)
@[simp] theorem triVal_setMbx (s : State) (n : Nat) (x : MbxRt) (f' k : Nat) : triVal (setMbx s n x) f' k = triVal s f' k := (rfl)
@[simp] theorem armed_setMbx (s : State) (n : Nat) (x : MbxRt) (r : Requester) : armed (setMbx s n x) r = armed s r := (rfl)
@[simp] theorem houseAt_setMbx (s : State) (n : Nat) (x : MbxRt) (k : Nat) : houseAt (setMbx s n x) k = houseAt s k := (rfl)
@[simp] theorem copyAt_setMbx (s : State) (n : Nat) (x : MbxRt) (k : Nat) : copyAt (setMbx s n x) k = copyAt s k := (rfl)
@[simp] theorem getF_setMbx (s : State) (n : Nat) (x : MbxRt) (r' hi lo : Nat) : getF (setMbx s n x) r' hi lo = getF s r' hi lo := (rfl)
@[simp] theorem getB_setMbx (s : State) (n : Nat) (x : MbxRt) (r' k : Nat) : getB (setMbx s n x) r' k = getB s r' k := (rfl)
@[simp] theorem ltNs_setMbx (s : State) (n : Nat) (x : MbxRt) : ltNs (setMbx s n x) = ltNs s := (rfl)
@[simp] theorem stampNow_setMbx (s : State) (n : Nat) (x : MbxRt) : stampNow (setMbx s n x) = stampNow s := (rfl)
@[simp] theorem sigNow_setMbx (s : State) (n : Nat) (x : MbxRt) : sigNow (setMbx s n x) = sigNow s := (rfl)
@[simp] theorem rd_setSeg (s : State) (n : Nat) (x : Seg) (k : Nat) : rd (setSeg s n x) k = rd s k := (rfl)
@[simp] theorem memByte_setSeg (s : State) (n : Nat) (x : Seg) (k : Nat) : memByte (setSeg s n x) k = memByte s k := (rfl)
@[simp] theorem chan_setSeg (s : State) (n : Nat) (x : Seg) (k : Nat) : chan (setSeg s n x) k = chan s k := (rfl)
@[simp] theorem objAt_setSeg (s : State) (n : Nat) (x : Seg) (k : Nat) : objAt (setSeg s n x) k = objAt s k := (rfl)
@[simp] theorem port_setSeg (s : State) (n : Nat) (x : Seg) (k : Nat) : port (setSeg s n x) k = port s k := (rfl)
@[simp] theorem jnlAt_setSeg (s : State) (n : Nat) (x : Seg) (k : Nat) : jnlAt (setSeg s n x) k = jnlAt s k := (rfl)
@[simp] theorem ringAt_setSeg (s : State) (n : Nat) (x : Seg) (k : Nat) : ringAt (setSeg s n x) k = ringAt s k := (rfl)
@[simp] theorem mbxAt_setSeg (s : State) (n : Nat) (x : Seg) (k : Nat) : mbxAt (setSeg s n x) k = mbxAt s k := (rfl)
@[simp] theorem keyAt_setSeg (s : State) (n : Nat) (x : Seg) (k : Nat) : keyAt (setSeg s n x) k = keyAt s k := (rfl)
@[simp] theorem jobPage_setSeg (s : State) (n : Nat) (x : Seg) (k : Nat) : jobPage (setSeg s n x) k = jobPage s k := (rfl)
@[simp] theorem slotAt_setSeg (s : State) (n : Nat) (x : Seg) (k : Nat) : slotAt (setSeg s n x) k = slotAt s k := (rfl)
@[simp] theorem tGet_setSeg (s : State) (n : Nat) (x : Seg) (c' k : Nat) : tGet (setSeg s n x) c' k = tGet s c' k := (rfl)
@[simp] theorem shGet_setSeg (s : State) (n : Nat) (x : Seg) (c' k : Nat) : shGet (setSeg s n x) c' k = shGet s c' k := (rfl)
@[simp] theorem triVal_setSeg (s : State) (n : Nat) (x : Seg) (f' k : Nat) : triVal (setSeg s n x) f' k = triVal s f' k := (rfl)
@[simp] theorem armed_setSeg (s : State) (n : Nat) (x : Seg) (r : Requester) : armed (setSeg s n x) r = armed s r := (rfl)
@[simp] theorem houseAt_setSeg (s : State) (n : Nat) (x : Seg) (k : Nat) : houseAt (setSeg s n x) k = houseAt s k := (rfl)
@[simp] theorem copyAt_setSeg (s : State) (n : Nat) (x : Seg) (k : Nat) : copyAt (setSeg s n x) k = copyAt s k := (rfl)
@[simp] theorem getF_setSeg (s : State) (n : Nat) (x : Seg) (r' hi lo : Nat) : getF (setSeg s n x) r' hi lo = getF s r' hi lo := (rfl)
@[simp] theorem getB_setSeg (s : State) (n : Nat) (x : Seg) (r' k : Nat) : getB (setSeg s n x) r' k = getB s r' k := (rfl)
@[simp] theorem ltNs_setSeg (s : State) (n : Nat) (x : Seg) : ltNs (setSeg s n x) = ltNs s := (rfl)
@[simp] theorem stampNow_setSeg (s : State) (n : Nat) (x : Seg) : stampNow (setSeg s n x) = stampNow s := (rfl)
@[simp] theorem sigNow_setSeg (s : State) (n : Nat) (x : Seg) : sigNow (setSeg s n x) = sigNow s := (rfl)
@[simp] theorem rd_setKey (s : State) (n : Nat) (x : KeySlot) (k : Nat) : rd (setKey s n x) k = rd s k := (rfl)
@[simp] theorem memByte_setKey (s : State) (n : Nat) (x : KeySlot) (k : Nat) : memByte (setKey s n x) k = memByte s k := (rfl)
@[simp] theorem chan_setKey (s : State) (n : Nat) (x : KeySlot) (k : Nat) : chan (setKey s n x) k = chan s k := (rfl)
@[simp] theorem objAt_setKey (s : State) (n : Nat) (x : KeySlot) (k : Nat) : objAt (setKey s n x) k = objAt s k := (rfl)
@[simp] theorem port_setKey (s : State) (n : Nat) (x : KeySlot) (k : Nat) : port (setKey s n x) k = port s k := (rfl)
@[simp] theorem jnlAt_setKey (s : State) (n : Nat) (x : KeySlot) (k : Nat) : jnlAt (setKey s n x) k = jnlAt s k := (rfl)
@[simp] theorem ringAt_setKey (s : State) (n : Nat) (x : KeySlot) (k : Nat) : ringAt (setKey s n x) k = ringAt s k := (rfl)
@[simp] theorem mbxAt_setKey (s : State) (n : Nat) (x : KeySlot) (k : Nat) : mbxAt (setKey s n x) k = mbxAt s k := (rfl)
@[simp] theorem segAt_setKey (s : State) (n : Nat) (x : KeySlot) (k : Nat) : segAt (setKey s n x) k = segAt s k := (rfl)
@[simp] theorem jobPage_setKey (s : State) (n : Nat) (x : KeySlot) (k : Nat) : jobPage (setKey s n x) k = jobPage s k := (rfl)
@[simp] theorem slotAt_setKey (s : State) (n : Nat) (x : KeySlot) (k : Nat) : slotAt (setKey s n x) k = slotAt s k := (rfl)
@[simp] theorem tGet_setKey (s : State) (n : Nat) (x : KeySlot) (c' k : Nat) : tGet (setKey s n x) c' k = tGet s c' k := (rfl)
@[simp] theorem shGet_setKey (s : State) (n : Nat) (x : KeySlot) (c' k : Nat) : shGet (setKey s n x) c' k = shGet s c' k := (rfl)
@[simp] theorem triVal_setKey (s : State) (n : Nat) (x : KeySlot) (f' k : Nat) : triVal (setKey s n x) f' k = triVal s f' k := (rfl)
@[simp] theorem armed_setKey (s : State) (n : Nat) (x : KeySlot) (r : Requester) : armed (setKey s n x) r = armed s r := (rfl)
@[simp] theorem houseAt_setKey (s : State) (n : Nat) (x : KeySlot) (k : Nat) : houseAt (setKey s n x) k = houseAt s k := (rfl)
@[simp] theorem copyAt_setKey (s : State) (n : Nat) (x : KeySlot) (k : Nat) : copyAt (setKey s n x) k = copyAt s k := (rfl)
@[simp] theorem getF_setKey (s : State) (n : Nat) (x : KeySlot) (r' hi lo : Nat) : getF (setKey s n x) r' hi lo = getF s r' hi lo := (rfl)
@[simp] theorem getB_setKey (s : State) (n : Nat) (x : KeySlot) (r' k : Nat) : getB (setKey s n x) r' k = getB s r' k := (rfl)
@[simp] theorem ltNs_setKey (s : State) (n : Nat) (x : KeySlot) : ltNs (setKey s n x) = ltNs s := (rfl)
@[simp] theorem stampNow_setKey (s : State) (n : Nat) (x : KeySlot) : stampNow (setKey s n x) = stampNow s := (rfl)
@[simp] theorem sigNow_setKey (s : State) (n : Nat) (x : KeySlot) : sigNow (setKey s n x) = sigNow s := (rfl)
@[simp] theorem rd_setJobPage (s : State) (n : Nat) (x : JobPage) (k : Nat) : rd (setJobPage s n x) k = rd s k := (rfl)
@[simp] theorem memByte_setJobPage (s : State) (n : Nat) (x : JobPage) (k : Nat) : memByte (setJobPage s n x) k = memByte s k := (rfl)
@[simp] theorem chan_setJobPage (s : State) (n : Nat) (x : JobPage) (k : Nat) : chan (setJobPage s n x) k = chan s k := (rfl)
@[simp] theorem objAt_setJobPage (s : State) (n : Nat) (x : JobPage) (k : Nat) : objAt (setJobPage s n x) k = objAt s k := (rfl)
@[simp] theorem port_setJobPage (s : State) (n : Nat) (x : JobPage) (k : Nat) : port (setJobPage s n x) k = port s k := (rfl)
@[simp] theorem jnlAt_setJobPage (s : State) (n : Nat) (x : JobPage) (k : Nat) : jnlAt (setJobPage s n x) k = jnlAt s k := (rfl)
@[simp] theorem ringAt_setJobPage (s : State) (n : Nat) (x : JobPage) (k : Nat) : ringAt (setJobPage s n x) k = ringAt s k := (rfl)
@[simp] theorem mbxAt_setJobPage (s : State) (n : Nat) (x : JobPage) (k : Nat) : mbxAt (setJobPage s n x) k = mbxAt s k := (rfl)
@[simp] theorem segAt_setJobPage (s : State) (n : Nat) (x : JobPage) (k : Nat) : segAt (setJobPage s n x) k = segAt s k := (rfl)
@[simp] theorem keyAt_setJobPage (s : State) (n : Nat) (x : JobPage) (k : Nat) : keyAt (setJobPage s n x) k = keyAt s k := (rfl)
@[simp] theorem slotAt_setJobPage (s : State) (n : Nat) (x : JobPage) (k : Nat) : slotAt (setJobPage s n x) k = slotAt s k := (rfl)
@[simp] theorem tGet_setJobPage (s : State) (n : Nat) (x : JobPage) (c' k : Nat) : tGet (setJobPage s n x) c' k = tGet s c' k := (rfl)
@[simp] theorem shGet_setJobPage (s : State) (n : Nat) (x : JobPage) (c' k : Nat) : shGet (setJobPage s n x) c' k = shGet s c' k := (rfl)
@[simp] theorem triVal_setJobPage (s : State) (n : Nat) (x : JobPage) (f' k : Nat) : triVal (setJobPage s n x) f' k = triVal s f' k := (rfl)
@[simp] theorem armed_setJobPage (s : State) (n : Nat) (x : JobPage) (r : Requester) : armed (setJobPage s n x) r = armed s r := (rfl)
@[simp] theorem houseAt_setJobPage (s : State) (n : Nat) (x : JobPage) (k : Nat) : houseAt (setJobPage s n x) k = houseAt s k := (rfl)
@[simp] theorem copyAt_setJobPage (s : State) (n : Nat) (x : JobPage) (k : Nat) : copyAt (setJobPage s n x) k = copyAt s k := (rfl)
@[simp] theorem getF_setJobPage (s : State) (n : Nat) (x : JobPage) (r' hi lo : Nat) : getF (setJobPage s n x) r' hi lo = getF s r' hi lo := (rfl)
@[simp] theorem getB_setJobPage (s : State) (n : Nat) (x : JobPage) (r' k : Nat) : getB (setJobPage s n x) r' k = getB s r' k := (rfl)
@[simp] theorem ltNs_setJobPage (s : State) (n : Nat) (x : JobPage) : ltNs (setJobPage s n x) = ltNs s := (rfl)
@[simp] theorem stampNow_setJobPage (s : State) (n : Nat) (x : JobPage) : stampNow (setJobPage s n x) = stampNow s := (rfl)
@[simp] theorem sigNow_setJobPage (s : State) (n : Nat) (x : JobPage) : sigNow (setJobPage s n x) = sigNow s := (rfl)
@[simp] theorem rd_setSlot (s : State) (n : Nat) (x : Slot) (k : Nat) : rd (setSlot s n x) k = rd s k := (rfl)
@[simp] theorem memByte_setSlot (s : State) (n : Nat) (x : Slot) (k : Nat) : memByte (setSlot s n x) k = memByte s k := (rfl)
@[simp] theorem chan_setSlot (s : State) (n : Nat) (x : Slot) (k : Nat) : chan (setSlot s n x) k = chan s k := (rfl)
@[simp] theorem objAt_setSlot (s : State) (n : Nat) (x : Slot) (k : Nat) : objAt (setSlot s n x) k = objAt s k := (rfl)
@[simp] theorem port_setSlot (s : State) (n : Nat) (x : Slot) (k : Nat) : port (setSlot s n x) k = port s k := (rfl)
@[simp] theorem jnlAt_setSlot (s : State) (n : Nat) (x : Slot) (k : Nat) : jnlAt (setSlot s n x) k = jnlAt s k := (rfl)
@[simp] theorem ringAt_setSlot (s : State) (n : Nat) (x : Slot) (k : Nat) : ringAt (setSlot s n x) k = ringAt s k := (rfl)
@[simp] theorem mbxAt_setSlot (s : State) (n : Nat) (x : Slot) (k : Nat) : mbxAt (setSlot s n x) k = mbxAt s k := (rfl)
@[simp] theorem segAt_setSlot (s : State) (n : Nat) (x : Slot) (k : Nat) : segAt (setSlot s n x) k = segAt s k := (rfl)
@[simp] theorem keyAt_setSlot (s : State) (n : Nat) (x : Slot) (k : Nat) : keyAt (setSlot s n x) k = keyAt s k := (rfl)
@[simp] theorem jobPage_setSlot (s : State) (n : Nat) (x : Slot) (k : Nat) : jobPage (setSlot s n x) k = jobPage s k := (rfl)
@[simp] theorem tGet_setSlot (s : State) (n : Nat) (x : Slot) (c' k : Nat) : tGet (setSlot s n x) c' k = tGet s c' k := (rfl)
@[simp] theorem shGet_setSlot (s : State) (n : Nat) (x : Slot) (c' k : Nat) : shGet (setSlot s n x) c' k = shGet s c' k := (rfl)
@[simp] theorem triVal_setSlot (s : State) (n : Nat) (x : Slot) (f' k : Nat) : triVal (setSlot s n x) f' k = triVal s f' k := (rfl)
@[simp] theorem armed_setSlot (s : State) (n : Nat) (x : Slot) (r : Requester) : armed (setSlot s n x) r = armed s r := (rfl)
@[simp] theorem houseAt_setSlot (s : State) (n : Nat) (x : Slot) (k : Nat) : houseAt (setSlot s n x) k = houseAt s k := (rfl)
@[simp] theorem copyAt_setSlot (s : State) (n : Nat) (x : Slot) (k : Nat) : copyAt (setSlot s n x) k = copyAt s k := (rfl)
@[simp] theorem getF_setSlot (s : State) (n : Nat) (x : Slot) (r' hi lo : Nat) : getF (setSlot s n x) r' hi lo = getF s r' hi lo := (rfl)
@[simp] theorem getB_setSlot (s : State) (n : Nat) (x : Slot) (r' k : Nat) : getB (setSlot s n x) r' k = getB s r' k := (rfl)
@[simp] theorem ltNs_setSlot (s : State) (n : Nat) (x : Slot) : ltNs (setSlot s n x) = ltNs s := (rfl)
@[simp] theorem stampNow_setSlot (s : State) (n : Nat) (x : Slot) : stampNow (setSlot s n x) = stampNow s := (rfl)
@[simp] theorem sigNow_setSlot (s : State) (n : Nat) (x : Slot) : sigNow (setSlot s n x) = sigNow s := (rfl)
@[simp] theorem rd_tSet (s : State) (c i : Nat) (e : BitVec 768) (k : Nat) : rd (tSet s c i e) k = rd s k := (rfl)
@[simp] theorem memByte_tSet (s : State) (c i : Nat) (e : BitVec 768) (k : Nat) : memByte (tSet s c i e) k = memByte s k := (rfl)
@[simp] theorem chan_tSet (s : State) (c i : Nat) (e : BitVec 768) (k : Nat) : chan (tSet s c i e) k = chan s k := (rfl)
@[simp] theorem objAt_tSet (s : State) (c i : Nat) (e : BitVec 768) (k : Nat) : objAt (tSet s c i e) k = objAt s k := (rfl)
@[simp] theorem port_tSet (s : State) (c i : Nat) (e : BitVec 768) (k : Nat) : port (tSet s c i e) k = port s k := (rfl)
@[simp] theorem jnlAt_tSet (s : State) (c i : Nat) (e : BitVec 768) (k : Nat) : jnlAt (tSet s c i e) k = jnlAt s k := (rfl)
@[simp] theorem ringAt_tSet (s : State) (c i : Nat) (e : BitVec 768) (k : Nat) : ringAt (tSet s c i e) k = ringAt s k := (rfl)
@[simp] theorem mbxAt_tSet (s : State) (c i : Nat) (e : BitVec 768) (k : Nat) : mbxAt (tSet s c i e) k = mbxAt s k := (rfl)
@[simp] theorem segAt_tSet (s : State) (c i : Nat) (e : BitVec 768) (k : Nat) : segAt (tSet s c i e) k = segAt s k := (rfl)
@[simp] theorem keyAt_tSet (s : State) (c i : Nat) (e : BitVec 768) (k : Nat) : keyAt (tSet s c i e) k = keyAt s k := (rfl)
@[simp] theorem jobPage_tSet (s : State) (c i : Nat) (e : BitVec 768) (k : Nat) : jobPage (tSet s c i e) k = jobPage s k := (rfl)
@[simp] theorem slotAt_tSet (s : State) (c i : Nat) (e : BitVec 768) (k : Nat) : slotAt (tSet s c i e) k = slotAt s k := (rfl)
@[simp] theorem shGet_tSet (s : State) (c i : Nat) (e : BitVec 768) (c' k : Nat) : shGet (tSet s c i e) c' k = shGet s c' k := (rfl)
@[simp] theorem triVal_tSet (s : State) (c i : Nat) (e : BitVec 768) (f' k : Nat) : triVal (tSet s c i e) f' k = triVal s f' k := (rfl)
@[simp] theorem armed_tSet (s : State) (c i : Nat) (e : BitVec 768) (r : Requester) : armed (tSet s c i e) r = armed s r := (rfl)
@[simp] theorem houseAt_tSet (s : State) (c i : Nat) (e : BitVec 768) (k : Nat) : houseAt (tSet s c i e) k = houseAt s k := (rfl)
@[simp] theorem copyAt_tSet (s : State) (c i : Nat) (e : BitVec 768) (k : Nat) : copyAt (tSet s c i e) k = copyAt s k := (rfl)
@[simp] theorem getF_tSet (s : State) (c i : Nat) (e : BitVec 768) (r' hi lo : Nat) : getF (tSet s c i e) r' hi lo = getF s r' hi lo := (rfl)
@[simp] theorem getB_tSet (s : State) (c i : Nat) (e : BitVec 768) (r' k : Nat) : getB (tSet s c i e) r' k = getB s r' k := (rfl)
@[simp] theorem ltNs_tSet (s : State) (c i : Nat) (e : BitVec 768) : ltNs (tSet s c i e) = ltNs s := (rfl)
@[simp] theorem stampNow_tSet (s : State) (c i : Nat) (e : BitVec 768) : stampNow (tSet s c i e) = stampNow s := (rfl)
@[simp] theorem sigNow_tSet (s : State) (c i : Nat) (e : BitVec 768) : sigNow (tSet s c i e) = sigNow s := (rfl)
@[simp] theorem rd_shSet (s : State) (c i : Nat) (e : BitVec 768) (k : Nat) : rd (shSet s c i e) k = rd s k := (rfl)
@[simp] theorem memByte_shSet (s : State) (c i : Nat) (e : BitVec 768) (k : Nat) : memByte (shSet s c i e) k = memByte s k := (rfl)
@[simp] theorem chan_shSet (s : State) (c i : Nat) (e : BitVec 768) (k : Nat) : chan (shSet s c i e) k = chan s k := (rfl)
@[simp] theorem objAt_shSet (s : State) (c i : Nat) (e : BitVec 768) (k : Nat) : objAt (shSet s c i e) k = objAt s k := (rfl)
@[simp] theorem port_shSet (s : State) (c i : Nat) (e : BitVec 768) (k : Nat) : port (shSet s c i e) k = port s k := (rfl)
@[simp] theorem jnlAt_shSet (s : State) (c i : Nat) (e : BitVec 768) (k : Nat) : jnlAt (shSet s c i e) k = jnlAt s k := (rfl)
@[simp] theorem ringAt_shSet (s : State) (c i : Nat) (e : BitVec 768) (k : Nat) : ringAt (shSet s c i e) k = ringAt s k := (rfl)
@[simp] theorem mbxAt_shSet (s : State) (c i : Nat) (e : BitVec 768) (k : Nat) : mbxAt (shSet s c i e) k = mbxAt s k := (rfl)
@[simp] theorem segAt_shSet (s : State) (c i : Nat) (e : BitVec 768) (k : Nat) : segAt (shSet s c i e) k = segAt s k := (rfl)
@[simp] theorem keyAt_shSet (s : State) (c i : Nat) (e : BitVec 768) (k : Nat) : keyAt (shSet s c i e) k = keyAt s k := (rfl)
@[simp] theorem jobPage_shSet (s : State) (c i : Nat) (e : BitVec 768) (k : Nat) : jobPage (shSet s c i e) k = jobPage s k := (rfl)
@[simp] theorem slotAt_shSet (s : State) (c i : Nat) (e : BitVec 768) (k : Nat) : slotAt (shSet s c i e) k = slotAt s k := (rfl)
@[simp] theorem tGet_shSet (s : State) (c i : Nat) (e : BitVec 768) (c' k : Nat) : tGet (shSet s c i e) c' k = tGet s c' k := (rfl)
@[simp] theorem triVal_shSet (s : State) (c i : Nat) (e : BitVec 768) (f' k : Nat) : triVal (shSet s c i e) f' k = triVal s f' k := (rfl)
@[simp] theorem armed_shSet (s : State) (c i : Nat) (e : BitVec 768) (r : Requester) : armed (shSet s c i e) r = armed s r := (rfl)
@[simp] theorem houseAt_shSet (s : State) (c i : Nat) (e : BitVec 768) (k : Nat) : houseAt (shSet s c i e) k = houseAt s k := (rfl)
@[simp] theorem copyAt_shSet (s : State) (c i : Nat) (e : BitVec 768) (k : Nat) : copyAt (shSet s c i e) k = copyAt s k := (rfl)
@[simp] theorem getF_shSet (s : State) (c i : Nat) (e : BitVec 768) (r' hi lo : Nat) : getF (shSet s c i e) r' hi lo = getF s r' hi lo := (rfl)
@[simp] theorem getB_shSet (s : State) (c i : Nat) (e : BitVec 768) (r' k : Nat) : getB (shSet s c i e) r' k = getB s r' k := (rfl)
@[simp] theorem ltNs_shSet (s : State) (c i : Nat) (e : BitVec 768) : ltNs (shSet s c i e) = ltNs s := (rfl)
@[simp] theorem stampNow_shSet (s : State) (c i : Nat) (e : BitVec 768) : stampNow (shSet s c i e) = stampNow s := (rfl)
@[simp] theorem sigNow_shSet (s : State) (c i : Nat) (e : BitVec 768) : sigNow (shSet s c i e) = sigNow s := (rfl)
@[simp] theorem rd_setTri (s : State) (f i v : Nat) (k : Nat) : rd (setTri s f i v) k = rd s k := (rfl)
@[simp] theorem memByte_setTri (s : State) (f i v : Nat) (k : Nat) : memByte (setTri s f i v) k = memByte s k := (rfl)
@[simp] theorem chan_setTri (s : State) (f i v : Nat) (k : Nat) : chan (setTri s f i v) k = chan s k := (rfl)
@[simp] theorem objAt_setTri (s : State) (f i v : Nat) (k : Nat) : objAt (setTri s f i v) k = objAt s k := (rfl)
@[simp] theorem port_setTri (s : State) (f i v : Nat) (k : Nat) : port (setTri s f i v) k = port s k := (rfl)
@[simp] theorem jnlAt_setTri (s : State) (f i v : Nat) (k : Nat) : jnlAt (setTri s f i v) k = jnlAt s k := (rfl)
@[simp] theorem ringAt_setTri (s : State) (f i v : Nat) (k : Nat) : ringAt (setTri s f i v) k = ringAt s k := (rfl)
@[simp] theorem mbxAt_setTri (s : State) (f i v : Nat) (k : Nat) : mbxAt (setTri s f i v) k = mbxAt s k := (rfl)
@[simp] theorem segAt_setTri (s : State) (f i v : Nat) (k : Nat) : segAt (setTri s f i v) k = segAt s k := (rfl)
@[simp] theorem keyAt_setTri (s : State) (f i v : Nat) (k : Nat) : keyAt (setTri s f i v) k = keyAt s k := (rfl)
@[simp] theorem jobPage_setTri (s : State) (f i v : Nat) (k : Nat) : jobPage (setTri s f i v) k = jobPage s k := (rfl)
@[simp] theorem slotAt_setTri (s : State) (f i v : Nat) (k : Nat) : slotAt (setTri s f i v) k = slotAt s k := (rfl)
@[simp] theorem tGet_setTri (s : State) (f i v : Nat) (c' k : Nat) : tGet (setTri s f i v) c' k = tGet s c' k := (rfl)
@[simp] theorem shGet_setTri (s : State) (f i v : Nat) (c' k : Nat) : shGet (setTri s f i v) c' k = shGet s c' k := (rfl)
@[simp] theorem armed_setTri (s : State) (f i v : Nat) (r : Requester) : armed (setTri s f i v) r = armed s r := (rfl)
@[simp] theorem houseAt_setTri (s : State) (f i v : Nat) (k : Nat) : houseAt (setTri s f i v) k = houseAt s k := (rfl)
@[simp] theorem copyAt_setTri (s : State) (f i v : Nat) (k : Nat) : copyAt (setTri s f i v) k = copyAt s k := (rfl)
@[simp] theorem getF_setTri (s : State) (f i v : Nat) (r' hi lo : Nat) : getF (setTri s f i v) r' hi lo = getF s r' hi lo := (rfl)
@[simp] theorem getB_setTri (s : State) (f i v : Nat) (r' k : Nat) : getB (setTri s f i v) r' k = getB s r' k := (rfl)
@[simp] theorem ltNs_setTri (s : State) (f i v : Nat) : ltNs (setTri s f i v) = ltNs s := (rfl)
@[simp] theorem stampNow_setTri (s : State) (f i v : Nat) : stampNow (setTri s f i v) = stampNow s := (rfl)
@[simp] theorem sigNow_setTri (s : State) (f i v : Nat) : sigNow (setTri s f i v) = sigNow s := (rfl)
@[simp] theorem rd_setArmed (s : State) (q : Requester) (b : Bool) (k : Nat) : rd (setArmed s q b) k = rd s k := (rfl)
@[simp] theorem memByte_setArmed (s : State) (q : Requester) (b : Bool) (k : Nat) : memByte (setArmed s q b) k = memByte s k := (rfl)
@[simp] theorem chan_setArmed (s : State) (q : Requester) (b : Bool) (k : Nat) : chan (setArmed s q b) k = chan s k := (rfl)
@[simp] theorem objAt_setArmed (s : State) (q : Requester) (b : Bool) (k : Nat) : objAt (setArmed s q b) k = objAt s k := (rfl)
@[simp] theorem port_setArmed (s : State) (q : Requester) (b : Bool) (k : Nat) : port (setArmed s q b) k = port s k := (rfl)
@[simp] theorem jnlAt_setArmed (s : State) (q : Requester) (b : Bool) (k : Nat) : jnlAt (setArmed s q b) k = jnlAt s k := (rfl)
@[simp] theorem ringAt_setArmed (s : State) (q : Requester) (b : Bool) (k : Nat) : ringAt (setArmed s q b) k = ringAt s k := (rfl)
@[simp] theorem mbxAt_setArmed (s : State) (q : Requester) (b : Bool) (k : Nat) : mbxAt (setArmed s q b) k = mbxAt s k := (rfl)
@[simp] theorem segAt_setArmed (s : State) (q : Requester) (b : Bool) (k : Nat) : segAt (setArmed s q b) k = segAt s k := (rfl)
@[simp] theorem keyAt_setArmed (s : State) (q : Requester) (b : Bool) (k : Nat) : keyAt (setArmed s q b) k = keyAt s k := (rfl)
@[simp] theorem jobPage_setArmed (s : State) (q : Requester) (b : Bool) (k : Nat) : jobPage (setArmed s q b) k = jobPage s k := (rfl)
@[simp] theorem slotAt_setArmed (s : State) (q : Requester) (b : Bool) (k : Nat) : slotAt (setArmed s q b) k = slotAt s k := (rfl)
@[simp] theorem tGet_setArmed (s : State) (q : Requester) (b : Bool) (c' k : Nat) : tGet (setArmed s q b) c' k = tGet s c' k := (rfl)
@[simp] theorem shGet_setArmed (s : State) (q : Requester) (b : Bool) (c' k : Nat) : shGet (setArmed s q b) c' k = shGet s c' k := (rfl)
@[simp] theorem triVal_setArmed (s : State) (q : Requester) (b : Bool) (f' k : Nat) : triVal (setArmed s q b) f' k = triVal s f' k := (rfl)
@[simp] theorem houseAt_setArmed (s : State) (q : Requester) (b : Bool) (k : Nat) : houseAt (setArmed s q b) k = houseAt s k := (rfl)
@[simp] theorem copyAt_setArmed (s : State) (q : Requester) (b : Bool) (k : Nat) : copyAt (setArmed s q b) k = copyAt s k := (rfl)
@[simp] theorem getF_setArmed (s : State) (q : Requester) (b : Bool) (r' hi lo : Nat) : getF (setArmed s q b) r' hi lo = getF s r' hi lo := (rfl)
@[simp] theorem getB_setArmed (s : State) (q : Requester) (b : Bool) (r' k : Nat) : getB (setArmed s q b) r' k = getB s r' k := (rfl)
@[simp] theorem ltNs_setArmed (s : State) (q : Requester) (b : Bool) : ltNs (setArmed s q b) = ltNs s := (rfl)
@[simp] theorem stampNow_setArmed (s : State) (q : Requester) (b : Bool) : stampNow (setArmed s q b) = stampNow s := (rfl)
@[simp] theorem sigNow_setArmed (s : State) (q : Requester) (b : Bool) : sigNow (setArmed s q b) = sigNow s := (rfl)
@[simp] theorem rd_send (s : State) (m : Out) (k : Nat) : rd (send s m) k = rd s k := (rfl)
@[simp] theorem memByte_send (s : State) (m : Out) (k : Nat) : memByte (send s m) k = memByte s k := (rfl)
@[simp] theorem chan_send (s : State) (m : Out) (k : Nat) : chan (send s m) k = chan s k := (rfl)
@[simp] theorem objAt_send (s : State) (m : Out) (k : Nat) : objAt (send s m) k = objAt s k := (rfl)
@[simp] theorem port_send (s : State) (m : Out) (k : Nat) : port (send s m) k = port s k := (rfl)
@[simp] theorem jnlAt_send (s : State) (m : Out) (k : Nat) : jnlAt (send s m) k = jnlAt s k := (rfl)
@[simp] theorem ringAt_send (s : State) (m : Out) (k : Nat) : ringAt (send s m) k = ringAt s k := (rfl)
@[simp] theorem mbxAt_send (s : State) (m : Out) (k : Nat) : mbxAt (send s m) k = mbxAt s k := (rfl)
@[simp] theorem segAt_send (s : State) (m : Out) (k : Nat) : segAt (send s m) k = segAt s k := (rfl)
@[simp] theorem keyAt_send (s : State) (m : Out) (k : Nat) : keyAt (send s m) k = keyAt s k := (rfl)
@[simp] theorem jobPage_send (s : State) (m : Out) (k : Nat) : jobPage (send s m) k = jobPage s k := (rfl)
@[simp] theorem slotAt_send (s : State) (m : Out) (k : Nat) : slotAt (send s m) k = slotAt s k := (rfl)
@[simp] theorem tGet_send (s : State) (m : Out) (c' k : Nat) : tGet (send s m) c' k = tGet s c' k := (rfl)
@[simp] theorem shGet_send (s : State) (m : Out) (c' k : Nat) : shGet (send s m) c' k = shGet s c' k := (rfl)
@[simp] theorem triVal_send (s : State) (m : Out) (f' k : Nat) : triVal (send s m) f' k = triVal s f' k := (rfl)
@[simp] theorem armed_send (s : State) (m : Out) (r : Requester) : armed (send s m) r = armed s r := (rfl)
@[simp] theorem houseAt_send (s : State) (m : Out) (k : Nat) : houseAt (send s m) k = houseAt s k := (rfl)
@[simp] theorem copyAt_send (s : State) (m : Out) (k : Nat) : copyAt (send s m) k = copyAt s k := (rfl)
@[simp] theorem getF_send (s : State) (m : Out) (r' hi lo : Nat) : getF (send s m) r' hi lo = getF s r' hi lo := (rfl)
@[simp] theorem getB_send (s : State) (m : Out) (r' k : Nat) : getB (send s m) r' k = getB s r' k := (rfl)
@[simp] theorem ltNs_send (s : State) (m : Out) : ltNs (send s m) = ltNs s := (rfl)
@[simp] theorem stampNow_send (s : State) (m : Out) : stampNow (send s m) = stampNow s := (rfl)
@[simp] theorem sigNow_send (s : State) (m : Out) : sigNow (send s m) = sigNow s := (rfl)
@[simp] theorem rd_houseSet (s : State) (i v : Nat) (k : Nat) : rd (houseSet s i v) k = rd s k := (rfl)
@[simp] theorem memByte_houseSet (s : State) (i v : Nat) (k : Nat) : memByte (houseSet s i v) k = memByte s k := (rfl)
@[simp] theorem chan_houseSet (s : State) (i v : Nat) (k : Nat) : chan (houseSet s i v) k = chan s k := (rfl)
@[simp] theorem objAt_houseSet (s : State) (i v : Nat) (k : Nat) : objAt (houseSet s i v) k = objAt s k := (rfl)
@[simp] theorem port_houseSet (s : State) (i v : Nat) (k : Nat) : port (houseSet s i v) k = port s k := (rfl)
@[simp] theorem jnlAt_houseSet (s : State) (i v : Nat) (k : Nat) : jnlAt (houseSet s i v) k = jnlAt s k := (rfl)
@[simp] theorem ringAt_houseSet (s : State) (i v : Nat) (k : Nat) : ringAt (houseSet s i v) k = ringAt s k := (rfl)
@[simp] theorem mbxAt_houseSet (s : State) (i v : Nat) (k : Nat) : mbxAt (houseSet s i v) k = mbxAt s k := (rfl)
@[simp] theorem segAt_houseSet (s : State) (i v : Nat) (k : Nat) : segAt (houseSet s i v) k = segAt s k := (rfl)
@[simp] theorem keyAt_houseSet (s : State) (i v : Nat) (k : Nat) : keyAt (houseSet s i v) k = keyAt s k := (rfl)
@[simp] theorem jobPage_houseSet (s : State) (i v : Nat) (k : Nat) : jobPage (houseSet s i v) k = jobPage s k := (rfl)
@[simp] theorem slotAt_houseSet (s : State) (i v : Nat) (k : Nat) : slotAt (houseSet s i v) k = slotAt s k := (rfl)
@[simp] theorem tGet_houseSet (s : State) (i v : Nat) (c' k : Nat) : tGet (houseSet s i v) c' k = tGet s c' k := (rfl)
@[simp] theorem shGet_houseSet (s : State) (i v : Nat) (c' k : Nat) : shGet (houseSet s i v) c' k = shGet s c' k := (rfl)
@[simp] theorem triVal_houseSet (s : State) (i v : Nat) (f' k : Nat) : triVal (houseSet s i v) f' k = triVal s f' k := (rfl)
@[simp] theorem armed_houseSet (s : State) (i v : Nat) (r : Requester) : armed (houseSet s i v) r = armed s r := (rfl)
@[simp] theorem copyAt_houseSet (s : State) (i v : Nat) (k : Nat) : copyAt (houseSet s i v) k = copyAt s k := (rfl)
@[simp] theorem getF_houseSet (s : State) (i v : Nat) (r' hi lo : Nat) : getF (houseSet s i v) r' hi lo = getF s r' hi lo := (rfl)
@[simp] theorem getB_houseSet (s : State) (i v : Nat) (r' k : Nat) : getB (houseSet s i v) r' k = getB s r' k := (rfl)
@[simp] theorem ltNs_houseSet (s : State) (i v : Nat) : ltNs (houseSet s i v) = ltNs s := (rfl)
@[simp] theorem stampNow_houseSet (s : State) (i v : Nat) : stampNow (houseSet s i v) = stampNow s := (rfl)
@[simp] theorem sigNow_houseSet (s : State) (i v : Nat) : sigNow (houseSet s i v) = sigNow s := (rfl)
@[simp] theorem rd_setCopy (s : State) (c : Nat) (x : PoolCopy) (k : Nat) : rd (setCopy s c x) k = rd s k := (rfl)
@[simp] theorem memByte_setCopy (s : State) (c : Nat) (x : PoolCopy) (k : Nat) : memByte (setCopy s c x) k = memByte s k := (rfl)
@[simp] theorem chan_setCopy (s : State) (c : Nat) (x : PoolCopy) (k : Nat) : chan (setCopy s c x) k = chan s k := (rfl)
@[simp] theorem objAt_setCopy (s : State) (c : Nat) (x : PoolCopy) (k : Nat) : objAt (setCopy s c x) k = objAt s k := (rfl)
@[simp] theorem port_setCopy (s : State) (c : Nat) (x : PoolCopy) (k : Nat) : port (setCopy s c x) k = port s k := (rfl)
@[simp] theorem jnlAt_setCopy (s : State) (c : Nat) (x : PoolCopy) (k : Nat) : jnlAt (setCopy s c x) k = jnlAt s k := (rfl)
@[simp] theorem ringAt_setCopy (s : State) (c : Nat) (x : PoolCopy) (k : Nat) : ringAt (setCopy s c x) k = ringAt s k := (rfl)
@[simp] theorem mbxAt_setCopy (s : State) (c : Nat) (x : PoolCopy) (k : Nat) : mbxAt (setCopy s c x) k = mbxAt s k := (rfl)
@[simp] theorem segAt_setCopy (s : State) (c : Nat) (x : PoolCopy) (k : Nat) : segAt (setCopy s c x) k = segAt s k := (rfl)
@[simp] theorem keyAt_setCopy (s : State) (c : Nat) (x : PoolCopy) (k : Nat) : keyAt (setCopy s c x) k = keyAt s k := (rfl)
@[simp] theorem jobPage_setCopy (s : State) (c : Nat) (x : PoolCopy) (k : Nat) : jobPage (setCopy s c x) k = jobPage s k := (rfl)
@[simp] theorem slotAt_setCopy (s : State) (c : Nat) (x : PoolCopy) (k : Nat) : slotAt (setCopy s c x) k = slotAt s k := (rfl)
@[simp] theorem tGet_setCopy (s : State) (c : Nat) (x : PoolCopy) (c' k : Nat) : tGet (setCopy s c x) c' k = tGet s c' k := (rfl)
@[simp] theorem shGet_setCopy (s : State) (c : Nat) (x : PoolCopy) (c' k : Nat) : shGet (setCopy s c x) c' k = shGet s c' k := (rfl)
@[simp] theorem triVal_setCopy (s : State) (c : Nat) (x : PoolCopy) (f' k : Nat) : triVal (setCopy s c x) f' k = triVal s f' k := (rfl)
@[simp] theorem armed_setCopy (s : State) (c : Nat) (x : PoolCopy) (r : Requester) : armed (setCopy s c x) r = armed s r := (rfl)
@[simp] theorem houseAt_setCopy (s : State) (c : Nat) (x : PoolCopy) (k : Nat) : houseAt (setCopy s c x) k = houseAt s k := (rfl)
@[simp] theorem getF_setCopy (s : State) (c : Nat) (x : PoolCopy) (r' hi lo : Nat) : getF (setCopy s c x) r' hi lo = getF s r' hi lo := (rfl)
@[simp] theorem getB_setCopy (s : State) (c : Nat) (x : PoolCopy) (r' k : Nat) : getB (setCopy s c x) r' k = getB s r' k := (rfl)
@[simp] theorem ltNs_setCopy (s : State) (c : Nat) (x : PoolCopy) : ltNs (setCopy s c x) = ltNs s := (rfl)
@[simp] theorem stampNow_setCopy (s : State) (c : Nat) (x : PoolCopy) : stampNow (setCopy s c x) = stampNow s := (rfl)
@[simp] theorem sigNow_setCopy (s : State) (c : Nat) (x : PoolCopy) : sigNow (setCopy s c x) = sigNow s := (rfl)
@[simp] theorem rd_settle (s : State) (k : Nat) : rd (settle s) k = rd s k := (rfl)
@[simp] theorem memByte_settle (s : State) (k : Nat) : memByte (settle s) k = memByte s k := (rfl)
@[simp] theorem chan_settle (s : State) (k : Nat) : chan (settle s) k = chan s k := (rfl)
@[simp] theorem objAt_settle (s : State) (k : Nat) : objAt (settle s) k = objAt s k := (rfl)
@[simp] theorem port_settle (s : State) (k : Nat) : port (settle s) k = port s k := (rfl)
@[simp] theorem jnlAt_settle (s : State) (k : Nat) : jnlAt (settle s) k = jnlAt s k := (rfl)
@[simp] theorem ringAt_settle (s : State) (k : Nat) : ringAt (settle s) k = ringAt s k := (rfl)
@[simp] theorem mbxAt_settle (s : State) (k : Nat) : mbxAt (settle s) k = mbxAt s k := (rfl)
@[simp] theorem segAt_settle (s : State) (k : Nat) : segAt (settle s) k = segAt s k := (rfl)
@[simp] theorem keyAt_settle (s : State) (k : Nat) : keyAt (settle s) k = keyAt s k := (rfl)
@[simp] theorem jobPage_settle (s : State) (k : Nat) : jobPage (settle s) k = jobPage s k := (rfl)
@[simp] theorem slotAt_settle (s : State) (k : Nat) : slotAt (settle s) k = slotAt s k := (rfl)
@[simp] theorem tGet_settle (s : State) (c' k : Nat) : tGet (settle s) c' k = tGet s c' k := (rfl)
@[simp] theorem shGet_settle (s : State) (c' k : Nat) : shGet (settle s) c' k = shGet s c' k := (rfl)
@[simp] theorem triVal_settle (s : State) (f' k : Nat) : triVal (settle s) f' k = triVal s f' k := (rfl)
@[simp] theorem armed_settle (s : State) (r : Requester) : armed (settle s) r = armed s r := (rfl)
@[simp] theorem houseAt_settle (s : State) (k : Nat) : houseAt (settle s) k = houseAt s k := (rfl)
@[simp] theorem copyAt_settle (s : State) (k : Nat) : copyAt (settle s) k = copyAt s k := (rfl)
@[simp] theorem getF_settle (s : State) (r' hi lo : Nat) : getF (settle s) r' hi lo = getF s r' hi lo := (rfl)
@[simp] theorem getB_settle (s : State) (r' k : Nat) : getB (settle s) r' k = getB s r' k := (rfl)
@[simp] theorem ltNs_settle (s : State) : ltNs (settle s) = ltNs s := (rfl)
@[simp] theorem stampNow_settle (s : State) : stampNow (settle s) = stampNow s := (rfl)
@[simp] theorem sigNow_settle (s : State) : sigNow (settle s) = sigNow s := (rfl)
@[simp] theorem memByte_setF (s : State) (o hi0 lo0 v : Nat) (k : Nat) : memByte (setF s o hi0 lo0 v) k = memByte s k := (rfl)
@[simp] theorem chan_setF (s : State) (o hi0 lo0 v : Nat) (k : Nat) : chan (setF s o hi0 lo0 v) k = chan s k := (rfl)
@[simp] theorem objAt_setF (s : State) (o hi0 lo0 v : Nat) (k : Nat) : objAt (setF s o hi0 lo0 v) k = objAt s k := (rfl)
@[simp] theorem port_setF (s : State) (o hi0 lo0 v : Nat) (k : Nat) : port (setF s o hi0 lo0 v) k = port s k := (rfl)
@[simp] theorem jnlAt_setF (s : State) (o hi0 lo0 v : Nat) (k : Nat) : jnlAt (setF s o hi0 lo0 v) k = jnlAt s k := (rfl)
@[simp] theorem ringAt_setF (s : State) (o hi0 lo0 v : Nat) (k : Nat) : ringAt (setF s o hi0 lo0 v) k = ringAt s k := (rfl)
@[simp] theorem mbxAt_setF (s : State) (o hi0 lo0 v : Nat) (k : Nat) : mbxAt (setF s o hi0 lo0 v) k = mbxAt s k := (rfl)
@[simp] theorem segAt_setF (s : State) (o hi0 lo0 v : Nat) (k : Nat) : segAt (setF s o hi0 lo0 v) k = segAt s k := (rfl)
@[simp] theorem keyAt_setF (s : State) (o hi0 lo0 v : Nat) (k : Nat) : keyAt (setF s o hi0 lo0 v) k = keyAt s k := (rfl)
@[simp] theorem jobPage_setF (s : State) (o hi0 lo0 v : Nat) (k : Nat) : jobPage (setF s o hi0 lo0 v) k = jobPage s k := (rfl)
@[simp] theorem slotAt_setF (s : State) (o hi0 lo0 v : Nat) (k : Nat) : slotAt (setF s o hi0 lo0 v) k = slotAt s k := (rfl)
@[simp] theorem tGet_setF (s : State) (o hi0 lo0 v : Nat) (c' k : Nat) : tGet (setF s o hi0 lo0 v) c' k = tGet s c' k := (rfl)
@[simp] theorem shGet_setF (s : State) (o hi0 lo0 v : Nat) (c' k : Nat) : shGet (setF s o hi0 lo0 v) c' k = shGet s c' k := (rfl)
@[simp] theorem triVal_setF (s : State) (o hi0 lo0 v : Nat) (f' k : Nat) : triVal (setF s o hi0 lo0 v) f' k = triVal s f' k := (rfl)
@[simp] theorem armed_setF (s : State) (o hi0 lo0 v : Nat) (r : Requester) : armed (setF s o hi0 lo0 v) r = armed s r := (rfl)
@[simp] theorem houseAt_setF (s : State) (o hi0 lo0 v : Nat) (k : Nat) : houseAt (setF s o hi0 lo0 v) k = houseAt s k := (rfl)
@[simp] theorem copyAt_setF (s : State) (o hi0 lo0 v : Nat) (k : Nat) : copyAt (setF s o hi0 lo0 v) k = copyAt s k := (rfl)
@[simp] theorem ltNs_setF (s : State) (o hi0 lo0 v : Nat) : ltNs (setF s o hi0 lo0 v) = ltNs s := (rfl)
@[simp] theorem stampNow_setF (s : State) (o hi0 lo0 v : Nat) : stampNow (setF s o hi0 lo0 v) = stampNow s := (rfl)
@[simp] theorem memByte_setB (s : State) (o b : Nat) (v : Bool) (k : Nat) : memByte (setB s o b v) k = memByte s k := (rfl)
@[simp] theorem chan_setB (s : State) (o b : Nat) (v : Bool) (k : Nat) : chan (setB s o b v) k = chan s k := (rfl)
@[simp] theorem objAt_setB (s : State) (o b : Nat) (v : Bool) (k : Nat) : objAt (setB s o b v) k = objAt s k := (rfl)
@[simp] theorem port_setB (s : State) (o b : Nat) (v : Bool) (k : Nat) : port (setB s o b v) k = port s k := (rfl)
@[simp] theorem jnlAt_setB (s : State) (o b : Nat) (v : Bool) (k : Nat) : jnlAt (setB s o b v) k = jnlAt s k := (rfl)
@[simp] theorem ringAt_setB (s : State) (o b : Nat) (v : Bool) (k : Nat) : ringAt (setB s o b v) k = ringAt s k := (rfl)
@[simp] theorem mbxAt_setB (s : State) (o b : Nat) (v : Bool) (k : Nat) : mbxAt (setB s o b v) k = mbxAt s k := (rfl)
@[simp] theorem segAt_setB (s : State) (o b : Nat) (v : Bool) (k : Nat) : segAt (setB s o b v) k = segAt s k := (rfl)
@[simp] theorem keyAt_setB (s : State) (o b : Nat) (v : Bool) (k : Nat) : keyAt (setB s o b v) k = keyAt s k := (rfl)
@[simp] theorem jobPage_setB (s : State) (o b : Nat) (v : Bool) (k : Nat) : jobPage (setB s o b v) k = jobPage s k := (rfl)
@[simp] theorem slotAt_setB (s : State) (o b : Nat) (v : Bool) (k : Nat) : slotAt (setB s o b v) k = slotAt s k := (rfl)
@[simp] theorem tGet_setB (s : State) (o b : Nat) (v : Bool) (c' k : Nat) : tGet (setB s o b v) c' k = tGet s c' k := (rfl)
@[simp] theorem shGet_setB (s : State) (o b : Nat) (v : Bool) (c' k : Nat) : shGet (setB s o b v) c' k = shGet s c' k := (rfl)
@[simp] theorem triVal_setB (s : State) (o b : Nat) (v : Bool) (f' k : Nat) : triVal (setB s o b v) f' k = triVal s f' k := (rfl)
@[simp] theorem armed_setB (s : State) (o b : Nat) (v : Bool) (r : Requester) : armed (setB s o b v) r = armed s r := (rfl)
@[simp] theorem houseAt_setB (s : State) (o b : Nat) (v : Bool) (k : Nat) : houseAt (setB s o b v) k = houseAt s k := (rfl)
@[simp] theorem copyAt_setB (s : State) (o b : Nat) (v : Bool) (k : Nat) : copyAt (setB s o b v) k = copyAt s k := (rfl)
@[simp] theorem ltNs_setB (s : State) (o b : Nat) (v : Bool) : ltNs (setB s o b v) = ltNs s := (rfl)
@[simp] theorem stampNow_setB (s : State) (o b : Nat) (v : Bool) : stampNow (setB s o b v) = stampNow s := (rfl)
@[simp] theorem memByte_raise (s : State) (o b : Nat) (k : Nat) : memByte (raise s o b) k = memByte s k := (rfl)
@[simp] theorem chan_raise (s : State) (o b : Nat) (k : Nat) : chan (raise s o b) k = chan s k := (rfl)
@[simp] theorem objAt_raise (s : State) (o b : Nat) (k : Nat) : objAt (raise s o b) k = objAt s k := (rfl)
@[simp] theorem port_raise (s : State) (o b : Nat) (k : Nat) : port (raise s o b) k = port s k := (rfl)
@[simp] theorem jnlAt_raise (s : State) (o b : Nat) (k : Nat) : jnlAt (raise s o b) k = jnlAt s k := (rfl)
@[simp] theorem ringAt_raise (s : State) (o b : Nat) (k : Nat) : ringAt (raise s o b) k = ringAt s k := (rfl)
@[simp] theorem mbxAt_raise (s : State) (o b : Nat) (k : Nat) : mbxAt (raise s o b) k = mbxAt s k := (rfl)
@[simp] theorem segAt_raise (s : State) (o b : Nat) (k : Nat) : segAt (raise s o b) k = segAt s k := (rfl)
@[simp] theorem keyAt_raise (s : State) (o b : Nat) (k : Nat) : keyAt (raise s o b) k = keyAt s k := (rfl)
@[simp] theorem jobPage_raise (s : State) (o b : Nat) (k : Nat) : jobPage (raise s o b) k = jobPage s k := (rfl)
@[simp] theorem slotAt_raise (s : State) (o b : Nat) (k : Nat) : slotAt (raise s o b) k = slotAt s k := (rfl)
@[simp] theorem tGet_raise (s : State) (o b : Nat) (c' k : Nat) : tGet (raise s o b) c' k = tGet s c' k := (rfl)
@[simp] theorem shGet_raise (s : State) (o b : Nat) (c' k : Nat) : shGet (raise s o b) c' k = shGet s c' k := (rfl)
@[simp] theorem triVal_raise (s : State) (o b : Nat) (f' k : Nat) : triVal (raise s o b) f' k = triVal s f' k := (rfl)
@[simp] theorem armed_raise (s : State) (o b : Nat) (r : Requester) : armed (raise s o b) r = armed s r := (rfl)
@[simp] theorem houseAt_raise (s : State) (o b : Nat) (k : Nat) : houseAt (raise s o b) k = houseAt s k := (rfl)
@[simp] theorem copyAt_raise (s : State) (o b : Nat) (k : Nat) : copyAt (raise s o b) k = copyAt s k := (rfl)
@[simp] theorem ltNs_raise (s : State) (o b : Nat) : ltNs (raise s o b) = ltNs s := (rfl)
@[simp] theorem stampNow_raise (s : State) (o b : Nat) : stampNow (raise s o b) = stampNow s := (rfl)
@[simp] theorem memByte_clearBits (s : State) (o : Nat) (m : Word) (k : Nat) : memByte (clearBits s o m) k = memByte s k := (rfl)
@[simp] theorem chan_clearBits (s : State) (o : Nat) (m : Word) (k : Nat) : chan (clearBits s o m) k = chan s k := (rfl)
@[simp] theorem objAt_clearBits (s : State) (o : Nat) (m : Word) (k : Nat) : objAt (clearBits s o m) k = objAt s k := (rfl)
@[simp] theorem port_clearBits (s : State) (o : Nat) (m : Word) (k : Nat) : port (clearBits s o m) k = port s k := (rfl)
@[simp] theorem jnlAt_clearBits (s : State) (o : Nat) (m : Word) (k : Nat) : jnlAt (clearBits s o m) k = jnlAt s k := (rfl)
@[simp] theorem ringAt_clearBits (s : State) (o : Nat) (m : Word) (k : Nat) : ringAt (clearBits s o m) k = ringAt s k := (rfl)
@[simp] theorem mbxAt_clearBits (s : State) (o : Nat) (m : Word) (k : Nat) : mbxAt (clearBits s o m) k = mbxAt s k := (rfl)
@[simp] theorem segAt_clearBits (s : State) (o : Nat) (m : Word) (k : Nat) : segAt (clearBits s o m) k = segAt s k := (rfl)
@[simp] theorem keyAt_clearBits (s : State) (o : Nat) (m : Word) (k : Nat) : keyAt (clearBits s o m) k = keyAt s k := (rfl)
@[simp] theorem jobPage_clearBits (s : State) (o : Nat) (m : Word) (k : Nat) : jobPage (clearBits s o m) k = jobPage s k := (rfl)
@[simp] theorem slotAt_clearBits (s : State) (o : Nat) (m : Word) (k : Nat) : slotAt (clearBits s o m) k = slotAt s k := (rfl)
@[simp] theorem tGet_clearBits (s : State) (o : Nat) (m : Word) (c' k : Nat) : tGet (clearBits s o m) c' k = tGet s c' k := (rfl)
@[simp] theorem shGet_clearBits (s : State) (o : Nat) (m : Word) (c' k : Nat) : shGet (clearBits s o m) c' k = shGet s c' k := (rfl)
@[simp] theorem triVal_clearBits (s : State) (o : Nat) (m : Word) (f' k : Nat) : triVal (clearBits s o m) f' k = triVal s f' k := (rfl)
@[simp] theorem armed_clearBits (s : State) (o : Nat) (m : Word) (r : Requester) : armed (clearBits s o m) r = armed s r := (rfl)
@[simp] theorem houseAt_clearBits (s : State) (o : Nat) (m : Word) (k : Nat) : houseAt (clearBits s o m) k = houseAt s k := (rfl)
@[simp] theorem copyAt_clearBits (s : State) (o : Nat) (m : Word) (k : Nat) : copyAt (clearBits s o m) k = copyAt s k := (rfl)
@[simp] theorem ltNs_clearBits (s : State) (o : Nat) (m : Word) : ltNs (clearBits s o m) = ltNs s := (rfl)
@[simp] theorem stampNow_clearBits (s : State) (o : Nat) (m : Word) : stampNow (clearBits s o m) = stampNow s := (rfl)

end Sys2Proof.Machine
end

