-- ==== Sys2Proof/Laws/Ops.lean ====
section
/-!
SUPPORT. Sys2Proof/Laws/Ops.lean: what the shared operations do. Register operations come down to `wr`; a journal item changes
the journals, the housekeeping counts and the journals' own registers; `settle` changes the interrupt controller and sends
messages.
-/
namespace Sys2Proof.Machine

/-! ### Base addresses -/

@[simp] theorem canR_inj (n a b : Nat) : canR n a = canR n b ↔ a = b := by unfold canR; omega

@[simp] theorem motR_inj (n a b : Nat) : motR n a = motR n b ↔ a = b := by unfold motR; omega

@[simp] theorem ethR_inj (n a b : Nat) : ethR n a = ethR n b ↔ a = b := by unfold ethR; omega

@[simp] theorem fwdR_inj (n a b : Nat) : fwdR n a = fwdR n b ↔ a = b := by unfold fwdR; omega

@[simp] theorem jnlR_inj (n a b : Nat) : jnlR n a = jnlR n b ↔ a = b := by unfold jnlR; omega

@[simp] theorem ringR_inj (n a b : Nat) : ringR n a = ringR n b ↔ a = b := by unfold ringR; omega

@[simp] theorem mbxR_inj (n a b : Nat) : mbxR n a = mbxR n b ↔ a = b := by unfold mbxR; omega

@[simp] theorem teR_inj (n a b : Nat) : teR n a = teR n b ↔ a = b := by unfold teR; omega

@[simp] theorem tdR_inj (n a b : Nat) : tdR n a = tdR n b ↔ a = b := by unfold tdR; omega

@[simp] theorem jobR_inj (n a b : Nat) : jobR n a = jobR n b ↔ a = b := by unfold jobR; omega

@[simp] theorem msR_inj (n a b : Nat) : msR n a = msR n b ↔ a = b := by unfold msR; omega

@[simp] theorem segR_inj (n a b : Nat) : segR n a = segR n b ↔ a = b := by unfold segR; omega

@[simp] theorem pageR_inj (n a b : Nat) : pageR n a = pageR n b ↔ a = b := by unfold pageR; omega

@[simp] theorem swR_inj (n a b : Nat) : swR n a = swR n b ↔ a = b := by unfold swR; omega

/-! ### Register operations, as writes of one word -/

theorem raise_eq (s : State) (o b : Nat) : raise s o b = wr s o (rd s o ||| BitVec.ofNat 32 (2 ^ b)) := (rfl)

@[simp] theorem incC_eq (s : State) (o : Nat) : incC s o = wr s o (rd s o + 1#32) := (rfl)

@[simp] theorem addC_eq (s : State) (o n : Nat) : addC s o n = wr s o (rd s o + BitVec.ofNat 32 n) := (rfl)

theorem clearBits_eq (s : State) (o : Nat) (m : Word) : clearBits s o m = wr s o (rd s o &&& ~~~ m) := (rfl)

theorem setF_eq (s : State) (o hi lo v : Nat) : setF s o hi lo v = wr s o (putFld (rd s o) hi lo v) := (rfl)

theorem setB_eq (s : State) (o b : Nat) (v : Bool) : setB s o b v = wr s o (putFld (rd s o) b b (bnat v)) := (rfl)

@[simp] theorem disarm_eq (s : State) (q : Requester) : disarm s q = setArmed s q false := (rfl)

theorem devFault_eq (s : State) (b : Nat) : devFault s b = wr s 0x34 (rd s 0x34 ||| BitVec.ofNat 32 (2 ^ b)) := (rfl)

theorem armed_setArmed (s : State) (q r : Requester) (b : Bool) :
    armed (setArmed s q b) r = if reqNo r = reqNo q then b else armed s r := SMap.get_set ..

theorem rd_setF (s : State) (o hi lo v k : Nat) : rd (setF s o hi lo v) k = if k = o then putFld (rd s o) hi lo v else rd s k := rd_wr ..

theorem rd_setB (s : State) (o b : Nat) (v : Bool) (k : Nat) : rd (setB s o b v) k = if k = o then putFld (rd s o) b b (bnat v) else rd s k := rd_wr ..

theorem rd_raise (s : State) (o b k : Nat) : rd (raise s o b) k = if k = o then rd s o ||| BitVec.ofNat 32 (2 ^ b) else rd s k := rd_wr ..

theorem rd_clearBits (s : State) (o : Nat) (m : Word) (k : Nat) : rd (clearBits s o m) k = if k = o then rd s o &&& ~~~ m else rd s k := rd_wr ..

@[simp] theorem armed_setArmed_same (s : State) (q : Requester) (b : Bool) : armed (setArmed s q b) q = b := by
  simp [armed_setArmed]

/-! ### Fields of a word -/

theorem fld_lt (w : Word) (hi lo : Nat) : fld w hi lo < 2 ^ (hi + 1 - lo) := Nat.mod_lt _ (Nat.two_pow_pos _)

theorem fld_eq_extract (w : Word) (hi lo : Nat) : fld w hi lo = (w.extractLsb' lo (hi + 1 - lo)).toNat := by
  simp [fld, BitVec.extractLsb'_toNat]

/-- The bits of a word in which a field has been set: the value's inside it, the old ones outside. -/
theorem getLsbD_putFld (w : Word) (hi lo v i : Nat) (h : hi < 32) (hl : lo ≤ hi) :
    (putFld w hi lo v).getLsbD i = if lo ≤ i ∧ i ≤ hi then v.testBit (i - lo) else w.getLsbD i := by
  have hw : w.toNat = w.toNat % 2 ^ lo + 2 ^ lo * (fld w hi lo + 2 ^ (hi + 1 - lo) * (w.toNat >>> (hi + 1))) := by
    have e : hi + 1 = lo + (hi + 1 - lo) := by omega
    have e2 : w.toNat >>> (hi + 1) = w.toNat >>> lo >>> (hi + 1 - lo) := by rw [← Nat.shiftRight_add, ← e]
    rw [e2, fld, Nat.shiftRight_eq_div_pow (w.toNat >>> lo), Nat.mod_add_div, Nat.shiftRight_eq_div_pow, Nat.mod_add_div]
  set a := w.toNat % 2 ^ lo with ha
  set c := w.toNat >>> (hi + 1) with hc
  have hal : a < 2 ^ lo := Nat.mod_lt _ (Nat.two_pow_pos _)
  have hn : w.toNat - fld w hi lo * 2 ^ lo + v % 2 ^ (hi + 1 - lo) * 2 ^ lo
      = a + 2 ^ lo * (v % 2 ^ (hi + 1 - lo) + 2 ^ (hi + 1 - lo) * c) := by
    conv_lhs => rw [hw]
    generalize fld w hi lo = f
    rw [Nat.mul_add, Nat.mul_add, Nat.mul_comm f, Nat.mul_comm (v % 2 ^ (hi + 1 - lo))]
    generalize 2 ^ lo * f = x
    omega
  have bits : ∀ x, x < 2 ^ (hi + 1 - lo) → ∀ j, (a + 2 ^ lo * (x + 2 ^ (hi + 1 - lo) * c)).testBit j
      = if j < lo then a.testBit j else if j ≤ hi then x.testBit (j - lo) else c.testBit (j - (hi + 1)) := by
    intro x hx j
    rw [Nat.add_comm a, Nat.testBit_two_pow_mul_add _ hal]
    split
    · rfl
    · rw [Nat.add_comm x, Nat.testBit_two_pow_mul_add _ hx]
      have : (j - lo < hi + 1 - lo) ↔ j ≤ hi := by omega
      simp only [this]
      split
      · rfl
      · congr 1; omega
  rw [putFld, BitVec.getLsbD_ofNat, hn, bits _ (Nat.mod_lt _ (Nat.two_pow_pos _))]
  have hwi : w.getLsbD i = w.toNat.testBit i := (rfl)
  rw [hwi, hw, bits _ (fld_lt w hi lo), Nat.testBit_mod_two_pow]
  by_cases h1 : i < lo
  · have : ¬ (lo ≤ i ∧ i ≤ hi) := by omega
    simp [h1, this]; omega
  · by_cases h2 : i ≤ hi
    · have h3 : lo ≤ i ∧ i ≤ hi := by omega
      have h4 : i - lo < hi + 1 - lo := by omega
      have h5 : i < 32 := by omega
      simp [h1, h2, h3, h4, h5]
    · have : ¬ (lo ≤ i ∧ i ≤ hi) := by omega
      simp only [h1, h2, if_false]
      by_cases h6 : i < 32
      · simp [h6]
      · have h7 : c.testBit (i - (hi + 1)) = false := by
          rw [hc, Nat.testBit_shiftRight]
          have : w.toNat < 2 ^ (hi + 1 + (i - (hi + 1))) :=
            Nat.lt_of_lt_of_le w.isLt (Nat.pow_le_pow_right (by omega) (by omega))
          exact Nat.testBit_lt_two_pow this
        simp [h6, h7]

/-- A field that has been set reads as the value, cut to its width. -/
theorem fld_putFld_same (w : Word) (hi lo v : Nat) (h : hi < 32) (hl : lo ≤ hi) :
    fld (putFld w hi lo v) hi lo = v % 2 ^ (hi + 1 - lo) := by
  apply Nat.eq_of_testBit_eq
  intro i
  rw [fld, Nat.testBit_mod_two_pow, Nat.testBit_shiftRight, Nat.testBit_mod_two_pow]
  by_cases hi' : i < hi + 1 - lo
  · have := getLsbD_putFld w hi lo v (lo + i) h hl
    have h2 : lo ≤ lo + i ∧ lo + i ≤ hi := by omega
    rw [if_pos h2] at this
    simp only [BitVec.getLsbD] at this
    simp [hi', this]
  · simp [hi']

/-- A field outside one that has been set reads as before. -/
theorem fld_putFld_other (w : Word) (hi lo v hi' lo' : Nat) (h : hi < 32) (hl : lo ≤ hi) (hd : hi' < lo ∨ hi < lo') :
    fld (putFld w hi lo v) hi' lo' = fld w hi' lo' := by
  apply Nat.eq_of_testBit_eq
  intro i
  rw [fld, fld, Nat.testBit_mod_two_pow, Nat.testBit_shiftRight, Nat.testBit_mod_two_pow, Nat.testBit_shiftRight]
  by_cases hi2 : i < hi' + 1 - lo'
  · have := getLsbD_putFld w hi lo v (lo' + i) h hl
    have h2 : ¬ (lo ≤ lo' + i ∧ lo' + i ≤ hi) := by omega
    rw [if_neg h2] at this
    simp only [BitVec.getLsbD] at this
    simp [hi2, this]
  · simp [hi2]

/-- Setting a one-bit field. -/
theorem getLsbD_putBit (w : Word) (b i : Nat) (v : Bool) (h : b < 32) :
    (putFld w b b (bnat v)).getLsbD i = if i = b then v else w.getLsbD i := by
  rw [getLsbD_putFld w b b _ i h (Nat.le_refl b)]
  by_cases hb : i = b
  · subst hb; cases v <;> simp [bnat]
  · have : ¬ (b ≤ i ∧ i ≤ b) := by omega
    simp [hb, this]

/-- An event bit that has been raised reads 1, every other bit as before. -/
theorem getLsbD_raised (w : Word) (b i : Nat) (h : b < 32) :
    (w ||| BitVec.ofNat 32 (2 ^ b)).getLsbD i = (decide (i = b) || w.getLsbD i) := by
  simp only [BitVec.getLsbD_or, BitVec.getLsbD_ofNat, Nat.testBit_two_pow]
  by_cases hb : i = b
  · subst hb; simp [h]
  · have : ¬ b = i := fun e => hb e.symm
    simp [hb, this]

theorem wr_only (s : State) (o : Nat) (w : Word) : wr s o w = { s with regs := (wr s o w).regs } := (rfl)

@[simp] theorem getElem_putBit (w : Word) (b i : Nat) (v : Bool) (hb : b < 32) (hi : i < 32) :
    (putFld w b b (bnat v))[i] = if i = b then v else w[i] := by
  have := getLsbD_putBit w b i v hb
  simpa [BitVec.getLsbD_eq_getElem, hi] using this

@[simp] theorem getElem_raised (w : Word) (b i : Nat) (hb : b < 32) (hi : i < 32) :
    (w ||| BitVec.ofNat 32 (2 ^ b))[i] = (decide (i = b) || w[i]) := by
  have := getLsbD_raised w b i hb
  simpa [BitVec.getLsbD_eq_getElem, hi] using this

theorem getElem_rd (s : State) (o i : Nat) (hi : i < 32) : (rd s o)[i] = getB s o i := by
  simp [getB, BitVec.getLsbD_eq_getElem, hi]

/-! ### Fields of registers -/

/-- A field after a field has been set. -/
theorem getF_setF_same (s : State) (o hi lo v : Nat) (h : hi < 32) (hl : lo ≤ hi) (hv : v < 2 ^ (hi + 1 - lo)) : getF (setF s o hi lo v) o hi lo = v := by
  unfold getF setF
  rw [rd_wr_same, fld_putFld_same _ _ _ _ h hl, Nat.mod_eq_of_lt hv]

theorem getF_setF_other (s : State) (o hi lo v o' hi' lo' : Nat) (h : hi < 32) (hl : lo ≤ hi) (hd : o' ≠ o ∨ hi' < lo ∨ hi < lo') :
    getF (setF s o hi lo v) o' hi' lo' = getF s o' hi' lo' := by
  unfold getF setF
  rw [rd_wr]
  split
  · subst_vars
    rw [fld_putFld_other _ _ _ _ _ _ h hl (by simpa using hd)]
  · rfl

theorem getB_setB_same (s : State) (o b : Nat) (v : Bool) (h : b < 32) : getB (setB s o b v) o b = v := by
  unfold getB setB setF
  rw [rd_wr_same, getLsbD_putBit _ _ _ _ h]; simp

theorem getB_setB_other (s : State) (o b : Nat) (v : Bool) (o' b' : Nat) (h : b < 32) (hd : o' ≠ o ∨ b' ≠ b) :
    getB (setB s o b v) o' b' = getB s o' b' := by
  unfold getB setB setF
  rw [rd_wr]
  split
  · subst_vars
    rw [getLsbD_putBit _ _ _ _ h, if_neg (by simpa using hd)]
  · rfl

theorem getB_setF_other (s : State) (o hi lo v o' b : Nat) (h : hi < 32) (hl : lo ≤ hi) (hd : o' ≠ o ∨ b < lo ∨ hi < b) :
    getB (setF s o hi lo v) o' b = getB s o' b := by
  unfold getB setF
  rw [rd_wr]
  split
  · subst_vars
    rw [getLsbD_putFld _ _ _ _ _ h hl, if_neg (by simp at hd; omega)]
  · rfl

theorem getF_setB_other (s : State) (o b : Nat) (v : Bool) (o' hi lo : Nat) (h : b < 32) (hd : o' ≠ o ∨ hi < b ∨ b < lo) :
    getF (setB s o b v) o' hi lo = getF s o' hi lo := getF_setF_other s o b b _ o' hi lo h (Nat.le_refl b) hd

theorem getB_raise_same (s : State) (o b : Nat) (h : b < 32) : getB (raise s o b) o b = true := by
  unfold getB raise
  rw [rd_wr_same, getLsbD_raised _ _ _ h]; simp

theorem getB_raise_other (s : State) (o b o' b' : Nat) (h : b < 32) (hd : o' ≠ o ∨ b' ≠ b) : getB (raise s o b) o' b' = getB s o' b' := by
  unfold getB raise
  rw [rd_wr]
  split
  · subst_vars
    rw [getLsbD_raised _ _ _ h]; simp at hd; simp [hd]
  · rfl

theorem getF_wr_other (s : State) (o o' hi lo : Nat) (w : Word) (h : o' ≠ o) : getF (wr s o w) o' hi lo = getF s o' hi lo := by
  unfold getF; rw [rd_wr_ne s o o' w h]

theorem getB_wr_other (s : State) (o o' b : Nat) (w : Word) (h : o' ≠ o) : getB (wr s o w) o' b = getB s o' b := by
  unfold getB; rw [rd_wr_ne s o o' w h]

theorem getF_wr (s : State) (o o' hi lo : Nat) (w : Word) : getF (wr s o w) o' hi lo = if o' = o then fld w hi lo else getF s o' hi lo := by
  unfold getF; rw [rd_wr]; split <;> rfl

theorem getB_wr (s : State) (o o' b : Nat) (w : Word) : getB (wr s o w) o' b = if o' = o then w.getLsbD b else getB s o' b := by
  unfold getB; rw [rd_wr]; split <;> rfl

@[simp] theorem getF_wr_same (s : State) (o hi lo : Nat) (w : Word) : getF (wr s o w) o hi lo = fld w hi lo := by simp [getF_wr]

@[simp] theorem getB_wr_same (s : State) (o b : Nat) (w : Word) : getB (wr s o w) o b = w.getLsbD b := by simp [getB_wr]

@[simp] theorem fld_rd (s : State) (o hi lo : Nat) : fld (rd s o) hi lo = getF s o hi lo := (rfl)

@[simp] theorem getLsbD_rd (s : State) (o b : Nat) : (rd s o).getLsbD b = getB s o b := (rfl)

/-! ### Journal items -/

/-- A journal item changes the journals, the housekeeping counts, and the registers of the journals (0x4_0000 to 0x4_100F). -/
theorem jnlPut_only (s : State) (j ty st src : Nat) (pay : List Byte) (hj : j < 64) :
    ∃ r x h, jnlPut s j ty st src pay = { s with regs := r, jnl := x, house := h } ∧
      ∀ o, o < 0x40000 ∨ 0x41010 ≤ o → SMap.get resetWord r o = rd s o := by
  have key : ∀ o, o < 0x40000 ∨ 0x41010 ≤ o → o ≠ jnlR j 0x30 ∧ o ≠ 0x4100C ∧ o ≠ 0x41000 := by
    intro o ho; unfold jnlR; omega
  have put : ∀ (t : State), (∃ r x h, t = { s with regs := r, jnl := x, house := h } ∧
      ∀ o, o < 0x40000 ∨ 0x41010 ≤ o → SMap.get resetWord r o = rd s o) → ∀ a w, (a = jnlR j 0x30 ∨ a = 0x4100C ∨ a = 0x41000) →
      ∃ r x h, wr t a w = { s with regs := r, jnl := x, house := h } ∧
      ∀ o, o < 0x40000 ∨ 0x41010 ≤ o → SMap.get resetWord r o = rd s o := by
    rintro t ⟨r, x, h, rfl, hr⟩ a w ha
    refine ⟨_, x, h, rfl, fun o ho => ?_⟩
    have := key o ho
    rw [SMap.get_set_ne _ _ _ _ _ (by rcases ha with rfl | rfl | rfl <;> omega)]
    exact hr o ho
  unfold jnlPut
  simp only
  split
  · exact put s ⟨_, _, _, rfl, fun _ _ => rfl⟩ _ _ (.inl rfl)
  · split
    · exact ⟨s.regs, _, s.house, rfl, fun _ _ => rfl⟩
    · split
      · exact put _ ⟨_, _, s.house, rfl, fun _ _ => rfl⟩ _ _ (.inl rfl)
      · have h0 := put (setJnl s j (jnlAppend (jnlAt s j) 0xFF st 0 (leBytes 4 1 ++ leBytes 8 st ++ [BitVec.ofNat 8 ty])))
          ⟨_, _, s.house, rfl, fun _ _ => rfl⟩
        generalize setJnl s j (jnlAppend (jnlAt s j) 0xFF st 0 (leBytes 4 1 ++ leBytes 8 st ++ [BitVec.ofNat 8 ty])) = t0 at h0
        have h1 := h0 (jnlR j 0x30) (rd t0 (jnlR j 0x30) + 1#32) (.inl rfl)
        have h2 := put _ h1 0x4100C (rd (incC t0 (jnlR j 0x30)) 0x4100C + 1#32) (.inr (.inl rfl))
        have h3 := put _ h2 0x41000 (rd (incC (incC t0 (jnlR j 0x30)) 0x4100C) 0x41000 ||| BitVec.ofNat 32 (2 ^ 1)) (.inr (.inr rfl))
        obtain ⟨r, x, h, e, hr⟩ := h3
        have e2 : raise (incC (incC t0 (jnlR j 0x30)) 0x4100C) 0x41000 1 = { s with regs := r, jnl := x, house := h } := e
        exact ⟨r, x, _, by rw [e2, houseAdd, houseSet], hr⟩

/-- The same of an item that an EVT_JNL field sends. -/
theorem evtItem_only (s : State) (o lo ty src : Nat) (pay : List Byte) :
    ∃ r x h, evtItem s o lo ty src pay = { s with regs := r, jnl := x, house := h } ∧
      ∀ k, k < 0x40000 ∨ 0x41010 ≤ k → SMap.get resetWord r k = rd s k := by
  unfold evtItem
  split
  · refine jnlPut_only s _ ty (stampNow s) src pay ?_
    have := fld_lt (rd s o) (lo + 5) lo
    have e : lo + 5 + 1 - lo = 6 := by omega
    rw [e] at this
    exact this
  · exact ⟨s.regs, s.jnl, s.house, rfl, fun _ _ => rfl⟩

theorem rd_jnlPut (s : State) (j ty st src : Nat) (pay : List Byte) (o : Nat) (hj : j < 64) (h : o < 0x40000 ∨ 0x41010 ≤ o) :
    rd (jnlPut s j ty st src pay) o = rd s o := by
  obtain ⟨r, x, h', e, hr⟩ := jnlPut_only s j ty st src pay hj
  rw [e]; exact hr o h

theorem rd_evtItem (s : State) (o lo ty src : Nat) (pay : List Byte) (k : Nat) (h : k < 0x40000 ∨ 0x41010 ≤ k) :
    rd (evtItem s o lo ty src pay) k = rd s k := by
  obtain ⟨r, x, h', e, hr⟩ := evtItem_only s o lo ty src pay
  rw [e]; exact hr k h

@[simp] theorem evtItem_pending (s : State) (o lo ty src : Nat) (pay : List Byte) : (evtItem s o lo ty src pay).pending = s.pending := by
  obtain ⟨r, x, h, e, -⟩ := evtItem_only s o lo ty src pay; rw [e]

@[simp] theorem evtItem_refActive (s : State) (o lo ty src : Nat) (pay : List Byte) : (evtItem s o lo ty src pay).refActive = s.refActive := by
  obtain ⟨r, x, h, e, -⟩ := evtItem_only s o lo ty src pay; rw [e]

@[simp] theorem evtItem_hiLatch (s : State) (o lo ty src : Nat) (pay : List Byte) : (evtItem s o lo ty src pay).hiLatch = s.hiLatch := by
  obtain ⟨r, x, h, e, -⟩ := evtItem_only s o lo ty src pay; rw [e]

@[simp] theorem evtItem_armed (s : State) (o lo ty src : Nat) (pay : List Byte) : (evtItem s o lo ty src pay).armed = s.armed := by
  obtain ⟨r, x, h, e, -⟩ := evtItem_only s o lo ty src pay; rw [e]

@[simp] theorem evtItem_tri (s : State) (o lo ty src : Nat) (pay : List Byte) : (evtItem s o lo ty src pay).tri = s.tri := by
  obtain ⟨r, x, h, e, -⟩ := evtItem_only s o lo ty src pay; rw [e]

@[simp] theorem evtItem_tbl (s : State) (o lo ty src : Nat) (pay : List Byte) : (evtItem s o lo ty src pay).tbl = s.tbl := by
  obtain ⟨r, x, h, e, -⟩ := evtItem_only s o lo ty src pay; rw [e]

@[simp] theorem evtItem_shadow (s : State) (o lo ty src : Nat) (pay : List Byte) : (evtItem s o lo ty src pay).shadow = s.shadow := by
  obtain ⟨r, x, h, e, -⟩ := evtItem_only s o lo ty src pay; rw [e]

@[simp] theorem evtItem_pay (s : State) (o lo ty src : Nat) (pay : List Byte) : (evtItem s o lo ty src pay).pay = s.pay := by
  obtain ⟨r, x, h, e, -⟩ := evtItem_only s o lo ty src pay; rw [e]

@[simp] theorem evtItem_mem (s : State) (o lo ty src : Nat) (pay : List Byte) : (evtItem s o lo ty src pay).mem = s.mem := by
  obtain ⟨r, x, h, e, -⟩ := evtItem_only s o lo ty src pay; rw [e]

@[simp] theorem evtItem_slots (s : State) (o lo ty src : Nat) (pay : List Byte) : (evtItem s o lo ty src pay).slots = s.slots := by
  obtain ⟨r, x, h, e, -⟩ := evtItem_only s o lo ty src pay; rw [e]

@[simp] theorem evtItem_smt (s : State) (o lo ty src : Nat) (pay : List Byte) : (evtItem s o lo ty src pay).smt = s.smt := by
  obtain ⟨r, x, h, e, -⟩ := evtItem_only s o lo ty src pay; rw [e]

@[simp] theorem evtItem_can (s : State) (o lo ty src : Nat) (pay : List Byte) : (evtItem s o lo ty src pay).can = s.can := by
  obtain ⟨r, x, h, e, -⟩ := evtItem_only s o lo ty src pay; rw [e]

@[simp] theorem evtItem_obj (s : State) (o lo ty src : Nat) (pay : List Byte) : (evtItem s o lo ty src pay).obj = s.obj := by
  obtain ⟨r, x, h, e, -⟩ := evtItem_only s o lo ty src pay; rw [e]

@[simp] theorem evtItem_tst (s : State) (o lo ty src : Nat) (pay : List Byte) : (evtItem s o lo ty src pay).tst = s.tst := by
  obtain ⟨r, x, h, e, -⟩ := evtItem_only s o lo ty src pay; rw [e]

@[simp] theorem evtItem_reqSeq (s : State) (o lo ty src : Nat) (pay : List Byte) : (evtItem s o lo ty src pay).reqSeq = s.reqSeq := by
  obtain ⟨r, x, h, e, -⟩ := evtItem_only s o lo ty src pay; rw [e]

@[simp] theorem evtItem_copyNext (s : State) (o lo ty src : Nat) (pay : List Byte) : (evtItem s o lo ty src pay).copyNext = s.copyNext := by
  obtain ⟨r, x, h, e, -⟩ := evtItem_only s o lo ty src pay; rw [e]

@[simp] theorem evtItem_copies (s : State) (o lo ty src : Nat) (pay : List Byte) : (evtItem s o lo ty src pay).copies = s.copies := by
  obtain ⟨r, x, h, e, -⟩ := evtItem_only s o lo ty src pay; rw [e]

@[simp] theorem evtItem_carriers (s : State) (o lo ty src : Nat) (pay : List Byte) : (evtItem s o lo ty src pay).carriers = s.carriers := by
  obtain ⟨r, x, h, e, -⟩ := evtItem_only s o lo ty src pay; rw [e]

@[simp] theorem evtItem_work2 (s : State) (o lo ty src : Nat) (pay : List Byte) : (evtItem s o lo ty src pay).work2 = s.work2 := by
  obtain ⟨r, x, h, e, -⟩ := evtItem_only s o lo ty src pay; rw [e]

@[simp] theorem evtItem_comps (s : State) (o lo ty src : Nat) (pay : List Byte) : (evtItem s o lo ty src pay).comps = s.comps := by
  obtain ⟨r, x, h, e, -⟩ := evtItem_only s o lo ty src pay; rw [e]

@[simp] theorem evtItem_runs (s : State) (o lo ty src : Nat) (pay : List Byte) : (evtItem s o lo ty src pay).runs = s.runs := by
  obtain ⟨r, x, h, e, -⟩ := evtItem_only s o lo ty src pay; rw [e]

@[simp] theorem evtItem_parked (s : State) (o lo ty src : Nat) (pay : List Byte) : (evtItem s o lo ty src pay).parked = s.parked := by
  obtain ⟨r, x, h, e, -⟩ := evtItem_only s o lo ty src pay; rw [e]

@[simp] theorem evtItem_desc (s : State) (o lo ty src : Nat) (pay : List Byte) : (evtItem s o lo ty src pay).desc = s.desc := by
  obtain ⟨r, x, h, e, -⟩ := evtItem_only s o lo ty src pay; rw [e]

@[simp] theorem evtItem_inForce (s : State) (o lo ty src : Nat) (pay : List Byte) : (evtItem s o lo ty src pay).inForce = s.inForce := by
  obtain ⟨r, x, h, e, -⟩ := evtItem_only s o lo ty src pay; rw [e]
@[simp] theorem evtItem_relocs (s : State) (o lo ty src : Nat) (pay : List Byte) : (evtItem s o lo ty src pay).relocs = s.relocs := by
  obtain ⟨r, x, h, e, -⟩ := evtItem_only s o lo ty src pay; rw [e]
@[simp] theorem evtItem_motLog (s : State) (o lo ty src : Nat) (pay : List Byte) : (evtItem s o lo ty src pay).motLog = s.motLog := by
  obtain ⟨r, x, h, e, -⟩ := evtItem_only s o lo ty src pay; rw [e]
@[simp] theorem evtItem_poolZero (s : State) (o lo ty src : Nat) (pay : List Byte) : (evtItem s o lo ty src pay).poolZero = s.poolZero := by
  obtain ⟨r, x, h, e, -⟩ := evtItem_only s o lo ty src pay; rw [e]
@[simp] theorem evtItem_scanHeld (s : State) (o lo ty src : Nat) (pay : List Byte) : (evtItem s o lo ty src pay).scanHeld = s.scanHeld := by
  obtain ⟨r, x, h, e, -⟩ := evtItem_only s o lo ty src pay; rw [e]
@[simp] theorem evtItem_serdes (s : State) (o lo ty src : Nat) (pay : List Byte) : (evtItem s o lo ty src pay).serdes = s.serdes := by
  obtain ⟨r, x, h, e, -⟩ := evtItem_only s o lo ty src pay; rw [e]


@[simp] theorem evtItem_cache (s : State) (o lo ty src : Nat) (pay : List Byte) : (evtItem s o lo ty src pay).cache = s.cache := by
  obtain ⟨r, x, h, e, -⟩ := evtItem_only s o lo ty src pay; rw [e]

@[simp] theorem evtItem_passes (s : State) (o lo ty src : Nat) (pay : List Byte) : (evtItem s o lo ty src pay).passes = s.passes := by
  obtain ⟨r, x, h, e, -⟩ := evtItem_only s o lo ty src pay; rw [e]

@[simp] theorem evtItem_sweepPauseAt (s : State) (o lo ty src : Nat) (pay : List Byte) : (evtItem s o lo ty src pay).sweepPauseAt = s.sweepPauseAt := by
  obtain ⟨r, x, h, e, -⟩ := evtItem_only s o lo ty src pay; rw [e]

@[simp] theorem evtItem_sweepRunFrom (s : State) (o lo ty src : Nat) (pay : List Byte) : (evtItem s o lo ty src pay).sweepRunFrom = s.sweepRunFrom := by
  obtain ⟨r, x, h, e, -⟩ := evtItem_only s o lo ty src pay; rw [e]

@[simp] theorem evtItem_mir (s : State) (o lo ty src : Nat) (pay : List Byte) : (evtItem s o lo ty src pay).mir = s.mir := by
  obtain ⟨r, x, h, e, -⟩ := evtItem_only s o lo ty src pay; rw [e]

@[simp] theorem evtItem_time (s : State) (o lo ty src : Nat) (pay : List Byte) : (evtItem s o lo ty src pay).time = s.time := by
  obtain ⟨r, x, h, e, -⟩ := evtItem_only s o lo ty src pay; rw [e]

@[simp] theorem evtItem_ring (s : State) (o lo ty src : Nat) (pay : List Byte) : (evtItem s o lo ty src pay).ring = s.ring := by
  obtain ⟨r, x, h, e, -⟩ := evtItem_only s o lo ty src pay; rw [e]

@[simp] theorem evtItem_mbx (s : State) (o lo ty src : Nat) (pay : List Byte) : (evtItem s o lo ty src pay).mbx = s.mbx := by
  obtain ⟨r, x, h, e, -⟩ := evtItem_only s o lo ty src pay; rw [e]

@[simp] theorem evtItem_script (s : State) (o lo ty src : Nat) (pay : List Byte) : (evtItem s o lo ty src pay).script = s.script := by
  obtain ⟨r, x, h, e, -⟩ := evtItem_only s o lo ty src pay; rw [e]

@[simp] theorem evtItem_irq (s : State) (o lo ty src : Nat) (pay : List Byte) : (evtItem s o lo ty src pay).irq = s.irq := by
  obtain ⟨r, x, h, e, -⟩ := evtItem_only s o lo ty src pay; rw [e]

@[simp] theorem evtItem_sw (s : State) (o lo ty src : Nat) (pay : List Byte) : (evtItem s o lo ty src pay).sw = s.sw := by
  obtain ⟨r, x, h, e, -⟩ := evtItem_only s o lo ty src pay; rw [e]

@[simp] theorem evtItem_eth (s : State) (o lo ty src : Nat) (pay : List Byte) : (evtItem s o lo ty src pay).eth = s.eth := by
  obtain ⟨r, x, h, e, -⟩ := evtItem_only s o lo ty src pay; rw [e]

@[simp] theorem evtItem_fwd (s : State) (o lo ty src : Nat) (pay : List Byte) : (evtItem s o lo ty src pay).fwd = s.fwd := by
  obtain ⟨r, x, h, e, -⟩ := evtItem_only s o lo ty src pay; rw [e]

@[simp] theorem evtItem_sec (s : State) (o lo ty src : Nat) (pay : List Byte) : (evtItem s o lo ty src pay).sec = s.sec := by
  obtain ⟨r, x, h, e, -⟩ := evtItem_only s o lo ty src pay; rw [e]

@[simp] theorem evtItem_dev (s : State) (o lo ty src : Nat) (pay : List Byte) : (evtItem s o lo ty src pay).dev = s.dev := by
  obtain ⟨r, x, h, e, -⟩ := evtItem_only s o lo ty src pay; rw [e]

@[simp] theorem evtItem_clk (s : State) (o lo ty src : Nat) (pay : List Byte) : (evtItem s o lo ty src pay).clk = s.clk := by
  obtain ⟨r, x, h, e, -⟩ := evtItem_only s o lo ty src pay; rw [e]

@[simp] theorem evtItem_boot (s : State) (o lo ty src : Nat) (pay : List Byte) : (evtItem s o lo ty src pay).boot = s.boot := by
  obtain ⟨r, x, h, e, -⟩ := evtItem_only s o lo ty src pay; rw [e]

@[simp] theorem evtItem_otp (s : State) (o lo ty src : Nat) (pay : List Byte) : (evtItem s o lo ty src pay).otp = s.otp := by
  obtain ⟨r, x, h, e, -⟩ := evtItem_only s o lo ty src pay; rw [e]

@[simp] theorem evtItem_flash (s : State) (o lo ty src : Nat) (pay : List Byte) : (evtItem s o lo ty src pay).flash = s.flash := by
  obtain ⟨r, x, h, e, -⟩ := evtItem_only s o lo ty src pay; rw [e]

@[simp] theorem evtItem_upd (s : State) (o lo ty src : Nat) (pay : List Byte) : (evtItem s o lo ty src pay).upd = s.upd := by
  obtain ⟨r, x, h, e, -⟩ := evtItem_only s o lo ty src pay; rw [e]

@[simp] theorem evtItem_lan (s : State) (o lo ty src : Nat) (pay : List Byte) : (evtItem s o lo ty src pay).lan = s.lan := by
  obtain ⟨r, x, h, e, -⟩ := evtItem_only s o lo ty src pay; rw [e]

@[simp] theorem evtItem_bud (s : State) (o lo ty src : Nat) (pay : List Byte) : (evtItem s o lo ty src pay).bud = s.bud := by
  obtain ⟨r, x, h, e, -⟩ := evtItem_only s o lo ty src pay; rw [e]

@[simp] theorem evtItem_pcie (s : State) (o lo ty src : Nat) (pay : List Byte) : (evtItem s o lo ty src pay).pcie = s.pcie := by
  obtain ⟨r, x, h, e, -⟩ := evtItem_only s o lo ty src pay; rw [e]

@[simp] theorem evtItem_ticks (s : State) (o lo ty src : Nat) (pay : List Byte) : (evtItem s o lo ty src pay).ticks = s.ticks := by
  obtain ⟨r, x, h, e, -⟩ := evtItem_only s o lo ty src pay; rw [e]

@[simp] theorem evtItem_free (s : State) (o lo ty src : Nat) (pay : List Byte) : (evtItem s o lo ty src pay).free = s.free := by
  obtain ⟨r, x, h, e, -⟩ := evtItem_only s o lo ty src pay; rw [e]

@[simp] theorem evtItem_out (s : State) (o lo ty src : Nat) (pay : List Byte) : (evtItem s o lo ty src pay).out = s.out := by
  obtain ⟨r, x, h, e, -⟩ := evtItem_only s o lo ty src pay; rw [e]

/-! ### Free values -/

@[simp] theorem fresh_fst (s : State) : (fresh s).1 = (Config.freeValue s.free).toNat := (rfl)

@[simp] theorem fresh_snd (s : State) : (fresh s).2 = { s with free := s.free + 1 } := (rfl)

/-! ### The end of every command -/

@[simp] theorem done_eq (s : State) : done s = .next (settle s) := (rfl)

/-- `settle` changes the interrupt controller and sends messages; nothing else. -/
theorem settle_only (s : State) : settle s = { s with irq := (settle s).irq, out := (settle s).out } := (rfl)

/-- Nothing that has been sent is taken back. -/
theorem settle_out (s : State) : (settle s).out = s.out ++ settledOut s := (rfl)

end Sys2Proof.Machine
end

