-- ==== Sys2Proof/Laws/Bud.lean ====
section
/-!
SUPPORT. Sys2Proof/Laws/Bud.lean: what the buddy stream's shared operations do: an input to paired state changes the stream, what is sent and
BUD_SEQ (0x8_0018) alone.
-/
namespace Sys2Proof.Machine

theorem budRecord_only (s : State) (ty : Nat) (p : List Byte) :
    ∃ b o, budRecord s ty p = { s with bud := b, out := o } ∧ b.gate = s.bud.gate ∧ b.canGate = s.bud.canGate := ⟨_, _, rfl, rfl, rfl⟩

/-- A record for the partner, and before it a digest that is due. -/
theorem budInput_only (s : State) (ty : Nat) (p : List Byte) :
    ∃ r b o, budInput s ty p = { s with regs := r, bud := b, out := o } ∧ (∀ k, k ≠ 0x80018 → SMap.get resetWord r k = rd s k) ∧
      b.canGate = s.bud.canGate ∧ b.gate = s.bud.gate ∧ b.executing = s.bud.executing ∧ b.choice = s.bud.choice
      ∧ b.override = s.bud.override ∧ b.failed = s.bud.failed := by
  unfold budInput digestDue
  split
  · split
    · exact ⟨_, _, _, rfl, fun k hk => SMap.get_set_ne _ _ _ _ _ hk, rfl, rfl, rfl, rfl, rfl, rfl⟩
    · exact ⟨_, _, _, rfl, fun k hk => SMap.get_set_ne _ _ _ _ _ hk, rfl, rfl, rfl, rfl, rfl, rfl⟩
  · exact ⟨s.regs, s.bud, s.out, rfl, fun _ _ => rfl, rfl, rfl, rfl, rfl, rfl, rfl⟩

theorem rd_budInput (s : State) (ty : Nat) (p : List Byte) (k : Nat) (h : k ≠ 0x80018) : rd (budInput s ty p) k = rd s k := by
  obtain ⟨r, b, o, e, hr, -⟩ := budInput_only s ty p
  rw [e]; exact hr k h

/-- What the stream leaves of a state: everything but the stream itself, what is sent, and BUD_SEQ. -/
structure Streamed (s a : State) : Prop where
  eq : a = { s with regs := a.regs, bud := a.bud, out := a.out }
  rd : ∀ k, k ≠ 0x80018 → rd a k = rd s k
  canGate : a.bud.canGate = s.bud.canGate
  executing : a.bud.executing = s.bud.executing
  override : a.bud.override = s.bud.override
  failed : a.bud.failed = s.bud.failed

theorem budInput_streamed (s : State) (ty : Nat) (p : List Byte) : Streamed s (budInput s ty p) := by
  obtain ⟨r, b, o, e, hr, h1, -, h2, -, h3, h4⟩ := budInput_only s ty p
  rw [e]
  exact ⟨rfl, hr, h1, h2, h3, h4⟩

theorem Streamed.pending {s a : State} (h : Streamed s a) : a.pending = s.pending := by rw [h.eq]
theorem Streamed.refActive {s a : State} (h : Streamed s a) : a.refActive = s.refActive := by rw [h.eq]
theorem Streamed.hiLatch {s a : State} (h : Streamed s a) : a.hiLatch = s.hiLatch := by rw [h.eq]
theorem Streamed.armed {s a : State} (h : Streamed s a) : a.armed = s.armed := by rw [h.eq]
theorem Streamed.tri {s a : State} (h : Streamed s a) : a.tri = s.tri := by rw [h.eq]
theorem Streamed.tbl {s a : State} (h : Streamed s a) : a.tbl = s.tbl := by rw [h.eq]
theorem Streamed.shadow {s a : State} (h : Streamed s a) : a.shadow = s.shadow := by rw [h.eq]
theorem Streamed.pay {s a : State} (h : Streamed s a) : a.pay = s.pay := by rw [h.eq]
theorem Streamed.mem {s a : State} (h : Streamed s a) : a.mem = s.mem := by rw [h.eq]
theorem Streamed.slots {s a : State} (h : Streamed s a) : a.slots = s.slots := by rw [h.eq]
theorem Streamed.smt {s a : State} (h : Streamed s a) : a.smt = s.smt := by rw [h.eq]
theorem Streamed.can {s a : State} (h : Streamed s a) : a.can = s.can := by rw [h.eq]
theorem Streamed.obj {s a : State} (h : Streamed s a) : a.obj = s.obj := by rw [h.eq]
theorem Streamed.tst {s a : State} (h : Streamed s a) : a.tst = s.tst := by rw [h.eq]
theorem Streamed.reqSeq {s a : State} (h : Streamed s a) : a.reqSeq = s.reqSeq := by rw [h.eq]
theorem Streamed.copyNext {s a : State} (h : Streamed s a) : a.copyNext = s.copyNext := by rw [h.eq]
theorem Streamed.copies {s a : State} (h : Streamed s a) : a.copies = s.copies := by rw [h.eq]
theorem Streamed.carriers {s a : State} (h : Streamed s a) : a.carriers = s.carriers := by rw [h.eq]
theorem Streamed.work2 {s a : State} (h : Streamed s a) : a.work2 = s.work2 := by rw [h.eq]
theorem Streamed.comps {s a : State} (h : Streamed s a) : a.comps = s.comps := by rw [h.eq]
theorem Streamed.runs {s a : State} (h : Streamed s a) : a.runs = s.runs := by rw [h.eq]
theorem Streamed.parked {s a : State} (h : Streamed s a) : a.parked = s.parked := by rw [h.eq]
theorem Streamed.desc {s a : State} (h : Streamed s a) : a.desc = s.desc := by rw [h.eq]
theorem Streamed.inForce {s a : State} (h : Streamed s a) : a.inForce = s.inForce := by rw [h.eq]
theorem Streamed.relocs {s a : State} (h : Streamed s a) : a.relocs = s.relocs := by rw [h.eq]
theorem Streamed.motLog {s a : State} (h : Streamed s a) : a.motLog = s.motLog := by rw [h.eq]
theorem Streamed.poolZero {s a : State} (h : Streamed s a) : a.poolZero = s.poolZero := by rw [h.eq]
theorem Streamed.scanHeld {s a : State} (h : Streamed s a) : a.scanHeld = s.scanHeld := by rw [h.eq]
theorem Streamed.serdes {s a : State} (h : Streamed s a) : a.serdes = s.serdes := by rw [h.eq]
theorem Streamed.cache {s a : State} (h : Streamed s a) : a.cache = s.cache := by rw [h.eq]
theorem Streamed.passes {s a : State} (h : Streamed s a) : a.passes = s.passes := by rw [h.eq]
theorem Streamed.sweepPauseAt {s a : State} (h : Streamed s a) : a.sweepPauseAt = s.sweepPauseAt := by rw [h.eq]
theorem Streamed.sweepRunFrom {s a : State} (h : Streamed s a) : a.sweepRunFrom = s.sweepRunFrom := by rw [h.eq]
theorem Streamed.mir {s a : State} (h : Streamed s a) : a.mir = s.mir := by rw [h.eq]
theorem Streamed.time {s a : State} (h : Streamed s a) : a.time = s.time := by rw [h.eq]
theorem Streamed.jnl {s a : State} (h : Streamed s a) : a.jnl = s.jnl := by rw [h.eq]
theorem Streamed.ring {s a : State} (h : Streamed s a) : a.ring = s.ring := by rw [h.eq]
theorem Streamed.mbx {s a : State} (h : Streamed s a) : a.mbx = s.mbx := by rw [h.eq]
theorem Streamed.script {s a : State} (h : Streamed s a) : a.script = s.script := by rw [h.eq]
theorem Streamed.irq {s a : State} (h : Streamed s a) : a.irq = s.irq := by rw [h.eq]
theorem Streamed.sw {s a : State} (h : Streamed s a) : a.sw = s.sw := by rw [h.eq]
theorem Streamed.eth {s a : State} (h : Streamed s a) : a.eth = s.eth := by rw [h.eq]
theorem Streamed.fwd {s a : State} (h : Streamed s a) : a.fwd = s.fwd := by rw [h.eq]
theorem Streamed.sec {s a : State} (h : Streamed s a) : a.sec = s.sec := by rw [h.eq]
theorem Streamed.dev {s a : State} (h : Streamed s a) : a.dev = s.dev := by rw [h.eq]
theorem Streamed.clk {s a : State} (h : Streamed s a) : a.clk = s.clk := by rw [h.eq]
theorem Streamed.boot {s a : State} (h : Streamed s a) : a.boot = s.boot := by rw [h.eq]
theorem Streamed.otp {s a : State} (h : Streamed s a) : a.otp = s.otp := by rw [h.eq]
theorem Streamed.flash {s a : State} (h : Streamed s a) : a.flash = s.flash := by rw [h.eq]
theorem Streamed.upd {s a : State} (h : Streamed s a) : a.upd = s.upd := by rw [h.eq]
theorem Streamed.lan {s a : State} (h : Streamed s a) : a.lan = s.lan := by rw [h.eq]
theorem Streamed.pcie {s a : State} (h : Streamed s a) : a.pcie = s.pcie := by rw [h.eq]
theorem Streamed.ticks {s a : State} (h : Streamed s a) : a.ticks = s.ticks := by rw [h.eq]
theorem Streamed.free {s a : State} (h : Streamed s a) : a.free = s.free := by rw [h.eq]
theorem Streamed.house {s a : State} (h : Streamed s a) : a.house = s.house := by rw [h.eq]

theorem Streamed.getF {s a : State} (h : Streamed s a) (o hi lo : Nat) (ho : o ≠ 0x80018) : getF a o hi lo = getF s o hi lo := by
  unfold Machine.getF; rw [h.rd o ho]

theorem Streamed.getB {s a : State} (h : Streamed s a) (o b : Nat) (ho : o ≠ 0x80018) : getB a o b = getB s o b := by
  unfold Machine.getB; rw [h.rd o ho]

theorem Streamed.refl (s : State) : Streamed s s := ⟨rfl, fun _ _ => rfl, rfl, rfl, rfl, rfl⟩

/-- A paired block whose unit is not STANDBY takes the write. -/
theorem pairedWrite_open (s : State) (q : Requester) (off : Nat) (data : Word) (op : State → State) (h : budMode s ≠ 2) :
    ∃ a, pairedWrite s q off data op = op a ∧ Streamed s a :=
  ⟨_, by rw [pairedWrite, if_neg h], budInput_streamed ..⟩

/-- R455: in STANDBY it is counted and ignored. -/
theorem pairedWrite_standby (s : State) (q : Requester) (off : Nat) (data : Word) (op : State → State) (h : budMode s = 2) :
    pairedWrite s q off data op = incC s 0x80054 := by rw [pairedWrite, if_pos h]; rfl

/-- A firing on a unit that is not STANDBY. -/
theorem pairedFire_open (s : State) (k i : Nat) (op : State → State) (h : budMode s ≠ 2) :
    ∃ a, pairedFire s k i op = op a ∧ Streamed s a :=
  ⟨_, by rw [pairedFire, if_neg h], budInput_streamed ..⟩

theorem pairedFire_standby (s : State) (k i : Nat) (op : State → State) (h : budMode s = 2) :
    pairedFire s k i op = s := by rw [pairedFire, if_pos h]

end Sys2Proof.Machine
end

