-- ==== Sys2Proof/Laws/Frames.lean ====
section
/-!
SUPPORT. Sys2Proof/Laws/Frames.lean: how frames are put together: kept registers, the frames OnlyRegs and OnlyRegsOf, cleared counters.
-/
namespace Sys2Proof.Machine

theorem RegsKept.refl (s : State) (l : List Nat) : RegsKept s s l := fun _ _ => rfl

theorem RegsKept.trans {s a t : State} {l l' : List Nat} (h : RegsKept s a l) (h' : RegsKept a t l') : RegsKept s t (l ++ l') := by
  intro o ho; simp at ho; rw [h' o ho.2, h o ho.1]

theorem RegsKept.mono {s t : State} {l l' : List Nat} (h : RegsKept s t l) (hl : ∀ o ∈ l, o ∈ l') : RegsKept s t l' :=
  fun o ho => h o fun h' => ho (hl o h')

theorem RegsKept.wr {s a : State} {l : List Nat} (h : RegsKept s a l) (o : Nat) (w : Word) (ho : o ∈ l) : RegsKept s (wr a o w) l := by
  intro k hk
  have : k ≠ o := fun e => hk (e ▸ ho)
  rw [rd_wr, if_neg this]; exact h k hk

theorem RegsKept.of_regs {s t : State} (h : t.regs = s.regs) (l : List Nat) : RegsKept s t l := fun o _ => by unfold rd; rw [h]

theorem memKept_of {s t : State} (h : t.mem = s.mem) : MemKept s t := fun a => by unfold memByte; rw [h]

theorem reqNo_inj (q q' : Requester) (h : reqNo q = reqNo q') : q = q' := by
  cases q <;> cases q' <;> simp [reqNo] at h ⊢ <;> (try omega) <;> exact Fin.ext (by omega)

theorem rd_zeroAll (l : List Nat) (s : State) (o : Nat) : rd (zeroAll s l) o = if o ∈ l then 0 else rd s o := by
  induction l generalizing s with
  | nil => simp [zeroAll]
  | cons a l ih =>
    rw [zeroAll, ih, rd_wr]; by_cases h : o ∈ l <;> by_cases h' : o = a <;> simp [h, h']

theorem zeroAll_only (l : List Nat) (s : State) : zeroAll s l = { s with regs := (zeroAll s l).regs } := by
  induction l generalizing s with
  | nil => rfl
  | cons a l ih => rw [zeroAll, ih]; rfl

theorem zeroAll_kept (l : List Nat) (s : State) : RegsKept s (zeroAll s l) l := fun o ho => by simp [rd_zeroAll, ho]

/-- The second state differs from the first in its registers alone. -/
def RegsOnly (s t : State) : Prop := t = { s with regs := t.regs }

theorem RegsOnly.refl (s : State) : RegsOnly s s := rfl

theorem RegsOnly.trans {s a t : State} (h : RegsOnly s a) (h' : RegsOnly a t) : RegsOnly s t := by
  unfold RegsOnly at *; rw [h', h]

theorem RegsOnly.wr {s a : State} (h : RegsOnly s a) (o : Nat) (w : Word) : RegsOnly s (wr a o w) := h.trans rfl

theorem RegsOnly.setF {s a : State} (h : RegsOnly s a) (o hi lo v : Nat) : RegsOnly s (setF a o hi lo v) := h.trans rfl

theorem RegsOnly.setB {s a : State} (h : RegsOnly s a) (o b : Nat) (v : Bool) : RegsOnly s (setB a o b v) := h.trans rfl

theorem RegsOnly.raise {s a : State} (h : RegsOnly s a) (o b : Nat) : RegsOnly s (raise a o b) := h.trans rfl

theorem RegsOnly.ite {s a b : State} {p : Prop} [Decidable p] (h : RegsOnly s a) (h' : RegsOnly s b) : RegsOnly s (if p then a else b) := by
  split <;> assumption

/-- A command that ends in a register-only operation. -/
theorem onlyRegs_of {s b : State} {l : List Nat} (hb : b = { s with regs := b.regs }) (hr : RegsKept s b l) : OnlyRegs s (settle b) l :=
  ⟨by rw [hb]; rfl, hr⟩

/-- A register write of a requester that ends in a register-only operation, after what the buddy stream takes. -/
theorem onlyRegsOf_of {s a b : State} {l : List Nat} (q : Requester) (h : Streamed s a) (hb : b = { a with regs := b.regs })
    (hr : RegsKept a b l) : OnlyRegsOf q s (settle (disarm b q)) l := by
  refine ⟨?_, ?_, ?_⟩
  · rw [hb, h.eq]; rfl
  · intro o ho; simp at ho
    exact (hr o ho.2).trans (h.rd o ho.1)
  · intro q' hq
    have hr : reqNo q' ≠ reqNo q := fun e => hq (reqNo_inj _ _ e)
    have e : b.armed = s.armed := by rw [hb]; exact h.armed
    show armed (setArmed b q false) q' = _
    rw [armed_setArmed, if_neg hr]; unfold armed; rw [e]

/-! ### Registers and journal items -/

/-- The second state differs from the first in the register words of `l`, in the journals with their registers, and in the count of their items. -/
def Noted (s a : State) (l : List Nat) : Prop :=
  a = { s with regs := a.regs, jnl := a.jnl, house := a.house } ∧ ∀ o, o ∉ l → (o < 0x40000 ∨ 0x41010 ≤ o) → rd a o = rd s o

theorem Noted.refl (s : State) (l : List Nat) : Noted s s l := ⟨rfl, fun _ _ _ => rfl⟩

theorem Noted.trans {s a b : State} {l : List Nat} (h : Noted s a l) (h' : Noted a b l) : Noted s b l := by
  refine ⟨?_, fun o ho hk => (h'.2 o ho hk).trans (h.2 o ho hk)⟩
  have h1 := h.1; have h2 := h'.1
  rw [h2, h1]

theorem Noted.wr {s a : State} {l : List Nat} (h : Noted s a l) (o : Nat) (w : Word) (ho : o ∈ l) : Noted s (wr a o w) l :=
  h.trans ⟨rfl, fun k hk _ => by
    have : k ≠ o := fun e => hk (e ▸ ho)
    rw [rd_wr, if_neg this]⟩

theorem Noted.raise {s a : State} {l : List Nat} (h : Noted s a l) (o b : Nat) (ho : o ∈ l) : Noted s (raise a o b) l := h.wr o _ ho
theorem Noted.incC {s a : State} {l : List Nat} (h : Noted s a l) (o : Nat) (ho : o ∈ l) : Noted s (incC a o) l := h.wr o _ ho
theorem Noted.setF {s a : State} {l : List Nat} (h : Noted s a l) (o hi lo v : Nat) (ho : o ∈ l) : Noted s (setF a o hi lo v) l := h.wr o _ ho
theorem Noted.setB {s a : State} {l : List Nat} (h : Noted s a l) (o b : Nat) (v : Bool) (ho : o ∈ l) : Noted s (setB a o b v) l := h.wr o _ ho

theorem Noted.item {s a : State} {l : List Nat} (h : Noted s a l) (o lo ty src : Nat) (pay : List Byte) : Noted s (evtItem a o lo ty src pay) l := by
  refine h.trans ⟨?_, fun k _ hk => rd_evtItem a o lo ty src pay k hk⟩
  obtain ⟨r, x, h, e, -⟩ := evtItem_only a o lo ty src pay
  rw [e]

theorem Noted.ite {s a b : State} {l : List Nat} {p : Prop} [Decidable p] (h : Noted s a l) (h' : Noted s b l) : Noted s (if p then a else b) l := by
  split <;> assumption

theorem onlyNoted_of {s b : State} {l : List Nat} (h : Noted s b l) : OnlyNoted s (settle b) l := by
  refine ⟨?_, h.2⟩
  have h1 := h.1
  rw [h1]; rfl

/-! ### Readings of states that agree in a field -/

theorem rd_congr {s t : State} (h : t.regs = s.regs) (k : Nat) : rd t k = rd s k := by unfold rd; rw [h]

theorem memByte_congr {s t : State} (h : t.mem = s.mem) (k : Nat) : memByte t k = memByte s k := by unfold memByte; rw [h]

theorem chan_congr {s t : State} (h : t.can = s.can) (k : Nat) : chan t k = chan s k := by unfold chan; rw [h]

theorem objAt_congr {s t : State} (h : t.obj = s.obj) (k : Nat) : objAt t k = objAt s k := by unfold objAt; rw [h]

theorem port_congr {s t : State} (h : t.eth = s.eth) (k : Nat) : port t k = port s k := by unfold port; rw [h]

theorem jnlAt_congr {s t : State} (h : t.jnl = s.jnl) (k : Nat) : jnlAt t k = jnlAt s k := by unfold jnlAt; rw [h]

theorem ringAt_congr {s t : State} (h : t.ring = s.ring) (k : Nat) : ringAt t k = ringAt s k := by unfold ringAt; rw [h]

theorem mbxAt_congr {s t : State} (h : t.mbx = s.mbx) (k : Nat) : mbxAt t k = mbxAt s k := by unfold mbxAt; rw [h]

theorem segAt_congr {s t : State} (h : t.lan = s.lan) (k : Nat) : segAt t k = segAt s k := by unfold segAt; rw [h]

theorem keyAt_congr {s t : State} (h : t.sec = s.sec) (k : Nat) : keyAt t k = keyAt s k := by unfold keyAt; rw [h]

theorem jobPage_congr {s t : State} (h : t.sec = s.sec) (k : Nat) : jobPage t k = jobPage s k := by unfold jobPage; rw [h]

theorem slotAt_congr {s t : State} (h : t.slots = s.slots) (k : Nat) : slotAt t k = slotAt s k := by unfold slotAt; rw [h]

theorem tGet_congr {s t : State} (h : t.tbl = s.tbl) (c k : Nat) : tGet t c k = tGet s c k := by unfold tGet; rw [h]

theorem shGet_congr {s t : State} (h : t.shadow = s.shadow) (c k : Nat) : shGet t c k = shGet s c k := by unfold shGet; rw [h]

theorem triVal_congr {s t : State} (h : t.tri = s.tri) (c k : Nat) : triVal t c k = triVal s c k := by unfold triVal triAt; rw [h]

theorem houseAt_congr {s t : State} (h : t.house = s.house) (k : Nat) : houseAt t k = houseAt s k := by unfold houseAt; rw [h]

theorem copyAt_congr {s t : State} (h : t.copies = s.copies) (k : Nat) : copyAt t k = copyAt s k := by unfold copyAt; rw [h]

theorem armed_congr {s t : State} (h : t.armed = s.armed) (q : Requester) : armed t q = armed s q := by unfold armed; rw [h]

/-! ### Writes of memory -/

@[simp] theorem memWrite_pending (s : State) (a : Nat) (bs : List Byte) : (memWrite s a bs).pending = s.pending := by rw [memWrite_only_mem]
@[simp] theorem memWrite_regs (s : State) (a : Nat) (bs : List Byte) : (memWrite s a bs).regs = s.regs := by rw [memWrite_only_mem]
@[simp] theorem memWrite_refActive (s : State) (a : Nat) (bs : List Byte) : (memWrite s a bs).refActive = s.refActive := by rw [memWrite_only_mem]
@[simp] theorem memWrite_hiLatch (s : State) (a : Nat) (bs : List Byte) : (memWrite s a bs).hiLatch = s.hiLatch := by rw [memWrite_only_mem]
@[simp] theorem memWrite_armed (s : State) (a : Nat) (bs : List Byte) : (memWrite s a bs).armed = s.armed := by rw [memWrite_only_mem]
@[simp] theorem memWrite_tri (s : State) (a : Nat) (bs : List Byte) : (memWrite s a bs).tri = s.tri := by rw [memWrite_only_mem]
@[simp] theorem memWrite_tbl (s : State) (a : Nat) (bs : List Byte) : (memWrite s a bs).tbl = s.tbl := by rw [memWrite_only_mem]
@[simp] theorem memWrite_shadow (s : State) (a : Nat) (bs : List Byte) : (memWrite s a bs).shadow = s.shadow := by rw [memWrite_only_mem]
@[simp] theorem memWrite_pay (s : State) (a : Nat) (bs : List Byte) : (memWrite s a bs).pay = s.pay := by rw [memWrite_only_mem]
@[simp] theorem memWrite_slots (s : State) (a : Nat) (bs : List Byte) : (memWrite s a bs).slots = s.slots := by rw [memWrite_only_mem]
@[simp] theorem memWrite_smt (s : State) (a : Nat) (bs : List Byte) : (memWrite s a bs).smt = s.smt := by rw [memWrite_only_mem]
@[simp] theorem memWrite_can (s : State) (a : Nat) (bs : List Byte) : (memWrite s a bs).can = s.can := by rw [memWrite_only_mem]
@[simp] theorem memWrite_obj (s : State) (a : Nat) (bs : List Byte) : (memWrite s a bs).obj = s.obj := by rw [memWrite_only_mem]
@[simp] theorem memWrite_tst (s : State) (a : Nat) (bs : List Byte) : (memWrite s a bs).tst = s.tst := by rw [memWrite_only_mem]
@[simp] theorem memWrite_reqSeq (s : State) (a : Nat) (bs : List Byte) : (memWrite s a bs).reqSeq = s.reqSeq := by rw [memWrite_only_mem]
@[simp] theorem memWrite_copyNext (s : State) (a : Nat) (bs : List Byte) : (memWrite s a bs).copyNext = s.copyNext := by rw [memWrite_only_mem]
@[simp] theorem memWrite_copies (s : State) (a : Nat) (bs : List Byte) : (memWrite s a bs).copies = s.copies := by rw [memWrite_only_mem]
@[simp] theorem memWrite_carriers (s : State) (a : Nat) (bs : List Byte) : (memWrite s a bs).carriers = s.carriers := by rw [memWrite_only_mem]
@[simp] theorem memWrite_work2 (s : State) (a : Nat) (bs : List Byte) : (memWrite s a bs).work2 = s.work2 := by rw [memWrite_only_mem]
@[simp] theorem memWrite_comps (s : State) (a : Nat) (bs : List Byte) : (memWrite s a bs).comps = s.comps := by rw [memWrite_only_mem]
@[simp] theorem memWrite_runs (s : State) (a : Nat) (bs : List Byte) : (memWrite s a bs).runs = s.runs := by rw [memWrite_only_mem]
@[simp] theorem memWrite_parked (s : State) (a : Nat) (bs : List Byte) : (memWrite s a bs).parked = s.parked := by rw [memWrite_only_mem]
@[simp] theorem memWrite_desc (s : State) (a : Nat) (bs : List Byte) : (memWrite s a bs).desc = s.desc := by rw [memWrite_only_mem]
@[simp] theorem memWrite_inForce (s : State) (a : Nat) (bs : List Byte) : (memWrite s a bs).inForce = s.inForce := by rw [memWrite_only_mem]
@[simp] theorem memWrite_relocs (s : State) (a : Nat) (bs : List Byte) : (memWrite s a bs).relocs = s.relocs := by rw [memWrite_only_mem]
@[simp] theorem memWrite_motLog (s : State) (a : Nat) (bs : List Byte) : (memWrite s a bs).motLog = s.motLog := by rw [memWrite_only_mem]
@[simp] theorem memWrite_poolZero (s : State) (a : Nat) (bs : List Byte) : (memWrite s a bs).poolZero = s.poolZero := by rw [memWrite_only_mem]
@[simp] theorem memWrite_scanHeld (s : State) (a : Nat) (bs : List Byte) : (memWrite s a bs).scanHeld = s.scanHeld := by rw [memWrite_only_mem]
@[simp] theorem memWrite_serdes (s : State) (a : Nat) (bs : List Byte) : (memWrite s a bs).serdes = s.serdes := by rw [memWrite_only_mem]
@[simp] theorem memWrite_cache (s : State) (a : Nat) (bs : List Byte) : (memWrite s a bs).cache = s.cache := by rw [memWrite_only_mem]
@[simp] theorem memWrite_passes (s : State) (a : Nat) (bs : List Byte) : (memWrite s a bs).passes = s.passes := by rw [memWrite_only_mem]
@[simp] theorem memWrite_sweepPauseAt (s : State) (a : Nat) (bs : List Byte) : (memWrite s a bs).sweepPauseAt = s.sweepPauseAt := by rw [memWrite_only_mem]
@[simp] theorem memWrite_sweepRunFrom (s : State) (a : Nat) (bs : List Byte) : (memWrite s a bs).sweepRunFrom = s.sweepRunFrom := by rw [memWrite_only_mem]
@[simp] theorem memWrite_mir (s : State) (a : Nat) (bs : List Byte) : (memWrite s a bs).mir = s.mir := by rw [memWrite_only_mem]
@[simp] theorem memWrite_time (s : State) (a : Nat) (bs : List Byte) : (memWrite s a bs).time = s.time := by rw [memWrite_only_mem]
@[simp] theorem memWrite_jnl (s : State) (a : Nat) (bs : List Byte) : (memWrite s a bs).jnl = s.jnl := by rw [memWrite_only_mem]
@[simp] theorem memWrite_ring (s : State) (a : Nat) (bs : List Byte) : (memWrite s a bs).ring = s.ring := by rw [memWrite_only_mem]
@[simp] theorem memWrite_mbx (s : State) (a : Nat) (bs : List Byte) : (memWrite s a bs).mbx = s.mbx := by rw [memWrite_only_mem]
@[simp] theorem memWrite_script (s : State) (a : Nat) (bs : List Byte) : (memWrite s a bs).script = s.script := by rw [memWrite_only_mem]
@[simp] theorem memWrite_irq (s : State) (a : Nat) (bs : List Byte) : (memWrite s a bs).irq = s.irq := by rw [memWrite_only_mem]
@[simp] theorem memWrite_sw (s : State) (a : Nat) (bs : List Byte) : (memWrite s a bs).sw = s.sw := by rw [memWrite_only_mem]
@[simp] theorem memWrite_eth (s : State) (a : Nat) (bs : List Byte) : (memWrite s a bs).eth = s.eth := by rw [memWrite_only_mem]
@[simp] theorem memWrite_fwd (s : State) (a : Nat) (bs : List Byte) : (memWrite s a bs).fwd = s.fwd := by rw [memWrite_only_mem]
@[simp] theorem memWrite_sec (s : State) (a : Nat) (bs : List Byte) : (memWrite s a bs).sec = s.sec := by rw [memWrite_only_mem]
@[simp] theorem memWrite_dev (s : State) (a : Nat) (bs : List Byte) : (memWrite s a bs).dev = s.dev := by rw [memWrite_only_mem]
@[simp] theorem memWrite_clk (s : State) (a : Nat) (bs : List Byte) : (memWrite s a bs).clk = s.clk := by rw [memWrite_only_mem]
@[simp] theorem memWrite_boot (s : State) (a : Nat) (bs : List Byte) : (memWrite s a bs).boot = s.boot := by rw [memWrite_only_mem]
@[simp] theorem memWrite_otp (s : State) (a : Nat) (bs : List Byte) : (memWrite s a bs).otp = s.otp := by rw [memWrite_only_mem]
@[simp] theorem memWrite_flash (s : State) (a : Nat) (bs : List Byte) : (memWrite s a bs).flash = s.flash := by rw [memWrite_only_mem]
@[simp] theorem memWrite_upd (s : State) (a : Nat) (bs : List Byte) : (memWrite s a bs).upd = s.upd := by rw [memWrite_only_mem]
@[simp] theorem memWrite_lan (s : State) (a : Nat) (bs : List Byte) : (memWrite s a bs).lan = s.lan := by rw [memWrite_only_mem]
@[simp] theorem memWrite_bud (s : State) (a : Nat) (bs : List Byte) : (memWrite s a bs).bud = s.bud := by rw [memWrite_only_mem]
@[simp] theorem memWrite_pcie (s : State) (a : Nat) (bs : List Byte) : (memWrite s a bs).pcie = s.pcie := by rw [memWrite_only_mem]
@[simp] theorem memWrite_ticks (s : State) (a : Nat) (bs : List Byte) : (memWrite s a bs).ticks = s.ticks := by rw [memWrite_only_mem]
@[simp] theorem memWrite_free (s : State) (a : Nat) (bs : List Byte) : (memWrite s a bs).free = s.free := by rw [memWrite_only_mem]
@[simp] theorem memWrite_house (s : State) (a : Nat) (bs : List Byte) : (memWrite s a bs).house = s.house := by rw [memWrite_only_mem]
@[simp] theorem memWrite_out (s : State) (a : Nat) (bs : List Byte) : (memWrite s a bs).out = s.out := by rw [memWrite_only_mem]

@[simp] theorem rd_memWrite (s : State) (a : Nat) (bs : List Byte) (o : Nat) : rd (memWrite s a bs) o = rd s o := rd_congr (memWrite_regs s a bs) o

theorem chan_setChan (s : State) (n k : Nat) (x : CanRt) : chan (setChan s n x) k = if k = n then x else chan s k := SMap.get_set ..

theorem objAt_setObj (s : State) (n k : Nat) (x : ObjRt) : objAt (setObj s n x) k = if k = n then x else objAt s k := SMap.get_set ..

theorem port_setPort (s : State) (n k : Nat) (x : EthRt) : port (setPort s n x) k = if k = n then x else port s k := SMap.get_set ..

theorem jnlAt_setJnl (s : State) (n k : Nat) (x : Jnl) : jnlAt (setJnl s n x) k = if k = n then x else jnlAt s k := SMap.get_set ..

theorem ringAt_setRing (s : State) (n k : Nat) (x : Ring) : ringAt (setRing s n x) k = if k = n then x else ringAt s k := SMap.get_set ..

theorem mbxAt_setMbx (s : State) (n k : Nat) (x : MbxRt) : mbxAt (setMbx s n x) k = if k = n then x else mbxAt s k := SMap.get_set ..

theorem segAt_setSeg (s : State) (n k : Nat) (x : Seg) : segAt (setSeg s n x) k = if k = n then x else segAt s k := SMap.get_set ..

theorem keyAt_setKey (s : State) (n k : Nat) (x : KeySlot) : keyAt (setKey s n x) k = if k = n then x else keyAt s k := SMap.get_set ..

theorem jobPage_setJobPage (s : State) (n k : Nat) (x : JobPage) : jobPage (setJobPage s n x) k = if k = n then x else jobPage s k := SMap.get_set ..

theorem slotAt_setSlot (s : State) (n k : Nat) (x : Slot) : slotAt (setSlot s n x) k = if k = n then x else slotAt s k := SMap.get_set ..

theorem copyAt_setCopy (s : State) (n k : Nat) (x : PoolCopy) : copyAt (setCopy s n x) k = if k = n then x else copyAt s k := SMap.get_set ..

theorem houseAt_houseSet (s : State) (i k v : Nat) : houseAt (houseSet s i v) k = if k = i then v else houseAt s k := SMap.get_set ..

theorem tGet_tSet (s : State) (c i c' i' : Nat) (e : BitVec 768) (h : i < 2 ^ 20) (h' : i' < 2 ^ 20) :
    tGet (tSet s c i e) c' i' = if c' = c ∧ i' = i then e else tGet s c' i' := by
  unfold tGet tSet
  simp only [SMap.get_set]
  have : tKey c' i' = tKey c i ↔ c' = c ∧ i' = i := by unfold tKey; omega
  simp only [this]

@[simp] theorem tGet_tSet_same (s : State) (c i : Nat) (e : BitVec 768) : tGet (tSet s c i e) c i = e := by
  simp [tGet, tSet]

theorem shGet_shSet_same (s : State) (c i : Nat) (e : BitVec 768) : shGet (shSet s c i e) c i = e := by
  simp [shGet, shSet]

/-- A triplicated field that has been written reads as the value, cut to a word. -/
theorem triVal_setTri_same (s : State) (f i v : Nat) : triVal (setTri s f i v) f i = v % 2 ^ 32 := by
  simp [triVal, triAt, setTri, Tri.vote]

end Sys2Proof.Machine
end

