-- ==== Sys2Proof/Laws/Image.lean ====
section
/-!
SUPPORT. Sys2Proof/Laws/Image.lean: what a change of a slot does (R104): the slot, the cache and its counters, the marks of publications, the digest.
-/
namespace Sys2Proof.Machine

/-- What a change of slots leaves of a state: everything but slots, cache, its two counters, publication marks and the digest's events. -/
structure Imaged (s a : State) : Prop where
  eq : a = { s with regs := a.regs, slots := a.slots, cache := a.cache, mir := a.mir, bud := a.bud, house := a.house }
  rd : ∀ k, k < 0x1A0048 ∨ 0x1A0058 ≤ k → rd a k = rd s k
  mir : a.mir = { s.mir with pub := a.mir.pub }
  bud : a.bud = { s.bud with events := a.bud.events }

theorem Imaged.refl (s : State) : Imaged s s := ⟨rfl, fun _ _ => rfl, rfl, rfl⟩

theorem Imaged.trans {s a b : State} (h : Imaged s a) (h' : Imaged a b) : Imaged s b := by
  refine ⟨?_, fun k hk => (h'.rd k hk).trans (h.rd k hk), ?_, ?_⟩
  · rw [h'.eq, h.eq]
  · rw [h'.mir, h.mir]
  · rw [h'.bud, h.bud]

theorem Imaged.getF {s a : State} (h : Imaged s a) (o hi lo : Nat) (ho : o < 0x1A0048 ∨ 0x1A0058 ≤ o) : getF a o hi lo = getF s o hi lo := by
  unfold Machine.getF; rw [h.rd o ho]

theorem Imaged.getB {s a : State} (h : Imaged s a) (o b : Nat) (ho : o < 0x1A0048 ∨ 0x1A0058 ≤ o) : getB a o b = getB s o b := by
  unfold Machine.getB; rw [h.rd o ho]

theorem Imaged.tbl {s a : State} (h : Imaged s a) : a.tbl = s.tbl := by rw [h.eq]
theorem Imaged.desc {s a : State} (h : Imaged s a) : a.desc = s.desc := by rw [h.eq]
theorem Imaged.time {s a : State} (h : Imaged s a) : a.time = s.time := by rw [h.eq]
theorem Imaged.smt {s a : State} (h : Imaged s a) : a.smt = s.smt := by rw [h.eq]
theorem Imaged.inForce {s a : State} (h : Imaged s a) : a.inForce = s.inForce := by rw [h.eq]
theorem Imaged.relocs {s a : State} (h : Imaged s a) : a.relocs = s.relocs := by rw [h.eq]
theorem Imaged.motLog {s a : State} (h : Imaged s a) : a.motLog = s.motLog := by rw [h.eq]
theorem Imaged.poolZero {s a : State} (h : Imaged s a) : a.poolZero = s.poolZero := by rw [h.eq]
theorem Imaged.scanHeld {s a : State} (h : Imaged s a) : a.scanHeld = s.scanHeld := by rw [h.eq]
theorem Imaged.serdes {s a : State} (h : Imaged s a) : a.serdes = s.serdes := by rw [h.eq]
theorem Imaged.mem {s a : State} (h : Imaged s a) : a.mem = s.mem := by rw [h.eq]
theorem Imaged.obj {s a : State} (h : Imaged s a) : a.obj = s.obj := by rw [h.eq]
theorem Imaged.passes {s a : State} (h : Imaged s a) : a.passes = s.passes := by rw [h.eq]
theorem Imaged.out {s a : State} (h : Imaged s a) : a.out = s.out := by rw [h.eq]
theorem Imaged.mbx {s a : State} (h : Imaged s a) : a.mbx = s.mbx := by rw [h.eq]

theorem add64_only (s : State) (o n : Nat) : add64 s o n = { s with regs := (add64 s o n).regs } := rfl

theorem rd_add64 (s : State) (o n k : Nat) (h : k ≠ o) (h' : k ≠ o + 4) : rd (add64 s o n) k = rd s k := by
  unfold add64; simp only; rw [rd_wr, if_neg h', rd_wr, if_neg h]

/-- An access through the cache touches no slot. -/
theorem touch_imaged (s : State) (g : Nat) (d : Bool) : Imaged s (touch s g d) ∧ (touch s g d).slots = s.slots := by
  unfold touch
  split
  · have h (c : State) (hc : c = { s with cache := c.cache }) : Imaged s (add64 c 0x1A0048 1) ∧ (add64 c 0x1A0048 1).slots = s.slots := by
      refine ⟨⟨by rw [add64_only, hc], fun k hk => ?_, ?_, ?_⟩, ?_⟩
      · rw [rd_add64 _ _ _ _ (by omega) (by omega), hc]; exact rd_congr rfl k
      · rw [add64_only, hc]
      · rw [add64_only, hc]
      · rw [add64_only, hc]
    exact h (setCache _ _ _) rfl
  · have h : Imaged s (add64 s 0x1A0050 1) ∧ (add64 s 0x1A0050 1).slots = s.slots :=
      ⟨⟨add64_only _ _ _, fun k hk => rd_add64 _ _ _ _ (by omega) (by omega), by rw [add64_only], by rw [add64_only]⟩, by rw [add64_only]⟩
    simp only; split
    · generalize add64 s 0x1A0050 1 = a at *
      exact ⟨h.1.trans ⟨rfl, fun _ _ => rfl, rfl, rfl⟩, h.2⟩
    · exact h

theorem pubMark_imaged (s : State) (g : Nat) (p : Nat × BitVec 768) : Imaged s (pubMark s g p) ∧ (pubMark s g p).slots = s.slots := by
  unfold pubMark; simp only; split
  · exact ⟨⟨rfl, fun _ _ => rfl, rfl, rfl⟩, rfl⟩
  · exact ⟨Imaged.refl s, rfl⟩

theorem pubMarks_imaged (l : List (Nat × BitVec 768)) (s : State) (g : Nat) :
    Imaged s (l.foldl (fun a p => pubMark a g p) s) ∧ (l.foldl (fun a p => pubMark a g p) s).slots = s.slots := by
  induction l generalizing s with
  | nil => exact ⟨Imaged.refl s, rfl⟩
  | cons p l ih =>
    obtain ⟨h, h'⟩ := pubMark_imaged s g p
    obtain ⟨i, i'⟩ := ih (pubMark s g p)
    exact ⟨h.trans i, i'.trans h'⟩

theorem budEvent_imaged (s : State) (bs : List Byte) : Imaged s (budEvent s bs) ∧ (budEvent s bs).slots = s.slots := by
  unfold budEvent; split
  · exact ⟨⟨rfl, fun _ _ => rfl, rfl, rfl⟩, rfl⟩
  · exact ⟨Imaged.refl s, rfl⟩

/-- R104: the one place where a slot changes. -/
theorem changeSlot_imaged (s : State) (g : Nat) (x : Slot) : Imaged s (changeSlot s g x) := by
  obtain ⟨h1, -⟩ := touch_imaged s g true
  have h2 : Imaged (touch s g true) (houseAdd (setSlot (touch s g true) g { x with gen := (slotAt s g).gen + 1 }) 1049 1) :=
    ⟨rfl, fun _ _ => rfl, rfl, rfl⟩
  have h3 := (budEvent_imaged (houseAdd (setSlot (touch s g true) g { x with gen := (slotAt s g).gen + 1 }) 1049 1)
    (leBytes 4 g ++ leBytes 2 ((slotAt s g).gen + 1).toNat)).1
  exact h1.trans (h2.trans (h3.trans (pubMarks_imaged _ _ g).1))

/-- R104: the slot takes the change with GEN advanced; no other slot changes. -/
theorem slotAt_changeSlot (s : State) (g k : Nat) (x : Slot) :
    slotAt (changeSlot s g x) k = if k = g then { x with gen := (slotAt s g).gen + 1 } else slotAt s k := by
  have h : (changeSlot s g x).slots = (setSlot (touch s g true) g { x with gen := (slotAt s g).gen + 1 }).slots := by
    unfold changeSlot; simp only
    rw [(pubMarks_imaged _ _ g).2, (budEvent_imaged _ _).2]; rfl
  rw [slotAt_congr h, slotAt_setSlot]
  split
  · rfl
  · exact slotAt_congr (touch_imaged s g true).2 k

/-- R104, R117: an update in LIVE is applied. -/
theorem updateSlot_live (s : State) (g : Nat) (v : BitVec 64) (a b c d : Bool) (h : segMode s g = 0) :
    updateSlot s g v a b c d =
      (changeSlot s g { value := v, stamp := BitVec.ofNat 32 (pairStamp s), status := updStatus a b c d, gen := 0 }, true) := by
  unfold updateSlot; rw [if_pos h]

/-- R117: outside LIVE it is counted and changes nothing. -/
theorem updateSlot_held (s : State) (g : Nat) (v : BitVec 64) (a b c d : Bool) (h : segMode s g ≠ 0) :
    updateSlot s g v a b c d = (incC s 0x1A003C, false) := by
  unfold updateSlot; rw [if_neg h]

/-- R108, R142: a slot made stale: STALE on a valid slot that was not; another is only read. -/
theorem staleSlot_imaged (s : State) (g : Nat) : Imaged s (staleSlot s g) := by
  unfold staleSlot; simp only; split
  · exact changeSlot_imaged _ _ _
  · exact (touch_imaged s g false).1

theorem substSlot_imaged (s : State) (g : Nat) : Imaged s (substSlot s g) := by
  unfold substSlot; simp only; split
  · exact changeSlot_imaged _ _ _
  · split
    · exact changeSlot_imaged _ _ _
    · exact (touch_imaged s g false).1

end Sys2Proof.Machine
end

