-- ==== Sys2Proof/Laws/Mailbox.lean ====
section
/-!
SUPPORT. Sys2Proof/Laws/Mailbox.lean: what the shared operations of the mailboxes do: attaching and detaching, posting a response, a request
taken and answered.
-/
namespace Sys2Proof.Machine

/-! ### Fields that an operation leaves -/

/-- The second state is the first with other registers, journals, mailboxes, keys and script, and another housekeeping count. -/
def Posted (s a : State) : Prop :=
  a = { s with regs := a.regs, jnl := a.jnl, house := a.house, mbx := a.mbx, armed := a.armed, script := a.script }

theorem Posted.refl (s : State) : Posted s s := rfl

theorem Posted.trans {s a b : State} (h : Posted s a) (h' : Posted a b) : Posted s b := by
  unfold Posted at *; rw [h', h]

theorem Posted.wr (s : State) (o : Nat) (w : Word) : Posted s (wr s o w) := rfl
theorem Posted.mbx (s : State) (m : Nat) (x : MbxRt) : Posted s (setMbx s m x) := rfl

theorem Posted.setB (s : State) (o b : Nat) (v : Bool) : Posted s (setB s o b v) := rfl
theorem Posted.withScript (s : State) (x : Option Script) : Posted s { s with script := x } := rfl

theorem Posted.item (s : State) (o lo ty src : Nat) (pay : List Byte) : Posted s (evtItem s o lo ty src pay) := by
  obtain ⟨r, x, h, e, -⟩ := evtItem_only s o lo ty src pay
  rw [e]; rfl

theorem Posted.foldl {α : Type} (l : List α) (f : State → α → State) (hf : ∀ s x, Posted s (f s x)) (s : State) : Posted s (l.foldl f s) := by
  induction l generalizing s with
  | nil => exact .refl s
  | cons x l ih => exact (hf s x).trans (ih _)

theorem scriptStart_posted (s : State) (k : Nat) : Posted s (scriptStart s k) := (Posted.setB s 0x3A004 1 true).trans (Posted.withScript ..)

theorem rd_scriptStart (s : State) (k o : Nat) (h : o ≠ 0x3A004) : rd (scriptStart s k) o = rd s o := by
  have e : rd (scriptStart s k) o = rd (setB s 0x3A004 1 true) o := rfl
  rw [e, rd_setB, if_neg h]

theorem Posted.supWrote (s : State) : Posted s (supWrote s) := rfl

theorem hostlessEntry_posted (s : State) : Posted s (hostlessEntry s) := by
  have h : ∀ a : State, Posted a (scriptStart (Machine.supWrote (Machine.setB (Machine.setB a 0x3A004 0 true) 0x60008 2 false)) 1) := fun a =>
    (Posted.setB ..).trans ((Posted.setB ..).trans ((Posted.supWrote ..).trans (scriptStart_posted ..)))
  unfold hostlessEntry
  simp only
  split
  · exact (Posted.item ..).trans (h _)
  · exact h _

theorem detachOp_posted (s : State) (t ev : Nat) : Posted s (detachOp s t ev) := by
  unfold detachOp
  split
  · exact .refl s
  · simp only
    have h1 : ∀ (a : State) (w : Nat), Posted a (attachItem a t ev w) := fun a w => Posted.item ..
    split
    · exact (Posted.setB ..).trans ((Posted.mbx ..).trans ((Posted.setB ..).trans ((h1 _ _).trans (hostlessEntry_posted _))))
    · exact (Posted.setB ..).trans ((Posted.mbx ..).trans (h1 _ _))

theorem attachOp_posted (s : State) (t w : Nat) : Posted s (attachOp s t w) := by
  unfold attachOp
  exact (Posted.setB ..).trans ((Posted.setB ..).trans ((Posted.withScript ..).trans ((Posted.mbx ..).trans (Posted.item ..))))

theorem detachAll_posted (s : State) : Posted s (detachAll s) := Posted.foldl _ _ (fun a t => detachOp_posted a t 3) s

theorem resetOp_posted (s : State) (m : Nat) : Posted s (resetOp s m) := rfl

/-- Registers that detaching leaves. -/
theorem rd_detachOp (s : State) (t ev o : Nat) (h : o < 0x3A000) : rd (detachOp s t ev) o = rd s o := by
  have h1 : o ≠ 0x3A004 := by omega
  have h2 : o ≠ 0x60008 := by omega
  have hl : ∀ a : State, rd (hostlessEntry a) o = rd a o := by
    intro a
    have hw : ∀ b : State, rd (supWrote b) o = rd b o := fun _ => rfl
    unfold hostlessEntry; simp only; rw [rd_scriptStart _ _ _ h1, hw, rd_setB, if_neg h2, rd_setB, if_neg h1]
    split
    · exact rd_evtItem _ _ _ _ _ _ _ (by omega)
    · rfl
  have hm : ∀ (a : State) (m : Nat) (x : MbxRt), rd (setMbx a m x) o = rd a o := fun _ _ _ => rfl
  have hi : ∀ (a : State) (w : Nat), rd (attachItem a t ev w) o = rd a o := fun a w => rd_evtItem _ _ _ _ _ _ _ (by omega)
  unfold detachOp
  split
  · rfl
  · simp only; split <;> simp only [hl, hi, hm, rd_setB, if_neg h1]

/-! ### A request answered -/

/-- The second state is the first with another mailbox `m` and other registers of the mailboxes. -/
structure Answered (a b : State) (m : Nat) : Prop where
  eq : b = { a with regs := b.regs, mbx := b.mbx }
  rd : ∀ o, o < 0x30000 ∨ 0x3A000 ≤ o → rd b o = rd a o
  other : ∀ k, k ≠ m → mbxAt b k = mbxAt a k

theorem Answered.refl (a : State) (m : Nat) : Answered a a m := ⟨rfl, fun _ _ => rfl, fun _ _ => rfl⟩

theorem Answered.trans {a b c : State} {m : Nat} (h : Answered a b m) (h' : Answered b c m) : Answered a c m :=
  ⟨by rw [h'.eq, h.eq], fun o ho => (h'.rd o ho).trans (h.rd o ho), fun k hk => (h'.other k hk).trans (h.other k hk)⟩

theorem Answered.put (a : State) (m : Nat) (x : MbxRt) : Answered a (setMbx a m x) m :=
  ⟨rfl, fun _ _ => rfl, fun k hk => by rw [mbxAt_setMbx, if_neg hk]⟩

theorem Answered.wr (a : State) (m o : Nat) (w : Word) (ho : 0x30000 ≤ o ∧ o < 0x3A000) : Answered a (wr a o w) m :=
  ⟨rfl, fun k hk => by
    have : k ≠ o := by omega
    rw [rd_wr, if_neg this], fun _ _ => rfl⟩

/-- R355: a response of mailboxes 0 to 7 is posted behind those before it. -/
theorem post_spec (s : State) (m : Nat) (bs : List Byte) (hm : m < 8) :
    Answered s (post s m bs) m ∧ mbxAt (post s m bs) m = { mbxAt s m with posted := (mbxAt s m).posted ++ [bs] } := by
  have h8 : ¬ m = 8 := by omega
  have h9 : ¬ m = 9 := by omega
  have r1 : 0x30000 ≤ mbxR m 0x10 ∧ mbxR m 0x10 < 0x3A000 := by unfold mbxR; omega
  have r2 : 0x30000 ≤ mbxR m 4 ∧ mbxR m 4 < 0x3A000 := by unfold mbxR; omega
  have h1 : Answered s (incC s (mbxR m 0x10)) m := .wr s m _ _ r1
  unfold post
  simp only [h8, h9, if_false]
  split
  · exact ⟨h1.trans ((Answered.wr _ m _ _ r2).trans (.put ..)), by rw [mbxAt_setMbx, if_pos rfl]; rfl⟩
  · exact ⟨h1.trans (.put ..), by rw [mbxAt_setMbx, if_pos rfl]; rfl⟩

theorem flushExpired_spec (m : Nat) (hm : m < 8) (n : Nat) (s : State) : Answered s (flushExpired m n s) m ∧
    (mbxAt (flushExpired m n s) m).inSvc = (mbxAt s m).inSvc ∧ ∃ l, (mbxAt (flushExpired m n s) m).posted = (mbxAt s m).posted ++ l := by
  induction n generalizing s with
  | zero => exact ⟨.refl s m, rfl, [], by simp [flushExpired]⟩
  | succ n ih =>
    unfold flushExpired
    simp only
    split
    · rename_i r rest hq
      split
      · obtain ⟨p1, p2⟩ := post_spec (setMbx s m { mbxAt s m with queue := rest }) m (respBytes s (reqOf m false r) (answer eTimeout)) hm
        obtain ⟨i1, i2, l, i3⟩ := ih (post (setMbx s m { mbxAt s m with queue := rest }) m (respBytes s (reqOf m false r) (answer eTimeout)))
        have hs : mbxAt (setMbx s m { mbxAt s m with queue := rest }) m = { mbxAt s m with queue := rest } := by rw [mbxAt_setMbx, if_pos rfl]
        refine ⟨(Answered.put ..).trans (p1.trans i1), ?_, respBytes s (reqOf m false r) (answer eTimeout) :: l, ?_⟩
        · rw [i2, p2, hs]
        · rw [i3, p2, hs]; simp
      · exact ⟨.refl s m, rfl, [], by simp⟩
    · exact ⟨.refl s m, rfl, [], by simp⟩

/-- R358: the answer of the request in service, in a mailbox of 0 to 7, when it is not QUIET and no RESET has come in. -/
theorem respond_spec (s : State) (m : Nat) (r : Req) (a : Ans) (hm : m < 8) (hq : r.quiet = false) (hd : (mbxAt s m).dropResp = false) :
    Answered s (respond s m r a) m ∧ (mbxAt (respond s m r a) m).inSvc = none ∧
      ∃ l, (mbxAt (respond s m r a) m).posted = (mbxAt s m).posted ++ respBytes s r a :: l := by
  unfold respond
  simp only [hq, hd, Bool.false_and, Bool.or_false, Bool.false_eq_true, if_false]
  have hb : respBytes (setMbx s m { mbxAt s m with inSvc := none, dropResp := false }) r a = respBytes s r a := rfl
  rw [hb]
  obtain ⟨p1, p2⟩ := post_spec (setMbx s m { mbxAt s m with inSvc := none, dropResp := false }) m (respBytes s r a) hm
  obtain ⟨i1, i2, l, i3⟩ := flushExpired_spec m hm 8 (post (setMbx s m { mbxAt s m with inSvc := none, dropResp := false }) m (respBytes s r a))
  have hs : mbxAt (setMbx s m { mbxAt s m with inSvc := none, dropResp := false }) m = { mbxAt s m with inSvc := none, dropResp := false } := by
    rw [mbxAt_setMbx, if_pos rfl]
  refine ⟨(Answered.put ..).trans (p1.trans i1), ?_, l, ?_⟩
  · rw [i2, p2, hs]
  · rw [i3, p2, hs]; simp

/-- R356, R358, R360: a command that answers at once: its effect stands, and its response is posted. -/
theorem cmdRow_spec (s : State) (m code : Nat) (x : MbxReq) (cmd : Command) (a : State) (st : Nat) (data : List Byte) (h : Asks s m code x)
    (hc : cmd (forward (take s m x) m x (reqOf m false x) cmd) (reqOf m false x) = (a, { status := st, data := data, wait := false }))
    (hp : (mbxAt a m).posted = (mbxAt s m).posted) (hd : (mbxAt a m).dropResp = false) (ht : ltNs a = ltNs s) :
    Answered a (cmdRow s m code cmd) m ∧ Replies s (settle (cmdRow s m code cmd)) m x st data := by
  obtain ⟨hm, htk, hcode, hfl, henv, hq, hdr⟩ := h
  have henv' : envelope (take s m x) m (reqOf m false x) = eOk := henv
  have e : cmdRow s m code cmd = respond a m (reqOf m false x) { status := st, data := data, wait := false } := by
    unfold cmdRow
    rw [htk]
    simp only [hcode, hfl, if_true, Bool.not_false, Bool.and_true, decide_true]
    unfold serve
    simp only [henv', ne_eq, not_true_eq_false, if_false, hc, Bool.false_eq_true]
  obtain ⟨r1, r2, l, r3⟩ := respond_spec a m (reqOf m false x) { status := st, data := data, wait := false } hm hq hd
  rw [e]
  refine ⟨r1, ?_, l, ?_⟩
  · exact r2
  · have hb : respBytes a (reqOf m false x) { status := st, data := data, wait := false } =
        respBytes s (reqOf m false x) { status := st, data := data, wait := false } := by unfold respBytes stampNow; rw [ht]
    show (mbxAt (respond a m (reqOf m false x) _) m).posted = _
    rw [r3, hp, hb]

end Sys2Proof.Machine
end

