-- ==== Sys2Proof/Laws/Objects.lean ====
section
/-!
SUPPORT. Sys2Proof/Laws/Objects.lean: updates of message objects and of the payload store: what each leaves as it was, and what the flags and
the bytes then read.
-/
namespace Sys2Proof.Machine

@[simp] theorem obPut_pending (s : State) (x hi lo v : Nat) : (obPut s x hi lo v).pending = s.pending := (rfl)
@[simp] theorem obPut_regs (s : State) (x hi lo v : Nat) : (obPut s x hi lo v).regs = s.regs := (rfl)
@[simp] theorem obPut_refActive (s : State) (x hi lo v : Nat) : (obPut s x hi lo v).refActive = s.refActive := (rfl)
@[simp] theorem obPut_hiLatch (s : State) (x hi lo v : Nat) : (obPut s x hi lo v).hiLatch = s.hiLatch := (rfl)
@[simp] theorem obPut_armed (s : State) (x hi lo v : Nat) : (obPut s x hi lo v).armed = s.armed := (rfl)
@[simp] theorem obPut_tri (s : State) (x hi lo v : Nat) : (obPut s x hi lo v).tri = s.tri := (rfl)
@[simp] theorem obPut_tbl (s : State) (x hi lo v : Nat) : (obPut s x hi lo v).tbl = s.tbl := (rfl)
@[simp] theorem obPut_shadow (s : State) (x hi lo v : Nat) : (obPut s x hi lo v).shadow = s.shadow := (rfl)
@[simp] theorem obPut_pay (s : State) (x hi lo v : Nat) : (obPut s x hi lo v).pay = s.pay := (rfl)
@[simp] theorem obPut_mem (s : State) (x hi lo v : Nat) : (obPut s x hi lo v).mem = s.mem := (rfl)
@[simp] theorem obPut_slots (s : State) (x hi lo v : Nat) : (obPut s x hi lo v).slots = s.slots := (rfl)
@[simp] theorem obPut_smt (s : State) (x hi lo v : Nat) : (obPut s x hi lo v).smt = s.smt := (rfl)
@[simp] theorem obPut_can (s : State) (x hi lo v : Nat) : (obPut s x hi lo v).can = s.can := (rfl)
@[simp] theorem obPut_tst (s : State) (x hi lo v : Nat) : (obPut s x hi lo v).tst = s.tst := (rfl)
@[simp] theorem obPut_reqSeq (s : State) (x hi lo v : Nat) : (obPut s x hi lo v).reqSeq = s.reqSeq := (rfl)
@[simp] theorem obPut_copyNext (s : State) (x hi lo v : Nat) : (obPut s x hi lo v).copyNext = s.copyNext := (rfl)
@[simp] theorem obPut_copies (s : State) (x hi lo v : Nat) : (obPut s x hi lo v).copies = s.copies := (rfl)
@[simp] theorem obPut_carriers (s : State) (x hi lo v : Nat) : (obPut s x hi lo v).carriers = s.carriers := (rfl)
@[simp] theorem obPut_work2 (s : State) (x hi lo v : Nat) : (obPut s x hi lo v).work2 = s.work2 := (rfl)
@[simp] theorem obPut_comps (s : State) (x hi lo v : Nat) : (obPut s x hi lo v).comps = s.comps := (rfl)
@[simp] theorem obPut_runs (s : State) (x hi lo v : Nat) : (obPut s x hi lo v).runs = s.runs := (rfl)
@[simp] theorem obPut_parked (s : State) (x hi lo v : Nat) : (obPut s x hi lo v).parked = s.parked := (rfl)
@[simp] theorem obPut_desc (s : State) (x hi lo v : Nat) : (obPut s x hi lo v).desc = s.desc := (rfl)
@[simp] theorem obPut_inForce (s : State) (x hi lo v : Nat) : (obPut s x hi lo v).inForce = s.inForce := (rfl)
@[simp] theorem obPut_relocs (s : State) (x hi lo v : Nat) : (obPut s x hi lo v).relocs = s.relocs := (rfl)
@[simp] theorem obPut_motLog (s : State) (x hi lo v : Nat) : (obPut s x hi lo v).motLog = s.motLog := (rfl)
@[simp] theorem obPut_poolZero (s : State) (x hi lo v : Nat) : (obPut s x hi lo v).poolZero = s.poolZero := (rfl)
@[simp] theorem obPut_scanHeld (s : State) (x hi lo v : Nat) : (obPut s x hi lo v).scanHeld = s.scanHeld := (rfl)
@[simp] theorem obPut_serdes (s : State) (x hi lo v : Nat) : (obPut s x hi lo v).serdes = s.serdes := (rfl)
@[simp] theorem obPut_cache (s : State) (x hi lo v : Nat) : (obPut s x hi lo v).cache = s.cache := (rfl)
@[simp] theorem obPut_passes (s : State) (x hi lo v : Nat) : (obPut s x hi lo v).passes = s.passes := (rfl)
@[simp] theorem obPut_sweepPauseAt (s : State) (x hi lo v : Nat) : (obPut s x hi lo v).sweepPauseAt = s.sweepPauseAt := (rfl)
@[simp] theorem obPut_sweepRunFrom (s : State) (x hi lo v : Nat) : (obPut s x hi lo v).sweepRunFrom = s.sweepRunFrom := (rfl)
@[simp] theorem obPut_mir (s : State) (x hi lo v : Nat) : (obPut s x hi lo v).mir = s.mir := (rfl)
@[simp] theorem obPut_time (s : State) (x hi lo v : Nat) : (obPut s x hi lo v).time = s.time := (rfl)
@[simp] theorem obPut_jnl (s : State) (x hi lo v : Nat) : (obPut s x hi lo v).jnl = s.jnl := (rfl)
@[simp] theorem obPut_ring (s : State) (x hi lo v : Nat) : (obPut s x hi lo v).ring = s.ring := (rfl)
@[simp] theorem obPut_mbx (s : State) (x hi lo v : Nat) : (obPut s x hi lo v).mbx = s.mbx := (rfl)
@[simp] theorem obPut_script (s : State) (x hi lo v : Nat) : (obPut s x hi lo v).script = s.script := (rfl)
@[simp] theorem obPut_irq (s : State) (x hi lo v : Nat) : (obPut s x hi lo v).irq = s.irq := (rfl)
@[simp] theorem obPut_sw (s : State) (x hi lo v : Nat) : (obPut s x hi lo v).sw = s.sw := (rfl)
@[simp] theorem obPut_eth (s : State) (x hi lo v : Nat) : (obPut s x hi lo v).eth = s.eth := (rfl)
@[simp] theorem obPut_fwd (s : State) (x hi lo v : Nat) : (obPut s x hi lo v).fwd = s.fwd := (rfl)
@[simp] theorem obPut_sec (s : State) (x hi lo v : Nat) : (obPut s x hi lo v).sec = s.sec := (rfl)
@[simp] theorem obPut_dev (s : State) (x hi lo v : Nat) : (obPut s x hi lo v).dev = s.dev := (rfl)
@[simp] theorem obPut_clk (s : State) (x hi lo v : Nat) : (obPut s x hi lo v).clk = s.clk := (rfl)
@[simp] theorem obPut_boot (s : State) (x hi lo v : Nat) : (obPut s x hi lo v).boot = s.boot := (rfl)
@[simp] theorem obPut_otp (s : State) (x hi lo v : Nat) : (obPut s x hi lo v).otp = s.otp := (rfl)
@[simp] theorem obPut_flash (s : State) (x hi lo v : Nat) : (obPut s x hi lo v).flash = s.flash := (rfl)
@[simp] theorem obPut_upd (s : State) (x hi lo v : Nat) : (obPut s x hi lo v).upd = s.upd := (rfl)
@[simp] theorem obPut_lan (s : State) (x hi lo v : Nat) : (obPut s x hi lo v).lan = s.lan := (rfl)
@[simp] theorem obPut_bud (s : State) (x hi lo v : Nat) : (obPut s x hi lo v).bud = s.bud := (rfl)
@[simp] theorem obPut_pcie (s : State) (x hi lo v : Nat) : (obPut s x hi lo v).pcie = s.pcie := (rfl)
@[simp] theorem obPut_ticks (s : State) (x hi lo v : Nat) : (obPut s x hi lo v).ticks = s.ticks := (rfl)
@[simp] theorem obPut_free (s : State) (x hi lo v : Nat) : (obPut s x hi lo v).free = s.free := (rfl)
@[simp] theorem obPut_house (s : State) (x hi lo v : Nat) : (obPut s x hi lo v).house = s.house := (rfl)
@[simp] theorem obPut_out (s : State) (x hi lo v : Nat) : (obPut s x hi lo v).out = s.out := (rfl)
@[simp] theorem rd_obPut (s : State) (x hi lo v : Nat) (k : Nat) : rd (obPut s x hi lo v) k = rd s k := rd_congr (obPut_regs s x hi lo v) k
@[simp] theorem memByte_obPut (s : State) (x hi lo v : Nat) (k : Nat) : memByte (obPut s x hi lo v) k = memByte s k := memByte_congr (obPut_mem s x hi lo v) k
@[simp] theorem chan_obPut (s : State) (x hi lo v : Nat) (k : Nat) : chan (obPut s x hi lo v) k = chan s k := chan_congr (obPut_can s x hi lo v) k
@[simp] theorem tGet_obPut (s : State) (x hi lo v : Nat) (c k : Nat) : tGet (obPut s x hi lo v) c k = tGet s c k := tGet_congr (obPut_tbl s x hi lo v) c k

@[simp] theorem obStamp_pending (s : State) (x : Nat) : (obStamp s x).pending = s.pending := (rfl)
@[simp] theorem obStamp_regs (s : State) (x : Nat) : (obStamp s x).regs = s.regs := (rfl)
@[simp] theorem obStamp_refActive (s : State) (x : Nat) : (obStamp s x).refActive = s.refActive := (rfl)
@[simp] theorem obStamp_hiLatch (s : State) (x : Nat) : (obStamp s x).hiLatch = s.hiLatch := (rfl)
@[simp] theorem obStamp_armed (s : State) (x : Nat) : (obStamp s x).armed = s.armed := (rfl)
@[simp] theorem obStamp_tri (s : State) (x : Nat) : (obStamp s x).tri = s.tri := (rfl)
@[simp] theorem obStamp_tbl (s : State) (x : Nat) : (obStamp s x).tbl = s.tbl := (rfl)
@[simp] theorem obStamp_shadow (s : State) (x : Nat) : (obStamp s x).shadow = s.shadow := (rfl)
@[simp] theorem obStamp_pay (s : State) (x : Nat) : (obStamp s x).pay = s.pay := (rfl)
@[simp] theorem obStamp_mem (s : State) (x : Nat) : (obStamp s x).mem = s.mem := (rfl)
@[simp] theorem obStamp_slots (s : State) (x : Nat) : (obStamp s x).slots = s.slots := (rfl)
@[simp] theorem obStamp_smt (s : State) (x : Nat) : (obStamp s x).smt = s.smt := (rfl)
@[simp] theorem obStamp_can (s : State) (x : Nat) : (obStamp s x).can = s.can := (rfl)
@[simp] theorem obStamp_tst (s : State) (x : Nat) : (obStamp s x).tst = s.tst := (rfl)
@[simp] theorem obStamp_reqSeq (s : State) (x : Nat) : (obStamp s x).reqSeq = s.reqSeq := (rfl)
@[simp] theorem obStamp_copyNext (s : State) (x : Nat) : (obStamp s x).copyNext = s.copyNext := (rfl)
@[simp] theorem obStamp_copies (s : State) (x : Nat) : (obStamp s x).copies = s.copies := (rfl)
@[simp] theorem obStamp_carriers (s : State) (x : Nat) : (obStamp s x).carriers = s.carriers := (rfl)
@[simp] theorem obStamp_work2 (s : State) (x : Nat) : (obStamp s x).work2 = s.work2 := (rfl)
@[simp] theorem obStamp_comps (s : State) (x : Nat) : (obStamp s x).comps = s.comps := (rfl)
@[simp] theorem obStamp_runs (s : State) (x : Nat) : (obStamp s x).runs = s.runs := (rfl)
@[simp] theorem obStamp_parked (s : State) (x : Nat) : (obStamp s x).parked = s.parked := (rfl)
@[simp] theorem obStamp_desc (s : State) (x : Nat) : (obStamp s x).desc = s.desc := (rfl)
@[simp] theorem obStamp_inForce (s : State) (x : Nat) : (obStamp s x).inForce = s.inForce := (rfl)
@[simp] theorem obStamp_relocs (s : State) (x : Nat) : (obStamp s x).relocs = s.relocs := (rfl)
@[simp] theorem obStamp_motLog (s : State) (x : Nat) : (obStamp s x).motLog = s.motLog := (rfl)
@[simp] theorem obStamp_poolZero (s : State) (x : Nat) : (obStamp s x).poolZero = s.poolZero := (rfl)
@[simp] theorem obStamp_scanHeld (s : State) (x : Nat) : (obStamp s x).scanHeld = s.scanHeld := (rfl)
@[simp] theorem obStamp_serdes (s : State) (x : Nat) : (obStamp s x).serdes = s.serdes := (rfl)
@[simp] theorem obStamp_cache (s : State) (x : Nat) : (obStamp s x).cache = s.cache := (rfl)
@[simp] theorem obStamp_passes (s : State) (x : Nat) : (obStamp s x).passes = s.passes := (rfl)
@[simp] theorem obStamp_sweepPauseAt (s : State) (x : Nat) : (obStamp s x).sweepPauseAt = s.sweepPauseAt := (rfl)
@[simp] theorem obStamp_sweepRunFrom (s : State) (x : Nat) : (obStamp s x).sweepRunFrom = s.sweepRunFrom := (rfl)
@[simp] theorem obStamp_mir (s : State) (x : Nat) : (obStamp s x).mir = s.mir := (rfl)
@[simp] theorem obStamp_time (s : State) (x : Nat) : (obStamp s x).time = s.time := (rfl)
@[simp] theorem obStamp_jnl (s : State) (x : Nat) : (obStamp s x).jnl = s.jnl := (rfl)
@[simp] theorem obStamp_ring (s : State) (x : Nat) : (obStamp s x).ring = s.ring := (rfl)
@[simp] theorem obStamp_mbx (s : State) (x : Nat) : (obStamp s x).mbx = s.mbx := (rfl)
@[simp] theorem obStamp_script (s : State) (x : Nat) : (obStamp s x).script = s.script := (rfl)
@[simp] theorem obStamp_irq (s : State) (x : Nat) : (obStamp s x).irq = s.irq := (rfl)
@[simp] theorem obStamp_sw (s : State) (x : Nat) : (obStamp s x).sw = s.sw := (rfl)
@[simp] theorem obStamp_eth (s : State) (x : Nat) : (obStamp s x).eth = s.eth := (rfl)
@[simp] theorem obStamp_fwd (s : State) (x : Nat) : (obStamp s x).fwd = s.fwd := (rfl)
@[simp] theorem obStamp_sec (s : State) (x : Nat) : (obStamp s x).sec = s.sec := (rfl)
@[simp] theorem obStamp_dev (s : State) (x : Nat) : (obStamp s x).dev = s.dev := (rfl)
@[simp] theorem obStamp_clk (s : State) (x : Nat) : (obStamp s x).clk = s.clk := (rfl)
@[simp] theorem obStamp_boot (s : State) (x : Nat) : (obStamp s x).boot = s.boot := (rfl)
@[simp] theorem obStamp_otp (s : State) (x : Nat) : (obStamp s x).otp = s.otp := (rfl)
@[simp] theorem obStamp_flash (s : State) (x : Nat) : (obStamp s x).flash = s.flash := (rfl)
@[simp] theorem obStamp_upd (s : State) (x : Nat) : (obStamp s x).upd = s.upd := (rfl)
@[simp] theorem obStamp_lan (s : State) (x : Nat) : (obStamp s x).lan = s.lan := (rfl)
@[simp] theorem obStamp_bud (s : State) (x : Nat) : (obStamp s x).bud = s.bud := (rfl)
@[simp] theorem obStamp_pcie (s : State) (x : Nat) : (obStamp s x).pcie = s.pcie := (rfl)
@[simp] theorem obStamp_ticks (s : State) (x : Nat) : (obStamp s x).ticks = s.ticks := (rfl)
@[simp] theorem obStamp_free (s : State) (x : Nat) : (obStamp s x).free = s.free := (rfl)
@[simp] theorem obStamp_house (s : State) (x : Nat) : (obStamp s x).house = s.house := (rfl)
@[simp] theorem obStamp_out (s : State) (x : Nat) : (obStamp s x).out = s.out := (rfl)
@[simp] theorem rd_obStamp (s : State) (x : Nat) (k : Nat) : rd (obStamp s x) k = rd s k := rd_congr (obStamp_regs s x) k
@[simp] theorem memByte_obStamp (s : State) (x : Nat) (k : Nat) : memByte (obStamp s x) k = memByte s k := memByte_congr (obStamp_mem s x) k
@[simp] theorem chan_obStamp (s : State) (x : Nat) (k : Nat) : chan (obStamp s x) k = chan s k := chan_congr (obStamp_can s x) k
@[simp] theorem tGet_obStamp (s : State) (x : Nat) (c k : Nat) : tGet (obStamp s x) c k = tGet s c k := tGet_congr (obStamp_tbl s x) c k

@[simp] theorem setTst_pending (s : State) (x : Nat) (y : TstRt) : (setTst s x y).pending = s.pending := (rfl)
@[simp] theorem setTst_regs (s : State) (x : Nat) (y : TstRt) : (setTst s x y).regs = s.regs := (rfl)
@[simp] theorem setTst_refActive (s : State) (x : Nat) (y : TstRt) : (setTst s x y).refActive = s.refActive := (rfl)
@[simp] theorem setTst_hiLatch (s : State) (x : Nat) (y : TstRt) : (setTst s x y).hiLatch = s.hiLatch := (rfl)
@[simp] theorem setTst_armed (s : State) (x : Nat) (y : TstRt) : (setTst s x y).armed = s.armed := (rfl)
@[simp] theorem setTst_tri (s : State) (x : Nat) (y : TstRt) : (setTst s x y).tri = s.tri := (rfl)
@[simp] theorem setTst_tbl (s : State) (x : Nat) (y : TstRt) : (setTst s x y).tbl = s.tbl := (rfl)
@[simp] theorem setTst_shadow (s : State) (x : Nat) (y : TstRt) : (setTst s x y).shadow = s.shadow := (rfl)
@[simp] theorem setTst_pay (s : State) (x : Nat) (y : TstRt) : (setTst s x y).pay = s.pay := (rfl)
@[simp] theorem setTst_mem (s : State) (x : Nat) (y : TstRt) : (setTst s x y).mem = s.mem := (rfl)
@[simp] theorem setTst_slots (s : State) (x : Nat) (y : TstRt) : (setTst s x y).slots = s.slots := (rfl)
@[simp] theorem setTst_smt (s : State) (x : Nat) (y : TstRt) : (setTst s x y).smt = s.smt := (rfl)
@[simp] theorem setTst_can (s : State) (x : Nat) (y : TstRt) : (setTst s x y).can = s.can := (rfl)
@[simp] theorem setTst_obj (s : State) (x : Nat) (y : TstRt) : (setTst s x y).obj = s.obj := (rfl)
@[simp] theorem setTst_reqSeq (s : State) (x : Nat) (y : TstRt) : (setTst s x y).reqSeq = s.reqSeq := (rfl)
@[simp] theorem setTst_copyNext (s : State) (x : Nat) (y : TstRt) : (setTst s x y).copyNext = s.copyNext := (rfl)
@[simp] theorem setTst_copies (s : State) (x : Nat) (y : TstRt) : (setTst s x y).copies = s.copies := (rfl)
@[simp] theorem setTst_carriers (s : State) (x : Nat) (y : TstRt) : (setTst s x y).carriers = s.carriers := (rfl)
@[simp] theorem setTst_work2 (s : State) (x : Nat) (y : TstRt) : (setTst s x y).work2 = s.work2 := (rfl)
@[simp] theorem setTst_comps (s : State) (x : Nat) (y : TstRt) : (setTst s x y).comps = s.comps := (rfl)
@[simp] theorem setTst_runs (s : State) (x : Nat) (y : TstRt) : (setTst s x y).runs = s.runs := (rfl)
@[simp] theorem setTst_parked (s : State) (x : Nat) (y : TstRt) : (setTst s x y).parked = s.parked := (rfl)
@[simp] theorem setTst_desc (s : State) (x : Nat) (y : TstRt) : (setTst s x y).desc = s.desc := (rfl)
@[simp] theorem setTst_inForce (s : State) (x : Nat) (y : TstRt) : (setTst s x y).inForce = s.inForce := (rfl)
@[simp] theorem setTst_relocs (s : State) (x : Nat) (y : TstRt) : (setTst s x y).relocs = s.relocs := (rfl)
@[simp] theorem setTst_motLog (s : State) (x : Nat) (y : TstRt) : (setTst s x y).motLog = s.motLog := (rfl)
@[simp] theorem setTst_poolZero (s : State) (x : Nat) (y : TstRt) : (setTst s x y).poolZero = s.poolZero := (rfl)
@[simp] theorem setTst_scanHeld (s : State) (x : Nat) (y : TstRt) : (setTst s x y).scanHeld = s.scanHeld := (rfl)
@[simp] theorem setTst_serdes (s : State) (x : Nat) (y : TstRt) : (setTst s x y).serdes = s.serdes := (rfl)
@[simp] theorem setTst_cache (s : State) (x : Nat) (y : TstRt) : (setTst s x y).cache = s.cache := (rfl)
@[simp] theorem setTst_passes (s : State) (x : Nat) (y : TstRt) : (setTst s x y).passes = s.passes := (rfl)
@[simp] theorem setTst_sweepPauseAt (s : State) (x : Nat) (y : TstRt) : (setTst s x y).sweepPauseAt = s.sweepPauseAt := (rfl)
@[simp] theorem setTst_sweepRunFrom (s : State) (x : Nat) (y : TstRt) : (setTst s x y).sweepRunFrom = s.sweepRunFrom := (rfl)
@[simp] theorem setTst_mir (s : State) (x : Nat) (y : TstRt) : (setTst s x y).mir = s.mir := (rfl)
@[simp] theorem setTst_time (s : State) (x : Nat) (y : TstRt) : (setTst s x y).time = s.time := (rfl)
@[simp] theorem setTst_jnl (s : State) (x : Nat) (y : TstRt) : (setTst s x y).jnl = s.jnl := (rfl)
@[simp] theorem setTst_ring (s : State) (x : Nat) (y : TstRt) : (setTst s x y).ring = s.ring := (rfl)
@[simp] theorem setTst_mbx (s : State) (x : Nat) (y : TstRt) : (setTst s x y).mbx = s.mbx := (rfl)
@[simp] theorem setTst_script (s : State) (x : Nat) (y : TstRt) : (setTst s x y).script = s.script := (rfl)
@[simp] theorem setTst_irq (s : State) (x : Nat) (y : TstRt) : (setTst s x y).irq = s.irq := (rfl)
@[simp] theorem setTst_sw (s : State) (x : Nat) (y : TstRt) : (setTst s x y).sw = s.sw := (rfl)
@[simp] theorem setTst_eth (s : State) (x : Nat) (y : TstRt) : (setTst s x y).eth = s.eth := (rfl)
@[simp] theorem setTst_fwd (s : State) (x : Nat) (y : TstRt) : (setTst s x y).fwd = s.fwd := (rfl)
@[simp] theorem setTst_sec (s : State) (x : Nat) (y : TstRt) : (setTst s x y).sec = s.sec := (rfl)
@[simp] theorem setTst_dev (s : State) (x : Nat) (y : TstRt) : (setTst s x y).dev = s.dev := (rfl)
@[simp] theorem setTst_clk (s : State) (x : Nat) (y : TstRt) : (setTst s x y).clk = s.clk := (rfl)
@[simp] theorem setTst_boot (s : State) (x : Nat) (y : TstRt) : (setTst s x y).boot = s.boot := (rfl)
@[simp] theorem setTst_otp (s : State) (x : Nat) (y : TstRt) : (setTst s x y).otp = s.otp := (rfl)
@[simp] theorem setTst_flash (s : State) (x : Nat) (y : TstRt) : (setTst s x y).flash = s.flash := (rfl)
@[simp] theorem setTst_upd (s : State) (x : Nat) (y : TstRt) : (setTst s x y).upd = s.upd := (rfl)
@[simp] theorem setTst_lan (s : State) (x : Nat) (y : TstRt) : (setTst s x y).lan = s.lan := (rfl)
@[simp] theorem setTst_bud (s : State) (x : Nat) (y : TstRt) : (setTst s x y).bud = s.bud := (rfl)
@[simp] theorem setTst_pcie (s : State) (x : Nat) (y : TstRt) : (setTst s x y).pcie = s.pcie := (rfl)
@[simp] theorem setTst_ticks (s : State) (x : Nat) (y : TstRt) : (setTst s x y).ticks = s.ticks := (rfl)
@[simp] theorem setTst_free (s : State) (x : Nat) (y : TstRt) : (setTst s x y).free = s.free := (rfl)
@[simp] theorem setTst_house (s : State) (x : Nat) (y : TstRt) : (setTst s x y).house = s.house := (rfl)
@[simp] theorem setTst_out (s : State) (x : Nat) (y : TstRt) : (setTst s x y).out = s.out := (rfl)
@[simp] theorem rd_setTst (s : State) (x : Nat) (y : TstRt) (k : Nat) : rd (setTst s x y) k = rd s k := rd_congr (setTst_regs s x y) k
@[simp] theorem memByte_setTst (s : State) (x : Nat) (y : TstRt) (k : Nat) : memByte (setTst s x y) k = memByte s k := memByte_congr (setTst_mem s x y) k
@[simp] theorem chan_setTst (s : State) (x : Nat) (y : TstRt) (k : Nat) : chan (setTst s x y) k = chan s k := chan_congr (setTst_can s x y) k
@[simp] theorem objAt_setTst (s : State) (x : Nat) (y : TstRt) (k : Nat) : objAt (setTst s x y) k = objAt s k := objAt_congr (setTst_obj s x y) k
@[simp] theorem tGet_setTst (s : State) (x : Nat) (y : TstRt) (c k : Nat) : tGet (setTst s x y) c k = tGet s c k := tGet_congr (setTst_tbl s x y) c k

@[simp] theorem setChoice_pending (s : State) (x : Nat) (y : Option CanFrame) : (setChoice s x y).pending = s.pending := (rfl)
@[simp] theorem setChoice_regs (s : State) (x : Nat) (y : Option CanFrame) : (setChoice s x y).regs = s.regs := (rfl)
@[simp] theorem setChoice_refActive (s : State) (x : Nat) (y : Option CanFrame) : (setChoice s x y).refActive = s.refActive := (rfl)
@[simp] theorem setChoice_hiLatch (s : State) (x : Nat) (y : Option CanFrame) : (setChoice s x y).hiLatch = s.hiLatch := (rfl)
@[simp] theorem setChoice_armed (s : State) (x : Nat) (y : Option CanFrame) : (setChoice s x y).armed = s.armed := (rfl)
@[simp] theorem setChoice_tri (s : State) (x : Nat) (y : Option CanFrame) : (setChoice s x y).tri = s.tri := (rfl)
@[simp] theorem setChoice_tbl (s : State) (x : Nat) (y : Option CanFrame) : (setChoice s x y).tbl = s.tbl := (rfl)
@[simp] theorem setChoice_shadow (s : State) (x : Nat) (y : Option CanFrame) : (setChoice s x y).shadow = s.shadow := (rfl)
@[simp] theorem setChoice_pay (s : State) (x : Nat) (y : Option CanFrame) : (setChoice s x y).pay = s.pay := (rfl)
@[simp] theorem setChoice_mem (s : State) (x : Nat) (y : Option CanFrame) : (setChoice s x y).mem = s.mem := (rfl)
@[simp] theorem setChoice_slots (s : State) (x : Nat) (y : Option CanFrame) : (setChoice s x y).slots = s.slots := (rfl)
@[simp] theorem setChoice_smt (s : State) (x : Nat) (y : Option CanFrame) : (setChoice s x y).smt = s.smt := (rfl)
@[simp] theorem setChoice_can (s : State) (x : Nat) (y : Option CanFrame) : (setChoice s x y).can = s.can := (rfl)
@[simp] theorem setChoice_obj (s : State) (x : Nat) (y : Option CanFrame) : (setChoice s x y).obj = s.obj := (rfl)
@[simp] theorem setChoice_tst (s : State) (x : Nat) (y : Option CanFrame) : (setChoice s x y).tst = s.tst := (rfl)
@[simp] theorem setChoice_reqSeq (s : State) (x : Nat) (y : Option CanFrame) : (setChoice s x y).reqSeq = s.reqSeq := (rfl)
@[simp] theorem setChoice_copyNext (s : State) (x : Nat) (y : Option CanFrame) : (setChoice s x y).copyNext = s.copyNext := (rfl)
@[simp] theorem setChoice_copies (s : State) (x : Nat) (y : Option CanFrame) : (setChoice s x y).copies = s.copies := (rfl)
@[simp] theorem setChoice_carriers (s : State) (x : Nat) (y : Option CanFrame) : (setChoice s x y).carriers = s.carriers := (rfl)
@[simp] theorem setChoice_work2 (s : State) (x : Nat) (y : Option CanFrame) : (setChoice s x y).work2 = s.work2 := (rfl)
@[simp] theorem setChoice_comps (s : State) (x : Nat) (y : Option CanFrame) : (setChoice s x y).comps = s.comps := (rfl)
@[simp] theorem setChoice_runs (s : State) (x : Nat) (y : Option CanFrame) : (setChoice s x y).runs = s.runs := (rfl)
@[simp] theorem setChoice_parked (s : State) (x : Nat) (y : Option CanFrame) : (setChoice s x y).parked = s.parked := (rfl)
@[simp] theorem setChoice_desc (s : State) (x : Nat) (y : Option CanFrame) : (setChoice s x y).desc = s.desc := (rfl)
@[simp] theorem setChoice_inForce (s : State) (x : Nat) (y : Option CanFrame) : (setChoice s x y).inForce = s.inForce := (rfl)
@[simp] theorem setChoice_relocs (s : State) (x : Nat) (y : Option CanFrame) : (setChoice s x y).relocs = s.relocs := (rfl)
@[simp] theorem setChoice_motLog (s : State) (x : Nat) (y : Option CanFrame) : (setChoice s x y).motLog = s.motLog := (rfl)
@[simp] theorem setChoice_poolZero (s : State) (x : Nat) (y : Option CanFrame) : (setChoice s x y).poolZero = s.poolZero := (rfl)
@[simp] theorem setChoice_scanHeld (s : State) (x : Nat) (y : Option CanFrame) : (setChoice s x y).scanHeld = s.scanHeld := (rfl)
@[simp] theorem setChoice_serdes (s : State) (x : Nat) (y : Option CanFrame) : (setChoice s x y).serdes = s.serdes := (rfl)
@[simp] theorem setChoice_cache (s : State) (x : Nat) (y : Option CanFrame) : (setChoice s x y).cache = s.cache := (rfl)
@[simp] theorem setChoice_passes (s : State) (x : Nat) (y : Option CanFrame) : (setChoice s x y).passes = s.passes := (rfl)
@[simp] theorem setChoice_sweepPauseAt (s : State) (x : Nat) (y : Option CanFrame) : (setChoice s x y).sweepPauseAt = s.sweepPauseAt := (rfl)
@[simp] theorem setChoice_sweepRunFrom (s : State) (x : Nat) (y : Option CanFrame) : (setChoice s x y).sweepRunFrom = s.sweepRunFrom := (rfl)
@[simp] theorem setChoice_mir (s : State) (x : Nat) (y : Option CanFrame) : (setChoice s x y).mir = s.mir := (rfl)
@[simp] theorem setChoice_time (s : State) (x : Nat) (y : Option CanFrame) : (setChoice s x y).time = s.time := (rfl)
@[simp] theorem setChoice_jnl (s : State) (x : Nat) (y : Option CanFrame) : (setChoice s x y).jnl = s.jnl := (rfl)
@[simp] theorem setChoice_ring (s : State) (x : Nat) (y : Option CanFrame) : (setChoice s x y).ring = s.ring := (rfl)
@[simp] theorem setChoice_mbx (s : State) (x : Nat) (y : Option CanFrame) : (setChoice s x y).mbx = s.mbx := (rfl)
@[simp] theorem setChoice_script (s : State) (x : Nat) (y : Option CanFrame) : (setChoice s x y).script = s.script := (rfl)
@[simp] theorem setChoice_irq (s : State) (x : Nat) (y : Option CanFrame) : (setChoice s x y).irq = s.irq := (rfl)
@[simp] theorem setChoice_sw (s : State) (x : Nat) (y : Option CanFrame) : (setChoice s x y).sw = s.sw := (rfl)
@[simp] theorem setChoice_eth (s : State) (x : Nat) (y : Option CanFrame) : (setChoice s x y).eth = s.eth := (rfl)
@[simp] theorem setChoice_fwd (s : State) (x : Nat) (y : Option CanFrame) : (setChoice s x y).fwd = s.fwd := (rfl)
@[simp] theorem setChoice_sec (s : State) (x : Nat) (y : Option CanFrame) : (setChoice s x y).sec = s.sec := (rfl)
@[simp] theorem setChoice_dev (s : State) (x : Nat) (y : Option CanFrame) : (setChoice s x y).dev = s.dev := (rfl)
@[simp] theorem setChoice_clk (s : State) (x : Nat) (y : Option CanFrame) : (setChoice s x y).clk = s.clk := (rfl)
@[simp] theorem setChoice_boot (s : State) (x : Nat) (y : Option CanFrame) : (setChoice s x y).boot = s.boot := (rfl)
@[simp] theorem setChoice_otp (s : State) (x : Nat) (y : Option CanFrame) : (setChoice s x y).otp = s.otp := (rfl)
@[simp] theorem setChoice_flash (s : State) (x : Nat) (y : Option CanFrame) : (setChoice s x y).flash = s.flash := (rfl)
@[simp] theorem setChoice_upd (s : State) (x : Nat) (y : Option CanFrame) : (setChoice s x y).upd = s.upd := (rfl)
@[simp] theorem setChoice_lan (s : State) (x : Nat) (y : Option CanFrame) : (setChoice s x y).lan = s.lan := (rfl)
@[simp] theorem setChoice_pcie (s : State) (x : Nat) (y : Option CanFrame) : (setChoice s x y).pcie = s.pcie := (rfl)
@[simp] theorem setChoice_ticks (s : State) (x : Nat) (y : Option CanFrame) : (setChoice s x y).ticks = s.ticks := (rfl)
@[simp] theorem setChoice_free (s : State) (x : Nat) (y : Option CanFrame) : (setChoice s x y).free = s.free := (rfl)
@[simp] theorem setChoice_house (s : State) (x : Nat) (y : Option CanFrame) : (setChoice s x y).house = s.house := (rfl)
@[simp] theorem setChoice_out (s : State) (x : Nat) (y : Option CanFrame) : (setChoice s x y).out = s.out := (rfl)
@[simp] theorem rd_setChoice (s : State) (x : Nat) (y : Option CanFrame) (k : Nat) : rd (setChoice s x y) k = rd s k := rd_congr (setChoice_regs s x y) k
@[simp] theorem memByte_setChoice (s : State) (x : Nat) (y : Option CanFrame) (k : Nat) : memByte (setChoice s x y) k = memByte s k := memByte_congr (setChoice_mem s x y) k
@[simp] theorem chan_setChoice (s : State) (x : Nat) (y : Option CanFrame) (k : Nat) : chan (setChoice s x y) k = chan s k := chan_congr (setChoice_can s x y) k
@[simp] theorem objAt_setChoice (s : State) (x : Nat) (y : Option CanFrame) (k : Nat) : objAt (setChoice s x y) k = objAt s k := objAt_congr (setChoice_obj s x y) k
@[simp] theorem tGet_setChoice (s : State) (x : Nat) (y : Option CanFrame) (c k : Nat) : tGet (setChoice s x y) c k = tGet s c k := tGet_congr (setChoice_tbl s x y) c k

@[simp] theorem payWrite_pending (s : State) (a : Nat) (bs : List Byte) : (payWrite s a bs).pending = s.pending := by
  induction bs generalizing s a with
  | nil => rfl
  | cons b bs ih => rw [payWrite, ih]

@[simp] theorem payWrite_regs (s : State) (a : Nat) (bs : List Byte) : (payWrite s a bs).regs = s.regs := by
  induction bs generalizing s a with
  | nil => rfl
  | cons b bs ih => rw [payWrite, ih]

@[simp] theorem payWrite_refActive (s : State) (a : Nat) (bs : List Byte) : (payWrite s a bs).refActive = s.refActive := by
  induction bs generalizing s a with
  | nil => rfl
  | cons b bs ih => rw [payWrite, ih]

@[simp] theorem payWrite_hiLatch (s : State) (a : Nat) (bs : List Byte) : (payWrite s a bs).hiLatch = s.hiLatch := by
  induction bs generalizing s a with
  | nil => rfl
  | cons b bs ih => rw [payWrite, ih]

@[simp] theorem payWrite_armed (s : State) (a : Nat) (bs : List Byte) : (payWrite s a bs).armed = s.armed := by
  induction bs generalizing s a with
  | nil => rfl
  | cons b bs ih => rw [payWrite, ih]

@[simp] theorem payWrite_tri (s : State) (a : Nat) (bs : List Byte) : (payWrite s a bs).tri = s.tri := by
  induction bs generalizing s a with
  | nil => rfl
  | cons b bs ih => rw [payWrite, ih]

@[simp] theorem payWrite_tbl (s : State) (a : Nat) (bs : List Byte) : (payWrite s a bs).tbl = s.tbl := by
  induction bs generalizing s a with
  | nil => rfl
  | cons b bs ih => rw [payWrite, ih]

@[simp] theorem payWrite_shadow (s : State) (a : Nat) (bs : List Byte) : (payWrite s a bs).shadow = s.shadow := by
  induction bs generalizing s a with
  | nil => rfl
  | cons b bs ih => rw [payWrite, ih]

@[simp] theorem payWrite_mem (s : State) (a : Nat) (bs : List Byte) : (payWrite s a bs).mem = s.mem := by
  induction bs generalizing s a with
  | nil => rfl
  | cons b bs ih => rw [payWrite, ih]

@[simp] theorem payWrite_slots (s : State) (a : Nat) (bs : List Byte) : (payWrite s a bs).slots = s.slots := by
  induction bs generalizing s a with
  | nil => rfl
  | cons b bs ih => rw [payWrite, ih]

@[simp] theorem payWrite_smt (s : State) (a : Nat) (bs : List Byte) : (payWrite s a bs).smt = s.smt := by
  induction bs generalizing s a with
  | nil => rfl
  | cons b bs ih => rw [payWrite, ih]

@[simp] theorem payWrite_can (s : State) (a : Nat) (bs : List Byte) : (payWrite s a bs).can = s.can := by
  induction bs generalizing s a with
  | nil => rfl
  | cons b bs ih => rw [payWrite, ih]

@[simp] theorem payWrite_obj (s : State) (a : Nat) (bs : List Byte) : (payWrite s a bs).obj = s.obj := by
  induction bs generalizing s a with
  | nil => rfl
  | cons b bs ih => rw [payWrite, ih]

@[simp] theorem payWrite_tst (s : State) (a : Nat) (bs : List Byte) : (payWrite s a bs).tst = s.tst := by
  induction bs generalizing s a with
  | nil => rfl
  | cons b bs ih => rw [payWrite, ih]

@[simp] theorem payWrite_reqSeq (s : State) (a : Nat) (bs : List Byte) : (payWrite s a bs).reqSeq = s.reqSeq := by
  induction bs generalizing s a with
  | nil => rfl
  | cons b bs ih => rw [payWrite, ih]

@[simp] theorem payWrite_copyNext (s : State) (a : Nat) (bs : List Byte) : (payWrite s a bs).copyNext = s.copyNext := by
  induction bs generalizing s a with
  | nil => rfl
  | cons b bs ih => rw [payWrite, ih]

@[simp] theorem payWrite_copies (s : State) (a : Nat) (bs : List Byte) : (payWrite s a bs).copies = s.copies := by
  induction bs generalizing s a with
  | nil => rfl
  | cons b bs ih => rw [payWrite, ih]

@[simp] theorem payWrite_carriers (s : State) (a : Nat) (bs : List Byte) : (payWrite s a bs).carriers = s.carriers := by
  induction bs generalizing s a with
  | nil => rfl
  | cons b bs ih => rw [payWrite, ih]

@[simp] theorem payWrite_work2 (s : State) (a : Nat) (bs : List Byte) : (payWrite s a bs).work2 = s.work2 := by
  induction bs generalizing s a with
  | nil => rfl
  | cons b bs ih => rw [payWrite, ih]

@[simp] theorem payWrite_comps (s : State) (a : Nat) (bs : List Byte) : (payWrite s a bs).comps = s.comps := by
  induction bs generalizing s a with
  | nil => rfl
  | cons b bs ih => rw [payWrite, ih]

@[simp] theorem payWrite_runs (s : State) (a : Nat) (bs : List Byte) : (payWrite s a bs).runs = s.runs := by
  induction bs generalizing s a with
  | nil => rfl
  | cons b bs ih => rw [payWrite, ih]

@[simp] theorem payWrite_parked (s : State) (a : Nat) (bs : List Byte) : (payWrite s a bs).parked = s.parked := by
  induction bs generalizing s a with
  | nil => rfl
  | cons b bs ih => rw [payWrite, ih]

@[simp] theorem payWrite_desc (s : State) (a : Nat) (bs : List Byte) : (payWrite s a bs).desc = s.desc := by
  induction bs generalizing s a with
  | nil => rfl
  | cons b bs ih => rw [payWrite, ih]

@[simp] theorem payWrite_inForce (s : State) (a : Nat) (bs : List Byte) : (payWrite s a bs).inForce = s.inForce := by
  induction bs generalizing s a with
  | nil => rfl
  | cons b bs ih => rw [payWrite, ih]
@[simp] theorem payWrite_relocs (s : State) (a : Nat) (bs : List Byte) : (payWrite s a bs).relocs = s.relocs := by
  induction bs generalizing s a with
  | nil => rfl
  | cons b bs ih => rw [payWrite, ih]
@[simp] theorem payWrite_motLog (s : State) (a : Nat) (bs : List Byte) : (payWrite s a bs).motLog = s.motLog := by
  induction bs generalizing s a with
  | nil => rfl
  | cons b bs ih => rw [payWrite, ih]
@[simp] theorem payWrite_poolZero (s : State) (a : Nat) (bs : List Byte) : (payWrite s a bs).poolZero = s.poolZero := by
  induction bs generalizing s a with
  | nil => rfl
  | cons b bs ih => rw [payWrite, ih]
@[simp] theorem payWrite_scanHeld (s : State) (a : Nat) (bs : List Byte) : (payWrite s a bs).scanHeld = s.scanHeld := by
  induction bs generalizing s a with
  | nil => rfl
  | cons b bs ih => rw [payWrite, ih]
@[simp] theorem payWrite_serdes (s : State) (a : Nat) (bs : List Byte) : (payWrite s a bs).serdes = s.serdes := by
  induction bs generalizing s a with
  | nil => rfl
  | cons b bs ih => rw [payWrite, ih]


@[simp] theorem payWrite_cache (s : State) (a : Nat) (bs : List Byte) : (payWrite s a bs).cache = s.cache := by
  induction bs generalizing s a with
  | nil => rfl
  | cons b bs ih => rw [payWrite, ih]

@[simp] theorem payWrite_passes (s : State) (a : Nat) (bs : List Byte) : (payWrite s a bs).passes = s.passes := by
  induction bs generalizing s a with
  | nil => rfl
  | cons b bs ih => rw [payWrite, ih]

@[simp] theorem payWrite_sweepPauseAt (s : State) (a : Nat) (bs : List Byte) : (payWrite s a bs).sweepPauseAt = s.sweepPauseAt := by
  induction bs generalizing s a with
  | nil => rfl
  | cons b bs ih => rw [payWrite, ih]

@[simp] theorem payWrite_sweepRunFrom (s : State) (a : Nat) (bs : List Byte) : (payWrite s a bs).sweepRunFrom = s.sweepRunFrom := by
  induction bs generalizing s a with
  | nil => rfl
  | cons b bs ih => rw [payWrite, ih]

@[simp] theorem payWrite_mir (s : State) (a : Nat) (bs : List Byte) : (payWrite s a bs).mir = s.mir := by
  induction bs generalizing s a with
  | nil => rfl
  | cons b bs ih => rw [payWrite, ih]

@[simp] theorem payWrite_time (s : State) (a : Nat) (bs : List Byte) : (payWrite s a bs).time = s.time := by
  induction bs generalizing s a with
  | nil => rfl
  | cons b bs ih => rw [payWrite, ih]

@[simp] theorem payWrite_jnl (s : State) (a : Nat) (bs : List Byte) : (payWrite s a bs).jnl = s.jnl := by
  induction bs generalizing s a with
  | nil => rfl
  | cons b bs ih => rw [payWrite, ih]

@[simp] theorem payWrite_ring (s : State) (a : Nat) (bs : List Byte) : (payWrite s a bs).ring = s.ring := by
  induction bs generalizing s a with
  | nil => rfl
  | cons b bs ih => rw [payWrite, ih]

@[simp] theorem payWrite_mbx (s : State) (a : Nat) (bs : List Byte) : (payWrite s a bs).mbx = s.mbx := by
  induction bs generalizing s a with
  | nil => rfl
  | cons b bs ih => rw [payWrite, ih]

@[simp] theorem payWrite_script (s : State) (a : Nat) (bs : List Byte) : (payWrite s a bs).script = s.script := by
  induction bs generalizing s a with
  | nil => rfl
  | cons b bs ih => rw [payWrite, ih]

@[simp] theorem payWrite_irq (s : State) (a : Nat) (bs : List Byte) : (payWrite s a bs).irq = s.irq := by
  induction bs generalizing s a with
  | nil => rfl
  | cons b bs ih => rw [payWrite, ih]

@[simp] theorem payWrite_sw (s : State) (a : Nat) (bs : List Byte) : (payWrite s a bs).sw = s.sw := by
  induction bs generalizing s a with
  | nil => rfl
  | cons b bs ih => rw [payWrite, ih]

@[simp] theorem payWrite_eth (s : State) (a : Nat) (bs : List Byte) : (payWrite s a bs).eth = s.eth := by
  induction bs generalizing s a with
  | nil => rfl
  | cons b bs ih => rw [payWrite, ih]

@[simp] theorem payWrite_fwd (s : State) (a : Nat) (bs : List Byte) : (payWrite s a bs).fwd = s.fwd := by
  induction bs generalizing s a with
  | nil => rfl
  | cons b bs ih => rw [payWrite, ih]

@[simp] theorem payWrite_sec (s : State) (a : Nat) (bs : List Byte) : (payWrite s a bs).sec = s.sec := by
  induction bs generalizing s a with
  | nil => rfl
  | cons b bs ih => rw [payWrite, ih]

@[simp] theorem payWrite_dev (s : State) (a : Nat) (bs : List Byte) : (payWrite s a bs).dev = s.dev := by
  induction bs generalizing s a with
  | nil => rfl
  | cons b bs ih => rw [payWrite, ih]

@[simp] theorem payWrite_clk (s : State) (a : Nat) (bs : List Byte) : (payWrite s a bs).clk = s.clk := by
  induction bs generalizing s a with
  | nil => rfl
  | cons b bs ih => rw [payWrite, ih]

@[simp] theorem payWrite_boot (s : State) (a : Nat) (bs : List Byte) : (payWrite s a bs).boot = s.boot := by
  induction bs generalizing s a with
  | nil => rfl
  | cons b bs ih => rw [payWrite, ih]

@[simp] theorem payWrite_otp (s : State) (a : Nat) (bs : List Byte) : (payWrite s a bs).otp = s.otp := by
  induction bs generalizing s a with
  | nil => rfl
  | cons b bs ih => rw [payWrite, ih]

@[simp] theorem payWrite_flash (s : State) (a : Nat) (bs : List Byte) : (payWrite s a bs).flash = s.flash := by
  induction bs generalizing s a with
  | nil => rfl
  | cons b bs ih => rw [payWrite, ih]

@[simp] theorem payWrite_upd (s : State) (a : Nat) (bs : List Byte) : (payWrite s a bs).upd = s.upd := by
  induction bs generalizing s a with
  | nil => rfl
  | cons b bs ih => rw [payWrite, ih]

@[simp] theorem payWrite_lan (s : State) (a : Nat) (bs : List Byte) : (payWrite s a bs).lan = s.lan := by
  induction bs generalizing s a with
  | nil => rfl
  | cons b bs ih => rw [payWrite, ih]

@[simp] theorem payWrite_bud (s : State) (a : Nat) (bs : List Byte) : (payWrite s a bs).bud = s.bud := by
  induction bs generalizing s a with
  | nil => rfl
  | cons b bs ih => rw [payWrite, ih]

@[simp] theorem payWrite_pcie (s : State) (a : Nat) (bs : List Byte) : (payWrite s a bs).pcie = s.pcie := by
  induction bs generalizing s a with
  | nil => rfl
  | cons b bs ih => rw [payWrite, ih]

@[simp] theorem payWrite_ticks (s : State) (a : Nat) (bs : List Byte) : (payWrite s a bs).ticks = s.ticks := by
  induction bs generalizing s a with
  | nil => rfl
  | cons b bs ih => rw [payWrite, ih]

@[simp] theorem payWrite_free (s : State) (a : Nat) (bs : List Byte) : (payWrite s a bs).free = s.free := by
  induction bs generalizing s a with
  | nil => rfl
  | cons b bs ih => rw [payWrite, ih]

@[simp] theorem payWrite_house (s : State) (a : Nat) (bs : List Byte) : (payWrite s a bs).house = s.house := by
  induction bs generalizing s a with
  | nil => rfl
  | cons b bs ih => rw [payWrite, ih]

@[simp] theorem payWrite_out (s : State) (a : Nat) (bs : List Byte) : (payWrite s a bs).out = s.out := by
  induction bs generalizing s a with
  | nil => rfl
  | cons b bs ih => rw [payWrite, ih]

@[simp] theorem rd_payWrite (s : State) (a : Nat) (bs : List Byte) (o : Nat) : rd (payWrite s a bs) o = rd s o := rd_congr (payWrite_regs s a bs) o

/-- A byte of the payload store after a write. -/
theorem payByte_payWrite (s : State) (a : Nat) (bs : List Byte) (x : Nat) :
    payByte (payWrite s a bs) x = if a ≤ x ∧ x < a + bs.length then bs.getD (x - a) 0 else payByte s x := by
  induction bs generalizing s a with
  | nil => simp [payWrite]
  | cons b bs ih =>
    have h0 : payByte { s with pay := SMap.set (fun _ => (0 : Byte)) s.pay a b } x = if x = a then b else payByte s x := SMap.get_set ..
    rw [payWrite, ih, h0]
    by_cases h : x = a
    · subst h; simp
    · by_cases h2 : a + 1 ≤ x ∧ x < a + 1 + bs.length
      · have : x - a = (x - (a + 1)) + 1 := by omega
        have h3 : a ≤ x ∧ x < a + (b :: bs).length := by simp; omega
        rw [if_pos h2, if_pos h3, this]; simp
      · have h3 : ¬ (a ≤ x ∧ x < a + (b :: bs).length) := by simp; omega
        rw [if_neg h2, if_neg h3, if_neg h]

theorem payByte_congr {s t : State} (h : t.pay = s.pay) (a : Nat) : payByte t a = payByte s a := by unfold payByte; rw [h]

theorem obBit_congr {s t : State} (h : t.obj = s.obj) (o b : Nat) : obBit t o b = obBit s o b := by unfold obBit objAt; rw [h]

theorem obLen_congr {s t : State} (h : t.obj = s.obj) (o : Nat) : obLen t o = obLen s o := by unfold obLen objAt; rw [h]

/-- A flag of an object after a field of its record has been set. -/
theorem obBit_obPut (s : State) (o hi lo v b : Nat) (h : hi < 32) (hl : lo ≤ hi) :
    obBit (obPut s o hi lo v) o b = if lo ≤ b ∧ b ≤ hi then v.testBit (b - lo) else obBit s o b := by
  unfold obBit obPut; rw [objAt_setObj, if_pos rfl]; exact getLsbD_putFld _ _ _ _ _ h hl

theorem objAt_obPut_ne (s : State) (o hi lo v k : Nat) (h : k ≠ o) : objAt (obPut s o hi lo v) k = objAt s k := by
  unfold obPut; rw [objAt_setObj, if_neg h]

theorem obLen_obPut (s : State) (o hi lo v : Nat) (h : hi < 32) (hl : lo ≤ hi) (h3 : 11 < lo) : obLen (obPut s o hi lo v) o = obLen s o := by
  unfold obLen obPut; rw [objAt_setObj, if_pos rfl]; exact fld_putFld_other _ _ _ _ _ _ h hl (by omega)

theorem obLen_obPut_len (s : State) (o v : Nat) : obLen (obPut s o 11 0 v) o = v % 4096 := by
  unfold obLen obPut; rw [objAt_setObj, if_pos rfl, fld_putFld_same _ _ _ _ (by omega) (by omega)]; norm_num

theorem obBit_obStamp (s : State) (o b : Nat) : obBit (obStamp s o) o b = obBit s o b := by
  unfold obStamp obBit; rw [objAt_setObj, if_pos rfl]

theorem obLen_obStamp (s : State) (o : Nat) : obLen (obStamp s o) o = obLen s o := by
  unfold obStamp obLen; rw [objAt_setObj, if_pos rfl]

end Sys2Proof.Machine
end

