-- ==== Sys2Proof/Laws/Rings.lean ====
section
/-!
SUPPORT. Sys2Proof/Laws/Rings.lean: bytes read back from device memory, and a transmit descriptor returned.
-/
namespace Sys2Proof.Machine

/-- The little-endian bytes of a number give it back. -/
theorem leNat_leBytes (n v : Nat) : leNat (leBytes n v) = v % 256 ^ n := by
  induction n generalizing v with
  | zero => simp [leBytes, leNat, Nat.mod_one]
  | succ n ih =>
    have h8 : (2 : Nat) ^ 8 = 256 := by decide
    simp only [leBytes, leNat, ih, BitVec.toNat_ofNat, h8]
    have : 256 ^ (n + 1) = 256 * 256 ^ n := by rw [Nat.pow_succ, Nat.mul_comm]
    rw [this, Nat.mod_mul]

theorem length_leBytes (n v : Nat) : (leBytes n v).length = n := by
  induction n generalizing v with
  | zero => rfl
  | succ n ih => simp [leBytes, ih]

/-- Bytes written read back. -/
theorem memRead_same (s : State) (a : Nat) (bs : List Byte) : memRead (memWrite s a bs) a bs.length = bs := by
  unfold memRead
  apply List.ext_getElem
  · simp
  · intro i h1 h2
    simp only [List.getElem_map, List.getElem_range]
    rw [memByte_memWrite]
    have : a ≤ a + i ∧ a + i < a + bs.length := by omega
    simp [this, h2]

/-- Bytes outside those written read as before. -/
theorem memRead_other (s : State) (a b n : Nat) (bs : List Byte) (h : b + n ≤ a ∨ a + bs.length ≤ b) : memRead (memWrite s a bs) b n = memRead s b n := by
  unfold memRead
  apply List.map_congr_left
  intro i hi
  simp at hi
  rw [memByte_memWrite, if_neg (by omega)]

theorem memRead_congr {s t : State} (h : t.mem = s.mem) (a n : Nat) : memRead t a n = memRead s a n := by
  unfold memRead; exact List.map_congr_left fun i _ => memByte_congr h _

/-- A ring's registers and the next descriptor's first word once the descriptor at POS is returned with word 0 `w0`. -/
def Finished (s f : State) (r np : Nat) (w0 : Word) : Prop :=
  winRead f (descAt s r) 4 = leBytes 4 w0.toNat ∧ getF f (ringR r 8) 11 0 = np ∧
    rd f (ringR r 0x18) = rd s (ringR r 0x18) + 1 ∧ getB f (ringR r 0x10) 0 = true ∧ rd f (ringR r 4) = rd s (ringR r 4) ∧ rd f (ringR r 0) = rd s (ringR r 0) ∧
    winRead f ((rd s (ringR r 4)).toNat + 32 * np) 4 = winRead s ((rd s (ringR r 4)).toNat + 32 * np) 4

theorem txFinish_finished (s b : State) (r st np : Nat) (w0 : Word) (hR : ∀ o, o < 0x20 → rd b (ringR r o) = rd s (ringR r o)) (hm : b.mem = s.mem)
    (ha : (ringAt b r).after = none) (hda : descAt b r = descAt s r) (hib : descIn b r = true) (hdw : descWord b r 0 = descWord s r 0)
    (hw0 : putFld (putFld (descWord s r 0) 11 4 st) 0 0 0 = w0) (hnp : (getF s (ringR r 8) 11 0 + 1) % ringSize s r = np) (hnpl : np < 4096)
    (hne : np ≠ getF s (ringR r 8) 11 0) : Finished s (txFinish b r st) r np w0 := by
  have e0 : ∃ g, g = raise (incC (setF (winWrite (setRing b r { ringAt b r with wait := none }) (descAt s r) (leBytes 4 w0.toNat)) (ringR r 8) 11 0 np) (ringR r 0x18)) (ringR r 0x10) 0 := ⟨_, rfl⟩
  obtain ⟨g, hg⟩ := e0
  have e : txFinish b r st = if st = 0 ∨ st = 7 then g else raise (incC g (ringR r 0x1C)) (ringR r 0x10) 2 := by
    have e1 : descWord (setRing b r { ringAt b r with wait := none }) r 0 = descWord s r 0 := hdw
    have e2 : descAt (setRing b r { ringAt b r with wait := none }) r = descAt s r := hda
    have e5 : descIn (setRing b r { ringAt b r with wait := none }) r = true := hib
    have e3 : getF (winWrite (setRing b r { ringAt b r with wait := none }) (descAt s r) (leBytes 4 w0.toNat)) (ringR r 8) 11 0 = getF s (ringR r 8) 11 0 := by
      unfold winWrite getF; rw [rd_congr (memWrite_regs ..)]; show fld (rd b _) _ _ = _; rw [hR _ (by omega)]
    have e4 : ringSize (winWrite (setRing b r { ringAt b r with wait := none }) (descAt s r) (leBytes 4 w0.toNat)) r = ringSize s r := by
      unfold ringSize winWrite getF; rw [rd_congr (memWrite_regs ..)]; show 2 ^ (4 + fld (rd b _) _ _) = _; rw [hR _ (by omega)]
    have er : ringReturn (setRing b r { ringAt b r with wait := none }) r w0 = g := by
      unfold ringReturn
      simp only
      unfold setDescWord
      rw [e5, if_pos rfl, e2, Nat.mul_zero, Nat.add_zero, e3, e4, hnp, hg]
    have ea : (ringAt g r).after = none := by
      have : g.ring = (setRing b r { ringAt b r with wait := none }).ring := by rw [hg]; simp [raise_eq, setF, winWrite]
      unfold ringAt; rw [this]
      show (ringAt (setRing b r { ringAt b r with wait := none }) r).after = none
      simp [ringAt, setRing, SMap.get_set_same]
      exact ha
    have ea2 : ∀ c k, (ringAt (raise (incC g c) k 2) r).after = none := fun c k => ea
    unfold txFinish
    simp only
    rw [e1, hw0, er]
    by_cases h7 : st = 0 ∨ st = 7
    · rw [if_pos h7, ea]
    · rw [if_neg h7, ea2]
  rw [e]
  have hm1 : ringR r 8 ≠ ringR r 0x10 ∧ ringR r 8 ≠ ringR r 0x1C := by unfold ringR; omega
  have hm2 : ringR r 0x18 ≠ ringR r 0x10 ∧ ringR r 0x18 ≠ ringR r 0x1C ∧ ringR r 0x10 ≠ ringR r 0x1C := by unfold ringR; omega
  have hm3 : ringR r 4 ≠ ringR r 0x10 ∧ ringR r 4 ≠ ringR r 0x1C ∧ ringR r 0 ≠ ringR r 0x10 ∧ ringR r 0 ≠ ringR r 0x1C := by unfold ringR; omega
  suffices hG : Finished s g r np w0 by
    by_cases h7 : st = 0 ∨ st = 7
    · rw [if_pos h7]; exact hG
    · rw [if_neg h7]
      obtain ⟨g1, g2, g3, g4, g5, g6, g7⟩ := hG
      have hk : ∀ k, k ≠ ringR r 0x10 → k ≠ ringR r 0x1C → rd (raise (incC g (ringR r 0x1C)) (ringR r 0x10) 2) k = rd g k := by
        intro k h1 h2; rw [rd_raise, if_neg h1, incC_eq, rd_wr, if_neg h2]
      refine ⟨g1, ?_, ?_, ?_, ?_, ?_, g7⟩
      · unfold getF; rw [hk _ hm1.1 hm1.2]; exact g2
      · rw [hk _ hm2.1 hm2.2.1]; exact g3
      · rw [getB_raise_other _ _ _ _ _ (by omega) (.inr (by omega)), incC_eq, getB_wr_other _ _ _ _ _ hm2.2.2]; exact g4
      · rw [hk _ hm3.1 hm3.2.1]; exact g5
      · rw [hk _ hm3.2.2.1 hm3.2.2.2]; exact g6
  rw [hg]
  generalize haw : winWrite (setRing b r { ringAt b r with wait := none }) (descAt s r) (leBytes 4 w0.toNat) = a
  have har : ∀ o, rd a o = rd b o := by
    intro o; rw [← haw]; unfold winWrite; rw [rd_congr (memWrite_regs ..)]; rfl
  have ham : ∀ c n, winRead (raise (incC (setF a (ringR r 8) 11 0 np) (ringR r 0x18)) (ringR r 0x10) 0) c n = winRead a c n := fun c n => rfl
  have hne1 : ringR r 0x18 ≠ ringR r 8 := by unfold ringR; omega
  have hne2 : ringR r 0x10 ≠ ringR r 8 := by unfold ringR; omega
  have hne3 : ringR r 0x10 ≠ ringR r 0x18 := by unfold ringR; omega
  have hne4 : ringR r 4 ≠ ringR r 0x10 ∧ ringR r 4 ≠ ringR r 0x18 ∧ ringR r 4 ≠ ringR r 8 := by unfold ringR; omega
  have hne5 : ringR r 0 ≠ ringR r 0x10 ∧ ringR r 0 ≠ ringR r 0x18 ∧ ringR r 0 ≠ ringR r 8 := by unfold ringR; omega
  refine ⟨?_, ?_, ?_, ?_, ?_, ?_, ?_⟩
  · rw [ham, ← haw]
    have := memRead_same (setRing b r { ringAt b r with wait := none }) (hostBase + descAt s r) (leBytes 4 w0.toNat)
    rwa [length_leBytes] at this
  · rw [raise_eq, getF_wr_other _ _ _ _ _ _ hne2.symm, incC_eq, getF_wr_other _ _ _ _ _ _ hne1.symm, getF_setF_same _ _ _ _ _ (by omega) (by omega) (by omega)]
  · rw [rd_raise, if_neg hne3.symm, incC_eq, rd_wr_same, rd_setF, if_neg hne1, har, hR _ (by omega)]; rfl
  · exact getB_raise_same _ _ _ (by omega)
  · rw [rd_raise, if_neg hne4.1, incC_eq, rd_wr, if_neg hne4.2.1, rd_setF, if_neg hne4.2.2, har, hR _ (by omega)]
  · rw [rd_raise, if_neg hne5.1, incC_eq, rd_wr, if_neg hne5.2.1, rd_setF, if_neg hne5.2.2, har, hR _ (by omega)]
  · rw [ham, ← haw]
    have hd : descAt s r = (rd s (ringR r 4)).toNat + 32 * getF s (ringR r 8) 11 0 := rfl
    have := memRead_other (setRing b r { ringAt b r with wait := none }) (hostBase + descAt s r) (hostBase + ((rd s (ringR r 4)).toNat + 32 * np)) 4 (leBytes 4 w0.toNat)
      (by rw [length_leBytes, hd]; omega)
    unfold winWrite winRead
    rw [this]; exact memRead_congr hm _ _

/-- R327, R329: how a descriptor is returned, whatever its kind has changed outside the rings and device memory. -/
theorem txDone_returned (s b : State) (r st : Nat) (hr : ∀ o, o < 0x51000 ∧ 0x50000 ≤ o ∨ o = 0x14 → rd b o = rd s o) (hm : b.mem = s.mem)
    (hw : hostSize b = hostSize s) (ha : (ringAt b r).after = none) (hi : descIn s r = true) (hrr : r < 32) (hn : NextIsHosts s r) : TxReturned s (settle (txDone b r st)) r st := by
  have hR : ∀ o, o < 0x20 → rd b (ringR r o) = rd s (ringR r o) := fun o ho => hr _ (by unfold ringR; omega)
  obtain ⟨hs, -, hn⟩ := hn
  have hsz : ringSize s r ≤ 4096 ∧ 16 ≤ ringSize s r := by
    unfold ringSize; rw [Nat.pow_add]
    exact ⟨by have : 2 ^ getF s (ringR r 0) 4 1 ≤ 2 ^ 8 := Nat.pow_le_pow_right (by omega) hs
              omega, by have : 0 < 2 ^ getF s (ringR r 0) 4 1 := Nat.two_pow_pos _
                        omega⟩
  have hsb : ringSize b r = ringSize s r := by unfold ringSize getF; rw [hR _ (by omega)]
  have hda : descAt b r = descAt s r := by unfold descAt getF; rw [hR _ (by omega), hR _ (by omega)]
  have hib : descIn b r = true := by rw [← hi]; unfold descIn inWindow; rw [hda, hw]
  have hdw : descWord b r 0 = descWord s r 0 := by unfold descWord winRead; rw [hi, hib, hda, memRead_congr hm]
  generalize hw0 : putFld (putFld (descWord s r 0) 11 4 st) 0 0 0 = w0
  generalize hnp : (getF s (ringR r 8) 11 0 + 1) % ringSize s r = np at hn ⊢
  have hnpl : np < 4096 := by rw [← hnp]; exact Nat.lt_of_lt_of_le (Nat.mod_lt _ (by omega)) hsz.1
  have hne : np ≠ getF s (ringR r 8) 11 0 := by
    intro e; rw [← hnp] at e
    by_cases hc : getF s (ringR r 8) 11 0 + 1 < ringSize s r
    · rw [Nat.mod_eq_of_lt hc] at e; omega
    · by_cases h2 : getF s (ringR r 8) 11 0 + 1 = ringSize s r
      · rw [h2, Nat.mod_self] at e; omega
      · have := Nat.mod_lt (getF s (ringR r 8) 11 0 + 1) (show 0 < ringSize s r by omega); omega
  obtain ⟨f, hfe⟩ : ∃ f, f = txFinish b r st := ⟨_, rfl⟩
  obtain ⟨h1, h2, h3, h4, h5, h6, h7⟩ : Finished s f r np w0 := hfe ▸ txFinish_finished s b r st np w0 hR hm ha hda hib hdw hw0 hnp hnpl hne
  have hex : ∀ n, ∃ x, txExamine r n f = setRing f r x ∨ txExamine r n f = f := by
    intro n
    cases n with
    | zero => exact ⟨ringAt f r, .inr rfl⟩
    | succ n =>
      have hown : txOwn f r = false := by
        unfold txOwn descWord
        have : descAt f r + 4 * 0 = (rd s (ringR r 4)).toNat + 32 * np := by unfold descAt; rw [h5, h2]; omega
        split
        · rw [this, h7, hn]; rfl
        · rfl
      unfold txExamine
      split
      · exact ⟨ringAt f r, .inr rfl⟩
      · simp [hown]
        exact ⟨_, .inl rfl⟩
  have hT : ∀ t : State, t.regs = f.regs → t.mem = f.mem → TxReturned s t r st := by
    intro t htr htm
    refine ⟨?_, ?_, ?_, ?_⟩
    · have : winRead t (descAt s r) 4 = leBytes 4 w0.toNat := by rw [← h1]; exact memRead_congr htm _ _
      rw [this, leNat_leBytes, Nat.mod_eq_of_lt (by have := w0.isLt; omega), hw0]; simp
    · rw [hnp]; unfold getF; rw [rd_congr htr]; exact h2
    · rw [rd_congr htr]; exact h3
    · unfold getB; rw [rd_congr htr]; exact h4
  unfold txDone
  rw [← hfe]
  obtain ⟨x, hx | hx⟩ := hex (ringSize b r)
  · rw [hx]; exact hT _ rfl rfl
  · rw [hx]; exact hT _ rfl rfl

end Sys2Proof.Machine
end

