-- ==== Sys2Proof/Tests/Slice0.lean ====
section
/-!
SUPPORT. Sys2Proof/Tests/Slice0.lean: states for the tests, the tests, and for every statement with hypotheses a witness that meets them.
-/
set_option Elab.async false
set_option exponentiation.threshold 1024
set_option maxRecDepth 50000

namespace Sys2Proof.Machine.Test

/-! ### States -/

/-- The state after reset with these register words. -/
def regs (s : State) (l : List (Nat × Nat)) : State := l.foldl (fun a e => wr a e.1 (BitVec.ofNat 32 e.2)) s

abbrev r0 : State := State.reset

/-- Local time in ns. -/
def atNs (s : State) (t : Nat) : State := { s with time := { s.time with lt := t * 2 ^ 32 } }

/-- Local network time in ticks. -/
def ticks (s : State) (t : Nat) : State := { s with lan := { s.lan with lnt := t } }

def stage (s : State) (n : Nat) : State := { s with boot := { s.boot with stage := n } }

def req (code comp : Nat) (fields : List Byte) : MbxReq :=
  { hdr := leBytes 2 code ++ leBytes 2 7 ++ [BitVec.ofNat 8 comp, 0] ++ leBytes 2 fields.length ++ leBytes 8 0, fields := fields, at_ := 0, tmo := 50, expired := false }

/-- Popezal serves, and mailbox `m` holds one request. -/
def asks (s : State) (m : Nat) (x : MbxReq) : State := setMbx (setB s 0x14 9 true) m { MbxRt.init with queue := [x] }

def seg (s : State) (n st : Nat) : State := setSeg s n { Seg.init with st := st }

/-- Channel `n` in a mode. -/
def inMode (s : State) (n m : Nat) : State := regs s [(canR n 0, m * 257)]

def bud (s : State) (m : Nat) : State := setF s 0x80010 1 0 m

/-- A bank of eleven small sections, the one of type `bad` with a wrong CRC. -/
def bank (bad : Nat) : List (DirEnt × List Byte) :=
  requiredTypes.map fun ty =>
    let d : List Byte := [BitVec.ofNat 8 ty, 0, 0, 0]
    ({ ty := ty, floor := 0, ver := ty, off := 0, len := 4, crc := if ty = bad then 0 else crc32c d }, d)

/-- The bytes `bs` in an erased flash from `a` on. -/
def programmed (a : Nat) (bs : List Byte) : SMap Byte :=
  ((List.range bs.length).zip bs).filterMap fun e => if e.2 = 0xFF then none else some (a + e.1, e.2)

def flashed (s : State) (bad : Nat) : State := { s with flash := programmed (bankBase 0) (bankImage (bank bad)) }

def loading (bad ty : Nat) : State :=
  let s := flashed r0 bad
  { s with boot := { s.boot with stage := 3, todo := [ty, 12] } }

def record (ty seq : Nat) (payload : List Byte) : BudRec :=
  { lane := 0, ty := BitVec.ofNat 8 ty, seq := BitVec.ofNat 32 seq, stamp := 1000, claim := none, payload := payload, crcOk := true }

/-- A unit of a pair in mode `m` whose tracker stands at SEQ 4; its partner has been heard in this mode, with this claim. -/
def paired (s : State) (m pm pc : Nat) : State :=
  let s := setTri (bud s m) 2 0 100
  { s with bud := { s.bud with rx := some 4, pHeard := true, pState := pm, pClaim := pc, pCand := 50 } }

def canFrame (id : Nat) (data : List Byte) : CanFrame :=
  { fmt := .classical, ide := false, ident := BitVec.ofNat 29 id, rtr := false, brs := false, esi := false, hdr := { sdt := 0, vcid := 0, sec := false, af := 0 }, data := data }

/-- The payload of a CANRX record. -/
def canrx (n : Nat) (f : CanFrame) : List Byte := [BitVec.ofNat 8 n, 0] ++ beBytes 8 0 ++ [0, 3, 2] ++ beBytes 4 0 ++ canFrameBytes f

def heldBud (s : State) (f : CanFrame) : State := { s with bud := { s.bud with held := [{ chan := 2, frame := f, at_ := 0 }] } }

/-- The claim frame of a partner. -/
def claimOf (claim cand mode : Nat) : Nat :=
  let x := claim * 2 ^ 12 + cand * 2 ^ 4 + mode * 4
  0xB * 2 ^ 28 + x * 2 ^ 8 + crc8 20 x

/-- A datagram to the service port handler, from host 9 of its network. -/
def datagram (kind seq : Nat) (body : List Byte) : List Byte :=
  svcMac r0 ++ [2, 0, 0, 0, 0, 9] ++ [8, 0] ++ udpV4 0xA9FE6402 0xA9FE6401 64 0 5000 25672 (svcPayload kind seq false body)

def arpFrame (ip : Nat) : List Byte :=
  List.replicate 6 0xFF ++ [2, 0, 0, 0, 0, 9] ++ [8, 6, 0, 1, 8, 0, 6, 4, 0, 1] ++ [2, 0, 0, 0, 0, 9] ++ beBytes 4 0xA9FE6402 ++ List.replicate 6 0 ++ beBytes 4 ip

/-- SP's link is up. -/
def spUp (s : State) : State := regs s [(ethR 24 0, 1), (ethR 24 0xC, 1), (ethR 24 0x10, 1522)]

def client (s : State) (c : Nat × Nat) (seq : Nat) (resp : Option (List Byte)) : State :=
  { s with upd := { s.upd with client := some c, clientSeq := seq, resp := resp } }

def rescued (s : State) : State := { s with boot := { s.boot with rescue := true, stage := 3 } }

def updating (s : State) (mode : Nat) (v : Bool) : State := { s with upd := { s.upd with mode := mode, verified := v, live := v } }

/-- The flash holds boot record 0, which names bank 0. -/
def recorded (s : State) : State := flashProgram s 0 (recordBytes { seq := 7, bank := 0, fallback := true })

def swaps (s : State) (n : Nat) : State := { s with upd := { s.upd with mode := 2, swaps := n, trial := some (0, 1) } }

/-- An entry with these words. -/
def ent (ws : List Nat) : BitVec 768 := eOf (ws.flatMap (leBytes 4))

def tab (s : State) (code : Nat) (l : List (Nat × List Nat)) : State := l.foldl (fun a e => tSet a code e.1 (ent e.2)) s

/-- Every position that a key may take holds the entry `w`, of another key. -/
def full (s : State) (code : Nat) (key : List Byte) (w : List Nat) : State := tab s code ((positions key).map fun i => (i, w))

/-- Table page `pg` holds a command, with the entry `ws` in its data words. -/
def page (s : State) (pg code op i : Nat) (ws : List Nat) : State :=
  regs s ([(pageR pg 8, 1), (pageR pg 0, code + 256 * op), (pageR pg 4, i)] ++ (List.range ws.length).map fun k => (pageR pg (0x100 + 4 * k), ws.getD k 0))

/-- Channel 0 is NORMAL and its identifier 5 is a valid transmit object whose request is pending. -/
def sending (s : State) : State :=
  setObj (tab (inMode s 0 1) 1 [(5, [3, 0, 0, 0x80000])]) 5 { ObjRt.init with st := 0x40001, owner := 0x60 }

def sent (s : State) : State := setChan s 0 { CanRt.init with bus := some { kind := .object 5 3 false 1, frame := canFrame 5 [1] } }

/-- Ring `r` is enabled and kicked, and the descriptor at its POS holds these words. -/
def ring (s : State) (r : Nat) (ws : List Nat) : State :=
  let s := setB (regs s [(ringR r 0, 1), (ringR r 4, 0x1000)]) 0x14 7 true
  setRing (winWrite s 0x1000 (ws.flatMap (leBytes 4))) r { Ring.init with kicked := true }

def deliv (s : State) (r : Nat) (d : RxDeliv) : State := setRing s r { Ring.init with deliv := [d] }

/-- Port 3 is up and the switch is enabled, with room for frames. -/
def portUp (s : State) (p : Nat) : State :=
  regs s ([(0x180000, 1), (swR p 0xC, 0), (swR p 8, 100), (ethR p 0, 1), (ethR p 0xC, 1), (ethR p 0x10, 1522)] ++ (List.range 8).map fun k => (swR p (0x10 + 4 * k), 50))

/-- Journal `j` holds two items. -/
def journal (s : State) (j : Nat) : State :=
  setJnl s j { Jnl.init with items := [{ ty := 1, flags := 0, seq := 4, stamp := 9, src := 3, pay := [1, 2, 3] }, { ty := 2, flags := 1, seq := 5, stamp := 10, src := 3, pay := [] }], depth := some 2 }

/-- Source `n` is pending, routed to target `t` with this priority. -/
def pend (s : State) (n : Nat) : State := { s with irq := { s.irq with pend := s.irq.pend ||| srcBit n } }

/-- The signal image is ready and the channels that use it are enabled. -/
def image (s : State) : State := regs s [(0x1A0000, 1), (0x1A1008, 1), (0x1A2008, 0x640005), (0x1A1060, 100), (0x1A1064, 100), (0x1A1068, 100), (0x1A106C, 100), (0x1A1070, 100)]

def sgFrame (bytes : List Byte) : SgFrame := { bytes := bytes, auth := false, port := 3, vid := 1, tc := 0, stamp := 0, comp := 0, chk := true, id := none, take := true, copy := false }

/-- A SIGNALS bundle of vehicle 5 with one record. -/
def bundle (seq : Nat) : SgFrame :=
  sgFrame (List.replicate 12 2 ++ [0x88, 0xB5, 0x10, 3, 5, 0, 0, 3] ++ beBytes 2 seq ++ [0, 0, 0, 0, 0, 1, 0, 16] ++ signalRecord (gsid 5 3 4) { Slot.init with value := 77 } ++ List.replicate 14 0)

/-- A telegram of kind `msg` for COMID 9. -/
def telegram (msg port : Nat) (data : List Byte) : SgFrame :=
  sgFrame (List.replicate 12 2 ++ [8, 0] ++ udpV4 0x0A000001 0 64 0 17224 port (trdpHead State.reset 5 msg 9 data.length 0 0 ++ data))

def sgGets (s : State) (f : SgFrame) : State := { s with mir := { s.mir with sgIn := [f] } }

/-- Message data: a header of 112 bytes and its FCS. -/
def message : SgFrame :=
  let h := trdpHead State.reset 5 0x4D6E 9 0 0 0 ++ List.replicate 72 0
  sgFrame (List.replicate 12 2 ++ [8, 0] ++ udpV4 0x0A000001 0 64 0 17225 17225 (h ++ leBytes 4 (crc32 h)))

def valid (v : Nat) : Slot := { Slot.init with value := BitVec.ofNat 64 v, status := 1 }

def cached (s : State) (g : Nat) : State := { s with cache := SMap.set (fun _ => CLine.init) s.cache (16 * cacheSet g + g % 16) { gsid := g + 1, count := 0, dirty := false } }

def frame (ty : Nat) : RxFrame := { bytes := [2, 0, 0, 0, 0, 1, 2, 0, 0, 0, 0, 2] ++ beBytes 2 ty ++ List.replicate 46 7, codeErr := false, fcs := .good }

/-- A pause frame of two quanta. -/
def pauseFrame : RxFrame := { bytes := [1, 0x80, 0xC2, 0, 0, 1, 2, 0, 0, 0, 0, 2, 0x88, 8, 0, 1, 0, 2] ++ List.replicate 42 0, codeErr := false, fcs := .good }

/-- Ports 9 and 10 are up in VLAN 1, which floods. -/
def switching (s : State) : State :=
  regs (tab (portUp (portUp s 9) 10) 0x12 [(1, [5, 0x600])]) [(fwdR 9 0, 1), (fwdR 10 0, 1), (0x180018, 100), (0x18001C, 100)]

def swFrame : SwFrame := { newFrame (frame 0x9000).bytes 9 0 true with id := 5, tc := 3, queued := [10], cells := 1, vid := 1, untag := [10] }

def queued (s : State) : State := { switching s with sw := { frames := [swFrame], nextId := 6 } }

def learnOne (s : State) (r : LearnReq) : State := { s with fwd := { s.fwd with learnA := [r] } }

def teLine (s : State) (n : Nat) (x : TeRt) : State := setTe s n x

/-- Slots 5 and 6 hold keys with every use. -/
def keyed (s : State) : State :=
  setTri (setTri (setKey (setKey (regs s [(0x90010, 1)]) 5 { cur := some (List.replicate 16 3), pend := none }) 6 { cur := some (List.replicate 32 4), pend := some (List.replicate 16 5) }) 3 21 0x1FF) 3 25 0x1FF

def jobOf (op tagLen aad : Nat) : List Word :=
  [op + 5 * 16 + 6 * 2 ^ 14, 0x77 + tagLen * 2 ^ 16, hostBase + 0x100, hostBase + 0x1000, if op = 5 then 32 else 20, aad, hostBase + 0x400, hostBase + 0x2000].map (BitVec.ofNat 32)

def job (s : State) (j : List Word) : State := setJobPage (memWrite (keyed s) (hostBase + 0x100) [1, 2, 3]) 0 { jobs := [j], done := [7] }

def scripted (s : State) (hl : Bool) (entries : List MbxReq) : State :=
  { s with script := some { hostless := hl, next := 0, entries := entries, lastCode := 0, lastStat := 0, stopReq := false } }

def popRuns (s : State) : State := { s with boot := { s.boot with popOk := true, stage := 4 } }

/-- The active bank holds one record, for the bit timing of CC3. -/
def recordBank (s : State) : State :=
  let l := requiredTypes.map fun ty =>
    let d : List Byte := if ty = 3 then [1, 0, 4, 0] ++ leBytes 4 (canR 3 0x10) ++ leBytes 4 0xFFFFFFFF else [BitVec.ofNat 8 ty, 0, 0, 0]
    (({ ty := ty, floor := 0, ver := ty, off := 0, len := d.length, crc := crc32c d } : DirEnt), d)
  { s with flash := programmed (bankBase 0) (bankImage l) }

def inReset (s : State) (b : ResetBlk) : State := { s with boot := { s.boot with blk := some (b, none), stage := 4 } }

/-! ### Tests -/

/-- The state after one step with the command `c` alone in the queue, from `s`; `s` where the step stops. -/
def after (c : Instr) (s : State) : State :=
  match step { s with pending := [c] } with
  | .next t => t
  | _ => s

/-- R1: DEV_ID. -/
theorem test_dev_id : rd r0 0 = 0x6448000B := by decide +kernel

/-- R12: the manual's example of the serial number rule, both ways, and a half-way distance. -/
theorem test_newer : newer 16 0x0003 0xFFFE = true ∧ newer 16 0xFFFE 0x0003 = false ∧ wrapDist 16 0x0003 0xFFFE = 5 ∧
    newer 16 0x8000 0 = false := by decide +kernel

/-- R8: the manual's two examples of global signal identifiers. -/
theorem test_gsid : gsid 5 12 300 = 0x29812C ∧ gsid 1 20 6444 = 0x0A992C := by decide +kernel

/-- R76: CRC-32C of the digits 1 to 9 (the published check value of the polynomial and forms that the rule gives). -/
theorem test_crc32c : crc32c [0x31, 0x32, 0x33, 0x34, 0x35, 0x36, 0x37, 0x38, 0x39] = 0xE3069283 := by decide +kernel

/-- R457: CRC-8 with polynomial 7 over the one bit 1, by hand: the remainder of x^8. -/
theorem test_crc8 : crc8 1 1 = 7 := by decide +kernel

/-- R131: the manual's three examples of a field: big-endian START 7 LEN 12, little-endian START 16 LEN 16, and START 32 LEN 1. -/
theorem test_field : takeField [0x3C, 0x9F, 0x2B, 0x1A, 0x01] (bigBits 12 7).reverse = 969 ∧
    takeField [0x3C, 0x9F, 0x2B, 0x1A, 0x01] ((List.range 16).map (16 + ·)) = 6699 ∧
    takeField [0x3C, 0x9F, 0x2B, 0x1A, 0x01] [32] = 1 := by decide +kernel

/-- R138: the manual's wheel speed: MUL 25, SHIFT 6, ROUND 1. -/
theorem test_scale : scaleInt (ent [25, 0x46]) 6699 = 2617 := by decide +kernel

/-- R54: a write of MODE_REQ alone, to a channel in NORMAL, waits for an idle point: MODE_REQ is 2 and MODE_CUR stays 1. -/
theorem test_mode_waits : rd (after (.modeReqWrite .host 3 2) (inMode r0 3 1)) (canR 3 0) = 0x102 := by decide +kernel

/-- R54: the pending change takes effect: MODE_CUR becomes what MODE_REQ holds. -/
theorem test_mode_effect : rd (after (.modeChangeEffect 3) (after (.modeReqWrite .host 3 2) (inMode r0 3 1))) (canR 3 0) = 0x202 := by decide +kernel

/-- R332: a write of EN = 1 enables a ring. -/
theorem test_ring_enable : rd (after (.ringEnable .host 3 1 []) r0) (ringR 3 0) = 1 := by decide +kernel

/-- R338: FLUSH empties the journal. -/
theorem test_flush : (jnlAt (after (.journalFlush .host 2) (journal r0 2)) 2).items = [] := by decide +kernel

/-- R336: a pop removes the oldest item. -/
theorem test_pop : (jnlAt (after (.journalPop .host 2 false) (journal r0 2)) 2).items.map (·.seq) = [5] := by decide +kernel

/-- No row of the table gives bits: no word spells a command. -/
theorem test_no_words : decodeTableWord 32 0 = none ∧ (State.withFetchWord r0 32 7).pending = [] := by decide +kernel

/-- The command at the front of the queue is taken, the rest waits. -/
theorem test_first_in_first_out :
    (match step { r0 with pending := [.seCntClr .host, .modePass] } with | .next t => t.pending | _ => []) = [.modePass] := by decide +kernel

/-! ### Witnesses: for each statement with hypotheses, states and operands that meet them -/

/-- States and operands that meet the hypotheses of each clause of `ModeRequestIsPending`. -/
theorem witness_ModeRequestIsPending :
    (∃ (n : Chan) (data : Word) (s : State), budMode s ≠ 2 ∧ 1 ≤ modeCur s n ∧ modeCur s n ≤ 5 ∧ fld data 2 0 ≤ 5) ∧
    (∃ (n : Fin 12) (s : State), budMode s ≠ 2 ∧ frEn s n = true ∧ 1 ≤ modeCur s n ∧ modeCur s n ≤ 5) :=
  ⟨⟨0, 2, inMode r0 0 1, by decide +kernel⟩,
   ⟨0, regs (inMode r0 0 1) [(0xA860C, 1)], by decide +kernel⟩⟩

/-- States and operands that meet the hypotheses of each clause of `ModeChangeAndRecovery`, part 1. -/
theorem witness_ModeChangeAndRecovery_1 :
    (∃ (n : Chan) (s : State), budMode s ≠ 2 ∧ (chan s n).pendSince.isSome = true ∧ (chan s n).bus = none ∧ modeReq s n ≠ 0) ∧
    (∃ (n : Chan) (s : State), budMode s ≠ 2 ∧ (chan s n).pendSince.isSome = true ∧ (chan s n).bus = none ∧ modeReq s n = 0) ∧
    (∃ (n : Chan) (s : State) (a : Nat), budMode s ≠ 2 ∧ (chan s n).pendSince = some a ∧ a + 25600 * (nomTime (canCfg s n).nbt).cycles ≤ ltNs s ∧ modeReq s n ≠ 0) ∧
    (∃ (n : Chan) (s : State) (a : Nat), budMode s ≠ 2 ∧ (chan s n).pendSince = some a ∧ ltNs s < a + 25600 * (nomTime (canCfg s n).nbt).cycles) ∧
    (∃ (n : Chan) (s : State), budMode s ≠ 2 ∧ integrating s n = true ∧ (chan s n).stbUntil = none) ∧
    (∃ (n : Chan) (s : State) (u : Nat), budMode s ≠ 2 ∧ (chan s n).stbUntil = some u ∧ u ≤ ltNs s) ∧
    (∃ (n : Chan) (s : State) (c : Instr), budMode s = 2 ∧ c ∈ [Instr.modeChangeEffect n, .modeChangeForced n, .integrationComplete n, .stbWakeExpiry n, .recoveryComplete n, .lockTimeout n]) ∧
    (∃ (n : Chan) (s : State), budMode s ≠ 2 ∧ modeCur s n = 6) :=
  ⟨⟨3, setChan (inMode r0 3 1) 3 { CanRt.init with pendSince := some 7 }, by decide +kernel⟩,
   ⟨3, setChan (regs r0 [(canR 3 0, 0x100)]) 3 { CanRt.init with pendSince := some 7 }, by decide +kernel⟩,
   ⟨3, setChan (atNs (inMode r0 3 1) 100000000) 3 { CanRt.init with pendSince := some 0 }, 0, by decide +kernel⟩,
   ⟨3, setChan (atNs (inMode r0 3 1) 7) 3 { CanRt.init with pendSince := some 7 }, 7, by decide +kernel⟩,
   ⟨3, regs r0 [(canR 3 0, 0x1101)], by decide +kernel⟩,
   ⟨3, setChan (atNs r0 9) 3 { CanRt.init with stbUntil := some 5 }, 5, by decide +kernel⟩,
   ⟨3, bud r0 2, Instr.modeChangeEffect 3, by decide +kernel⟩,
   ⟨3, regs r0 [(canR 3 0, 0x601)], by decide +kernel⟩⟩

/-- States and operands that meet the hypotheses of each clause of `ModeChangeAndRecovery`, part 2. -/
theorem witness_ModeChangeAndRecovery_2 :
    (∃ (n : Chan) (s : State), budMode s ≠ 2 ∧ modeCur s n ≠ 6) ∧
    (∃ (n : Fin 12) (s : State), budMode s ≠ 2 ∧ frEn s n = true ∧ modeCur s n = 6) ∧
    (∃ (n : Fin 12) (s : State), budMode s ≠ 2 ∧ frEn s n = true ∧ modeCur s n ≠ 6) ∧
    (∃ (n : Chan) (s : State), budMode s ≠ 2 ∧ modeCur s n = 6 ∧ getB s (canR n 0) 13 = true) :=
  ⟨⟨3, inMode r0 3 1, by decide +kernel⟩,
   ⟨3, regs r0 [(0xA860C, 8), (canR 3 0, 0x601)], by decide +kernel⟩,
   ⟨3, regs r0 [(0xA860C, 8), (canR 3 0, 0x101)], by decide +kernel⟩,
   ⟨3, regs r0 [(canR 3 0, 0x2601)], by decide +kernel⟩⟩

/-- States and operands that meet the hypotheses of each clause of `BusEventsAreCounted`. -/
theorem witness_BusEventsAreCounted :
    (∃ (n : Chan) (k : CanErr) (ph : CanPhase) (tx : Bool) (s a : State), a = segDue s n ∧ budMode a ≠ 2 ∧ onBus a n = true ∧ integrating a n = false ∧ (modeCur a n = 4 → tx = true) ∧ (4 ≤ modeCur a n → tx = true → k ≠ .ack) ∧ unmeasured a n none (tx && ph != .nominal) = none) ∧
    (∃ (n : Chan) (k : CanErr) (ph : CanPhase) (v : Option (BitVec 8)) (s a : State) (b : OnBus), a = segDue s n ∧ budMode a ≠ 2 ∧ onBus a n = true ∧ integrating a n = false ∧ (4 ≤ modeCur a n → k ≠ .ack) ∧ (chan a n).bus = some b ∧ getB a (canR n 0x1C) 0 = true ∧ (b.frame.fmt = .fd ∧ b.frame.brs = true ∨ b.frame.fmt = .xl) ∧ (v = none ∧ modeCur a n ≠ 4 ∧ ph ≠ .nominal ∨ ∃ x, v = some x ∧ (getF a (canR n 0x1C) 14 8 < x.toNat ∨ fourBits a n b.frame ≤ x.toNat + sspOffset a n b.frame))) ∧
    (∃ (n : Chan) (s a : State), a = segDue s n ∧ budMode a ≠ 2 ∧ onBus a n = true ∧ integrating a n = false ∧ modeCur a n ≠ 4) ∧
    (∃ (n : Chan) (s a : State), a = segDue s n ∧ budMode a ≠ 2 ∧ (chan a n).bus.isSome = true ∧ modeCur a n ≠ 4) ∧
    (∃ (n : Chan) (s a : State), a = segDue s n ∧ modeCur a n = 4) ∧
    (∃ (n : Chan) (s a : State), a = segDue s n ∧ budMode a ≠ 2 ∧ onBus a n = true ∧ integrating a n = false ∧ modeCur a n ≠ 4 ∧ canExcept a n = true ∧ getB a (canR n 0xC) 2 = true) ∧
    (∃ (n : Chan) (s a : State), a = segDue s n ∧ budMode a ≠ 2 ∧ onBus a n = true ∧ integrating a n = false ∧ modeCur a n ≠ 4 ∧ canExcept a n = true ∧ getB a (canR n 0xC) 2 = false) :=
  ⟨⟨3, .form, .nominal, false, inMode r0 3 1, segDue (inMode r0 3 1) (3 : Chan), by decide +kernel⟩,
   ⟨3, .form, .fdData, none, setChan (regs (inMode r0 3 1) [(canR 3 0x1C, 0x101)]) 3 { CanRt.init with bus := some { kind := .object 5 3 false 1, frame := { canFrame 5 [1] with fmt := .xl } } }, segDue (setChan (regs (inMode r0 3 1) [(canR 3 0x1C, 0x101)]) 3 { CanRt.init with bus := some { kind := .object 5 3 false 1, frame := { canFrame 5 [1] with fmt := .xl } } }) (3 : Chan), { kind := .object 5 3 false 1, frame := { canFrame 5 [1] with fmt := .xl } }, (by and_intros <;> first | exact .inl (by decide +kernel) | decide +kernel)⟩,
   ⟨3, inMode r0 3 1, segDue (inMode r0 3 1) (3 : Chan), by decide +kernel⟩,
   ⟨0, sent r0, segDue (sent r0) (0 : Chan), by decide +kernel⟩,
   ⟨3, inMode r0 3 4, segDue (inMode r0 3 4) (3 : Chan), by decide +kernel⟩,
   ⟨3, regs (inMode r0 3 1) [(canR 3 0xC, 4)], segDue (regs (inMode r0 3 1) [(canR 3 0xC, 4)]) (3 : Chan), by decide +kernel⟩,
   ⟨3, inMode r0 3 1, segDue (inMode r0 3 1) (3 : Chan), by decide +kernel⟩⟩

/-- States and operands that meet the hypotheses of each clause of `ChosenFrameIsSent`. -/
theorem witness_ChosenFrameIsSent :
    (∃ (n : Chan) (s a : State), a = segDue s n ∧ budMode a < 2 ∧ (choice a n).isSome = true) ∧
    (∃ (n : Chan) (s a : State), a = segDue s n ∧ (budMode a ≥ 2 ∨ choice a n = none)) ∧
    (∃ (n : Chan) (s a : State) (b : OnBus) (v : Option (BitVec 7)), a = segDue s n ∧ budMode a ≠ 2 ∧ (chan a n).bus = some b ∧ txFails a n b.frame (v.map fun x => x.toNat) = false) ∧
    (∃ (n : Chan) (s a : State) (b : OnBus) (v : Option (BitVec 7)), a = segDue s n ∧ budMode a ≠ 2 ∧ (chan a n).bus = some b ∧ txFails a n b.frame (v.map fun x => x.toNat) = true) ∧
    (∃ (n : Chan) (s : State) (l : Lock), budMode s ≠ 2 ∧ (chan s n).lock = some l ∧ lockEnd l ≤ ltNs s) ∧
    (∃ (n : Chan) (s : State) (l : Lock), (chan s n).lock = some l ∧ ltNs s < lockEnd l) :=
  ⟨⟨0, sending r0, segDue (sending r0) (0 : Chan), by decide +kernel⟩,
   ⟨3, r0, segDue r0 (3 : Chan), by decide +kernel⟩,
   ⟨0, sent r0, segDue (sent r0) (0 : Chan), { kind := .object 5 3 false 1, frame := canFrame 5 [1] }, none, (by and_intros <;> first | (simp; done) | decide +kernel)⟩,
   ⟨3, setChan (regs (inMode r0 3 1) [(canR 3 0x1C, 0x101)]) 3 { CanRt.init with bus := some { kind := .object 5 3 false 1, frame := { canFrame 5 [1] with fmt := .xl } } }, segDue (setChan (regs (inMode r0 3 1) [(canR 3 0x1C, 0x101)]) 3 { CanRt.init with bus := some { kind := .object 5 3 false 1, frame := { canFrame 5 [1] with fmt := .xl } } }) (3 : Chan), { kind := .object 5 3 false 1, frame := { canFrame 5 [1] with fmt := .xl } }, none, by decide +kernel⟩,
   ⟨3, setChan (atNs r0 9000000) 3 { CanRt.init with lock := some { owner := 0x40, start := 0, timeout := 5 } }, { owner := 0x40, start := 0, timeout := 5 }, by decide +kernel⟩,
   ⟨3, setChan (atNs r0 4999999) 3 { CanRt.init with lock := some { owner := 0x40, start := 0, timeout := 5 } }, { owner := 0x40, start := 0, timeout := 5 }, by decide +kernel⟩⟩

/-- States and operands that meet the hypotheses of each clause of `ReceivedFrameIsAccepted`. -/
theorem witness_ReceivedFrameIsAccepted :
    (∃ (n : Chan) (f : CanFrame) (look : Nat) (s a : State), a = segDue s n ∧ onBus a n = true ∧ integrating a n = false ∧ budMode a ≠ 2 ∧ f.rtr = false ∧ f.ide = false ∧ changesSince a look = [] ∧ frameLegal a n f = true ∧ modeCur a n ≠ 4 ∧ (moValid (motAt a (n * 2048 + f.ident.toNat % 2048)) = false ∨ moTx (motAt a (n * 2048 + f.ident.toNat % 2048)) = true ∨ ruleFor (chanOwner a n) (owned a (moComp (motAt a (n * 2048 + f.ident.toNat % 2048)))) = false)) ∧
    (∃ (n : Chan) (f : CanFrame) (look : Nat) (s a : State) (e : _), a = segDue s n ∧ onBus a n = true ∧ integrating a n = false ∧ budMode a ≠ 2 ∧ f.rtr = false ∧ f.ide = false ∧ changesSince a look = [] ∧ frameLegal a n f = true ∧ modeCur a n ≠ 4 ∧ e = motAt a (n * 2048 + f.ident.toNat % 2048) ∧ moValid e = true ∧ moTx e = false ∧ ruleFor (chanOwner a n) (owned a (moComp e)) = true ∧ nbit (moFmt e) (canFmtNo f.fmt) = true ∧ f.data.length ≤ acceptMax a e ∧ moXl e = false ∧ moSealed e = false ∧ moNotify e = false ∧ moHostrx e = false ∧ moRoute e = false ∧ moSigr e = false) ∧
    (∃ (n : Chan) (f : CanFrame) (look : Nat) (s a : State) (e : _), a = segDue s n ∧ onBus a n = true ∧ integrating a n = false ∧ budMode a ≠ 2 ∧ f.rtr = false ∧ f.ide = false ∧ changesSince a look = [] ∧ frameLegal a n f = true ∧ modeCur a n ≠ 4 ∧ e = motAt a (n * 2048 + f.ident.toNat % 2048) ∧ moValid e = true ∧ moTx e = false ∧ ruleFor (chanOwner a n) (owned a (moComp e)) = true ∧ nbit (moFmt e) (canFmtNo f.fmt) = true ∧ acceptMax a e < f.data.length) ∧
    (∃ (n : Chan) (f : CanFrame) (look k : Nat) (s a : State) (o : Nat) (e : BitVec 768), a = segDue s n ∧ onBus a n = true ∧ integrating a n = false ∧ budMode a ≠ 2 ∧ f.rtr = false ∧ f.ide = false ∧ frameLegal a n f = true ∧ modeCur a n ≠ 4 ∧ o = n * 2048 + f.ident.toNat % 2048 ∧ changesSince a look = [(k, tKey 1 o, e)] ∧ moValid e = true ∧ moTx e = false ∧ ruleFor (chanOwner a n) (owned a (moComp e)) = true ∧ nbit (moFmt e) (canFmtNo f.fmt) = true ∧ f.data.length ≤ acceptMax a e ∧ moSealed e = false ∧ moRoute e = false ∧ moSigr e = false) ∧
    (∃ (n : Chan) (s : State), (chan s n).xlWrite.isSome = true) :=
  ⟨⟨3, canFrame 5 [1], 0, inMode r0 3 1, segDue (inMode r0 3 1) (3 : Chan), by decide +kernel⟩,
   ⟨3, canFrame 5 [1], 0, tab (inMode r0 3 1) 1 [(6149, [5, 0, 0, 0x80000])], segDue (tab (inMode r0 3 1) 1 [(6149, [5, 0, 0, 0x80000])]) (3 : Chan), motAt (segDue (tab (inMode r0 3 1) 1 [(6149, [5, 0, 0, 0x80000])]) (3 : Chan)) ((3 : Chan) * 2048 + (canFrame 5 [1]).ident.toNat % 2048), by decide +kernel⟩,
   ⟨3, canFrame 5 [1], 0, tab (inMode r0 3 1) 1 [(6149, [5, 0, 0, 0])], segDue (tab (inMode r0 3 1) 1 [(6149, [5, 0, 0, 0])]) (3 : Chan), motAt (segDue (tab (inMode r0 3 1) 1 [(6149, [5, 0, 0, 0])]) (3 : Chan)) ((3 : Chan) * 2048 + (canFrame 5 [1]).ident.toNat % 2048), by decide +kernel⟩,
   ⟨3, canFrame 5 [1], 9, 4, { inMode r0 3 1 with ticks := 8, motLog := [(4, tKey 1 6149, ent [5, 0, 0, 0x80000])] }, segDue (({ inMode r0 3 1 with ticks := 8, motLog := [(4, tKey 1 6149, ent [5, 0, 0, 0x80000])] }) : State) (3 : Chan), (3 : Chan) * 2048 + (canFrame 5 [1]).ident.toNat % 2048, ent [5, 0, 0, 0x80000], by decide +kernel⟩,
   ⟨3, setChan r0 3 { CanRt.init with xlWrite := some (100, [1]) }, by decide +kernel⟩⟩

/-- States and operands that meet the hypotheses of each clause of `EveryCounterClears`. -/
theorem witness_EveryCounterClears :
    (∃ (s : State), budMode s ≠ 2) ∧
    (∃ (q : Requester) (p : Port) (c : Instr) (l : List Nat), (c, l) ∈ [(Instr.portCntClr q p, ethCounters p.val), (.swFwdCntClr q, fwdCounters), (.timeCntClr q, timeCounters), (.secCntClr q, secCounters), (.ringCntClr q, ringCounters), (.jnlCntClr q, jnlCounters), (.devCntClr q, [0x2C, 0x30]), (.clkCntClr q, wordsFrom 0x10040 5 ++ [0x1010C, 0x10110]), (.lanCntClr q, wordsFrom 0x70060 4)]) ∧
    (∃ (q : Requester) (s : State) (c : Instr) (l : List Nat), budMode s ≠ 2 ∧ (c, l) ∈ [(Instr.sigMirCntClr q, mirCounters), (.sigImgCntClr q, imgCounters)]) ∧
    (∃ (q : Requester) (m : Mbx), pageHidden q m.val = false) ∧
    (∃ (q : Requester) (m : Mbx), pageHidden q m.val = true) :=
  ⟨⟨r0, by decide +kernel⟩,
   ⟨.host, 0, .devCntClr .host, [0x2C, 0x30], by decide +kernel⟩,
   ⟨.host, r0, .sigMirCntClr .host, mirCounters, by decide +kernel⟩,
   ⟨.host, 0, by decide +kernel⟩,
   ⟨.host, 8, by decide +kernel⟩⟩

/-- States and operands that meet the hypotheses of each clause of `TableClears`. -/
theorem witness_TableClears :
    ∃ (s : State) (c : Instr) (tab i : Nat), (c, tab) ∈ [(Instr.motClear 0, 1), (.tstClear 0, 4), (.sdpClear 0, 5), (.tptClear 0, 6), (.rltClear 0, 7), (.dstClear 0, 8), (.pubClear 0, 9), (.subClear 0, 0xA), (.ettClear 0, 0xB), (.batClear 0, 0xC), (.tttClear 0, 0xD), (.eftClear 0, 0x10), (.eftClear 0, 0x11), (.vlanClear 0, 0x12), (.vlanClear 0, 0x13), (.irtClear 0, 0x14), (.irtClear 0, 0x15), (.meterClear 0, 0x16), (.sltClear 0, 0x17), (.macsecSaClear 0, 0x18)] ∧ PageCmd s 0 tab 3 i ∧ i < tCount tab ∧ (tab = 6 → i ≠ 0) ∧ (tab = 0x16 → meterNamed s i = false) ∧ (tab = 5 ∨ tab = 6 → s.parked = []) :=
  ⟨page (r0) 0 4 3 5 [], .tstClear 0, 4, 5, by unfold PageCmd; decide +kernel⟩

/-- States and operands that meet the hypotheses of each clause of `TableWrites`. -/
theorem witness_TableWrites :
    (∃ (s : State) (pg : Page) (c : Instr) (tab i : Nat), (c, tab) ∈ [(Instr.motWrite pg, 1), (.tstWrite pg, 4), (.sdpWrite pg, 5), (.tptWrite pg, 6), (.rltWrite pg, 7), (.dstWrite pg, 8), (.pubWrite pg, 9), (.subWrite pg, 0xA), (.ettWrite pg, 0xB), (.batWrite pg, 0xC), (.tttWrite pg, 0xD), (.vlanWrite pg, 0x12), (.vlanWrite pg, 0x13), (.irtWrite pg, 0x14), (.irtWrite pg, 0x15), (.meterWrite pg, 0x16), (.sltWrite pg, 0x17), (.macsecSaWrite pg, 0x18)] ∧ PageCmd s pg.val tab 2 i ∧ i < tCount tab ∧ (tab = 5 ∨ tab = 6 → s.parked = [])) ∧
    (∃ (s : State) (pg : Page) (c : Instr) (tab i : Nat), (c, tab) ∈ [(Instr.motWrite pg, 1), (.tstWrite pg, 4), (.sdpWrite pg, 5), (.tptWrite pg, 6), (.rltWrite pg, 7), (.dstWrite pg, 8), (.pubWrite pg, 9), (.subWrite pg, 0xA), (.ettWrite pg, 0xB), (.batWrite pg, 0xC), (.tttWrite pg, 0xD), (.vlanWrite pg, 0x12), (.vlanWrite pg, 0x13), (.irtWrite pg, 0x14), (.irtWrite pg, 0x15), (.meterWrite pg, 0x16), (.sltWrite pg, 0x17), (.macsecSaWrite pg, 0x18)] ∧ PageCmd s pg.val tab 2 i ∧ i < tCount tab ∧ (tab = 5 ∨ tab = 6 → s.parked = []) ∧ pg.val = 0 ∧ (tab = 6 → i ≠ 0) ∧ offEntry tab (storedEntry tab (pageData s 0)) = true) :=
  ⟨⟨page (r0) 0 4 2 5 [], 0, .tstWrite 0, 4, 5, by unfold PageCmd; decide +kernel⟩,
   ⟨page (r0) 0 4 2 5 [], 0, .tstWrite 0, 4, 5, by unfold PageCmd; decide +kernel⟩⟩

/-- States and operands that meet the hypotheses of each clause of `TableReads`. -/
theorem witness_TableReads :
    (∃ (s : State) (tab i : Nat), tab ∈ readTabs ∧ PageCmd s 0 tab 1 i ∧ i < tCount tab) ∧
    (∃ (s : State) (tab i j : Nat) (r : Reloc) (ms : List (Nat × Nat)), (tab = 3 ∨ tab = 0x10 ∨ tab = 0x11) ∧ PageCmd s 0 tab 1 i ∧ i < tCount tab ∧ j < 2 ^ 20 ∧ r.code = tab ∧ r.page ≠ 0 ∧ r.copied = true ∧ r.moves = (i, j) :: ms) ∧
    (∃ (s : State) (pg : Page) (tab op i : Nat), op ∉ tblOps tab ∧ PageCmd s pg.val tab op i) ∧
    (∃ (s : State) (i : Nat) (j : _), PageCmd s 0 3 6 i ∧ ximAt s (pageData s 0) = some j ∧ j < 2 ^ 20) ∧
    (∃ (s : State) (i : Nat), PageCmd s 0 3 6 i ∧ ximAt s (pageData s 0) = none) ∧
    (∃ (s : State) (pl i : Nat) (j : _), pl < 2 ∧ PageCmd s 0 (0x10 + pl) 6 i ∧ hashFind s (0x10 + pl) eftKb (eftKb (eOf ((pageData s 0).take 16))) = some j ∧ j < 2 ^ 20) ∧
    (∃ (s : State) (pl i : Nat), pl < 2 ∧ PageCmd s 0 (0x10 + pl) 6 i ∧ hashFind s (0x10 + pl) eftKb (eftKb (eOf ((pageData s 0).take 16))) = none) :=
  ⟨⟨page (r0) 0 4 1 5 [], 4, 5, by unfold PageCmd; decide +kernel⟩,
   ⟨page (r0) 0 3 1 16364 [], 3, 16364, 9, { code := 3, page := 5, moves := [(16364, 9)], copied := true, slot := 0, entry := ent [0x201, 3] }, [], by unfold PageCmd; decide +kernel⟩,
   ⟨page (r0) 0 4 9 5 [], 0, 4, 9, 5, by unfold PageCmd; decide +kernel⟩,
   ⟨page (tab r0 3 [(16364, [0x201, 3])]) 0 3 6 0 [0x201, 3], 0, 16364, by unfold PageCmd; decide +kernel⟩,
   ⟨page (r0) 0 3 6 0 [0x201, 3], 0, by unfold PageCmd; decide +kernel⟩,
   ⟨page (tab r0 0x10 [(7416, [0x50051, 7, 0, 0])]) 0 16 6 0 [0x50051, 7, 0, 0], 0, 0, 7416, by unfold PageCmd; decide +kernel⟩,
   ⟨page (r0) 0 16 6 0 [0x50051, 7, 0, 0], 0, 0, by unfold PageCmd; decide +kernel⟩⟩

/-- States and operands that meet the hypotheses of each clause of `KeyedTables`, part 1. -/
theorem witness_KeyedTables_1 :
    (∃ (s : State) (i : Nat) (e : BitVec 768) (j : _), PageCmd s 0 3 4 i ∧ e = ePut (entryIn 3 (pageData s 0)) 0 0 0 1 ∧ ximBad s e = false ∧ frAny s = false ∧ hashFind s 3 ximKb (ximKb e) = some j) ∧
    (∃ (s : State) (i : Nat) (e : BitVec 768) (j : _), PageCmd s 0 3 4 i ∧ e = ePut (entryIn 3 (pageData s 0)) 0 0 0 1 ∧ ximBad s e = false ∧ frAny s = false ∧ hashFind s 3 ximKb (ximKb e) = none ∧ hashFree s 3 (ximKb e) = some j ∧ j < 2 ^ 20) ∧
    (∃ (s : State) (i : Nat) (e : BitVec 768), PageCmd s 0 3 4 i ∧ e = ePut (entryIn 3 (pageData s 0)) 0 0 0 1 ∧ ximBad s e = false ∧ frAny s = false ∧ hashFind s 3 ximKb (ximKb e) = none ∧ hashFree s 3 (ximKb e) = none ∧ (hashPath s 3 ximKb (ximKb e)).isSome = true) ∧
    (∃ (s : State) (i : Nat) (j : _), PageCmd s 0 3 5 i ∧ ximAt s (pageData s 0) = some j ∧ j < 2 ^ 20) ∧
    (∃ (s : State) (i : Nat), PageCmd s 0 3 5 i ∧ ximAt s (pageData s 0) = none) ∧
    (∃ (s : State) (pl i : Nat) (e : BitVec 768) (j : _), pl < 2 ∧ PageCmd s 0 (0x10 + pl) 4 i ∧ e = ePut (eftGiven s (pageData s 0)) 0 0 0 1 ∧ eftBad s pl e = false ∧ hashFind s (0x10 + pl) eftKb (eftKb e) = some j ∧ efStatic (tGet s (0x10 + pl) j) = true) ∧
    (∃ (s : State) (pl i : Nat) (e : BitVec 768) (j : _), pl < 2 ∧ PageCmd s 0 (0x10 + pl) 4 i ∧ e = ePut (eftGiven s (pageData s 0)) 0 0 0 1 ∧ eftBad s pl e = false ∧ hashFind s (0x10 + pl) eftKb (eftKb e) = some j ∧ efStatic (tGet s (0x10 + pl) j) = false ∧ j < 2 ^ 20) ∧
    (∃ (s : State) (pl i : Nat) (e : BitVec 768) (j : _), pl < 2 ∧ PageCmd s 0 (0x10 + pl) 4 i ∧ e = ePut (eftGiven s (pageData s 0)) 0 0 0 1 ∧ eftBad s pl e = false ∧ hashFind s (0x10 + pl) eftKb (eftKb e) = none ∧ hashFree s (0x10 + pl) (eftKb e) = some j ∧ j < 2 ^ 20) :=
  ⟨⟨page (tab r0 3 [(16364, [0x201, 0x103])]) 0 3 4 0 [0x201, 3], 0, ePut (entryIn 3 (pageData (page (tab r0 3 [(16364, [0x201, 0x103])]) 0 3 4 0 [0x201, 3]) 0)) 0 0 0 1, 16364, by unfold PageCmd; decide +kernel⟩,
   ⟨page (r0) 0 3 4 0 [0x201, 3], 0, ePut (entryIn 3 (pageData (page (r0) 0 3 4 0 [0x201, 3]) 0)) 0 0 0 1, 16364, by unfold PageCmd; decide +kernel⟩,
   ⟨page (full r0 3 (ximKb (ent [0x201, 3])) [0x401, 0x103]) 0 3 4 0 [0x201, 3], 0, ePut (entryIn 3 (pageData (page (full r0 3 (ximKb (ent [0x201, 3])) [0x401, 0x103]) 0 3 4 0 [0x201, 3]) 0)) 0 0 0 1, by unfold PageCmd; decide +kernel⟩,
   ⟨page (tab r0 3 [(16364, [0x201, 3])]) 0 3 5 0 [0x201, 3], 0, 16364, by unfold PageCmd; decide +kernel⟩,
   ⟨page (r0) 0 3 5 0 [0x201, 3], 0, by unfold PageCmd; decide +kernel⟩,
   ⟨page (tab r0 0x10 [(7416, [0x50053, 7, 0, 0])]) 0 16 4 0 [0x50051, 7, 0, 0], 0, 0, ePut (eftGiven (page (tab r0 0x10 [(7416, [0x50053, 7, 0, 0])]) 0 16 4 0 [0x50051, 7, 0, 0]) (pageData (page (tab r0 0x10 [(7416, [0x50053, 7, 0, 0])]) 0 16 4 0 [0x50051, 7, 0, 0]) 0)) 0 0 0 1, 7416, by unfold PageCmd; decide +kernel⟩,
   ⟨page (tab r0 0x10 [(7416, [0x50051, 7, 0, 0])]) 0 16 4 0 [0x50051, 7, 0, 0], 0, 0, ePut (eftGiven (page (tab r0 0x10 [(7416, [0x50051, 7, 0, 0])]) 0 16 4 0 [0x50051, 7, 0, 0]) (pageData (page (tab r0 0x10 [(7416, [0x50051, 7, 0, 0])]) 0 16 4 0 [0x50051, 7, 0, 0]) 0)) 0 0 0 1, 7416, by unfold PageCmd; decide +kernel⟩,
   ⟨page (r0) 0 16 4 0 [0x50051, 7, 0, 0], 0, 0, ePut (eftGiven (page (r0) 0 16 4 0 [0x50051, 7, 0, 0]) (pageData (page (r0) 0 16 4 0 [0x50051, 7, 0, 0]) 0)) 0 0 0 1, 7416, by unfold PageCmd; decide +kernel⟩⟩

/-- States and operands that meet the hypotheses of each clause of `KeyedTables`, part 2. -/
theorem witness_KeyedTables_2 :
    (∃ (s : State) (pl i : Nat) (e : BitVec 768), pl < 2 ∧ PageCmd s 0 (0x10 + pl) 4 i ∧ e = ePut (eftGiven s (pageData s 0)) 0 0 0 1 ∧ eftBad s pl e = false ∧ hashFind s (0x10 + pl) eftKb (eftKb e) = none ∧ hashFree s (0x10 + pl) (eftKb e) = none ∧ (hashPath s (0x10 + pl) eftKb (eftKb e)).isSome = true) ∧
    (∃ (s : State) (pl i : Nat) (k : List Byte) (j : _), pl < 2 ∧ PageCmd s 0 (0x10 + pl) 5 i ∧ k = eftKb (eOf ((pageData s 0).take 16)) ∧ hashFind s (0x10 + pl) eftKb k = some j ∧ j < 2 ^ 20) ∧
    (∃ (s : State) (pl i : Nat) (k : List Byte), pl < 2 ∧ PageCmd s 0 (0x10 + pl) 5 i ∧ k = eftKb (eOf ((pageData s 0).take 16)) ∧ hashFind s (0x10 + pl) eftKb k = none) ∧
    (∃ (s : State) (pl i : Nat) (e : BitVec 768) (j : _), pl < 2 ∧ PageCmd s 0 (0x10 + pl) 2 i ∧ e = eftGiven s (pageData s 0) ∧ (eValid e && eftBad s pl e) = false ∧ hashFind s (0x10 + pl) eftKb (eftKb e) = some j ∧ j < 2 ^ 20) ∧
    (∃ (s : State) (pl i : Nat) (e : BitVec 768), pl < 2 ∧ PageCmd s 0 (0x10 + pl) 2 i ∧ e = eftGiven s (pageData s 0) ∧ (eValid e && eftBad s pl e) = false ∧ hashFind s (0x10 + pl) eftKb (eftKb e) = none) ∧
    (∃ (s : State) (pl i w : Nat) (l : List Nat), pl < 2 ∧ PageCmd s 0 (0x10 + pl) 0xA i ∧ w = leAt (pageData s 0) 0 4 ∧ l = learnedWhere s pl (fun e => (!nbit w 5 || efPort e == nbits w 4 0) && (!nbit w 18 || efFid e == nbits w 17 6)) ∧ l.length < 2 ^ 20) :=
  ⟨⟨page (full r0 0x10 (eftKb (ent [0x50051, 7, 0, 0])) [0x90051, 7, 0, 0]) 0 16 4 0 [0x50051, 7, 0, 0], 0, 0, ePut (eftGiven (page (full r0 0x10 (eftKb (ent [0x50051, 7, 0, 0])) [0x90051, 7, 0, 0]) 0 16 4 0 [0x50051, 7, 0, 0]) (pageData (page (full r0 0x10 (eftKb (ent [0x50051, 7, 0, 0])) [0x90051, 7, 0, 0]) 0 16 4 0 [0x50051, 7, 0, 0]) 0)) 0 0 0 1, by unfold PageCmd; decide +kernel⟩,
   ⟨page (tab r0 0x10 [(7416, [0x50051, 7, 0, 0])]) 0 16 5 0 [0x50051, 7, 0, 0], 0, 0, eftKb (eOf ((pageData (page (tab r0 0x10 [(7416, [0x50051, 7, 0, 0])]) 0 16 5 0 [0x50051, 7, 0, 0]) 0).take 16)), 7416, by unfold PageCmd; decide +kernel⟩,
   ⟨page (r0) 0 16 5 0 [0x50051, 7, 0, 0], 0, 0, eftKb (eOf ((pageData (page (r0) 0 16 5 0 [0x50051, 7, 0, 0]) 0).take 16)), by unfold PageCmd; decide +kernel⟩,
   ⟨page (tab r0 0x10 [(7416, [0x50051, 7, 0, 0])]) 0 16 2 0 [0x50051, 7, 0, 0], 0, 0, eftGiven (page (tab r0 0x10 [(7416, [0x50051, 7, 0, 0])]) 0 16 2 0 [0x50051, 7, 0, 0]) (pageData (page (tab r0 0x10 [(7416, [0x50051, 7, 0, 0])]) 0 16 2 0 [0x50051, 7, 0, 0]) 0), 7416, by unfold PageCmd; decide +kernel⟩,
   ⟨page (r0) 0 16 2 0 [0x50051, 7, 0, 0], 0, 0, eftGiven (page (r0) 0 16 2 0 [0x50051, 7, 0, 0]) (pageData (page (r0) 0 16 2 0 [0x50051, 7, 0, 0]) 0), by unfold PageCmd; decide +kernel⟩,
   ⟨page (tab r0 0x10 [(7416, [0x50051, 7, 0, 0])]) 0 16 10 0 [0x50051, 7, 0, 0], 0, 0, leAt (pageData (page (tab r0 0x10 [(7416, [0x50051, 7, 0, 0])]) 0 16 10 0 [0x50051, 7, 0, 0]) 0) 0 4, learnedWhere (page (tab r0 0x10 [(7416, [0x50051, 7, 0, 0])]) 0 16 10 0 [0x50051, 7, 0, 0]) 0 (fun e => (!nbit (leAt (pageData (page (tab r0 0x10 [(7416, [0x50051, 7, 0, 0])]) 0 16 10 0 [0x50051, 7, 0, 0]) 0) 0 4) 5 || efPort e == nbits (leAt (pageData (page (tab r0 0x10 [(7416, [0x50051, 7, 0, 0])]) 0 16 10 0 [0x50051, 7, 0, 0]) 0) 0 4) 4 0) && (!nbit (leAt (pageData (page (tab r0 0x10 [(7416, [0x50051, 7, 0, 0])]) 0 16 10 0 [0x50051, 7, 0, 0]) 0) 0 4) 18 || efFid e == nbits (leAt (pageData (page (tab r0 0x10 [(7416, [0x50051, 7, 0, 0])]) 0 16 10 0 [0x50051, 7, 0, 0]) 0) 0 4) 17 6)), by unfold PageCmd; decide +kernel⟩⟩

/-- States and operands that meet the hypotheses of each clause of `SendsAndFirings`. -/
theorem witness_SendsAndFirings :
    (∃ (s : State) (i : Nat), PageCmd s 0 2 7 i ∧ i < 131072) ∧
    (∃ (s : State) (i len : Nat) (x : Nat × Bool × Nat), PageCmd s 0 2 8 i ∧ i < 131072 ∧ len = leAt (pageData s 0) 0 4 % 4096 ∧ moValid (motAt s i) = true ∧ moTx (motAt s i) = true ∧ sendLenOk (motAt s i) 64 len = true ∧ moSealed (motAt s i) = false ∧ objLive s i = some x ∧ obBit s i 18 = false ∧ obBit s i 19 = false) ∧
    (∃ (s : State) (i : Fin 768) (c : Instr), (c = .tstSend 0 ∧ PageCmd s 0 4 8 i.val ∧ tsTrig (tGet s 4 i) ≠ 0 ∨ c = .tstFirePeriodic i ∧ budMode s ≠ 2 ∧ tsTrig (tGet s 4 i) = 1 ∧ periodic s (tsPeriod (tGet s 4 i)) (tsOffset (tGet s 4 i)) = true ∨ c = .tstChangeFire i ∧ budMode s ≠ 2 ∧ tsTrig (tGet s 4 i) ≠ 0 ∧ (tstAt s i).change = true ∧ gapOver s i = true)) ∧
    (∃ (s : State) (i : Fin 256) (c : Instr), getB s 0x1A1008 0 = true ∧ dsTrig (tGet s 8 i) ≠ 0 ∧ (c = .dstSend 0 ∧ PageCmd s 0 8 8 i.val ∨ c = .dstFirePeriodic i ∧ budMode s ≠ 2 ∧ dsTrig (tGet s 8 i) = 1 ∧ periodic s (dsPeriod (tGet s 8 i)) (dsOffset (tGet s 8 i)) = true) ∧ (∀ r ∈ s.runs, r.dst = i.val → r.started = true)) ∧
    (∃ (s : State) (i : Fin 256) (c : Instr), getB s 0x1A1008 0 = true ∧ dsTrig (tGet s 8 i) ≠ 0 ∧ (c = .dstSend 0 ∧ PageCmd s 0 8 8 i.val ∨ c = .dstFirePeriodic i ∧ budMode s ≠ 2 ∧ dsTrig (tGet s 8 i) = 1 ∧ periodic s (dsPeriod (tGet s 8 i)) (dsOffset (tGet s 8 i)) = true) ∧ (∃ r ∈ s.runs, r.dst = i.val ∧ r.started = false)) ∧
    (∃ (s : State) (i : Fin 1024) (c : Instr), pubOn s i = true ∧ (pubRt s i).busy = none ∧ (c = .pubSend 0 ∧ PageCmd s 0 9 8 i.val ∧ puTrig (tGet s 9 i) ≠ 0 ∨ c = .pubFirePeriodic i ∧ budMode s ≠ 2 ∧ puTrig (tGet s 9 i) = 1 ∧ periodic s (puPeriod (tGet s 9 i)) (puOffset (tGet s 9 i)) = true)) ∧
    (∃ (s : State) (i : Fin 2048) (c : Instr), ttValid (tGet s 0xD i) = true ∧ ttSends (tGet s 0xD i) = true ∧ trdpOn s = true ∧ (∀ x ∈ s.comps, x.target = .telegram i.val → x.started = true) ∧ (c = .tttSend 0 ∧ PageCmd s 0 0xD 8 i.val ∧ ttTrig (tGet s 0xD i) ≠ 0 ∨ c = .tttFirePeriodic i ∧ budMode s ≠ 2 ∧ ttTrig (tGet s 0xD i) = 1 ∧ periodic s (ttPeriod (tGet s 0xD i)) (ttOffset (tGet s 0xD i)) = true)) :=
  ⟨⟨page (r0) 0 2 7 5 [], 5, by unfold PageCmd; decide +kernel⟩,
   ⟨page (tab (inMode r0 0 1) 1 [(5, [3, 0, 0, 0x80000])]) 0 2 8 5 [1], 5, leAt (pageData (page (tab (inMode r0 0 1) 1 [(5, [3, 0, 0, 0x80000])]) 0 2 8 5 [1]) 0) 0 4 % 4096, (0, false, 5), by unfold PageCmd; decide +kernel⟩,
   ⟨tab (atNs r0 5000) 4 [(3, [1, 5, 0, 0])], 3, .tstFirePeriodic 3, by unfold PageCmd; decide +kernel⟩,
   ⟨tab (image (atNs r0 5000)) 8 [(3, [1, 5, 0, 0])], 3, .dstFirePeriodic 3, by unfold PageCmd; decide +kernel⟩,
   ⟨{ tab (image (atNs r0 5000)) 8 [(3, [1, 5, 0, 0])] with runs := [{ dst := 3, started := false, descs := [], reads := none }] }, 3, .dstFirePeriodic 3, by unfold PageCmd; decide +kernel⟩,
   ⟨tab (image (atNs r0 5000)) 9 [(3, [3, 0, 5, 0])], 3, .pubFirePeriodic 3, by unfold PageCmd; decide +kernel⟩,
   ⟨tab (image (atNs r0 5000)) 0xD [(3, [0x83, 0, 0, 5])], 3, .tttFirePeriodic 3, by unfold PageCmd; decide +kernel⟩⟩

/-- States and operands that meet the hypotheses of each clause of `StepTakesFront`. -/
theorem witness_StepTakesFront :
    ∃ (c : Instr) (rest : List Instr) (s : State), s.pending = c :: rest :=
  ⟨.rampStep, [], { r0 with pending := [.rampStep] }, by decide +kernel⟩

/-- States and operands that meet the hypotheses of each clause of `ResetHolds`. -/
theorem witness_ResetHolds :
    ∃ (n : _), n < 48 :=
  ⟨47, by decide +kernel⟩

/-- States and operands that meet the hypotheses of each clause of `HostAccesses`. -/
theorem witness_HostAccesses :
    (∃ (off : BitVec 24) (be : BitVec 4) (words : Nat) (s : State), (¬ (words = 1 ∧ be = 15 ∧ locExists s .host off.toNat = true))) ∧
    (∃ (off : BitVec 24) (s : State), locExists s .host off.toNat = true) ∧
    (∃ (s : State), s.boot.loaded = false) ∧
    (∃ (wrt : Bool) (s : State), s.boot.loaded = true ∧ wrt = false) ∧
    (∃ (wrt : Bool) (off : BitVec 12) (data : Word) (s : State), s.boot.loaded = true ∧ wrt = true ∧ (¬ (64 ≤ off.toNat ∧ off.toNat < 256 ∧ data.getLsbD 15 = true ∧ off.toNat / 4 = capExp + 2))) ∧
    (∃ (wrt : Bool) (off : BitVec 12) (data : Word) (s : State), s.boot.loaded = true ∧ wrt = true ∧ 64 ≤ off.toNat ∧ off.toNat < 256 ∧ data.getLsbD 15 = true ∧ off.toNat / 4 = capExp + 2) ∧
    (∃ (q : Requester) (off : BitVec 24) (s : State), isLo off.toNat = true ∧ locExists s q off.toNat = true) :=
  ⟨⟨0, 0, 1, r0, by decide +kernel⟩,
   ⟨0, r0, by decide +kernel⟩,
   ⟨r0, by decide +kernel⟩,
   ⟨false, { r0 with boot := { r0.boot with loaded := true } }, by decide +kernel⟩,
   ⟨true, 0x10, 0, { r0 with boot := { r0.boot with loaded := true } }, by decide +kernel⟩,
   ⟨true, BitVec.ofNat 12 (4 * (capExp + 2)), 0x8000, { r0 with boot := { r0.boot with loaded := true } }, (by and_intros <;> first | (simp [capExp, capPm, BitVec.toNat_ofNat]; omega) | decide +kernel)⟩,
   ⟨.host, 0x60100, r0, by decide +kernel⟩⟩

/-- States and operands that meet the hypotheses of each clause of `FunctionResets`. -/
theorem witness_FunctionResets :
    (∃ (s : State), inSleep s = false) ∧
    (∃ (s : State), inSleep s = true) ∧
    (∃ (s : State), powerState s ≥ 2) ∧
    (∃ (s : State), powerState s < 2) :=
  ⟨⟨r0, by decide +kernel⟩,
   ⟨setF (r0) 0x7000C 1 0 3, by decide +kernel⟩,
   ⟨setF (r0) 0x7000C 1 0 2, by decide +kernel⟩,
   ⟨r0, by decide +kernel⟩⟩

/-- States and operands that meet the hypotheses of each clause of `RegisterWrites`. -/
theorem witness_RegisterWrites :
    (∃ (off : BitVec 24), off.toNat ∈ [4, 8, 0x10000, 0x10004, 0x41000, 0x41004, 0x51000, 0x51004, 0x60000, 0x60004, 0x70000, 0x70004, 0x80000, 0x80004, 0x90000, 0x90004, 0x180004, 0x180008, 0x182000, 0x182004] ∧ (regMasks off.toNat).isSome = true) ∧
    (∃ (off : BitVec 24) (s : State), off.toNat ≠ 0xC ∧ locExists s .host off.toNat = false) :=
  ⟨⟨0x41004, by decide +kernel⟩,
   ⟨0x200000, r0, by decide +kernel⟩⟩

/-- States and operands that meet the hypotheses of each clause of `LocksAndCommits`. -/
theorem witness_LocksAndCommits :
    (∃ (q : Requester) (s : State), keyOk s q = true ∧ getB s 0x20 1 = false) ∧
    (∃ (q : Requester) (s : State), keyOk s q = true ∧ getB s 0x20 1 = true) ∧
    (∃ (q : Requester) (s : State), keyOk s q = false) ∧
    (∃ (s : State) (refs : List (Nat × Word)), s.dev.commit = some refs ∧ (refs.map Prod.fst).Nodup) ∧
    (∃ (u : Upset) (s : State), (∀ f i, (triAt s f i).c0 = (triAt s f i).c1 ∧ (triAt s f i).c1 = (triAt s f i).c2) ∧ (triAt s u.field.val u.index).vote ≠ u.value ∧ u.index < 2 ^ 24) :=
  ⟨⟨.host, setArmed (r0) .host true, by decide +kernel⟩,
   ⟨.host, setArmed (setB r0 0x20 1 true) .host true, by decide +kernel⟩,
   ⟨.host, r0, by decide +kernel⟩,
   ⟨{ setB r0 0x20 1 true with dev := { commit := some [(0x28, 5), (0x1001C, 6)] } }, [(0x28, 5), (0x1001C, 6)], by decide +kernel⟩,
   ⟨{ field := 0, index := 3, copy := 1, value := 9 }, r0, (by and_intros <;> first | (intro f i; exact ⟨rfl, rfl⟩) | decide +kernel)⟩⟩

/-- States and operands that meet the hypotheses of each clause of `TransmitDescriptors`. -/
theorem witness_TransmitDescriptors :
    (∃ (r : Fin 16) (s : State) (n : Nat) (l : _), txReady s r 4 = true ∧ NextIsHosts s r ∧ n = fld (descWord s r 2) 5 0 ∧ n ≤ 47 ∧ (chan s n).lock = some l ∧ l.owner = 0x40 + r.val) ∧
    (∃ (r : Fin 16) (s : State) (n : Nat), txReady s r 4 = true ∧ NextIsHosts s r ∧ n = fld (descWord s r 2) 5 0 ∧ n ≤ 47 ∧ (chan s n).lock = none) ∧
    (∃ (r : Fin 16) (s : State) (o len : Nat) (x : Nat × Bool × Nat), txReady s r 2 = true ∧ NextIsHosts s r ∧ o = fld (descWord s r 2) 16 0 ∧ len = fld (descWord s r 3) 11 0 ∧ (descWord s r 3).getLsbD 12 = false ∧ moValid (motAt s o) = true ∧ moTx (motAt s o) = true ∧ sendLenOk (motAt s o) 2048 len = true ∧ moXl (motAt s o) = false ∧ moSealed (motAt s o) = false ∧ objLive s o = some x ∧ inWindow s (descWord s r 1).toNat len = true ∧ mayAct (ringOwner s r) (owned s (moComp (motAt s o))) = true ∧ obBit s o 18 = false ∧ obBit s o 19 = false) ∧
    (∃ (r : Fin 16) (s : State) (g : Nat), txReady s r 3 = true ∧ NextIsHosts s r ∧ g = fld (descWord s r 2) 24 0 ∧ 56 ≤ gSeg g ∧ gSeg g ≤ 59 ∧ mayAct (ringOwner s r) (segOwner s (gSeg g)) = true ∧ imageReady s = true ∧ gVeh g = ownVeh s ∧ poolFits s (12 + ringClass s r) 8 = true ∧ segMode s g = 0) ∧
    (∃ (r : Fin 16) (s : State) (g : Nat), txReady s r 3 = true ∧ NextIsHosts s r ∧ g = fld (descWord s r 2) 24 0 ∧ 56 ≤ gSeg g ∧ gSeg g ≤ 59 ∧ mayAct (ringOwner s r) (segOwner s (gSeg g)) = true ∧ imageReady s = true ∧ gVeh g ≠ ownVeh s) ∧
    (∃ (r : Fin 16) (s : State) (p : Nat) (w : Word), txReady s r 1 = true ∧ NextIsHosts s r ∧ w = descWord s r 2 ∧ p = fld w 24 20 ∧ w.getLsbD 19 = true ∧ w.getLsbD 18 = false ∧ txFrameCheck s r = 0 ∧ fld w 13 0 ≤ 224 ∧ portState s p ≠ 0 ∧ syncOnly s (p - p % 2) = false ∧ egState s p ≠ 2 ∧ cellsUse s < 131072 ∧ qUse s p (fld w 16 14) + 1 ≤ getF s (swR p (0x10 + 4 * fld w 16 14)) 17 0 ∧ portUse s p + 1 ≤ getF s (swR p 8) 17 0) ∧
    (∃ (r : Fin 16) (s : State) (p : Nat) (w : Word), txReady s r 1 = true ∧ NextIsHosts s r ∧ w = descWord s r 2 ∧ p = fld w 24 20 ∧ w.getLsbD 19 = true ∧ w.getLsbD 18 = false ∧ txFrameCheck s r = 0 ∧ (portState s p = 0 ∨ syncOnly s (p - p % 2) = true)) :=
  ⟨⟨1, setChan (ring r0 1 [9, 0, 3]) 3 { CanRt.init with lock := some { owner := 0x41, start := 0, timeout := 9 } }, fld (descWord (setChan (ring r0 1 [9, 0, 3]) 3 { CanRt.init with lock := some { owner := 0x41, start := 0, timeout := 9 } }) (1 : Fin 16) 2) 5 0, { owner := 0x41, start := 0, timeout := 9 }, by unfold NextIsHosts; decide +kernel⟩,
   ⟨1, ring r0 1 [9, 0, 3], fld (descWord (ring r0 1 [9, 0, 3]) (1 : Fin 16) 2) 5 0, by unfold NextIsHosts; decide +kernel⟩,
   ⟨1, ring (tab (inMode r0 0 1) 1 [(5, [3, 0, 0, 0x80000])]) 1 [5, 0x2000, 5, 1], fld (descWord (ring (tab (inMode r0 0 1) 1 [(5, [3, 0, 0, 0x80000])]) 1 [5, 0x2000, 5, 1]) (1 : Fin 16) 2) 16 0, fld (descWord (ring (tab (inMode r0 0 1) 1 [(5, [3, 0, 0, 0x80000])]) 1 [5, 0x2000, 5, 1]) (1 : Fin 16) 3) 11 0, (0, false, 5), by unfold NextIsHosts; decide +kernel⟩,
   ⟨1, ring (image r0) 1 [7, 0, 0x70003, 0, 77, 0], fld (descWord (ring (image r0) 1 [7, 0, 0x70003, 0, 77, 0]) (1 : Fin 16) 2) 24 0, by unfold NextIsHosts; decide +kernel⟩,
   ⟨1, ring (image r0) 1 [7, 0, 0xA70003, 0, 77, 0], fld (descWord (ring (image r0) 1 [7, 0, 0xA70003, 0, 77, 0]) (1 : Fin 16) 2) 24 0, by unfold NextIsHosts; decide +kernel⟩,
   ⟨1, ring (portUp r0 3) 1 [3, 0x2000, 0x38003C], fld (descWord (ring (portUp r0 3) 1 [3, 0x2000, 0x38003C]) (1 : Fin 16) 2) 24 20, descWord (ring (portUp r0 3) 1 [3, 0x2000, 0x38003C]) (1 : Fin 16) 2, by unfold NextIsHosts; decide +kernel⟩,
   ⟨1, ring (regs r0 [(0x180000, 1)]) 1 [3, 0x2000, 0x38003C], fld (descWord (ring (regs r0 [(0x180000, 1)]) 1 [3, 0x2000, 0x38003C]) (1 : Fin 16) 2) 24 20, descWord (ring (regs r0 [(0x180000, 1)]) 1 [3, 0x2000, 0x38003C]) (1 : Fin 16) 2, by unfold NextIsHosts; decide +kernel⟩⟩

/-- States and operands that meet the hypotheses of each clause of `Rings`, part 1. -/
theorem witness_Rings_1 :
    (∃ (r : Fin 16) (win : List (BitVec 32 × List Byte)) (s w : State), w = hostWrites s win ∧ budMode s ≠ 2 ∧ ringOn w r = true ∧ txOwn w r = true ∧ txKnown (txKind w r) = true) ∧
    (∃ (r : Fin 16) (win : List (BitVec 32 × List Byte)) (s w : State), w = hostWrites s win ∧ budMode s ≠ 2 ∧ ringOn w r = true ∧ txOwn w r = false) ∧
    (∃ (r : Fin 16) (win : List (BitVec 32 × List Byte)) (s w : State), w = hostWrites s win ∧ budMode s ≠ 2 ∧ ringOn w r = true ∧ txOwn w r = true ∧ txKnown (txKind w r) = false ∧ NextIsHosts w r) ∧
    (∃ (r : Fin 16) (win : List (BitVec 32 × List Byte)) (s w : State), w = hostWrites s win ∧ budMode s ≠ 2 ∧ ringOn w r = false) ∧
    (∃ (r : Fin 16) (off : BitVec 32) (bs : List Byte) (s : State), ringOn s r = false ∧ ready s 7 = true ∧ inWindow s off.toNat bs.length = true) ∧
    (∃ (r : Fin 16) (s : State), ringOn s r = false ∧ ready s 7 = false) ∧
    (∃ (r : Fin 16) (s : State) (d : RxDeliv) (l : List RxDeliv) (k : Nat), k = 16 + r.val ∧ getF s (ringR k 0) 4 1 ≤ 8 ∧ hpHead s = none ∧ (ringAt s k).deliv = d :: l ∧ d.copy = none ∧ ringOn s k = true ∧ fld (descWord s k 0) 0 0 = 1) ∧
    (∃ (r : Fin 16) (s : State) (d : RxDeliv) (l : List RxDeliv) (k : Nat), k = 16 + r.val ∧ getF s (ringR k 0) 4 1 ≤ 8 ∧ hpHead s = none ∧ (ringAt s k).deliv = d :: l ∧ d.copy = none ∧ (ringOn s k = false ∨ fld (descWord s k 0) 0 0 = 0)) :=
  ⟨⟨1, [], ring r0 1 [9, 0, 3], hostWrites (ring r0 1 [9, 0, 3]) [], by decide +kernel⟩,
   ⟨1, [], ring r0 1 [], hostWrites (ring r0 1 []) [], by decide +kernel⟩,
   ⟨1, [], ring r0 1 [0xB], hostWrites (ring r0 1 [0xB]) [], by unfold NextIsHosts; decide +kernel⟩,
   ⟨1, [], r0, hostWrites r0 [], by decide +kernel⟩,
   ⟨1, 0x2000, [1, 2], setB r0 0x14 7 true, by decide +kernel⟩,
   ⟨1, r0, by decide +kernel⟩,
   ⟨1, deliv (ring r0 17 [1, 0x2000, 64]) 17 { src := 3, w3 := 3, w4 := 0, w5 := 0, stamp := 0, data := [1, 2], copy := none }, { src := 3, w3 := 3, w4 := 0, w5 := 0, stamp := 0, data := [1, 2], copy := none }, [], 16 + (1 : Fin 16).val, by decide +kernel⟩,
   ⟨1, deliv (ring r0 17 [0, 0x2000, 64]) 17 { src := 3, w3 := 3, w4 := 0, w5 := 0, stamp := 0, data := [1, 2], copy := none }, { src := 3, w3 := 3, w4 := 0, w5 := 0, stamp := 0, data := [1, 2], copy := none }, [], 16 + (1 : Fin 16).val, by decide +kernel⟩⟩

/-- States and operands that meet the hypotheses of each clause of `Rings`, part 2. -/
theorem witness_Rings_2 :
    (∃ (r : Fin 16) (s : State) (f : SwFrame) (k : Nat), k = 16 + r.val ∧ hpHead s = some f ∧ frameAt s f.id = some f ∧ getF s 0x5100C (4 * f.tc + 3) (4 * f.tc) = r.val ∧ f.ts = none ∧ (ringAt s k).deliv = [] ∧ ringOn s k = false) ∧
    (∃ (r : Fin 32) (s : State), getB s (ringR r 0) 0 = false ∧ (ringAt s r).wait = none) ∧
    (∃ (q : Requester) (r : Fin 32) (s : State), getB s (ringR r 0) 0 = true ∧ q ≠ .loader ∧ (ringAt s r).wait = none) ∧
    (∃ (r : Fin 32) (s : State), getB s (ringR r 0) 0 = true ∧ ((ringAt s r).wait).isSome = true) :=
  ⟨⟨0, { r0 with sw := { frames := [{ swFrame with queued := [25] }], nextId := 6 } }, { swFrame with queued := [25] }, 16, by decide +kernel⟩,
   ⟨17, r0, by decide +kernel⟩,
   ⟨.host, 17, regs r0 [(ringR 17 0, 1)], by decide +kernel⟩,
   ⟨17, setRing (regs r0 [(ringR 17 0, 1)]) 17 { Ring.init with wait := some 7 }, by decide +kernel⟩⟩

/-- States and operands that meet the hypotheses of each clause of `Journals`. -/
theorem witness_Journals :
    (∃ (j : Fin 64) (s : State), (jnlAt s j).items = []) ∧
    (∃ (j : Fin 64) (lost : Bool) (s : State), ((jnlAt s j).items).isEmpty = false ∧ lost = false) ∧
    (∃ (j : Fin 64) (lost : Bool) (s : State), ((jnlAt s j).items).isEmpty = false ∧ lost = true) ∧
    (∃ (j : Fin 64) (data : Word) (s : State), getB s (jnlR j 0) 0 = false ∧ fld data 4 1 ≤ 11) ∧
    (∃ (q : Requester) (j : Fin 64) (data : Word) (s : State), getB s (jnlR j 0) 0 = true ∧ q ≠ .loader ∧ fld data 4 1 ≤ 11) :=
  ⟨⟨5, r0, by decide +kernel⟩,
   ⟨5, false, journal r0 5, by decide +kernel⟩,
   ⟨5, true, journal r0 5, by decide +kernel⟩,
   ⟨5, 0x16, r0, by decide +kernel⟩,
   ⟨.host, 5, 0x16, regs r0 [(jnlR 5 0, 1)], by decide +kernel⟩⟩

/-- States and operands that meet the hypotheses of each clause of `InterruptClaims`. -/
theorem witness_InterruptClaims :
    (∃ (q : Requester) (t : Fin 9) (s : State), (t.val = 8 → q = .supervisor) ∧ (∀ n, n < 512 → claimable s t n = false)) ∧
    (∃ (q : Requester) (t : Fin 9) (s : State) (n : _), (t.val = 8 → q = .supervisor) ∧ n < 512 ∧ n ≠ 185 ∧ claimable s t n = true ∧ (∀ m, m < 512 → m ≠ n → claimable s t m = true → srcPrio s m < srcPrio s n ∨ (srcPrio s m = srcPrio s n ∧ n < m))) ∧
    (∃ (q : Requester), q ≠ .supervisor) :=
  ⟨⟨.host, 1, r0, by decide +kernel⟩,
   ⟨.host, 1, pend (pend (regs r0 [(0x20840, 0), (0x20000 + 4 * 5, 0x202), (0x20000 + 4 * 6, 0x202)]) 5) 6, 5, by decide +kernel⟩,
   ⟨.host, by decide +kernel⟩⟩

/-- States and operands that meet the hypotheses of each clause of `MailboxProtocol`. -/
theorem witness_MailboxProtocol :
    (∃ (q : Requester) (m : Mbx) (s : State), pageHidden q m.val = false ∧ inFlight (mbxAt s m) < 8) ∧
    (∃ (q : Requester) (m : Mbx) (s : State), pageHidden q m.val = false ∧ 8 ≤ inFlight (mbxAt s m)) ∧
    (∃ (q : Requester) (m : Mbx) (s : State), pageHidden q m.val = false ∧ (mbxAt s m).posted = []) ∧
    (∃ (q : Requester) (m : Mbx) (s : State), pageHidden q m.val = false ∧ ((mbxAt s m).posted).isEmpty = false) ∧
    (∃ (q : Requester) (m : Mbx), pageHidden q m.val = false) ∧
    (∃ (m : Mbx) (s : State) (r : MbxReq) (l : List MbxReq), m.val < 8 ∧ (mbxAt s m).queue = r :: l ∧ r.expired = false ∧ takeOver s r = true ∧ (mbxAt s m).inSvc = none) ∧
    (∃ (m : Mbx) (s : State) (code : Nat) (x : MbxReq), Asks s m code x ∧ cmdCodes.contains code = false) :=
  ⟨⟨.host, 0, r0, by decide +kernel⟩,
   ⟨.host, 0, setMbx r0 0 { MbxRt.init with queue := List.replicate 8 (req 0x104 0 []) }, by decide +kernel⟩,
   ⟨.host, 0, r0, by decide +kernel⟩,
   ⟨.host, 0, setMbx r0 0 { MbxRt.init with posted := [[1], [2]] }, by decide +kernel⟩,
   ⟨.host, 0, by decide +kernel⟩,
   ⟨0, atNs (asks r0 0 (req 0x104 0 [])) 50000000, req 0x104 0 [], [], by decide +kernel⟩,
   ⟨0, asks (r0) 0 (req 0x0FFF 0 []), 0x0FFF, req 0x0FFF 0 [], by unfold Asks; decide +kernel⟩⟩

/-- States and operands that meet the hypotheses of each clause of `SystemCommands`, part 1. -/
theorem witness_SystemCommands_1 :
    (∃ (m : Mbx) (s : State) (x : MbxReq), Asks s m 0x0101 x ∧ leAt x.hdr 6 2 = 0) ∧
    (∃ (m : Mbx) (s : State) (x : MbxReq), Asks s m 0x0104 x) ∧
    (∃ (m : Mbx) (s : State) (x : MbxReq), Asks s m 0x0102 x ∧ leAt x.hdr 6 2 = 4 ∧ (leAt x.fields 0 4 = 0 ∨ (100 ≤ leAt x.fields 0 4 ∧ leAt x.fields 0 4 ≤ 60000))) ∧
    (∃ (m : Mbx) (s : State) (x : MbxReq), Asks s m 0x0103 x ∧ leAt x.hdr 6 2 = 0 ∧ attached s m = true) ∧
    (∃ (m : Mbx) (s : State) (x : MbxReq), Asks s m 0x0A01 x ∧ leAt x.hdr 4 1 = 0 ∧ leAt x.hdr 6 2 = 8 ∧ diagRange s (reqOf m false x) = true ∧ leAt x.fields 4 2 = 1 ∧ rsField (leAt x.fields 0 4) = false ∧ (¬ (0x30000 ≤ leAt x.fields 0 4 ∧ leAt x.fields 0 4 < 0x3A000))) ∧
    (∃ (m : Mbx) (s : State) (x : MbxReq), Asks s m 0x0A02 x ∧ leAt x.hdr 4 1 = 0 ∧ leAt x.hdr 6 2 = 12 ∧ leAt x.fields 0 4 = 0xC ∧ leAt x.fields 4 2 = 1 ∧ 1 < s.boot.stage) ∧
    (∃ (m : Mbx) (s : State) (x : MbxReq), Asks s m 0x0A03 x ∧ leAt x.hdr 4 1 = 0 ∧ leAt x.hdr 6 2 = 8 ∧ leAt x.fields 0 4 % 4 = 0 ∧ 4 ≤ leAt x.fields 4 2 ∧ leAt x.fields 4 2 ≤ 2048 ∧ leAt x.fields 4 2 % 4 = 0 ∧ hostBase ≤ leAt x.fields 0 4 ∧ leAt x.fields 0 4 + leAt x.fields 4 2 ≤ hostBase + hostSize s) ∧
    (∃ (m : Mbx) (s : State) (x : MbxReq), Asks s m 0x0A04 x ∧ leAt x.hdr 4 1 = 0 ∧ leAt x.hdr 6 2 = 0) :=
  ⟨⟨0, asks (r0) 0 (req 0x0101 0 []), req 0x0101 0 [], by unfold Asks; decide +kernel⟩,
   ⟨0, asks (r0) 0 (req 0x0104 0 [1, 2]), req 0x0104 0 [1, 2], by unfold Asks; decide +kernel⟩,
   ⟨0, asks (r0) 0 (req 0x0102 0 (leBytes 4 100)), req 0x0102 0 (leBytes 4 100), by unfold Asks; decide +kernel⟩,
   ⟨0, asks (setB r0 0x3A004 8 true) 0 (req 0x0103 0 []), req 0x0103 0 [], by unfold Asks; decide +kernel⟩,
   ⟨0, asks (r0) 0 (req 0x0A01 0 (leBytes 4 0x20 ++ leBytes 4 1)), req 0x0A01 0 (leBytes 4 0x20 ++ leBytes 4 1), by unfold Asks; decide +kernel⟩,
   ⟨0, asks (stage r0 4) 0 (req 0x0A02 0 (leBytes 4 0xC ++ leBytes 4 1 ++ leBytes 4 0x6A5C)), req 0x0A02 0 (leBytes 4 0xC ++ leBytes 4 1 ++ leBytes 4 0x6A5C), by unfold Asks; decide +kernel⟩,
   ⟨0, asks (r0) 0 (req 0x0A03 0 (leBytes 4 hostBase ++ leBytes 4 2048)), req 0x0A03 0 (leBytes 4 hostBase ++ leBytes 4 2048), by unfold Asks; decide +kernel⟩,
   ⟨0, asks (r0) 0 (req 0x0A04 0 []), req 0x0A04 0 [], by unfold Asks; decide +kernel⟩⟩

/-- States and operands that meet the hypotheses of each clause of `SystemCommands`, part 2. -/
theorem witness_SystemCommands_2 :
    ∃ (k : Fin 8) (s : State), attached s k = true ∧ (mbxAt s k).watch ≠ 0 ∧ (mbxAt s k).lastBell + (mbxAt s k).watch * 1000000 ≤ ltNs s :=
  ⟨0, setMbx (atNs (setB r0 0x3A004 8 true) 100000000) 0 { MbxRt.init with attached := true, watch := 100 }, by decide +kernel⟩

/-- States and operands that meet the hypotheses of each clause of `CanCommands`, part 1. -/
theorem witness_CanCommands_1 :
    (∃ (m : Mbx) (s : State) (x : MbxReq) (n : Nat), CanAsks s m 0x0201 x 4 n ∧ leAt x.fields 1 1 ≤ 5 ∧ modeRefused s n (leAt x.fields 1 1) = false) ∧
    (∃ (m : Mbx) (s : State) (x : MbxReq) (n : Nat), CanAsks s m 0x0202 x 32 n ∧ modeCur s n = 0 ∧ (16 ≤ n → cfgXl (cfgAsked (reqOf m false x)) = false) ∧ timingOk (cfgAsked (reqOf m false x)) = true) ∧
    (∃ (m : Mbx) (s : State) (x : MbxReq) (n : Nat), CanAsks s m 0x0203 x 4 n ∧ modeCur s n = 6 ∧ getB s (canR n 0) 13 = false) ∧
    (∃ (m : Mbx) (s : State) (x : MbxReq) (n : Nat), CanAsks s m 0x0204 x 4 n) ∧
    (∃ (m : Mbx) (s : State) (x : MbxReq) (n : Nat), CanAsks s m 0x0205 x 4 n ∧ leAt x.fields 1 1 ≤ 1) ∧
    (∃ (m : Mbx) (s : State) (x : MbxReq) (n : Nat), CanAsks s m 0x0206 x 4 n ∧ leAt x.fields 1 1 ≤ 2) ∧
    (∃ (m : Mbx) (s : State) (x : MbxReq) (n : Nat), CanAsks s m 0x0207 x 4 n ∧ lockCode (leAt x.fields 1 1) = true ∧ leAt x.fields 2 2 ≠ 0 ∧ modeCur s n ≠ 0 ∧ (chan s n).lock = none) ∧
    (∃ (m : Mbx) (s : State) (x : MbxReq) (n : Nat) (l : _), CanAsks s m 0x0208 x 4 n ∧ (chan s n).lock = some l ∧ l.owner = leAt x.fields 1 1 ∧ lockCode l.owner = true) :=
  ⟨⟨0, asks (inMode r0 3 2) 0 (req 0x0201 0 [3, 1, 0, 0]), req 0x0201 0 [3, 1, 0, 0], 3, by unfold CanAsks Asks; decide +kernel⟩,
   ⟨0, asks (r0) 0 (req 0x0202 0 ([3, 0, 0, 0] ++ leBytes 4 0 ++ leBytes 4 0x1840D09 ++ leBytes 4 0 ++ leBytes 4 0 ++ leBytes 4 0 ++ leBytes 4 0 ++ [0, 0, 0, 0])), req 0x0202 0 ([3, 0, 0, 0] ++ leBytes 4 0 ++ leBytes 4 0x1840D09 ++ leBytes 4 0 ++ leBytes 4 0 ++ leBytes 4 0 ++ leBytes 4 0 ++ [0, 0, 0, 0]), 3, by unfold CanAsks Asks; decide +kernel⟩,
   ⟨0, asks (regs r0 [(canR 3 0, 0x601)]) 0 (req 0x0203 0 [3, 0, 0, 0]), req 0x0203 0 [3, 0, 0, 0], 3, by unfold CanAsks Asks; decide +kernel⟩,
   ⟨0, asks (r0) 0 (req 0x0204 0 [3, 0, 0, 0]), req 0x0204 0 [3, 0, 0, 0], 3, by unfold CanAsks Asks; decide +kernel⟩,
   ⟨0, asks (r0) 0 (req 0x0205 0 [3, 1, 0, 0]), req 0x0205 0 [3, 1, 0, 0], 3, by unfold CanAsks Asks; decide +kernel⟩,
   ⟨0, asks (r0) 0 (req 0x0206 0 [3, 2, 0, 0]), req 0x0206 0 [3, 2, 0, 0], 3, by unfold CanAsks Asks; decide +kernel⟩,
   ⟨0, asks (inMode r0 3 1) 0 (req 0x0207 0 [3, 0x50, 9, 0]), req 0x0207 0 [3, 0x50, 9, 0], 3, by unfold CanAsks Asks; decide +kernel⟩,
   ⟨0, asks (setChan r0 3 { CanRt.init with lock := some { owner := 0x50, start := 0, timeout := 9 } }) 0 (req 0x0208 0 [3, 0x50, 0, 0]), req 0x0208 0 [3, 0x50, 0, 0], 3, { owner := 0x50, start := 0, timeout := 9 }, by unfold CanAsks Asks; decide +kernel⟩⟩

/-- States and operands that meet the hypotheses of each clause of `CanCommands`, part 2. -/
theorem witness_CanCommands_2 :
    (∃ (m : Mbx) (s : State) (x : MbxReq) (o len : Nat) (y : Nat × Bool × Nat), Asks s m 0x0209 x ∧ budMode s ≠ 2 ∧ o = leAt x.fields 0 4 ∧ len = leAt x.fields 4 2 ∧ o ≤ 131071 ∧ leAt x.hdr 6 2 = 8 + len ∧ objComp s (reqOf m false x) = true ∧ moValid (motAt s o) = true ∧ moTx (motAt s o) = true ∧ moXl (motAt s o) = false ∧ moSealed (motAt s o) = false ∧ sendLenOk (motAt s o) 64 len = true ∧ x.fields.length = 8 + len ∧ objLive s o = some y ∧ obBit s o 18 = false ∧ obBit s o 19 = false) ∧
    (∃ (n : Chan) (s : State) (l : Lock), budMode s ≠ 2 ∧ (chan s n).lock = some l ∧ lockEnd l ≤ ltNs s) :=
  ⟨⟨0, asks (tab (inMode r0 0 1) 1 [(5, [3, 0, 0, 0x80000])]) 0 (req 0x0209 0 (leBytes 4 5 ++ leBytes 4 2 ++ [7, 8])), req 0x0209 0 (leBytes 4 5 ++ leBytes 4 2 ++ [7, 8]), leAt (req 0x0209 0 (leBytes 4 5 ++ leBytes 4 2 ++ [7, 8])).fields 0 4, leAt (req 0x0209 0 (leBytes 4 5 ++ leBytes 4 2 ++ [7, 8])).fields 4 2, (0, false, 5), by unfold Asks; decide +kernel⟩,
   ⟨3, setChan (atNs r0 5000000) 3 { CanRt.init with lock := some { owner := 0x40, start := 0, timeout := 5 } }, { owner := 0x40, start := 0, timeout := 5 }, by decide +kernel⟩⟩

/-- States and operands that meet the hypotheses of each clause of `ForerunnerAperture`. -/
theorem witness_ForerunnerAperture :
    (∃ (n : Fin 12) (i : BitVec 11) (data : Word) (s : State) (o : Nat), budMode s ≠ 2 ∧ frEn s n = true ∧ o = n.val * 2048 + i.toNat ∧ (data.getLsbD 0 ≠ moValid (motAt s o) ∨ data.getLsbD 1 ≠ moTx (motAt s o)) ∧ data.getLsbD 3 = false ∧ data.getLsbD 4 = false) ∧
    (∃ (n : Fin 12) (i : BitVec 11) (data : Word) (s : State) (o : Nat), budMode s ≠ 2 ∧ frEn s n = true ∧ o = n.val * 2048 + i.toNat ∧ data.getLsbD 0 = moValid (motAt s o) ∧ data.getLsbD 1 = moTx (motAt s o) ∧ data.getLsbD 3 = true ∧ data.getLsbD 4 = true) ∧
    (∃ (n : Fin 12) (i : BitVec 11) (data : Word) (s : State) (o len : Nat) (y : Nat × Bool × Nat), budMode s ≠ 2 ∧ frEn s n = true ∧ o = n.val * 2048 + i.toNat ∧ data.getLsbD 0 = true ∧ data.getLsbD 1 = true ∧ data.getLsbD 3 = false ∧ data.getLsbD 4 = false ∧ moValid (motAt s o) = true ∧ moTx (motAt s o) = true ∧ moXl (motAt s o) = false ∧ len = fld data 11 8 ∧ len ≤ 8 ∧ 1 ≤ moGr (motAt s o) ∧ moSealed (motAt s o) = false ∧ objLive s o = some y ∧ obBit s o 18 = false ∧ obBit s o 19 = false) ∧
    (∃ (n : Fin 12) (i : BitVec 11) (s : State) (o : Nat), budMode s ≠ 2 ∧ frEn s n = true ∧ o = n.val * 2048 + i.toNat ∧ obBit s o 18 = false) ∧
    (∃ (n : Fin 12) (s : State), budMode s ≠ 2 ∧ frEn s n = false) :=
  ⟨⟨3, 5, 1, regs r0 [(0xA860C, 8)], (3 : Fin 12).val * 2048 + (5 : BitVec 11).toNat, by decide +kernel⟩,
   ⟨3, 5, 0x1B, tab (inMode (regs r0 [(0xA860C, 8)]) 3 1) 1 [(6149, [3, 0, 0, 0x80000])], (3 : Fin 12).val * 2048 + (5 : BitVec 11).toNat, by decide +kernel⟩,
   ⟨3, 5, 0x103, tab (inMode (regs r0 [(0xA860C, 8)]) 3 1) 1 [(6149, [3, 0, 0, 0x80000])], (3 : Fin 12).val * 2048 + (5 : BitVec 11).toNat, fld (0x103 : Word) 11 8, (3, false, 5), by decide +kernel⟩,
   ⟨3, 5, regs r0 [(0xA860C, 8)], (3 : Fin 12).val * 2048 + (5 : BitVec 11).toNat, by decide +kernel⟩,
   ⟨3, r0, by decide +kernel⟩⟩

/-- States and operands that meet the hypotheses of each clause of `ImageUpkeep`, part 1. -/
theorem witness_ImageUpkeep_1 :
    (∃ (s : State), getB s 0x1A0008 0 = true ∧ imageReady s = true ∧ budMode s ≠ 2) ∧
    (∃ (q : Requester) (s : State), budMode s ≠ 2 ∧ keyOk s q = true ∧ getB s 0x1A0008 0 = true ∧ pauseOk s = true) ∧
    (∃ (q : Requester) (s : State), budMode s ≠ 2 ∧ keyOk s q = true ∧ getB s 0x1A0008 0 = true ∧ pauseOk s = false) ∧
    (∃ (q : Requester) (s : State), budMode s ≠ 2 ∧ keyOk s q = true ∧ getB s 0x1A0008 0 = false) ∧
    (∃ (s : State) (p : Nat), s.sweepPauseAt = some p ∧ p + 60000000000 ≤ ltNs s) ∧
    (∃ (s : State) (p : Nat), s.sweepPauseAt = some p ∧ ltNs s < p + 60000000000) ∧
    (∃ (s : State), (s.cache.map Prod.fst).Nodup) ∧
    (∃ (i : Fin 64) (s : State) (g : Nat), g = gsid (ownVeh s) 63 i.val ∧ imageReady s = true ∧ houseIdx i.val = true ∧ getF s 0x7000C 1 0 ≤ 1 ∧ segMode s g = 0) :=
  ⟨⟨image r0, by decide +kernel⟩,
   ⟨.host, setArmed (image r0) .host true, by decide +kernel⟩,
   ⟨.host, setArmed ({ image r0 with sweepRunFrom := some 0 }) .host true, by decide +kernel⟩,
   ⟨.host, setArmed (setB r0 0x1A0008 0 false) .host true, by decide +kernel⟩,
   ⟨{ atNs r0 60000000000 with sweepPauseAt := some 0 }, 0, by decide +kernel⟩,
   ⟨{ atNs r0 59999999999 with sweepPauseAt := some 0 }, 0, by decide +kernel⟩,
   ⟨cached r0 9, by decide +kernel⟩,
   ⟨8, image r0, gsid (ownVeh (image r0)) 63 (8 : Fin 64).val, by decide +kernel⟩⟩

/-- States and operands that meet the hypotheses of each clause of `ImageUpkeep`, part 2. -/
theorem witness_ImageUpkeep_2 :
    (∃ (s : State), 3 ≤ s.boot.stage ∧ ready s 7 = true ∧ s.boot.todo.contains 9 = false ∧ s.boot.rescue = false ∧ s.boot.resume = false ∧ imageReady s = false ∧ getF s 0x7000C 1 0 < 2) ∧
    (∃ (s : State), s.boot.resume = true ∧ ready s 7 = true ∧ getF s 0x7000C 1 0 < 2) :=
  ⟨⟨setB (stage r0 4) 0x14 7 true, by decide +kernel⟩,
   ⟨{ setB r0 0x14 7 true with boot := { r0.boot with resume := true } }, by decide +kernel⟩⟩

/-- States and operands that meet the hypotheses of each clause of `SignalCommands`, part 1. -/
theorem witness_SignalCommands_1 :
    (∃ (m : Mbx) (s : State) (x : MbxReq) (v seg new : _), imageReady s = true ∧ budMode s ≠ 2 ∧ Asks s m 0x0301 x ∧ leAt x.hdr 6 2 = 4 ∧ v = leAt x.fields 0 1 ∧ seg = leAt x.fields 1 1 ∧ new = leAt x.fields 2 1 ∧ v ≤ 63 ∧ seg ≤ 63 ∧ new ≤ 2 ∧ (¬ (v = ownVeh s ∧ seg = 63)) ∧ mayAct (leAt x.hdr 4 1) (segOwner s seg) = true ∧ (∀ p ∈ s.passes, p.pair ≠ v * 64 + seg)) ∧
    (∃ (m : Mbx) (s : State) (x : MbxReq), imageReady s = true ∧ budMode s ≠ 2 ∧ Asks s m 0x0303 x ∧ leAt x.hdr 4 1 = 0 ∧ leAt x.hdr 6 2 = 8) ∧
    (∃ (m : Mbx) (s : State) (x : MbxReq), imageReady s = true ∧ budMode s ≠ 2 ∧ Asks s m 0x0304 x ∧ leAt x.hdr 4 1 = 0 ∧ leAt x.hdr 6 2 = 8 ∧ bitCount (leAt x.fields 0 8) 64 ≤ 12) ∧
    (∃ (m : Mbx) (s : State) (x : MbxReq) (g : _), imageReady s = true ∧ budMode s ≠ 2 ∧ Asks s m 0x0305 x ∧ leAt x.hdr 6 2 = 20 ∧ leAt x.fields 0 2 = 1 ∧ g = leAt x.fields 4 4 ∧ g < 2 ^ 25 ∧ 56 ≤ gSeg g ∧ gSeg g ≤ 59 ∧ gVeh g = ownVeh s ∧ mayAct (leAt x.hdr 4 1) (segOwner s (gSeg g)) = true ∧ segMode s g = 0 ∧ poolFits s 12 8 = true) ∧
    (∃ (m : Mbx) (s : State) (x : MbxReq) (i : _), imageReady s = true ∧ budMode s ≠ 2 ∧ Asks s m 0x0306 x ∧ leAt x.hdr 6 2 = 4 ∧ i = leAt x.fields 0 2 ∧ i ≤ 255 ∧ mayAct (leAt x.hdr 4 1) (owned s (dsComp (tGet s 8 i))) = true ∧ getB s 0x1A1008 0 = true ∧ dsTrig (tGet s 8 i) ≠ 0 ∧ (∀ r ∈ s.runs, r.dst = i → r.started = true)) ∧
    (∃ (m : Mbx) (s : State) (x : MbxReq), imageReady s = true ∧ budMode s ≠ 2 ∧ Asks s m 0x0307 x ∧ leAt x.hdr 4 1 = 0 ∧ leAt x.hdr 6 2 = 12 ∧ leAt x.fields 0 1 = ownVeh s ∧ leAt x.fields 1 1 = 1) ∧
    (∃ (m : Mbx) (s : State) (x : MbxReq), Asks s m 0x0302 x ∧ imageReady s = true ∧ 1 ≤ leAt x.fields 0 2 ∧ leAt x.fields 0 2 ≤ 64 ∧ leAt x.hdr 6 2 = 4 + 4 * leAt x.fields 0 2 ∧ (∀ g ∈ gsidsOf (reqOf m false x), g < 2 ^ 25 ∧ mayAct (leAt x.hdr 4 1) (segOwner s (gSeg g)) = true)) ∧
    (∃ (m : Mbx) (s : State) (x : MbxReq), Asks s m 0x0308 x ∧ leAt x.hdr 6 2 = 0) :=
  ⟨⟨0, asks (image r0) 0 (req 0x0301 0 [5, 3, 1, 0]), req 0x0301 0 [5, 3, 1, 0], leAt (req 0x0301 0 [5, 3, 1, 0]).fields 0 1, leAt (req 0x0301 0 [5, 3, 1, 0]).fields 1 1, leAt (req 0x0301 0 [5, 3, 1, 0]).fields 2 1, by unfold Asks; decide +kernel⟩,
   ⟨0, asks (image r0) 0 (req 0x0303 0 (leBytes 8 0xFF)), req 0x0303 0 (leBytes 8 0xFF), by unfold Asks; decide +kernel⟩,
   ⟨0, asks (image r0) 0 (req 0x0304 0 (leBytes 8 0xFFF)), req 0x0304 0 (leBytes 8 0xFFF), by unfold Asks; decide +kernel⟩,
   ⟨0, asks (image r0) 0 (req 0x0305 0 (leBytes 4 1 ++ leBytes 4 0x70003 ++ [0, 0, 0, 0] ++ leBytes 8 77)), req 0x0305 0 (leBytes 4 1 ++ leBytes 4 0x70003 ++ [0, 0, 0, 0] ++ leBytes 8 77), leAt (req 0x0305 0 (leBytes 4 1 ++ leBytes 4 0x70003 ++ [0, 0, 0, 0] ++ leBytes 8 77)).fields 4 4, by unfold Asks; decide +kernel⟩,
   ⟨0, asks (tab (image r0) 8 [(3, [1, 5, 0, 0])]) 0 (req 0x0306 0 [3, 0, 0, 0]), req 0x0306 0 [3, 0, 0, 0], leAt (req 0x0306 0 [3, 0, 0, 0]).fields 0 2, by unfold Asks; decide +kernel⟩,
   ⟨0, asks (image r0) 0 (req 0x0307 0 ([0, 1, 0, 0] ++ leBytes 8 77)), req 0x0307 0 ([0, 1, 0, 0] ++ leBytes 8 77), by unfold Asks; decide +kernel⟩,
   ⟨0, asks (image r0) 0 (req 0x0302 0 ([1, 0, 0, 0] ++ leBytes 4 9)), req 0x0302 0 ([1, 0, 0, 0] ++ leBytes 4 9), by unfold Asks; decide +kernel⟩,
   ⟨0, asks (r0) 0 (req 0x0308 0 []), req 0x0308 0 [], by unfold Asks; decide +kernel⟩⟩

/-- States and operands that meet the hypotheses of each clause of `SignalCommands`, part 2. -/
theorem witness_SignalCommands_2 :
    ∃ (s : State) (p : ModePass) (l : List ModePass), s.passes = p :: l ∧ (∀ y ∈ l, y.pair ≠ p.pair) ∧ p.pair < 4096 ∧ p.new ≤ 1 :=
  ⟨{ image r0 with passes := [{ pair := 5, old := 0, new := 1, mbx := none }] }, { pair := 5, old := 0, new := 1, mbx := none }, [], by decide +kernel⟩

/-- States and operands that meet the hypotheses of each clause of `EngineExecutions`. -/
theorem witness_EngineExecutions :
    (∃ (d : BitVec 768) (raw : Nat), sdFloat d = false ∧ raw < 2 ^ sdLen d ∧ (sdSigned d = false → raw < 2 ^ 63)) ∧
    (∃ (s : State) (c : Carrier) (rest : List Carrier) (j : Nat) (js : List Nat) (d : BitVec 768) (g v : Nat) (x : Xf), s.carriers = c :: rest ∧ c.descs = j :: js ∧ s.scanHeld = false ∧ d = sdpAt s j ∧ g = gOwn s (sdGsid d) ∧ sdOp d = 1 ∧ (∀ b ∈ fieldBits d, b < 8 * c.data.length) ∧ gSeg (sdGsid d) = c.seg ∧ descMay s c.comp d [g] = true ∧ segMode s g = 0 ∧ x = decodeXf d (tptAt s (sdXform d)) (takeField c.data (fieldBits d)) ∧ x.val = some v) ∧
    (∃ (s : State) (c : Carrier) (rest : List Carrier) (j : Nat) (js : List Nat) (d : BitVec 768), s.carriers = c :: rest ∧ c.descs = j :: js ∧ s.scanHeld = false ∧ d = sdpAt s j ∧ sdOp d = 1 ∧ (∀ b ∈ fieldBits d, b < 8 * c.data.length) ∧ descMay s c.comp d [gOwn s (sdGsid d)] = false) ∧
    (∃ (s : State) (c : Comp) (o v : Nat) (e d : BitVec 768), queueUp s 3 = true ∧ s.scanHeld = false ∧ s.comps.find? (fun c => !c.started) = some c ∧ c.target = .object o ∧ (∀ x ∈ s.comps, x.target = .object o → x.started = false) ∧ e = motAt s o ∧ moValid e = true ∧ moTx e = true ∧ moSealed e = false ∧ moSdpN e = 1 ∧ d = sdpAt s (moSdp e) ∧ sdOp d = 2 ∧ (∀ b ∈ fieldBits d, b < 8 * dataRoom e) ∧ descMay s (owned s (moComp e)) d [sdGsid d] = true ∧ (cacheHit s (sdGsid d)).isSome = true ∧ (encodeXf d (tptAt s (sdXform d)) (slotAt s (sdGsid d))).val = some v) ∧
    (∃ (s : State) (r : Run) (i : Instr) (j : Nat) (d : BitVec 768) (g : Nat) (a b : Slot), r.descs = [j] ∧ d = sdpAt s j ∧ g = gOwn s (sdGsid d) ∧ a = slotAt s (dvA d) ∧ b = slotAt s (dvB d) ∧ sdOp d = 3 ∧ dvFn d ≤ 8 ∧ a.valid = true ∧ (binaryFn (dvFn d) = true → b.valid = true) ∧ (dvInstale d = true → a.stale = false ∧ (binaryFn (dvFn d) = true → b.stale = false)) ∧ segMode s g = 0 ∧ deriveMay s r.dst d = true ∧ (i = .derivationRun ∧ queueUp s 4 = true ∧ s.runs.find? (fun r => !r.started) = some r ∧ r.reads = none ∧ (∀ k ∈ dvReads s d, (cacheHit s k).isSome = true) ∨ i = .engineResume ∧ r.reads = some [] ∧ ∃ k l, s.parked = .run r k :: l)) :=
  ⟨⟨ent [0x1C1], 200, by decide +kernel⟩,
   ⟨{ tab (image r0) 5 [(2, [0x1C1, 0x6004])] with carriers := [{ copy := 0, seg := 3, comp := 0, data := [7], auth := false, named := [2], descs := [2], held := [] }] }, { copy := 0, seg := 3, comp := 0, data := [7], auth := false, named := [2], descs := [2], held := [] }, [], 2, [], sdpAt (({ tab (image r0) 5 [(2, [0x1C1, 0x6004])] with carriers := [{ copy := 0, seg := 3, comp := 0, data := [7], auth := false, named := [2], descs := [2], held := [] }] }) : State) 2, gOwn (({ tab (image r0) 5 [(2, [0x1C1, 0x6004])] with carriers := [{ copy := 0, seg := 3, comp := 0, data := [7], auth := false, named := [2], descs := [2], held := [] }] }) : State) (sdGsid (sdpAt (({ tab (image r0) 5 [(2, [0x1C1, 0x6004])] with carriers := [{ copy := 0, seg := 3, comp := 0, data := [7], auth := false, named := [2], descs := [2], held := [] }] }) : State) 2)), 7, decodeXf (sdpAt (({ tab (image r0) 5 [(2, [0x1C1, 0x6004])] with carriers := [{ copy := 0, seg := 3, comp := 0, data := [7], auth := false, named := [2], descs := [2], held := [] }] }) : State) 2) (tptAt (({ tab (image r0) 5 [(2, [0x1C1, 0x6004])] with carriers := [{ copy := 0, seg := 3, comp := 0, data := [7], auth := false, named := [2], descs := [2], held := [] }] }) : State) (sdXform (sdpAt (({ tab (image r0) 5 [(2, [0x1C1, 0x6004])] with carriers := [{ copy := 0, seg := 3, comp := 0, data := [7], auth := false, named := [2], descs := [2], held := [] }] }) : State) 2))) (takeField (({ copy := 0, seg := 3, comp := 0, data := [7], auth := false, named := [2], descs := [2], held := [] }) : Carrier).data (fieldBits (sdpAt (({ tab (image r0) 5 [(2, [0x1C1, 0x6004])] with carriers := [{ copy := 0, seg := 3, comp := 0, data := [7], auth := false, named := [2], descs := [2], held := [] }] }) : State) 2))), by decide +kernel⟩,
   ⟨{ setTri (tab (image r0) 5 [(2, [0x100001C1, 0x6004])]) 0 0x70000 2 with carriers := [{ copy := 0, seg := 3, comp := 1, data := [7], auth := false, named := [2], descs := [2], held := [] }] }, { copy := 0, seg := 3, comp := 1, data := [7], auth := false, named := [2], descs := [2], held := [] }, [], 2, [], sdpAt (({ setTri (tab (image r0) 5 [(2, [0x100001C1, 0x6004])]) 0 0x70000 2 with carriers := [{ copy := 0, seg := 3, comp := 1, data := [7], auth := false, named := [2], descs := [2], held := [] }] }) : State) 2, by decide +kernel⟩,
   ⟨{ cached (setSlot (tab (tab (inMode (image r0) 0 1) 1 [(5, [3, 0, 0x40002, 0x80000])]) 5 [(2, [0x1C2, 0x6004])]) 0x6004 (valid 7)) 0x6004 with comps := [{ target := .object 5, started := false, buf := [], hiBit := 0, descs := [] }] }, { target := .object 5, started := false, buf := [], hiBit := 0, descs := [] }, 5, 7, motAt (({ cached (setSlot (tab (tab (inMode (image r0) 0 1) 1 [(5, [3, 0, 0x40002, 0x80000])]) 5 [(2, [0x1C2, 0x6004])]) 0x6004 (valid 7)) 0x6004 with comps := [{ target := .object 5, started := false, buf := [], hiBit := 0, descs := [] }] }) : State) 5, sdpAt (({ cached (setSlot (tab (tab (inMode (image r0) 0 1) 1 [(5, [3, 0, 0x40002, 0x80000])]) 5 [(2, [0x1C2, 0x6004])]) 0x6004 (valid 7)) 0x6004 with comps := [{ target := .object 5, started := false, buf := [], hiBit := 0, descs := [] }] }) : State) (moSdp (motAt (({ cached (setSlot (tab (tab (inMode (image r0) 0 1) 1 [(5, [3, 0, 0x40002, 0x80000])]) 5 [(2, [0x1C2, 0x6004])]) 0x6004 (valid 7)) 0x6004 with comps := [{ target := .object 5, started := false, buf := [], hiBit := 0, descs := [] }] }) : State) 5)), by decide +kernel⟩,
   ⟨{ cached (setSlot (tab (image r0) 5 [(2, [3, 0x6005, 0x6004, 0x6004])]) 0x6004 (valid 7)) 0x6004 with runs := [{ dst := 3, started := false, descs := [2], reads := none }] }, { dst := 3, started := false, descs := [2], reads := none }, .derivationRun, 2, sdpAt (({ cached (setSlot (tab (image r0) 5 [(2, [3, 0x6005, 0x6004, 0x6004])]) 0x6004 (valid 7)) 0x6004 with runs := [{ dst := 3, started := false, descs := [2], reads := none }] }) : State) 2, gOwn (({ cached (setSlot (tab (image r0) 5 [(2, [3, 0x6005, 0x6004, 0x6004])]) 0x6004 (valid 7)) 0x6004 with runs := [{ dst := 3, started := false, descs := [2], reads := none }] }) : State) (sdGsid (sdpAt (({ cached (setSlot (tab (image r0) 5 [(2, [3, 0x6005, 0x6004, 0x6004])]) 0x6004 (valid 7)) 0x6004 with runs := [{ dst := 3, started := false, descs := [2], reads := none }] }) : State) 2)), slotAt (({ cached (setSlot (tab (image r0) 5 [(2, [3, 0x6005, 0x6004, 0x6004])]) 0x6004 (valid 7)) 0x6004 with runs := [{ dst := 3, started := false, descs := [2], reads := none }] }) : State) (dvA (sdpAt (({ cached (setSlot (tab (image r0) 5 [(2, [3, 0x6005, 0x6004, 0x6004])]) 0x6004 (valid 7)) 0x6004 with runs := [{ dst := 3, started := false, descs := [2], reads := none }] }) : State) 2)), slotAt (({ cached (setSlot (tab (image r0) 5 [(2, [3, 0x6005, 0x6004, 0x6004])]) 0x6004 (valid 7)) 0x6004 with runs := [{ dst := 3, started := false, descs := [2], reads := none }] }) : State) (dvB (sdpAt (({ cached (setSlot (tab (image r0) 5 [(2, [3, 0x6005, 0x6004, 0x6004])]) 0x6004 (valid 7)) 0x6004 with runs := [{ dst := 3, started := false, descs := [2], reads := none }] }) : State) 2)), (by and_intros <;> first | exact .inl (by decide +kernel) | decide +kernel)⟩⟩

/-- States and operands that meet the hypotheses of each clause of `RoutingEnableAndTimeouts`. -/
theorem witness_RoutingEnableAndTimeouts :
    (∃ (s : State), getB s 0x1A1008 0 = true ∧ imageReady s = true ∧ budMode s ≠ 2 ∧ queueUp s 4 = false) ∧
    (∃ (s : State), getB s 0x1A1008 0 = true ∧ imageReady s = true ∧ budMode s ≠ 2 ∧ queueUp s 4 = true) ∧
    (∃ (q : Requester) (s : State), budMode s ≠ 2 ∧ keyOk s q = true ∧ getB s 0x1A1008 0 = false ∧ poolSum s ≤ 16384) ∧
    (∃ (q : Requester) (s : State), budMode s ≠ 2 ∧ keyOk s q = true ∧ getB s 0x1A1008 0 = false ∧ 16384 < poolSum s) ∧
    (∃ (q : Requester) (s : State), budMode s ≠ 2 ∧ keyOk s q = true ∧ getB s 0x1A1008 0 = true) :=
  ⟨⟨{ image r0 with carriers := [{ copy := 0, seg := 3, comp := 0, data := [7], auth := false, named := [2], descs := [2], held := [] }] }, by decide +kernel⟩,
   ⟨image r0, by decide +kernel⟩,
   ⟨.host, setArmed (r0) .host true, by decide +kernel⟩,
   ⟨.host, setArmed (regs r0 [(0x1A1040, 0x4001)]) .host true, by decide +kernel⟩,
   ⟨.host, setArmed (image r0) .host true, by decide +kernel⟩⟩

/-- States and operands that meet the hypotheses of each clause of `MirrorSends`. -/
theorem witness_MirrorSends :
    (∃ (i : Fin 1024) (s : State) (e : BitVec 768) (c : Instr) (refresh : Bool) (recs : List (List Byte)), e = tGet s 9 i ∧ (c = .pubRefreshCycle i ∧ refresh = true ∧ (pubRt s i).busy = some true ∧ pubOn s i = true ∧ recs = slotRecords s ((List.range (puLast e + 1 - puFirst e)).map fun k => gsid (ownVeh s) (puSeg e) (puFirst e + k)) ∨ c = .pubChangePass i ∧ refresh = false ∧ pubChangeDue s i = true ∧ (pubRt s i).busy ≠ some true ∧ budMode s ≠ 2 ∧ recs = slotRecords s ((pubRt s i).dirty.map fun k => gsid (ownVeh s) (puSeg e) k)) ∧ ownBat s = true ∧ baValid (batAt s (puBat e)) = true ∧ budMode s ≠ 3) ∧
    (∃ (i : Fin 1024) (s : State) (e : BitVec 768) (c : Instr) (refresh : Bool) (recs : List (List Byte)), e = tGet s 9 i ∧ (c = .pubRefreshCycle i ∧ refresh = true ∧ (pubRt s i).busy = some true ∧ pubOn s i = true ∧ recs = slotRecords s ((List.range (puLast e + 1 - puFirst e)).map fun k => gsid (ownVeh s) (puSeg e) (puFirst e + k)) ∨ c = .pubChangePass i ∧ refresh = false ∧ pubChangeDue s i = true ∧ (pubRt s i).busy ≠ some true ∧ budMode s ≠ 2 ∧ recs = slotRecords s ((pubRt s i).dirty.map fun k => gsid (ownVeh s) (puSeg e) k)) ∧ (baValid (batAt s (puBat e)) = false ∨ ownBat s = true ∧ budMode s = 3)) ∧
    (∃ (s : State), beaconDue s = true) ∧
    (∃ (s : State) (c : Comp) (i : Nat) (e : BitVec 768), queueUp s 3 = true ∧ s.scanHeld = false ∧ s.comps.find? (fun c => !c.started) = some c ∧ c.target = .telegram i ∧ e = tGet s 0xD i ∧ ttValid e = true ∧ ttSends e = true ∧ ownBat s = true ∧ baValid (batAt s (ttBat e)) = true ∧ budMode s ≠ 3 ∧ (∀ x ∈ s.comps, x.target = .telegram i → x.started = false) ∧ (∀ j ∈ ttDescs e, encodeMiss s (ttLen e) (owned s (ttComp e)) j = none)) ∧
    (∃ (m : Mbx) (s : State) (x : MbxReq) (g v : Nat), Asks s m 0x0305 x ∧ imageReady s = true ∧ budMode s < 2 ∧ leAt x.hdr 6 2 = 20 ∧ leAt x.fields 0 2 = 1 ∧ g = leAt x.fields 4 4 ∧ v = gVeh g ∧ g < 2 ^ 25 ∧ 56 ≤ gSeg g ∧ gSeg g ≤ 59 ∧ v ≠ ownVeh s ∧ mayAct (leAt x.hdr 4 1) (segOwner s (gSeg g)) = true ∧ baValid (batAt s v) = true ∧ ownBat s = true ∧ s.mir.rw.length < 1024) ∧
    (∃ (s : State) (w : RWrite), s.mir.rw = [w] ∧ w.sent + frcF s 0x1A2008 31 16 * 1000000 ≤ ltNs s) ∧
    (∃ (q : Requester) (s : State), budMode s ≠ 2 ∧ keyOk s q = true ∧ getB s 0x1A2008 0 = false) ∧
    (∃ (q : Requester) (s : State), budMode s ≠ 2 ∧ keyOk s q = true ∧ getB s 0x1A2008 0 = true) :=
  ⟨⟨3, setPub (tab (tab (image r0) 9 [(3, [0x301, 0x80000])]) 0xC [(0, [1])]) 3 { PubRt.init with busy := some true }, tGet (setPub (tab (tab (image r0) 9 [(3, [0x301, 0x80000])]) 0xC [(0, [1])]) 3 { PubRt.init with busy := some true }) 9 (3 : Fin 1024), Instr.pubRefreshCycle 3, true, slotRecords (setPub (tab (tab (image r0) 9 [(3, [0x301, 0x80000])]) 0xC [(0, [1])]) 3 { PubRt.init with busy := some true }) ((List.range (puLast (tGet (setPub (tab (tab (image r0) 9 [(3, [0x301, 0x80000])]) 0xC [(0, [1])]) 3 { PubRt.init with busy := some true }) 9 (3 : Fin 1024)) + 1 - puFirst (tGet (setPub (tab (tab (image r0) 9 [(3, [0x301, 0x80000])]) 0xC [(0, [1])]) 3 { PubRt.init with busy := some true }) 9 (3 : Fin 1024)))).map fun k => gsid (ownVeh (setPub (tab (tab (image r0) 9 [(3, [0x301, 0x80000])]) 0xC [(0, [1])]) 3 { PubRt.init with busy := some true })) (puSeg (tGet (setPub (tab (tab (image r0) 9 [(3, [0x301, 0x80000])]) 0xC [(0, [1])]) 3 { PubRt.init with busy := some true }) 9 (3 : Fin 1024))) (puFirst (tGet (setPub (tab (tab (image r0) 9 [(3, [0x301, 0x80000])]) 0xC [(0, [1])]) 3 { PubRt.init with busy := some true }) 9 (3 : Fin 1024)) + k)), by decide +kernel⟩,
   ⟨3, setPub (tab (image r0) 9 [(3, [0x301, 0x80000])]) 3 { PubRt.init with busy := some true }, tGet (setPub (tab (image r0) 9 [(3, [0x301, 0x80000])]) 3 { PubRt.init with busy := some true }) 9 (3 : Fin 1024), Instr.pubRefreshCycle 3, true, slotRecords (setPub (tab (image r0) 9 [(3, [0x301, 0x80000])]) 3 { PubRt.init with busy := some true }) ((List.range (puLast (tGet (setPub (tab (image r0) 9 [(3, [0x301, 0x80000])]) 3 { PubRt.init with busy := some true }) 9 (3 : Fin 1024)) + 1 - puFirst (tGet (setPub (tab (image r0) 9 [(3, [0x301, 0x80000])]) 3 { PubRt.init with busy := some true }) 9 (3 : Fin 1024)))).map fun k => gsid (ownVeh (setPub (tab (image r0) 9 [(3, [0x301, 0x80000])]) 3 { PubRt.init with busy := some true })) (puSeg (tGet (setPub (tab (image r0) 9 [(3, [0x301, 0x80000])]) 3 { PubRt.init with busy := some true }) 9 (3 : Fin 1024))) (puFirst (tGet (setPub (tab (image r0) 9 [(3, [0x301, 0x80000])]) 3 { PubRt.init with busy := some true }) 9 (3 : Fin 1024)) + k)), by decide +kernel⟩,
   ⟨regs (image r0) [(0x1A200C, 100)], by decide +kernel⟩,
   ⟨{ tab (tab (image r0) 0xD [(4, [3, 9])]) 0xC [(0, [1])] with comps := [{ target := .telegram 4, started := false, buf := [], hiBit := 0, descs := [] }] }, { target := .telegram 4, started := false, buf := [], hiBit := 0, descs := [] }, 4, tGet (({ tab (tab (image r0) 0xD [(4, [3, 9])]) 0xC [(0, [1])] with comps := [{ target := .telegram 4, started := false, buf := [], hiBit := 0, descs := [] }] }) : State) 0xD 4, by decide +kernel⟩,
   ⟨0, asks (tab (image r0) 0xC [(0, [1]), (5, [1])]) 0 (req 0x0305 0 (leBytes 4 1 ++ leBytes 4 (gsid 5 56 3) ++ [0, 0, 0, 0] ++ leBytes 8 77)), req 0x0305 0 (leBytes 4 1 ++ leBytes 4 (gsid 5 56 3) ++ [0, 0, 0, 0] ++ leBytes 8 77), leAt (req 0x0305 0 (leBytes 4 1 ++ leBytes 4 (gsid 5 56 3) ++ [0, 0, 0, 0] ++ leBytes 8 77)).fields 4 4, gVeh (leAt (req 0x0305 0 (leBytes 4 1 ++ leBytes 4 (gsid 5 56 3) ++ [0, 0, 0, 0] ++ leBytes 8 77)).fields 4 4), by unfold Asks; decide +kernel⟩,
   ⟨{ image (atNs r0 1000000000) with mir := { r0.mir with rw := [{ target := 5, gsid := 9, tag := 0, orig := 0x50, value := 7, sent := 0 }] } }, { target := 5, gsid := 9, tag := 0, orig := 0x50, value := 7, sent := 0 }, by decide +kernel⟩,
   ⟨.host, setArmed (r0) .host true, by decide +kernel⟩,
   ⟨.host, setArmed (image r0) .host true, by decide +kernel⟩⟩

/-- States and operands that meet the hypotheses of each clause of `MirrorReceives`, part 1. -/
theorem witness_MirrorReceives_1 :
    (∃ (s w : State) (f : SgFrame) (b : Bundle) (i gap : _), sgFront (sgDrain s) = some f ∧ sgBundle f = true ∧ w = sgDrain (sgServe (sgDrain s) f) ∧ b = bundleOf f.bytes ∧ budMode s ≠ 2 ∧ budMode s ≠ 3 ∧ getB s 0x1A2008 0 = true ∧ imageReady s = true ∧ b.kind = 0 ∧ bundleCheck s b = none ∧ bundleSub s b = some i ∧ (suMacsec (tGet s 0xA i) = true → f.auth = true) ∧ trackJudge 16 (ltNs s) b.seq (subRt s i).tr = some gap ∧ poolFits w (8 + suClass (tGet s 0xA i)) b.len = true) ∧
    (∃ (s : State) (f : SgFrame) (b : Bundle), sgFront (sgDrain s) = some f ∧ sgBundle f = true ∧ b = bundleOf f.bytes ∧ budMode s ≠ 2 ∧ budMode s ≠ 3 ∧ getB s 0x1A2008 0 = true ∧ imageReady s = true ∧ (bundleCheck s b).isSome = true) ∧
    (∃ (s : State) (b : BundleCar) (rest : List Work2) (r : List Byte) (g : Nat) (e : BitVec 768), s.carriers = [] ∧ s.scanHeld = false ∧ s.work2 = .bundle b :: rest ∧ b.refused = false ∧ b.recs = [r] ∧ g = beAt r 0 4 % 2 ^ 25 ∧ e = tGet s 0xA b.sub ∧ gVeh g = b.srcVeh ∧ gVeh g ≠ ownVeh s ∧ gSeg g = suSeg e ∧ suFirst e ≤ gIdx g ∧ gIdx g ≤ suLast e ∧ nbit (beAt r 4 1) 0 = true ∧ nbit (beAt r 4 1) 1 = false ∧ segMode s g = 0) ∧
    (∃ (i : Fin 1024) (s : State), subDue s i = true ∧ budMode s ≠ 2) ∧
    (∃ (s w : State) (f : SgFrame) (i gap : _), sgFront (sgDrain s) = some f ∧ w = sgDrain (sgServe (sgDrain s) f) ∧ budMode s ≠ 2 ∧ budMode s ≠ 3 ∧ sgPd f = true ∧ trdpCheck s f.bytes = none ∧ trdpMatch s f.bytes = some i ∧ (ttMacsec (tGet s 0xD i) = true → f.auth = true) ∧ trackJudge 32 (ltNs s) (beAt f.bytes (trdpPos f.bytes) 4) (tttRt s i).tr = some gap ∧ getB s 0x1A1008 0 = true ∧ poolFits w (8 + ttClass (tGet s 0xD i)) (tdLen f.bytes) = true) ∧
    (∃ (s : State) (f : SgFrame), sgFront (sgDrain s) = some f ∧ budMode s ≠ 2 ∧ budMode s ≠ 3 ∧ sgPd f = true ∧ (trdpCheck s f.bytes).isSome = true) ∧
    (∃ (s : State) (f : SgFrame) (c : _), sgFront (sgDrain s) = some f ∧ budMode s ≠ 2 ∧ budMode s ≠ 3 ∧ (c = Instr.trdpPrReceived ∧ sgPr f = true ∨ c = .trdpMdReceived ∧ sgMd f = true) ∧ mbxPaused s = true) ∧
    (∃ (s : State) (f : SgFrame) (p : _), sgFront (sgDrain s) = some f ∧ budMode s ≠ 2 ∧ budMode s ≠ 3 ∧ mbxPaused s = false ∧ sgPr f = true ∧ trdpCheck s f.bytes = none ∧ ((tList s 0xD).find? fun e => ttValid e.2 && ttSends e.2 && ttComid e.2 == tdComId f.bytes) = some p ∧ ownBat s = true ∧ baValid (batAt s (ttBat (tGet s 0xD p.1))) = true) :=
  ⟨⟨sgGets (tab (image r0) 0xA [(3, [0x315, 0x10003, 0x80000])]) (bundle 7), sgDrain (sgServe (sgDrain (sgGets (tab (image r0) 0xA [(3, [0x315, 0x10003, 0x80000])]) (bundle 7))) (bundle 7)), bundle 7, bundleOf (bundle 7).bytes, 3, false, by decide +kernel⟩,
   ⟨sgGets (image r0) (sgFrame (List.replicate 12 2 ++ [0x88, 0xB5] ++ List.replicate 46 0)), sgFrame (List.replicate 12 2 ++ [0x88, 0xB5] ++ List.replicate 46 0), bundleOf (sgFrame (List.replicate 12 2 ++ [0x88, 0xB5] ++ List.replicate 46 0)).bytes, by decide +kernel⟩,
   ⟨{ tab (image r0) 0xA [(3, [0x315, 0x10003, 0x80000])] with work2 := [.bundle { copy := 0, refused := false, sub := 3, srcVeh := 5, auth := false, gap := false, begin_ := true, end_ := true, recs := [signalRecord (gsid 5 3 4) (valid 77)] }] }, { copy := 0, refused := false, sub := 3, srcVeh := 5, auth := false, gap := false, begin_ := true, end_ := true, recs := [signalRecord (gsid 5 3 4) (valid 77)] }, [], signalRecord (gsid 5 3 4) (valid 77), beAt (signalRecord (gsid 5 3 4) (valid 77)) 0 4 % 2 ^ 25, tGet (({ tab (image r0) 0xA [(3, [0x315, 0x10003, 0x80000])] with work2 := [.bundle { copy := 0, refused := false, sub := 3, srcVeh := 5, auth := false, gap := false, begin_ := true, end_ := true, recs := [signalRecord (gsid 5 3 4) (valid 77)] }] }) : State) 0xA (({ copy := 0, refused := false, sub := 3, srcVeh := 5, auth := false, gap := false, begin_ := true, end_ := true, recs := [signalRecord (gsid 5 3 4) (valid 77)] }) : BundleCar).sub, by decide +kernel⟩,
   ⟨3, tab (image (atNs r0 1000000)) 0xA [(3, [0x315, 0x10003, 0x80000])], by decide +kernel⟩,
   ⟨sgGets (tab (image r0) 0xD [(4, [1, 9])]) (telegram 0x5064 17224 [1, 2]), sgDrain (sgServe (sgDrain (sgGets (tab (image r0) 0xD [(4, [1, 9])]) (telegram 0x5064 17224 [1, 2]))) (telegram 0x5064 17224 [1, 2])), telegram 0x5064 17224 [1, 2], 4, false, by decide +kernel⟩,
   ⟨sgGets r0 (telegram 0x5064 17224 [1, 2]), telegram 0x5064 17224 [1, 2], by decide +kernel⟩,
   ⟨swaps (sgGets r0 (telegram 0x5072 17224 [])) 4, telegram 0x5072 17224 [], Instr.trdpPrReceived, by decide +kernel⟩,
   ⟨sgGets (tab (tab (image r0) 0xD [(4, [3, 9])]) 0xC [(0, [1])]) (telegram 0x5072 17224 []), telegram 0x5072 17224 [], (4, ent [3, 9]), by decide +kernel⟩⟩

/-- States and operands that meet the hypotheses of each clause of `MirrorReceives`, part 2. -/
theorem witness_MirrorReceives_2 :
    ∃ (s : State) (f : SgFrame), sgFront (sgDrain s) = some f ∧ budMode s ≠ 2 ∧ budMode s ≠ 3 ∧ mbxPaused s = false ∧ sgMd f = true ∧ trdpReady s = true ∧ trdpFcs f.bytes 112 = true ∧ frcB s 0x1A200C 22 = true :=
  ⟨sgGets (regs (image r0) [(0x1A200C, 0x400000)]) message, message, by decide +kernel⟩

/-- States and operands that meet the hypotheses of each clause of `EthernetLinks`, part 1. -/
theorem witness_EthernetLinks_1 :
    (∃ (q : Requester) (p : Port) (data w : Word) (s : State), w = mergeWord (rd s (ethR p 0)) (putFld data 0 0 1) (ethCtrlMasks p) true (keyOk s q) ∧ portEn s p = false ∧ portBad (wr s (ethR p 0) w) p = false) ∧
    (∃ (q : Requester) (p : Port) (data w : Word) (s : State), w = mergeWord (rd s (ethR p 0)) (putFld data 0 0 1) (ethCtrlMasks p) true (keyOk s q) ∧ portEn s p = false ∧ portBad (wr s (ethR p 0) w) p = true) ∧
    (∃ (p : Port) (s : State), portEn s p = true) ∧
    (∃ (p : Port), p.val < 24) ∧
    (∃ (p : Port) (s : State), linkIs s p = true) ∧
    (∃ (p : Port) (v : BitVec 3) (s : State), portEn s p = true ∧ linkIs s p = false ∧ ready s 5 = true ∧ portClocked s p = true ∧ trainRuns s p = true ∧ getF s 0x7000C 1 0 < 2 ∧ (inBand (ethMode s p) = true → (port s p).halfAt = none) ∧ (modeSpeed (ethMode s p) v.toNat).isSome = true) ∧
    (∃ (p : Port) (s : State), (portEn s p = false ∨ ready s 5 = false ∨ portClocked s p = false ∨ trainRuns s p = false ∨ 2 ≤ getF s 0x7000C 1 0)) ∧
    (∃ (p : Port) (s : State), portEn s p = true ∧ linkIs s p = true ∧ ready s 5 = true ∧ portClocked s p = true ∧ trainRuns s p = true ∧ getF s 0x7000C 1 0 < 2) :=
  ⟨⟨.host, 3, 3, mergeWord (rd (regs r0 [(ethR 3 0x10, 1522)]) (ethR (3 : Port) 0)) (putFld (3 : Word) 0 0 1) (ethCtrlMasks (3 : Port)) true (keyOk (regs r0 [(ethR 3 0x10, 1522)]) .host), regs r0 [(ethR 3 0x10, 1522)], by decide +kernel⟩,
   ⟨.host, 3, 1, mergeWord (rd r0 (ethR (3 : Port) 0)) (putFld (1 : Word) 0 0 1) (ethCtrlMasks (3 : Port)) true (keyOk r0 .host), r0, by decide +kernel⟩,
   ⟨3, portUp r0 3, by decide +kernel⟩,
   ⟨3, by decide +kernel⟩,
   ⟨3, portUp r0 3, by decide +kernel⟩,
   ⟨3, 2, setLoop (setB (regs r0 [(ethR 3 0, 3)]) 0x14 5 true) 5 1, by decide +kernel⟩,
   ⟨3, regs r0 [(ethR 3 0, 1)], by decide +kernel⟩,
   ⟨3, setLoop (setB (portUp r0 3) 0x14 5 true) 5 1, by decide +kernel⟩⟩

/-- States and operands that meet the hypotheses of each clause of `EthernetLinks`, part 2. -/
theorem witness_EthernetLinks_2 :
    (∃ (p : Port) (s : State) (a : _), portEn s p = true ∧ linkIs s p = true ∧ a = (port s p).failAt.getD (ltNs s) ∧ ltNs s < a + linkHold s p * 1000000 ∧ halfOver s p = false) ∧
    (∃ (p : Port) (s : State), portEn s p = true ∧ linkIs s p = true ∧ (port s p).failAt.getD (ltNs s) + linkHold s p * 1000000 ≤ ltNs s) ∧
    (∃ (p : Port) (s : State), p.val < 24 ∧ egState s p = 1 ∧ graceOver s p = true) ∧
    (∃ (p : Port) (v : BitVec 3) (s : State), inBand (ethMode s p) = true ∧ v.toNat < 3) ∧
    (∃ (p : Port) (v : BitVec 3) (s : State), (inBand (ethMode s p) = false ∨ 2 < v.toNat)) ∧
    (∃ (p : Port) (s : State) (t0 : Nat), portEn s p = true ∧ (port s p).training = some t0 ∧ t0 + 500000000 ≤ ltNs s) ∧
    (∃ (p : Port) (s : State) (t0 : Nat), portEn s p = true ∧ (port s p).retry = some t0 ∧ t0 + 100000000 ≤ ltNs s) :=
  ⟨⟨3, setF (portUp r0 3) (ethR 3 0) 23 16 5, ((port (setF (portUp r0 3) (ethR 3 0) 23 16 5) (3 : Port)).failAt.getD (ltNs (setF (portUp r0 3) (ethR 3 0) 23 16 5))), by decide +kernel⟩,
   ⟨3, portUp r0 3, by decide +kernel⟩,
   ⟨3, setF (setPort (atNs r0 5000000) 3 { EthRt.init with grace := some 0, graceMs := 5 }) (swR 3 0xC) 21 20 1, by decide +kernel⟩,
   ⟨3, 2, regs r0 [(ethR 3 0, 9)], by decide +kernel⟩,
   ⟨3, 2, r0, by decide +kernel⟩,
   ⟨3, setPort (regs (atNs r0 500000000) [(ethR 3 0, 1)]) 3 { EthRt.init with training := some 0 }, 0, by decide +kernel⟩,
   ⟨3, setPort (regs (atNs r0 100000000) [(ethR 3 0, 1)]) 3 { EthRt.init with retry := some 0 }, 0, by decide +kernel⟩⟩

/-- States and operands that meet the hypotheses of each clause of `EthernetFrames`, part 1. -/
theorem witness_EthernetFrames_1 :
    (∃ (p : Port) (s : State), portState s p = 0) ∧
    (∃ (p : Port) (f : RxFrame) (s : State), portState s p ≠ 0 ∧ (rxCheck s p f).isSome = true) ∧
    (∃ (p : Port) (f : RxFrame) (s : State), portState s p ≠ 0 ∧ rxCheck s p f = none ∧ isPause f.bytes = true) ∧
    (∃ (p : Port) (f : RxFrame) (s : State), p.val < 24 ∧ portState s p ≠ 0 ∧ rxCheck s p f = none ∧ etherType f.bytes = 0x888E ∧ hasTag f.bytes = false ∧ pairOn s p = false ∧ msOn s p = false) ∧
    (∃ (p : Port) (f : RxFrame) (s : State), p.val < 24 ∧ portState s p = 3 ∧ rxCheck s p f = none ∧ etherType f.bytes ≠ 0x888E ∧ beAt f.bytes 12 2 ≠ 0x8808 ∧ pairOn s p = false ∧ msOn s p = false ∧ linkLocal f.bytes = false ∧ ptpGroup f.bytes = false ∧ getB s 0x180000 0 = false) ∧
    (∃ (p : Port) (f : RxFrame) (s a : State) (d : DecIn) (v : Verdict) (o pl : Nat), p.val < 24 ∧ portState s p = 3 ∧ rxCheck s p f = none ∧ etherType f.bytes ≠ 0x888E ∧ beAt f.bytes 12 2 ≠ 0x8808 ∧ pairOn s p = false ∧ msOn s p = false ∧ linkLocal f.bytes = false ∧ ptpGroup f.bytes = false ∧ getB s 0x180000 0 = true ∧ f.bytes.length ≤ 224 ∧ a = csumCount (add64 (add64 s (ethR p 0x100) 1) (ethR p 0x108) (f.bytes.length + 4)) p f.bytes ∧ pl = planeOf s p ∧ d = { q := p.val, phys := some p.val, comp := portOwner a p, tc := none, data := f.bytes } ∧ v = (decide1 a pl d).2 ∧ v.drop = false ∧ v.targets = [o] ∧ o < 24 ∧ v.sg = false ∧ v.copy = false ∧ pairOn s o = false ∧ egState s o ≠ 2 ∧ (egState s o = 1 ∨ getB s (swR o 0) 0 = false) ∧ cellsUse s < 131072 ∧ planeUse s pl + 1 ≤ getF s (0x180018 + 4 * pl) 17 0 ∧ qUse s o v.tc + 1 ≤ getF s (swR o (0x10 + 4 * v.tc)) 17 0 ∧ v.tc < 8 ∧ portUse s o + 1 ≤ getF s (swR o 8) 17 0) ∧
    (∃ (p : Port) (s : State), paused s p = false) ∧
    (∃ (p : Port) (s : State), paused s p = true) :=
  ⟨⟨3, r0, by decide +kernel⟩,
   ⟨3, { frame 0x9000 with codeErr := true }, portUp r0 3, by decide +kernel⟩,
   ⟨3, pauseFrame, portUp r0 3, by decide +kernel⟩,
   ⟨3, frame 0x888E, portUp r0 3, by decide +kernel⟩,
   ⟨3, frame 0x9000, regs (portUp r0 3) [(0x180000, 0)], by decide +kernel⟩,
   ⟨9, frame 0x9000, switching r0, csumCount (add64 (add64 (switching r0) (ethR (9 : Port) 0x100) 1) (ethR (9 : Port) 0x108) ((frame 0x9000).bytes.length + 4)) (9 : Port) (frame 0x9000).bytes, { q := (9 : Port).val, phys := some (9 : Port).val, comp := portOwner (csumCount (add64 (add64 (switching r0) (ethR (9 : Port) 0x100) 1) (ethR (9 : Port) 0x108) ((frame 0x9000).bytes.length + 4)) (9 : Port) (frame 0x9000).bytes) (9 : Port), tc := none, data := (frame 0x9000).bytes }, ((decide1 (csumCount (add64 (add64 (switching r0) (ethR (9 : Port) 0x100) 1) (ethR (9 : Port) 0x108) ((frame 0x9000).bytes.length + 4)) (9 : Port) (frame 0x9000).bytes) (planeOf (switching r0) (9 : Port)) ({ q := (9 : Port).val, phys := some (9 : Port).val, comp := portOwner (csumCount (add64 (add64 (switching r0) (ethR (9 : Port) 0x100) 1) (ethR (9 : Port) 0x108) ((frame 0x9000).bytes.length + 4)) (9 : Port) (frame 0x9000).bytes) (9 : Port), tc := none, data := (frame 0x9000).bytes })).2), 10, planeOf (switching r0) (9 : Port), by decide +kernel⟩,
   ⟨3, r0, by decide +kernel⟩,
   ⟨3, setPort r0 3 { EthRt.init with pause := some { start := 0, len := 5, quantum := 1 } }, by decide +kernel⟩⟩

/-- States and operands that meet the hypotheses of each clause of `EthernetFrames`, part 2. -/
theorem witness_EthernetFrames_2 :
    (∃ (p : Port) (s : State) (f : _), mayStart s p = true ∧ chooseFrame s p = some f ∧ maySend s p f = true ∧ (egressBytes (cbsStart s p) f p).2.isSome = true) ∧
    (∃ (p : Port) (s : State), ((port s p).tx).isSome = true) :=
  ⟨⟨10, queued r0, swFrame, by decide +kernel⟩,
   ⟨3, setPort r0 3 { EthRt.init with tx := some 7 }, by decide +kernel⟩⟩

/-- States and operands that meet the hypotheses of each clause of `SwitchCore`, part 1. -/
theorem witness_SwitchCore_1 :
    (∃ (q : Requester) (s : State), keyOk s q = true ∧ getB s 0x180000 0 = false ∧ swBad s = false) ∧
    (∃ (q : Requester) (s : State), keyOk s q = true ∧ getB s 0x180000 0 = false ∧ swBad s = true) ∧
    (∃ (q : Requester) (s : State), keyOk s q = true ∧ getB s 0x180000 0 = true) ∧
    (∃ (pl : Plane) (s : State) (r : LearnReq) (l : List LearnReq) (k : Nat), k = planeNo pl ∧ s.relocs = [] ∧ (if k = 0 then s.fwd.learnA else s.fwd.learnB) = r :: l ∧ hashFind s (0x10 + k) eftKb (eftKey r.fid r.mac) = none ∧ (hashFree s (0x10 + k) (eftKey r.fid r.mac)).isSome = true) ∧
    (∃ (pl : Plane) (s : State) (r : LearnReq) (l : List LearnReq) (k : Nat), k = planeNo pl ∧ s.relocs = [] ∧ (if k = 0 then s.fwd.learnA else s.fwd.learnB) = r :: l ∧ hashFind s (0x10 + k) eftKb (eftKey r.fid r.mac) = none ∧ (relocWay s (0x10 + k) eftKb (eftKey r.fid r.mac)).isSome = true) ∧
    (∃ (pl : Plane) (s : State) (r : LearnReq) (l : List LearnReq) (k : Nat) (i : _), k = planeNo pl ∧ s.relocs = [] ∧ (if k = 0 then s.fwd.learnA else s.fwd.learnB) = r :: l ∧ hashFind s (0x10 + k) eftKb (eftKey r.fid r.mac) = some i ∧ efStatic (tGet s (0x10 + k) i) = true) ∧
    (∃ (pl : Plane) (s : State) (r : LearnReq) (l : List LearnReq) (k : Nat) (i : _), k = planeNo pl ∧ s.relocs = [] ∧ (if k = 0 then s.fwd.learnA else s.fwd.learnB) = r :: l ∧ hashFind s (0x10 + k) eftKb (eftKey r.fid r.mac) = some i ∧ efStatic (tGet s (0x10 + k) i) = false ∧ efPort (tGet s (0x10 + k) i) = r.port) ∧
    (∃ (pl : Plane) (s : State) (r : LearnReq) (l : List LearnReq) (k : Nat) (i : _), k = planeNo pl ∧ s.relocs = [] ∧ (if k = 0 then s.fwd.learnA else s.fwd.learnB) = r :: l ∧ hashFind s (0x10 + k) eftKb (eftKey r.fid r.mac) = some i ∧ efStatic (tGet s (0x10 + k) i) = false ∧ efPort (tGet s (0x10 + k) i) ≠ r.port) :=
  ⟨⟨.host, setArmed (regs r0 [(0x180014, 1)]) .host true, by decide +kernel⟩,
   ⟨.host, setArmed (regs r0 [(0x180014, 0)]) .host true, by decide +kernel⟩,
   ⟨.host, setArmed (portUp r0 3) .host true, by decide +kernel⟩,
   ⟨.a, learnOne r0 { fid := 5, mac := 7, port := 9, comp := 0 }, { fid := 5, mac := 7, port := 9, comp := 0 }, [], planeNo .a, by decide +kernel⟩,
   ⟨.a, learnOne (full r0 0x10 (eftKey 5 7) [0x90051, 9, 0, 0]) { fid := 5, mac := 7, port := 9, comp := 0 }, { fid := 5, mac := 7, port := 9, comp := 0 }, [], planeNo .a, by decide +kernel⟩,
   ⟨.a, learnOne (tab r0 0x10 [(32224, [0x50093, 0, 0x700])]) { fid := 5, mac := 7, port := 9, comp := 0 }, { fid := 5, mac := 7, port := 9, comp := 0 }, [], planeNo .a, 32224, by decide +kernel⟩,
   ⟨.a, learnOne (tab r0 0x10 [(32224, [0x50091, 0, 0x700])]) { fid := 5, mac := 7, port := 9, comp := 0 }, { fid := 5, mac := 7, port := 9, comp := 0 }, [], planeNo .a, 32224, by decide +kernel⟩,
   ⟨.a, learnOne (tab r0 0x10 [(32224, [0x500A1, 0, 0x700])]) { fid := 5, mac := 7, port := 9, comp := 0 }, { fid := 5, mac := 7, port := 9, comp := 0 }, [], planeNo .a, 32224, by decide +kernel⟩⟩

/-- States and operands that meet the hypotheses of each clause of `SwitchCore`, part 2. -/
theorem witness_SwitchCore_2 :
    (∃ (pl : Plane) (s : State) (k : Nat), k = planeNo pl ∧ s.relocs = [] ∧ getF s 0x18200C (16 * k + 15) (16 * k) ≠ 0) ∧
    (∃ (s : State) (c i : Nat), getB s 0x182008 10 = true ∧ c = max 0x10 (getF s 0x182024 7 0) ∧ i = getF s 0x182024 27 8 ∧ s.fwd.noCompare.contains (tKey c i) = false ∧ shadowForm c (tGet s c i) = shGet s c i) ∧
    (∃ (s : State) (c i : Nat), getB s 0x182008 10 = true ∧ c = max 0x10 (getF s 0x182024 7 0) ∧ i = getF s 0x182024 27 8 ∧ s.fwd.noCompare.contains (tKey c i) = false ∧ shadowForm c (tGet s c i) ≠ shGet s c i ∧ (c ≤ 0x11 → shGet s c i = 0 → learned (tGet s c i) = false ∧ eValid (tGet s c i) = true)) ∧
    (∃ (p : Port) (data : Word), 8 ≤ p.val ∧ p.val < 24 ∧ fld data 1 0 ≠ 3) ∧
    (∃ (p : Port) (data : Word), 8 ≤ p.val ∧ p.val < 24 ∧ fld data 1 0 = 3) ∧
    (∃ (p : Port), (p.val < 8 ∨ p.val = 24)) :=
  ⟨⟨.a, regs r0 [(0x18200C, 5)], planeNo .a, by decide +kernel⟩,
   ⟨regs r0 [(0x182008, 0x400)], max 0x10 (getF (regs r0 [(0x182008, 0x400)]) 0x182024 7 0), getF (regs r0 [(0x182008, 0x400)]) 0x182024 27 8, by decide +kernel⟩,
   ⟨regs (tab r0 0x12 [(1, [5, 0x600])]) [(0x182008, 0x400), (0x182024, 0x112)], max 0x10 (getF (regs (tab r0 0x12 [(1, [5, 0x600])]) [(0x182008, 0x400), (0x182024, 0x112)]) 0x182024 7 0), getF (regs (tab r0 0x12 [(1, [5, 0x600])]) [(0x182008, 0x400), (0x182024, 0x112)]) 0x182024 27 8, by decide +kernel⟩,
   ⟨9, 1, by decide +kernel⟩,
   ⟨9, 3, by decide +kernel⟩,
   ⟨24, by decide +kernel⟩⟩

/-- States and operands that meet the hypotheses of each clause of `SwitchCommands`. -/
theorem witness_SwitchCommands :
    (∃ (m : Mbx) (s : State) (x : MbxReq) (c : Nat) (p : _), c = leAt x.hdr 4 1 ∧ Asks s m 0x0401 x ∧ leAt x.hdr 6 2 = 4 ∧ p = leAt x.fields 0 1 ∧ p ≤ 24 ∧ mayAct c (portOwner s p) = true) ∧
    (∃ (m : Mbx) (s : State) (x : MbxReq) (c : Nat) (p : _), c = leAt x.hdr 4 1 ∧ Asks s m 0x0402 x ∧ leAt x.hdr 6 2 = 4 ∧ p = leAt x.fields 0 1 ∧ p ≤ 24 ∧ leAt x.fields 1 1 ≤ 1 ∧ mayAct c (portOwner s p) = true) ∧
    (∃ (m : Mbx) (s : State) (x : MbxReq) (c : Nat), c = leAt x.hdr 4 1 ∧ Asks s m 0x0403 x ∧ leAt x.hdr 6 2 = 8 ∧ c = 0 ∧ leAt x.fields 0 1 ≤ 3 ∧ leAt x.fields 1 1 ≤ 31 ∧ leAt x.fields 2 1 ≤ 31) ∧
    (∃ (m : Mbx) (s : State) (x : MbxReq) (c : Nat), c = leAt x.hdr 4 1 ∧ Asks s m 0x0404 x ∧ leAt x.hdr 6 2 = 0 ∧ c = 0) ∧
    (∃ (m : Mbx) (s : State) (x : MbxReq) (c : Nat) (q k : _), c = leAt x.hdr 4 1 ∧ Asks s m 0x0405 x ∧ leAt x.hdr 6 2 = 4 ∧ q = leAt x.fields 0 1 ∧ k = leAt x.fields 1 1 ∧ getB s 0x180000 0 = true ∧ q ≤ 26 ∧ q ≠ 24 ∧ k ≠ 0 ∧ (c = 0 ∨ q < 24 ∧ mayAct c (portOwner s q) = true)) ∧
    (∃ (m : Mbx) (s : State) (x : MbxReq) (c : Nat) (tab i : _), c = leAt x.hdr 4 1 ∧ Asks s m 0x0406 x ∧ 8 ≤ leAt x.hdr 6 2 ∧ leAt x.hdr 6 2 ≤ 264 ∧ c = 0 ∧ tab = leAt x.fields 0 1 ∧ leAt x.fields 1 1 = 1 ∧ leAt x.fields 2 1 = 0 ∧ i = leAt x.fields 4 4 ∧ tab ∈ readTabs ∧ i < tCount tab ∧ budMode s ≠ 2 ∧ s.relocs = []) ∧
    (∃ (m : Mbx) (s : State) (x : MbxReq), Asks s m 0x0406 x ∧ 8 ≤ leAt x.hdr 6 2 ∧ leAt x.hdr 6 2 ≤ 264 ∧ tblKnown (leAt x.fields 0 1) = true ∧ leAt x.fields 1 1 = 4 ∧ leAt x.fields 2 1 = 0 ∧ s.relocs = [] ∧ (mbxReloc s (reqOf m false x) (padTo 256 (slice x.fields 8 (leAt x.hdr 6 2 - 8)))).isSome = true) ∧
    (∃ (m : Mbx) (s : State) (x : MbxReq) (c : Nat) (q v : _), c = leAt x.hdr 4 1 ∧ Asks s m 0x0407 x ∧ leAt x.hdr 6 2 = 4 ∧ q = leAt x.fields 0 1 ∧ v = leAt x.fields 1 1 ∧ 8 ≤ q ∧ q ≤ 23 ∧ v ≤ 1 ∧ mayAct c (portOwner s q) = true ∧ getF s (fwdR q 4) 1 0 = 2) :=
  ⟨⟨0, asks (r0) 0 (req 0x0401 0 [24, 0, 0, 0]), req 0x0401 0 [24, 0, 0, 0], leAt (req 0x0401 0 [24, 0, 0, 0]).hdr 4 1, leAt (req 0x0401 0 [24, 0, 0, 0]).fields 0 1, by unfold Asks; decide +kernel⟩,
   ⟨0, asks (r0) 0 (req 0x0402 0 [3, 1, 0, 0]), req 0x0402 0 [3, 1, 0, 0], leAt (req 0x0402 0 [3, 1, 0, 0]).hdr 4 1, leAt (req 0x0402 0 [3, 1, 0, 0]).fields 0 1, by unfold Asks; decide +kernel⟩,
   ⟨0, asks (r0) 0 (req 0x0403 0 [0, 1, 2, 0, 0, 0, 0, 0]), req 0x0403 0 [0, 1, 2, 0, 0, 0, 0, 0], leAt (req 0x0403 0 [0, 1, 2, 0, 0, 0, 0, 0]).hdr 4 1, by unfold Asks; decide +kernel⟩,
   ⟨0, asks (r0) 0 (req 0x0404 0 []), req 0x0404 0 [], leAt (req 0x0404 0 []).hdr 4 1, by unfold Asks; decide +kernel⟩,
   ⟨0, asks (portUp r0 3) 0 (req 0x0405 0 [3, 1, 0, 0]), req 0x0405 0 [3, 1, 0, 0], leAt (req 0x0405 0 [3, 1, 0, 0]).hdr 4 1, leAt (req 0x0405 0 [3, 1, 0, 0]).fields 0 1, leAt (req 0x0405 0 [3, 1, 0, 0]).fields 1 1, by unfold Asks; decide +kernel⟩,
   ⟨0, asks (r0) 0 (req 0x0406 0 ([4, 1, 0, 0] ++ leBytes 4 5)), req 0x0406 0 ([4, 1, 0, 0] ++ leBytes 4 5), leAt (req 0x0406 0 ([4, 1, 0, 0] ++ leBytes 4 5)).hdr 4 1, leAt (req 0x0406 0 ([4, 1, 0, 0] ++ leBytes 4 5)).fields 0 1, leAt (req 0x0406 0 ([4, 1, 0, 0] ++ leBytes 4 5)).fields 4 4, by unfold Asks; decide +kernel⟩,
   ⟨0, asks (full r0 3 (ximKb (ent [0x201, 3])) [0x401, 0x103]) 0 (req 0x0406 0 ([3, 4, 0, 0] ++ leBytes 4 0 ++ leBytes 4 0x201 ++ leBytes 4 3)), req 0x0406 0 ([3, 4, 0, 0] ++ leBytes 4 0 ++ leBytes 4 0x201 ++ leBytes 4 3), by unfold Asks; decide +kernel⟩,
   ⟨0, asks (regs r0 [(fwdR 9 4, 2)]) 0 (req 0x0407 0 [9, 1, 0, 0]), req 0x0407 0 [9, 1, 0, 0], leAt (req 0x0407 0 [9, 1, 0, 0]).hdr 4 1, leAt (req 0x0407 0 [9, 1, 0, 0]).fields 0 1, leAt (req 0x0407 0 [9, 1, 0, 0]).fields 1 1, by unfold Asks; decide +kernel⟩⟩

/-- States and operands that meet the hypotheses of each clause of `LocalTime`. -/
theorem witness_LocalTime :
    (∃ (q : Requester) (s : State), isServo s q = true ∧ timeMode s ≠ 3) ∧
    (∃ (q : Requester) (s : State), (isServo s q = false ∨ timeMode s = 3)) ∧
    (∃ (q : Requester) (s : State), isServo s q = false) ∧
    (∃ (q : Requester) (s : State), isServo s q = true ∧ getB s 0x6000C 2 = false) ∧
    (∃ (d : Fin 2) (s : State), timeSel s = d.val ∧ tracking s d = false ∧ getB s 0x60008 1 = false ∧ (timeMode s = 1 ∨ timeMode s = 2)) ∧
    (∃ (d : Fin 2) (s : State), timeSel s = d.val ∧ tracking s d = false ∧ getB s 0x60008 1 = false ∧ timeMode s = 3 ∧ holdOver s = true) ∧
    (∃ (q : Requester) (s : State), isServo s q = true ∧ getB s 0x6000C 2 = true) :=
  ⟨⟨.supervisor, r0, by decide +kernel⟩,
   ⟨.host, r0, by decide +kernel⟩,
   ⟨.host, r0, by decide +kernel⟩,
   ⟨.supervisor, setB r0 0x6000C 2 false, by decide +kernel⟩,
   ⟨0, setF r0 0x6000C 1 0 1, by decide +kernel⟩,
   ⟨0, setF (regs (atNs r0 1000000000) [(0x6003C, 0x4000)]) 0x6000C 1 0 3, by decide +kernel⟩,
   ⟨.supervisor, setB r0 0x6000C 2 true, by decide +kernel⟩⟩

/-- States and operands that meet the hypotheses of each clause of `TimedEvents`, part 1. -/
theorem witness_TimedEvents_1 :
    (∃ (q : Requester) (l : Fin 16) (data w : Word) (s : State) (m : Nat), m = fld data 2 0 ∧ w = mergeWord (rd s (teR l 0)) (putFld data 2 0 0) { rw := 0, rwd := 0xFFFF8, rwk := 0, w1c := 0, kwo := 0 } true (keyOk s q) ∧ teMode s l = 0 ∧ 1 ≤ m ∧ m ≤ 4 ∧ teBad (wr s (teR l 0) w) l m = false) ∧
    (∃ (q : Requester) (l : Fin 16) (data w : Word) (s : State) (m : Nat), m = fld data 2 0 ∧ w = mergeWord (rd s (teR l 0)) (putFld data 2 0 0) { rw := 0, rwd := 0xFFFF8, rwk := 0, w1c := 0, kwo := 0 } true (keyOk s q) ∧ teMode s l = 0 ∧ 1 ≤ m ∧ m ≤ 4 ∧ teBad (wr s (teR l 0) w) l m = true) ∧
    (∃ (q : Requester) (l : Fin 16) (data : Word) (s : State) (m : Nat), m = fld data 2 0 ∧ teMode s l ≠ 0 ∧ q ≠ .loader ∧ m = 0) ∧
    (∃ (q : Requester) (l : Fin 16) (data : Word) (s : State) (m : Nat), m = fld data 2 0 ∧ teMode s l ≠ 0 ∧ q ≠ .loader ∧ 1 ≤ m ∧ m ≤ 4 ∧ m ≠ teMode s l) ∧
    (∃ (l : Fin 16) (s : State), powerState s < 2 ∧ teDrives s l = true ∧ (teDue s l).isSome = true) ∧
    (∃ (l : Fin 16) (s : State), powerState s < 2 ∧ (teAt s l).active = true ∧ teInside s l (ltNs s) = false) ∧
    (∃ (l : Fin 16) (s : State) (rise : Bool), powerState s < 2 ∧ nbit (teEdge s l) (if rise then 0 else 1) = true ∧ (teMode s l = 1 ∨ teMode s l = 2) ∧ (∀ c, (teAt s l).cand = some c → c.1 ≠ rise) ∧ teFilt s l ≠ 0) ∧
    (∃ (l : Fin 16) (s : State) (rise : Bool) (c : _), powerState s < 2 ∧ (teMode s l = 1 ∨ teMode s l = 2) ∧ (teAt s l).cand = some c ∧ c.1 ≠ rise ∧ nbit (teEdge s l) (if rise then 0 else 1) = false) :=
  ⟨⟨.host, 1, 9, mergeWord (rd r0 (teR (1 : Fin 16) 0)) (putFld (9 : Word) 2 0 0) { rw := 0, rwd := 0xFFFF8, rwk := 0, w1c := 0, kwo := 0 } true (keyOk r0 .host), r0, fld (9 : Word) 2 0, by decide +kernel⟩,
   ⟨.host, 1, 4, mergeWord (rd r0 (teR (1 : Fin 16) 0)) (putFld (4 : Word) 2 0 0) { rw := 0, rwd := 0xFFFF8, rwk := 0, w1c := 0, kwo := 0 } true (keyOk r0 .host), r0, fld (4 : Word) 2 0, by decide +kernel⟩,
   ⟨.host, 1, 0, regs r0 [(teR 1 0, 9)], fld (0 : Word) 2 0, by decide +kernel⟩,
   ⟨.host, 1, 2, regs r0 [(teR 1 0, 9)], fld (2 : Word) 2 0, by decide +kernel⟩,
   ⟨1, teLine (regs (atNs r0 5) [(teR 1 0, 3), (teR 1 0x14, 100)]) 1 { TeRt.init with done := 0 }, by decide +kernel⟩,
   ⟨1, teLine (regs (atNs r0 100) [(teR 1 0, 3), (teR 1 0x14, 100)]) 1 { TeRt.init with active := true }, by decide +kernel⟩,
   ⟨1, teLine (regs (r0) [(teR 1 0, 0x519), (teR 1 0x14, 100)]) 1 { TeRt.init with fifo := [] }, true, by decide +kernel⟩,
   ⟨1, teLine (regs (r0) [(teR 1 0, 0x509), (teR 1 0x14, 100)]) 1 { TeRt.init with cand := some (true, 5, 5) }, false, (true, 5, 5), by decide +kernel⟩⟩

/-- States and operands that meet the hypotheses of each clause of `TimedEvents`, part 2. -/
theorem witness_TimedEvents_2 :
    (∃ (l : Fin 16) (s : State) (rise : Bool), powerState s < 2 ∧ nbit (teEdge s l) (if rise then 0 else 1) = true ∧ (teAt s l).cand = none ∧ teFilt s l = 0 ∧ (teMode s l = 1 ∨ teMode s l = 2 ∧ teGate s l (ltNs s) = true) ∧ (teAt s l).fifo.length < 8) ∧
    (∃ (l : Fin 16) (s : State) (rise : Bool), powerState s < 2 ∧ nbit (teEdge s l) (if rise then 0 else 1) = true ∧ (teAt s l).cand = none ∧ teFilt s l = 0 ∧ (teMode s l = 1 ∨ teMode s l = 2 ∧ teGate s l (ltNs s) = true) ∧ 8 ≤ (teAt s l).fifo.length) ∧
    (∃ (l : Fin 16) (s : State) (rise : Bool), powerState s < 2 ∧ nbit (teEdge s l) (if rise then 0 else 1) = true ∧ (teAt s l).cand = none ∧ teFilt s l = 0 ∧ teMode s l = 2 ∧ teGate s l (ltNs s) = false) ∧
    (∃ (l : Fin 16) (s : State), powerState s < 2 ∧ ((teAt s l).fifo).isEmpty = false) ∧
    (∃ (l : Fin 16) (s : State), powerState s < 2 ∧ (teAt s l).fifo = []) :=
  ⟨⟨1, teLine (regs (r0) [(teR 1 0, 0x19), (teR 1 0x14, 100)]) 1 { TeRt.init with fifo := [] }, true, by decide +kernel⟩,
   ⟨1, teLine (regs (r0) [(teR 1 0, 0x19), (teR 1 0x14, 100)]) 1 { TeRt.init with fifo := List.replicate 8 (5, true) }, true, by decide +kernel⟩,
   ⟨1, teLine (regs (atNs r0 100) [(teR 1 0, 0x1A), (teR 1 0x14, 100)]) 1 { TeRt.init with fifo := [] }, true, by decide +kernel⟩,
   ⟨1, teLine (regs (r0) [(teR 1 0, 0x19), (teR 1 0x14, 100)]) 1 { TeRt.init with fifo := [(5, true)] }, by decide +kernel⟩,
   ⟨1, r0, by decide +kernel⟩⟩

/-- States and operands that meet the hypotheses of each clause of `TimeAndKeyCommands`, part 1. -/
theorem witness_TimeAndKeyCommands_1 :
    (∃ (m : Mbx) (s : State) (x : MbxReq), Asks s m 0x0501 x ∧ leAt x.hdr 6 2 = 0) ∧
    (∃ (m : Mbx) (s : State) (x : MbxReq) (d : _), Asks s m 0x0502 x ∧ leAt x.hdr 6 2 = 4 ∧ leAt x.hdr 4 1 = 0 ∧ d = leAt x.fields 0 1 ∧ d ≤ 1 ∧ tracking s d = true ∧ getB s 0x6000C 2 = false) ∧
    (∃ (m : Mbx) (s : State) (x : MbxReq), Asks s m 0x0503 x ∧ leAt x.hdr 6 2 = 0 ∧ leAt x.hdr 4 1 = 0) ∧
    (∃ (m : Mbx) (s : State) (x : MbxReq) (n : _), Asks s m 0x0504 x ∧ leAt x.hdr 6 2 = 28 ∧ leAt x.hdr 4 1 = 0 ∧ n = leAt x.fields 0 1 ∧ n ≤ 15 ∧ leAt x.fields 4 4 % 8 ≤ 4 ∧ (teSetOp s n (teWords (reqOf m false x))).2 = true) ∧
    (∃ (m : Mbx) (s : State) (x : MbxReq) (n : _), Asks s m 0x0504 x ∧ leAt x.hdr 6 2 = 28 ∧ leAt x.hdr 4 1 = 0 ∧ n = leAt x.fields 0 1 ∧ n ≤ 15 ∧ (teSetOp s n (teWords (reqOf m false x))).2 = false) ∧
    (∃ (m : Mbx) (s : State) (x : MbxReq) (k : Nat), k = leAt x.fields 0 2 ∧ k ≤ 1023 ∧ mayAct (leAt x.hdr 4 1) (slotOwner s k) = true ∧ Asks s m 0x0601 x ∧ keyReady s = true ∧ leAt x.fields 2 1 = 2 ∧ leAt x.fields 8 1 ≤ 1 ∧ leAt x.hdr 6 2 = 12 + 16 * (leAt x.fields 8 1 + 1) ∧ leAt x.fields 6 2 ≤ 511 ∧ getB s 0x90008 0 = true) ∧
    (∃ (m : Mbx) (s : State) (x : MbxReq) (k : Nat), k = leAt x.fields 0 2 ∧ k ≤ 1023 ∧ mayAct (leAt x.hdr 4 1) (slotOwner s k) = true ∧ Asks s m 0x0601 x ∧ keyReady s = true ∧ leAt x.fields 2 1 < 2 ∧ (leAt x.fields 2 1 = 0 → rootOk s = true) ∧ (leAt x.fields 2 1 = 1 → leAt x.fields 4 2 ≤ 1023) ∧ (leAt x.hdr 6 2 = 44 ∨ leAt x.hdr 6 2 = 60) ∧ (loadKek s (reqOf m false x)).isSome = true) ∧
    (∃ (m : Mbx) (s : State) (x : MbxReq) (k : Nat), k = leAt x.fields 0 2 ∧ k ≤ 1023 ∧ mayAct (leAt x.hdr 4 1) (slotOwner s k) = true ∧ Asks s m 0x0602 x ∧ keyReady s = true ∧ leAt x.hdr 6 2 = 8 ∧ ((keyAt s k).pend).isSome = true) :=
  ⟨⟨0, asks (r0) 0 (req 0x0501 0 []), req 0x0501 0 [], by unfold Asks; decide +kernel⟩,
   ⟨0, asks ({ regs r0 [(0x6000C, 0), (tdR 0 0x10, 1)] with time := { r0.time with td0 := { r0.time.td0 with upd := some 0, loss := 5 } } }) 0 (req 0x0502 0 [0, 0, 0, 0]), req 0x0502 0 [0, 0, 0, 0], leAt (req 0x0502 0 [0, 0, 0, 0]).fields 0 1, by unfold Asks; decide +kernel⟩,
   ⟨0, asks (r0) 0 (req 0x0503 0 []), req 0x0503 0 [], by unfold Asks; decide +kernel⟩,
   ⟨0, asks (r0) 0 (req 0x0504 0 ([1, 0, 0, 0] ++ leBytes 4 0x19 ++ List.replicate 20 0)), req 0x0504 0 ([1, 0, 0, 0] ++ leBytes 4 0x19 ++ List.replicate 20 0), leAt (req 0x0504 0 ([1, 0, 0, 0] ++ leBytes 4 0x19 ++ List.replicate 20 0)).fields 0 1, by unfold Asks; decide +kernel⟩,
   ⟨0, asks (r0) 0 (req 0x0504 0 ([1, 0, 0, 0] ++ leBytes 4 0x1F ++ List.replicate 20 0)), req 0x0504 0 ([1, 0, 0, 0] ++ leBytes 4 0x1F ++ List.replicate 20 0), leAt (req 0x0504 0 ([1, 0, 0, 0] ++ leBytes 4 0x1F ++ List.replicate 20 0)).fields 0 1, by unfold Asks; decide +kernel⟩,
   ⟨0, asks (regs r0 [(0x90010, 1), (0x90008, 1)]) 0 (req 0x0601 0 ([5, 0, 2, 0, 0, 0, 7, 0, 0, 0, 0, 0] ++ List.replicate 16 1)), req 0x0601 0 ([5, 0, 2, 0, 0, 0, 7, 0, 0, 0, 0, 0] ++ List.replicate 16 1), leAt (req 0x0601 0 ([5, 0, 2, 0, 0, 0, 7, 0, 0, 0, 0, 0] ++ List.replicate 16 1)).fields 0 2, by unfold Asks; decide +kernel⟩,
   ⟨0, asks (keyed r0) 0 (req 0x0601 0 ([5, 0, 1, 0, 6, 0, 0, 0, 0, 0, 0, 0] ++ List.replicate 32 1)), req 0x0601 0 ([5, 0, 1, 0, 6, 0, 0, 0, 0, 0, 0, 0] ++ List.replicate 32 1), leAt (req 0x0601 0 ([5, 0, 1, 0, 6, 0, 0, 0, 0, 0, 0, 0] ++ List.replicate 32 1)).fields 0 2, by unfold Asks; decide +kernel⟩,
   ⟨0, asks (keyed r0) 0 (req 0x0602 0 [6, 0, 0, 0, 1, 2, 3, 4]), req 0x0602 0 [6, 0, 0, 0, 1, 2, 3, 4], leAt (req 0x0602 0 [6, 0, 0, 0, 1, 2, 3, 4]).fields 0 2, by unfold Asks; decide +kernel⟩⟩

/-- States and operands that meet the hypotheses of each clause of `TimeAndKeyCommands`, part 2. -/
theorem witness_TimeAndKeyCommands_2 :
    (∃ (m : Mbx) (s : State) (x : MbxReq) (k : Nat), k = leAt x.fields 0 2 ∧ k ≤ 1023 ∧ mayAct (leAt x.hdr 4 1) (slotOwner s k) = true ∧ Asks s m 0x0603 x ∧ keyReady s = true ∧ leAt x.hdr 6 2 = 4) ∧
    (∃ (m : Mbx) (s : State) (x : MbxReq) (k : Nat), k = leAt x.fields 0 2 ∧ k ≤ 1023 ∧ mayAct (leAt x.hdr 4 1) (slotOwner s k) = true ∧ Asks s m 0x0604 x ∧ leAt x.hdr 6 2 = 4) ∧
    (∃ (m : Mbx) (s : State) (x : MbxReq) (k : Nat), k = leAt x.fields 0 2 ∧ k ≤ 1023 ∧ mayAct (leAt x.hdr 4 1) (slotOwner s k) = true ∧ Asks s m 0x0605 x ∧ keyReady s = true ∧ leAt x.hdr 6 2 = 0 ∧ leAt x.hdr 4 1 = 0 ∧ s.otp.enrolled = false) :=
  ⟨⟨0, asks (keyed r0) 0 (req 0x0603 0 [6, 0, 0, 0]), req 0x0603 0 [6, 0, 0, 0], leAt (req 0x0603 0 [6, 0, 0, 0]).fields 0 2, by unfold Asks; decide +kernel⟩,
   ⟨0, asks (r0) 0 (req 0x0604 0 [6, 0, 0, 0]), req 0x0604 0 [6, 0, 0, 0], leAt (req 0x0604 0 [6, 0, 0, 0]).fields 0 2, by unfold Asks; decide +kernel⟩,
   ⟨0, asks (regs r0 [(0x90010, 1), (0x90008, 1)]) 0 (req 0x0605 0 []), req 0x0605 0 [], leAt (req 0x0605 0 []).fields 0 2, by unfold Asks; decide +kernel⟩⟩

/-- States and operands that meet the hypotheses of each clause of `CipherJobs`, part 1. -/
theorem witness_CipherJobs_1 :
    (∃ (c : Page) (s : State), pageUsed s c = true ∧ jobHeld s c < 16) ∧
    (∃ (c : Page) (s : State), pageUsed s c = true ∧ 16 ≤ jobHeld s c) ∧
    (∃ (c : Page) (s : State), pageUsed s c = false) ∧
    (∃ (c : Page) (s : State), pageUsed s c = true ∧ ((jobPage s c).done).isEmpty = false) ∧
    (∃ (c : Page) (s : State), pageUsed s c = true ∧ (jobPage s c).done = []) ∧
    (∃ (c : Page) (s : State) (j : List Word) (l : List (List Word)), (jobPage s c).jobs = j :: l ∧ jobCheck s c j ≠ 0) ∧
    (∃ (c : Page) (s : State) (j : List Word) (l : List (List Word)), (jobPage s c).jobs = j :: l ∧ jobCheck s c j = 0 ∧ ([0, 1, 2, 3].any (guardDouble s)) = false) ∧
    (∃ (e : Fin 13) (s : State), e.val < 4 ∧ getF s 0x7000C 1 0 < 2 ∧ (engineJob s e).isSome = true) :=
  ⟨⟨0, r0, by decide +kernel⟩,
   ⟨0, setJobPage r0 0 { jobs := [], done := List.replicate 16 7 }, by decide +kernel⟩,
   ⟨1, r0, by decide +kernel⟩,
   ⟨0, setJobPage r0 0 { jobs := [], done := [7] }, by decide +kernel⟩,
   ⟨0, r0, by decide +kernel⟩,
   ⟨0, job r0 (jobOf 6 16 4), jobOf 6 16 4, [], by decide +kernel⟩,
   ⟨0, job r0 (jobOf 0 16 4), jobOf 0 16 4, [], by decide +kernel⟩,
   ⟨0, job r0 (jobOf 0 16 4), by decide +kernel⟩⟩

/-- States and operands that meet the hypotheses of each clause of `CipherJobs`, part 2. -/
theorem witness_CipherJobs_2 :
    (∃ (e : Fin 13) (busy : BitVec 9) (s : State), 4 ≤ e.val ∧ getF s 0x7000C 1 0 < 2 ∧ busy.getLsbD (e - 4) = true) ∧
    (∃ (e : Fin 13) (busy : BitVec 9) (s : State), getF s 0x7000C 1 0 < 2 ∧ (if e.val < 4 then engineJob s e = none else busy.getLsbD (e - 4) = false)) ∧
    (∃ (s : State), 2 ≤ getF s 0x7000C 1 0) :=
  ⟨⟨4, 1, r0, by decide +kernel⟩,
   ⟨4, 0, r0, by decide +kernel⟩,
   ⟨setF (r0) 0x7000C 1 0 2, by decide +kernel⟩⟩

/-- States and operands that meet the hypotheses of each clause of `KeyStoreAndTamper`, part 1. -/
theorem witness_KeyStoreAndTamper_1 :
    (∃ (s : State), getF s 0x90010 1 0 = 0 ∧ 2 ≤ s.boot.stage ∧ s.boot.rescue = false ∧ flashWaits s = false) ∧
    (∃ (s : State), (getF s 0x90010 1 0 ≠ 0 ∨ s.boot.stage < 2 ∨ s.boot.rescue = true ∨ flashWaits s = true)) ∧
    (∃ (i : Instr) (s : State) (b : Nat) (also : BitVec 5) (busy : BitVec 9), ((∃ p : Fin 2, i = .tamperPinTrip p true also busy ∧ b = 3 + p.val ∧ nbit (tamperSources s) p = true) ∨ (∃ k : Fin 3, i = .sensorTrip k true also busy ∧ b = k.val ∧ nbit (tamperSources s) (2 + k) = true)) ∧ inSleep s = false) ∧
    (∃ (i : Instr) (s : State) (b : Nat) (also : BitVec 5) (busy : BitVec 9), ((∃ p : Fin 2, i = .tamperPinTrip p true also busy ∧ b = 3 + p.val ∧ nbit (tamperSources s) p = true) ∨ (∃ k : Fin 3, i = .sensorTrip k true also busy ∧ b = k.val ∧ nbit (tamperSources s) (2 + k) = true)) ∧ inSleep s = true) ∧
    (∃ (p : Fin 2) (low : Bool) (s : State), (nbit (tamperSources s) p = false ∨ low = false)) ∧
    (∃ (k : Fin 3) (s : State), nbit (tamperSources s) (2 + k) = false ∧ powerState s < 2) ∧
    (∃ (k : Fin 3) (busy : BitVec 9) (s : State), nbit (tamperSources s) (2 + k) = false ∧ powerState s < 2 ∧ busy = 0 ∧ (∀ e, e < 4 → engineJob s e = none)) ∧
    (∃ (s : State), inSleep s = false) :=
  ⟨⟨stage r0 2, by decide +kernel⟩,
   ⟨regs r0 [(0x90010, 1)], by decide +kernel⟩,
   ⟨.tamperPinTrip 1 true 0 0, regs r0 [(0x90014, 2)], 4, 0, 0, (by and_intros <;> first | exact .inl ⟨1, by decide +kernel⟩ | decide +kernel)⟩,
   ⟨.sensorTrip 2 true 0 0, { (setF (r0) 0x7000C 1 0 3) with sec := { r0.sec with sleepCfg := 0x200 } }, 2, 0, 0, (by and_intros <;> first | exact .inr ⟨2, by decide +kernel⟩ | decide +kernel)⟩,
   ⟨1, true, r0, by decide +kernel⟩,
   ⟨1, r0, by decide +kernel⟩,
   ⟨1, 0, r0, (by and_intros <;> first | (exact fun e h => by obtain h | h | h | h : e = 0 ∨ e = 1 ∨ e = 2 ∨ e = 3 := (by omega) <;> subst h <;> decide +kernel) | decide +kernel)⟩,
   ⟨r0, by decide +kernel⟩⟩

/-- States and operands that meet the hypotheses of each clause of `KeyStoreAndTamper`, part 2. -/
theorem witness_KeyStoreAndTamper_2 :
    ∃ (s : State), inSleep s = true :=
  ⟨setF (r0) 0x7000C 1 0 3, by decide +kernel⟩

/-- States and operands that meet the hypotheses of each clause of `SupervisorRuns`, part 1. -/
theorem witness_SupervisorRuns_1 :
    (∃ (s : State) (x y : Script) (e : MbxReq) (st : Nat), s.script = some x ∧ mbxPaused s = false ∧ powerState s < 2 ∧ x.stopReq = false ∧ x.entries[x.next]? = some e ∧ (runEntry s e).2 = st ∧ (runEntry s e).1.script = some y ∧ (runEntry s e).1.upd.reset = false ∧ y.stopReq = false ∧ st = 0 ∧ x.next + 1 < y.entries.length) ∧
    (∃ (s : State) (x y : Script) (e : MbxReq) (st : Nat), s.script = some x ∧ mbxPaused s = false ∧ powerState s < 2 ∧ x.stopReq = false ∧ x.entries[x.next]? = some e ∧ (runEntry s e).2 = st ∧ (runEntry s e).1.script = some y ∧ (runEntry s e).1.upd.reset = false ∧ y.stopReq = false ∧ st ≠ 0 ∧ y.hostless = true) ∧
    (∃ (s : State) (x y : Script) (e : MbxReq) (st : Nat), s.script = some x ∧ mbxPaused s = false ∧ powerState s < 2 ∧ x.stopReq = false ∧ x.entries[x.next]? = some e ∧ (runEntry s e).2 = st ∧ (runEntry s e).1.script = some y ∧ (runEntry s e).1.upd.reset = false ∧ y.stopReq = false ∧ (st ≠ 0 ∨ y.entries.length ≤ x.next + 1) ∧ y.hostless = false) ∧
    (∃ (s : State) (i : Instr), (i = .popezalRestart ∨ i = .watchdogExpiry ∨ i = .lockstepDisagree ∧ budMode s ≠ 1 ∧ budMode s ≠ 2) ∧ s.boot.popOk = true ∧ (restartsNow s).length < 3 ∧ s.upd.swaps ≠ 4) ∧
    (∃ (s : State) (i : Instr), (i = .popezalRestart ∨ i = .watchdogExpiry ∨ i = .lockstepDisagree ∧ budMode s ≠ 1 ∧ budMode s ≠ 2) ∧ s.boot.popOk = true ∧ 3 ≤ (restartsNow s).length) ∧
    (∃ (s : State), (budMode s = 1 ∨ budMode s = 2) ∧ s.boot.popOk = true ∧ (restartsNow s).length < 3 ∧ s.upd.swaps ≠ 4) ∧
    (∃ (s : State), s.boot.popOk = true ∧ ready s 9 = false ∧ s.script = none ∧ powerState s < 2 ∧ s.boot.startRun = true) ∧
    (∃ (s : State), s.boot.popOk = true ∧ ready s 9 = false ∧ s.script = none ∧ powerState s < 2 ∧ s.boot.startRun = false) :=
  ⟨⟨scripted r0 false [req 0x0104 0 [], req 0x0104 0 []], { hostless := false, next := 0, entries := [req 0x0104 0 [], req 0x0104 0 []], lastCode := 0, lastStat := 0, stopReq := false }, { hostless := false, next := 0, entries := [req 0x0104 0 [], req 0x0104 0 []], lastCode := 0, lastStat := 0, stopReq := false }, req 0x0104 0 [], 0, by decide +kernel⟩,
   ⟨scripted r0 true [req 0x0FFF 0 []], { hostless := true, next := 0, entries := [req 0x0FFF 0 []], lastCode := 0, lastStat := 0, stopReq := false }, { hostless := true, next := 0, entries := [req 0x0FFF 0 []], lastCode := 0, lastStat := 0, stopReq := false }, req 0x0FFF 0 [], 7, by decide +kernel⟩,
   ⟨scripted r0 false [req 0x0FFF 0 []], { hostless := false, next := 0, entries := [req 0x0FFF 0 []], lastCode := 0, lastStat := 0, stopReq := false }, { hostless := false, next := 0, entries := [req 0x0FFF 0 []], lastCode := 0, lastStat := 0, stopReq := false }, req 0x0FFF 0 [], 7, by decide +kernel⟩,
   ⟨popRuns r0, .popezalRestart, by decide +kernel⟩,
   ⟨{ r0 with boot := { r0.boot with popOk := true, restarts := [0, 0] } }, .watchdogExpiry, by decide +kernel⟩,
   ⟨bud (popRuns r0) 1, by decide +kernel⟩,
   ⟨{ r0 with boot := { r0.boot with popOk := true, startRun := true } }, by decide +kernel⟩,
   ⟨popRuns r0, by decide +kernel⟩⟩

/-- States and operands that meet the hypotheses of each clause of `SupervisorRuns`, part 2. -/
theorem witness_SupervisorRuns_2 :
    (∃ (s : State), s.boot.popOk = true ∧ ready s 9 = false) ∧
    (∃ (s : State), (s.boot.popOk = false ∨ ready s 9 = true)) :=
  ⟨⟨popRuns r0, by decide +kernel⟩,
   ⟨r0, by decide +kernel⟩⟩

/-- States and operands that meet the hypotheses of each clause of `FaultsAndBlockResets`, part 1. -/
theorem witness_FaultsAndBlockResets_1 :
    (∃ (s : State), budMode s ≠ 1 ∧ budMode s ≠ 2) ∧
    (∃ (b : ResetBlk) (s : State), s.boot.blk = none ∧ 4 ≤ s.boot.stage ∧ b ≠ .supervisor) ∧
    (∃ (b : ResetBlk) (s : State), s.boot.blk = none ∧ 4 ≤ s.boot.stage ∧ b ≠ .supervisor ∧ (flashWaits s = true ∨ blkRecords s b = none ∨ blkRecords s b = some [])) ∧
    (∃ (b : ResetBlk) (s : State) (n : Chan) (r : LoadRec), s.boot.blk = none ∧ 4 ≤ s.boot.stage ∧ b = .can n ∧ flashWaits s = false ∧ blkRecords s b = some [r] ∧ r.kind = 1 ∧ r.addr = canR n 0x10) ∧
    (∃ (b : ResetBlk) (s : State) (e : _), s.boot.blk = none ∧ 4 ≤ s.boot.stage ∧ b = .cipher e ∧ (engineJob s e).isSome = true) ∧
    (∃ (b : ResetBlk) (s : State), s.boot.blk = none ∧ 4 ≤ s.boot.stage ∧ b = .supervisor ∧ s.boot.popOk = true ∧ (restartsNow s).length < 3 ∧ s.upd.swaps ≠ 4) ∧
    (∃ (s : State), s.boot.blk = none) ∧
    (∃ (s : State) (b : ResetBlk) (n : Option Nat), s.boot.blk = some (b, n) ∧ s.boot.blkHeld = true ∧ flashWaits s = true) :=
  ⟨⟨r0, by decide +kernel⟩,
   ⟨.switch, stage r0 4, by decide +kernel⟩,
   ⟨.cipher 0, stage r0 4, by decide +kernel⟩,
   ⟨.can 3, stage (recordBank r0) 4, 3, { pos := 0, kind := 1, code := 0, addr := canR 3 0x10, data := leBytes 4 0xFFFFFFFF }, by decide +kernel⟩,
   ⟨.cipher 0, stage (job r0 (jobOf 0 16 4)) 4, 0, by decide +kernel⟩,
   ⟨.supervisor, popRuns r0, by decide +kernel⟩,
   ⟨r0, by decide +kernel⟩,
   ⟨{ setF (inReset r0 (.can 3)) 0x1000C 9 8 3 with boot := { (setF (inReset r0 (.can 3)) 0x1000C 9 8 3).boot with blkHeld := true } }, .can 3, none, by decide +kernel⟩⟩

/-- States and operands that meet the hypotheses of each clause of `FaultsAndBlockResets`, part 2. -/
theorem witness_FaultsAndBlockResets_2 :
    (∃ (s : State) (b : ResetBlk) (n : Option Nat), s.boot.blk = some (b, n) ∧ b ≠ .switch ∧ (s.boot.blkHeld = false ∨ flashWaits s = false ∧ (blkRecords s b = none ∨ blkRecords s b = some []))) ∧
    (∃ (s : State) (b : ResetBlk) (n : Option Nat) (c : Chan) (r : LoadRec), s.boot.blk = some (b, n) ∧ b = .can c ∧ s.boot.blkHeld = true ∧ flashWaits s = false ∧ blkRecords s b = some [r] ∧ r.kind = 1 ∧ r.addr = canR c 0x10) ∧
    (∃ (s : State) (b : ResetBlk) (n : Option Nat), s.boot.blk = some (b, n) ∧ b = .switch ∧ s.boot.blkHeld = false) :=
  ⟨⟨inReset r0 (.can 3), .can 3, none, by decide +kernel⟩,
   ⟨{ inReset (recordBank r0) (.can 3) with boot := { (inReset (recordBank r0) (.can 3)).boot with blkHeld := true } }, .can 3, none, 3, { pos := 0, kind := 1, code := 0, addr := canR 3 0x10, data := leBytes 4 0xFFFFFFFF }, by decide +kernel⟩,
   ⟨inReset r0 .switch, .switch, none, by decide +kernel⟩⟩

/-- States and operands that meet the hypotheses of each clause of `KindsOfStart`, part 1. -/
theorem witness_KindsOfStart_1 :
    (∃ (q : Requester) (s : State), keyOk s q = true) ∧
    (∃ (q : Requester) (s : State), keyOk s q = false) ∧
    (∃ (s : State), s.boot.resetLow = true) ∧
    (∃ (s : State), s.boot.resetLow = false) ∧
    (∃ (s : State), inSleep s = false) ∧
    (∃ (s : State), inSleep s = true) ∧
    (∃ (r : Fin 8), r = 7) ∧
    (∃ (r : Fin 8) (s : State), (r = 0 ∨ r = 1 ∨ r = 2 ∨ r = 6) ∧ railOn s r = true ∧ (0 < s.boot.stage ∨ inSleep s = true)) :=
  ⟨⟨.host, setArmed (r0) .host true, by decide +kernel⟩,
   ⟨.host, r0, by decide +kernel⟩,
   ⟨{ r0 with boot := { r0.boot with resetLow := true } }, by decide +kernel⟩,
   ⟨stage r0 4, by decide +kernel⟩,
   ⟨r0, by decide +kernel⟩,
   ⟨setF (r0) 0x7000C 1 0 3, by decide +kernel⟩,
   ⟨7, by decide +kernel⟩,
   ⟨6, stage r0 4, by decide +kernel⟩⟩

/-- States and operands that meet the hypotheses of each clause of `KindsOfStart`, part 2. -/
theorem witness_KindsOfStart_2 :
    (∃ (r : Fin 8) (s : State), r ≠ 7 ∧ (railOn s r = false ∨ s.boot.stage = 0 ∧ inSleep s = false)) ∧
    (∃ (r : Fin 8), (r = 3 ∨ r = 4 ∨ r = 5)) :=
  ⟨⟨3, r0, by decide +kernel⟩,
   ⟨3, by decide +kernel⟩⟩

/-- States and operands that meet the hypotheses of each clause of `StartUpSequence`, part 1. -/
theorem witness_StartUpSequence_1 :
    (∃ (s : State), s.boot.stage = 0 ∧ s.boot.resetLow = false ∧ powerState s < 2) ∧
    (∃ (s : State), (s.boot.stage ≠ 0 ∨ s.boot.resetLow = true ∨ 2 ≤ powerState s)) ∧
    (∃ (s : State), s.boot.stage = 1) ∧
    (∃ (s : State), s.boot.stage ≠ 1) ∧
    (∃ (s : State), (flashWaits s = true ∨ s.boot.rescue = true ∨ s.boot.stage < 2)) ∧
    (∃ (s : State), s.boot.rescue = false ∧ flashWaits s = false ∧ s.boot.stage = 2 ∧ followed s = none) ∧
    (∃ (s : State) (ty : Nat) (rest : List Nat), s.boot.rescue = false ∧ flashWaits s = false ∧ 3 ≤ s.boot.stage ∧ s.boot.todo = ty :: rest ∧ ty ≠ 8 ∧ (bankDir s s.boot.bank).bind (fun x => (dirFind x ty).map fun y => decide (crc32c (sectionBytes s s.boot.bank y) = y.crc)) = some true ∧ (ty = 2 ∨ ty = 7)) ∧
    (∃ (s : State) (ty : Nat) (rest : List Nat), s.boot.rescue = false ∧ flashWaits s = false ∧ 3 ≤ s.boot.stage ∧ s.boot.todo = ty :: rest ∧ ty ≠ 8 ∧ (bankDir s s.boot.bank).bind (fun x => (dirFind x ty).map fun y => decide (crc32c (sectionBytes s s.boot.bank y) = y.crc)) = some true ∧ ty = 11) :=
  ⟨⟨r0, by decide +kernel⟩,
   ⟨stage r0 2, by decide +kernel⟩,
   ⟨stage r0 1, by decide +kernel⟩,
   ⟨stage r0 2, by decide +kernel⟩,
   ⟨r0, by decide +kernel⟩,
   ⟨stage r0 2, by decide +kernel⟩,
   ⟨loading 99 2, 2, [12], by decide +kernel⟩,
   ⟨loading 99 11, 11, [12], by decide +kernel⟩⟩

/-- States and operands that meet the hypotheses of each clause of `StartUpSequence`, part 2. -/
theorem witness_StartUpSequence_2 :
    (∃ (s : State) (ty : Nat) (rest : List Nat), s.boot.rescue = false ∧ flashWaits s = false ∧ 3 ≤ s.boot.stage ∧ s.boot.todo = ty :: rest ∧ ty ≠ 8 ∧ (bankDir s s.boot.bank).bind (fun x => (dirFind x ty).map fun y => decide (crc32c (sectionBytes s s.boot.bank y) = y.crc)) = some true ∧ ty = 9) ∧
    (∃ (s : State) (ty : Nat) (rest : List Nat), s.boot.rescue = false ∧ flashWaits s = false ∧ 3 ≤ s.boot.stage ∧ s.boot.todo = ty :: rest ∧ ty ≠ 8 ∧ (bankDir s s.boot.bank).bind (fun x => (dirFind x ty).map fun y => decide (crc32c (sectionBytes s s.boot.bank y) = y.crc)) = some false ∧ s.boot.badBank = none) ∧
    (∃ (s : State) (ty : Nat) (rest : List Nat), s.boot.rescue = false ∧ flashWaits s = false ∧ 3 ≤ s.boot.stage ∧ s.boot.todo = ty :: rest ∧ ty ≠ 8 ∧ (bankDir s s.boot.bank).bind (fun x => (dirFind x ty).map fun y => decide (crc32c (sectionBytes s s.boot.bank y) = y.crc)) = some false ∧ s.boot.badBank ≠ none) ∧
    (∃ (s : State), 2 ≤ s.boot.stage ∧ s.boot.rescue = false ∧ ready s 7 = false) ∧
    (∃ (s : State), (s.boot.stage < 2 ∨ s.boot.rescue = true ∨ ready s 7 = true)) ∧
    (∃ (s : State), s.boot.stage ≠ 0 ∧ ready s 3 = false ∧ powerState s < 2) ∧
    (∃ (s : State), (s.boot.stage = 0 ∨ ready s 3 = true ∨ 2 ≤ powerState s)) :=
  ⟨⟨loading 99 9, 9, [12], by decide +kernel⟩,
   ⟨loading 2 2, 2, [12], by decide +kernel⟩,
   ⟨{ loading 2 2 with boot := { (loading 2 2).boot with badBank := some 1 } }, 2, [12], by decide +kernel⟩,
   ⟨stage r0 2, by decide +kernel⟩,
   ⟨r0, by decide +kernel⟩,
   ⟨stage r0 1, by decide +kernel⟩,
   ⟨r0, by decide +kernel⟩⟩

/-- States and operands that meet the hypotheses of each clause of `ClockSources`, part 1. -/
theorem witness_ClockSources_1 :
    (∃ (s : State), powered s = true ∧ xtalOk s = true) ∧
    (∃ (s : State), powered s = true ∧ xtalOk s = false) ∧
    (∃ (s : State), powered s = false) ∧
    (∃ (s : State), powered s = true ∧ oscOk s = true) ∧
    (∃ (s : State), powered s = true ∧ oscOk s = false) ∧
    (∃ (s : State), powered s = true ∧ sdrefOk s = true) ∧
    (∃ (s : State), powered s = true ∧ sdrefOk s = false) ∧
    (∃ (k : Fin 6) (s : State) (x : Ramp), rampAt s k = some x ∧ x.back = false ∧ x.step = 16 ∧ (x.new = 1 ∨ x.new = 2)) :=
  ⟨⟨setB (r0) 0x1000C 13 true, by decide +kernel⟩,
   ⟨setB (r0) 0x1000C 13 false, by decide +kernel⟩,
   ⟨setF (r0) 0x7000C 1 0 3, by decide +kernel⟩,
   ⟨setB r0 0x1000C 14 true, by decide +kernel⟩,
   ⟨setB r0 0x1000C 14 false, by decide +kernel⟩,
   ⟨setB r0 0x1000C 15 true, by decide +kernel⟩,
   ⟨setB r0 0x1000C 15 false, by decide +kernel⟩,
   ⟨1, setRamp r0 1 { step := 16, old := 1, new := 2, back := false }, { step := 16, old := 1, new := 2, back := false }, by decide +kernel⟩⟩

/-- States and operands that meet the hypotheses of each clause of `ClockSources`, part 2. -/
theorem witness_ClockSources_2 :
    (∃ (k : Fin 6) (s : State) (x : Ramp), rampAt s k = some x ∧ x.back = true ∧ x.step = 0 ∧ (x.old = 1 ∨ x.old = 2)) ∧
    (∃ (k : Fin 6) (s : State) (x : Ramp), rampAt s k = some x ∧ x.back = false ∧ x.step < 16) ∧
    (∃ (s : State) (src : ClkSrc), (powered s = false ∨ s.boot.stage < 2 ∨ qualOver s (match src with | .crystal => 0 | .oscillator => 1 | .serdesRef => 2) = false)) ∧
    (∃ (s : State), powered s = true ∧ 2 ≤ s.boot.stage ∧ qualOver s 0 = true ∧ qualOver s 1 = true ∧ qualOver s 2 = true ∧ xtalOk s = false ∧ loopSrc s 3 = 0) ∧
    (∃ (s : State), powered s = true ∧ 2 ≤ s.boot.stage ∧ qualOver s 0 = true ∧ qualOver s 1 = true ∧ qualOver s 2 = true ∧ xtalOk s = false ∧ loopSrc s 3 ≠ 0) ∧
    (∃ (s : State), powered s = true ∧ 2 ≤ s.boot.stage ∧ qualOver s 0 = true ∧ qualOver s 1 = true ∧ qualOver s 2 = true ∧ oscOk s = false) ∧
    (∃ (s : State), powered s = true ∧ 2 ≤ s.boot.stage ∧ qualOver s 0 = true ∧ qualOver s 1 = true ∧ qualOver s 2 = true ∧ sdrefOk s = false) ∧
    (∃ (k : Fin 6) (s : State), powered s = true ∧ loopSrc s k = 3 ∧ (relockTo s k).isSome = true) :=
  ⟨⟨1, setRamp r0 1 { step := 0, old := 1, new := 2, back := true }, { step := 0, old := 1, new := 2, back := true }, by decide +kernel⟩,
   ⟨1, setRamp r0 1 { step := 15, old := 1, new := 2, back := false }, { step := 15, old := 1, new := 2, back := false }, by decide +kernel⟩,
   ⟨r0, .crystal, by decide +kernel⟩,
   ⟨stage (setLoop (setB r0 0x1000C 13 false) 3 0) 2, by decide +kernel⟩,
   ⟨stage (setLoop (setB r0 0x1000C 13 false) 3 1) 2, by decide +kernel⟩,
   ⟨stage (setB r0 0x1000C 14 false) 2, by decide +kernel⟩,
   ⟨stage (setB r0 0x1000C 15 false) 2, by decide +kernel⟩,
   ⟨0, setLoop (setB (r0) 0x1000C 13 true) 0 3, by decide +kernel⟩⟩

/-- States and operands that meet the hypotheses of each clause of `ClockSources`, part 3. -/
theorem witness_ClockSources_3 :
    (∃ (k : Fin 6) (s : State), (powered s = false ∨ loopSrc s k ≠ 3 ∨ relockTo s k = none)) ∧
    (∃ (q : Requester) (s : State), keyOk s q = true ∧ xtalOk s = true ∧ s.clk.ramps = []) ∧
    (∃ (q : Requester) (s : State), keyOk s q = true ∧ (xtalOk s = false ∨ s.clk.ramps ≠ [])) ∧
    (∃ (q : Requester) (s : State), keyOk s q = false) :=
  ⟨⟨0, r0, by decide +kernel⟩,
   ⟨.host, setArmed (setB (r0) 0x1000C 13 true) .host true, by decide +kernel⟩,
   ⟨.host, setArmed (setB (r0) 0x1000C 13 false) .host true, by decide +kernel⟩,
   ⟨.host, r0, by decide +kernel⟩⟩

/-- States and operands that meet the hypotheses of each clause of `RailsAndPacing`. -/
theorem witness_RailsAndPacing :
    (∃ (r : Fin 8) (s : State), railOn s r = true ∧ getB s 0x10018 r = true) ∧
    (∃ (r : Fin 8) (s : State), (railOn s r = false ∨ getB s 0x10018 r = false)) ∧
    (∃ (r : Fin 8) (s : State), railOn s r = true ∧ getB s 0x10018 r = false ∧ ready s 1 = true) ∧
    (∃ (r : Fin 8) (s : State), (railOn s r = false ∨ getB s 0x10018 r = true ∨ ready s 1 = false)) ∧
    (∃ (s : State), ready s 1 = true ∧ powered s = true) ∧
    (∃ (s : State), (ready s 1 = false ∨ powered s = false)) :=
  ⟨⟨1, setB r0 0x10018 1 true, by decide +kernel⟩,
   ⟨1, setB r0 0x10018 1 false, by decide +kernel⟩,
   ⟨1, setB (setB r0 0x10018 1 false) 0x14 1 true, by decide +kernel⟩,
   ⟨1, setB r0 0x10018 1 true, by decide +kernel⟩,
   ⟨setB r0 0x14 1 true, by decide +kernel⟩,
   ⟨setB r0 0x14 1 false, by decide +kernel⟩⟩

/-- States and operands that meet the hypotheses of each clause of `SegmentsSleepAndWake`, part 1. -/
theorem witness_SegmentsSleepAndWake_1 :
    (∃ (i : Fin 74) (s : State), wakeEnabled s i = false ∧ s.lan.latched = none) ∧
    (∃ (i : Fin 74) (s : State), wakeEnabled s i = true ∧ powerState s < 2 ∧ budMode s ≠ 2 ∧ (∀ d n, s.lan.dev = some (d, n) → s.lan.lnt < d + n)) ∧
    (∃ (i : Fin 74) (s : State), wakeEnabled s i = true ∧ 2 ≤ powerState s ∧ s.lan.latched = none ∧ s.lan.dev = none ∧ (wakesDevice i = false ∨ s.lan.entering ≠ none)) ∧
    (∃ (data : Word) (s : State) (n : Nat), budMode s ≠ 2 ∧ n = fld data 5 0 ∧ n ≤ 47 ∧ data.getLsbD 6 = false ∧ (segAt s n).act ≠ some s.lan.lnt) ∧
    (∃ (data : Word) (s : State) (n : Nat), budMode s ≠ 2 ∧ n = fld data 5 0 ∧ n ≤ 47 ∧ data.getLsbD 6 = false ∧ SegQuiet s n ∧ DevQuiet s ∧ (segAt s n).act = some s.lan.lnt ∧ (segAt s n).a ≠ some s.lan.lnt) ∧
    (∃ (data : Word) (s : State) (n : Nat), budMode s ≠ 2 ∧ n = fld data 5 0 ∧ n ≤ 47 ∧ data.getLsbD 6 = false ∧ SegQuiet s n ∧ DevQuiet s ∧ (segAt s n).act = some s.lan.lnt ∧ (segAt s n).a = some s.lan.lnt) ∧
    (∃ (data : Word) (s : State) (n : Nat), budMode s ≠ 2 ∧ n = fld data 5 0 ∧ n ≤ 47) ∧
    (∃ (q : Requester) (data : Word) (s : State) (n : Nat) (c : _), budMode s ≠ 2 ∧ n = fld data 5 0 ∧ 47 < n ∧ c ∈ [Instr.lanCmdWake q data, .lanCmdSleep q data]) :=
  ⟨⟨5, r0, by decide +kernel⟩,
   ⟨5, { setTri r0 1 0 0x20 with boot := { (setTri r0 1 0 0x20).boot with loaded := true } }, (by and_intros <;> first | (intro d n h; exact nomatch (show (none : Option (Nat × Nat)) = some (d, n) from h)) | decide +kernel)⟩,
   ⟨5, { setTri (setF (r0) 0x7000C 1 0 2) 1 0 0x20 with boot := { (setTri (setF (r0) 0x7000C 1 0 2) 1 0 0x20).boot with loaded := true } }, by decide +kernel⟩,
   ⟨0x2F, r0, fld (0x2F : Word) 5 0, by decide +kernel⟩,
   ⟨5, setSeg r0 5 { Seg.init with act := some 0 }, fld (5 : Word) 5 0, by unfold SegQuiet DevQuiet; decide +kernel⟩,
   ⟨5, setSeg r0 5 { Seg.init with act := some 0, a := some 0 }, fld (5 : Word) 5 0, by unfold SegQuiet DevQuiet; decide +kernel⟩,
   ⟨0x6F, r0, fld (0x6F : Word) 5 0, by decide +kernel⟩,
   ⟨.host, 0x30, r0, fld (0x30 : Word) 5 0, Instr.lanCmdWake .host 0x30, by decide +kernel⟩⟩

/-- States and operands that meet the hypotheses of each clause of `SegmentsSleepAndWake`, part 2. -/
theorem witness_SegmentsSleepAndWake_2 :
    (∃ (n : Chan) (s : State), powerState s < 2 ∧ budMode s ≠ 2 ∧ (segAt s n).st = 1 ∧ modeReq s n = 0 ∧ settleOver s n = true) ∧
    (∃ (n : Chan) (s : State), powerState s < 2 ∧ budMode s ≠ 2 ∧ (segAt s n).st = 1 ∧ modeReq s n ≠ 0 ∧ awakeOver s n = false ∧ settleOver s n = true) ∧
    (∃ (n : Chan) (s : State) (c : _), powerState s < 2 ∧ budMode s ≠ 2 ∧ awakeOver s n = true ∧ (c ∈ (if (segAt s n).st = 1 ∧ settleOver s n = true then [Instr.maxAwakeExpiry n, .settleEnd n] else [.maxAwakeExpiry n]))) ∧
    (∃ (n : Chan) (s : State), powerState s < 2 ∧ budMode s ≠ 2 ∧ (segAt s n).st = 0 ∧ awakeOver s n = false ∧ sleepReq s n = true ∧ segHold s n = false ∧ modeReq s n ≠ 0 ∧ minOver s n = true ∧ retryOver s n = true ∧ segRole s n = 0) ∧
    (∃ (n : Chan) (s : State), powerState s < 2 ∧ budMode s ≠ 2 ∧ (segAt s n).st = 0 ∧ awakeOver s n = false ∧ sleepReq s n = true ∧ segHold s n = false ∧ modeReq s n ≠ 0 ∧ minOver s n = true ∧ retryOver s n = true ∧ segRole s n = 1 ∧ modeCur s n = 1 ∧ (chan s n).rollCall = none) ∧
    (∃ (n : Chan) (s : State), powerState s < 2 ∧ budMode s ≠ 2 ∧ (segAt s n).f.isSome = true ∧ inHoldoff s n = false) ∧
    (∃ (n : Chan) (s : State) (c : _), powerState s < 2 ∧ budMode s = 2 ∧ DevQuiet s ∧ c ∈ [Instr.settleEnd n, .maxAwakeExpiry n, .minAwakeEnd n, .retryWindowEnd n]) ∧
    (∃ (n : Chan) (s : State) (c : _), 2 ≤ powerState s ∧ c ∈ [Instr.settleEnd n, .maxAwakeExpiry n, .minAwakeEnd n, .retryWindowEnd n, .holdoffEnd n]) :=
  ⟨⟨5, ticks (seg r0 5 1) 9999999, by decide +kernel⟩,
   ⟨5, ticks (seg (inMode r0 5 1) 5 1) 9999999, by decide +kernel⟩,
   ⟨5, ticks (regs (inMode r0 5 1) [(segR 5 8, 0x10000)]) 32768, Instr.maxAwakeExpiry 5, by decide +kernel⟩,
   ⟨5, ticks (setSleepReq (inMode (r0) 5 1) 5 true) 9999999, by decide +kernel⟩,
   ⟨5, ticks (setSleepReq (inMode (regs r0 [(segR 5 0, 1)]) 5 1) 5 true) 9999999, by decide +kernel⟩,
   ⟨5, ticks (setSeg r0 5 { Seg.init with f := some 0 }) 999999999, by decide +kernel⟩,
   ⟨5, bud r0 2, Instr.settleEnd 5, by unfold DevQuiet; decide +kernel⟩,
   ⟨5, setF (r0) 0x7000C 1 0 2, Instr.settleEnd 5, by decide +kernel⟩⟩

/-- States and operands that meet the hypotheses of each clause of `DevicePowerStates`, part 1. -/
theorem witness_DevicePowerStates_1 :
    (∃ (s : State), s.lan.dev = none) ∧
    (∃ (s : State) (d n : _), s.lan.dev = some (d, n) ∧ devCond s = false ∧ s.lan.lnt < d + n) ∧
    (∃ (s : State) (d n : _), s.lan.dev = some (d, n) ∧ devCond s = true ∧ s.lan.lnt < d + n) ∧
    (∃ (s : State) (d n : _), s.lan.dev = some (d, n) ∧ deepOf s ≤ 2 ∧ d + n ≤ s.lan.lnt) ∧
    (∃ (s : State), s.lan.latched = none ∧ s.lan.entering = some 2 ∧ s.clk.ramps = []) ∧
    (∃ (s : State), s.lan.latched = none ∧ s.lan.entering = some 2 ∧ s.clk.ramps = [] ∧ powerState s = 2) ∧
    (∃ (s : State), s.lan.latched = none ∧ (s.lan.entering ≠ some 2 ∨ s.clk.ramps ≠ [])) ∧
    (∃ (s : State), s.lan.latched = none ∧ s.lan.entering = some 3 ∧ s.clk.ramps = []) :=
  ⟨⟨r0, by decide +kernel⟩,
   ⟨{ r0 with lan := { (r0).lan with dev := some (0, 5) } }, 0, 5, by decide +kernel⟩,
   ⟨{ stage (regs r0 [(0x70008, 0x100), (0x3A004, 1)]) 1 with lan := { (stage (regs r0 [(0x70008, 0x100), (0x3A004, 1)]) 1).lan with dev := some (0, 5), lnt := 4 } }, 0, 5, by decide +kernel⟩,
   ⟨{ stage (regs r0 [(0x70008, 0x100), (0x3A004, 1)]) 1 with lan := { (stage (regs r0 [(0x70008, 0x100), (0x3A004, 1)]) 1).lan with dev := some (0, 5), lnt := 5 } }, 0, 5, by decide +kernel⟩,
   ⟨{ r0 with lan := { (r0).lan with entering := some 2 } }, by decide +kernel⟩,
   ⟨{ setF (r0) 0x7000C 1 0 2 with lan := { (setF (r0) 0x7000C 1 0 2).lan with entering := some 2 } }, by decide +kernel⟩,
   ⟨r0, by decide +kernel⟩,
   ⟨{ r0 with lan := { (r0).lan with entering := some 3 } }, by decide +kernel⟩⟩

/-- States and operands that meet the hypotheses of each clause of `DevicePowerStates`, part 2. -/
theorem witness_DevicePowerStates_2 :
    (∃ (s : State), s.lan.latched = none ∧ s.lan.entering = some 3 ∧ s.clk.ramps = [] ∧ powerState s = 3) ∧
    (∃ (s : State), s.lan.latched = none ∧ (s.lan.entering ≠ some 3 ∨ s.clk.ramps ≠ [])) ∧
    (∃ (i : Fin 74) (s : State), wakesDevice i = true ∧ wakeEnabled s i = true ∧ s.lan.latched = none ∧ s.lan.dev = none ∧ s.boot.resetLow = false ∧ inStandby s = true) ∧
    (∃ (i : Fin 74) (s : State), wakesDevice i = true ∧ wakeEnabled s i = true ∧ s.lan.latched = none ∧ s.lan.dev = none ∧ s.boot.resetLow = false ∧ inSleep s = true) ∧
    (∃ (i : Fin 74) (s : State), (wakesDevice i = false ∨ inStandby s = false)) ∧
    (∃ (i : Fin 74) (s : State), (wakesDevice i = false ∨ inSleep s = false)) :=
  ⟨⟨{ setF (r0) 0x7000C 1 0 3 with lan := { (setF (r0) 0x7000C 1 0 3).lan with entering := some 3 } }, by decide +kernel⟩,
   ⟨r0, by decide +kernel⟩,
   ⟨48, { setTri (regs (setF (r0) 0x7000C 1 0 2) [(0x70100, 1)]) 1 1 0x10000 with boot := { (setTri (regs (setF (r0) 0x7000C 1 0 2) [(0x70100, 1)]) 1 1 0x10000).boot with loaded := true } }, by decide +kernel⟩,
   ⟨48, { setTri (regs (setF (r0) 0x7000C 1 0 3) [(0x70100, 1)]) 1 1 0x10000 with boot := { (setTri (regs (setF (r0) 0x7000C 1 0 3) [(0x70100, 1)]) 1 1 0x10000).boot with loaded := true } }, by decide +kernel⟩,
   ⟨3, r0, by decide +kernel⟩,
   ⟨3, r0, by decide +kernel⟩⟩

/-- States and operands that meet the hypotheses of each clause of `PowerAndBuddyCommands`, part 1. -/
theorem witness_PowerAndBuddyCommands_1 :
    (∃ (m : Mbx) (s : State) (x : MbxReq), Asks s m 0x0701 x ∧ leAt x.hdr 6 2 = 0) ∧
    (∃ (m : Mbx) (s : State) (x : MbxReq) (k : Nat), k = leAt x.fields 0 8 ∧ Asks s m 0x0702 x ∧ leAt x.hdr 6 2 = 8 ∧ budMode s ≠ 2 ∧ maskComp s (reqOf m false x) k = true ∧ k < 2 ^ 48 ∧ (∀ n, n < 48 → (segAt s n).act ≠ some s.lan.lnt)) ∧
    (∃ (m : Mbx) (s : State) (x : MbxReq) (k : Nat), k = leAt x.fields 0 8 ∧ Asks s m 0x0703 x ∧ leAt x.hdr 6 2 = 8 ∧ budMode s ≠ 2 ∧ maskComp s (reqOf m false x) k = true ∧ k < 2 ^ 48) ∧
    (∃ (m : Mbx) (s : State) (x : MbxReq) (k : Nat), k = leAt x.fields 0 8 ∧ Asks s m 0x0704 x ∧ leAt x.hdr 6 2 = 12 ∧ budMode s ≠ 2 ∧ maskComp s (reqOf m false x) k = true ∧ k < 2 ^ 48 ∧ leAt x.fields 8 1 ≤ 1) ∧
    (∃ (m : Mbx) (s : State) (x : MbxReq), Asks s m 0x0705 x ∧ leAt x.hdr 6 2 = 12 ∧ leAt x.hdr 4 1 = 0 ∧ leAt x.fields 8 4 < 1024) ∧
    (∃ (m : Mbx) (s : State) (x : MbxReq) (a : _), Asks s m 0x0706 x ∧ leAt x.hdr 6 2 = 4 ∧ leAt x.hdr 4 1 = 0 ∧ budMode s < 2 ∧ a = leAt x.fields 0 1 ∧ a < 2) ∧
    (∃ (m : Mbx) (s : State) (x : MbxReq) (a : _), Asks s m 0x0706 x ∧ leAt x.hdr 6 2 = 4 ∧ leAt x.hdr 4 1 = 0 ∧ budMode s < 2 ∧ a = leAt x.fields 0 1 ∧ (a = 2 ∨ a = 3) ∧ (s.upd.mode ≠ 2 ∨ s.upd.swaps = 0 ∧ s.upd.pair = 0)) ∧
    (∃ (m : Mbx) (s : State) (x : MbxReq) (a : _), Asks s m 0x0706 x ∧ leAt x.hdr 6 2 = 4 ∧ leAt x.hdr 4 1 = 0 ∧ budMode s < 2 ∧ a = leAt x.fields 0 1 ∧ (a = 2 ∨ a = 3) ∧ s.upd.mode = 2 ∧ (s.upd.swaps ≠ 0 ∨ s.upd.pair ≠ 0)) :=
  ⟨⟨0, asks (r0) 0 (req 0x0701 0 []), req 0x0701 0 [], by unfold Asks; decide +kernel⟩,
   ⟨0, asks (r0) 0 (req 0x0702 0 (leBytes 8 3)), req 0x0702 0 (leBytes 8 3), leAt (req 0x0702 0 (leBytes 8 3)).fields 0 8, by unfold Asks; decide +kernel⟩,
   ⟨0, asks (r0) 0 (req 0x0703 0 (leBytes 8 3)), req 0x0703 0 (leBytes 8 3), leAt (req 0x0703 0 (leBytes 8 3)).fields 0 8, by unfold Asks; decide +kernel⟩,
   ⟨0, asks (r0) 0 (req 0x0704 0 (leBytes 8 3 ++ [1, 0, 0, 0])), req 0x0704 0 (leBytes 8 3 ++ [1, 0, 0, 0]), leAt (req 0x0704 0 (leBytes 8 3 ++ [1, 0, 0, 0])).fields 0 8, by unfold Asks; decide +kernel⟩,
   ⟨0, asks (r0) 0 (req 0x0705 0 (leBytes 8 3 ++ leBytes 4 1023)), req 0x0705 0 (leBytes 8 3 ++ leBytes 4 1023), by unfold Asks; decide +kernel⟩,
   ⟨0, asks (r0) 0 (req 0x0706 0 [1, 0, 0, 0]), req 0x0706 0 [1, 0, 0, 0], leAt (req 0x0706 0 [1, 0, 0, 0]).fields 0 1, by unfold Asks; decide +kernel⟩,
   ⟨0, asks (r0) 0 (req 0x0706 0 [2, 0, 0, 0]), req 0x0706 0 [2, 0, 0, 0], leAt (req 0x0706 0 [2, 0, 0, 0]).fields 0 1, by unfold Asks; decide +kernel⟩,
   ⟨0, asks (swaps r0 1) 0 (req 0x0706 0 [2, 0, 0, 0]), req 0x0706 0 [2, 0, 0, 0], leAt (req 0x0706 0 [2, 0, 0, 0]).fields 0 1, by unfold Asks; decide +kernel⟩⟩

/-- States and operands that meet the hypotheses of each clause of `PowerAndBuddyCommands`, part 2. -/
theorem witness_PowerAndBuddyCommands_2 :
    (∃ (m : Mbx) (s : State) (x : MbxReq) (a : _), Asks s m 0x0706 x ∧ leAt x.hdr 6 2 = 4 ∧ leAt x.hdr 4 1 = 0 ∧ budMode s < 2 ∧ a = leAt x.fields 0 1 ∧ 3 < a) ∧
    (∃ (m : Mbx) (s : State) (x : MbxReq), Asks s m 0x0706 x ∧ leAt x.hdr 6 2 = 4 ∧ leAt x.hdr 4 1 = 0 ∧ 2 ≤ budMode s) ∧
    (∃ (m : Mbx) (s : State) (x : MbxReq), Asks s m 0x0801 x ∧ leAt x.hdr 6 2 = 0) ∧
    (∃ (m : Mbx) (s : State) (x : MbxReq) (v : Nat), v = leAt x.fields 0 1 ∧ Asks s m 0x0802 x ∧ leAt x.hdr 6 2 = 4 ∧ leAt x.hdr 4 1 = 0 ∧ budMode s ≠ 0 ∧ 1 ≤ v ∧ v ≤ 254) ∧
    (∃ (m : Mbx) (s : State) (x : MbxReq), Asks s m 0x0802 x ∧ leAt x.hdr 6 2 = 4 ∧ leAt x.hdr 4 1 = 0 ∧ budMode s = 0) ∧
    (∃ (m : Mbx) (s : State) (x : MbxReq) (v : Nat), v = leAt x.fields 0 1 ∧ Asks s m 0x0802 x ∧ leAt x.hdr 6 2 = 4 ∧ leAt x.hdr 4 1 = 0 ∧ budMode s ≠ 0 ∧ (v = 0 ∨ 254 < v)) ∧
    (∃ (m : Mbx) (s : State) (x : MbxReq) (v : Nat), v = leAt x.fields 0 1 ∧ Asks s m 0x0803 x ∧ leAt x.hdr 6 2 = 4 ∧ leAt x.hdr 4 1 = 0 ∧ (budMode s = 1 ∨ budMode s = 2) ∧ v ≤ 1) ∧
    (∃ (m : Mbx) (s : State) (x : MbxReq), Asks s m 0x0803 x ∧ leAt x.hdr 6 2 = 4 ∧ leAt x.hdr 4 1 = 0 ∧ (budMode s = 0 ∨ budMode s = 3)) :=
  ⟨⟨0, asks (r0) 0 (req 0x0706 0 [4, 0, 0, 0]), req 0x0706 0 [4, 0, 0, 0], leAt (req 0x0706 0 [4, 0, 0, 0]).fields 0 1, by unfold Asks; decide +kernel⟩,
   ⟨0, asks (bud r0 2) 0 (req 0x0706 0 [1, 0, 0, 0]), req 0x0706 0 [1, 0, 0, 0], by unfold Asks; decide +kernel⟩,
   ⟨0, asks (r0) 0 (req 0x0801 0 []), req 0x0801 0 [], by unfold Asks; decide +kernel⟩,
   ⟨0, asks (bud r0 1) 0 (req 0x0802 0 [254, 0, 0, 0]), req 0x0802 0 [254, 0, 0, 0], leAt (req 0x0802 0 [254, 0, 0, 0]).fields 0 1, by unfold Asks; decide +kernel⟩,
   ⟨0, asks (r0) 0 (req 0x0802 0 [5, 0, 0, 0]), req 0x0802 0 [5, 0, 0, 0], by unfold Asks; decide +kernel⟩,
   ⟨0, asks (bud r0 1) 0 (req 0x0802 0 [255, 0, 0, 0]), req 0x0802 0 [255, 0, 0, 0], leAt (req 0x0802 0 [255, 0, 0, 0]).fields 0 1, by unfold Asks; decide +kernel⟩,
   ⟨0, asks (bud r0 1) 0 (req 0x0803 0 [1, 0, 0, 0]), req 0x0803 0 [1, 0, 0, 0], leAt (req 0x0803 0 [1, 0, 0, 0]).fields 0 1, by unfold Asks; decide +kernel⟩,
   ⟨0, asks (r0) 0 (req 0x0803 0 [1, 0, 0, 0]), req 0x0803 0 [1, 0, 0, 0], by unfold Asks; decide +kernel⟩⟩

/-- States and operands that meet the hypotheses of each clause of `PowerAndBuddyCommands`, part 3. -/
theorem witness_PowerAndBuddyCommands_3 :
    (∃ (m : Mbx) (s : State) (x : MbxReq), Asks s m 0x0804 x ∧ leAt x.hdr 6 2 = 0 ∧ leAt x.hdr 4 1 = 0 ∧ (budMode s = 1 ∨ budMode s = 2)) ∧
    (∃ (m : Mbx) (s : State) (x : MbxReq), Asks s m 0x0804 x ∧ leAt x.hdr 6 2 = 0 ∧ leAt x.hdr 4 1 = 0 ∧ (budMode s = 0 ∨ budMode s = 3)) ∧
    (∃ (m : Mbx) (s : State) (x : MbxReq), Asks s m 0x0805 x ∧ leAt x.hdr 6 2 = 0 ∧ leAt x.hdr 4 1 = 0 ∧ budMode s = 3 ∧ ownCand s ≠ 0 ∧ partnerState s = 1) ∧
    (∃ (m : Mbx) (s : State) (x : MbxReq), Asks s m 0x0805 x ∧ leAt x.hdr 6 2 = 0 ∧ leAt x.hdr 4 1 = 0 ∧ (budMode s ≠ 3 ∨ ownCand s = 0 ∨ partnerState s ≠ 1)) :=
  ⟨⟨0, asks (bud r0 1) 0 (req 0x0804 0 []), req 0x0804 0 [], by unfold Asks; decide +kernel⟩,
   ⟨0, asks (r0) 0 (req 0x0804 0 []), req 0x0804 0 [], by unfold Asks; decide +kernel⟩,
   ⟨0, asks (paired r0 3 1 0) 0 (req 0x0805 0 []), req 0x0805 0 [], by unfold Asks; decide +kernel⟩,
   ⟨0, asks (r0) 0 (req 0x0805 0 []), req 0x0805 0 [], by unfold Asks; decide +kernel⟩⟩

/-- States and operands that meet the hypotheses of each clause of `PartnerRecords`, part 1. -/
theorem witness_PartnerRecords_1 :
    (∃ (s : State) (r : BudRec) (i : Instr) (ty : Nat), (InputRecord r i ty ∨ i = .budDigestRecord r ∧ ty = 6 ∨ i = .budStateRecord r ∧ ty = 7) ∧ (budIdle s = true ∨ r.ty.toNat ≠ ty)) ∧
    (∃ (s : State) (r : BudRec) (i : Instr) (ty : Nat), (InputRecord r i ty ∨ i = .budDigestRecord r ∧ ty = 6 ∨ i = .budStateRecord r ∧ ty = 7) ∧ budIdle s = false ∧ r.ty.toNat = ty ∧ ¬ ValidRecord s r) ∧
    (∃ (s : State) (r : BudRec) (i : Instr) (ty : Nat) (k : _), (InputRecord r i ty ∨ i = .budDigestRecord r ∧ ty = 6 ∨ i = .budStateRecord r ∧ ty = 7) ∧ budMode s ≠ 0 ∧ r.ty.toNat = ty ∧ ValidRecord s r ∧ r.claim = none ∧ s.bud.rx = some k ∧ ((r.seq.toNat + 2 ^ 32 - k) % 2 ^ 32 = 0 ∨ 2 ^ 31 ≤ (r.seq.toNat + 2 ^ 32 - k) % 2 ^ 32)) ∧
    (∃ (s : State) (r : BudRec) (i : Instr) (ty : Nat) (k : _), (InputRecord r i ty ∨ i = .budDigestRecord r ∧ ty = 6 ∨ i = .budStateRecord r ∧ ty = 7) ∧ budMode s = 2 ∧ r.ty.toNat = ty ∧ ValidRecord s r ∧ r.claim = none ∧ s.bud.rx = some k ∧ 2 ≤ (r.seq.toNat + 2 ^ 32 - k) % 2 ^ 32 ∧ (r.seq.toNat + 2 ^ 32 - k) % 2 ^ 32 < 2 ^ 31) ∧
    (∃ (s : State) (r : BudRec) (i : Instr) (ty : Nat), InputRecord r i ty ∧ r.ty.toNat = ty ∧ ValidRecord s r ∧ r.claim = none ∧ NextRecord s r ∧ (budMode s = 1 ∨ budMode s = 3 ∧ s.bud.resync = false)) ∧
    (∃ (s : State) (r : BudRec) (i : Instr) (ty : Nat), InputRecord r i ty ∧ r.ty.toNat = ty ∧ ValidRecord s r ∧ r.claim = none ∧ NextRecord s r ∧ budMode s = 3 ∧ s.bud.resync = true) ∧
    (∃ (s : State) (r : BudRec) (i : Instr) (ty : Nat), InputRecord r i ty ∧ r.ty.toNat = ty ∧ ValidRecord s r ∧ r.claim = none ∧ NextRecord s r ∧ budMode s = 2 ∧ (ty = 4 → leAt r.payload 0 1 ≠ 0 ∧ leAt r.payload 0 1 ≠ 2)) ∧
    (∃ (s : State) (r : BudRec) (n : Nat) (h : _), budMode s = 2 ∧ ValidRecord s r ∧ r.claim = none ∧ NextRecord s r ∧ n = leAt r.payload 0 1 ∧ n < 48 ∧ r.ty.toNat = 1 ∧ leAt r.payload 1 1 = 0 ∧ heldNear s n (beAt r.payload 2 8) = some h) :=
  ⟨⟨r0, record 1 5 [], .budCanrxRecord (record 1 5 []), 1, by unfold InputRecord; decide +kernel⟩,
   ⟨paired r0 2 1 0, { record 6 5 [] with crcOk := false }, .budDigestRecord { record 6 5 [] with crcOk := false }, 6, by unfold ValidRecord InputRecord; decide +kernel⟩,
   ⟨paired r0 1 1 0, record 6 4 [], .budDigestRecord (record 6 4 []), 6, 4, by unfold ValidRecord InputRecord; decide +kernel⟩,
   ⟨paired r0 2 1 0, record 7 6 [], .budStateRecord (record 7 6 []), 7, 4, by unfold ValidRecord InputRecord; decide +kernel⟩,
   ⟨paired r0 1 1 0, record 5 5 [], .budFireRecord (record 5 5 []), 5, (by and_intros <;> first | exact .inr ⟨4, by decide +kernel⟩ | (unfold ValidRecord; decide +kernel) | (unfold InputRecord; decide +kernel) | decide +kernel)⟩,
   ⟨{ paired r0 3 1 0 with bud := { (paired r0 3 1 0).bud with resync := true } }, record 5 5 [], .budFireRecord (record 5 5 []), 5, (by and_intros <;> first | exact .inr ⟨4, by decide +kernel⟩ | (unfold ValidRecord; decide +kernel) | (unfold InputRecord; decide +kernel) | decide +kernel)⟩,
   ⟨paired r0 2 1 0, record 3 5 [], .budSgrxRecord (record 3 5 []), 3, (by and_intros <;> first | exact .inr ⟨4, by decide +kernel⟩ | (unfold ValidRecord; decide +kernel) | (unfold InputRecord; decide +kernel) | decide +kernel)⟩,
   ⟨heldBud (paired r0 2 1 0) (canFrame 5 [1]), record 1 5 (canrx 2 (canFrame 5 [1])), leAt (record 1 5 (canrx 2 (canFrame 5 [1]))).payload 0 1, { chan := 2, frame := canFrame 5 [1], at_ := 0 }, (by and_intros <;> first | exact .inr ⟨4, by decide +kernel⟩ | (unfold ValidRecord; decide +kernel) | decide +kernel)⟩⟩

/-- States and operands that meet the hypotheses of each clause of `PartnerRecords`, part 2. -/
theorem witness_PartnerRecords_2 :
    (∃ (s : State) (r : BudRec) (n : Nat), budMode s = 2 ∧ ValidRecord s r ∧ r.claim = none ∧ NextRecord s r ∧ n = leAt r.payload 0 1 ∧ n < 48 ∧ r.ty.toNat = 1 ∧ leAt r.payload 1 1 = 0 ∧ heldNear s n (beAt r.payload 2 8) = none) ∧
    (∃ (s : State) (r : BudRec) (n : Nat), budMode s = 2 ∧ ValidRecord s r ∧ r.claim = none ∧ NextRecord s r ∧ n = leAt r.payload 0 1 ∧ n < 48 ∧ r.ty.toNat = 2 ∧ (chan s n).bus.isSome = true) ∧
    (∃ (s : State) (r : BudRec) (n : Chan), budMode s = 2 ∧ ValidRecord s r ∧ r.claim = none ∧ NextRecord s r ∧ r.ty.toNat = 4 ∧ r.payload = [0, 0] ++ beBytes 4 (canR n 8) ++ beBytes 4 1 ∧ modeCur s n = 6) ∧
    (∃ (s : State) (r : BudRec) (a : _), budMode s = 2 ∧ ValidRecord s r ∧ r.claim = none ∧ NextRecord s r ∧ r.ty.toNat = 4 ∧ (a = 2 ∨ a = 3) ∧ r.payload = [6, BitVec.ofNat 8 a, 0x7F]) ∧
    (∃ (s : State) (r : BudRec) (i : Fin 256), budMode s = 2 ∧ ValidRecord s r ∧ r.claim = none ∧ NextRecord s r ∧ r.ty.toNat = 5 ∧ r.payload = 1 :: beBytes 4 i ∧ getB s 0x1A1008 0 = true ∧ dsTrig (tGet s 8 i) ≠ 0 ∧ (∀ x ∈ s.runs, x.dst = i.val → x.started = true)) ∧
    (∃ (s : State) (r : BudRec), budMode s = 2 ∧ ValidRecord s r ∧ r.claim = none ∧ NextRecord s r ∧ r.ty.toNat = 5 ∧ r.payload = 5 :: beBytes 4 0) ∧
    (∃ (s : State) (r : BudRec) (f : SgFrame) (b : Bundle) (i gap : _), budMode s = 2 ∧ ValidRecord s r ∧ r.claim = none ∧ NextRecord s r ∧ r.ty.toNat = 3 ∧ f = sgRecOf r.payload ∧ sgBundle f = true ∧ b = bundleOf f.bytes ∧ getB s 0x1A2008 0 = true ∧ imageReady s = true ∧ b.kind = 0 ∧ bundleCheck s b = none ∧ bundleSub s b = some i ∧ (suMacsec (tGet s 0xA i) = true → f.auth = true) ∧ trackJudge 16 (ltNs s) b.seq (subRt s i).tr = some gap ∧ poolFits s (8 + suClass (tGet s 0xA i)) b.len = true) ∧
    (∃ (s : State) (r : BudRec) (f : SgFrame) (b : Bundle), budMode s = 2 ∧ ValidRecord s r ∧ r.claim = none ∧ NextRecord s r ∧ r.ty.toNat = 3 ∧ f = sgRecOf r.payload ∧ sgBundle f = true ∧ b = bundleOf f.bytes ∧ getB s 0x1A2008 0 = true ∧ imageReady s = true ∧ (bundleCheck s b).isSome = true) :=
  ⟨⟨paired r0 2 1 0, record 1 5 (canrx 2 (canFrame 5 [2])), leAt (record 1 5 (canrx 2 (canFrame 5 [2]))).payload 0 1, (by and_intros <;> first | exact .inr ⟨4, by decide +kernel⟩ | (unfold ValidRecord; decide +kernel) | decide +kernel)⟩,
   ⟨sent (paired r0 2 1 0), record 2 5 [0], leAt (record 2 5 [0]).payload 0 1, (by and_intros <;> first | exact .inr ⟨4, by decide +kernel⟩ | (unfold ValidRecord; decide +kernel) | decide +kernel)⟩,
   ⟨regs (paired r0 2 1 0) [(canR 3 0, 0x601)], record 4 5 ([0, 0] ++ beBytes 4 (canR 3 8) ++ beBytes 4 1), 3, (by and_intros <;> first | exact .inr ⟨4, by decide +kernel⟩ | (unfold ValidRecord; decide +kernel) | decide +kernel)⟩,
   ⟨paired r0 2 1 0, record 4 5 [6, 2, 0x7F], 2, (by and_intros <;> first | exact .inr ⟨4, by decide +kernel⟩ | (unfold ValidRecord; decide +kernel) | decide +kernel)⟩,
   ⟨paired (tab (image r0) 8 [(3, [1, 5, 0, 0])]) 2 1 0, record 5 5 (1 :: beBytes 4 3), 3, (by and_intros <;> first | exact .inr ⟨4, by decide +kernel⟩ | (unfold ValidRecord; decide +kernel) | decide +kernel)⟩,
   ⟨paired r0 2 1 0, record 5 5 (5 :: beBytes 4 0), (by and_intros <;> first | exact .inr ⟨4, by decide +kernel⟩ | (unfold ValidRecord; decide +kernel) | decide +kernel)⟩,
   ⟨paired (tab (image r0) 0xA [(3, [0x315, 0x10003, 0x80000])]) 2 1 0, record 3 5 ([2, 3, 0, 0] ++ beBytes 2 1 ++ beBytes 10 0 ++ (bundle 7).bytes), sgRecOf (record 3 5 ([2, 3, 0, 0] ++ beBytes 2 1 ++ beBytes 10 0 ++ (bundle 7).bytes)).payload, bundleOf (sgRecOf (record 3 5 ([2, 3, 0, 0] ++ beBytes 2 1 ++ beBytes 10 0 ++ (bundle 7).bytes)).payload).bytes, 3, false, (by and_intros <;> first | exact .inr ⟨4, by decide +kernel⟩ | (unfold ValidRecord; decide +kernel) | decide +kernel)⟩,
   ⟨paired (image r0) 2 1 0, record 3 5 ([2, 3, 0, 0] ++ beBytes 2 1 ++ beBytes 10 0 ++ (List.replicate 12 2 ++ [0x88, 0xB5] ++ List.replicate 46 0)), sgRecOf (record 3 5 ([2, 3, 0, 0] ++ beBytes 2 1 ++ beBytes 10 0 ++ (List.replicate 12 2 ++ [0x88, 0xB5] ++ List.replicate 46 0))).payload, bundleOf (sgRecOf (record 3 5 ([2, 3, 0, 0] ++ beBytes 2 1 ++ beBytes 10 0 ++ (List.replicate 12 2 ++ [0x88, 0xB5] ++ List.replicate 46 0))).payload).bytes, (by and_intros <;> first | exact .inr ⟨4, by decide +kernel⟩ | (unfold ValidRecord; decide +kernel) | decide +kernel)⟩⟩

/-- States and operands that meet the hypotheses of each clause of `PartnerRecords`, part 3. -/
theorem witness_PartnerRecords_3 :
    (∃ (s : State) (r : BudRec) (d : Digest), budMode s = 1 ∧ ValidRecord s r ∧ r.claim = none ∧ NextRecord s r ∧ r.ty.toNat = 6 ∧ s.bud.own.find? (fun d => d.first == beAt r.payload 0 4 && d.last == beAt r.payload 4 4) = some d ∧ d.crc = BitVec.ofNat 32 (beAt r.payload 8 4)) ∧
    (∃ (s : State) (r : BudRec) (d : Digest), budMode s = 1 ∧ ValidRecord s r ∧ r.claim = none ∧ NextRecord s r ∧ r.ty.toNat = 6 ∧ s.bud.own.find? (fun d => d.first == beAt r.payload 0 4 && d.last == beAt r.payload 4 4) = some d ∧ d.crc ≠ BitVec.ofNat 32 (beAt r.payload 8 4) ∧ s.bud.diverged = none) ∧
    (∃ (s : State) (r : BudRec), budMode s = 3 ∧ ValidRecord s r ∧ r.claim = none ∧ NextRecord s r ∧ r.ty.toNat = 7 ∧ s.bud.pages = [] ∧ s.bud.resync = false) ∧
    (∃ (s : State) (r : BudRec), budMode s = 3 ∧ ValidRecord s r ∧ r.claim = none ∧ NextRecord s r ∧ r.ty.toNat = 7 ∧ s.bud.pages = [] ∧ s.bud.resync = true ∧ 1 < beAt r.payload 3 3) ∧
    (∃ (s : State) (r : BudRec), budMode s = 3 ∧ ValidRecord s r ∧ r.claim = none ∧ NextRecord s r ∧ r.ty.toNat = 7 ∧ s.bud.pages = [] ∧ s.bud.resync = true ∧ beAt r.payload 0 3 = 0 ∧ beAt r.payload 3 3 = 1 ∧ r.payload.length = 10 ∧ getF s 0x80014 15 0 ≤ 2000 ∧ s.bud.held = [] ∧ s.bud.live = []) ∧
    (∃ (s : State) (r : BudRec), ValidRecord s r ∧ NextRecord s r ∧ s.upd.reset = false ∧ r.ty.toNat = 8 ∧ s.upd.pair = 0) ∧
    (∃ (s : State) (r : BudRec), ValidRecord s r ∧ NextRecord s r ∧ s.upd.reset = false ∧ (r.ty.toNat = 0 ∨ 9 < r.ty.toNat) ∧ r.claim = none ∧ budMode s = 2) ∧
    (∃ (s : State) (r : BudRec), ValidRecord s r ∧ NextRecord s r ∧ s.upd.reset = false ∧ (r.ty.toNat = 0 ∨ 9 < r.ty.toNat) ∧ r.claim = none ∧ budMode s ≠ 2) :=
  ⟨⟨{ paired r0 1 1 0 with bud := { (paired r0 1 1 0).bud with own := [{ first := 1, last := 4, crc := 9 }] } }, record 6 5 (beBytes 4 1 ++ beBytes 4 4 ++ beBytes 4 9), { first := 1, last := 4, crc := 9 }, (by and_intros <;> first | exact .inr ⟨4, by decide +kernel⟩ | (unfold ValidRecord; decide +kernel) | decide +kernel)⟩,
   ⟨{ paired r0 1 1 0 with bud := { (paired r0 1 1 0).bud with own := [{ first := 1, last := 4, crc := 9 }] } }, record 6 5 (beBytes 4 1 ++ beBytes 4 4 ++ beBytes 4 8), { first := 1, last := 4, crc := 9 }, (by and_intros <;> first | exact .inr ⟨4, by decide +kernel⟩ | (unfold ValidRecord; decide +kernel) | decide +kernel)⟩,
   ⟨paired r0 3 1 0, record 7 5 [], (by and_intros <;> first | exact .inr ⟨4, by decide +kernel⟩ | (unfold ValidRecord; decide +kernel) | decide +kernel)⟩,
   ⟨{ paired r0 3 1 0 with bud := { (paired r0 3 1 0).bud with resync := true } }, record 7 5 (beBytes 3 0 ++ beBytes 3 2), (by and_intros <;> first | exact .inr ⟨4, by decide +kernel⟩ | (unfold ValidRecord; decide +kernel) | decide +kernel)⟩,
   ⟨{ paired r0 3 1 0 with bud := { (paired r0 3 1 0).bud with resync := true } }, record 7 5 (beBytes 3 0 ++ beBytes 3 1 ++ [0, 0, 0, 0]), (by and_intros <;> first | exact .inr ⟨4, by decide +kernel⟩ | (unfold ValidRecord; decide +kernel) | decide +kernel)⟩,
   ⟨paired r0 1 1 0, record 8 5 [], (by and_intros <;> first | exact .inr ⟨4, by decide +kernel⟩ | (unfold ValidRecord; decide +kernel) | decide +kernel)⟩,
   ⟨paired r0 2 1 0, record 10 5 [], (by and_intros <;> first | exact .inr ⟨4, by decide +kernel⟩ | (unfold ValidRecord; decide +kernel) | decide +kernel)⟩,
   ⟨paired r0 1 1 0, record 10 5 [], (by and_intros <;> first | exact .inr ⟨4, by decide +kernel⟩ | (unfold ValidRecord; decide +kernel) | decide +kernel)⟩⟩

/-- States and operands that meet the hypotheses of each clause of `PartnerRecords`, part 4. -/
theorem witness_PartnerRecords_4 :
    (∃ (s : State) (r : BudRec), ValidRecord s r ∧ NextRecord s r ∧ s.upd.reset = false ∧ r.ty.toNat = 9 ∧ leAt r.payload 0 1 = 0 ∧ inFlight (mbxAt s 9) < 8) ∧
    (∃ (s : State) (r : BudRec), ValidRecord s r ∧ NextRecord s r ∧ s.upd.reset = false ∧ r.ty.toNat = 9 ∧ leAt r.payload 0 1 = 1 ∧ r.claim = none) ∧
    (∃ (s : State) (r : BudRec), ValidRecord s r ∧ NextRecord s r ∧ s.upd.reset = false ∧ r.ty.toNat = 9 ∧ leAt r.payload 0 1 = 5 ∧ r.claim = none ∧ budMode s = 1 ∧ s.bud.diverged = none) ∧
    (∃ (s : State) (r : BudRec) (b : Fin 87), ValidRecord s r ∧ NextRecord s r ∧ s.upd.reset = false ∧ r.ty.toNat = 9 ∧ leAt r.payload 0 1 = 6 ∧ leAt r.payload 1 1 = b ∧ r.claim = none ∧ budMode s = 2 ∧ pairedCrc (cfgBlock b) = true ∧ crcWords (cfgWords s (cfgBlock b).1) ≠ BitVec.ofNat 32 (beAt r.payload 2 4)) ∧
    (∃ (s : State) (r : BudRec) (b : Fin 87), ValidRecord s r ∧ NextRecord s r ∧ s.upd.reset = false ∧ r.ty.toNat = 9 ∧ leAt r.payload 0 1 = 6 ∧ leAt r.payload 1 1 = b ∧ r.claim = none ∧ budMode s = 2 ∧ pairedCrc (cfgBlock b) = true ∧ crcWords (cfgWords s (cfgBlock b).1) = BitVec.ofNat 32 (beAt r.payload 2 4)) :=
  ⟨⟨paired r0 1 1 0, record 9 5 (List.replicate 17 0), (by and_intros <;> first | exact .inr ⟨4, by decide +kernel⟩ | (unfold ValidRecord; decide +kernel) | decide +kernel)⟩,
   ⟨paired r0 1 1 0, record 9 5 [1], (by and_intros <;> first | exact .inr ⟨4, by decide +kernel⟩ | (unfold ValidRecord; decide +kernel) | decide +kernel)⟩,
   ⟨paired r0 1 1 0, record 9 5 [5], (by and_intros <;> first | exact .inr ⟨4, by decide +kernel⟩ | (unfold ValidRecord; decide +kernel) | decide +kernel)⟩,
   ⟨paired r0 2 1 0, record 9 5 ([6, 9] ++ beBytes 4 5), 9, (by and_intros <;> first | exact .inr ⟨4, by decide +kernel⟩ | (unfold ValidRecord; decide +kernel) | decide +kernel)⟩,
   ⟨paired r0 2 1 0, record 9 5 ([6, 9] ++ beBytes 4 (crcWords (cfgWords (paired r0 2 1 0) (cfgBlock 9).1)).toNat), 9, (by and_intros <;> first | exact .inr ⟨4, by decide +kernel⟩ | (unfold ValidRecord; decide +kernel) | decide +kernel)⟩⟩

/-- States and operands that meet the hypotheses of each clause of `BuddyModes`, part 1. -/
theorem witness_BuddyModes_1 :
    (∃ (s : State), budIdle s = false) ∧
    (∃ (s : State) (f k b c : _), budIdle s = true ∧ c ∈ [Instr.claimFrameSend, .claimFrameReceived f, .partnerSilent, .laneDown k, .buddyLaneUp k b, .budAckSend]) ∧
    (∃ (s : State), budIdle s = false ∧ laneTest s = false) ∧
    (∃ (f : BitVec 32) (s : State), budIdle s = false ∧ claimOk f.toNat = false) ∧
    (∃ (f : BitVec 32) (s : State), budIdle s = false ∧ claimOk f.toNat = true) ∧
    (∃ (s : State), budIdle s = false ∧ s.bud.pHeard = true ∧ s.bud.pLast + 8000 ≤ ltNs s) ∧
    (∃ (s : State), budIdle s = false ∧ (s.bud.pHeard = false ∨ ltNs s < s.bud.pLast + 8000)) ∧
    (∃ (s : State), budIdle s = false ∧ budMode s = 3 ∧ partnerState s ≠ 1 ∧ partnerState s ≠ 2 ∧ beats s (ownCand s) (partnerCand s) = true ∧ s.bud.w + frcF s 0x8001C 15 0 * 1000000 ≤ ltNs s) :=
  ⟨⟨bud r0 1, by decide +kernel⟩,
   ⟨r0, 0, 0, true, Instr.budAckSend, by decide +kernel⟩,
   ⟨bud r0 1, by decide +kernel⟩,
   ⟨0, bud r0 1, by decide +kernel⟩,
   ⟨BitVec.ofNat 32 (claimOf 5 5 1), bud r0 1, by decide +kernel⟩,
   ⟨atNs (paired r0 1 2 0) 8000, by decide +kernel⟩,
   ⟨atNs (paired r0 1 2 0) 7999, by decide +kernel⟩,
   ⟨atNs (paired r0 3 3 0) 1000000000000, by decide +kernel⟩⟩

/-- States and operands that meet the hypotheses of each clause of `BuddyModes`, part 2. -/
theorem witness_BuddyModes_2 :
    (∃ (s : State), budIdle s = false ∧ (budMode s ≠ 3 ∨ ltNs s < s.bud.w + frcF s 0x8001C 15 0 * 1000000)) ∧
    (∃ (k j : Fin 2) (s : State), budIdle s = false ∧ j ≠ k ∧ ltNs s < laneSeen s k + 10000) ∧
    (∃ (k j : Fin 2) (s : State), budIdle s = false ∧ j ≠ k ∧ laneUp s k = true ∧ laneSeen s k + 10000 ≤ ltNs s ∧ laneUp s j = true) ∧
    (∃ (k j : Fin 2) (s : State), budIdle s = false ∧ j ≠ k ∧ laneUp s k = true ∧ laneSeen s k + 10000 ≤ ltNs s ∧ laneUp s j = false) ∧
    (∃ (k j : Fin 2) (s : State), budIdle s = false ∧ j ≠ k ∧ laneUp s k = false) ∧
    (∃ (s : State), budMode s ≠ 2 ∧ (budMode s ≠ 3 ∨ s.bud.resync = false)) ∧
    (∃ (s : State), budMode s = 3 ∧ s.bud.resync = true ∧ s.bud.wantPages = 0) ∧
    (∃ (s : State), budMode s = 2) :=
  ⟨⟨bud r0 1, by decide +kernel⟩,
   ⟨0, 1, bud r0 1, by decide +kernel⟩,
   ⟨0, 1, atNs (setF (bud r0 1) 0x80010 5 4 3) 10000, by decide +kernel⟩,
   ⟨0, 1, atNs (setF (bud r0 1) 0x80010 5 4 1) 10000, by decide +kernel⟩,
   ⟨0, 1, bud r0 1, by decide +kernel⟩,
   ⟨r0, by decide +kernel⟩,
   ⟨{ bud r0 3 with bud := { r0.bud with resync := true } }, by decide +kernel⟩,
   ⟨bud r0 2, by decide +kernel⟩⟩

/-- States and operands that meet the hypotheses of each clause of `BuddyModes`, part 3. -/
theorem witness_BuddyModes_3 :
    (∃ (s : State), s.bud.diverged = none) ∧
    (∃ (s : State), s.bud.diverged ≠ none) ∧
    (∃ (s : State), budIdle s = false ∧ budMode s = 3 ∧ (laneUp s 0 = true ∨ laneUp s 1 = true) ∧ ownCand s ≠ 0 ∧ (getB s 0x80008 1 = true ∨ s.bud.resync = true)) ∧
    (∃ (s : State), budIdle s = false ∧ budMode s = 1 ∧ partnerState s = 3 ∧ partnerCand s ≠ 0 ∧ laneTest s = false) ∧
    (∃ (s : State), (budIdle s = true ∨ budMode s = 2)) :=
  ⟨⟨r0, by decide +kernel⟩,
   ⟨{ r0 with bud := { r0.bud with diverged := some (1, 2, 3) } }, by decide +kernel⟩,
   ⟨setB (setF (paired r0 3 1 0) 0x80010 4 4 1) 0x80008 1 true, by decide +kernel⟩,
   ⟨paired r0 1 3 0, by decide +kernel⟩,
   ⟨r0, by decide +kernel⟩⟩

/-- States and operands that meet the hypotheses of each clause of `ServicePort`, part 1. -/
theorem witness_ServicePort_1 :
    (∃ (f : List Byte) (s : State), spServes s = true ∧ arpFor f s.upd.svc.ip = true) ∧
    (∃ (f : List Byte) (s : State), spServes s = true ∧ arpFor f s.upd.svc.ip = false) ∧
    (∃ (f : List Byte) (s : State) (c : _), spServes s = false ∧ c ∈ [Instr.serviceArp f, .serviceDatagram f, .rescueRequest f]) ∧
    (∃ (f : List Byte) (s : State), spServes s = true ∧ (svcUdp s f = false ∨ svcForm (svcData f) 0 = false ∨ s.boot.rescue = true ∨ s.upd.svc.auth = true ∧ svcMacOk s (svcData f) = false)) ∧
    (∃ (f : List Byte) (s : State), spServes s = true ∧ (svcUdp s f = false ∨ svcForm (svcData f) 3 = false ∨ s.boot.rescue = false)) ∧
    (∃ (f : List Byte) (s : State), spServes s = true ∧ svcUdp s f = true ∧ svcForm (svcData f) 0 = true ∧ s.boot.rescue = false ∧ (s.upd.svc.auth = false ∨ svcMacOk s (svcData f) = true) ∧ (s.upd.client = none ∨ (∃ c, s.upd.client = some c ∧ (c = svcFrom f ∨ svcHeld s = false) ∧ seqNewer (svcSeq (svcData f)) s.upd.clientSeq = true ∧ svcBusy s = false)) ∧ inFlight (mbxAt s 8) < 8) ∧
    (∃ (f : List Byte) (s : State) (c bs : _), spServes s = true ∧ svcUdp s f = true ∧ svcForm (svcData f) 0 = true ∧ s.boot.rescue = false ∧ (s.upd.svc.auth = false ∨ svcMacOk s (svcData f) = true) ∧ s.upd.client = some c ∧ (c = svcFrom f ∨ svcHeld s = false) ∧ svcSeq (svcData f) = s.upd.clientSeq ∧ s.upd.resp = some bs ∧ ((if svcTooLong s s.upd.svc bs then svcReply s s.upd.svc f 5 s.upd.clientSeq (bs.take 16) else svcReply s s.upd.svc f 1 s.upd.clientSeq bs)).isSome = true) ∧
    (∃ (f : List Byte) (s : State) (c : _), spServes s = true ∧ svcUdp s f = true ∧ svcForm (svcData f) 0 = true ∧ s.boot.rescue = false ∧ (s.upd.svc.auth = false ∨ svcMacOk s (svcData f) = true) ∧ s.upd.client = some c ∧ (c = svcFrom f ∨ svcHeld s = false) ∧ svcSeq (svcData f) = s.upd.clientSeq ∧ s.upd.resp = none) :=
  ⟨⟨arpFrame 0xA9FE6401, spUp r0, by decide +kernel⟩,
   ⟨arpFrame 1, spUp r0, by decide +kernel⟩,
   ⟨[], r0, Instr.serviceArp [], by decide +kernel⟩,
   ⟨[], spUp r0, by decide +kernel⟩,
   ⟨[], spUp r0, by decide +kernel⟩,
   ⟨datagram 0 5 (List.replicate 16 0), spUp r0, (by and_intros <;> first | exact .inl (by decide +kernel) | decide +kernel)⟩,
   ⟨datagram 0 5 (List.replicate 16 0), client (spUp r0) (svcFrom (datagram 0 5 (List.replicate 16 0))) 5 (some [1]), svcFrom (datagram 0 5 (List.replicate 16 0)), [1], by decide +kernel⟩,
   ⟨datagram 0 5 (List.replicate 16 0), client (spUp r0) (svcFrom (datagram 0 5 (List.replicate 16 0))) 5 none, svcFrom (datagram 0 5 (List.replicate 16 0)), by decide +kernel⟩⟩

/-- States and operands that meet the hypotheses of each clause of `ServicePort`, part 2. -/
theorem witness_ServicePort_2 :
    (∃ (f : List Byte) (s : State) (c : _), spServes s = true ∧ svcUdp s f = true ∧ svcForm (svcData f) 0 = true ∧ s.boot.rescue = false ∧ (s.upd.svc.auth = false ∨ svcMacOk s (svcData f) = true) ∧ s.upd.client = some c ∧ (c = svcFrom f ∨ svcHeld s = false) ∧ svcSeq (svcData f) ≠ s.upd.clientSeq ∧ (seqNewer (svcSeq (svcData f)) s.upd.clientSeq = false ∨ svcBusy s = true)) ∧
    (∃ (f : List Byte) (s : State) (c : _), spServes s = true ∧ svcUdp s f = true ∧ svcForm (svcData f) 0 = true ∧ s.boot.rescue = false ∧ (s.upd.svc.auth = false ∨ svcMacOk s (svcData f) = true) ∧ s.upd.client = some c ∧ c ≠ svcFrom f ∧ svcHeld s = true ∧ (svcReply s s.upd.svc f 2 (svcSeq (svcData f)) []).isSome = true) ∧
    (∃ (f : List Byte) (s : State) (r : Req), s.boot.rescue = true ∧ svcUdp s f = true ∧ svcForm (svcData f) 3 = true ∧ s.upd.client = none ∧ s.upd.reset = false ∧ r = rescueReq (svcBody (svcData f)) ∧ (r.code < 0x0901 ∨ 0x0905 < r.code ∨ r.len + 16 ≠ (svcBody (svcData f)).length ∨ r.code = 0x0901 ∧ r.len = 0)) ∧
    (∃ (f : List Byte) (s : State) (c : Nat × Nat), s.boot.rescue = true ∧ svcUdp s f = true ∧ svcForm (svcData f) 3 = true ∧ s.upd.client = some c ∧ s.upd.reset = false ∧ c ≠ svcFrom f ∧ svcHeld s = true ∧ (svcReply s s.upd.svc f 2 (svcSeq (svcData f)) []).isSome = true) ∧
    (∃ (f : List Byte) (s : State) (c : Nat × Nat) (bs : _), s.boot.rescue = true ∧ svcUdp s f = true ∧ svcForm (svcData f) 3 = true ∧ s.upd.client = some c ∧ s.upd.reset = false ∧ (c = svcFrom f ∨ svcHeld s = false) ∧ svcSeq (svcData f) = s.upd.clientSeq ∧ s.upd.resp = some bs ∧ (svcReply s s.upd.svc f 4 s.upd.clientSeq bs).isSome = true) ∧
    (∃ (f : List Byte) (s : State) (c : Nat × Nat), s.boot.rescue = true ∧ svcUdp s f = true ∧ svcForm (svcData f) 3 = true ∧ s.upd.client = some c ∧ s.upd.reset = false ∧ (c = svcFrom f ∨ svcHeld s = false) ∧ svcSeq (svcData f) ≠ s.upd.clientSeq ∧ (seqNewer (svcSeq (svcData f)) s.upd.clientSeq = false ∨ svcBusy s = true)) :=
  ⟨⟨datagram 0 5 (List.replicate 16 0), client (spUp r0) (svcFrom (datagram 0 5 (List.replicate 16 0))) 9 none, svcFrom (datagram 0 5 (List.replicate 16 0)), by decide +kernel⟩,
   ⟨datagram 0 5 (List.replicate 16 0), client (spUp r0) (1, 1) 9 none, (1, 1), by decide +kernel⟩,
   ⟨datagram 3 5 (leBytes 2 0x0901 ++ List.replicate 14 0), rescued r0, rescueReq (svcBody (svcData (datagram 3 5 (leBytes 2 0x0901 ++ List.replicate 14 0)))), by decide +kernel⟩,
   ⟨datagram 3 5 (leBytes 2 0x0901 ++ List.replicate 14 0), client (rescued r0) (1, 1) 9 none, (1, 1), by decide +kernel⟩,
   ⟨datagram 3 5 (leBytes 2 0x0901 ++ List.replicate 14 0), client (rescued r0) (svcFrom (datagram 3 5 (leBytes 2 0x0901 ++ List.replicate 14 0))) 5 (some [1]), svcFrom (datagram 3 5 (leBytes 2 0x0901 ++ List.replicate 14 0)), [1], by decide +kernel⟩,
   ⟨datagram 3 5 (leBytes 2 0x0901 ++ List.replicate 14 0), client (rescued r0) (svcFrom (datagram 3 5 (leBytes 2 0x0901 ++ List.replicate 14 0))) 9 none, svcFrom (datagram 3 5 (leBytes 2 0x0901 ++ List.replicate 14 0)), by decide +kernel⟩⟩

/-- States and operands that meet the hypotheses of each clause of `UpdateCommands`, part 1. -/
theorem witness_UpdateCommands_1 :
    (∃ (m : Mbx) (s : State) (x : MbxReq), Asks s m 0x0901 x ∧ leAt x.hdr 6 2 = 0) ∧
    (∃ (m : Mbx) (s : State) (x : MbxReq), Asks s m 0x0902 x ∧ leAt x.hdr 6 2 = 0 ∧ leAt x.hdr 4 1 = 0 ∧ s.upd.mode = 0 ∧ budMode s < 2) ∧
    (∃ (m : Mbx) (s : State) (x : MbxReq), Asks s m 0x0902 x ∧ leAt x.hdr 6 2 = 0 ∧ leAt x.hdr 4 1 = 0 ∧ (s.upd.mode ≠ 0 ∨ 2 ≤ budMode s)) ∧
    (∃ (m : Mbx) (s : State) (x : MbxReq) (n : Nat), Asks s m 0x0903 x ∧ leAt x.hdr 4 1 = 0 ∧ leAt x.hdr 6 2 = 4 + n ∧ 4 ≤ n ∧ n ≤ 1024 ∧ n % 4 = 0 ∧ x.fields.length = 4 + n ∧ (staging s = false ∨ 2 ≤ budMode s)) ∧
    (∃ (m : Mbx) (s : State) (x : MbxReq) (off n : Nat), Asks s m 0x0903 x ∧ leAt x.hdr 4 1 = 0 ∧ leAt x.hdr 6 2 = 4 + n ∧ 4 ≤ n ∧ n ≤ 1024 ∧ n % 4 = 0 ∧ x.fields.length = 4 + n ∧ off = leAt x.fields 0 4 ∧ staging s = true ∧ budMode s < 2 ∧ off % 4 = 0 ∧ off + n ≤ imageEnd ∧ (imageWords off n).any (writtenBefore s) = false) ∧
    (∃ (m : Mbx) (s : State) (x : MbxReq) (off n : Nat), Asks s m 0x0903 x ∧ leAt x.hdr 4 1 = 0 ∧ leAt x.hdr 6 2 = 4 + n ∧ 4 ≤ n ∧ n ≤ 1024 ∧ n % 4 = 0 ∧ x.fields.length = 4 + n ∧ off = leAt x.fields 0 4 ∧ staging s = true ∧ budMode s < 2 ∧ (off % 4 ≠ 0 ∨ imageEnd < off + n ∨ (imageWords off n).any (writtenBefore s) = true)) ∧
    (∃ (m : Mbx) (s : State) (x : MbxReq), Asks s m 0x0904 x ∧ leAt x.hdr 6 2 = 0 ∧ leAt x.hdr 4 1 = 0 ∧ staging s = true) ∧
    (∃ (m : Mbx) (s : State) (x : MbxReq), Asks s m 0x0904 x ∧ leAt x.hdr 6 2 = 0 ∧ leAt x.hdr 4 1 = 0 ∧ staging s = false) :=
  ⟨⟨0, asks (r0) 0 (req 0x0901 0 []), req 0x0901 0 [], by unfold Asks; decide +kernel⟩,
   ⟨0, asks (r0) 0 (req 0x0902 0 []), req 0x0902 0 [], by unfold Asks; decide +kernel⟩,
   ⟨0, asks (updating r0 1 false) 0 (req 0x0902 0 []), req 0x0902 0 [], by unfold Asks; decide +kernel⟩,
   ⟨0, asks (r0) 0 (req 0x0903 0 (leBytes 4 imageEnd ++ [1, 2, 3, 4])), req 0x0903 0 (leBytes 4 imageEnd ++ [1, 2, 3, 4]), 4, by unfold Asks; decide +kernel⟩,
   ⟨0, asks (updating r0 1 false) 0 (req 0x0903 0 (leBytes 4 (imageEnd - 4) ++ [1, 2, 3, 4])), req 0x0903 0 (leBytes 4 (imageEnd - 4) ++ [1, 2, 3, 4]), leAt (req 0x0903 0 (leBytes 4 (imageEnd - 4) ++ [1, 2, 3, 4])).fields 0 4, 4, by unfold Asks; decide +kernel⟩,
   ⟨0, asks (updating r0 1 false) 0 (req 0x0903 0 (leBytes 4 imageEnd ++ [1, 2, 3, 4])), req 0x0903 0 (leBytes 4 imageEnd ++ [1, 2, 3, 4]), leAt (req 0x0903 0 (leBytes 4 imageEnd ++ [1, 2, 3, 4])).fields 0 4, 4, by unfold Asks; decide +kernel⟩,
   ⟨0, asks (updating r0 1 false) 0 (req 0x0904 0 []), req 0x0904 0 [], by unfold Asks; decide +kernel⟩,
   ⟨0, asks (r0) 0 (req 0x0904 0 []), req 0x0904 0 [], by unfold Asks; decide +kernel⟩⟩

/-- States and operands that meet the hypotheses of each clause of `UpdateCommands`, part 2. -/
theorem witness_UpdateCommands_2 :
    (∃ (m : Mbx) (s : State) (x : MbxReq) (a : Nat), Asks s m 0x0905 x ∧ leAt x.hdr 6 2 = 4 ∧ leAt x.hdr 4 1 = 0 ∧ a = leAt x.fields 0 1 ∧ s.upd.reset = false ∧ s.upd.mode = 1 ∧ s.upd.verified = true ∧ budMode s = 0 ∧ (a = 0 ∧ s.upd.live = true ∧ s.boot.rescue = false ∨ a = 1)) ∧
    (∃ (m : Mbx) (s : State) (x : MbxReq) (a : Nat), Asks s m 0x0905 x ∧ leAt x.hdr 6 2 = 4 ∧ leAt x.hdr 4 1 = 0 ∧ a = leAt x.fields 0 1 ∧ s.upd.reset = false ∧ s.upd.mode = 1 ∧ s.upd.verified = true ∧ budMode s = 1 ∧ partnerState s ≠ 2 ∧ (a = 0 ∧ s.upd.live = true ∧ s.boot.rescue = false ∨ a = 1)) ∧
    (∃ (m : Mbx) (s : State) (x : MbxReq), Asks s m 0x0905 x ∧ leAt x.hdr 6 2 = 4 ∧ leAt x.hdr 4 1 = 0 ∧ s.upd.reset = false ∧ (s.upd.mode ≠ 1 ∨ s.upd.verified = false ∨ 2 ≤ budMode s)) ∧
    (∃ (m : Mbx) (s : State) (x : MbxReq) (a : Nat), Asks s m 0x0905 x ∧ leAt x.hdr 6 2 = 4 ∧ leAt x.hdr 4 1 = 0 ∧ a = leAt x.fields 0 1 ∧ s.upd.reset = false ∧ s.upd.mode = 1 ∧ s.upd.verified = true ∧ budMode s < 2 ∧ 1 < a) ∧
    (∃ (m : Mbx) (s : State) (x : MbxReq), leAt x.hdr 6 2 = 0 ∧ leAt x.hdr 4 1 = 0 ∧ Asks s m 0x0906 x ∧ runsNewest s = true) ∧
    (∃ (m : Mbx) (s : State) (x : MbxReq), leAt x.hdr 6 2 = 0 ∧ leAt x.hdr 4 1 = 0 ∧ Asks s m 0x0906 x ∧ runsNewest s = false) ∧
    (∃ (m : Mbx) (s : State) (x : MbxReq), leAt x.hdr 6 2 = 0 ∧ leAt x.hdr 4 1 = 0 ∧ Asks s m 0x0907 x ∧ s.upd.reset = false ∧ s.upd.mode = 0) ∧
    (∃ (m : Mbx) (s : State) (x : MbxReq), leAt x.hdr 6 2 = 0 ∧ leAt x.hdr 4 1 = 0 ∧ Asks s m 0x0907 x ∧ s.upd.reset = false ∧ s.upd.mode = 1) :=
  ⟨⟨0, asks (updating r0 1 true) 0 (req 0x0905 0 [1, 0, 0, 0]), req 0x0905 0 [1, 0, 0, 0], leAt (req 0x0905 0 [1, 0, 0, 0]).fields 0 1, by unfold Asks; decide +kernel⟩,
   ⟨0, asks (updating (bud r0 1) 1 true) 0 (req 0x0905 0 [1, 0, 0, 0]), req 0x0905 0 [1, 0, 0, 0], leAt (req 0x0905 0 [1, 0, 0, 0]).fields 0 1, by unfold Asks; decide +kernel⟩,
   ⟨0, asks (r0) 0 (req 0x0905 0 [0, 0, 0, 0]), req 0x0905 0 [0, 0, 0, 0], by unfold Asks; decide +kernel⟩,
   ⟨0, asks (updating r0 1 true) 0 (req 0x0905 0 [2, 0, 0, 0]), req 0x0905 0 [2, 0, 0, 0], leAt (req 0x0905 0 [2, 0, 0, 0]).fields 0 1, by unfold Asks; decide +kernel⟩,
   ⟨0, asks (recorded r0) 0 (req 0x0906 0 []), req 0x0906 0 [], by unfold Asks; decide +kernel⟩,
   ⟨0, asks (r0) 0 (req 0x0906 0 []), req 0x0906 0 [], by unfold Asks; decide +kernel⟩,
   ⟨0, asks (r0) 0 (req 0x0907 0 []), req 0x0907 0 [], by unfold Asks; decide +kernel⟩,
   ⟨0, asks (updating r0 1 false) 0 (req 0x0907 0 []), req 0x0907 0 [], by unfold Asks; decide +kernel⟩⟩

/-- States and operands that meet the hypotheses of each clause of `UpdateCommands`, part 3. -/
theorem witness_UpdateCommands_3 :
    (∃ (m : Mbx) (s : State) (x : MbxReq), leAt x.hdr 6 2 = 0 ∧ leAt x.hdr 4 1 = 0 ∧ Asks s m 0x0907 x ∧ s.upd.reset = false ∧ s.upd.mode = 2 ∧ s.upd.pair = 0) ∧
    (∃ (m : Mbx) (s : State) (x : MbxReq) (k : Nat), Asks s m 0x0908 x ∧ leAt x.hdr 6 2 = 12 ∧ leAt x.hdr 4 1 = 0 ∧ k = leAt x.fields 8 2 ∧ k ≤ 1023 ∧ svcKeyOk s k = true) ∧
    (∃ (m : Mbx) (s : State) (x : MbxReq) (k : Nat), Asks s m 0x0908 x ∧ leAt x.hdr 6 2 = 12 ∧ leAt x.hdr 4 1 = 0 ∧ k = leAt x.fields 8 2 ∧ k ≤ 1023 ∧ svcKeyOk s k = false) ∧
    (∃ (m : Mbx) (s : State) (x : MbxReq) (k : Nat), Asks s m 0x0908 x ∧ leAt x.hdr 6 2 = 12 ∧ leAt x.hdr 4 1 = 0 ∧ k = leAt x.fields 8 2 ∧ 1023 < k) ∧
    (∃ (m : Mbx) (s : State) (x : MbxReq) (p : Nat), Asks s m 0x0909 x ∧ leAt x.hdr 6 2 = 36 ∧ leAt x.hdr 4 1 = 0 ∧ p = leAt x.fields 0 1 ∧ p ≤ 3 ∧ s.otp.keys.length = 4 ∧ leAt x.fields 1 1 = 0 ∧ p ≠ 0 ∧ (keyPosition s p).1 = []) ∧
    (∃ (m : Mbx) (s : State) (x : MbxReq) (p : Nat), Asks s m 0x0909 x ∧ leAt x.hdr 6 2 = 36 ∧ leAt x.hdr 4 1 = 0 ∧ p = leAt x.fields 0 1 ∧ p ≤ 3 ∧ s.otp.keys.length = 4 ∧ leAt x.fields 1 1 = 0 ∧ (p = 0 ∨ (keyPosition s p).1 ≠ [])) ∧
    (∃ (m : Mbx) (s : State) (x : MbxReq) (p : Nat), Asks s m 0x0909 x ∧ leAt x.hdr 6 2 = 36 ∧ leAt x.hdr 4 1 = 0 ∧ p = leAt x.fields 0 1 ∧ p ≤ 3 ∧ s.otp.keys.length = 4 ∧ leAt x.fields 1 1 = 1 ∧ otherKeys s p = true) ∧
    (∃ (m : Mbx) (s : State) (x : MbxReq) (p : Nat), Asks s m 0x0909 x ∧ leAt x.hdr 6 2 = 36 ∧ leAt x.hdr 4 1 = 0 ∧ p = leAt x.fields 0 1 ∧ p ≤ 3 ∧ s.otp.keys.length = 4 ∧ leAt x.fields 1 1 = 1 ∧ (keyPosition s p).1 ≠ [] ∧ (keyPosition s p).2 = false ∧ otherKeys s p = false) :=
  ⟨⟨0, asks (updating r0 2 true) 0 (req 0x0907 0 []), req 0x0907 0 [], by unfold Asks; decide +kernel⟩,
   ⟨0, asks (setUsageCur r0 1023 8) 0 (req 0x0908 0 (leBytes 4 1 ++ leBytes 2 9 ++ [0, 0] ++ leBytes 2 1023 ++ [0, 0])), req 0x0908 0 (leBytes 4 1 ++ leBytes 2 9 ++ [0, 0] ++ leBytes 2 1023 ++ [0, 0]), leAt (req 0x0908 0 (leBytes 4 1 ++ leBytes 2 9 ++ [0, 0] ++ leBytes 2 1023 ++ [0, 0])).fields 8 2, by unfold Asks; decide +kernel⟩,
   ⟨0, asks (r0) 0 (req 0x0908 0 (leBytes 4 1 ++ leBytes 2 9 ++ [0, 0] ++ leBytes 2 1023 ++ [0, 0])), req 0x0908 0 (leBytes 4 1 ++ leBytes 2 9 ++ [0, 0] ++ leBytes 2 1023 ++ [0, 0]), leAt (req 0x0908 0 (leBytes 4 1 ++ leBytes 2 9 ++ [0, 0] ++ leBytes 2 1023 ++ [0, 0])).fields 8 2, by unfold Asks; decide +kernel⟩,
   ⟨0, asks (r0) 0 (req 0x0908 0 (leBytes 4 1 ++ leBytes 2 9 ++ [0, 0] ++ leBytes 2 1024 ++ [0, 0])), req 0x0908 0 (leBytes 4 1 ++ leBytes 2 9 ++ [0, 0] ++ leBytes 2 1024 ++ [0, 0]), leAt (req 0x0908 0 (leBytes 4 1 ++ leBytes 2 9 ++ [0, 0] ++ leBytes 2 1024 ++ [0, 0])).fields 8 2, by unfold Asks; decide +kernel⟩,
   ⟨0, asks (r0) 0 (req 0x0909 0 ([1, 0, 0, 0] ++ List.replicate 32 9)), req 0x0909 0 ([1, 0, 0, 0] ++ List.replicate 32 9), leAt (req 0x0909 0 ([1, 0, 0, 0] ++ List.replicate 32 9)).fields 0 1, by unfold Asks; decide +kernel⟩,
   ⟨0, asks (r0) 0 (req 0x0909 0 ([0, 0, 0, 0] ++ List.replicate 32 9)), req 0x0909 0 ([0, 0, 0, 0] ++ List.replicate 32 9), leAt (req 0x0909 0 ([0, 0, 0, 0] ++ List.replicate 32 9)).fields 0 1, by unfold Asks; decide +kernel⟩,
   ⟨0, asks (setKeyPosition r0 0 ([9], false)) 0 (req 0x0909 0 ([1, 1, 0, 0] ++ List.replicate 32 9)), req 0x0909 0 ([1, 1, 0, 0] ++ List.replicate 32 9), leAt (req 0x0909 0 ([1, 1, 0, 0] ++ List.replicate 32 9)).fields 0 1, by unfold Asks; decide +kernel⟩,
   ⟨0, asks (setKeyPosition (setKeyPosition r0 0 ([], false)) 1 ([9], false)) 0 (req 0x0909 0 ([1, 1, 0, 0] ++ List.replicate 32 9)), req 0x0909 0 ([1, 1, 0, 0] ++ List.replicate 32 9), leAt (req 0x0909 0 ([1, 1, 0, 0] ++ List.replicate 32 9)).fields 0 1, by unfold Asks; decide +kernel⟩⟩

/-- States and operands that meet the hypotheses of each clause of `UpdateCommands`, part 4. -/
theorem witness_UpdateCommands_4 :
    ∃ (m : Mbx) (s : State) (x : MbxReq) (p : Nat), Asks s m 0x0909 x ∧ leAt x.hdr 6 2 = 36 ∧ leAt x.hdr 4 1 = 0 ∧ p = leAt x.fields 0 1 ∧ p ≤ 3 ∧ s.otp.keys.length = 4 ∧ 1 < leAt x.fields 1 1 :=
  ⟨0, asks (r0) 0 (req 0x0909 0 ([3, 2, 0, 0] ++ List.replicate 32 9)), req 0x0909 0 ([3, 2, 0, 0] ++ List.replicate 32 9), leAt (req 0x0909 0 ([3, 2, 0, 0] ++ List.replicate 32 9)).fields 0 1, by unfold Asks; decide +kernel⟩

/-- States and operands that meet the hypotheses of each clause of `SwapsAndTrial`, part 1. -/
theorem witness_SwapsAndTrial_1 :
    (∃ (s : State), s.upd.swaps = 1) ∧
    (∃ (s : State), s.upd.swaps ≠ 1) ∧
    (∃ (s : State), s.upd.swaps = 2) ∧
    (∃ (s : State), s.upd.swaps ≠ 2) ∧
    (∃ (s : State), s.upd.swaps = 3 ∧ inService s = 0) ∧
    (∃ (s : State), (s.upd.swaps ≠ 3 ∨ inService s ≠ 0)) ∧
    (∃ (s : State), s.upd.swaps = 4 ∧ s.upd.trial ≠ none ∧ s.lan.waiting = none ∧ s.mir.waiting = []) ∧
    (∃ (s : State), s.upd.swaps ≠ 4) :=
  ⟨⟨swaps r0 1, by decide +kernel⟩,
   ⟨r0, by decide +kernel⟩,
   ⟨swaps r0 2, by decide +kernel⟩,
   ⟨r0, by decide +kernel⟩,
   ⟨swaps r0 3, by decide +kernel⟩,
   ⟨r0, by decide +kernel⟩,
   ⟨swaps r0 4, by decide +kernel⟩,
   ⟨r0, by decide +kernel⟩⟩

/-- States and operands that meet the hypotheses of each clause of `SwapsAndTrial`, part 2. -/
theorem witness_SwapsAndTrial_2 :
    (∃ (s : State), trialOver s = true) ∧
    (∃ (s : State), trialOver s = false) :=
  ⟨⟨ticks (swaps r0 2) 32768, by decide +kernel⟩,
   ⟨ticks (swaps r0 2) 32767, by decide +kernel⟩⟩

/-- States and operands that meet the hypotheses of each clause of `CompletionReleasesTheSource`. -/
theorem witness_CompletionReleasesTheSource :
    (∃ (q : Requester) (t : Fin 9) (data : Word) (s : State) (n : Nat), (t.val = 8 → q = .supervisor) ∧ n = fld data 8 0 ∧ heldBy s t n = true) ∧
    (∃ (q : Requester) (t : Fin 9) (data : Word) (s : State) (n : Nat), (t.val = 8 → q = .supervisor) ∧ n = fld data 8 0 ∧ heldBy s t n = false) ∧
    (∃ (q : Requester), q ≠ .supervisor) :=
  ⟨⟨.host, 1, 5, { r0 with irq := { r0.irq with insvc := srcBit 5, owner := SMap.set (fun _ => 15) r0.irq.owner 5 1 } }, fld (5 : Word) 8 0, by decide +kernel⟩,
   ⟨.host, 1, 5, r0, fld (5 : Word) 8 0, by decide +kernel⟩,
   ⟨.host, by decide +kernel⟩⟩

/-- States and operands that meet the hypotheses of each clause of `StandbyIgnoresItsOwn`. -/
theorem witness_StandbyIgnoresItsOwn :
    (∃ (s : State) (q : Requester) (n : Chan) (a : Fin 12) (data : Word) (ch : BitVec 6) (ob : ApObj) (hi : Bool) (c : _), budMode s = 2 ∧ c ∈ [Instr.modeReqWrite q n data, .recover q n, .canCntClr q n, .tdcMeasClr q n, .motClrOne q ch, .motClrAll q, .rtEnSet q data, .rtEnClear q data, .seCntClr q, .sweepPause q data, .sweepResume q data, .sigImgCntClr q, .lanCmdSleep q data, .lanCmdWake q data, .mirEnSet q data, .mirEnClear q data, .sigMirCntClr q, .apertureModeWrite q a data, .apertureRecover q a, .apertureTxreq q a ob data, .apertureValidWrite q a ob data, .apertureDataWrite q a ob hi data]) ∧
    (∃ (s : State) (i : Fin 768) (j : Fin 256) (k : Fin 1024) (l : Fin 2048) (c : _), budMode s = 2 ∧ c ∈ [Instr.tstFirePeriodic i, .tstChangeFire i, .dstFirePeriodic j, .timeoutScan, .pubFirePeriodic k, .pubChangePass k, .subTimeout k, .tttFirePeriodic l, .sweeperVisit]) ∧
    (∃ (s : State) (pg : Page) (c : Instr) (tab op i : Nat), (c, tab, op) ∈ [(Instr.motWrite pg, 1, 2), (.motClear pg, 1, 3), (.tstWrite pg, 4, 2), (.sdpWrite pg, 5, 2), (.dstClear pg, 8, 3), (.pubWrite pg, 9, 2), (.subWrite pg, 0xA, 2), (.tttClear pg, 0xD, 3), (.sltWrite pg, 0x17, 2), (.tstSend pg, 4, 8), (.pubSend pg, 9, 8)] ∧ budMode s = 2 ∧ s.bud.executing = none ∧ relocating s pg = false ∧ getB s (pageR pg 8) 0 = true ∧ pageTab s pg = tab ∧ pageOp s pg = op ∧ getB s (pageR pg 0) 16 = false ∧ getF s (pageR pg 4) 19 0 = i) ∧
    (∃ (m : Mbx) (s : State) (x : MbxReq), budMode s = 2 ∧ s.bud.executing = none ∧ Asks s m 0x0702 x ∧ leAt x.hdr 6 2 = 8 ∧ maskComp s (reqOf m false x) (leAt x.fields 0 8) = true) ∧
    (∃ (m : Mbx) (s : State) (x : MbxReq), budMode s = 2 ∧ s.bud.executing = none ∧ Asks s m 0x0706 x ∧ leAt x.hdr 6 2 = 4 ∧ leAt x.hdr 4 1 = 0) :=
  ⟨⟨bud r0 2, .host, 3, 0, 0, 0, .base 0, false, Instr.recover .host 3, by decide +kernel⟩,
   ⟨bud r0 2, 3, 3, 3, 3, Instr.timeoutScan, by decide +kernel⟩,
   ⟨bud (page r0 0 4 2 5 []) 2, 0, .tstWrite 0, 4, 2, 5, by decide +kernel⟩,
   ⟨0, asks (bud r0 2) 0 (req 0x0702 0 (leBytes 8 3)), req 0x0702 0 (leBytes 8 3), by unfold Asks; decide +kernel⟩,
   ⟨0, asks (bud r0 2) 0 (req 0x0706 0 [2, 0, 0, 0]), req 0x0706 0 [2, 0, 0, 0], by unfold Asks; decide +kernel⟩⟩

/-- States and operands that meet the hypotheses of each clause of `ImageRowsKeepCarriers`, part 1. -/
theorem witness_ImageRowsKeepCarriers_1 :
    (∃ (s : State), imageReady s = true ∧ budMode s ≠ 2 ∧ getB s 0x1A0008 0 = true) ∧
    (∃ (q : Requester) (s : State), budMode s ≠ 2 ∧ keyOk s q = true ∧ getB s 0x1A0008 0 = true ∧ s.sweepRunFrom = none) ∧
    (∃ (q : Requester) (s : State), budMode s ≠ 2 ∧ keyOk s q = true ∧ getB s 0x1A0008 0 = false) ∧
    (∃ (s : State) (p : Nat), s.sweepPauseAt = some p ∧ p + 60000000000 ≤ ltNs s) ∧
    (∃ (s : State), (s.cache.map Prod.fst).Nodup) ∧
    (∃ (i : Fin 64) (s : State), imageReady s = true ∧ houseIdx i.val = true ∧ getF s 0x7000C 1 0 ≤ 1 ∧ segMode s (gsid (ownVeh s) 63 i.val) = 0) ∧
    (∃ (s : State), 3 ≤ s.boot.stage ∧ ready s 7 = true ∧ s.boot.todo.contains 9 = false ∧ s.boot.rescue = false ∧ s.boot.resume = false ∧ imageReady s = false ∧ powerState s < 2) ∧
    (∃ (s : State), s.boot.resume = true ∧ ready s 7 = true ∧ powerState s < 2) :=
  ⟨⟨image r0, by decide +kernel⟩,
   ⟨.host, setArmed (image r0) .host true, by decide +kernel⟩,
   ⟨.host, setArmed (setB r0 0x1A0008 0 false) .host true, by decide +kernel⟩,
   ⟨{ atNs r0 60000000000 with sweepPauseAt := some 0 }, 0, by decide +kernel⟩,
   ⟨cached r0 9, by decide +kernel⟩,
   ⟨8, image r0, by decide +kernel⟩,
   ⟨setB (stage r0 4) 0x14 7 true, by decide +kernel⟩,
   ⟨{ setB r0 0x14 7 true with boot := { r0.boot with resume := true } }, by decide +kernel⟩⟩

/-- States and operands that meet the hypotheses of each clause of `ImageRowsKeepCarriers`, part 2. -/
theorem witness_ImageRowsKeepCarriers_2 :
    (∃ (m : Mbx) (s : State) (x : MbxReq) (v seg new : _), imageReady s = true ∧ budMode s ≠ 2 ∧ Asks s m 0x0301 x ∧ leAt x.hdr 6 2 = 4 ∧ v = leAt x.fields 0 1 ∧ seg = leAt x.fields 1 1 ∧ new = leAt x.fields 2 1 ∧ v ≤ 63 ∧ seg ≤ 63 ∧ new ≤ 2 ∧ (¬ (v = ownVeh s ∧ seg = 63)) ∧ leAt x.hdr 4 1 = 0 ∧ s.passes = []) ∧
    (∃ (m : Mbx) (s : State) (x : MbxReq) (k : _), imageReady s = true ∧ budMode s ≠ 2 ∧ Asks s m 0x0302 x ∧ k = leAt x.fields 0 2 ∧ 1 ≤ k ∧ k ≤ 64 ∧ leAt x.hdr 6 2 = 4 + 4 * k ∧ leAt x.hdr 4 1 = 0 ∧ (∀ g ∈ gsidsOf (reqOf m false x), g < 2 ^ 25)) ∧
    (∃ (m : Mbx) (s : State) (x : MbxReq), imageReady s = true ∧ budMode s ≠ 2 ∧ Asks s m 0x0303 x ∧ leAt x.hdr 4 1 = 0 ∧ leAt x.hdr 6 2 = 8) ∧
    (∃ (m : Mbx) (s : State) (x : MbxReq), imageReady s = true ∧ budMode s ≠ 2 ∧ Asks s m 0x0304 x ∧ leAt x.hdr 4 1 = 0 ∧ leAt x.hdr 6 2 = 8 ∧ bitCount (leAt x.fields 0 8) 64 ≤ 12) ∧
    (∃ (m : Mbx) (s : State) (x : MbxReq) (g : _), imageReady s = true ∧ budMode s ≠ 2 ∧ Asks s m 0x0305 x ∧ leAt x.hdr 6 2 = 20 ∧ leAt x.fields 0 2 = 1 ∧ g = leAt x.fields 4 4 ∧ g < 2 ^ 25 ∧ 56 ≤ gSeg g ∧ gSeg g ≤ 59 ∧ gVeh g = ownVeh s ∧ leAt x.hdr 4 1 = 0 ∧ segMode s g = 0 ∧ poolFits s 12 8 = true) ∧
    (∃ (m : Mbx) (s : State) (x : MbxReq) (i : _), imageReady s = true ∧ budMode s ≠ 2 ∧ Asks s m 0x0306 x ∧ leAt x.hdr 6 2 = 4 ∧ i = leAt x.fields 0 2 ∧ i ≤ 255 ∧ leAt x.hdr 4 1 = 0 ∧ getB s 0x1A1008 0 = true ∧ dsTrig (tGet s 8 i) ≠ 0 ∧ s.runs = []) ∧
    (∃ (m : Mbx) (s : State) (x : MbxReq) (v : _), imageReady s = true ∧ budMode s ≠ 2 ∧ Asks s m 0x0307 x ∧ leAt x.hdr 4 1 = 0 ∧ leAt x.hdr 6 2 = 12 ∧ v = leAt x.fields 0 1 ∧ v ≤ 63 ∧ leAt x.fields 1 1 = 0) ∧
    (∃ (m : Mbx) (s : State) (x : MbxReq), imageReady s = true ∧ budMode s ≠ 2 ∧ Asks s m 0x0308 x ∧ leAt x.hdr 6 2 = 0) :=
  ⟨⟨0, asks (image r0) 0 (req 0x0301 0 [5, 3, 1, 0]), req 0x0301 0 [5, 3, 1, 0], leAt (req 0x0301 0 [5, 3, 1, 0]).fields 0 1, leAt (req 0x0301 0 [5, 3, 1, 0]).fields 1 1, leAt (req 0x0301 0 [5, 3, 1, 0]).fields 2 1, by unfold Asks; decide +kernel⟩,
   ⟨0, asks (image r0) 0 (req 0x0302 0 ([1, 0, 0, 0] ++ leBytes 4 9)), req 0x0302 0 ([1, 0, 0, 0] ++ leBytes 4 9), leAt (req 0x0302 0 ([1, 0, 0, 0] ++ leBytes 4 9)).fields 0 2, by unfold Asks; decide +kernel⟩,
   ⟨0, asks (image r0) 0 (req 0x0303 0 (leBytes 8 0xFF)), req 0x0303 0 (leBytes 8 0xFF), by unfold Asks; decide +kernel⟩,
   ⟨0, asks (image r0) 0 (req 0x0304 0 (leBytes 8 0xFFF)), req 0x0304 0 (leBytes 8 0xFFF), by unfold Asks; decide +kernel⟩,
   ⟨0, asks (image r0) 0 (req 0x0305 0 (leBytes 4 1 ++ leBytes 4 0x70003 ++ [0, 0, 0, 0] ++ leBytes 8 77)), req 0x0305 0 (leBytes 4 1 ++ leBytes 4 0x70003 ++ [0, 0, 0, 0] ++ leBytes 8 77), leAt (req 0x0305 0 (leBytes 4 1 ++ leBytes 4 0x70003 ++ [0, 0, 0, 0] ++ leBytes 8 77)).fields 4 4, by unfold Asks; decide +kernel⟩,
   ⟨0, asks (tab (image r0) 8 [(3, [1, 5, 0, 0])]) 0 (req 0x0306 0 [3, 0, 0, 0]), req 0x0306 0 [3, 0, 0, 0], leAt (req 0x0306 0 [3, 0, 0, 0]).fields 0 2, by unfold Asks; decide +kernel⟩,
   ⟨0, asks (image r0) 0 (req 0x0307 0 ([2, 0, 0, 0] ++ leBytes 8 77)), req 0x0307 0 ([2, 0, 0, 0] ++ leBytes 8 77), leAt (req 0x0307 0 ([2, 0, 0, 0] ++ leBytes 8 77)).fields 0 1, by unfold Asks; decide +kernel⟩,
   ⟨0, asks (image r0) 0 (req 0x0308 0 []), req 0x0308 0 [], by unfold Asks; decide +kernel⟩⟩

/-- States and operands that meet the hypotheses of each clause of `ImageRowsKeepCarriers`, part 3. -/
theorem witness_ImageRowsKeepCarriers_3 :
    ∃ (s : State) (p : ModePass), s.passes = [p] ∧ p.pair < 4096 :=
  ⟨{ image r0 with passes := [{ pair := 5, old := 0, new := 1, mbx := none }] }, { pair := 5, old := 0, new := 1, mbx := none }, by decide +kernel⟩

end Sys2Proof.Machine.Test
end

section
/-!
PROOFS. What reset leaves, and what a write of a status or enable word does: the bits that a write with the access codes RW and W1C
alone leaves, the way of such a word through REGISTER_WRITE, and the discarded host write of R348.
-/
namespace Sys2Proof.Machine

/-! ### Reset (R8) -/

@[simp] theorem rd_reset (o : Nat) : rd State.reset o = resetWord o := rfl

theorem getF_reset (o hi lo : Nat) : getF State.reset o hi lo = fld (resetWord o) hi lo := rfl

/-- R8: of a CAN channel's words only TDC_MEAS and STB have a reset value other than 0. -/
theorem resetWord_canR (n k : Nat) (hn : n < 48) (hk : k < 0x1000) :
    resetWord (canR n k) = if k = 0x20 then 0x7F00 else if k = 0x30 then 0x10000 else 0 := by
  have lower : 0x100000 ≤ canR n k := by unfold canR; omega
  have upper : canR n k < 0x130000 := by unfold canR; omega
  have place : canR n k % 0x1000 = k := by unfold canR; omega
  generalize canR n k = o at lower upper place
  unfold resetWord
  iterate 11 rw [if_neg (by omega)]
  have notSw : ¬ ((0x181000 ≤ o ∧ o < 0x182000 ∨ 0x1182000 ≤ o ∧ o < 0x1182800) ∧ o % 0x100 = 0x0C) := by omega
  have notSw' : ¬ (0x1182000 ≤ o ∧ o < 0x1182460 ∧ (o % 0x100 = 8 ∨ 0x10 ≤ o % 0x100 ∧ o % 0x100 < 0x30)) := by omega
  simp only [place, lower, upper, true_and, if_neg notSw, if_neg notSw']

/-- Settles O13: every store of the reset state is empty, so each reading gives the value that an unlisted key reads as. -/
theorem resetHolds : Obligations.ResetHolds := by
  unfold Obligations.ResetHolds
  refine ⟨rfl, rfl, fun n hn => ⟨?_, ?_, ?_, ?_⟩, fun _ => rfl, fun _ _ => rfl, fun _ => rfl, fun _ => rfl, rfl, rfl, fun _ => rfl, rfl⟩
  · rw [modeCur, getF_reset, resetWord_canR n _ hn (by decide)]; rfl
  · rw [modeReq, getF_reset, resetWord_canR n _ hn (by decide)]; rfl
  · rw [rd_reset, resetWord_canR n _ hn (by decide)]; rfl
  · rw [getF_reset, resetWord_canR n _ hn (by decide)]; rfl

/-! ### A word whose bits are RW, W1C or read-only (R6, R384) -/

theorem getLsbD_takeBits (old new : Word) (m b : Nat) (hb : b < 32) :
    (takeBits old new m).getLsbD b = if m.testBit b then new.getLsbD b else old.getLsbD b := by
  simp only [takeBits, BitVec.getLsbD_or, BitVec.getLsbD_and, BitVec.getLsbD_not, BitVec.getLsbD_ofNat, hb]
  cases m.testBit b <;> simp

@[simp] theorem takeBits_none (old new : Word) : takeBits old new 0 = old := by
  refine BitVec.eq_of_getLsbD_eq fun b hb => ?_
  rw [getLsbD_takeBits old new 0 b hb, Nat.zero_testBit]
  rfl

@[simp] theorem changes_none (old new : Word) : changes old new 0 = false := by simp [changes]

/-- The masks of a word that has no RWD, no RWK and no locked write-only bit. -/
def Masks.plain (m : Masks) : Prop := m.rwd = 0 ∧ m.rwk = 0 ∧ m.kwo = 0

/-- R6: such a word takes the same write whatever its block and the key are. -/
theorem mergeWord_plain (old new : Word) (m : Masks) (dis key : Bool) (hm : m.plain) :
    mergeWord old new m dis key = takeBits old new m.rw &&& ~~~ (new &&& BitVec.ofNat 32 m.w1c) := by
  obtain ⟨hrwd, hrwk, -⟩ := hm
  simp [mergeWord, hrwd, hrwk]

/-- R6, R384: bit by bit: W1C written 1 reads 0 and written 0 stays, RW takes the value, any other bit stays. -/
theorem getLsbD_mergeWord_plain (old new : Word) (m : Masks) (dis key : Bool) (hm : m.plain) (b : Nat) (hb : b < 32) :
    (mergeWord old new m dis key).getLsbD b =
      if m.w1c.testBit b && new.getLsbD b then false else if m.rw.testBit b then new.getLsbD b else old.getLsbD b := by
  rw [mergeWord_plain old new m dis key hm, BitVec.getLsbD_and, getLsbD_takeBits _ _ _ _ hb, BitVec.getLsbD_not, BitVec.getLsbD_and,
    BitVec.getLsbD_ofNat]
  cases m.w1c.testBit b <;> cases new.getLsbD b <;> simp [hb]

/-- R380: its write sets no CFG_REJECT and no LOCK_REJECT where the card refuses no value. -/
theorem writeMasked_plain (s : State) (q : Requester) (o : Nat) (d : Word) (m : Masks) (dis : Bool) (rej : Option (Nat × Nat)) (hm : m.plain) :
    writeMasked s q o d m dis rej 0 = wr s o (mergeWord (rd s o) d m (dis || q = .loader) (keyOk s q)) := by
  obtain ⟨hrwd, hrwk, hkwo⟩ := hm
  simp [writeMasked, hrwd, hrwk, hkwo]

/-! ### The status and enable words through REGISTER_WRITE -/

/-- The status word and the enable word of the blocks that have one pair of them. -/
def eventWords : List Nat := [4, 8, 0x10000, 0x10004, 0x41000, 0x41004, 0x51000, 0x51004, 0x60000, 0x60004, 0x70000, 0x70004, 0x80000, 0x80004,
  0x90000, 0x90004, 0x180004, 0x180008, 0x182000, 0x182004]

theorem regMasks_eventWord : ∀ o ∈ eventWords, ∃ m, regMasks o = some m ∧ m.plain := by
  unfold Masks.plain
  intro o ho
  fin_cases ho <;> exact ⟨_, rfl, rfl, rfl, rfl⟩

theorem plain_of_eventWord {o : Nat} {m : Masks} (ho : o ∈ eventWords) (hm : regMasks o = some m) : m.plain := by
  obtain ⟨m', hm', plain⟩ := regMasks_eventWord o ho
  obtain rfl : m' = m := by simpa [hm'] using hm
  exact plain

theorem pairedReg_eventWord : ∀ o ∈ eventWords, pairedReg o = false := by decide

theorem enableWord_eventWord : ∀ o ∈ eventWords, enableWord o = false := by decide

theorem loaderMask_eventWord : ∀ o ∈ eventWords, loaderMask o = 0 := by decide

theorem regKey_eventWord : ∀ o ∈ eventWords, regKey o = o := by decide

theorem quietKeep_eventWord (s : State) (d : Word) : ∀ o ∈ eventWords, quietKeep s o d = d := by
  intro o ho
  fin_cases ho <;> rfl

theorem badBits_eventWord (s : State) (d : Word) : ∀ o ∈ eventWords, badBits s o d = 0 := by
  intro o ho
  have legal : fieldBad s o d = 0 := by fin_cases ho <;> rfl
  simp [badBits, legal]

/-- R376: every requester finds these words. -/
theorem locExists_eventWord (s : State) (q : Requester) (o : Nat) (ho : o ∈ eventWords) : locExists s q o = true := by
  have range : o < 0xF00000 ∧ ¬ (0x38000 ≤ o ∧ o < 0x3A000) ∧ o ≠ 0x20940 ∧ o ≠ 0x20944 ∧ ¬ (0x91000 ≤ o ∧ o < 0x95000) := by
    revert o; decide
  obtain ⟨m, hm, -⟩ := regMasks_eventWord o ho
  obtain ⟨inBar, notMbx, notClaim, notComplete, notPage⟩ := range
  have low : ¬ 0xF00000 ≤ o := by omega
  simp only [locExists, if_neg low, hm, Option.isSome_some, notMbx, notClaim, notComplete, or_self, and_false, if_false]
  rw [if_neg fun h => notPage ⟨h.1, h.2.1⟩]

/-- No operation hangs on a write of one of them. -/
theorem busOp_eventWord (s : State) (q : Requester) (d : Word) : ∀ o ∈ eventWords, busOp s q o d = plainWrite s q o d := by
  intro o ho
  fin_cases ho <;> rfl

theorem plainWrite_eventWord (s : State) (q : Requester) (o : Nat) (d : Word) (m : Masks) (ho : o ∈ eventWords) (hm : regMasks o = some m) :
    plainWrite s q o d = writeMasked s q o d m (blockOff s o) (blockRej o) 0 := by
  have held : enableHold s q o = s := by simp [enableHold, enableWord_eventWord o ho]
  simp [plainWrite, held, hm, loaderMask_eventWord o ho, regKey_eventWord o ho, quietKeep_eventWord s d o ho, badBits_eventWord s d o ho]

/-- The whole write: the word merged by its masks, and the key disarmed. -/
theorem busWrite_eventWord (s : State) (q : Requester) (o : Nat) (d : Word) (m : Masks) (ho : o ∈ eventWords) (hm : regMasks o = some m) :
    busWrite s q o d = disarm (wr s o (mergeWord (rd s o) d m (blockOff s o || q = .loader) (keyOk s q))) q := by
  have notKey : o ≠ 0x0C := by clear hm; revert o; decide
  rw [busWrite, if_neg notKey, locExists_eventWord s q o ho, pairedReg_eventWord o ho, busOp_eventWord s q d o ho,
    plainWrite_eventWord s q o d m ho hm, writeMasked_plain s q o d m _ _ (plain_of_eventWord ho hm)]
  rfl

theorem armed_disarm_same (s : State) (q : Requester) : armed (disarm s q) q = false := armed_setArmed_same ..

theorem armed_disarm_other (s : State) {q r : Requester} (h : r ≠ q) : armed (disarm s q) r = armed s r := by
  rw [disarm_eq, armed_setArmed, if_neg fun e => h (reqNo_inj _ _ e)]

theorem exec_registerWrite (q : Requester) (off : BitVec 24) (data : Word) (s : State) :
    exec (.registerWrite q off data) s = .next (settle (busWrite s q off.toNat data)) := rfl

/-- One word written and a key disarmed: every other register word, and everything else, is as before. -/
theorem onlyRegs_settle_disarm_wr (s : State) (q : Requester) (o : Nat) (w : Word) :
    OnlyRegs { s with armed := (settle (disarm (wr s o w) q)).armed } (settle (disarm (wr s o w) q)) [o] :=
  onlyRegs_of rfl ((RegsKept.refl _ _).wr o w (by simp))

/-! ### A discarded host write (R348, R376) -/

/-- R348: the words that tell of it: counted, its address latched, WR_ERR raised. -/
theorem rd_writeDiscard (s : State) (off : Nat) (data : Word) (be : BitVec 4) (words o : Nat) (hoff : off < 2 ^ 24) (ho : 0x51000 ≤ o) :
    rd (writeDiscard s off data be words) o =
      rd (raise (wr (incC s 0x51014) 0x51010 (BitVec.ofNat 32 off)) 0x51000 0) o := by
  rw [writeDiscard, rd_evtItem _ _ _ _ _ _ _ (by omega), Nat.mod_eq_of_lt hoff]
  rfl

/-- R376: a host write of a location that does not exist, but for KEY, is discarded and disarms the host's key. -/
theorem busWrite_absent (s : State) (o : Nat) (d : Word) (hk : o ≠ 0xC) (ho : locExists s .host o = false) :
    busWrite s .host o d = disarm (writeDiscard s o d 15 1) .host := by
  simp [busWrite, hk, ho, reservedWrite]

/-! ### The obligation -/

/-- Settles O18: a listed word is merged by masks that have RW and W1C bits alone; a host write that finds no location is `writeDiscard`. -/
theorem registerWrites : Obligations.RegisterWrites := by
  unfold Obligations.RegisterWrites
  constructor
  · intro q off data s m ho hm
    refine ⟨_, exec_registerWrite q off data s, ?_⟩
    rw [busWrite_eventWord s q off.toNat data m ho hm]
    refine ⟨fun b hb => ?_, armed_disarm_same .., fun q' hq => armed_disarm_other _ hq, onlyRegs_settle_disarm_wr ..⟩
    exact (getB_wr_same ..).trans (getLsbD_mergeWord_plain _ _ _ _ _ (plain_of_eventWord ho hm) b hb)
  · intro off data s hk ho
    refine ⟨_, exec_registerWrite .host off data s, ?_⟩
    rw [busWrite_absent s off.toNat data hk ho]
    have words (o : Nat) (h : 0x51000 ≤ o) := rd_writeDiscard s off.toNat data 15 1 o off.isLt h
    refine ⟨?_, ?_, ?_, armed_disarm_same ..⟩
    · exact (words 0x51014 (by decide)).trans (by simp [rd_raise, rd_wr])
    · exact (words 0x51010 (by decide)).trans (by simp [rd_raise])
    · exact (congrArg (BitVec.getLsbD · 0) (words 0x51000 (by decide))).trans (getB_raise_same _ _ _ (by decide))

end Sys2Proof.Machine
end

section
/-!
PROOFS. The derivation runs of R145: a firing during a run waits, so a waiting run is not taken up while one of its own entry is in hand; the obligation
O31 leaves this case out.
-/
namespace Sys2Proof.Machine

theorem exec_derivationRun (s : State) : exec .derivationRun s = .next (settle (runNext s)) := rfl

/-- R145: the oldest run that waits goes on waiting while a run of the same entry is in hand, one that has released its engine (R146) among them. -/
theorem runNext_behind_run (s : State) (r x : Run) (hq : queueUp s 4 = true) (hr : s.runs.find? (fun r => !r.started) = some r) (hx : x ∈ s.runs)
    (hd : x.dst = r.dst) (hs : x.started = true) : runNext s = s := by
  have held : (s.runs.any fun y => y.dst == r.dst && y.started) = true := List.any_eq_true.2 ⟨x, hx, by simp [hd, hs]⟩
  simp [runNext, hq, hr, held]

/-- A run of DST entry 3 that waits: descriptor 2 alone. -/
def waitingRun : Run := { dst := 3, started := false, descs := [2], reads := none }

/-- Entry 3 has fired again while its run was parked for the line of slot 0x6004 (R145, R146), which has since been filled; descriptor 2 copies that valid
slot to slot 0x6005. -/
def runBehindRun : State :=
  { State.reset with
    tbl := [(tKey tSdp 2, BitVec.ofNat 768 (3 + 0x6005 * 2 ^ 32 + 0x6004 * 2 ^ 64 + 0x6004 * 2 ^ 96))]
    slots := [(0x6004, { value := 7, stamp := 0, status := 1, gen := 0 })]
    cache := [(16 * cacheSet 0x6004, { gsid := 0x6004 + 1, count := 1, dirty := false })]
    runs := [{ waitingRun with started := true }, waitingRun]
    parked := [.run { waitingRun with started := true, reads := some [] } 0x6004] }

theorem queueUp_runBehindRun : queueUp runBehindRun 4 = true := by decide +kernel

theorem find_runBehindRun : runBehindRun.runs.find? (fun r => !r.started) = some waitingRun := by decide +kernel

theorem exec_runBehindRun : exec .derivationRun runBehindRun = .next (settle runBehindRun) := by
  rw [exec_derivationRun, runNext_behind_run runBehindRun waitingRun { waitingRun with started := true } queueUp_runBehindRun find_runBehindRun
    (by simp [runBehindRun]) rfl rfl]

/-- Refutes O31: its clause on derivation runs does not ask that no run of the same entry is in hand. In `runBehindRun` the waiting run meets every
hypothesis, and DERIVATION_RUN leaves it waiting (R145), so its output slot is not updated: GEN stays. -/
theorem not_engineExecutions : ¬ Obligations.EngineExecutions := by
  unfold Obligations.EngineExecutions
  rintro ⟨-, -, -, -, derivation⟩
  obtain ⟨t, ht, output, -⟩ := derivation runBehindRun waitingRun .derivationRun 2 (sdpAt runBehindRun 2) (gOwn runBehindRun (sdGsid (sdpAt runBehindRun 2)))
    (slotAt runBehindRun (dvA (sdpAt runBehindRun 2))) (slotAt runBehindRun (dvB (sdpAt runBehindRun 2)))
    rfl rfl rfl rfl rfl (by decide +kernel) (by decide +kernel) (by decide +kernel) (by decide +kernel) (by decide +kernel) (by decide +kernel)
    (by decide +kernel) (.inl ⟨rfl, queueUp_runBehindRun, find_runBehindRun, rfl, by decide +kernel⟩)
  rw [exec_runBehindRun] at ht
  obtain rfl : settle runBehindRun = t := by simpa using ht
  rw [slotAt_settle] at output
  exact absurd (congrArg Slot.gen output) (by simp)

end Sys2Proof.Machine
end

section
/-!
PROOFS. Reception on a CAN channel: what the lantern's view of a frame (R437) and the count of the frame (R35) leave as they were, and what acceptance (R70)
and the commit (R71) then do.
-/
namespace Sys2Proof.Machine

/-! ### What a segment's turn leaves (R433 to R447) -/

/-- The second state differs from the first in the segments, the stream, the journals, the channels' runtime, and register words of 0x4_0000 to 0x8_FFFF: the
journals', the lantern's and the buddy unit's. -/
structure Turned (s a : State) : Prop where
  eq : a = { s with regs := a.regs, can := a.can, reqSeq := a.reqSeq, jnl := a.jnl, house := a.house, lan := a.lan, bud := a.bud, out := a.out }
  rd : ∀ k, k < 0x40000 ∨ 0x90000 ≤ k → rd a k = rd s k

theorem Turned.refl (s : State) : Turned s s := ⟨rfl, fun _ _ => rfl⟩

theorem Turned.trans {s a b : State} (h : Turned s a) (h' : Turned a b) : Turned s b :=
  ⟨by rw [h'.eq, h.eq], fun k hk => (h'.rd k hk).trans (h.rd k hk)⟩

theorem Turned.mem {s a : State} (h : Turned s a) : a.mem = s.mem := by rw [h.eq]
theorem Turned.tbl {s a : State} (h : Turned s a) : a.tbl = s.tbl := by rw [h.eq]

/-- The words of the lantern and of its neighbours. -/
theorem turned_wr (s : State) (o : Nat) (w : Word) (ho : 0x40000 ≤ o ∧ o < 0x90000) : Turned s (wr s o w) :=
  ⟨rfl, fun k hk => rd_wr_ne s o k w (by omega)⟩

theorem turned_setSeg (s : State) (n : Nat) (x : Seg) : Turned s (setSeg s n x) := ⟨rfl, fun _ _ => rfl⟩

theorem Streamed.turned {s a : State} (h : Streamed s a) : Turned s a :=
  ⟨by rw [h.eq], fun k hk => h.rd k (by omega)⟩

theorem turned_evtItem (s : State) (o lo ty src : Nat) (pay : List Byte) : Turned s (evtItem s o lo ty src pay) := by
  obtain ⟨r, x, h, e, hr⟩ := evtItem_only s o lo ty src pay
  rw [e]
  exact ⟨rfl, fun k hk => hr k (by omega)⟩

theorem turned_lanItem (s : State) (ty src : Nat) (pay : List Byte) : Turned s (lanItem s ty src pay) := by
  unfold lanItem
  split
  · exact ⟨rfl, fun _ _ => rfl⟩
  · exact turned_evtItem ..

theorem turned_segItem (s : State) (n ev cause : Nat) : Turned s (segItem s n ev (some cause)) := turned_lanItem ..

theorem turned_settleSeg (s : State) (n cause : Nat) : Turned s (settleSeg s n cause) := (turned_setSeg ..).trans (turned_segItem ..)

theorem turned_offerRoll (s : State) (n op : Nat) : Turned s (offerRoll s n op) := ⟨rfl, fun _ _ => rfl⟩

theorem turned_clearAsk (s : State) (n : Nat) (hn : n < 48) : Turned s (clearAsk s n) :=
  (turned_wr s _ _ (by omega)).trans (turned_setSeg ..)

theorem turned_abortCount (s : State) : Turned s (abortCount s) :=
  (turned_wr s 0x70064 _ (by decide)).trans (turned_wr _ 0x70000 _ (by decide))

theorem turned_segAborted (s : State) (n cause : Nat) (hn : n < 48) : Turned s (segAborted s n cause) := by
  unfold segAborted
  refine Turned.trans ?_ ((turned_abortCount _).trans (turned_segItem ..))
  split
  · exact (turned_setSeg ..).trans (turned_clearAsk _ n hn)
  · exact turned_setSeg ..

/-- A change of a segment other than into or out of ASLEEP: back to AWAKE, into SETTLE, a roll call offered, an abort. -/
theorem turned_segTurn (s : State) (n k x : Nat) (hn : n < 48) (hk : k = 2 ∨ k = 3 ∨ k = 4 ∨ k = 6) : Turned s (segTurn s n k x) := by
  unfold segTurn
  split
  · exact .refl s
  · refine (budInput_streamed s 4 [8, BitVec.ofNat 8 n, BitVec.ofNat 8 k, BitVec.ofNat 8 x]).turned.trans ?_
    obtain rfl | rfl | rfl | rfl := hk
    · exact turned_setSeg ..
    · exact turned_settleSeg ..
    · exact turned_offerRoll ..
    · exact turned_segAborted _ n x hn

/-! ### A segment whose windows have not ended (R437, R438) -/

/-- No window of segment `n` ends, or the device is in STANDBY or SLEEP. -/
def SegStill (s : State) (n : Nat) : Prop := 2 ≤ pwrState s ∨ SegQuiet s n

theorem segDue_of_still {s : State} {n : Nat} (h : SegStill s n) : segDue s n = s := by
  unfold segDue
  split
  · rfl
  · obtain ⟨awake, settling⟩ := h.resolve_left ‹_›
    have notOver : ¬ ((segAt s n).st = 1 ∧ settleOver s n = true) := fun e => by simp [settling e.1] at e
    rw [if_neg (by simp [awake]), if_neg notOver]

/-- It rests on the segment, its settings, MODE_REQ and the power state. -/
theorem SegStill.congr {s a : State} {n : Nat} (h : SegStill s n) (hl : a.lan = s.lan) (hf : a.inForce = s.inForce)
    (hr : ∀ k ∈ [0x7000C, segR n 8, canR n 0], rd a k = rd s k) : SegStill a n := by
  have settings (hi lo : Nat) : frcF a (segR n 8) hi lo = frcF s (segR n 8) hi lo := by unfold frcF frc; rw [hf, hr _ (by simp)]
  have seg : segAt a n = segAt s n := segAt_congr hl n
  have power : pwrState a = pwrState s := by unfold pwrState getF; rw [hr _ (by simp)]
  have req : modeReq a n = modeReq s n := by unfold modeReq getF; rw [hr _ (by simp)]
  have awake : awakeOver a n = awakeOver s n := by unfold awakeOver; simp only [settings, seg, hl, req]
  have settle : settleOver a n = settleOver s n := by unfold settleOver settleTicks; rw [settings, seg, hl]
  unfold SegStill SegQuiet
  rw [power, awake, settle, seg]
  exact h

/-- R437: an abort condition outside the instant at which a window ends. -/
theorem turned_abortSeg {s : State} {n : Nat} (cause : Nat) (hn : n < 48) (h : SegStill s n) : Turned s (abortSeg s n cause) := by
  unfold abortSeg
  rw [segDue_of_still h]
  simp only
  split
  · exact turned_segTurn s n 6 cause hn (by simp)
  · split
    · exact turned_setSeg ..
    · exact .refl s

theorem turned_callReceived (s : State) (n : Nat) (hn : n < 48) : Turned s (callReceived s n) := by
  unfold callReceived
  split
  · split
    · exact turned_segTurn s n 3 _ hn (by simp)
    · exact turned_segTurn s n 4 _ hn (by simp)
  · exact .refl s

/-- R435: a frame with RC_ID that is no roll call. -/
def badRoll (s : State) : State := raise (incC s 0x7006C) 0x70000 4

theorem turned_badRoll (s : State) : Turned s (badRoll s) := (turned_wr s 0x7006C _ (by decide)).trans (turned_wr _ 0x70000 _ (by decide))

theorem SegStill.badRoll {s : State} {n : Nat} (h : SegStill s n) : SegStill (badRoll s) n := by
  refine h.congr rfl rfl fun k hk => ?_
  have other : k ≠ 0x7006C ∧ k ≠ 0x70000 := by simp only [List.mem_cons, List.not_mem_nil, or_false, segR, canR] at hk; omega
  rw [Machine.badRoll, rd_raise, if_neg other.2, incC_eq, rd_wr_ne _ _ _ _ other.1]

/-- R435, R437: a frame, as the lantern sees it. -/
theorem turned_segFrame {s : State} {n : Nat} (f : CanFrame) (hn : n < 48) (h : SegStill s n) : Turned s (segFrame s n f) := by
  unfold segFrame
  rw [segDue_of_still h]
  simp only
  split
  · split
    · exact turned_callReceived s n hn
    · exact turned_abortSeg _ hn h
    · exact (turned_badRoll s).trans (turned_abortSeg _ hn h.badRoll)
  · exact turned_abortSeg _ hn h

/-! ### A channel that still takes part in its bus (R56, R437) -/

theorem rd_lanItem (s : State) (ty src : Nat) (pay : List Byte) (k : Nat) (hk : 0x90000 ≤ k) : rd (lanItem s ty src pay) k = rd s k :=
  (turned_lanItem s ty src pay).rd k (.inr hk)

theorem rd_causeByte (s : State) (c : Option Nat) (k : Nat) : rd (causeByte s c).2 k = rd s k := by cases c <;> rfl

theorem rd_segItem (s : State) (n ev : Nat) (c : Option Nat) (k : Nat) (hk : 0x90000 ≤ k) : rd (segItem s n ev c) k = rd s k :=
  (rd_lanItem _ _ _ _ k hk).trans (rd_causeByte s c k)

theorem rd_pwrFollow (s : State) (c : Option Nat) (k : Nat) (hk : 0x90000 ≤ k) : rd (pwrFollow s c) k = rd s k := by
  unfold pwrFollow
  simp only
  split
  · rfl
  · unfold pwrItem
    rw [rd_lanItem _ _ _ _ k hk, rd_causeByte, rd_setF, if_neg (by omega)]

theorem modeCur_congr {s a : State} {n : Nat} (h : rd a (canR n 0) = rd s (canR n 0)) : modeCur a n = modeCur s n := by
  unfold modeCur getF; rw [h]

theorem modeCur_setCur (s : State) (n m : Nat) (hm : m < 8) : modeCur (setCur s n m) n = m := by
  unfold setCur
  split
  · assumption
  · have cur : modeCur (setF s (canR n 0) 10 8 m) n = m := getF_setF_same _ _ _ _ _ (by decide) (by decide) hm
    exact (modeCur_congr (by rw [rd_raise, if_neg (by simp)])).trans cur

theorem modeCur_enterDisabled (s : State) (n : Nat) : modeCur (enterDisabled s n) n = 0 := by
  unfold enterDisabled modeCur setInteg
  rw [getF_setB_other _ _ _ _ _ _ _ (by omega) (by omega), getF_setB_other _ _ _ _ _ _ _ (by omega) (by omega),
    getF_wr_other _ _ _ _ _ _ (by simp)]
  exact modeCur_setCur _ n 0 (by decide)

/-- R437, R439: the channel of a segment that falls ASLEEP is DISABLED. -/
theorem modeCur_sleepSeg (s : State) (n : Nat) (forced : Bool) (cause : Option Nat) : modeCur (sleepSeg s n forced cause) n = 0 := by
  have high : 0x90000 ≤ canR n 0 := by unfold canR; omega
  have low : canR n 0 ≠ 0x70000 ∧ canR n 0 ≠ 0x70068 := by omega
  unfold sleepSeg
  simp only
  rw [modeCur_congr (rd_pwrFollow _ _ _ high), modeCur_congr (rd_segItem _ _ _ _ _ high)]
  generalize setSeg s n { segAt s n with st := 2, f := if forced then some s.lan.lnt else none } = b
  have disabled : modeCur (raise (setB (enterDisabled b n) (canR n 0x30) 17 true) 0x70000 1) n = 0 :=
    (modeCur_congr (by rw [rd_raise, if_neg low.1, rd_setB, if_neg (by simp)])).trans (modeCur_enterDisabled b n)
  split
  · exact (modeCur_congr (by rw [rd_raise, if_neg low.1, incC_eq, rd_wr_ne _ _ _ _ low.2])).trans disabled
  · exact disabled

/-- Of the changes of a segment the first two lead into ASLEEP. -/
theorem modeCur_segStep_asleep (s : State) (n x : Nat) {k : Nat} (hk : k < 2) : modeCur (segStep s n k x) n = 0 := by
  unfold segStep
  split
  · exact modeCur_sleepSeg ..
  · exact modeCur_sleepSeg ..
  all_goals grind

theorem segStep_awake (s : State) (n x : Nat) : segStep s n 2 x = setSeg s n { segAt s n with st := 0 } := rfl

theorem onBus_false_of_disabled {s : State} {n : Nat} (h : modeCur s n = 0) : onBus s n = false := by simp [onBus, h]

/-- R437: a segment whose MODE_REQ is DISABLED leaves SETTLE for AWAKE, where no window of it ends. -/
theorem still_awake {s : State} {n : Nat} (hm : modeReq s n = 0) (x : Seg) (hx : x.st = 0) : SegStill (setSeg s n x) n := by
  have req : modeReq (setSeg s n x) n = 0 := hm
  have st : (segAt (setSeg s n x) n).st = 0 := by rw [segAt_setSeg, if_pos rfl, hx]
  exact .inr ⟨by simp [awakeOver, req], by simp [st]⟩

/-- R437, R438: where the channel still takes part in its bus after the exits that were due, no window ends any longer, and the channel, the tables, the objects
and memory are as they were. -/
theorem segDue_onBus {s : State} {n : Nat} (hn : n < 48) (hb : budMode (segDue s n) ≠ 2) (ho : onBus (segDue s n) n = true) :
    SegStill (segDue s n) n ∧ Turned s (segDue s n) := by
  have asleep (b : State) (k x : Nat) (hk : k < 2) (e : segDue s n = segStep b n k x) : False := by
    rw [e, onBus_false_of_disabled (modeCur_segStep_asleep b n x hk)] at ho
    exact absurd ho (by decide)
  by_cases hs : SegStill s n
  · rw [segDue_of_still hs]
    exact ⟨hs, .refl s⟩
  have running : ¬ pwrState s ≥ 2 := fun h => hs (.inl h)
  have active : budMode s ≠ 2 := by
    intro h
    have idle : segDue s n = s := by simp [segDue, segTurn, h]
    rw [idle] at hb
    exact hb h
  have turn (k x : Nat) : segTurn s n k x = segStep (budInput s 4 [8, BitVec.ofNat 8 n, BitVec.ofNat 8 k, BitVec.ofNat 8 x]) n k x := by
    rw [segTurn, if_neg active]
  by_cases awake : awakeOver s n = true
  · exact (asleep _ 0 0 (by decide) (by rw [segDue, if_neg running, if_pos awake, turn])).elim
  by_cases settled : (segAt s n).st = 1 ∧ settleOver s n = true
  · by_cases hm : modeReq s n = 0
    · have e : segDue s n = segTurn s n 2 0 := by rw [segDue, if_neg running, if_neg awake, if_pos settled, if_pos hm]
      rw [e]
      refine ⟨?_, turned_segTurn s n 2 0 hn (by simp)⟩
      rw [turn, segStep_awake]
      have req := (budInput_streamed s 4 [8, BitVec.ofNat 8 n, BitVec.ofNat 8 2, BitVec.ofNat 8 0]).getF (canR n 0) 2 0 (by unfold canR; omega)
      exact still_awake (req.trans hm) _ rfl
    · exact (asleep _ 1 _ (by decide) (by rw [segDue, if_neg running, if_neg awake, if_pos settled, if_neg hm, turn])).elim
  · exact (hs (.inr ⟨by simpa using awake, fun h => by simpa [h] using settled⟩)).elim

/-! ### The receive decision point before acceptance (R35, R48) -/

theorem kept_raiseIf {s a : State} {l : List Nat} (h : RegsOnly s a ∧ RegsKept s a l) (p : Prop) [Decidable p] (o b : Nat) (ho : o ∈ l) :
    RegsOnly s (if p then raise a o b else a) ∧ RegsKept s (if p then raise a o b else a) l := by
  split
  · exact ⟨h.1.raise o b, h.2.wr o _ ho⟩
  · exact h

theorem setErr_kept (s : State) (n tec rec : Nat) : RegsOnly s (setErr s n tec rec) ∧ RegsKept s (setErr s n tec rec) [canR n 0x28, canR n 4] := by
  obtain ⟨only, kept⟩ := kept_raiseIf (kept_raiseIf ⟨RegsOnly.refl s, RegsKept.refl s [canR n 0x28, canR n 4]⟩
    ((decide (tec ≥ 96 ∨ rec ≥ 96) && !getB s (canR n 0x28) 19) = true) (canR n 4) 4 (by simp))
    (ecsOf tec rec = 1 ∧ getF (if (decide (tec ≥ 96 ∨ rec ≥ 96) && !getB s (canR n 0x28) 19) = true then raise s (canR n 4) 4 else s) (canR n 0x28) 18 17 = 0)
    (canR n 4) 3 (by simp)
  exact ⟨only.wr .., kept.wr _ _ (by simp)⟩

theorem errReceived_kept (s : State) (n : Nat) (cnt : ErrCnt) :
    RegsOnly s (errReceived s n cnt) ∧ RegsKept s (errReceived s n cnt) [canR n 0x28, canR n 4] := by
  unfold errReceived
  split
  · exact setErr_kept ..
  · exact ⟨rfl, RegsKept.refl _ _⟩

theorem rd_add64_one (s : State) (o : Nat) : rd (add64 s o 1) o = rd s o + 1#32 := by
  have low : BitVec.ofNat 32 ((rd s o).toNat + 2 ^ 32 * (rd s (o + 4)).toNat + 1) = rd s o + 1#32 := by
    apply BitVec.eq_of_toNat_eq
    simp
    omega
  unfold add64
  simp only
  rw [rd_wr_ne _ _ _ _ (by omega), rd_wr_same, low]

/-- R48, R452: REC and the partner have taken the frame. -/
def received (s : State) (n : Nat) (f : CanFrame) (cnt : ErrCnt) (look : Nat) : State :=
  budInput (gateAtEnd (errReceived s n cnt) n) 1 (canrxBytes (gateAtEnd (errReceived s n cnt) n) n f 0 look)

/-- The state in which a frame of another node is accepted: it has been counted, and the lantern has seen it. -/
def heard (s : State) (n : Nat) (f : CanFrame) (cnt : ErrCnt) (look : Nat) : State :=
  segFrame (add64 (received s n f cnt look) (canR n 0x40) 1) n f

theorem frameArrives_accept {s : State} {n : Nat} {f : CanFrame} (cnt : ErrCnt) (look : Nat) (ho : onBus s n = true) (hi : integrating s n = false)
    (hb : budMode s ≠ 2) (hr : f.rtr = false) (hl : frameLegal s n f = true) (hm : modeCur s n ≠ 4) :
    frameArrives s n f false cnt look = acceptFrame (heard s n f cnt look) n f look := by
  simp [frameArrives, canReceive, heard, received, frameReaches, bnat, ho, hi, hb, hr, hl, hm]

theorem gateAtEnd_only (s : State) (n : Nat) : gateAtEnd s n = { s with bud := (gateAtEnd s n).bud } := by
  unfold gateAtEnd; split <;> rfl

theorem received_spec (s : State) (n : Nat) (f : CanFrame) (cnt : ErrCnt) (look : Nat) :
    received s n f cnt look = { s with regs := (received s n f cnt look).regs, bud := (received s n f cnt look).bud, out := (received s n f cnt look).out } ∧
      RegsKept s (received s n f cnt look) [canR n 0x28, canR n 4, 0x80018] := by
  obtain ⟨only, kept⟩ := errReceived_kept s n cnt
  have gate := gateAtEnd_only (errReceived s n cnt) n
  have streamed := budInput_streamed (gateAtEnd (errReceived s n cnt) n) 1 (canrxBytes (gateAtEnd (errReceived s n cnt) n) n f 0 look)
  refine ⟨by rw [received, streamed.eq, gate, only], fun k hk => ?_⟩
  simp only [List.mem_cons, List.not_mem_nil, or_false, not_or] at hk
  rw [received, streamed.rd k hk.2.2, gate]
  exact kept k (by simp [hk])

/-- What the first state is for acceptance, the second is too; the frame is counted. -/
structure Heard (s a : State) (n : Nat) : Prop where
  eq : a = { s with regs := a.regs, can := a.can, reqSeq := a.reqSeq, jnl := a.jnl, house := a.house, lan := a.lan, bud := a.bud, out := a.out }
  rd : ∀ k, k < 0x40000 ∨ 0x90000 ≤ k ∧ k < 0x100000 → rd a k = rd s k
  count : Machine.rd a (canR n 0x40) = Machine.rd s (canR n 0x40) + 1#32

theorem heard_spec {s : State} {n : Nat} (f : CanFrame) (cnt : ErrCnt) (look : Nat) (hn : n < 48) (h : SegStill s n) : Heard s (heard s n f cnt look) n := by
  obtain ⟨same, kept⟩ := received_spec s n f cnt look
  unfold heard
  generalize received s n f cnt look = b at same kept ⊢
  have counted (k : Nat) (hk : k ∉ [canR n 0x28, canR n 4, 0x80018, canR n 0x40, canR n 0x44]) : rd (add64 b (canR n 0x40) 1) k = rd s k := by
    simp only [List.mem_cons, List.not_mem_nil, or_false, not_or] at hk
    rw [rd_add64 _ _ _ _ hk.2.2.2.1 hk.2.2.2.2, kept k (by simp [hk])]
  have still : SegStill (add64 b (canR n 0x40) 1) n := by
    refine h.congr (by rw [add64_only, same]) (by rw [add64_only, same]) fun k hk => counted k ?_
    simp only [List.mem_cons, List.not_mem_nil, or_false, segR, canR] at hk ⊢
    omega
  have turned := turned_segFrame f hn still
  refine ⟨by rw [turned.eq, add64_only, same], fun k hk => ?_, ?_⟩
  · rw [turned.rd k (by omega), counted]
    simp only [List.mem_cons, List.not_mem_nil, or_false, canR]
    omega
  · rw [turned.rd (canR n 0x40) (by unfold canR; omega), rd_add64_one, kept]
    simp only [List.mem_cons, List.not_mem_nil, or_false, canR]
    omega

theorem Heard.tbl {s a : State} {n : Nat} (h : Heard s a n) : a.tbl = s.tbl := by rw [h.eq]
theorem Heard.obj {s a : State} {n : Nat} (h : Heard s a n) : a.obj = s.obj := by rw [h.eq]
theorem Heard.pay {s a : State} {n : Nat} (h : Heard s a n) : a.pay = s.pay := by rw [h.eq]
theorem Heard.mem {s a : State} {n : Nat} (h : Heard s a n) : a.mem = s.mem := by rw [h.eq]
theorem Heard.tri {s a : State} {n : Nat} (h : Heard s a n) : a.tri = s.tri := by rw [h.eq]

theorem Heard.changesSince_eq {s a : State} {n : Nat} (h : Heard s a n) (look : Nat) : changesSince a look = changesSince s look := by
  unfold changesSince; rw [h.eq]

theorem Heard.owned_eq {s a : State} {n : Nat} (h : Heard s a n) (c : Nat) : owned a c = owned s c := by
  unfold owned compExists compCount; rw [triVal_congr h.tri]

theorem Heard.chanOwner_eq {s a : State} {n : Nat} (h : Heard s a n) (k : Nat) : chanOwner a k = chanOwner s k := by
  unfold chanOwner resOwner; rw [h.owned_eq, triVal_congr h.tri]

theorem Heard.acceptMax_eq {s a : State} {n : Nat} (h : Heard s a n) (e : BitVec 768) : acceptMax a e = acceptMax s e := by
  unfold acceptMax ready getB; rw [h.rd 0x14 (by decide)]

/-! ### Acceptance of a base frame (R70, R74) -/

/-- The object of a base identifier on a channel. -/
def baseObj (n : Nat) (f : CanFrame) : Nat := n * 2048 + f.ident.toNat % 2048

/-- The entry that the lookup of a base frame found `look` ticks ago. -/
def lookedUp (s : State) (n : Nat) (f : CanFrame) (look : Nat) : BitVec 768 := motAt (tablesAgo s look) (baseObj n f)

/-- R31, R70: the entry is a valid receive object that frames of the channel may reach. -/
def receives (s : State) (n : Nat) (e : BitVec 768) : Prop := moValid e = true ∧ moTx e = false ∧ ruleFor (chanOwner s n) (owned s (moComp e)) = true

/-- R70: it takes the frame's format. -/
def takesFmt (e : BitVec 768) (f : CanFrame) : Prop := nbit (moFmt e) (canFmtNo f.fmt) = true

theorem acceptFrame_base (s : State) (n : Nat) {f : CanFrame} (look : Nat) (hi : f.ide = false) :
    acceptFrame s n f look =
      let e := lookedUp s n f look
      let kept := !rewritten s look (baseObj n f)
      if !moValid e || moTx e || !ruleFor (chanOwner s n) (owned s (moComp e)) then accCount s n 1
      else if !nbit (moFmt e) (canFmtNo f.fmt) then accCount s n 2
      else if f.data.length > acceptMax s e then accCount s n 3
      else
        let s' := accCount s n 0
        let v := if moSealed e then sealVerify s' (tablesAgo s look) (baseObj n f) (moJnl e) f else (s', true)
        if v.2 then frameCopies (if kept then commitObj v.1 n (baseObj n f) e f else v.1) n (baseObj n f) e (rltAt (tablesAgo s look) (moRlt e)) kept f
        else if kept then authFailed v.1 n (baseObj n f) e f
        else v.1 := by
  simp only [acceptFrame, canLookup, hi, Bool.false_eq_true, if_false]
  rfl

/-- R70: ACC_NORX. -/
theorem acceptFrame_noObject {s : State} {n : Nat} {f : CanFrame} {look : Nat} (hi : f.ide = false) (h : ¬ receives s n (lookedUp s n f look)) :
    acceptFrame s n f look = accCount s n 1 := by
  rw [acceptFrame_base s n look hi]
  have refused : (!moValid (lookedUp s n f look) || moTx (lookedUp s n f look) ||
      !ruleFor (chanOwner s n) (owned s (moComp (lookedUp s n f look)))) = true := by
    unfold receives at h
    revert h
    cases moValid (lookedUp s n f look) <;> cases moTx (lookedUp s n f look) <;> simp
  simp only [refused, if_true]

/-- R70: ACC_LEN. -/
theorem acceptFrame_tooLong {s : State} {n : Nat} {f : CanFrame} {look : Nat} (hi : f.ide = false) (h : receives s n (lookedUp s n f look))
    (hf : takesFmt (lookedUp s n f look) f) (hl : acceptMax s (lookedUp s n f look) < f.data.length) : acceptFrame s n f look = accCount s n 3 := by
  obtain ⟨valid, rx, rule⟩ := h
  unfold takesFmt at hf
  rw [acceptFrame_base s n look hi]
  simp [valid, rx, rule, hf, hl]

/-- R70, R71, R74: ACC_OK of an unsealed object: the commit, where its entry still stands, and the copies. -/
theorem acceptFrame_plain {s : State} {n : Nat} {f : CanFrame} {look : Nat} (hi : f.ide = false) (h : receives s n (lookedUp s n f look))
    (hf : takesFmt (lookedUp s n f look) f) (hl : f.data.length ≤ acceptMax s (lookedUp s n f look)) (hs : moSealed (lookedUp s n f look) = false) :
    acceptFrame s n f look =
      frameCopies (if rewritten s look (baseObj n f) then accCount s n 0 else commitObj (accCount s n 0) n (baseObj n f) (lookedUp s n f look) f) n (baseObj n f)
        (lookedUp s n f look) (rltAt (tablesAgo s look) (moRlt (lookedUp s n f look))) (!rewritten s look (baseObj n f)) f := by
  obtain ⟨valid, rx, rule⟩ := h
  unfold takesFmt at hf
  rw [acceptFrame_base s n look hi]
  cases rewritten s look (baseObj n f) <;> simp [valid, rx, rule, hf, hs, Nat.not_lt.2 hl]

/-- A frame of which no copy is made. -/
theorem frameCopies_none (s : State) (n o : Nat) (e list : BitVec 768) (kept : Bool) (f : CanFrame) (hh : (moHostrx e && kept) = false)
    (hr : moRoute e = false) (hs : moSigr e = false) : frameCopies s n o e list kept f = s := by
  simp [frameCopies, handAll, hh, hr, hs]

theorem accCount_spec (s : State) (n k : Nat) : rd (accCount s n k) (motR n (4 * k)) = rd s (motR n (4 * k)) + 1#32 := by
  rw [accCount, incC_eq, rd_wr_same]

@[simp] theorem accCount_obj (s : State) (n k : Nat) : (accCount s n k).obj = s.obj := (rfl)
@[simp] theorem accCount_pay (s : State) (n k : Nat) : (accCount s n k).pay = s.pay := (rfl)
@[simp] theorem accCount_mem (s : State) (n k : Nat) : (accCount s n k).mem = s.mem := (rfl)
@[simp] theorem accCount_tbl (s : State) (n k : Nat) : (accCount s n k).tbl = s.tbl := (rfl)

theorem rd_accCount_ne (s : State) (n k o : Nat) (h : o ≠ motR n (4 * k)) : rd (accCount s n k) o = rd s o := by
  rw [accCount, incC_eq, rd_wr_ne _ _ _ _ h]

/-! ### The tables of the lookup (R74) -/

theorem lookedUp_unchanged {s : State} {look : Nat} (n : Nat) (f : CanFrame) (h : changesSince s look = []) : lookedUp s n f look = motAt s (baseObj n f) := by
  simp [lookedUp, tablesAgo, h, motAt, tGet]

theorem rewritten_unchanged {s : State} {look : Nat} (o : Nat) (h : changesSince s look = []) : rewritten s look o = false := by
  simp [rewritten, h]

theorem lookedUp_replaced {s : State} {look k n : Nat} {f : CanFrame} {e : BitVec 768} (h : changesSince s look = [(k, tKey 1 (baseObj n f), e)]) :
    lookedUp s n f look = e := by
  simp only [lookedUp, tablesAgo, h, List.foldl_cons, List.foldl_nil, motAt, tGet]
  exact SMap.get_set_same ..

theorem rewritten_replaced {s : State} {look k o : Nat} {e : BitVec 768} (h : changesSince s look = [(k, tKey 1 o, e)]) : rewritten s look o = true := by
  simp [rewritten, h, tMot]

/-! ### The commit (R67, R71) -/

theorem length_padTo (n : Nat) (l : List Byte) : (padTo n l).length = n := by
  simp only [padTo, List.length_take, List.length_append, List.length_replicate]
  omega

theorem getD_padTo (n : Nat) (l : List Byte) (i : Nat) (hi : i < l.length) (hn : i < n) : (padTo n l).getD i 0 = l.getD i 0 := by
  simp [padTo, List.getD_eq_getElem?_getD, List.getElem?_append_left hi, hn, hi]

/-- R68: a data byte of an object after its data has been written. -/
theorem payByte_putData (s : State) (e : BitVec 768) (data : List Byte) (i : Nat) (hi : i < data.length) (hr : i < dataRoom e) :
    payByte (putData s e data) (dataAt e + i) = data.getD i 0 := by
  rw [putData, payByte_payWrite, length_padTo, if_pos (by omega), Nat.add_sub_cancel_left, getD_padTo _ _ _ hi hr]

theorem commitState_pay (s : State) (o : Nat) (f : CanFrame) : (commitState s o f).pay = s.pay := by simp [commitState]
theorem commitState_mem (s : State) (o : Nat) (f : CanFrame) : (commitState s o f).mem = s.mem := by simp [commitState]
theorem commitState_regs (s : State) (o : Nat) (f : CanFrame) : (commitState s o f).regs = s.regs := by simp [commitState]

theorem obBit_commitState (s : State) (o : Nat) (f : CanFrame) : obBit (commitState s o f) o 16 = true := by
  rw [commitState, obBit_obStamp, obBit_obPut _ _ _ _ _ _ (by decide) (by decide)]
  rfl

theorem obLen_commitState (s : State) (o : Nat) (f : CanFrame) : obLen (commitState s o f) o = f.data.length % 4096 := by
  unfold commitState
  simp only [obLen_obStamp]
  iterate 5 rw [obLen_obPut _ _ _ _ _ (by decide) (by decide) (by decide)]
  exact obLen_obPut_len s o _

theorem objLost_obj (s : State) (n o : Nat) : (objLost s n o).obj = (obPut s o 17 17 1).obj := by simp [objLost, raise_eq]
theorem objLost_pay (s : State) (n o : Nat) : (objLost s n o).pay = s.pay := by simp [objLost, raise_eq]
theorem objLost_mem (s : State) (n o : Nat) : (objLost s n o).mem = s.mem := by simp [objLost, raise_eq]

theorem obBit_objLost (s : State) (n o b : Nat) (hb : b ≠ 17) : obBit (objLost s n o) o b = obBit s o b := by
  rw [obBit_congr (objLost_obj s n o), obBit_obPut _ _ _ _ _ _ (by decide) (by decide), if_neg (by omega)]

theorem obLen_objLost (s : State) (n o : Nat) : obLen (objLost s n o) o = obLen s o := by
  rw [obLen_congr (objLost_obj s n o), obLen_obPut _ _ _ _ _ (by decide) (by decide) (by decide)]

theorem rd_objLost (s : State) (n o k : Nat) (h : k ≠ motR n 0x10) (h' : k ≠ 0xA8600) : rd (objLost s n o) k = rd s k := by
  rw [objLost, rd_raise, if_neg h', incC_eq, rd_wr_ne _ _ _ _ h, rd_obPut]

/-- What a commit of a frame of at most 64 bytes leaves in its object, in memory and in the counters. -/
structure Committed (s t : State) (n o : Nat) (e : BitVec 768) (f : CanFrame) : Prop where
  new : obBit t o 16 = true
  len : obLen t o = f.data.length % 4096
  byte : ∀ i, i < f.data.length → i < 64 → i < dataRoom e → payByte t (dataAt e + i) = f.data.getD i 0
  mem : t.mem = s.mem
  rd : ∀ k, k ≠ motR n 0x10 → k ≠ 0xA8600 → rd t k = rd s k

theorem committed_state (s : State) (n o : Nat) (e : BitVec 768) (f : CanFrame) : Committed s (commitState (putData s e (f.data.take 64)) o f) n o e f where
  new := obBit_commitState ..
  len := obLen_commitState ..
  byte i hi h64 hr := by
    rw [payByte_congr (commitState_pay ..), payByte_putData _ _ _ _ (by simp; omega) hr]
    simp [List.getD_eq_getElem?_getD, h64]
  mem := (commitState_mem ..).trans (payWrite_mem ..)
  rd k _ _ := (rd_congr (commitState_regs ..) k).trans (rd_payWrite ..)

theorem Committed.lost {s t : State} {n o : Nat} {e : BitVec 768} {f : CanFrame} (h : Committed s t n o e f) : Committed s (objLost t n o) n o e f where
  new := (obBit_objLost t n o 16 (by decide)).trans h.new
  len := (obLen_objLost t n o).trans h.len
  byte i hi h64 hr := (payByte_congr (objLost_pay t n o) _).trans (h.byte i hi h64 hr)
  mem := (objLost_mem t n o).trans h.mem
  rd k hk hk' := (rd_objLost t n o k hk hk').trans (h.rd k hk hk')

/-- R71: the commit for an object without NOTIFY, of a frame that is not CAN XL. -/
theorem committed_commitObj (s : State) (n o : Nat) {e : BitVec 768} {f : CanFrame} (hx : f.fmt ≠ .xl) (hn : moNotify e = false) :
    Committed s (commitObj s n o e f) n o e f := by
  simp only [commitObj, commitItem, hx, hn, if_false, Bool.false_eq_true]
  split
  · exact (committed_state s n o e f).lost
  · exact committed_state s n o e f

/-! ### A receive object without CAN XL -/

theorem fmt_of_notXl {e : BitVec 768} {f : CanFrame} (hf : takesFmt e f) (ht : moTx e = false) (hx : moXl e = false) : f.fmt ≠ .xl := by
  intro xl
  have two : moXl e = nbit (moFmt e) 2 := by simp [moXl, ht]
  rw [takesFmt, xl] at hf
  exact absurd (two.trans hf) (by simp [hx])

theorem acceptMax_notXl (s : State) {e : BitVec 768} (hx : moXl e = false) : acceptMax s e = dataRoom e := by
  simp [acceptMax, dataMax, dataRoom, hx]

/-! ### The command -/

theorem exec_canFrameReceived (n : Chan) (f : CanFrame) (own : Bool) (cnt : ErrCnt) (look : Nat) (s : State) :
    exec (.canFrameReceived n f own cnt look) s = .next (settle (frameArrives (segDue s n) n f own cnt look)) := rfl

theorem exec_xlOverflowWriteDone (n : Chan) (s : State) : exec (.xlOverflowWriteDone n) s = .next (settle (xlFlush s n)) := rfl

/-- A data frame of another node on a channel that takes part in its bus comes to acceptance, in a state that differs in nothing it looks at. -/
theorem arrives_at_acceptance (n : Chan) {f : CanFrame} (cnt : ErrCnt) (look : Nat) {s : State} (ho : onBus (segDue s n) n = true)
    (hi : integrating (segDue s n) n = false) (hb : budMode (segDue s n) ≠ 2) (hr : f.rtr = false) (hl : frameLegal (segDue s n) n f = true)
    (hm : modeCur (segDue s n) n ≠ 4) :
    ∃ b, Heard (segDue s n) b n ∧ b.mem = s.mem ∧ b.tbl = s.tbl ∧ exec (.canFrameReceived n f false cnt look) s = .next (settle (acceptFrame b n f look)) := by
  obtain ⟨still, turned⟩ := segDue_onBus n.isLt hb ho
  have hear := heard_spec f cnt look n.isLt still
  exact ⟨_, hear, hear.mem.trans turned.mem, hear.tbl.trans turned.tbl, by rw [exec_canFrameReceived, frameArrives_accept cnt look ho hi hb hr hl hm]⟩

theorem Heard.receives_iff {s a : State} {n : Nat} (h : Heard s a n) (e : BitVec 768) : receives a n e ↔ receives s n e := by
  unfold receives; rw [h.chanOwner_eq, h.owned_eq]

/-! ### What becomes of the frame (R70, R71, R74) -/

/-- RX_OK and acceptance counter `k` have counted a frame; objects and payloads are as before. -/
structure Counted (s t : State) (n k : Nat) : Prop where
  rxOk : rd t (canR n 0x40) = rd s (canR n 0x40) + 1#32
  acc : rd t (motR n (4 * k)) = rd s (motR n (4 * k)) + 1#32
  obj : t.obj = s.obj
  pay : t.pay = s.pay

theorem Counted.settle {s t : State} {n k : Nat} (h : Counted s t n k) : Counted s (settle t) n k :=
  ⟨(rd_settle ..).trans h.rxOk, (rd_settle ..).trans h.acc, (settle_obj _).trans h.obj, (settle_pay _).trans h.pay⟩

theorem Heard.counted {s a : State} {n k : Nat} (h : Heard s a n) (hn : n < 48) (hk : k < 4) : Counted s (accCount a n k) n k where
  rxOk := by rw [rd_accCount_ne _ _ _ _ (by unfold motR canR; omega), h.count]
  acc := by rw [accCount_spec, h.rd _ (by unfold motR; omega)]
  obj := (accCount_obj ..).trans h.obj
  pay := (accCount_pay ..).trans h.pay

section
variable {s b : State} {n look : Nat} {f : CanFrame} (heard : Heard s b n) (hide : f.ide = false)

include heard

theorem Heard.lookedUp_eq (hch : changesSince s look = []) : lookedUp b n f look = motAt s (baseObj n f) :=
  (lookedUp_unchanged n f ((heard.changesSince_eq look).trans hch)).trans (tGet_congr heard.tbl ..)

include hide

/-- R70: no object takes the frame. -/
theorem Heard.acceptFrame_noObject (hch : changesSince s look = []) (h : ¬ receives s n (motAt s (baseObj n f))) :
    acceptFrame b n f look = accCount b n 1 := by
  refine Machine.acceptFrame_noObject hide ?_
  rw [heard.receives_iff, heard.lookedUp_eq hch]
  exact h

/-- R70: its object takes fewer bytes. -/
theorem Heard.acceptFrame_tooLong (hch : changesSince s look = []) {e : BitVec 768} (he : e = motAt s (baseObj n f)) (h : receives s n e)
    (hf : takesFmt e f) (hl : acceptMax s e < f.data.length) : acceptFrame b n f look = accCount b n 3 := by
  obtain rfl : e = lookedUp b n f look := he.trans (heard.lookedUp_eq hch).symm
  exact Machine.acceptFrame_tooLong hide ((heard.receives_iff _).2 h) hf (by rwa [heard.acceptMax_eq])

/-- R71: a plain object takes it: one that makes no copy of it. -/
theorem Heard.acceptFrame_commits (hch : changesSince s look = []) {e : BitVec 768} (he : e = motAt s (baseObj n f)) (h : receives s n e)
    (hf : takesFmt e f) (hl : f.data.length ≤ acceptMax s e) (hs : moSealed e = false) (hhost : moHostrx e = false) (hroute : moRoute e = false)
    (hsigr : moSigr e = false) : acceptFrame b n f look = commitObj (accCount b n 0) n (baseObj n f) e f := by
  obtain rfl : e = lookedUp b n f look := he.trans (heard.lookedUp_eq hch).symm
  rw [acceptFrame_plain hide ((heard.receives_iff _).2 h) hf (by rwa [heard.acceptMax_eq]) hs, rewritten_unchanged _ ((heard.changesSince_eq look).trans hch),
    frameCopies_none _ _ _ _ _ _ _ (by simp [hhost]) hroute hsigr]
  rfl

/-- R74: the entry of its lookup takes it, and has been written since. -/
theorem Heard.acceptFrame_replaced {k : Nat} {e : BitVec 768} (hch : changesSince s look = [(k, tKey 1 (baseObj n f), e)]) (h : receives s n e)
    (hf : takesFmt e f) (hl : f.data.length ≤ acceptMax s e) (hs : moSealed e = false) (hroute : moRoute e = false) (hsigr : moSigr e = false) :
    acceptFrame b n f look = accCount b n 0 := by
  have changed := (heard.changesSince_eq look).trans hch
  obtain rfl : lookedUp b n f look = e := lookedUp_replaced changed
  rw [acceptFrame_plain hide ((heard.receives_iff _).2 h) hf (by rwa [heard.acceptMax_eq]) hs, rewritten_replaced changed,
    frameCopies_none _ _ _ _ _ _ _ (by simp) hroute hsigr]
  rfl

end

/-- R73: the bytes that waited are in memory, and nothing else of it changes. -/
theorem xlFlush_waiting {s : State} {n a : Nat} {bs : List Byte} (h : (chan s n).xlWrite = some (a, bs)) :
    xlFlush s n = memWrite (setChan s n { chan s n with xlWrite := none }) a bs := by simp only [xlFlush, h]

/-- Settles O5: the frame comes to acceptance in a state that agrees with the channel's in all that acceptance looks at, and the counter or the commit follows
from the entry of its lookup; one whose entry has been written since finds the old entry in the tables of the lookup and commits nothing. -/
theorem receivedFrameIsAccepted : Obligations.ReceivedFrameIsAccepted := by
  unfold Obligations.ReceivedFrameIsAccepted
  refine ⟨fun n f cnt look s a ha ho hi hb hr hide hch hl hm => ?_, fun n f cnt look k s a o e ha ho hi hb hr hide hl hm hobj hch hv ht hrule hf hlen hs hroute hsigr => ?_,
    fun n s a bs hw => ?_⟩
  · subst ha
    obtain ⟨b, heard, mem, -, run⟩ := arrives_at_acceptance n cnt look ho hi hb hr hl hm
    refine ⟨fun hno => ⟨_, run, ?_⟩, fun e he hv ht hrule hf hlen hx hs hnot hhost hroute hsigr => ⟨_, run, ?_⟩, fun e he hv ht hrule hf hlen => ⟨_, run, ?_⟩⟩
    · have none : ¬ receives (segDue s n) n (motAt (segDue s n) (baseObj n f)) := by
        rintro ⟨valid, rx, rule⟩
        simp only [baseObj] at valid rx rule
        simp [valid, rx, rule] at hno
      rw [heard.acceptFrame_noObject hide hch none]
      have counted := (heard.counted n.isLt (k := 1) (by decide)).settle
      refine ⟨counted.rxOk, counted.acc, ?_, counted.obj, counted.pay, memKept_of ?_⟩
      · rw [rd_settle, rd_accCount_ne _ _ _ _ (by simp), heard.rd _ (by unfold motR; omega)]
      · rw [settle_mem, accCount_mem, mem]
    · rw [heard.acceptFrame_commits hide hch he ⟨hv, ht, hrule⟩ hf hlen hs hhost hroute hsigr]
      have counted := heard.counted n.isLt (k := 0) (by decide)
      have commit := committed_commitObj (accCount b n 0) n (baseObj n f) (fmt_of_notXl hf ht hx) hnot
      rw [acceptMax_notXl _ hx] at hlen
      refine ⟨?_, ?_, ?_, ?_, fun i hi h64 => ?_, memKept_of ?_⟩
      · rw [rd_settle, commit.rd _ (by unfold canR motR; omega) (by unfold canR; omega), counted.rxOk]
      · exact (rd_settle ..).trans ((commit.rd _ (by simp) (by unfold motR; omega)).trans counted.acc)
      · exact (obBit_congr (settle_obj _) _ _).trans commit.new
      · exact (obLen_congr (settle_obj _) _).trans commit.len
      · exact (payByte_congr (settle_pay _) _).trans (commit.byte i hi h64 (by omega))
      · rw [settle_mem, commit.mem, accCount_mem, mem]
    · rw [heard.acceptFrame_tooLong hide hch he ⟨hv, ht, hrule⟩ hf hlen]
      have counted := (heard.counted n.isLt (k := 3) (by decide)).settle
      exact ⟨counted.rxOk, counted.acc, counted.obj, counted.pay⟩
  · subst ha hobj
    obtain ⟨b, heard, mem, tbl, run⟩ := arrives_at_acceptance n cnt look ho hi hb hr hl hm
    refine ⟨_, run, ?_⟩
    rw [heard.acceptFrame_replaced hide hch ⟨hv, ht, hrule⟩ hf hlen hs hroute hsigr]
    have counted := (heard.counted n.isLt (k := 0) (by decide)).settle
    refine ⟨counted.rxOk, counted.acc, counted.obj, counted.pay, ?_, memKept_of ?_⟩
    · rw [settle_tbl, accCount_tbl, tbl]
    · rw [settle_mem, accCount_mem, mem]
  · refine ⟨_, exec_xlOverflowWriteDone n s, ?_⟩
    rw [xlFlush_waiting hw]
    refine ⟨?_, fun x => (memByte_settle ..).trans (memByte_memWrite ..), fun o _ => (rd_settle ..).trans (rd_memWrite ..)⟩
    rw [chan_settle, chan_congr (memWrite_can ..), chan_setChan, if_pos rfl]

end Sys2Proof.Machine
end

section
/-!
PROOFS. The word of a CAN channel that holds MODE_REQ, MODE_CUR and INTEGRATING (R54, R62): what the operations on it leave and change; a write of MODE_REQ in
a running mode.
-/
namespace Sys2Proof.Machine

/-! ### The mode word (R54, R62) -/

theorem modeReq_congr {s a : State} {n : Nat} (h : rd a (canR n 0) = rd s (canR n 0)) : modeReq a n = modeReq s n := by
  unfold modeReq getF; rw [h]

theorem integrating_congr {s a : State} {n : Nat} (h : rd a (canR n 0) = rd s (canR n 0)) : integrating a n = integrating s n := by
  unfold integrating getB; rw [h]

theorem Streamed.modeReq {s a : State} (h : Streamed s a) (n : Nat) : modeReq a n = modeReq s n := modeReq_congr (h.rd _ (by unfold canR; omega))
theorem Streamed.modeCur {s a : State} (h : Streamed s a) (n : Nat) : modeCur a n = modeCur s n := modeCur_congr (h.rd _ (by unfold canR; omega))
theorem Streamed.integrating {s a : State} (h : Streamed s a) (n : Nat) : integrating a n = integrating s n := integrating_congr (h.rd _ (by unfold canR; omega))
theorem Streamed.chan {s a : State} (h : Streamed s a) (n : Nat) : chan a n = chan s n := chan_congr h.can n
theorem Streamed.ltNs {s a : State} (h : Streamed s a) : ltNs a = ltNs s := by unfold Machine.ltNs; rw [h.time]

theorem modeReq_setF (s : State) (n m : Nat) (hm : m < 8) : modeReq (setF s (canR n 0) 2 0 m) n = m :=
  getF_setF_same _ _ _ _ _ (by decide) (by decide) hm

theorem modeCur_setReq (s : State) (n m : Nat) : modeCur (setF s (canR n 0) 2 0 m) n = modeCur s n :=
  getF_setF_other _ _ _ _ _ _ _ _ (by decide) (by decide) (by omega)

/-! ### A write of MODE_REQ in a running mode (R54, R98) -/

/-- R54: MODE_REQ is `m` now, MODE_CUR is as before, and the change is pending since its first write where the two differ. -/
structure ModePending (a b : State) (n m : Nat) : Prop where
  eq : b = { a with regs := b.regs, can := b.can }
  regs : b.regs = (setF a (canR n 0) 2 0 m).regs
  pend : (chan b n).pendSince = if m = modeCur a n then none else some ((chan a n).pendSince.getD (ltNs a))
  other : ∀ k, k ≠ n → chan b k = chan a k

theorem modeReqSet_running {a : State} {n m : Nat} (h1 : 1 ≤ modeCur a n) (h5 : modeCur a n ≤ 5) (hm : m ≤ 5) : ModePending a (modeReqSet a n m) n m := by
  have cur : modeCur (setF a (canR n 0) 2 0 m) n = modeCur a n := modeCur_setReq a n m
  unfold modeReqSet
  simp only
  rw [if_neg (by omega), if_neg (by omega), if_neg (by omega), if_neg (by omega)]
  split
  · exact ⟨rfl, rfl, by rw [chan_setChan, if_pos rfl, if_pos ‹_›], fun k hk => by rw [chan_setChan, if_neg hk]; rfl⟩
  · split
    · rename_i hne hnone
      have none : (chan a n).pendSince = none := by simpa using hnone
      exact ⟨rfl, rfl, by rw [chan_setChan, if_pos rfl, if_neg hne, none]; rfl, fun k hk => by rw [chan_setChan, if_neg hk]; rfl⟩
    · rename_i hne hsome
      obtain ⟨u, since⟩ := Option.ne_none_iff_exists'.1 (by simpa using hsome : (chan a n).pendSince ≠ none)
      exact ⟨rfl, rfl, by rw [if_neg hne, since]; exact since, fun _ _ => rfl⟩

/-- The write of a requester that ends in such a change. -/
theorem ModePending.settle_disarm {s a b : State} {n m : Nat} (h : ModePending a b n m) (hs : Streamed s a) (hm : m ≤ 5) (q : Requester) :
    modeReq (settle (disarm b q)) n = m ∧ modeCur (settle (disarm b q)) n = modeCur s n ∧
      (chan (settle (disarm b q)) n).pendSince = (if m = modeCur s n then none else some ((chan s n).pendSince.getD (ltNs s))) ∧
      (∀ k, k ≠ n → chan (settle (disarm b q)) k = chan s k) ∧ RegsKept s (settle (disarm b q)) [canR n 0, 0x80018] ∧
      MemKept s (settle (disarm b q)) ∧ armed (settle (disarm b q)) q = false := by
  have word (k : Nat) : rd (settle (disarm b q)) k = rd (setF a (canR n 0) 2 0 m) k := rd_congr h.regs k
  refine ⟨?_, ?_, ?_, fun k hk => (h.other k hk).trans (hs.chan k), fun k hk => ?_, memKept_of ?_, armed_disarm_same b q⟩
  · exact (modeReq_congr (word _)).trans (modeReq_setF a n m (by omega))
  · exact (modeCur_congr (word _)).trans ((modeCur_setReq a n m).trans (hs.modeCur n))
  · rw [← hs.modeCur n, ← hs.chan n, ← hs.ltNs]
    exact h.pend
  · simp only [List.mem_cons, List.not_mem_nil, or_false, not_or] at hk
    rw [word, rd_setF, if_neg hk.1, hs.rd k hk.2]
  · have mem : b.mem = a.mem := by rw [h.eq]
    exact mem.trans hs.mem

theorem exec_modeReqWrite (q : Requester) (n : Chan) (data : Word) (s : State) : exec (.modeReqWrite q n data) s =
    .next (settle (disarm (pairedWrite s q (canR n.val 0) data fun a => modeReqSet a n.val (fld data 2 0)) q)) := rfl

theorem exec_apertureModeWrite (q : Requester) (n : Fin 12) (data : Word) (s : State) : exec (.apertureModeWrite q n data) s =
    .next (settle (disarm (pairedWrite s q (apBase n.val) data fun a => apModeOp a n.val data) q)) := rfl

theorem Streamed.frEn {s a : State} (h : Streamed s a) (n : Nat) : frEn a n = frEn s n := by
  unfold Machine.frEn; rw [h.getB _ _ (by decide)]

theorem apMode_fld_le (data : Word) : apMode (fld data 1 0) ≤ 5 := by
  have := fld_lt data 1 0
  unfold apMode
  split_ifs <;> omega

/-- Settles O1: in a running mode a write of MODE_REQ, the aperture's with its own codes, comes down to `modeReqSet`, which leaves the change pending. -/
theorem modeRequestIsPending : Obligations.ModeRequestIsPending := by
  unfold Obligations.ModeRequestIsPending
  refine ⟨fun q n data s hb h1 h5 hm => ?_, fun q n data s hb hf h1 h5 => ?_⟩
  · obtain ⟨a, write, streamed⟩ := pairedWrite_open s q (canR n.val 0) data (fun a => modeReqSet a n.val (fld data 2 0)) hb
    refine ⟨_, exec_modeReqWrite q n data s, ?_⟩
    rw [write]
    rw [← streamed.modeCur] at h1 h5
    exact (modeReqSet_running h1 h5 hm).settle_disarm streamed hm q
  · obtain ⟨a, write, streamed⟩ := pairedWrite_open s q (apBase n.val) data (fun a => apModeOp a n.val data) hb
    refine ⟨_, exec_apertureModeWrite q n data s, ?_⟩
    rw [write, apModeOp, streamed.frEn, hf, if_pos rfl]
    rw [← streamed.modeCur] at h1 h5
    exact (modeReqSet_running h1 h5 (apMode_fld_le data)).settle_disarm streamed (apMode_fld_le data) q

end Sys2Proof.Machine
end

section
/-!
PROOFS. The clear commands: a block's counters zeroed in one step (R64 and its kin), and the peaks that restart from the present use (R161, R233).
-/
namespace Sys2Proof.Machine

/-! ### Counters zeroed by a register write -/

theorem mem_wordsFrom {o a n : Nat} : o ∈ wordsFrom a n ↔ ∃ i, i < n ∧ o = a + 4 * i := by
  simp only [wordsFrom, List.mem_map, List.mem_range]
  exact ⟨fun ⟨i, hi, e⟩ => ⟨i, hi, e.symm⟩, fun ⟨i, hi, e⟩ => ⟨i, hi, e.symm⟩⟩

theorem rd_settle_disarm (s : State) (q : Requester) (o : Nat) : rd (settle (disarm s q)) o = rd s o := (rfl)
theorem getF_settle_disarm (s : State) (q : Requester) (o hi lo : Nat) : getF (settle (disarm s q)) o hi lo = getF s o hi lo := (rfl)
theorem getB_settle_disarm (s : State) (q : Requester) (o b : Nat) : getB (settle (disarm s q)) o b = getB s o b := (rfl)

theorem poolUse_settle_disarm (s : State) (q : Requester) (p : Nat) : poolUse (settle (disarm s q)) p = poolUse s p := (rfl)

/-- A requester's write whose one effect is that the words of `l` read zero. -/
structure Zeroed (q : Requester) (s t : State) (l : List Nat) : Prop where
  zero : ∀ o ∈ l, rd t o = 0
  only : OnlyRegsOf q s t l
  disarmed : armed t q = false

theorem zeroed_of_streamed {s a : State} (h : Streamed s a) (q : Requester) (l : List Nat) : Zeroed q s (settle (disarm (zeroAll a l) q)) l where
  zero o ho := (rd_zeroAll l a o).trans (if_pos ho)
  only := onlyRegsOf_of q h (zeroAll_only l a) (zeroAll_kept l a)
  disarmed := armed_disarm_same ..

/-- The rows of the blocks that are not paired. -/
theorem exec_blockClear {q : Requester} {p : Port} {c : Instr} {l : List Nat} (s : State)
    (h : (c, l) ∈ [(Instr.portCntClr q p, ethCounters p.val), (.swFwdCntClr q, fwdCounters), (.timeCntClr q, timeCounters), (.secCntClr q, secCounters),
      (.ringCntClr q, ringCounters), (.jnlCntClr q, jnlCounters), (.devCntClr q, [0x2C, 0x30]), (.clkCntClr q, wordsFrom 0x10040 5 ++ [0x1010C, 0x10110]),
      (.lanCntClr q, wordsFrom 0x70060 4)]) : exec c s = .next (settle (disarm (zeroAll s l) q)) := by
  simp only [List.mem_cons, List.not_mem_nil, or_false, Prod.mk.injEq] at h
  rcases h with ⟨rfl, rfl⟩ | ⟨rfl, rfl⟩ | ⟨rfl, rfl⟩ | ⟨rfl, rfl⟩ | ⟨rfl, rfl⟩ | ⟨rfl, rfl⟩ | ⟨rfl, rfl⟩ | ⟨rfl, rfl⟩ | ⟨rfl, rfl⟩ <;> rfl

/-- A write of a paired block that zeroes counters, at a unit that is not STANDBY. -/
theorem zeroed_pairedWrite {s : State} (q : Requester) (off : Nat) (data : Word) (l : List Nat) (hb : budMode s ≠ 2) :
    Zeroed q s (settle (disarm (pairedWrite s q off data fun a => zeroAll a l) q)) l := by
  obtain ⟨a, write, streamed⟩ := pairedWrite_open s q off data (fun a => zeroAll a l) hb
  rw [write]
  exact zeroed_of_streamed streamed q l

/-- The rows of the signal image and of the mirror. -/
theorem zeroed_imageClear {q : Requester} {s : State} {c : Instr} {l : List Nat} (hb : budMode s ≠ 2)
    (h : (c, l) ∈ [(Instr.sigMirCntClr q, mirCounters), (.sigImgCntClr q, imgCounters)]) : ∃ t, exec c s = .next t ∧ Zeroed q s t l := by
  simp only [List.mem_cons, List.not_mem_nil, or_false, Prod.mk.injEq] at h
  rcases h with ⟨rfl, rfl⟩ | ⟨rfl, rfl⟩
  · exact ⟨_, rfl, zeroed_pairedWrite q 0x1A2008 _ mirCounters hb⟩
  · exact ⟨_, rfl, zeroed_pairedWrite q 0x1A0014 _ imgCounters hb⟩

/-! ### TDC_MEAS_CLR (R42) -/

theorem tdcClear_fields (s : State) (n : Nat) :
    getF (tdcClear s n) (canR n 0x20) 6 0 = getF s (canR n 0x20) 6 0 ∧ getF (tdcClear s n) (canR n 0x20) 14 8 = 127 ∧
      getF (tdcClear s n) (canR n 0x20) 22 16 = 0 ∧ getB (tdcClear s n) (canR n 0x20) 31 = false := by
  have tdcv : getF s (canR n 0x20) 6 0 < 128 := fld_lt _ 6 0
  have low : (getF s (canR n 0x20) 6 0 + 32512) % 4294967296 = getF s (canR n 0x20) 6 0 + 32512 := by omega
  unfold tdcClear
  simp only [getF_wr_same, getB_wr_same, fld, BitVec.toNat_ofNat, BitVec.getLsbD_ofNat, Nat.shiftRight_eq_div_pow, Nat.testBit_eq_decide_div_mod_eq]
  norm_num [low]
  omega

theorem tdcClear_kept (s : State) (n : Nat) : RegsOnly s (tdcClear s n) ∧ RegsKept s (tdcClear s n) [canR n 0x20] :=
  ⟨(RegsOnly.refl s).wr _ _, (RegsKept.refl s _).wr _ _ (by simp)⟩

/-! ### Peaks that restart (R161, R233) -/

section
variable (r : Nat → Nat) (hi lo : Nat) (v : State → Nat → Nat)

/-- For each index of `l` a field is set to the present value of another one. -/
def restartPeaks (l : List Nat) (s : State) : State := l.foldl (fun a p => setF a (r p) hi lo (v a p)) s

theorem restartPeaks_kept (l : List Nat) (s : State) : RegsKept s (restartPeaks r hi lo v l s) (l.map r) := by
  induction l generalizing s with
  | nil => exact .refl s _
  | cons p l ih =>
    intro k hk
    simp only [List.map_cons, List.mem_cons, not_or] at hk
    exact (ih _ k hk.2).trans (by rw [rd_setF, if_neg hk.1])

variable {r hi lo v} (hv : ∀ a p x p', v (setF a (r p) hi lo x) p' = v a p')
include hv

theorem restartPeaks_value (l : List Nat) (s : State) (p : Nat) : v (restartPeaks r hi lo v l s) p = v s p := by
  induction l generalizing s with
  | nil => rfl
  | cons a l ih => exact (ih _).trans (hv ..)

theorem restartPeaks_peak (hr : Function.Injective r) (h : hi < 32) (hl : lo ≤ hi) (hlt : ∀ a p, v a p < 2 ^ (hi + 1 - lo)) (l : List Nat) (s : State) :
    ∀ p ∈ l, getF (restartPeaks r hi lo v l s) (r p) hi lo = v s p := by
  induction l generalizing s with
  | nil => simp
  | cons a l ih =>
    intro p hp
    by_cases later : p ∈ l
    · exact (ih _ p later).trans (hv ..)
    · obtain rfl : p = a := (List.mem_cons.1 hp).resolve_right later
      have untouched : r p ∉ l.map r := by rwa [List.mem_map_of_injective hr]
      have kept := restartPeaks_kept r hi lo v l (setF s (r p) hi lo (v s p)) (r p) untouched
      exact (congrArg (fld · hi lo) kept).trans (getF_setF_same _ _ _ _ _ h hl (hlt s p))

end

theorem poolUseR_injective : Function.Injective poolUseR := fun p p' h => by unfold poolUseR at h; omega

theorem poolUse_setPeak (a : State) (p x p' : Nat) : poolUse (setF a (poolUseR p) 30 16 x) p' = poolUse a p' :=
  getF_setF_other _ _ _ _ _ _ _ _ (by decide) (by decide) (by omega)

theorem swR_peak_injective : Function.Injective fun q => swR q 0x7C := fun q q' h => by
  simp only [swR] at h
  split_ifs at h <;> omega

theorem portUse_setPeak (a : State) (p x p' : Nat) : portUse (setF a (swR p 0x7C) 17 0 x) p' = portUse a p' := by
  refine getF_setF_other _ _ _ _ _ _ _ _ (by decide) (by decide) (.inl ?_)
  unfold swR
  split_ifs <;> omega

/-- A counter of SE is no SE_POOL_USE word. -/
theorem seCounters_not_poolUse : ∀ p, p < 16 → poolUseR p ∉ seCounters := by decide

theorem seClear_eq (s : State) : seClear s = restartPeaks poolUseR 30 16 poolUse (List.range 16) (zeroAll s seCounters) := rfl

/-- R161: the counters of SE read zero, and each PEAK is the present use. -/
theorem seClear_spec (s : State) : (∀ o ∈ seCounters, rd (seClear s) o = 0) ∧
    ∀ p, p < 16 → getF (seClear s) (poolUseR p) 30 16 = poolUse s p ∧ poolUse (seClear s) p = poolUse s p := by
  have use (p : Nat) (hp : p < 16) : poolUse (zeroAll s seCounters) p = poolUse s p :=
    congrArg (fld · 14 0) (zeroAll_kept seCounters s _ (seCounters_not_poolUse p hp))
  rw [seClear_eq]
  refine ⟨fun o ho => ?_, fun p hp => ⟨?_, (restartPeaks_value poolUse_setPeak _ _ p).trans (use p hp)⟩⟩
  · have notUse : o ∉ (List.range 16).map poolUseR := by
      rintro h
      obtain ⟨p, hp, rfl⟩ := List.mem_map.1 h
      exact seCounters_not_poolUse p (List.mem_range.1 hp) ho
    rw [restartPeaks_kept poolUseR 30 16 poolUse _ _ o notUse, rd_zeroAll, if_pos ho]
  · refine (restartPeaks_peak poolUse_setPeak poolUseR_injective (by decide) (by decide) (fun a p => fld_lt _ 14 0) _ _ p ?_).trans (use p hp)
    exact List.mem_range.2 hp

/-- The uses and the peaks of the switch core and of its ports are no counters. -/
theorem swCounters_not_use : 0x180024 ∉ swCounters ∧ 0x180028 ∉ swCounters ∧ ∀ q ∈ swPortList, swR q 0x0C ∉ swCounters ∧ swR q 0x7C ∉ swCounters := by
  decide +kernel

theorem swClear_eq (s : State) : swClear s =
    restartPeaks (fun q => swR q 0x7C) 17 0 portUse swPortList (setF (zeroAll s swCounters) 0x180028 17 0 (cellsUse (zeroAll s swCounters))) := rfl

/-- R233: the counters of the switch core read zero, and each peak is the present use. -/
theorem swClear_spec (s : State) : (∀ o ∈ swCounters, rd (swClear s) o = 0) ∧ getF (swClear s) 0x180028 17 0 = cellsUse s ∧
    ∀ p ∈ swPortList, getF (swClear s) (swR p 0x7C) 17 0 = portUse s p := by
  obtain ⟨notUse, notPeak, ports⟩ := swCounters_not_use
  have cells : cellsUse (zeroAll s swCounters) = cellsUse s := congrArg (fld · 17 0) (zeroAll_kept swCounters s _ notUse)
  rw [swClear_eq, cells]
  generalize hb : setF (zeroAll s swCounters) 0x180028 17 0 (cellsUse s) = b
  have word (o : Nat) (ho : o ≠ 0x180028) : rd b o = rd (zeroAll s swCounters) o := by rw [← hb, rd_setF, if_neg ho]
  have kept := restartPeaks_kept (fun q => swR q 0x7C) 17 0 portUse swPortList b
  have low (q : Nat) : swR q 0x7C ≠ 0x180028 := by unfold swR; split_ifs <;> omega
  refine ⟨fun o ho => ?_, ?_, fun p hp => ?_⟩
  · have notPort : o ∉ swPortList.map fun q => swR q 0x7C := by
      rintro h
      obtain ⟨q, hq, rfl⟩ := List.mem_map.1 h
      exact (ports q hq).2 ho
    rw [kept o notPort, word o fun e => notPeak (e ▸ ho), rd_zeroAll, if_pos ho]
  · have notPort : 0x180028 ∉ swPortList.map fun q => swR q 0x7C := by
      rintro h
      obtain ⟨q, -, e⟩ := List.mem_map.1 h
      exact low q e
    refine (congrArg (fld · 17 0) (kept _ notPort)).trans ?_
    rw [← hb]
    exact getF_setF_same _ _ _ _ _ (by decide) (by decide) (fld_lt _ 17 0)
  · refine (restartPeaks_peak portUse_setPeak swR_peak_injective (by decide) (by decide) (fun a p => fld_lt _ 17 0) _ _ p hp).trans ?_
    have notCells : swR p 0x0C ≠ 0x180028 := by unfold swR; split_ifs <;> omega
    exact congrArg (fld · 17 0) ((word _ notCells).trans (zeroAll_kept swCounters s _ (ports p hp).1))

/-! ### LAG_PEAK (R466) and the hidden mailbox pages (R376) -/

theorem budClear_kept (s : State) : RegsOnly s (budClear s) ∧ RegsKept s (budClear s) (0x80014 :: wordsFrom 0x80040 7) := by
  refine ⟨RegsOnly.setF (zeroAll_only _ s) .., fun o ho => ?_⟩
  simp only [List.mem_cons, not_or] at ho
  rw [budClear, rd_setF, if_neg ho.1, rd_zeroAll, if_neg ho.2]

theorem budClear_spec (s : State) : (∀ o ∈ wordsFrom 0x80040 7, rd (budClear s) o = 0) ∧ getF (budClear s) 0x80014 31 16 = 0 ∧
    getF (budClear s) 0x80014 15 0 = getF s 0x80014 15 0 := by
  refine ⟨fun o ho => ?_, getF_setF_same _ _ _ _ _ (by decide) (by decide) (by decide), ?_⟩
  · have notPeak : o ≠ 0x80014 := by rintro rfl; revert ho; decide
    rw [budClear, rd_setF, if_neg notPeak, rd_zeroAll, if_pos ho]
  · refine (getF_setF_other _ _ _ _ _ _ _ _ (by decide) (by decide) (by decide)).trans ?_
    exact congrArg (fld · 15 0) (zeroAll_kept _ s _ (by decide))

/-- R348: a discarded write leaves the registers below the journals. -/
theorem rd_writeDiscard_low (s : State) (off : Nat) (data : Word) (be : BitVec 4) (words o : Nat) (ho : o < 0x40000) :
    rd (writeDiscard s off data be words) o = rd s o := by
  rw [writeDiscard, rd_evtItem _ _ _ _ _ _ _ (.inl ho)]
  refine (rd_congr (s := raise (wr (incC s 0x51014) 0x51010 (BitVec.ofNat 32 (off % 2 ^ 24))) 0x51000 0) rfl o).trans ?_
  rw [rd_raise, if_neg (by omega), rd_wr_ne _ _ _ _ (by omega), incC_eq, rd_wr_ne _ _ _ _ (by omega)]

theorem hidden_host {q : Requester} {m : Mbx} (h : pageHidden q m.val = true) : q = .host ∧ 8 ≤ m.val := by
  simpa [pageHidden] using h

theorem exec_canCntClr (q : Requester) (n : Chan) (s : State) : exec (.canCntClr q n) s =
    .next (settle (disarm (pairedWrite s q (canR n.val 8) 2 fun a => zeroAll a (canCounters n.val)) q)) := rfl

theorem exec_tdcMeasClr (q : Requester) (n : Chan) (s : State) : exec (.tdcMeasClr q n) s =
    .next (settle (disarm (pairedWrite s q (canR n.val 8) 4 fun a => tdcClear a n.val) q)) := rfl

theorem exec_motClrOne (q : Requester) (ch : BitVec 6) (s : State) : exec (.motClrOne q ch) s =
    .next (settle (disarm (pairedWrite s q 0xA8608 (strobe s 0xA8608 (64 + ch.toNat)) fun a => motClearOne a ch.toNat) q)) := rfl

/-- The words that MOT_CLR of every channel zeroes. -/
def allMotCounters : List Nat := [0xA8614, 0xA8618] ++ (List.range 48).flatMap motCounters

theorem mem_allMotCounters {n o : Nat} (hn : n < 48) (ho : o ∈ motCounters n) : o ∈ allMotCounters :=
  List.mem_append_right _ (List.mem_flatMap.2 ⟨n, List.mem_range.2 hn, ho⟩)

theorem exec_motClrAll (q : Requester) (s : State) : exec (.motClrAll q) s =
    .next (settle (disarm (pairedWrite s q 0xA8608 (strobe s 0xA8608 128) fun a => zeroAll a allMotCounters) q)) := rfl

theorem exec_budCntClr (q : Requester) (s : State) : exec (.budCntClr q) s = .next (settle (disarm (budClear s) q)) := rfl

theorem exec_seCntClr (q : Requester) (s : State) : exec (.seCntClr q) s =
    .next (settle (disarm (pairedWrite s q 0x1A1008 (strobe s 0x1A1008 0x100) seClear) q)) := rfl

theorem exec_swCntClr (q : Requester) (s : State) : exec (.swCntClr q) s = .next (settle (disarm (swClear s) q)) := rfl

theorem exec_mbxCntClr (q : Requester) (m : Mbx) (s : State) : exec (.mbxCntClr q m) s =
    .next (settle (disarm (if pageHidden q m.val then reservedWrite s q (mbxR m 0) 8 else mbxClear s m.val) q)) := rfl

/-! ### The obligation -/

/-- Settles O6: each row is `zeroAll` on its block's counters, for the paired blocks after what the stream takes; the peaks are set behind it. -/
theorem everyCounterClears : Obligations.EveryCounterClears := by
  unfold Obligations.EveryCounterClears
  refine ⟨⟨fun q n s hb => ?_, fun q n s hb => ?_, fun q ch s hb => ?_, fun q s hb => ?_⟩, fun q p s c l h => ?_, fun q s c l hb h => ?_, fun q m s => ⟨fun h => ?_, fun h => ?_⟩,
    fun q s => ?_, fun q s hb => ?_, fun q s => ?_⟩
  · obtain ⟨zero, only, disarmed⟩ := zeroed_pairedWrite q (canR n.val 8) 2 (canCounters n) hb
    exact ⟨_, exec_canCntClr q n s, zero, only, disarmed⟩
  · obtain ⟨a, write, streamed⟩ := pairedWrite_open s q (canR n.val 8) 4 (fun a => tdcClear a n.val) hb
    obtain ⟨tdcv, least, largest, valid⟩ := tdcClear_fields a n.val
    rw [streamed.getF _ _ _ (by unfold canR; omega)] at tdcv
    refine ⟨_, exec_tdcMeasClr q n s, ?_⟩
    rw [write]
    simp only [getF_settle_disarm, getB_settle_disarm]
    obtain ⟨only, kept⟩ := tdcClear_kept a n.val
    exact ⟨tdcv, least, largest, valid, onlyRegsOf_of q streamed only kept⟩
  · obtain ⟨a, write, streamed⟩ := pairedWrite_open s q 0xA8608 (strobe s 0xA8608 (64 + ch.toNat)) (fun a => motClearOne a ch.toNat) hb
    refine ⟨_, exec_motClrOne q ch s, ?_⟩
    rw [write]
    refine ⟨fun h => ?_, fun h => ?_⟩
    · rw [motClearOne, if_pos h]
      obtain ⟨zero, only, -⟩ := zeroed_of_streamed streamed q (motCounters ch.toNat)
      exact ⟨zero, only⟩
    · rw [motClearOne, if_neg (by omega)]
      exact onlyRegsOf_of q streamed rfl (.refl a _)
  · obtain ⟨zero, only, -⟩ := zeroed_pairedWrite q 0xA8608 (strobe s 0xA8608 128) allMotCounters hb
    exact ⟨_, exec_motClrAll q s, fun n hn o ho => zero o (mem_allMotCounters hn ho), zero _ (List.mem_append_left _ (by decide)),
      zero _ (List.mem_append_left _ (by decide)), only⟩
  · obtain ⟨zero, only, disarmed⟩ := zeroed_of_streamed (Streamed.refl s) q l
    exact ⟨_, exec_blockClear s h, zero, only, disarmed⟩
  · obtain ⟨t, run, zero, only, disarmed⟩ := zeroed_imageClear hb h
    exact ⟨t, run, zero, only, disarmed⟩
  · refine ⟨_, exec_mbxCntClr q m s, ?_⟩
    rw [h, if_neg Bool.false_ne_true, mbxClear]
    obtain ⟨zero, only, -⟩ := zeroed_of_streamed (Streamed.refl s) q (wordsFrom (mbxR m 0x10) 4)
    exact ⟨zero, only⟩
  · refine ⟨_, exec_mbxCntClr q m s, ?_⟩
    obtain ⟨rfl, hm⟩ := hidden_host h
    have page := m.isLt
    rw [h, if_pos rfl, reservedWrite, if_pos rfl]
    simp only [rd_settle_disarm]
    refine ⟨(rd_writeDiscard s _ 8 15 1 0x51014 (by unfold mbxR; omega) (by decide)).trans (by simp [rd_raise, rd_wr]), fun o ho => ?_⟩
    obtain ⟨i, hi, rfl⟩ := mem_wordsFrom.1 ho
    exact rd_writeDiscard_low s _ 8 15 1 _ (by unfold mbxR; omega)
  · obtain ⟨only, kept⟩ := budClear_kept s
    obtain ⟨zero, peak, lag⟩ := budClear_spec s
    refine ⟨_, exec_budCntClr q s, ?_⟩
    simp only [rd_settle_disarm, getF_settle_disarm]
    exact ⟨zero, peak, lag, onlyRegsOf_of q (Streamed.refl s) only kept⟩
  · obtain ⟨a, write, streamed⟩ := pairedWrite_open s q 0x1A1008 (strobe s 0x1A1008 0x100) seClear hb
    obtain ⟨zero, peaks⟩ := seClear_spec a
    have use (p : Nat) : poolUse a p = poolUse s p := streamed.getF _ _ _ (by unfold poolUseR; omega)
    simp only [use] at peaks
    refine ⟨_, exec_seCntClr q s, ?_⟩
    rw [write]
    simp only [rd_settle_disarm, getF_settle_disarm, poolUse_settle_disarm]
    exact ⟨zero, peaks⟩
  · refine ⟨_, exec_swCntClr q s, ?_⟩
    simp only [rd_settle_disarm, getF_settle_disarm]
    exact swClear_spec s

end Sys2Proof.Machine
end

section
/-!
PROOFS. The end of an attempt on a CAN channel (R83, R86 to R88, R435): what a lost, cut or abandoned frame leaves as it was: the channel's registers, the tables,
the segments' windows. Then the entry of DISABLED and of BUS_OFF (R51, R56), which end attempts.
-/
namespace Sys2Proof.Machine

/-! ### What ending an attempt leaves -/

/-- Register words that the end of an attempt leaves: it counts in the message objects' and in the pools' registers, and writes journal items. -/
def AttemptLeaves (k : Nat) : Prop := k < 0x40000 ∨ 0x41010 ≤ k ∧ k < 0xA8000 ∨ 0xA8700 ≤ k ∧ k < 0x1A1080

theorem attemptLeaves_canR (n k : Nat) (hn : n < 48) (hk : k < 0x1000) : AttemptLeaves (canR n k) := by unfold AttemptLeaves canR; omega

/-- The second state is the first after the ends of attempts; `l` are the words of AttemptLeaves that change as well. -/
structure Ended (s a : State) (l : List Nat) : Prop where
  eq : a = { s with regs := a.regs, can := a.can, obj := a.obj, reqSeq := a.reqSeq, copies := a.copies, jnl := a.jnl, house := a.house, lan := a.lan,
                    bud := a.bud, free := a.free }
  rd : ∀ k, AttemptLeaves k → k ∉ l → rd a k = rd s k
  lnt : a.lan.lnt = s.lan.lnt
  seg : ∀ n, (segAt a n).st = (segAt s n).st ∧ (segAt a n).c = (segAt s n).c ∧ (segAt a n).w = (segAt s n).w
  bus : ∀ n, (chan s n).bus = none → (chan a n).bus = none

theorem Ended.refl (s : State) (l : List Nat) : Ended s s l := ⟨rfl, fun _ _ _ => rfl, rfl, fun _ => ⟨rfl, rfl, rfl⟩, fun _ h => h⟩

theorem Ended.trans {s a b : State} {l : List Nat} (h : Ended s a l) (h' : Ended a b l) : Ended s b l where
  eq := by rw [h'.eq, h.eq]
  rd k hk hl := (h'.rd k hk hl).trans (h.rd k hk hl)
  lnt := h'.lnt.trans h.lnt
  seg n := by
    obtain ⟨st, c, w⟩ := h.seg n
    obtain ⟨st', c', w'⟩ := h'.seg n
    exact ⟨st'.trans st, c'.trans c, w'.trans w⟩
  bus n hn := h'.bus n (h.bus n hn)

theorem Ended.mono {s a : State} {l l' : List Nat} (h : Ended s a l) (hl : ∀ k ∈ l, k ∈ l') : Ended s a l' :=
  { h with rd := fun k hk hl' => h.rd k hk fun hm => hl' (hl k hm) }

theorem Ended.ite {s a b : State} {l : List Nat} {p : Prop} [Decidable p] (h : Ended s a l) (h' : Ended s b l) : Ended s (if p then a else b) l := by
  split <;> assumption

theorem Ended.foldl {α : Type} {l : List Nat} {f : State → α → State} (hf : ∀ a x, Ended a (f a x) l) (xs : List α) (s : State) : Ended s (xs.foldl f s) l := by
  induction xs generalizing s with
  | nil => exact .refl s l
  | cons x xs ih => exact (hf s x).trans (ih _)

theorem ended_wr (s : State) (o : Nat) (w : Word) {l : List Nat} (ho : ¬ AttemptLeaves o ∨ o ∈ l) : Ended s (wr s o w) l where
  eq := rfl
  rd k hk hl := rd_wr_ne s o k w fun e => ho.elim (fun h => h (e ▸ hk)) fun h => hl (e ▸ h)
  lnt := rfl
  seg _ := ⟨rfl, rfl, rfl⟩
  bus _ h := h

theorem ended_setObj (s : State) (o : Nat) (x : ObjRt) (l : List Nat) : Ended s (setObj s o x) l :=
  ⟨rfl, fun _ _ _ => rfl, rfl, fun _ => ⟨rfl, rfl, rfl⟩, fun _ h => h⟩

theorem ended_obPut (s : State) (o hi lo v : Nat) (l : List Nat) : Ended s (obPut s o hi lo v) l := ended_setObj ..

/-- A change of a channel that puts no frame on its bus. -/
theorem ended_setChan (s : State) (n : Nat) {x : CanRt} (hx : x.bus = none ∨ x.bus = (chan s n).bus) (l : List Nat) : Ended s (setChan s n x) l where
  eq := rfl
  rd _ _ _ := rfl
  lnt := rfl
  seg _ := ⟨rfl, rfl, rfl⟩
  bus k hk := by
    rw [chan_setChan]
    split
    · subst_vars
      exact hx.elim id fun e => e.trans hk
    · exact hk

/-- A change of a segment that leaves its state and its windows of SETTLE and AWAKE. -/
theorem ended_setSeg (s : State) (n : Nat) {x : Seg} (st : x.st = (segAt s n).st) (c : x.c = (segAt s n).c) (w : x.w = (segAt s n).w) (l : List Nat) :
    Ended s (setSeg s n x) l where
  eq := rfl
  rd _ _ _ := rfl
  lnt := rfl
  seg k := by
    rw [segAt_setSeg]
    split
    · subst_vars
      exact ⟨st, c, w⟩
    · exact ⟨rfl, rfl, rfl⟩
  bus _ h := h

theorem ended_itemTo (s : State) {j : Nat} (hj : j < 64) (ty src : Nat) (pay : List Byte) (l : List Nat) : Ended s (itemTo s j ty src pay) l := by
  obtain ⟨r, x, h, e, hr⟩ := jnlPut_only s j ty (stampNow s) src pay hj
  rw [itemTo, e]
  exact ⟨rfl, fun k hk _ => hr k (by unfold AttemptLeaves at hk; omega), rfl, fun _ => ⟨rfl, rfl, rfl⟩, fun _ h => h⟩

theorem ended_evtItem (s : State) (o lo ty src : Nat) (pay : List Byte) (l : List Nat) : Ended s (evtItem s o lo ty src pay) l := by
  obtain ⟨r, x, h, e, hr⟩ := evtItem_only s o lo ty src pay
  rw [e]
  exact ⟨rfl, fun k hk _ => hr k (by unfold AttemptLeaves at hk; omega), rfl, fun _ => ⟨rfl, rfl, rfl⟩, fun _ h => h⟩

theorem ended_setPoolUse (s : State) (p u : Nat) (l : List Nat) : Ended s (setPoolUse s p u) l :=
  have pool : ¬ AttemptLeaves (poolUseR p) := by unfold AttemptLeaves poolUseR; omega
  (ended_wr s _ _ (.inl pool)).trans (ended_wr _ _ _ (.inl pool))

theorem ended_setCopy (s : State) (c : Nat) (x : PoolCopy) (l : List Nat) : Ended s (setCopy s c x) l :=
  ⟨rfl, fun _ _ _ => rfl, rfl, fun _ => ⟨rfl, rfl, rfl⟩, fun _ h => h⟩

theorem ended_copyDone (s : State) (c : Nat) (l : List Nat) : Ended s (copyDone s c) l := by
  unfold copyDone
  simp only
  split
  · exact (ended_setCopy s c _ l).trans (ended_setPoolUse _ _ _ l)
  · exact ended_setCopy s c _ l

theorem ended_gateAtEnd (s : State) (n : Nat) (l : List Nat) : Ended s (gateAtEnd s n) l := by
  rw [gateAtEnd_only]
  exact ⟨rfl, fun _ _ _ => rfl, rfl, fun _ => ⟨rfl, rfl, rfl⟩, fun _ h => h⟩

/-! ### Objects, routed copies and roll calls (R83, R86, R87, R435) -/

theorem moJnl_lt (e : BitVec 768) : moJnl e < 64 := Nat.mod_lt _ (by decide)

theorem not_attemptLeaves_motR {n k : Nat} (hn : n < 48) (hk : k < 0x20) : ¬ AttemptLeaves (motR n k) := by unfold AttemptLeaves motR; omega

theorem not_attemptLeaves_event : ¬ AttemptLeaves 0xA8600 := by unfold AttemptLeaves; omega

section
variable (s : State) {n : Nat} (hn : n < 48) (l : List Nat)
include hn

theorem ended_abandonCount : Ended s (abandonCount s n) l :=
  (ended_wr s _ _ (.inl (not_attemptLeaves_motR hn (by decide)))).trans (ended_wr _ _ _ (.inl not_attemptLeaves_event))

theorem ended_objLost (o : Nat) : Ended s (objLost s n o) l :=
  (ended_obPut s o _ _ _ l).trans ((ended_wr _ _ _ (.inl (not_attemptLeaves_motR hn (by decide)))).trans (ended_wr _ _ _ (.inl not_attemptLeaves_event)))

omit hn in
theorem ended_abandonNote (o : Nat) (e : BitVec 768) (f : CanFrame) (attempts cause : Nat) : Ended s (abandonNote s o e f attempts cause) l :=
  Ended.ite (ended_itemTo s (moJnl_lt e) _ _ _ l) (.refl s l)

theorem ended_abandonObj (o : Nat) (e : BitVec 768) (f : CanFrame) (attempts cause : Nat) : Ended s (abandonObj s n o e f attempts cause) l :=
  (((ended_obPut s o _ _ _ l).trans (ended_obPut _ o _ _ _ l)).trans (ended_abandonCount _ hn l)).trans (ended_abandonNote _ l o e f attempts cause)

omit hn in
theorem ended_takeKept (o : Nat) : Ended s (takeKept s o) l := by
  have seq (a : State) (q : Nat) : Ended a { a with reqSeq := q } l := ⟨rfl, fun _ _ _ => rfl, rfl, fun _ => ⟨rfl, rfl, rfl⟩, fun _ h => h⟩
  exact (((ended_setObj s o _ l).trans (seq _ _)).trans (ended_obPut _ o _ _ _ l)).trans ((ended_obPut _ o _ _ _ l).trans (ended_obPut _ o _ _ _ l))

theorem ended_objFailed (o : Nat) (e : BitVec 768) (f : CanFrame) (attempts : Nat) (replaced : Bool) (k : Cut) :
    Ended s (objFailed s n o e f attempts replaced k) l := by
  unfold objFailed
  split
  · exact (ended_abandonCount s hn l).trans (ended_abandonNote _ l o e f attempts 5)
  · refine (ended_obPut s o 19 19 0 l).trans ?_
    generalize obPut s o 19 19 0 = a
    simp only
    split
    · exact (ended_takeKept a l o).trans (ended_objLost _ hn l o)
    · split
      · have abandoned (c : Nat) := ended_abandonObj a hn l o e f attempts c
        exact Ended.ite ((abandoned _).trans (ended_takeKept _ l o)) (abandoned _)
      · exact .refl a l

theorem ended_dropCopy (c : CanCopy) (cause : Nat) : Ended s (dropCopy s n c cause) l := by
  unfold dropCopy
  simp only
  refine .trans ?_ (ended_copyDone _ _ l)
  refine .trans ?_ (ended_evtItem _ _ _ _ _ _ l)
  refine .trans ?_ (ended_abandonCount _ hn l)
  exact ended_setChan s n (by exact .inr rfl) l

theorem ended_copyFailed (c : CanCopy) (k : Cut) : Ended s (copyFailed s n c k) l := by
  unfold copyFailed
  split
  · exact ended_dropCopy s hn l c 2
  · split
    · exact ended_dropCopy s hn l c _
    · exact .refl s l

theorem ended_rollFailed (op : Nat) : Ended s (rollFailed s n op) l := by
  unfold rollFailed
  split
  · simp only
    have dropped : Ended s (abandonCount (setChan s n { chan s n with rollCall := none, rollAtt := 0 }) n) l :=
      .trans (ended_setChan s n (by exact .inr rfl) l) (ended_abandonCount _ hn l)
    refine Ended.ite (dropped.trans ?_) dropped
    exact ended_setSeg _ n (by exact rfl) (by exact rfl) (by exact rfl) l
  · exact .refl s l

omit hn in
theorem ended_fresh : Ended s (fresh s).2 l := ⟨rfl, fun _ _ _ => rfl, rfl, fun _ => ⟨rfl, rfl, rfl⟩, fun _ h => h⟩

omit hn in
/-- R42: a silent end of an attempt may leave a measured delay. -/
theorem ended_tdcCut : Ended s (tdcCut s n) [canR n 0x20] := by
  unfold tdcCut
  split
  · exact .refl s _
  · split
    · simp only
      refine Ended.ite (.trans (ended_fresh s _) ?_) (ended_fresh s _)
      exact Ended.ite (ended_wr _ _ _ (.inr (by simp))) (.refl _ _)
    · exact .refl s _

/-- The words of the channel that an end of this kind may change. -/
def cutWords (n : Nat) (k : Cut) : List Nat := if k.silent then [canR n 0x20] else []

omit hn in
/-- The frame leaves the bus, whatever becomes of it. -/
theorem ended_offBus : Ended s (gateAtEnd (setChan s n { chan s n with bus := none }) n) l ∧
    (chan (gateAtEnd (setChan s n { chan s n with bus := none }) n) n).bus = none := by
  refine ⟨.trans (ended_setChan s n (.inl rfl) l) (ended_gateAtEnd _ n l), ?_⟩
  rw [gateAtEnd_only]
  exact congrArg CanRt.bus ((chan_setChan ..).trans (if_pos rfl))

theorem ended_attemptFailed (k : Cut) : Ended s (attemptFailed s n k) (cutWords n k) ∧ (chan (attemptFailed s n k) n).bus = none := by
  unfold attemptFailed
  split
  · exact ⟨.refl s _, ‹_›⟩
  · rename_i b hb
    simp only
    have cut : Ended s (if k.silent then tdcCut s n else s) (cutWords n k) := by
      unfold cutWords
      split
      · exact ended_tdcCut s
      · exact .refl s _
    generalize (if k.silent then tdcCut s n else s) = c at cut ⊢
    obtain ⟨off, bus⟩ := ended_offBus c (n := n) (cutWords n k)
    have kind (t : State) (h : Ended (gateAtEnd (setChan c n { chan c n with bus := none }) n) t (cutWords n k)) :
        Ended s t (cutWords n k) ∧ (chan t n).bus = none := ⟨(cut.trans off).trans h, h.bus n bus⟩
    split
    · exact kind _ (ended_objFailed _ hn _ _ _ _ _ _ k)
    · exact kind _ (ended_copyFailed _ hn _ _ k)
    · exact kind _ (ended_rollFailed _ hn _ _)

theorem ended_dropCopies (cause : Nat) : Ended s (dropCopies s n cause false) l := by
  have all : ∃ cs : List CanCopy, dropCopies s n cause false = cs.foldl (fun a c => dropCopy a n c cause) s := by
    unfold dropCopies
    rcases (chan s n).bus with _ | ⟨_ | _ | _, _⟩ <;> exact ⟨_, rfl⟩
  obtain ⟨cs, e⟩ := all
  rw [e]
  exact Ended.foldl (fun a c => ended_dropCopy a hn l c cause) cs s

end

/-! ### Changes of MODE_CUR (R54) -/

theorem setCur_only (s : State) (n m : Nat) : RegsOnly s (setCur s n m) := by
  unfold setCur
  split
  · exact .refl s
  · exact ((RegsOnly.refl s).setF ..).raise ..

theorem setCur_kept (s : State) (n m : Nat) : RegsKept s (setCur s n m) [canR n 0, canR n 4] := by
  unfold setCur
  split
  · exact .refl s _
  · exact ((RegsKept.refl s _).wr (canR n 0) _ (by simp)).wr (canR n 4) _ (by simp)

/-- The mode word beside MODE_CUR. -/
theorem getF_setCur (s : State) (n m hi lo : Nat) (h : hi < 8 ∨ 10 < lo) : getF (setCur s n m) (canR n 0) hi lo = getF s (canR n 0) hi lo := by
  unfold setCur
  split
  · rfl
  · have word : rd (raise (setF s (canR n 0) 10 8 m) (canR n 4) 9) (canR n 0) = rd (setF s (canR n 0) 10 8 m) (canR n 0) := by
      rw [rd_raise, if_neg (by simp)]
    rw [getF, word]
    exact getF_setF_other _ _ _ _ _ _ _ _ (by decide) (by decide) (by omega)

theorem getB_setCur (s : State) (n m i : Nat) (h : i < 8 ∨ 10 < i) : getB (setCur s n m) (canR n 0) i = getB s (canR n 0) i := by
  unfold setCur
  split
  · rfl
  · rw [getB_raise_other _ _ _ _ _ (by decide) (by simp)]
    exact getB_setF_other _ _ _ _ _ _ _ (by decide) (by decide) (by omega)

theorem modeReq_setCur (s : State) (n m : Nat) : modeReq (setCur s n m) n = modeReq s n := getF_setCur s n m 2 0 (by decide)

theorem integrating_setCur (s : State) (n m : Nat) : integrating (setCur s n m) n = integrating s n := getB_setCur s n m 12 (by decide)

/-- R62: a change of MODE_CUR is an event. -/
theorem modeEvent_setCur (s : State) (n m : Nat) (h : modeCur s n ≠ m) : getB (setCur s n m) (canR n 4) 9 = true := by
  rw [setCur, if_neg h]
  exact getB_raise_same _ _ _ (by decide)

theorem getB_raise_of (s : State) (o b i : Nat) (hb : b < 32) (h : getB s o i = true) : getB (raise s o b) o i = true := by
  by_cases e : i = b
  · subst e
    exact getB_raise_same s o i hb
  · rwa [getB_raise_other _ _ _ _ _ hb (.inr e)]

/-- Events that stand go on standing. -/
theorem events_setCur (s : State) (n m i : Nat) (h : getB s (canR n 4) i = true) : getB (setCur s n m) (canR n 4) i = true := by
  unfold setCur
  split
  · exact h
  · refine getB_raise_of _ _ _ _ (by decide) ?_
    rwa [getB, rd_setF, if_neg (by simp)]

theorem integrating_setInteg (s : State) (n : Nat) (b : Bool) : integrating (setInteg s n b) n = b := getB_setB_same s _ _ b (by decide)

theorem setInteg_only (s : State) (n : Nat) (b : Bool) : RegsOnly s (setInteg s n b) := (RegsOnly.refl s).setB ..

theorem setInteg_kept (s : State) (n : Nat) (b : Bool) : RegsKept s (setInteg s n b) [canR n 0] := (RegsKept.refl s _).wr _ _ (by simp)

theorem modeReq_setInteg (s : State) (n : Nat) (b : Bool) : modeReq (setInteg s n b) n = modeReq s n :=
  getF_setB_other _ _ _ _ _ _ _ (by decide) (by simp)

theorem modeCur_setInteg (s : State) (n : Nat) (b : Bool) : modeCur (setInteg s n b) n = modeCur s n :=
  getF_setB_other _ _ _ _ _ _ _ (by decide) (by simp)

/-! ### DISABLED (R56, R87) -/

section
variable (s : State) {n : Nat} (hn : n < 48) (l : List Nat)
include hn

omit hn in
theorem ended_clearReq (o : Nat) : Ended s (clearReq s o) l := (ended_obPut s o 19 18 0 l).trans (ended_setObj ..)

omit hn in
theorem ended_lockDrop (n : Nat) : Ended s (lockDrop s n) l := ended_setChan s n (by exact .inr rfl) l

/-- The entry of DISABLED is the end of the attempt, the requests and the copies of the channel, and then a change of its registers. -/
theorem enterDisabled_eq : ∃ b, Ended s b [canR n 0x20] ∧
    enterDisabled s n = setB (setInteg (wr (setCur b n 0) (canR n 0x28) 0) n false) (canR n 0) 13 false := by
  refine ⟨_, ?_, rfl⟩
  refine .trans ?_ (ended_lockDrop _ _ n)
  refine .trans ?_ (ended_dropCopies _ hn _ 2)
  refine .trans ?_ (Ended.foldl (fun a o => ended_clearReq a _ o) _ _)
  refine .trans (ended_tdcCut s) ?_
  exact ended_setChan _ n (by exact .inl rfl) _

end

end Sys2Proof.Machine
end

section
/-!
PROOFS. The change of a CAN channel's mode at an idle point and by force (R54, R87), the ends of its waits (R55, R61), and recovery from BUS_OFF (R52, R53).
-/
namespace Sys2Proof.Machine

theorem modeCur_settle (s : State) (n : Nat) : modeCur (settle s) n = modeCur s n := (rfl)
theorem integrating_settle (s : State) (n : Nat) : integrating (settle s) n = integrating s n := (rfl)

/-- R454: an input of a channel, at a unit that is not STANDBY, after what the buddy stream takes. -/
theorem canInput_open {s : State} (n k : Nat) (x : List Byte) (h : budMode s ≠ 2) : ∃ a, canInput s n k x = canStep a n k x ∧ Streamed s a :=
  ⟨_, by rw [canInput, if_neg h], budInput_streamed ..⟩

theorem canStep_integrated (s : State) (n : Nat) (x : List Byte) : canStep s n 6 x = integrated s n := rfl
theorem canStep_enterMode (s : State) (n : Nat) (x : List Byte) : canStep s n 7 x = enterMode s n := rfl
theorem canStep_forced (s : State) (n : Nat) (x : List Byte) : canStep s n 8 x = modeForced s n := rfl
theorem canStep_recovered (s : State) (n : Nat) (x : List Byte) : canStep s n 9 x = recovered s n := rfl
theorem canStep_stbWakeEnd (s : State) (n : Nat) (x : List Byte) : canStep s n 10 x = stbWakeEnd s n := rfl

theorem canInput_standby {s : State} (n k : Nat) (x : List Byte) (h : budMode s = 2) : canInput s n k x = s := by rw [canInput, if_pos h]

/-! ### A mode entered (R54) -/

/-- Channel `n` of `b` is in the mode MODE_REQ of `a`, which is not DISABLED. -/
structure Entered (a b : State) (n : Nat) : Prop where
  eq : b = { a with regs := b.regs, can := b.can }
  cur : modeCur b n = modeReq a n
  settled : (chan b n).pendSince = none
  event : modeCur a n ≠ modeReq a n → getB b (canR n 4) 9 = true
  integ : integrating b n = (integrating a n && modeReq a n != 4)
  kept : RegsKept a b [canR n 0, canR n 4]
  bus : (chan b n).bus = (chan a n).bus

theorem modeReq_lt (s : State) (n : Nat) : modeReq s n < 8 := fld_lt _ 2 0

theorem enterMode_entered {a : State} {n : Nat} (h : modeReq a n ≠ 0) : Entered a (enterMode a n) n := by
  have only : setCur a n (modeReq a n) = { a with regs := (setCur a n (modeReq a n)).regs } := setCur_only a n _
  have cur := modeCur_setCur a n (modeReq a n) (modeReq_lt a n)
  have event := modeEvent_setCur a n (modeReq a n)
  have integ := integrating_setCur a n (modeReq a n)
  have kept := setCur_kept a n (modeReq a n)
  unfold enterMode
  simp only [h, if_false]
  generalize setCur a n (modeReq a n) = c at only cur event integ kept ⊢
  have self : chan (setChan c n { chan a n with pendSince := none }) n = { chan a n with pendSince := none } := by rw [chan_setChan, if_pos rfl]
  have bus : (chan (setChan c n { chan a n with pendSince := none }) n).bus = (chan a n).bus := by rw [self]
  split
  · rename_i h4
    exact ⟨by rw [only]; rfl, (modeCur_setInteg ..).trans cur, congrArg CanRt.pendSince self,
      fun hne => (getB_setB_other _ _ _ _ _ _ (by decide) (by simp)).trans (event hne), by rw [h4]; simp [integrating_setInteg], kept.wr _ _ (by simp), bus⟩
  · rename_i h4
    have ne : (modeReq a n != 4) = true := by simpa using h4
    exact ⟨by rw [only]; rfl, cur, congrArg CanRt.pendSince self, event, by rw [ne, Bool.and_true]; exact integ, kept, bus⟩

/-- R56: DISABLED. -/
theorem enterDisabled_spec (s : State) {n : Nat} (hn : n < 48) :
    modeCur (enterDisabled s n) n = 0 ∧ rd (enterDisabled s n) (canR n 0x28) = 0 ∧ integrating (enterDisabled s n) n = false ∧
      getB (enterDisabled s n) (canR n 0) 13 = false ∧ ∀ i, getB s (canR n 4) i = true → getB (enterDisabled s n) (canR n 4) i = true := by
  refine ⟨modeCur_enterDisabled s n, ?_⟩
  obtain ⟨b, ended, e⟩ := enterDisabled_eq s hn
  rw [e]
  have event : rd b (canR n 4) = rd s (canR n 4) := ended.rd _ (attemptLeaves_canR n 4 hn (by decide)) (by simp)
  refine ⟨?_, ?_, getB_setB_same _ _ _ _ (by decide), fun i hi => ?_⟩
  · rw [rd_setB, if_neg (by simp), (setInteg_kept _ n false) _ (by simp), rd_wr_same]
  · exact (getB_setB_other _ _ _ _ _ _ (by decide) (by simp)).trans (integrating_setInteg _ n false)
  · have kept : getB (setCur b n 0) (canR n 4) i = true := events_setCur b n 0 i (by rwa [getB, event])
    rw [getB, rd_setB, if_neg (by simp), (setInteg_kept _ n false) _ (by simp), rd_wr_ne _ _ _ _ (by simp)]
    exact kept

/-! ### Recovery from BUS_OFF (R52, R53) -/

theorem recovered_spec {a : State} {n : Nat} (hn : n < 48) (h6 : modeCur a n = 6) (h13 : getB a (canR n 0) 13 = true) :
    modeCur (recovered a n) n = modeReq a n ∧ rd (recovered a n) (canR n 0x28) = 0 ∧ getB (recovered a n) (canR n 4) 5 = true ∧
      getB (recovered a n) (canR n 0) 13 = false ∧ integrating (recovered a n) n = false ∧
      (modeReq a n ≠ 0 → RegsOnly a (recovered a n) ∧ RegsKept a (recovered a n) [canR n 0, canR n 4, canR n 0x28]) := by
  have only : RegsOnly a (raise (wr a (canR n 0x28) 0) (canR n 4) 5) := ((RegsOnly.refl a).wr ..).raise ..
  have kept : RegsKept a (raise (wr a (canR n 0x28) 0) (canR n 4) 5) [canR n 0, canR n 4, canR n 0x28] :=
    ((RegsKept.refl a _).wr _ _ (by simp)).wr _ _ (by simp)
  have event : getB (raise (wr a (canR n 0x28) 0) (canR n 4) 5) (canR n 4) 5 = true := getB_raise_same _ _ _ (by decide)
  have zero : rd (raise (wr a (canR n 0x28) 0) (canR n 4) 5) (canR n 0x28) = 0 := by rw [rd_raise, if_neg (by simp), rd_wr_same]
  have req : modeReq (raise (wr a (canR n 0x28) 0) (canR n 4) 5) n = modeReq a n :=
    modeReq_congr (by rw [rd_raise, if_neg (by simp), rd_wr_ne _ _ _ _ (by simp)])
  rw [recovered, if_pos ⟨h6, h13⟩]
  simp only
  generalize raise (wr a (canR n 0x28) 0) (canR n 4) 5 = r at *
  rw [req]
  split
  · rename_i h0
    obtain ⟨cur, counters, integ, recovering, events⟩ := enterDisabled_spec r hn
    exact ⟨cur.trans h0.symm, counters, events 5 event, recovering, integ, fun h => absurd h0 h⟩
  · have word (k : Nat) (h0 : k ≠ canR n 0) : rd (setInteg (setB (setCur r n (modeReq a n)) (canR n 0) 13 false) n false) k = rd (setCur r n (modeReq a n)) k := by
      rw [setInteg_kept _ n false k (by simpa using h0), rd_setB, if_neg h0]
    refine ⟨?_, ?_, ?_, ?_, integrating_setInteg _ n false, fun _ => ⟨?_, ?_⟩⟩
    · rw [modeCur_setInteg]
      exact (getF_setB_other _ _ _ _ _ _ _ (by decide) (by simp)).trans (modeCur_setCur r n _ (modeReq_lt a n))
    · rw [word _ (by simp), setCur_kept r n _ _ (by simp), zero]
    · rw [getB, word _ (by simp)]
      exact events_setCur r n _ 5 event
    · exact (getB_setB_other _ _ _ _ _ _ (by decide) (by simp)).trans (getB_setB_same _ _ _ _ (by decide))
    · exact ((only.trans (setCur_only r n _)).setB ..).trans (setInteg_only _ n false)
    · intro k hk
      simp only [List.mem_cons, List.not_mem_nil, or_false, not_or] at hk
      rw [word k hk.1, setCur_kept r n _ k (by simp [hk]), kept k (by simp [hk])]

theorem exec_recover (q : Requester) (n : Chan) (s : State) :
    exec (.recover q n) s = .next (settle (disarm (pairedWrite s q (canR n.val 8) 1 fun a => startRecovery a n.val) q)) := rfl

/-- R53: a write of RECOVER, by whatever way: in BUS_OFF it starts the recovery, elsewhere it does nothing. -/
theorem startRecovery_written {s a : State} (q : Requester) (n : Nat) (h : Streamed s a) :
    (modeCur s n = 6 → getB (settle (disarm (startRecovery a n) q)) (canR n 0) 13 = true ∧ modeCur (settle (disarm (startRecovery a n) q)) n = 6 ∧
      OnlyRegsOf q s (settle (disarm (startRecovery a n) q)) [canR n 0]) ∧
    (modeCur s n ≠ 6 → OnlyRegsOf q s (settle (disarm (startRecovery a n) q)) []) := by
  rw [← h.modeCur]
  unfold startRecovery
  refine ⟨fun h6 => ?_, fun h6 => ?_⟩
  · rw [if_pos h6]
    have cur : modeCur (setB a (canR n 0) 13 true) n = 6 := (getF_setB_other _ _ _ _ _ _ _ (by decide) (by simp)).trans h6
    exact ⟨(getB_settle_disarm ..).trans (getB_setB_same _ _ _ _ (by decide)), (modeCur_congr (rd_settle_disarm ..)).trans cur,
      onlyRegsOf_of q h ((RegsOnly.refl a).setB ..) ((RegsKept.refl a _).wr _ _ (by simp))⟩
  · rw [if_neg h6]
    exact onlyRegsOf_of q h (RegsOnly.refl a) (RegsKept.refl a _)

/-- A channel's input that changes registers only. -/
theorem onlyRegs_streamed {s a b : State} {l : List Nat} (h : Streamed s a) (hb : RegsOnly a b) (hr : RegsKept a b l) :
    OnlyRegs { s with bud := (settle b).bud } (settle b) (l ++ [0x80018]) := by
  refine ⟨?_, fun k hk => ?_⟩
  · unfold RegsOnly at hb
    rw [hb, h.eq]
    rfl
  · simp only [List.mem_append, List.mem_cons, List.not_mem_nil, or_false, not_or] at hk
    exact (hr k hk.1).trans (h.rd k hk.2)

/-! ### The instants of a channel -/

theorem exec_apertureRecover (q : Requester) (n : Fin 12) (s : State) : exec (.apertureRecover q n) s =
    .next (settle (disarm (pairedWrite s q (apBase n.val + 16) 1 fun a => if frEn a n.val then startRecovery a n.val else a) q)) := rfl

theorem exec_modeChangeEffect (n : Chan) (s : State) :
    exec (.modeChangeEffect n) s = .next (settle (if effectDue s n.val then canInput s n.val 7 [] else s)) := rfl

theorem exec_modeChangeForced (n : Chan) (s : State) :
    exec (.modeChangeForced n) s = .next (settle (if forcedDue s n.val then canInput s n.val 8 [] else s)) := rfl

theorem exec_integrationComplete (n : Chan) (s : State) : exec (.integrationComplete n) s = .next (settle (canInput s n.val 6 [])) := rfl

theorem exec_stbWakeExpiry (n : Chan) (s : State) :
    exec (.stbWakeExpiry n) s = .next (settle (if stbWakeDue s n.val then canInput s n.val 10 [] else s)) := rfl

theorem exec_recoveryComplete (n : Chan) (s : State) : exec (.recoveryComplete n) s = .next (settle (canInput s n.val 9 [])) := rfl

theorem exec_lockTimeout (n : Chan) (s : State) :
    exec (.lockTimeout n) s = .next (settle (if lockOver s n.val then canInput s n.val 11 [] else s)) := rfl

/-- R54: at an idle point. -/
theorem modeChangeEffect_open {n : Chan} {s : State} (hb : budMode s ≠ 2) (pending : (chan s n).pendSince.isSome = true) (idle : (chan s n).bus = none) :
    ∃ a, exec (.modeChangeEffect n) s = .next (settle (enterMode a n)) ∧ Streamed s a := by
  have due : effectDue s n = true := by simp [effectDue, pending, idle]
  obtain ⟨a, input, streamed⟩ := canInput_open n 7 [] hb
  exact ⟨a, by rw [exec_modeChangeEffect, if_pos due, input, canStep_enterMode], streamed⟩

theorem modeChangeEffect_running {n : Chan} {s a : State} (h : Streamed s a) (hm : modeReq s n ≠ 0) :
    modeCur (settle (enterMode a n)) n = modeReq s n ∧ (chan (settle (enterMode a n)) n).pendSince = none ∧
      (modeCur s n ≠ modeReq s n → getB (settle (enterMode a n)) (canR n 4) 9 = true) ∧
      integrating (settle (enterMode a n)) n = (integrating s n && modeReq s n != 4) ∧ (settle (enterMode a n)).obj = s.obj ∧
      RegsKept s (settle (enterMode a n)) [canR n 0, canR n 4, 0x80018] ∧ MemKept s (settle (enterMode a n)) := by
  rw [← h.modeReq, ← h.modeCur, ← h.integrating]
  rw [← h.modeReq] at hm
  have entered := enterMode_entered hm
  refine ⟨entered.cur, entered.settled, entered.event, entered.integ, ?_, fun k hk => ?_, memKept_of ?_⟩
  · have obj : (enterMode a n).obj = a.obj := by rw [entered.eq]
    exact obj.trans h.obj
  · simp only [List.mem_cons, List.not_mem_nil, or_false, not_or] at hk
    exact (entered.kept k (by simp [hk])).trans (h.rd k hk.2.2)
  · have mem : (enterMode a n).mem = a.mem := by rw [entered.eq]
    exact mem.trans h.mem

/-- R54, R87: the frame on the bus is cut off, then the mode is entered. -/
theorem modeForced_running {n : Chan} {s a : State} (h : Streamed s a) (hm : modeReq s n ≠ 0) :
    modeCur (modeForced a n) n = modeReq s n ∧ (chan (modeForced a n) n).pendSince = none ∧ (chan (modeForced a n) n).bus = none ∧
      rd (modeForced a n) (canR n 0x28) = rd s (canR n 0x28) ∧ (modeCur s n ≠ modeReq s n → getB (modeForced a n) (canR n 4) 9 = true) := by
  obtain ⟨ended, bus⟩ := ended_attemptFailed a n.isLt .forced
  have word (k : Nat) (hk : k < 0x1000) (h' : k ≠ 0x20) : rd (attemptFailed a n .forced) (canR n k) = rd a (canR n k) :=
    ended.rd _ (attemptLeaves_canR n k n.isLt hk) (by simpa [cutWords, Cut.silent, canR] using h')
  have req := modeReq_congr (word 0 (by decide) (by decide))
  have cur := modeCur_congr (word 0 (by decide) (by decide))
  have entered := enterMode_entered (a := attemptFailed a n .forced) (n := n) (by rwa [req, h.modeReq])
  rw [← h.modeReq, ← h.modeCur, ← req, ← cur]
  exact ⟨entered.cur, entered.settled, entered.bus.trans bus,
    (entered.kept _ (by simp)).trans ((word 0x28 (by decide) (by decide)).trans (h.rd _ (by unfold canR; omega))), entered.event⟩

/-- R454: a STANDBY unit leaves its channels' instants to the records. -/
theorem instants_standby {n : Chan} {s : State} {c : Instr} (hb : budMode s = 2)
    (hc : c ∈ [Instr.modeChangeEffect n, .modeChangeForced n, .integrationComplete n, .stbWakeExpiry n, .recoveryComplete n, .lockTimeout n]) :
    exec c s = .next (settle s) := by
  simp only [List.mem_cons, List.not_mem_nil, or_false] at hc
  rcases hc with rfl | rfl | rfl | rfl | rfl | rfl
  · rw [exec_modeChangeEffect, canInput_standby n 7 [] hb, ite_self]
  · rw [exec_modeChangeForced, canInput_standby n 8 [] hb, ite_self]
  · rw [exec_integrationComplete, canInput_standby n 6 [] hb]
  · rw [exec_stbWakeExpiry, canInput_standby n 10 [] hb, ite_self]
  · rw [exec_recoveryComplete, canInput_standby n 9 [] hb]
  · rw [exec_lockTimeout, canInput_standby n 11 [] hb, ite_self]

/-- R55: integration is over. -/
theorem integrated_streamed {n : Chan} {s a : State} (h : Streamed s a) (hi : integrating s n = true) (hw : (chan s n).stbUntil = none) :
    integrating (settle (integrated a n)) n = false ∧ modeCur (settle (integrated a n)) n = modeCur s n ∧
      OnlyRegs { s with bud := (settle (integrated a n)).bud } (settle (integrated a n)) [canR n 0, 0x80018] := by
  have ends : integrated a n = setInteg a n false := by simp [integrated, h.integrating, h.chan, hi, hw]
  rw [ends]
  exact ⟨integrating_setInteg a n false, (modeCur_setInteg a n false).trans (h.modeCur n), onlyRegs_streamed h (setInteg_only a n false) (setInteg_kept a n false)⟩

/-- R61: the wait after standby is over. -/
theorem stbWakeEnd_streamed {n : Chan} {s a : State} (h : Streamed s a) :
    chan (settle (stbWakeEnd a n)) n = { chan s n with stbUntil := none } ∧ (∀ k, k ≠ n.val → chan (settle (stbWakeEnd a n)) k = chan s k) ∧
      RegsKept s (settle (stbWakeEnd a n)) [0x80018] ∧ MemKept s (settle (stbWakeEnd a n)) := by
  refine ⟨?_, fun k hk => ?_, fun k hk => h.rd k (by simpa using hk), memKept_of h.mem⟩
  · rw [chan_settle, stbWakeEnd, chan_setChan, if_pos rfl, h.chan]
  · rw [chan_settle, stbWakeEnd, chan_setChan, if_neg hk, h.chan]

/-- Settles O2: each instant is one step of the channel after what the buddy stream takes, and a RECOVER write is `startRecovery`. -/
theorem modeChangeAndRecovery : Obligations.ModeChangeAndRecovery := by
  unfold Obligations.ModeChangeAndRecovery
  refine ⟨⟨fun n s hb pending idle => ?_, fun n s u hb since => ⟨fun due hm => ?_, fun early => ?_⟩, fun n s hb hi hw => ?_, fun n s u hb wait due => ?_,
    fun n s c hb hc => ⟨_, instants_standby hb hc, rfl⟩⟩, fun q n s hb => ?_, fun q n s hb hf => ?_, fun n s hb h6 h13 => ?_⟩
  · obtain ⟨a, run, streamed⟩ := modeChangeEffect_open hb pending idle
    refine ⟨fun hm => ⟨_, run, modeChangeEffect_running streamed hm⟩, fun hm => ⟨_, run, ?_⟩⟩
    beta_reduce
    rw [modeCur_settle, rd_settle, integrating_settle, enterMode, if_pos ((streamed.modeReq n).trans hm)]
    obtain ⟨cur, counters, integ, -, -⟩ := enterDisabled_spec a n.isLt
    exact ⟨cur, counters, integ⟩
  · have forced : forcedDue s n = true := by simp [forcedDue, since, due]
    obtain ⟨a, input, streamed⟩ := canInput_open n 8 [] hb
    refine ⟨_, exec_modeChangeForced n s, ?_⟩
    rw [if_pos forced, input, canStep_forced]
    beta_reduce
    rw [modeCur_settle, chan_settle, rd_settle, getB_settle]
    exact modeForced_running streamed hm
  · have waits : ¬ forcedDue s n = true := by simp [forcedDue, since, early]
    exact ⟨_, exec_modeChangeForced n s, by rw [if_neg waits]⟩
  · obtain ⟨a, input, streamed⟩ := canInput_open n 6 [] hb
    refine ⟨_, exec_integrationComplete n s, ?_⟩
    rw [input, canStep_integrated]
    exact integrated_streamed streamed hi hw
  · have elapsed : stbWakeDue s n = true := by simp [stbWakeDue, wait, due]
    obtain ⟨a, input, streamed⟩ := canInput_open n 10 [] hb
    refine ⟨_, exec_stbWakeExpiry n s, ?_⟩
    rw [if_pos elapsed, input, canStep_stbWakeEnd]
    exact stbWakeEnd_streamed streamed
  · obtain ⟨a, write, streamed⟩ := pairedWrite_open s q (canR n.val 8) 1 (fun a => startRecovery a n.val) hb
    obtain ⟨off, running⟩ := startRecovery_written q n streamed
    have run := exec_recover q n s
    rw [write] at run
    exact ⟨fun h6 => ⟨_, run, off h6⟩, fun h6 => ⟨_, run, running h6⟩⟩
  · obtain ⟨a, write, streamed⟩ := pairedWrite_open s q (apBase n.val + 16) 1 (fun a => if frEn a n.val then startRecovery a n.val else a) hb
    obtain ⟨off, running⟩ := startRecovery_written q n streamed
    have run := exec_apertureRecover q n s
    rw [write, if_pos ((streamed.frEn n).trans hf)] at run
    exact ⟨fun h6 => ⟨_, run, off h6⟩, fun h6 => ⟨_, run, running h6⟩⟩
  · obtain ⟨a, input, streamed⟩ := canInput_open n 9 [] hb
    refine ⟨_, exec_recoveryComplete n s, ?_⟩
    rw [input, canStep_recovered]
    beta_reduce
    rw [modeCur_settle, rd_settle, getB_settle, getB_settle, integrating_settle]
    rw [← streamed.modeCur] at h6
    rw [← streamed.getB _ _ (by unfold canR; omega)] at h13
    obtain ⟨cur, counters, event, recovering, integ, only⟩ := recovered_spec n.isLt h6 h13
    refine ⟨cur.trans (streamed.modeReq n), counters, event, recovering, integ, fun hm => ?_⟩
    obtain ⟨regs, kept⟩ := only (by rwa [streamed.modeReq])
    exact onlyRegs_streamed streamed regs kept

end Sys2Proof.Machine
end

section
/-!
PROOFS. Errors and the other events of a CAN channel's bus (R43, R49, R50, R56): what the handling of an error leaves, and what each event counts.
-/
namespace Sys2Proof.Machine

/-! ### What the handling of an error leaves (R48, R51) -/

/-- Steps of channel `n` that end attempts, change the words of `l`, leave MODE_REQ, and clear no event. -/
structure Handled (s a : State) (n : Nat) (l : List Nat) : Prop where
  ended : Ended s a l
  req : modeReq a n = modeReq s n
  event : ∀ i, getB s (canR n 4) i = true → getB a (canR n 4) i = true

theorem Handled.refl (s : State) (n : Nat) (l : List Nat) : Handled s s n l := ⟨.refl s l, rfl, fun _ h => h⟩

theorem Handled.trans {s a b : State} {n : Nat} {l : List Nat} (h : Handled s a n l) (h' : Handled a b n l) : Handled s b n l :=
  ⟨h.ended.trans h'.ended, h'.req.trans h.req, fun i hi => h'.event i (h.event i hi)⟩

theorem Ended.handled {s a : State} {n : Nat} {l : List Nat} (h : Ended s a []) (hn : n < 48) : Handled s a n l :=
  have word (k : Nat) (hk : k < 0x1000) : Machine.rd a (canR n k) = Machine.rd s (canR n k) := h.rd _ (attemptLeaves_canR n k hn hk) (by simp)
  ⟨h.mono (by simp), modeReq_congr (word 0 (by decide)), fun i hi => by rwa [getB, word 4 (by decide)]⟩

/-- A change of registers that leaves the mode word. -/
theorem handled_of_regs {s a : State} {n : Nat} {l : List Nat} (only : RegsOnly s a) (kept : RegsKept s a l) (req : modeReq a n = modeReq s n)
    (event : ∀ i, getB s (canR n 4) i = true → getB a (canR n 4) i = true) : Handled s a n l := by
  refine ⟨⟨?_, fun k _ => kept k, ?_, fun k => ?_, fun k hk => ?_⟩, req, event⟩
  · unfold RegsOnly at only
    rw [only]
  · rw [only]
  · rw [segAt_congr (s := s) (by rw [only]) k]
    exact ⟨rfl, rfl, rfl⟩
  · rwa [chan_congr (s := s) (by rw [only]) k]

theorem handled_wr (s : State) {n o : Nat} (w : Word) {l : List Nat} (ho : o ∈ l) (h0 : o ≠ canR n 0) (h4 : o ≠ canR n 4) : Handled s (wr s o w) n l :=
  handled_of_regs ((RegsOnly.refl s).wr ..) ((RegsKept.refl s l).wr o w ho) (modeReq_congr (rd_wr_ne _ _ _ _ h0.symm))
    fun i hi => by rwa [getB, rd_wr_ne _ _ _ _ h4.symm]

theorem handled_incC (s : State) {n o : Nat} {l : List Nat} (ho : o ∈ l) (h0 : o ≠ canR n 0) (h4 : o ≠ canR n 4) : Handled s (incC s o) n l := by
  rw [incC_eq]
  exact handled_wr s _ ho h0 h4

theorem handled_raise (s : State) {n b : Nat} {l : List Nat} (h4 : canR n 4 ∈ l) (hb : b < 32) : Handled s (raise s (canR n 4) b) n l :=
  handled_of_regs ((RegsOnly.refl s).raise ..) ((RegsKept.refl s l).wr _ _ h4) (modeReq_congr (by rw [rd_raise, if_neg (by simp)]))
    fun i hi => getB_raise_of s _ b i hb hi

theorem handled_setB (s : State) {n b : Nat} (v : Bool) {l : List Nat} (h0 : canR n 0 ∈ l) (hb : 3 ≤ b) (hb' : b < 32) : Handled s (setB s (canR n 0) b v) n l :=
  handled_of_regs ((RegsOnly.refl s).setB ..) ((RegsKept.refl s l).wr _ _ h0) (getF_setB_other _ _ _ _ _ _ _ hb' (by omega))
    fun i hi => by rwa [getB_setB_other _ _ _ _ _ _ hb' (by simp)]

theorem handled_setCur (s : State) {n m : Nat} {l : List Nat} (h0 : canR n 0 ∈ l) (h4 : canR n 4 ∈ l) : Handled s (setCur s n m) n l :=
  handled_of_regs (setCur_only s n m) ((setCur_kept s n m).mono (by simp [h0, h4])) (modeReq_setCur s n m) (events_setCur s n m)

theorem handled_integrate (s : State) {n : Nat} {l : List Nat} (h0 : canR n 0 ∈ l) : Handled s (integrate s n) n l := by
  unfold integrate
  split
  · exact .refl s n l
  · exact handled_setB s true h0 (by decide) (by decide)

theorem handled_setErr (s : State) {n : Nat} (tec rec : Nat) {l : List Nat} (h4 : canR n 4 ∈ l) (h28 : canR n 0x28 ∈ l) : Handled s (setErr s n tec rec) n l := by
  have warned (a : State) (p : Prop) [Decidable p] (b : Nat) (hb : b < 32) : Handled a (if p then raise a (canR n 4) b else a) n l := by
    split
    · exact handled_raise a h4 hb
    · exact .refl a n l
  exact ((warned s _ 4 (by decide)).trans (warned _ _ 3 (by decide))).trans (handled_wr _ _ h28 (by simp) (by simp))

/-- The words of a channel that the handling of an error changes, where its mode counts errors or not. -/
def errWords (n : Nat) (counts : Bool) : List Nat := canR n 0 :: canR n 4 :: canR n 0x6C :: if counts then [canR n 0x28] else []

theorem handled_errCounted (s : State) (n : Nat) (tx : Bool) (c : ErrCnt) : Handled s (errCounted s n tx c) n (errWords n (countsErrors s n)) := by
  unfold errCounted errWords
  split
  · exact .refl s n _
  · rename_i counts
    have counts : countsErrors s n = true := by simpa using counts
    rw [counts]
    split <;> exact handled_setErr s _ _ (by simp) (by simp)

theorem ended_houseAdd (s : State) (i k : Nat) (l : List Nat) : Ended s (houseAdd s i k) l :=
  ⟨rfl, fun _ _ _ => rfl, rfl, fun _ => ⟨rfl, rfl, rfl⟩, fun _ h => h⟩

/-- R51, R56, R87: BUS_OFF is entered, and no frame is on the bus. -/
theorem handled_enterBusOff (s : State) {n : Nat} (hn : n < 48) (counts : Bool) :
    Handled s (enterBusOff s n) n (errWords n counts) ∧ (chan (enterBusOff s n) n).bus = none := by
  have first : Ended s (setChan s n { chan s n with rollCall := none, pendSince := none }) [] := ended_setChan s n (by exact .inr rfl) []
  obtain ⟨cut, off⟩ := ended_attemptFailed (setChan s n { chan s n with rollCall := none, pendSince := none }) hn .busOff
  unfold enterBusOff
  simp only
  generalize attemptFailed _ n .busOff = a at *
  have dropped := ended_dropCopies a hn [] 3
  generalize dropCopies a n 3 false = b at *
  have entered : Handled b (houseAdd (setB (raise (incC (setCur b n 6) (canR n 0x6C)) (canR n 4) 2) (canR n 0) 13 false) 35 1) n (errWords n counts) :=
    (((handled_setCur b (by simp [errWords]) (by simp [errWords])).trans (handled_incC _ (by simp [errWords]) (by simp) (by simp))).trans
      (handled_raise _ (by simp [errWords]) (by decide))).trans
      ((handled_setB _ false (by simp [errWords]) (by decide) (by decide)).trans ((ended_houseAdd _ 35 1 []).handled hn))
  exact ⟨(((first.trans cut).trans dropped).handled hn).trans entered, entered.ended.bus n (dropped.bus n off)⟩

theorem handled_errEnd (s : State) {n : Nat} (hn : n < 48) (tx counts : Bool) :
    Handled s (errEnd s n tx) n (errWords n counts) ∧ (tx = true → (chan (errEnd s n tx) n).bus = none) := by
  unfold errEnd
  split
  · obtain ⟨handled, off⟩ := handled_enterBusOff s hn counts
    exact ⟨handled, fun _ => off⟩
  · split
    · obtain ⟨cut, off⟩ := ended_attemptFailed s hn .lost
      exact ⟨cut.handled hn, fun _ => off⟩
    · rename_i h
      exact ⟨.refl s n _, fun h' => absurd h' h⟩

/-- R47 to R51: after its mark an error counts, ends the attempt of its transmitter, and may integrate. -/
theorem errHandled_handled (s : State) {n : Nat} (hn : n < 48) (k : CanErr) (ph : CanPhase) (tx : Bool) (c : ErrCnt) :
    Handled (errMark s n k ph tx) (errHandled s n k ph tx c) n (errWords n (countsErrors (errMark s n k ph tx) n)) ∧
      (tx = true → (chan (errHandled s n k ph tx c) n).bus = none) := by
  have counted := handled_errCounted (errMark s n k ph tx) n tx c
  obtain ⟨ended, off⟩ := handled_errEnd (errCounted (errMark s n k ph tx) n tx c) hn tx (countsErrors (errMark s n k ph tx) n)
  unfold errHandled
  simp only
  split
  · have integ := handled_integrate (errEnd (errCounted (errMark s n k ph tx) n tx c) n tx) (n := n)
      (l := errWords n (countsErrors (errMark s n k ph tx) n)) (by simp [errWords])
    exact ⟨(counted.trans ended).trans integ, fun h => integ.ended.bus n (off h)⟩
  · exact ⟨counted.trans ended, off⟩

/-- The handling of an event ends no window of a segment. -/
theorem Handled.still {s a : State} {n : Nat} {l : List Nat} (h : Handled s a n l) (hn : n < 48) (hl : ∀ k ∈ l, 0x90000 ≤ k) (still : SegStill s n) :
    SegStill a n := by
  have word (k : Nat) (hk : AttemptLeaves k) (hk' : k < 0x90000) : rd a k = rd s k := h.ended.rd k hk fun hm => by have := hl k hm; omega
  have settings (hi lo : Nat) : frcF a (segR n 8) hi lo = frcF s (segR n 8) hi lo := by
    have inForce : a.inForce = s.inForce := by rw [h.ended.eq]
    have seg : segR n 8 < 0x90000 := by unfold segR; omega
    unfold frcF frc
    rw [inForce, word _ (by unfold AttemptLeaves segR; omega) seg]
  have power : pwrState a = pwrState s := by
    unfold pwrState getF
    rw [word _ (by unfold AttemptLeaves; omega) (by decide)]
  obtain ⟨st, c, w⟩ := h.ended.seg n
  have awake : awakeOver a n = awakeOver s n := by unfold awakeOver; simp only [settings, st, w, h.ended.lnt, h.req]
  have settle : settleOver a n = settleOver s n := by unfold settleOver settleTicks; rw [settings, c, h.ended.lnt]
  unfold SegStill SegQuiet
  rw [power, awake, settle, st]
  exact still

/-! ### The abort of a settle (R437) -/

theorem can_lanItem (s : State) (ty src : Nat) (pay : List Byte) : (lanItem s ty src pay).can = s.can := by
  unfold lanItem
  split
  · rfl
  · obtain ⟨r, x, h, e, -⟩ := evtItem_only s 0x70008 0 ty src pay
    rw [e]

theorem can_segAborted (s : State) (n cause : Nat) : (segAborted s n cause).can = s.can := by
  unfold segAborted
  refine (can_lanItem ..).trans ?_
  split <;> rfl

theorem can_abortSeg {s : State} {n : Nat} (cause : Nat) (h : SegStill s n) : (abortSeg s n cause).can = s.can := by
  unfold abortSeg
  rw [segDue_of_still h]
  simp only
  split
  · unfold segTurn
    split
    · rfl
    · exact (can_segAborted ..).trans (budInput_streamed ..).can
  · split <;> rfl

/-! ### An error on a channel (R43, R50) -/

/-- The second state differs from the first in what an error of type `k` in the phase `ph` does on channel `n`, to the transmitter of a frame with `tx`. -/
structure ErrorDone (d t : State) (n : Nat) (k : CanErr) (ph : CanPhase) (tx : Bool) : Prop where
  last : rd t (canR n 0x2C) = BitVec.ofNat 32 (lecCode k + 8 * phaseCode ph + 32 * bnat tx)
  count : rd t (canR n (errOffset k)) = rd d (canR n (errOffset k)) + 1#32
  other : ∀ o, o < 0x1000 → o ∉ [0, 4, 0x28, 0x2C, 0x6C, errOffset k] → rd t (canR n o) = rd d (canR n o)
  uncounted : countsErrors d n = false → rd t (canR n 0x28) = rd d (canR n 0x28)
  event : ∀ i, getB d (canR n 4) i = true → getB t (canR n 4) i = true
  off : tx = true → (chan t n).bus = none

theorem errOffset_mem (k : CanErr) : errOffset k ∈ [0x50, 0x54, 0x58, 0x5C, 0x60] := by cases k <;> decide

theorem rd_errMark (s : State) (n : Nat) (k : CanErr) (ph : CanPhase) (tx : Bool) (o : Nat) :
    rd (errMark s n k ph tx) o = if o = canR n (errOffset k) then rd s o + 1#32 else if o = canR n 0x2C
      then BitVec.ofNat 32 (lecCode k + 8 * phaseCode ph + 32 * bnat tx) else rd s o := by
  have apart : canR n (errOffset k) ≠ canR n 0x2C := by
    have := errOffset_mem k
    simp only [List.mem_cons, List.not_mem_nil, or_false] at this
    unfold canR
    omega
  rw [errMark, incC_eq, rd_wr, rd_wr, rd_wr, if_neg apart]
  split
  · rename_i h
    rw [h]
  · rfl

theorem errMark_only (s : State) (n : Nat) (k : CanErr) (ph : CanPhase) (tx : Bool) : RegsOnly s (errMark s n k ph tx) := by
  rw [errMark, incC_eq]
  exact ((RegsOnly.refl s).wr ..).wr ..

/-- A change of registers beside those of the segment ends no window. -/
theorem SegStill.of_regs {s a : State} {n : Nat} (h : SegStill s n) (only : RegsOnly s a) (hr : ∀ k ∈ [0x7000C, segR n 8, canR n 0], rd a k = rd s k) :
    SegStill a n := by
  unfold RegsOnly at only
  exact h.congr (by rw [only]) (by rw [only]) hr

theorem countsErrors_errMark (s : State) (n : Nat) (k : CanErr) (ph : CanPhase) (tx : Bool) : countsErrors (errMark s n k ph tx) n = countsErrors s n := by
  have offset := errOffset_mem k
  simp only [List.mem_cons, List.not_mem_nil, or_false] at offset
  have cur : modeCur (errMark s n k ph tx) n = modeCur s n := modeCur_congr (by rw [rd_errMark, if_neg (by unfold canR; omega), if_neg (by unfold canR; omega)])
  have unit : budMode (errMark s n k ph tx) = budMode s := by
    unfold budMode getF
    rw [rd_errMark, if_neg (by unfold canR; omega), if_neg (by unfold canR; omega)]
  have executing : (errMark s n k ph tx).bud = s.bud := by rw [errMark_only s n k ph tx]
  rw [countsErrors, countsErrors, cur, unit, executing]

/-- R437: the settle of the segment is aborted after the error has been handled; a choice withdrawn meanwhile (`b`) changes nothing here. -/
theorem errorDone {d b : State} {n : Nat} (hn : n < 48) (k : CanErr) (ph : CanPhase) (tx : Bool) (c : ErrCnt) (still : SegStill d n)
    (hr : b.regs = (errHandled d n k ph tx c).regs) (hc : b.can = (errHandled d n k ph tx c).can) (hl : b.lan = (errHandled d n k ph tx c).lan)
    (hf : b.inForce = (errHandled d n k ph tx c).inForce) : ErrorDone d (abortSeg b n n) n k ph tx := by
  obtain ⟨handled, off⟩ := errHandled_handled d hn k ph tx c
  have offset := errOffset_mem k
  simp only [List.mem_cons, List.not_mem_nil, or_false] at offset
  have marked : SegStill (errMark d n k ph tx) n := by
    refine still.of_regs (errMark_only ..) fun o ho => ?_
    have apart : o ≠ canR n (errOffset k) ∧ o ≠ canR n 0x2C := by
      simp only [List.mem_cons, List.not_mem_nil, or_false, segR, canR] at ho ⊢
      omega
    rw [rd_errMark, if_neg apart.1, if_neg apart.2]
  have stillB : SegStill b n := (handled.still hn (by unfold errWords; split <;> simp [canR] <;> omega) marked).congr hl hf fun o _ => rd_congr hr o
  have word (o : Nat) (ho : o < 0x1000) (hm : canR n o ∉ errWords n (countsErrors (errMark d n k ph tx) n)) :
      rd (abortSeg b n n) (canR n o) = rd (errMark d n k ph tx) (canR n o) :=
    ((turned_abortSeg n hn stillB).rd _ (.inr (by unfold canR; omega))).trans
      ((rd_congr hr _).trans (handled.ended.rd _ (attemptLeaves_canR n o hn ho) hm))
  have notErr (o : Nat) (h : o ∉ [0, 4, 0x28, 0x6C]) (x : Bool) : canR n o ∉ errWords n x := by
    simp only [List.mem_cons, List.not_mem_nil, or_false, not_or] at h
    cases x <;> simp only [errWords, canR, List.mem_cons, List.not_mem_nil, or_false, if_true, if_false, reduceCtorEq] <;> omega
  refine ⟨?_, ?_, fun o ho hm => ?_, fun hu => ?_, fun i hi => ?_, fun h => ?_⟩
  · rw [word 0x2C (by decide) (notErr _ (by decide) _), rd_errMark, if_neg (by unfold canR; omega), if_pos rfl]
  · rw [word _ (by omega) (notErr _ (by simp; omega) _), rd_errMark, if_pos rfl]
  · simp only [List.mem_cons, List.not_mem_nil, or_false, not_or] at hm
    rw [word o ho (notErr _ (by simp; omega) _), rd_errMark, if_neg (by unfold canR; omega), if_neg (by unfold canR; omega)]
  · rw [countsErrors_errMark, hu] at word
    rw [word 0x28 (by decide) (by simp [errWords, canR]), rd_errMark, if_neg (by unfold canR; omega), if_neg (by unfold canR; omega)]
  · have kept : getB (errMark d n k ph tx) (canR n 4) i = true := by
      rwa [getB, rd_errMark, if_neg (by unfold canR; omega), if_neg (by unfold canR; omega)]
    rw [getB, (turned_abortSeg n hn stillB).rd _ (.inr (by unfold canR; omega)), rd_congr hr]
    exact handled.event i kept
  · rw [chan_congr (can_abortSeg n stillB), chan_congr hc]
    exact off h

/-! ### The events of the bus, as inputs of the channel (R43, R49, R50, R56) -/

/-- What the buddy unit does before an input of a channel takes effect leaves every register but BUD_SEQ, the channels and the segments. -/
structure AtEvent (a c : State) : Prop where
  rd : ∀ k, k ≠ 0x80018 → rd c k = rd a k
  can : c.can = a.can
  lan : c.lan = a.lan
  inForce : c.inForce = a.inForce

theorem Streamed.atEvent {a c : State} (h : Streamed a c) : AtEvent a c := ⟨h.rd, h.can, h.lan, h.inForce⟩

theorem AtEvent.trans {a b c : State} (h : AtEvent a b) (h' : AtEvent b c) : AtEvent a c :=
  ⟨fun k hk => (h'.rd k hk).trans (h.rd k hk), h'.can.trans h.can, h'.lan.trans h.lan, h'.inForce.trans h.inForce⟩

theorem atEvent_gateAtEnd (a : State) (n : Nat) : AtEvent a (gateAtEnd a n) := by
  rw [gateAtEnd_only]
  exact ⟨fun _ _ => rfl, rfl, rfl, rfl⟩

section
variable {a c : State} (h : AtEvent a c) (n : Nat)
include h

theorem AtEvent.word (k : Nat) : Machine.rd c (canR n k) = Machine.rd a (canR n k) := h.rd _ (by unfold canR; omega)
theorem AtEvent.getF (k hi lo : Nat) : getF c (canR n k) hi lo = getF a (canR n k) hi lo := by unfold Machine.getF; rw [h.word]
theorem AtEvent.getB (k b : Nat) : getB c (canR n k) b = getB a (canR n k) b := by unfold Machine.getB; rw [h.word]
theorem AtEvent.chan : chan c n = chan a n := chan_congr h.can n
theorem AtEvent.modeCur : modeCur c n = modeCur a n := modeCur_congr (h.word n 0)
theorem AtEvent.integrating : integrating c n = integrating a n := integrating_congr (h.word n 0)

omit n in
theorem AtEvent.budMode : budMode c = budMode a := by unfold Machine.budMode Machine.getF; rw [h.rd _ (by decide)]

theorem AtEvent.errSeen (k : CanErr) (tx : Bool) : errSeen c n k tx = errSeen a n k tx := by
  unfold Machine.errSeen onBus
  rw [h.modeCur, h.integrating]

theorem AtEvent.tdcOf (f : CanFrame) : tdcOf c n f = tdcOf a n f := by unfold Machine.tdcOf; rw [h.getB]

theorem AtEvent.tdcFails (f : CanFrame) (v : Nat) : tdcFails c n f v = tdcFails a n f v := by
  unfold Machine.tdcFails fourBits sspOffset
  rw [h.tdcOf, h.getF, h.getF, h.getF, h.word]

theorem AtEvent.measuring (v : Option Nat) : measuring c n v = measuring a n v := by unfold Machine.measuring; rw [h.chan]

theorem AtEvent.unmeasured (v : Option Nat) (data : Bool) : unmeasured c n v data = unmeasured a n v data := by
  unfold Machine.unmeasured
  rw [h.chan, h.modeCur]
  simp only [h.tdcOf]

theorem AtEvent.still (hn : n < 48) (still : SegStill a n) : SegStill c n := by
  refine still.congr h.lan h.inForce fun k hk => h.rd k ?_
  simp only [List.mem_cons, List.not_mem_nil, or_false, segR, canR] at hk
  omega

/-- The input is taken after its record. -/
theorem AtEvent.input (k : Nat) (x : List Byte) (hb : Machine.budMode a ≠ 2) : ∃ b, canInput c n k x = canStep b n k x ∧ AtEvent a b := by
  obtain ⟨b, input, streamed⟩ := canInput_open n k x (h.budMode ▸ hb)
  exact ⟨b, input, h.trans streamed.atEvent⟩

end

theorem canErrOf_lecCode (k : CanErr) : canErrOf (lecCode k) = k := by cases k <;> rfl

theorem canPhaseOf_phaseCode (ph : CanPhase) : canPhaseOf (phaseCode ph) = ph := by cases ph <;> rfl

/-- The operands of an error come out of its record as they went in. -/
theorem canStep_error (c : State) (n : Nat) (k : CanErr) (ph : CanPhase) (tx : Bool) (cnt : ErrCnt) (v : Option Nat) (hv : ∀ x, v = some x → x < 256) :
    ∃ cnt', canStep c n 0 (errBytes k ph tx cnt v) = errorStep c n k ph tx cnt' v := by
  have type : leAt (errBytes k ph tx cnt v) 0 1 = lecCode k := by cases k <;> rfl
  have phase : leAt (errBytes k ph tx cnt v) 1 1 = phaseCode ph := by cases ph <;> rfl
  have sender : (leAt (errBytes k ph tx cnt v) 2 1 == 1) = tx := by cases tx <;> rfl
  have edge : (if beAt (errBytes k ph tx cnt v) 6 2 = 0 then none else some (beAt (errBytes k ph tx cnt v) 6 2 - 1)) = v := by
    cases v with
    | none => rfl
    | some x =>
      have number : beAt (errBytes k ph tx cnt (some x)) 6 2 = (x + 1) % 256 ^ 2 :=
        (congrArg leNat (List.reverse_reverse (leBytes 2 (x + 1)))).trans (leNat_leBytes 2 (x + 1))
      have small := hv x rfl
      have whole : (x + 1) % 256 ^ 2 = x + 1 := by omega
      rw [number, whole, if_neg (by omega)]
      rfl
  refine ⟨errCntOf (errBytes k ph tx cnt v) 3, ?_⟩
  rw [canStep, type, phase, sender, edge, canErrOf_lecCode, canPhaseOf_phaseCode]


theorem exec_errorDetected (n : Chan) (k : CanErr) (ph : CanPhase) (tx : Bool) (cnt : ErrCnt) (v : Option (BitVec 8)) (s : State) :
    exec (.errorDetected n k ph tx cnt v) s = .next (settle (errorOp (segDue s n.val) n.val k ph tx cnt (v.map fun x => x.toNat))) := rfl

/-- R50: an error that the channel sees is its error step. -/
theorem errorOp_open {a : State} {n : Nat} {k : CanErr} {ph : CanPhase} {tx : Bool} {cnt : ErrCnt} {v : Option Nat} (hb : budMode a ≠ 2)
    (seen : errSeen a n k tx = true) (hv : ∀ x, v = some x → x < 256) : ∃ c cnt', errorOp a n k ph tx cnt v = errorStep c n k ph tx cnt' v ∧ AtEvent a c := by
  obtain ⟨c, input, event⟩ := (atEvent_gateAtEnd a n).input n 0 (errBytes k ph tx cnt v) hb
  obtain ⟨cnt', step⟩ := canStep_error c n k ph tx cnt v hv
  refine ⟨c, cnt', ?_, event⟩
  rw [errorOp, seen, if_neg (by decide), if_neg hb, input, step]

/-- The error step of an error that is handled as one of type `k'`. -/
theorem errorStep_done {c d : State} {n : Nat} {k k' : CanErr} {ph ph' : CanPhase} {tx : Bool} {cnt cnt' : ErrCnt} {v : Option Nat} (hn : n < 48)
    (error : canError c n k ph tx cnt v = errHandled d n k' ph' tx cnt') (still : SegStill d n) :
    ErrorDone d (errorStep c n k ph tx cnt v) n k' ph' tx := by
  unfold errorStep
  simp only [error]
  cases tx
  · exact errorDone hn k' ph' false cnt' still rfl rfl rfl rfl
  · exact errorDone hn k' ph' true cnt' still (setChoice_regs ..) (setChoice_can ..) (setChoice_lan ..) (setChoice_inForce ..)

theorem canError_plain {c : State} {n : Nat} {k : CanErr} {ph : CanPhase} {tx : Bool} (cnt : ErrCnt) (seen : errSeen c n k tx = true)
    (edge : unmeasured c n none (tx && ph != .nominal) = none) : canError c n k ph tx cnt none = errHandled c n k ph tx cnt := by
  have none : measuring c n none = none := by
    unfold measuring
    split
    · contradiction
    · rfl
  simp only [canError, seen, none, edge, Bool.not_true, Bool.false_eq_true, if_false]

/-- R43: the measurement of the frame on the bus has failed, with an edge too late or with none. -/
theorem canError_measurement {c : State} {n : Nat} {k : CanErr} {ph : CanPhase} {b : OnBus} {v : Option Nat} (cnt : ErrCnt) (seen : errSeen c n k true = true)
    (bus : (chan c n).bus = some b) (failed : v = none ∧ unmeasured c n none (ph != .nominal) = some b.frame ∨ ∃ x, v = some x ∧ tdcFails c n b.frame x = true) :
    canError c n k ph true cnt v = tdcError c n b.frame cnt := by
  obtain ⟨rfl, edge⟩ | ⟨x, rfl, late⟩ := failed
  · have none : measuring c n none = none := by simp [measuring, bus]
    simp only [canError, seen, none, edge, Bool.true_and, Bool.not_true, Bool.false_eq_true, if_false]
  · have edge : measuring c n (some x) = some (b.frame, x) := by simp [measuring, bus]
    simp only [canError, seen, edge, late, Bool.not_true, Bool.false_eq_true, if_false, if_true]

theorem countsErrors_of_listening {s : State} {n : Nat} (h2 : 2 ≤ modeCur s n) (h4 : modeCur s n ≤ 4) : countsErrors s n = false := by
  have one : modeCur s n ≠ 1 ∧ modeCur s n ≠ 5 := by omega
  simp [countsErrors, one.1, one.2]

/-- R49, R50: an error without a measurement. -/
theorem errorDetected_counted {n : Chan} {a c : State} {k : CanErr} {ph : CanPhase} {tx : Bool} {cnt : ErrCnt} (event : AtEvent a c) (still : SegStill a n)
    (seen : errSeen a n k tx = true) (edge : unmeasured a n none (tx && ph != .nominal) = none) :
    rd (settle (errorStep c n k ph tx cnt none)) (canR n 0x2C) = BitVec.ofNat 32 (lecCode k + 8 * phaseCode ph + 32 * bnat tx) ∧
      rd (settle (errorStep c n k ph tx cnt none)) (canR n (errOffset k)) = rd a (canR n (errOffset k)) + 1#32 ∧
      (∀ o ∈ [0x50, 0x54, 0x58, 0x5C, 0x60], o ≠ errOffset k → rd (settle (errorStep c n k ph tx cnt none)) (canR n o) = rd a (canR n o)) ∧
      (2 ≤ modeCur a n → modeCur a n ≤ 4 → rd (settle (errorStep c n k ph tx cnt none)) (canR n 0x28) = rd a (canR n 0x28)) := by
  have error := canError_plain cnt ((event.errSeen n k tx).trans seen) ((event.unmeasured n none _).trans edge)
  have done := errorStep_done n.isLt error (event.still n n.isLt still)
  simp only [rd_settle]
  refine ⟨done.last, ?_, fun o ho hne => ?_, fun h2 h4 => ?_⟩
  · rw [done.count, event.word]
  · simp only [List.mem_cons, List.not_mem_nil, or_false] at ho
    rw [done.other o (by omega) (by simp; omega), event.word]
  · rw [done.uncounted (countsErrors_of_listening (by rwa [event.modeCur]) (by rwa [event.modeCur])), event.word]

/-- R43: an error that is a failed measurement. -/
theorem errorDetected_measurement {n : Chan} {a c : State} {k : CanErr} {ph : CanPhase} {cnt : ErrCnt} {b : OnBus} {v : Option Nat} (event : AtEvent a c)
    (still : SegStill a n) (seen : errSeen a n k true = true) (bus : (chan a n).bus = some b)
    (failed : v = none ∧ unmeasured a n none (ph != .nominal) = some b.frame ∨ ∃ x, v = some x ∧ tdcFails a n b.frame x = true)
    (fast : b.frame.fmt = .fd ∨ b.frame.fmt = .xl) :
    rd (settle (errorStep c n k ph true cnt v)) (canR n 0x2C) = (if b.frame.fmt = .xl then 0x35#32 else 0x2D#32) ∧
      rd (settle (errorStep c n k ph true cnt v)) (canR n 0x5C) = rd a (canR n 0x5C) + 1#32 ∧
      rd (settle (errorStep c n k ph true cnt v)) (canR n 0x74) = rd a (canR n 0x74) + 1#32 ∧
      getB (settle (errorStep c n k ph true cnt v)) (canR n 4) 7 = true ∧ rd (settle (errorStep c n k ph true cnt v)) (canR n 0x20) = rd a (canR n 0x20) ∧
      (chan (settle (errorStep c n k ph true cnt v)) n).bus = none := by
  have error := canError_measurement (ph := ph) cnt ((event.errSeen n k true).trans seen) (by rwa [event.chan])
    (by simpa only [event.unmeasured, event.tdcFails] using failed)
  have word (o : Nat) (h4 : o ≠ 4) : rd (tdcFailed c n) (canR n o) = if o = 0x74 then rd a (canR n o) + 1#32 else rd a (canR n o) := by
    rw [tdcFailed, rd_raise, if_neg (by unfold canR; omega), incC_eq, rd_wr]
    by_cases h : o = 0x74
    · rw [if_pos (congrArg (canR n) h), if_pos h, h, event.word]
    · rw [if_neg (by unfold canR; omega), if_neg h, event.word]
  have only : RegsOnly c (tdcFailed c n) := by
    rw [tdcFailed, incC_eq]
    exact ((RegsOnly.refl c).wr ..).raise ..
  have still : SegStill (tdcFailed c n) n := (event.still n n.isLt still).of_regs only fun o ho => by
    simp only [List.mem_cons, List.not_mem_nil, or_false, segR, canR] at ho
    rw [tdcFailed, rd_raise, if_neg (by unfold canR; omega), incC_eq, rd_wr_ne _ _ _ _ (by unfold canR; omega)]
  have done := errorStep_done n.isLt error still
  simp only [rd_settle, getB_settle, chan_settle]
  refine ⟨?_, ?_, ?_, ?_, ?_, done.off rfl⟩
  · rw [done.last]
    obtain h | h := fast <;> rw [h] <;> decide
  · exact done.count.trans (by rw [word _ (by decide)]; rfl)
  · rw [done.other 0x74 (by decide) (by decide), word _ (by decide), if_pos rfl]
  · exact done.event 7 (getB_raise_same _ _ _ (by decide))
  · rw [done.other 0x20 (by decide) (by decide), word _ (by decide), if_neg (by decide)]

/-! ### The other events (R50, R56) -/

theorem exec_overloadFrame (n : Chan) (s : State) : exec (.overloadFrame n) s = .next (settle (overloadOp (segDue s n.val) n.val)) := rfl
theorem exec_arbitrationLost (n : Chan) (s : State) : exec (.arbitrationLost n) s = .next (settle (arbLost (segDue s n.val) n.val)) := rfl
theorem exec_protocolException (n : Chan) (s : State) : exec (.protocolException n) s = .next (settle (protoExc (segDue s n.val) n.val)) := rfl

theorem overloadOp_counts {a : State} {n : Nat} (hb : budMode a ≠ 2) (ho : onBus a n = true) (hi : integrating a n = false) (hm : modeCur a n ≠ 4) :
    rd (settle (overloadOp a n)) (canR n 0x68) = rd a (canR n 0x68) + 1#32 ∧
      OnlyRegs { a with bud := (settle (overloadOp a n)).bud } (settle (overloadOp a n)) [canR n 0x68, 0x80018] := by
  obtain ⟨c, input, streamed⟩ := canInput_open n 3 [] hb
  have counts : overloadOp a n = incC c (canR n 0x68) := by
    rw [overloadOp, if_pos (by simp [ho, hi, hm]), input]
    rfl
  rw [counts, incC_eq]
  refine ⟨?_, onlyRegs_streamed (l := [canR n 0x68]) streamed ((RegsOnly.refl c).wr ..) ((RegsKept.refl c _).wr _ _ (by simp))⟩
  rw [rd_settle, rd_wr_same, streamed.atEvent.word]

theorem arbLost_counts {a : State} {n : Nat} (hn : n < 48) (hb : budMode a ≠ 2) (bus : (chan a n).bus.isSome = true) (hm : modeCur a n ≠ 4) :
    rd (settle (arbLost a n)) (canR n 0x64) = rd a (canR n 0x64) + 1#32 ∧ (chan (settle (arbLost a n)) n).bus = none := by
  obtain ⟨c, input, streamed⟩ := canInput_open n 4 [] hb
  have cut : arbLost a n = attemptFailed (setChoice (incC c (canR n 0x64)) n none) n .lost := by
    rw [arbLost, if_pos (by simp [bus, hm]), input]
    rfl
  obtain ⟨ended, off⟩ := ended_attemptFailed (setChoice (incC c (canR n 0x64)) n none) hn .lost
  rw [cut, rd_settle, chan_settle]
  refine ⟨?_, off⟩
  rw [ended.rd _ (attemptLeaves_canR n 0x64 hn (by decide)) (by simp [cutWords, Cut.silent]), rd_setChoice, incC_eq, rd_wr_same, streamed.atEvent.word]

/-- R56: in LOOPBACK_INT, which ignores RXD, none of these is seen. -/
theorem loopback_ignores {a : State} {n : Nat} (hm : modeCur a n = 4) : overloadOp a n = a ∧ arbLost a n = a ∧ protoExc a n = a :=
  ⟨by simp [overloadOp, hm], by simp [arbLost, hm], by simp [protoExc, errSeen, hm]⟩

theorem protoSkip_spec {c : State} {n : Nat} (hm : modeCur c n ≠ 4) :
    rd (protoSkip c n) (canR n 0x70) = rd c (canR n 0x70) + 1#32 ∧ getB (protoSkip c n) (canR n 4) 6 = true ∧ integrating (protoSkip c n) n = true ∧
      RegsOnly c (protoSkip c n) ∧ RegsKept c (protoSkip c n) [canR n 0, canR n 4, canR n 0x70] := by
  have mode : rd (raise (incC c (canR n 0x70)) (canR n 4) 6) (canR n 0) = rd c (canR n 0) := by
    rw [rd_raise, if_neg (by simp), incC_eq, rd_wr_ne _ _ _ _ (by simp)]
  have skip : protoSkip c n = setInteg (raise (incC c (canR n 0x70)) (canR n 4) 6) n true := by
    rw [protoSkip, integrate, if_neg (by rwa [modeCur_congr mode])]
  rw [skip]
  refine ⟨?_, ?_, integrating_setInteg _ n true, ?_, ?_⟩
  · rw [setInteg_kept _ n true _ (by simp), rd_raise, if_neg (by simp), incC_eq, rd_wr_same]
  · exact (getB_setB_other _ _ _ _ _ _ (by decide) (by simp)).trans (getB_raise_same _ _ _ (by decide))
  · exact (((RegsOnly.refl c).wr ..).raise ..).trans (setInteg_only _ n true)
  · exact (((RegsKept.refl c _).wr _ _ (by simp)).wr _ _ (by simp)).wr _ _ (by simp)

/-- R38: with PEX_EN = 1. -/
theorem protoExc_skips {a : State} {n : Nat} (hb : budMode a ≠ 2) (seen : errSeen a n .form false = true) (except : canExcept a n = true) (hm : modeCur a n ≠ 4)
    (pex : getB a (canR n 0xC) 2 = true) :
    rd (settle (protoExc a n)) (canR n 0x70) = rd a (canR n 0x70) + 1#32 ∧ getB (settle (protoExc a n)) (canR n 4) 6 = true ∧
      integrating (settle (protoExc a n)) n = true ∧
      OnlyRegs { a with bud := (settle (protoExc a n)).bud } (settle (protoExc a n)) [canR n 0, canR n 4, canR n 0x70, 0x80018] := by
  obtain ⟨c, input, streamed⟩ := canInput_open n 1 [] hb
  have skip : protoExc a n = protoSkip c n := by
    rw [protoExc, seen, except, if_neg (by decide), if_pos pex, input]
    rfl
  obtain ⟨count, event, integ, only, kept⟩ := protoSkip_spec (c := c) (n := n) (by rwa [streamed.modeCur])
  rw [skip, rd_settle, getB_settle, integrating_settle]
  exact ⟨by rw [count, streamed.atEvent.word], event, integ, onlyRegs_streamed streamed only kept⟩

/-- R38: with PEX_EN = 0 it is a form error of the receiver. -/
theorem protoExc_isFormError {a : State} {n : Nat} (hn : n < 48) (hb : budMode a ≠ 2) (still : SegStill a n) (seen : errSeen a n .form false = true)
    (except : canExcept a n = true) (pex : getB a (canR n 0xC) 2 = false) :
    rd (settle (protoExc a n)) (canR n 0x54) = rd a (canR n 0x54) + 1#32 ∧ rd (settle (protoExc a n)) (canR n 0x2C) = 2#32 ∧
      rd (settle (protoExc a n)) (canR n 0x70) = rd a (canR n 0x70) := by
  have taken : AtEvent a (fresh a).2 := ⟨fun _ _ => rfl, rfl, rfl, rfl⟩
  obtain ⟨c, input, event⟩ := (taken.trans (atEvent_gateAtEnd _ n)).input n 2 [BitVec.ofNat 8 (fresh a).1] hb
  have form : protoExc a n = abortSeg (protoForm c n (leAt [BitVec.ofNat 8 (fresh a).1] 0 1)) n n := by
    rw [protoExc, seen, except, if_neg (by decide), if_neg (by simp [pex]), input]
    rfl
  have done := errorDone (b := protoForm c n (leAt [BitVec.ofNat 8 (fresh a).1] 0 1)) hn .form .nominal false _ (event.still n hn still) rfl rfl rfl rfl
  rw [form, rd_settle, rd_settle, rd_settle]
  exact ⟨done.count.trans (by rw [event.word]; rfl), done.last, by rw [done.other 0x70 (by decide) (by decide), event.word]⟩

/-- R56: what a channel sees of its errors. -/
theorem errSeen_of_onBus {a : State} {n : Nat} {k : CanErr} {tx : Bool} (ho : onBus a n = true) (hi : integrating a n = false) (loop : modeCur a n = 4 → tx = true)
    (ack : 4 ≤ modeCur a n → tx = true → k ≠ .ack) : errSeen a n k tx = true := by
  have own : (modeCur a n == 4 && !tx) = false := by
    by_cases h : modeCur a n = 4
    · simp [loop h]
    · simp [h]
  have acked : ((modeCur a n == 4 || modeCur a n == 5) && tx && k == .ack) = false := by
    by_cases h : 4 ≤ modeCur a n ∧ tx = true
    · simp [ack h.1 h.2]
    · cases tx
      · simp
      · have low : modeCur a n ≠ 4 ∧ modeCur a n ≠ 5 := by
          simp only [and_true] at h
          omega
        simp [low.1, low.2]
  rw [errSeen, ho, hi, own, acked]
  rfl

/-- R42, R43: the two ways in which a measurement fails. -/
theorem measurementFails {a : State} {n : Nat} {ph : CanPhase} {v : Option (BitVec 8)} {b : OnBus} (bus : (chan a n).bus = some b)
    (en : getB a (canR n 0x1C) 0 = true) (fast : b.frame.fmt = .fd ∧ b.frame.brs = true ∨ b.frame.fmt = .xl)
    (failed : v = none ∧ modeCur a n ≠ 4 ∧ ph ≠ .nominal
      ∨ ∃ x, v = some x ∧ (getF a (canR n 0x1C) 14 8 < x.toNat ∨ fourBits a n b.frame ≤ x.toNat + sspOffset a n b.frame)) :
    v.map (fun x => x.toNat) = none ∧ unmeasured a n none (ph != .nominal) = some b.frame ∨
      ∃ x, v.map (fun x => x.toNat) = some x ∧ tdcFails a n b.frame x = true := by
  have measures : tdcOf a n b.frame = true := by
    obtain ⟨fd, brs⟩ | xl := fast
    · simp [tdcOf, en, fd, brs]
    · simp [tdcOf, en, xl]
  obtain ⟨rfl, mode, phase⟩ | ⟨x, rfl, late⟩ := failed
  · exact .inl ⟨rfl, by simp [unmeasured, bus, measures, mode, phase]⟩
  · exact .inr ⟨x.toNat, rfl, by simpa [tdcFails, measures] using late⟩

/-- Settles O3: on a channel that takes part in its bus no window of the segment is due any more, so an error is its mark, what it counts and what it ends; the
other events are one step each. -/
theorem busEventsAreCounted : Obligations.BusEventsAreCounted := by
  unfold Obligations.BusEventsAreCounted
  refine ⟨?_, ?_, ?_, ?_, ?_, ?_⟩
  · rintro n k ph tx cnt s a rfl hb ho hi h4 hack edge
    have seen := errSeen_of_onBus ho hi h4 hack
    obtain ⟨c, cnt', error, event⟩ := errorOp_open (ph := ph) (cnt := cnt) (v := none) hb seen (by simp)
    refine ⟨_, exec_errorDetected n k ph tx cnt none s, ?_⟩
    rw [Option.map_none, error]
    exact errorDetected_counted event (segDue_onBus n.isLt hb ho).1 seen edge
  · rintro n k ph cnt v s a b rfl hb ho hi hack bus en fast failed
    have seen := errSeen_of_onBus ho hi (tx := true) (fun _ => rfl) fun h _ => hack h
    obtain ⟨c, cnt', error, event⟩ := errorOp_open (ph := ph) (cnt := cnt) (v := v.map fun x => x.toNat) hb seen
      (by simpa using fun x _ => x.isLt)
    refine ⟨_, exec_errorDetected n k ph true cnt v s, ?_⟩
    rw [error]
    refine errorDetected_measurement event (segDue_onBus n.isLt hb ho).1 seen bus ?_ (fast.imp_left And.left)
    exact measurementFails bus en fast failed
  · rintro n s a rfl hb ho hi hm
    exact ⟨_, exec_overloadFrame n s, overloadOp_counts hb ho hi hm⟩
  · rintro n s a rfl hb bus hm
    exact ⟨_, exec_arbitrationLost n s, arbLost_counts n.isLt hb bus hm⟩
  · rintro n s a rfl hm
    obtain ⟨overload, arbitration, exception⟩ := loopback_ignores hm
    exact ⟨⟨_, exec_overloadFrame n s, by rw [overload]⟩, ⟨_, exec_arbitrationLost n s, by rw [arbitration]⟩, ⟨_, exec_protocolException n s, by rw [exception]⟩⟩
  · rintro n s a rfl hb ho hi hm except
    have seen : errSeen (segDue s n) n .form false = true := by simp [errSeen, ho, hi, hm]
    exact ⟨fun pex => ⟨_, exec_protocolException n s, protoExc_skips hb seen except hm pex⟩,
      fun pex => ⟨_, exec_protocolException n s, protoExc_isFormError n.isLt hb (segDue_onBus n.isLt hb ho).1 seen except pex⟩⟩

end Sys2Proof.Machine
end

section
/-!
PROOFS. The CAN commands of the mailboxes (R63, R64, R90, R91, R96) and the end of a lock's window (R91).
-/
namespace Sys2Proof.Machine

/-! ### A request taken and forwarded (R356, R361) -/

/-- The state in which the command of a request of mailbox `m` runs: the request taken, and its record sent where it changes paired state. -/
structure Served (s u : State) (m : Nat) : Prop where
  eq : u = { s with boot := u.boot, mbx := u.mbx, regs := u.regs, bud := u.bud, out := u.out }
  rd : ∀ k, k ≠ 0x80018 → rd u k = rd s k
  posted : (mbxAt u m).posted = (mbxAt s m).posted
  dropResp : (mbxAt u m).dropResp = (mbxAt s m).dropResp

theorem served_take (s : State) (m : Nat) (x : MbxReq) : Served s (take s m x) m := by
  have taken : mbxAt (take s m x) m = { mbxAt s m with queue := (mbxAt s m).queue.drop 1, inSvc := some x } := by rw [take, mbxAt_setMbx, if_pos rfl]
  exact ⟨rfl, fun _ _ => rfl, by rw [taken], by rw [taken]⟩

theorem served_forward (s : State) (m : Nat) (x : MbxReq) (r : Req) (cmd : Command) : Served s (forward (take s m x) m x r cmd) m := by
  have taken := served_take s m x
  have streamed : Streamed (take s m x) (forward (take s m x) m x r cmd) := by
    unfold forward
    split
    · exact budInput_streamed ..
    · exact .refl _
  refine ⟨?_, fun k hk => streamed.rd k hk, ?_, ?_⟩
  · rw [streamed.eq]
    rfl
  · rw [mbxAt_congr streamed.mbx, taken.posted]
  · rw [mbxAt_congr streamed.mbx, taken.dropResp]

section
variable {s u : State} {m : Nat} (h : Served s u m) (n : Nat)
include h

theorem Served.word (k : Nat) : Machine.rd u (canR n k) = Machine.rd s (canR n k) := h.rd _ (by unfold canR; omega)
theorem Served.getF (k hi lo : Nat) : getF u (canR n k) hi lo = getF s (canR n k) hi lo := by unfold Machine.getF; rw [h.word]
theorem Served.getB (k b : Nat) : getB u (canR n k) b = getB s (canR n k) b := by unfold Machine.getB; rw [h.word]
theorem Served.modeCur : modeCur u n = modeCur s n := modeCur_congr (h.word n 0)
theorem Served.chan : chan u n = chan s n := chan_congr (by rw [h.eq]) n
theorem Served.chanOwner : chanOwner u n = chanOwner s n := by rw [h.eq]; rfl
theorem Served.canCfg : canCfg u n = canCfg s n := by unfold Machine.canCfg; simp only [h.word]

omit n in
theorem Served.lockMs : lockMs u = lockMs s := by unfold Machine.lockMs ltNs; rw [h.eq]

omit n in
theorem Served.budBars (hb : budMode s ≠ 2) : budBars u = false := by
  have mode : budMode u = budMode s := by unfold budMode Machine.getF; rw [h.rd _ (by decide)]
  simp [Machine.budBars, mode, hb]

end

/-- What a command that leaves the mailboxes and the time, and is answered OK, does: `P` of the state and the fields of its response. -/
def Carries (s : State) (m : Nat) (x : MbxReq) (cmd : Command) (P : State → List Byte → Prop) : Prop :=
  ∀ u, Served s u m → ∃ a data, cmd u (reqOf m false x) = (a, answerOk data) ∧ a.mbx = u.mbx ∧ a.time = u.time ∧ P a data

theorem Carries.replies {s : State} {m code : Nat} {x : MbxReq} {cmd : Command} {P : State → List Byte → Prop} (h : Carries s m x cmd P) (asks : Asks s m code x) :
    ∃ a data, P a data ∧ Answered a (cmdRow s m code cmd) m ∧ Replies s (settle (cmdRow s m code cmd)) m x 0 data := by
  have served := served_forward s m x (reqOf m false x) cmd
  obtain ⟨a, data, run, mbx, time, holds⟩ := h _ served
  obtain ⟨-, -, -, -, -, -, kept⟩ := id asks
  have lt : ltNs a = ltNs s := by
    unfold ltNs
    rw [time, served.eq]
  obtain ⟨answered, replies⟩ := cmdRow_spec s m code x cmd a 0 data asks run ((congrArg MbxRt.posted (mbxAt_congr mbx m)).trans served.posted)
    ((congrArg MbxRt.dropResp (mbxAt_congr mbx m)).trans (served.dropResp.trans kept)) lt
  exact ⟨a, data, holds, answered, replies⟩

/-- A command that changes no paired state runs in the state in which the request has been taken. -/
theorem replies_unpaired {s a : State} {m code : Nat} {x : MbxReq} {cmd : Command} {data : List Byte} (asks : Asks s m code x)
    (unpaired : pairedReq (reqOf m false x) = false) (run : cmd (take s m x) (reqOf m false x) = (a, answerOk data))
    (mbx : a.mbx = (take s m x).mbx) (time : a.time = s.time) :
    Answered a (cmdRow s m code cmd) m ∧ Replies s (settle (cmdRow s m code cmd)) m x 0 data := by
  have served := served_take s m x
  have alone : forward (take s m x) m x (reqOf m false x) cmd = take s m x := by rw [forward, unpaired, Bool.false_and, if_neg (by decide)]
  obtain ⟨-, -, -, -, -, -, kept⟩ := id asks
  have lt : ltNs a = ltNs s := by unfold ltNs; rw [time]
  exact cmdRow_spec s m code x cmd a 0 data asks (by rw [alone]; exact run) ((congrArg MbxRt.posted (mbxAt_congr mbx m)).trans served.posted)
    ((congrArg MbxRt.dropResp (mbxAt_congr mbx m)).trans (served.dropResp.trans kept)) lt

/-- A word of a channel's page, after the answer. -/
theorem rd_answered {a b : State} {m : Nat} (h : Answered a b m) (n k : Nat) : rd (settle b) (canR n k) = rd a (canR n k) :=
  (rd_settle ..).trans (h.rd _ (.inr (by unfold canR; omega)))

theorem chan_answered {a b : State} {m : Nat} (h : Answered a b m) (n : Nat) : chan (settle b) n = chan a n :=
  (chan_settle ..).trans (chan_congr (by rw [h.eq]) n)

/-! ### The checks of the CAN commands (R63, R360) -/

section
variable {s u : State} {m code len n : Nat} {x : MbxReq} (h : CanAsks s m code x len n)
include h

theorem CanAsks.number : (reqOf m false x).at 0 1 = n := h.2.2.1.symm

theorem CanAsks.lt : n < 48 := by
  obtain ⟨-, -, -, small, -, -⟩ := h
  omega

theorem CanAsks.chanBad : chanBad (reqOf m false x) = false := by
  have small := h.lt
  rw [Machine.chanBad, h.number]
  exact decide_eq_false (by omega)

theorem CanAsks.budBars (hu : Served s u m) : budBars u = false := by
  obtain ⟨-, -, -, -, -, unit⟩ := h
  exact hu.budBars unit

/-- Checks 4 and 5 of R360. -/
theorem CanAsks.passes (hu : Served s u m) (body : State × Ans) : checked (chanComp u (reqOf m false x)) ((reqOf m false x).len == len) u body = body := by
  have comp : chanComp u (reqOf m false x) = true := by
    obtain ⟨-, -, -, -, act, -⟩ := id h
    rw [chanComp, h.number, hu.chanOwner]
    exact Bool.or_eq_true_iff.2 (.inr act)
  have fits : ((reqOf m false x).len == len) = true := by
    obtain ⟨-, size, -⟩ := h
    exact beq_iff_eq.2 size
  rw [checked, comp, fits]
  rfl

end

theorem RegsOnly.mbx {s a : State} (h : RegsOnly s a) : a.mbx = s.mbx := by unfold RegsOnly at h; rw [h]
theorem RegsOnly.time {s a : State} (h : RegsOnly s a) : a.time = s.time := by unfold RegsOnly at h; rw [h]

theorem supWrote_mbx (s : State) : (supWrote s).mbx = s.mbx := (rfl)
theorem supWrote_time (s : State) : (supWrote s).time = s.time := (rfl)
theorem rd_supWrote (s : State) (o : Nat) : rd (supWrote s) o = rd s o := (rfl)
theorem getF_supWrote (s : State) (o hi lo : Nat) : getF (supWrote s) o hi lo = getF s o hi lo := (rfl)
theorem getB_supWrote (s : State) (o b : Nat) : getB (supWrote s) o b = getB s o b := (rfl)

/-! ### CAN_SET_MODE (R54, R63) -/

theorem modeReq_setChan (s : State) (n : Nat) (x : CanRt) (k : Nat) : modeReq (setChan s n x) k = modeReq s k := (rfl)

/-- What a change to or from DISABLED leaves, for a command. -/
theorem leaveDisabled_kept (s : State) (n : Nat) :
    modeReq (leaveDisabled s n) n = modeReq s n ∧ (leaveDisabled s n).mbx = s.mbx ∧ (leaveDisabled s n).time = s.time := by
  have req (a : State) (m : Nat) (b : Bool) (w : Word) : modeReq (wr (setInteg (setCur a n m) n b) (canR n 0x28) w) n = modeReq a n :=
    (modeReq_congr (rd_wr_ne _ _ _ _ (by simp))).trans ((modeReq_setInteg ..).trans (modeReq_setCur ..))
  have bitten : RegsOnly (bite s (canR n 0x30 :: wordsFrom (segR n 0) 4))
      (wr (setInteg (setCur (bite s (canR n 0x30 :: wordsFrom (segR n 0) 4)) n (modeReq s n)) n (modeReq s n != 4)) (canR n 0x28) 0) :=
    ((setCur_only ..).trans (setInteg_only ..)).wr ..
  unfold leaveDisabled
  simp only
  rw [modeReq_setChan, req, setChan_mbx, bitten.mbx, setChan_time, bitten.time]
  exact ⟨rfl, rfl, rfl⟩

theorem enterDisabled_kept (s : State) {n : Nat} (hn : n < 48) :
    modeReq (enterDisabled s n) n = modeReq s n ∧ (enterDisabled s n).mbx = s.mbx ∧ (enterDisabled s n).time = s.time := by
  obtain ⟨b, ended, e⟩ := enterDisabled_eq s hn
  have mode : modeReq b n = modeReq s n := modeReq_congr (ended.rd _ (attemptLeaves_canR n 0 hn (by decide)) (by simp))
  have req : modeReq (setInteg (wr (setCur b n 0) (canR n 0x28) 0) n false) n = modeReq b n :=
    (modeReq_setInteg ..).trans ((modeReq_congr (rd_wr_ne _ _ _ _ (by simp))).trans (modeReq_setCur ..))
  rw [e]
  have only : RegsOnly b (setB (setInteg (wr (setCur b n 0) (canR n 0x28) 0) n false) (canR n 0) 13 false) :=
    (((setCur_only b n 0).wr ..).trans (setInteg_only ..)).setB ..
  refine ⟨(getF_setB_other _ _ _ _ _ _ _ (by decide) (by simp)).trans (req.trans mode), ?_, ?_⟩
  · rw [only.mbx, ended.eq]
  · rw [only.time, ended.eq]

/-- A write of MODE_REQ that is not refused. -/
theorem modeReqSet_spec {a : State} {n v : Nat} (hn : n < 48) (hv : v ≤ 5) (taken : modeRefused a n v = false) :
    modeReq (modeReqSet a n v) n = v ∧ (modeReqSet a n v).mbx = a.mbx ∧ (modeReqSet a n v).time = a.time := by
  have written : modeReq (setF a (canR n 0) 2 0 v) n = v := modeReq_setF a n v (by omega)
  by_cases running : 1 ≤ modeCur a n ∧ modeCur a n ≤ 5
  · have pending := modeReqSet_running (a := a) (n := n) running.1 running.2 hv
    exact ⟨(modeReq_congr (rd_congr pending.regs _)).trans written, by rw [pending.eq], by rw [pending.eq]⟩
  unfold modeReqSet
  simp only
  rw [if_neg (by omega)]
  split
  · rename_i enable
    have timing : timingOk (canCfg a n) = true := by simpa [modeRefused, enable.1, enable.2] using taken
    rw [if_pos timing]
    unfold tryLeave
    split
    · obtain ⟨req, mbx, time⟩ := leaveDisabled_kept (setF a (canR n 0) 2 0 v) n
      exact ⟨req.trans written, mbx, time⟩
    · exact ⟨written, rfl, rfl⟩
  · split
    · exact ⟨written, rfl, rfl⟩
    · rw [if_pos (by omega)]
      split
      · obtain ⟨req, mbx, time⟩ := enterDisabled_kept (setF a (canR n 0) 2 0 v) hn
        exact ⟨req.trans written, mbx, time⟩
      · exact ⟨written, rfl, rfl⟩

theorem cmdSetMode_carries {s : State} {m : Mbx} {x : MbxReq} {n : Nat} (h : CanAsks s m 0x0201 x 4 n) (hm : leAt x.fields 1 1 ≤ 5)
    (taken : modeRefused s n (leAt x.fields 1 1) = false) :
    Carries s m x cmdSetMode fun a data => modeReq a n = leAt x.fields 1 1 ∧ data = [BitVec.ofNat 8 (modeCur a n), 0, 0, 0] := by
  intro u hu
  have small := h.lt
  have mode : (reqOf m false x).at 1 1 = leAt x.fields 1 1 := rfl
  have taken : modeRefused u n (leAt x.fields 1 1) = false := by
    unfold modeRefused at *
    rwa [hu.modeCur, hu.canCfg]
  obtain ⟨req, mbx, time⟩ := modeReqSet_spec small hm taken
  refine ⟨supWrote (modeReqSet u n (leAt x.fields 1 1)), _, ?_, mbx, time, req, rfl⟩
  simp only [cmdSetMode, h.passes hu, h.budBars hu, h.chanBad, h.number, mode, taken, Bool.false_or, Bool.false_eq_true, if_false,
    decide_eq_false (Nat.not_lt.2 hm)]
  rfl

/-! ### CAN_SET_TIMING, CAN_RECOVER, CAN_SET_STB (R64) -/

/-- The second byte of a little-endian word of fields. -/
theorem fld_leAt_second (f : List Byte) (a : Nat) : fld (BitVec.ofNat 32 (leAt f a 4)) 15 8 = leAt f (a + 1) 1 := by
  have second : leAt f a 4 / 256 % 256 = leAt f (a + 1) 1 := by
    unfold leAt slice
    rw [← List.drop_drop]
    rcases f.drop a with _ | ⟨b0, _ | ⟨b1, rest⟩⟩
    · rfl
    · have b0lt := b0.isLt
      simp only [List.take_succ_cons, List.drop_succ_cons, List.take_nil, List.drop_nil, leNat]
      omega
    · have b0lt := b0.isLt
      have b1lt := b1.isLt
      simp only [List.take_succ_cons, List.drop_succ_cons, List.drop_zero, List.take_zero, leNat]
      omega
  rw [← second, fld, BitVec.toNat_ofNat, Nat.shiftRight_eq_div_pow]
  norm_num
  omega

theorem fld_takeBits_stbWake (old new : Word) : fld (takeBits old new 0xFF04) 15 8 = fld new 15 8 := by
  have inside : ∀ i < 8, Nat.testBit 0xFF04 (8 + i) = true := by decide
  rw [fld_eq_extract, fld_eq_extract]
  congr 1
  refine BitVec.eq_of_getLsbD_eq fun i hi => ?_
  have byte : i < 8 := hi
  rw [BitVec.getLsbD_extractLsb', BitVec.getLsbD_extractLsb', getLsbD_takeBits _ _ _ _ (by omega), inside i byte, if_pos rfl]

theorem holdForce_mbx (s : State) (o : Nat) : (holdForce s o).mbx = s.mbx := (rfl)
theorem holdForce_time (s : State) (o : Nat) : (holdForce s o).time = s.time := (rfl)
theorem rd_holdForce (s : State) (o k : Nat) : rd (holdForce s o) k = rd s k := (rfl)

/-- The words of the configuration, as CAN_SET_TIMING writes them. -/
theorem cfgPut_words (s : State) (n : Nat) (c : CanCfg) (stb : Word) :
    rd (cfgPut s n c stb) (canR n 0xC) = c.proto &&& (if n < 16 then 0xF1F else 0xF05) ∧ rd (cfgPut s n c stb) (canR n 0x10) = c.nbt &&& 0x3FFFFFFF ∧
      rd (cfgPut s n c stb) (canR n 0x14) = c.dbt &&& 0x3FFFF ∧ getF (cfgPut s n c stb) (canR n 0x30) 15 8 = fld stb 15 8 := by
  refine ⟨?_, ?_, ?_, ?_⟩
  · have mask : BitVec.ofNat 32 ((cfgMask n).getD 0 0) = if n < 16 then 0xF1F else 0xF05 := by unfold cfgMask; split <;> rfl
    simp only [cfgPut, rd_wr, rd_holdForce, canR, mask]
    simp
  · have mask : (cfgMask n).getD 1 0 = 0x3FFFFFFF := by unfold cfgMask; split <;> rfl
    simp only [cfgPut, rd_wr, rd_holdForce, canR, mask]
    simp
  · have mask : (cfgMask n).getD 2 0 = 0x3FFFF := by unfold cfgMask; split <;> rfl
    simp only [cfgPut, rd_wr, rd_holdForce, canR, mask]
    simp
  · unfold getF cfgPut
    rw [rd_wr_same]
    exact fld_takeBits_stbWake _ stb

theorem cfgPut_mbx (s : State) (n : Nat) (c : CanCfg) (stb : Word) : (cfgPut s n c stb).mbx = s.mbx := by
  simp only [cfgPut, wr_mbx, holdForce_mbx]

theorem cfgPut_time (s : State) (n : Nat) (c : CanCfg) (stb : Word) : (cfgPut s n c stb).time = s.time := by
  simp only [cfgPut, wr_time, holdForce_time]

theorem cmdSetTiming_carries {s : State} {m : Mbx} {x : MbxReq} {n : Nat} (h : CanAsks s m 0x0202 x 32 n) (off : modeCur s n = 0)
    (plain : 16 ≤ n → cfgXl (cfgAsked (reqOf m false x)) = false) (ok : timingOk (cfgAsked (reqOf m false x)) = true) :
    Carries s m x cmdSetTiming fun a data => data = [] ∧ rd a (canR n 0xC) = BitVec.ofNat 32 (leAt x.fields 4 4) &&& (if n < 16 then 0xF1F else 0xF05) ∧
      rd a (canR n 0x10) = BitVec.ofNat 32 (leAt x.fields 8 4) &&& 0x3FFFFFFF ∧ rd a (canR n 0x14) = BitVec.ofNat 32 (leAt x.fields 12 4) &&& 0x3FFFF ∧
      getF a (canR n 0x30) 15 8 = leAt x.fields 29 1 := by
  intro u hu
  have xl : (decide (16 ≤ n) && cfgXl (cfgAsked (reqOf m false x))) = false := by
    by_cases hx : 16 ≤ n
    · simp [plain hx]
    · simp [hx]
  obtain ⟨proto, nbt, dbt, stb⟩ := cfgPut_words u n (cfgAsked (reqOf m false x)) (BitVec.ofNat 32 ((reqOf m false x).at 28 4))
  refine ⟨supWrote (cfgPut u n (cfgAsked (reqOf m false x)) (BitVec.ofNat 32 ((reqOf m false x).at 28 4))), [], ?_, (supWrote_mbx _).trans (cfgPut_mbx ..),
    (supWrote_time _).trans (cfgPut_time ..), rfl, (rd_supWrote ..).trans proto, (rd_supWrote ..).trans nbt, (rd_supWrote ..).trans dbt,
    (getF_supWrote ..).trans (stb.trans (fld_leAt_second x.fields 28))⟩
  simp only [cmdSetTiming, h.passes hu, h.budBars hu, h.chanBad, h.number, hu.modeCur, off, xl, ok]
  rfl

theorem cmdRecover_carries {s : State} {m : Mbx} {x : MbxReq} {n : Nat} (h : CanAsks s m 0x0203 x 4 n) (off : modeCur s n = 6)
    (idle : getB s (canR n 0) 13 = false) : Carries s m x cmdRecover fun a data => data = [] ∧ getB a (canR n 0) 13 = true := by
  intro u hu
  have cur : modeCur u n = 6 := (hu.modeCur n).trans off
  have started : startRecovery u n = setB u (canR n 0) 13 true := by rw [startRecovery, if_pos cur]
  have only : RegsOnly u (startRecovery u n) := started ▸ (RegsOnly.refl u).setB ..
  refine ⟨supWrote (startRecovery u n), [], ?_, (supWrote_mbx _).trans only.mbx, (supWrote_time _).trans only.time, rfl, ?_⟩
  · simp only [cmdRecover, h.passes hu, h.budBars hu, h.chanBad, h.number, cur, hu.getB, idle]
    rfl
  · rw [getB_supWrote, started]
    exact getB_setB_same _ _ _ _ (by decide)

theorem cmdSetStb_carries {s : State} {m : Mbx} {x : MbxReq} {n : Nat} (h : CanAsks s m 0x0206 x 4 n) (hv : leAt x.fields 1 1 ≤ 2) :
    Carries s m x cmdSetStb fun a data => getF a (canR n 0x30) 1 0 = leAt x.fields 1 1 ∧
      data = [BitVec.ofNat 8 (bnat (stbAsserted a n)), BitVec.ofNat 8 (getF s (canR n 0x30) 17 17), 0, 0] := by
  intro u hu
  have mode : (reqOf m false x).at 1 1 = leAt x.fields 1 1 := rfl
  have driven : getF (supWrote (setF u (canR n 0x30) 1 0 (leAt x.fields 1 1))) (canR n 0x30) 17 17 = getF s (canR n 0x30) 17 17 :=
    (getF_supWrote ..).trans ((getF_setF_other _ _ _ _ _ _ _ _ (by decide) (by decide) (by omega)).trans (hu.getF ..))
  have only : RegsOnly u (setF u (canR n 0x30) 1 0 (leAt x.fields 1 1)) := (RegsOnly.refl u).setF ..
  refine ⟨supWrote (setF u (canR n 0x30) 1 0 (leAt x.fields 1 1)), _, ?_, (supWrote_mbx _).trans only.mbx, (supWrote_time _).trans only.time,
    (getF_supWrote ..).trans (getF_setF_same _ _ _ _ _ (by decide) (by decide) (by omega)), rfl⟩
  rw [← driven]
  simp only [cmdSetStb, h.passes hu, h.budBars hu, h.chanBad, h.number, mode, Bool.false_or, Bool.false_eq_true, if_false, decide_eq_false (Nat.not_lt.2 hv)]
  rfl

/-! ### CAN_GET_STATUS, CAN_GET_COUNTERS (R64) -/

theorem pairedReq_get {s : State} {m code : Nat} {x : MbxReq} (h : Asks s m code x) (hc : code = 0x0204 ∨ code = 0x0205) : pairedReq (reqOf m false x) = false := by
  obtain ⟨-, -, number, -⟩ := h
  have named : (reqOf m false x).code = code := number
  rw [pairedReq, named]
  obtain rfl | rfl := hc <;> rfl

theorem crcMismatch_take (s : State) (m : Nat) (x : MbxReq) (c : Nat) : crcMismatch (take s m x) c = crcMismatch s c := by
  unfold crcMismatch
  cases cfgBlocks.find? fun b => b.1 == c <;> rfl

theorem withMismatch_take (s : State) (m : Nat) (x : MbxReq) (o : Nat) (w : Word) : withMismatch (take s m x) o w = withMismatch s o w := by
  unfold withMismatch
  cases mismatchBits.find? fun e => e.1 == o with
  | none => rfl
  | some e => simp only [crcMismatch_take]

theorem canWord_take (s : State) (m : Nat) (x : MbxReq) (o : Nat) : canWord (take s m x) o = canWord s o := by
  have word (k : Nat) : rd (take s m x) k = rd s k := (rfl)
  have cur (n : Nat) : modeCur (take s m x) n = modeCur s n := (rfl)
  have cfg (n : Nat) : canCfg (take s m x) n = canCfg s n := (rfl)
  have stb (n : Nat) : stbAsserted (take s m x) n = stbAsserted s n := (rfl)
  simp only [canWord, word, cur, cfg, stb, crcMismatch_take]

/-- A word of a CAN channel does not tell of mailboxes. -/
theorem regWord_take (s : State) (m : Nat) (x : MbxReq) (o : Nat) (ho : 0x100000 ≤ o ∧ o < 0x140000) :
    regWord (take s m x) .supervisor o = regWord s .supervisor o := by
  have page (a : State) : regWord a .supervisor o = withMismatch a o (canWord a o) := by
    unfold regWord
    rw [if_neg (by omega), if_neg (by omega), if_neg (by omega), if_neg (by omega), if_neg (by omega), if_neg (by omega), if_neg (by omega), if_neg (by omega),
      if_neg (by omega), if_neg (by omega), if_neg (by omega), if_neg (by omega), if_pos ho]
  rw [page, page, withMismatch_take, canWord_take]

theorem regBytes_take (s : State) (m : Nat) (x : MbxReq) (os : List Nat) (ho : ∀ o ∈ os, 0x100000 ≤ o ∧ o < 0x140000) :
    regBytes (take s m x) os = regBytes s os := by
  unfold regBytes
  rw [List.flatMap_def, List.flatMap_def, List.map_congr_left fun o h => by rw [regWord_take s m x o (ho o h)]]

theorem canR_page {n k : Nat} (hn : n < 48) (hk : k < 0x1000) : 0x100000 ≤ canR n k ∧ canR n k < 0x140000 := by unfold canR; omega

theorem cmdGetStatus_replies {s : State} {m : Mbx} {x : MbxReq} {n : Nat} (h : CanAsks s m 0x0204 x 4 n) :
    Replies s (settle (cmdRow s m 0x0204 cmdGetStatus)) m x 0 (regBytes s [canR n 0, canR n 4, canR n 0x28, canR n 0x2C, canR n 0x20, canR n 0x30]) ∧
      ∀ o, o < 0x30000 ∨ 0x3A000 ≤ o → rd (settle (cmdRow s m 0x0204 cmdGetStatus)) o = rd s o := by
  have small := h.lt
  obtain ⟨asks, -⟩ := id h
  have run : cmdGetStatus (take s m x) (reqOf m false x) =
      (take s m x, answerOk (regBytes s [canR n 0, canR n 4, canR n 0x28, canR n 0x2C, canR n 0x20, canR n 0x30])) := by
    rw [← regBytes_take s m x _ (by simp [canR_page small])]
    simp only [cmdGetStatus, h.passes (served_take s m x), h.chanBad, h.number]
    rfl
  obtain ⟨answered, replies⟩ := replies_unpaired asks (pairedReq_get asks (.inl rfl)) run rfl rfl
  exact ⟨replies, fun o ho => (rd_settle ..).trans (answered.rd o ho)⟩

theorem canCounters_page {n o : Nat} (hn : n < 48) (ho : o ∈ canCounters n) : 0x100000 ≤ o ∧ o < 0x140000 := by
  obtain ⟨i, hi, rfl⟩ := mem_wordsFrom.1 ho
  unfold canR
  omega

theorem cmdGetCounters_replies {s : State} {m : Mbx} {x : MbxReq} {n : Nat} (h : CanAsks s m 0x0205 x 4 n) (hf : leAt x.fields 1 1 ≤ 1) :
    Replies s (settle (cmdRow s m 0x0205 cmdGetCounters)) m x 0 (regBytes s (canCounters n)) ∧
      (leAt x.fields 1 1 = 1 → ∀ o ∈ canCounters n, rd (settle (cmdRow s m 0x0205 cmdGetCounters)) o = 0) ∧
      (leAt x.fields 1 1 = 0 → ∀ o ∈ canCounters n, rd (settle (cmdRow s m 0x0205 cmdGetCounters)) o = rd s o) := by
  have small := h.lt
  obtain ⟨asks, -⟩ := id h
  have flag : (reqOf m false x).at 1 1 = leAt x.fields 1 1 := rfl
  have run : cmdGetCounters (take s m x) (reqOf m false x) =
      (if leAt x.fields 1 1 = 1 then zeroAll (take s m x) (canCounters n) else take s m x, answerOk (regBytes s (canCounters n))) := by
    rw [← regBytes_take s m x _ fun o ho => canCounters_page small ho]
    simp only [cmdGetCounters, h.passes (served_take s m x), h.chanBad, h.number, flag, Bool.false_or, decide_eq_false (Nat.not_lt.2 hf), Bool.false_eq_true, if_false]
  have only : RegsOnly (take s m x) (if leAt x.fields 1 1 = 1 then zeroAll (take s m x) (canCounters n) else take s m x) := .ite (zeroAll_only ..) (.refl _)
  obtain ⟨answered, replies⟩ := replies_unpaired asks (pairedReq_get asks (.inr rfl)) run only.mbx only.time
  have word (o : Nat) (ho : o ∈ canCounters n) := (rd_settle _ o).trans (answered.rd o (.inr (by have := canCounters_page small ho; omega)))
  refine ⟨replies, fun h1 o ho => ?_, fun h0 o ho => ?_⟩
  · rw [word o ho, if_pos h1, rd_zeroAll, if_pos ho]
  · rw [word o ho, if_neg (by omega)]
    rfl

/-! ### CAN_LOCK, CAN_UNLOCK (R90, R91) -/

theorem lockAsk_free {u : State} {n : Nat} (owner ms : Nat) (running : modeCur u n ≠ 0) (free : (chan u n).lock = none) :
    ∃ a, lockAsk u n owner ms = (a, true) ∧ (chan a n).lock = some { owner := owner, start := lockMs u, timeout := ms } ∧ a.mbx = u.mbx ∧ a.time = u.time := by
  refine ⟨setChan u n { chan u n with lock := some { owner := owner, start := lockMs u, timeout := ms } }, ?_, ?_, rfl, rfl⟩
  · simp only [lockAsk, running, if_false, free]
  · rw [chan_setChan, if_pos rfl]

theorem cmdLock_carries {s : State} {m : Mbx} {x : MbxReq} {n : Nat} (h : CanAsks s m 0x0207 x 4 n) (code : lockCode (leAt x.fields 1 1) = true)
    (time : leAt x.fields 2 2 ≠ 0) (running : modeCur s n ≠ 0) (free : (chan s n).lock = none) :
    Carries s m x cmdLock fun a data => (chan a n).lock = some { owner := leAt x.fields 1 1, start := lockMs s, timeout := leAt x.fields 2 2 } ∧
      data = [BitVec.ofNat 8 (leAt x.fields 1 1), 0, 0, 0] := by
  intro u hu
  have owner : (reqOf m false x).at 1 1 = leAt x.fields 1 1 := rfl
  have window : (reqOf m false x).at 2 2 = leAt x.fields 2 2 := rfl
  have unlocked : (chan u n).lock = none := by rw [hu.chan, free]
  obtain ⟨a, granted, held, mbx, lt⟩ := lockAsk_free (leAt x.fields 1 1) (leAt x.fields 2 2) (n := n) (by rwa [hu.modeCur]) unlocked
  refine ⟨a, _, ?_, mbx, lt, by rw [held, hu.lockMs], rfl⟩
  simp only [cmdLock, h.passes hu, h.budBars hu, h.chanBad, h.number, owner, window, code, granted, beq_false_of_ne time, lockOwner, held]
  rfl

theorem cmdUnlock_carries {s : State} {m : Mbx} {x : MbxReq} {n : Nat} {l : Lock} (h : CanAsks s m 0x0208 x 4 n) (held : (chan s n).lock = some l)
    (owner : l.owner = leAt x.fields 1 1) (code : lockCode l.owner = true) : Carries s m x cmdUnlock fun a data => (chan a n).lock = none ∧ data = [] := by
  intro u hu
  have asked : (reqOf m false x).at 1 1 = l.owner := owner.symm
  have freed : lockFree u n l.owner = (lockDrop u n, true) := by
    have locked : (chan u n).lock = some l := by rw [hu.chan, held]
    simp only [lockFree, locked, if_true]
  have dropped : (chan (lockDrop u n) n).lock = none := by rw [lockDrop, chan_setChan, if_pos rfl]
  refine ⟨lockDrop u n, [], ?_, rfl, rfl, dropped, rfl⟩
  simp only [cmdUnlock, h.passes hu, h.budBars hu, h.chanBad, h.number, asked, code, freed]
  rfl

/-! ### CAN_OBJ_SEND (R83, R96) -/

theorem lockTouch_only (s : State) (n owner : Nat) : lockTouch s n owner = { s with can := (lockTouch s n owner).can } := by
  unfold lockTouch
  simp only
  split
  · split <;> rfl
  · rfl

theorem budEvent_only (s : State) (bs : List Byte) : budEvent s bs = { s with bud := (budEvent s bs).bud } := by
  unfold budEvent
  split <;> rfl

/-- R67: the record of a new request. -/
theorem pendNew_spec (s : State) (o : Nat) :
    obBit (pendNew s o) o 18 = true ∧ obLen (pendNew s o) o = obLen s o ∧ (pendNew s o).mbx = s.mbx ∧ (pendNew s o).time = s.time := by
  refine ⟨?_, ?_, by simp only [pendNew, obPut_mbx], by simp only [pendNew, obPut_time]⟩
  · rw [pendNew, obBit_obPut _ _ _ _ _ _ (by decide) (by decide), if_neg (by decide), obBit_obPut _ _ _ _ _ _ (by decide) (by decide), if_neg (by decide),
      obBit_obPut _ _ _ _ _ _ (by decide) (by decide), if_pos (by decide)]
    rfl
  · rw [pendNew, obLen_obPut _ _ _ _ _ (by decide) (by decide) (by decide), obLen_obPut _ _ _ _ _ (by decide) (by decide) (by decide),
      obLen_obPut _ _ _ _ _ (by decide) (by decide) (by decide)]

/-- R83: a request for an object with none. -/
theorem request_new {s : State} {o : Nat} (owner : Nat) {y : Nat × Bool × Nat} (live : objLive s o = some y) (h18 : obBit s o 18 = false) (h19 : obBit s o 19 = false) :
    obBit (request s o owner) o 18 = true ∧ obLen (request s o owner) o = obLen s o ∧ (request s o owner).mbx = s.mbx ∧ (request s o owner).time = s.time := by
  obtain ⟨n, ext, ident⟩ := y
  have touched := lockTouch_only s n owner
  have noted := budEvent_only (lockTouch s n owner) (leBytes 4 o ++ leBytes 4 ident ++ objData (lockTouch s n owner) o (motAt (lockTouch s n owner) o) (obLen (lockTouch s n owner) o))
  unfold request
  rw [live]
  simp only
  generalize lockTouch s n owner = a at *
  generalize budEvent a _ = b at *
  have obj : b.obj = s.obj := by rw [noted, touched]
  have mbx : b.mbx = s.mbx := by rw [noted, touched]
  have time : b.time = s.time := by rw [noted, touched]
  rw [obBit_congr obj, obBit_congr obj, h18, h19, if_neg (by decide), if_neg (by decide)]
  obtain ⟨pend, len, mbx', time'⟩ := pendNew_spec { setObj b o { objAt a o with owner := owner, seq := b.reqSeq } with reqSeq := b.reqSeq + 1 } o
  refine ⟨pend, len.trans ?_, mbx'.trans mbx, time'.trans time⟩
  have taken : objAt { setObj b o { objAt a o with owner := owner, seq := b.reqSeq } with reqSeq := b.reqSeq + 1 } o =
      { objAt a o with owner := owner, seq := b.reqSeq } := (objAt_setObj ..).trans (if_pos rfl)
  have before : objAt a o = objAt s o := objAt_congr (by rw [touched]) o
  rw [obLen, obLen, taken, ← before]

theorem objLive_congr {s a : State} (tbl : a.tbl = s.tbl) (mode : ∀ n, rd a (canR n 0) = rd s (canR n 0)) (o : Nat) : objLive a o = objLive s o := by
  have ident : objIdent a o = objIdent s o := by
    unfold objIdent ximFor tList
    rw [tbl]
  have cur (n : Nat) : modeCur a n = modeCur s n := modeCur_congr (mode n)
  unfold objLive
  simp only [ident, cur]

theorem fdLen_le {n : Nat} (h : n ≤ 64) : fdLen n ≤ 64 := (by decide : ∀ n < 65, fdLen n ≤ 64) n (by omega)

/-- R92: what a SEND of a plain object leaves in it before its request. -/
theorem sendObj_new {s : State} {o len owner : Nat} {hdr : XlHdr} {data : List Byte} {y : Nat × Bool × Nat} (plain : moXl (motAt s o) = false)
    (unsealed : moSealed (motAt s o) = false) (size : data.length = len) (fits : sendLenOk (motAt s o) 64 len = true) (live : objLive s o = some y)
    (h18 : obBit s o 18 = false) (h19 : obBit s o 19 = false) :
    obBit (sendObj s o hdr data owner) o 18 = true ∧ obLen (sendObj s o hdr data owner) o = (if moFmt (motAt s o) = 1 then fdLen len else len) ∧
      (sendObj s o hdr data owner).mbx = s.mbx ∧ (sendObj s o hdr data owner).time = s.time := by
  have short : (if moFmt (motAt s o) = 1 then fdLen len else len) < 4096 := by
    have limit : len ≤ 64 := by
      simp only [sendLenOk, plain, Bool.false_eq_true, if_false, Bool.and_eq_true, decide_eq_true_eq] at fits
      obtain ⟨-, format⟩ := fits
      split at format <;> omega
    have padded := fdLen_le limit
    split <;> omega
  have stored : putHdr (putData s (motAt s o) (data.take 64)) (motAt s o) hdr = putData s (motAt s o) (data.take 64) := by simp [putHdr, plain]
  have obj : (putData s (motAt s o) (data.take 64)).obj = s.obj := payWrite_obj ..
  have tbl : (putData s (motAt s o) (data.take 64)).tbl = s.tbl := payWrite_tbl ..
  have regs : (putData s (motAt s o) (data.take 64)).regs = s.regs := payWrite_regs ..
  have mbx : (putData s (motAt s o) (data.take 64)).mbx = s.mbx := payWrite_mbx ..
  have time : (putData s (motAt s o) (data.take 64)).time = s.time := payWrite_time ..
  unfold sendObj sendSealed
  simp only [stored, plain, Bool.false_eq_true, if_false, size]
  generalize putData s (motAt s o) (data.take 64) = a at *
  generalize (if moFmt (motAt s o) = 1 then fdLen len else len) = k at *
  have entry : motAt (obPut a o 11 0 k) o = motAt s o := tGet_congr ((obPut_tbl ..).trans tbl) ..
  have sealed : sealIf (obPut a o 11 0 k) o = (obPut a o 11 0 k, true) := by rw [sealIf, entry, unsealed, if_neg (by decide)]
  rw [sealed]
  simp only [if_true]
  have live : objLive (obPut a o 11 0 k) o = some y :=
    (objLive_congr ((obPut_tbl ..).trans tbl) (fun n => rd_congr ((obPut_regs ..).trans regs) _) o).trans live
  have bit (b : Nat) (hb : 11 < b) : obBit (obPut a o 11 0 k) o b = obBit s o b := by
    rw [obBit_obPut _ _ _ _ _ _ (by decide) (by decide), if_neg (by omega), obBit_congr obj]
  obtain ⟨pend, length, mbx', time'⟩ := request_new owner live ((bit 18 (by decide)).trans h18) ((bit 19 (by decide)).trans h19)
  refine ⟨pend, ?_, mbx'.trans ((obPut_mbx ..).trans mbx), time'.trans ((obPut_time ..).trans time)⟩
  rw [length, obLen_obPut_len, Nat.mod_eq_of_lt short]

theorem cmdObjSend_carries {s : State} {m : Mbx} {x : MbxReq} {o len : Nat} {y : Nat × Bool × Nat} (hb : budMode s ≠ 2) (ho : o = leAt x.fields 0 4)
    (hlen : len = leAt x.fields 4 2) (small : o ≤ 131071) (size : leAt x.hdr 6 2 = 8 + len) (comp : objComp s (reqOf m false x) = true)
    (valid : moValid (motAt s o) = true) (tx : moTx (motAt s o) = true) (plain : moXl (motAt s o) = false) (unsealed : moSealed (motAt s o) = false)
    (fits : sendLenOk (motAt s o) 64 len = true) (fields : x.fields.length = 8 + len) (live : objLive s o = some y) (h18 : obBit s o 18 = false)
    (h19 : obBit s o 19 = false) :
    Carries s m x cmdObjSend fun a data => data = [] ∧ obBit a o 18 = true ∧ obLen a o = (if moFmt (motAt s o) = 1 then fdLen len else len) := by
  intro u hu
  have entry : motAt u o = motAt s o := tGet_congr (by rw [hu.eq]) ..
  have obj : u.obj = s.obj := by rw [hu.eq]
  have tbl : u.tbl = s.tbl := by rw [hu.eq]
  have object : (reqOf m false x).at 0 4 = o := ho.symm
  have length : (reqOf m false x).at 4 2 = len := hlen.symm
  have granted : objComp u (reqOf m false x) = true := by
    rw [← comp, hu.eq]
    rfl
  have whole : objSendLen u (reqOf m false x) = true := by
    have len8 : (reqOf m false x).len = 8 + len := size
    simp only [objSendLen, object, length, entry, plain, Bool.and_false, Bool.false_eq_true, if_false, len8, beq_self_eq_true]
  have bytes : (slice (reqOf m false x).f 8 len).length = len := by
    have count : (reqOf m false x).f.length = 8 + len := fields
    simp [slice, count]
  obtain ⟨pend, stored, mbx, time⟩ := sendObj_new (s := u) (hdr := noHdr) (owner := 0x50 + (reqOf m false x).m) (by rwa [entry]) (by rwa [entry]) bytes
    (by rwa [entry]) ((objLive_congr tbl (fun n => hu.word n 0) o).trans live) ((obBit_congr obj ..).trans h18) ((obBit_congr obj ..).trans h19)
  rw [entry] at stored
  refine ⟨_, [], ?_, mbx, time, rfl, pend, stored⟩
  simp only [cmdObjSend, object, length, granted, whole, checked, hu.budBars hb, entry, valid, tx, plain, fits, Nat.not_lt.2 small, Bool.not_true,
    Bool.or_false, Bool.false_eq_true, if_false]

/-! ### The end of a lock's window (R91) -/

theorem lockTimeoutOp_held {s : State} {n : Nat} {l : Lock} (held : (chan s n).lock = some l) : lockTimeoutOp s n =
    evtItem (raise (incC (lockDrop s n) (motR n 0x1C)) 0xA8600 1) 0xA8608 8 0x13 n ([BitVec.ofNat 8 l.owner, 0] ++ leBytes 2 l.timeout) := by
  rw [lockTimeoutOp, held]

theorem lockTimeoutOp_spec {s : State} {n : Nat} {l : Lock} (hn : n < 48) (held : (chan s n).lock = some l) :
    rd (lockTimeoutOp s n) (motR n 0x1C) = rd s (motR n 0x1C) + 1 ∧ getB (lockTimeoutOp s n) 0xA8600 1 = true ∧
      Noted (lockDrop s n) (lockTimeoutOp s n) [motR n 0x1C, 0xA8600] := by
  have apart : motR n 0x1C ≠ 0xA8600 := by unfold motR; omega
  have far : 0x41010 ≤ motR n 0x1C := by unfold motR; omega
  rw [lockTimeoutOp_held held]
  refine ⟨?_, ?_, (((Noted.refl _ _).incC _ (by simp)).raise _ _ (by simp)).item ..⟩
  · rw [rd_evtItem _ _ _ _ _ _ _ (.inr far), rd_raise, if_neg apart, incC_eq, rd_wr_same]
    rfl
  · rw [getB, rd_evtItem _ _ _ _ _ _ _ (.inr (by decide))]
    exact getB_raise_same _ _ _ (by decide)

theorem chan_lockDrop (s : State) (n k : Nat) : chan (lockDrop s n) k = if k = n then { chan s n with lock := none } else chan s k := chan_setChan ..

theorem canStep_lockTimeout (s : State) (n : Nat) (x : List Byte) : canStep s n 11 x = lockTimeoutOp s n := rfl

/-- R91: the lock's window is over. -/
theorem lockTimeout_streamed {s a : State} {n : Chan} {l : Lock} (h : Streamed s a) (held : (chan s n).lock = some l) :
    (chan (settle (lockTimeoutOp a n)) n).lock = none ∧ rd (settle (lockTimeoutOp a n)) (motR n 0x1C) = rd s (motR n 0x1C) + 1 ∧
      getB (settle (lockTimeoutOp a n)) 0xA8600 1 = true ∧ (∀ k, k ≠ n.val → chan (settle (lockTimeoutOp a n)) k = chan s k) ∧
      OnlyNoted { s with can := (settle (lockTimeoutOp a n)).can, bud := (settle (lockTimeoutOp a n)).bud } (settle (lockTimeoutOp a n))
        [motR n 0x1C, 0xA8600, 0x80018] := by
  obtain ⟨count, event, noted⟩ := lockTimeoutOp_spec n.isLt (by rwa [h.chan])
  obtain ⟨eq, kept⟩ := noted
  have chans (k : Nat) : chan (lockTimeoutOp a n) k = chan (lockDrop a n) k := chan_congr (by rw [eq]) k
  have counted : rd a (motR n 0x1C) = rd s (motR n 0x1C) := h.rd _ (by unfold motR; omega)
  refine ⟨?_, by rw [rd_settle, count, counted], (getB_settle ..).trans event, fun k hk => ?_, ?_, fun o ho hj => ?_⟩
  · rw [chan_settle, chans, chan_lockDrop, if_pos rfl]
  · rw [chan_settle, chans, chan_lockDrop, if_neg hk, h.chan]
  · generalize lockTimeoutOp a n = b at eq
    rw [eq, lockDrop, setChan, h.eq]
    rfl
  · simp only [List.mem_cons, List.not_mem_nil, or_false, not_or] at ho
    rw [rd_settle, kept o (by simp [ho]) hj]
    exact h.rd o ho.2.2

/-! ### The obligation -/

theorem exec_canSetMode (m : Mbx) (s : State) : exec (.canSetMode m) s = .next (settle (cmdRow s m.val 0x0201 cmdSetMode)) := rfl
theorem exec_canSetTiming (m : Mbx) (s : State) : exec (.canSetTiming m) s = .next (settle (cmdRow s m.val 0x0202 cmdSetTiming)) := rfl
theorem exec_canRecover (m : Mbx) (s : State) : exec (.canRecover m) s = .next (settle (cmdRow s m.val 0x0203 cmdRecover)) := rfl
theorem exec_canGetStatus (m : Mbx) (s : State) : exec (.canGetStatus m) s = .next (settle (cmdRow s m.val 0x0204 cmdGetStatus)) := rfl
theorem exec_canGetCounters (m : Mbx) (s : State) : exec (.canGetCounters m) s = .next (settle (cmdRow s m.val 0x0205 cmdGetCounters)) := rfl
theorem exec_canSetStb (m : Mbx) (s : State) : exec (.canSetStb m) s = .next (settle (cmdRow s m.val 0x0206 cmdSetStb)) := rfl
theorem exec_canLock (m : Mbx) (s : State) : exec (.canLock m) s = .next (settle (cmdRow s m.val 0x0207 cmdLock)) := rfl
theorem exec_canUnlock (m : Mbx) (s : State) : exec (.canUnlock m) s = .next (settle (cmdRow s m.val 0x0208 cmdUnlock)) := rfl
theorem exec_canObjSend (m : Mbx) (s : State) : exec (.canObjSend m) s = .next (settle (cmdRow s m.val 0x0209 cmdObjSend)) := rfl

theorem stbAsserted_congr {s a : State} {n : Nat} (stb : rd a (canR n 0x30) = rd s (canR n 0x30)) (mode : rd a (canR n 0) = rd s (canR n 0)) :
    stbAsserted a n = stbAsserted s n := by
  unfold stbAsserted getB getF
  rw [stb, modeCur_congr mode]

/-- Settles O26: each command passes the checks of R360 and answers what its card says; what its effect leaves in the channel's page, the channels and the
objects stands after the answer. -/
theorem canCommands : Obligations.CanCommands := by
  unfold Obligations.CanCommands
  refine ⟨fun m s x n => ⟨fun h hm ok => ?_, fun h off plain ok => ?_, fun h off idle => ?_, fun h => ?_, fun h hf => ?_, fun h hv => ?_,
    fun h code time running free => ?_, fun l h held owner code => ?_⟩, ?_, fun n s l hb held due => ?_⟩
  · obtain ⟨a, _, ⟨req, rfl⟩, answered, replies⟩ := (cmdSetMode_carries h hm ok).replies h.1
    refine ⟨_, exec_canSetMode m s, (modeReq_congr (rd_answered answered n 0)).trans req, ?_⟩
    rw [modeCur_congr (rd_answered answered n 0)]
    exact replies
  · obtain ⟨a, _, ⟨rfl, proto, nbt, dbt, stb⟩, answered, replies⟩ := (cmdSetTiming_carries h off plain ok).replies h.1
    refine ⟨_, exec_canSetTiming m s, ?_⟩
    beta_reduce
    rw [getF, rd_answered answered, rd_answered answered, rd_answered answered, rd_answered answered]
    exact ⟨proto, nbt, dbt, stb, replies⟩
  · obtain ⟨a, _, ⟨rfl, recovering⟩, answered, replies⟩ := (cmdRecover_carries h off idle).replies h.1
    refine ⟨_, exec_canRecover m s, ?_, replies⟩
    rwa [getB, rd_answered answered]
  · exact ⟨_, exec_canGetStatus m s, cmdGetStatus_replies h⟩
  · exact ⟨_, exec_canGetCounters m s, cmdGetCounters_replies h hf⟩
  · obtain ⟨a, _, ⟨stb, rfl⟩, answered, replies⟩ := (cmdSetStb_carries h hv).replies h.1
    refine ⟨_, exec_canSetStb m s, ?_⟩
    beta_reduce
    rw [stbAsserted_congr (rd_answered answered n 0x30) (rd_answered answered n 0), getF, rd_answered answered]
    exact ⟨stb, replies⟩
  · obtain ⟨a, _, ⟨lock, rfl⟩, answered, replies⟩ := (cmdLock_carries h code time running free).replies h.1
    exact ⟨_, exec_canLock m s, by rw [chan_answered answered, lock], replies⟩
  · obtain ⟨a, _, ⟨lock, rfl⟩, answered, replies⟩ := (cmdUnlock_carries h held owner code).replies h.1
    exact ⟨_, exec_canUnlock m s, by rw [chan_answered answered, lock], replies⟩
  · intro m s x o len y asks hb ho hlen small size comp valid tx plain unsealed fits fields live h18 h19
    obtain ⟨a, _, ⟨rfl, pend, length⟩, answered, replies⟩ :=
      (cmdObjSend_carries (m := m) hb ho hlen small size comp valid tx plain unsealed fits fields live h18 h19).replies asks
    have obj : (settle (cmdRow s m 0x0209 cmdObjSend)).obj = a.obj := by
      rw [settle_obj, answered.eq]
    exact ⟨_, exec_canObjSend m s, replies, (obBit_congr obj ..).trans pend, (obLen_congr obj _).trans length⟩
  · have elapsed : lockOver s n = true := by simp [lockOver, held, due]
    obtain ⟨a, input, streamed⟩ := canInput_open n 11 [] hb
    refine ⟨_, exec_lockTimeout n s, ?_⟩
    rw [if_pos elapsed, input, canStep_lockTimeout]
    exact lockTimeout_streamed streamed held

end Sys2Proof.Machine
end

section
/-!
PROOFS. The reset of a block (R429): one whose records are reapplied at once leaves the mark of a held reload as it finds it; the obligation O45 leaves out that
there is none.
-/
namespace Sys2Proof.Machine

theorem exec_blockReset (b : ResetBlk) (s : State) (idle : s.boot.blk = none) (up : 4 ≤ s.boot.stage) : exec (.blockReset b) s = .next (settle (blkStart s b)) := by
  have runs : ¬ (s.boot.blk.isSome || decide (s.boot.stage < 4)) = true := by simp [idle, Nat.not_lt.2 up]
  have row : exec (.blockReset b) s = .next (settle (if s.boot.blk.isSome || decide (s.boot.stage < 4) then s else blkStart s b)) := rfl
  rw [row, if_neg runs]

/-- An idle device whose boot state has the mark of a reload that waits for the flash (R400), though no block is in reset and loop 4 does not coast. -/
def staleHold : State := { State.reset with boot := { State.reset.boot with stage := 4, blkHeld := true } }

/-- No job is in hand and no bank has a directory, so the reset of a cipher engine clears its key registers and reapplies nothing. -/
theorem blkStart_staleHold : (blkStart staleHold (.cipher 0)).boot.blkHeld = true := by decide +kernel

theorem flashWaits_staleHold : flashWaits staleHold = false := by decide +kernel

/-- Refutes O45: its clause on the mark of a held reload does not ask that the mark be down before the reset. In `staleHold` the flash can be read, so the reset
of cipher engine 0 reapplies the records at once, and leaves the mark standing. -/
theorem not_faultsAndBlockResets : ¬ Obligations.FaultsAndBlockResets := by
  unfold Obligations.FaultsAndBlockResets
  rintro ⟨-, -, reset, -, -⟩
  obtain ⟨mark, -⟩ := reset (.cipher 0) staleHold rfl (Nat.le_refl 4)
  obtain ⟨t, ht, -, held⟩ := mark (by decide)
  rw [exec_blockReset _ _ rfl (Nat.le_refl 4)] at ht
  obtain rfl : settle (blkStart staleHold (.cipher 0)) = t := by simpa using ht
  rw [settle_boot, blkStart_staleHold, flashWaits_staleHold] at held
  exact absurd held (by decide)

end Sys2Proof.Machine
end

section
/-!
PROOFS. The signal image: what its rows change at most (the frame of this family), accesses through the cache that change no slot (R121), and a change made at
one slot after the other.
-/
namespace Sys2Proof.Machine

/-! ### The frame of the image's rows -/

/-- The second state differs from the first in the image and in what follows from its changes alone: slots, segment modes and passes, cache, sweeper, windows,
derivation runs, gateway copies, mirror, stream, journals, registers, keys, interrupts and what is sent. -/
def ImageFrame (s a : State) : Prop :=
  a = { s with regs := a.regs, armed := a.armed, slots := a.slots, smt := a.smt, copyNext := a.copyNext, copies := a.copies, runs := a.runs, desc := a.desc
               cache := a.cache, passes := a.passes, sweepPauseAt := a.sweepPauseAt, sweepRunFrom := a.sweepRunFrom, mir := a.mir, jnl := a.jnl, irq := a.irq
               bud := a.bud, house := a.house, out := a.out }

theorem ImageFrame.refl (s : State) : ImageFrame s s := rfl

theorem ImageFrame.trans {s a b : State} (h : ImageFrame s a) (h' : ImageFrame a b) : ImageFrame s b := by
  unfold ImageFrame at *; rw [h', h]

section
variable {s a : State}

theorem Imaged.frame (h : Imaged s a) : ImageFrame s a := by unfold ImageFrame; rw [h.eq]
theorem Streamed.frame (h : Streamed s a) : ImageFrame s a := by unfold ImageFrame; rw [h.eq]
theorem RegsOnly.frame (h : RegsOnly s a) : ImageFrame s a := by unfold ImageFrame; unfold RegsOnly at h; rw [h]

theorem Noted.frame {l : List Nat} (h : Noted s a l) : ImageFrame s a := by
  obtain ⟨eq, -⟩ := h
  unfold ImageFrame; rw [eq]

theorem ImageFrame.ite {p : Prop} [Decidable p] {b : State} (h : ImageFrame s a) (h' : ImageFrame s b) : ImageFrame s (if p then a else b) := by
  split <;> assumption

theorem ImageFrame.foldl {α : Type} (f : State → α → State) (hf : ∀ s x, ImageFrame s (f s x)) (l : List α) (s : State) : ImageFrame s (l.foldl f s) := by
  induction l generalizing s with
  | nil => exact .refl s
  | cons x l ih => exact (hf s x).trans (ih _)

theorem ImageFrame.carriers (h : ImageFrame s a) : CarriersKept s a := by
  unfold ImageFrame at h; rw [h]; exact ⟨rfl, rfl, rfl, rfl, rfl⟩

theorem ImageFrame.mem (h : ImageFrame s a) : a.mem = s.mem := by unfold ImageFrame at h; rw [h]
theorem ImageFrame.mbx (h : ImageFrame s a) : a.mbx = s.mbx := by unfold ImageFrame at h; rw [h]
theorem ImageFrame.boot (h : ImageFrame s a) : a.boot = s.boot := by unfold ImageFrame at h; rw [h]
theorem ImageFrame.memKept (h : ImageFrame s a) : MemKept s a := memKept_of h.mem
theorem ImageFrame.time (h : ImageFrame s a) : a.time = s.time := by unfold ImageFrame at h; rw [h]

end

theorem ImageFrame.wr (s : State) (o : Nat) (w : Word) : ImageFrame s (wr s o w) := rfl
theorem ImageFrame.raise (s : State) (o b : Nat) : ImageFrame s (raise s o b) := rfl
theorem ImageFrame.incC (s : State) (o : Nat) : ImageFrame s (incC s o) := rfl
theorem ImageFrame.setF (s : State) (o hi lo v : Nat) : ImageFrame s (setF s o hi lo v) := rfl
theorem ImageFrame.setB (s : State) (o b : Nat) (v : Bool) : ImageFrame s (setB s o b v) := rfl
theorem ImageFrame.settle (s : State) : ImageFrame s (settle s) := rfl
theorem ImageFrame.disarm (s : State) (q : Requester) : ImageFrame s (disarm s q) := rfl

theorem ImageFrame.item (s : State) (o lo ty src : Nat) (pay : List Byte) : ImageFrame s (evtItem s o lo ty src pay) :=
  ((Noted.refl s []).item o lo ty src pay).frame

theorem CarriersKept.trans {s a b : State} (h : CarriersKept s a) (h' : CarriersKept a b) : CarriersKept s b := by
  obtain ⟨tbl, shadow, can, obj, pay⟩ := h
  obtain ⟨tbl', shadow', can', obj', pay'⟩ := h'
  exact ⟨tbl'.trans tbl, shadow'.trans shadow, can'.trans can, obj'.trans obj, pay'.trans pay⟩

/-! ### The stamp (R106, R454) -/

theorem pairStamp_congr {s a : State} (executing : a.bud.executing = s.bud.executing) (now : rd a 0x1A0010 = rd s 0x1A0010) : pairStamp a = pairStamp s := by
  unfold pairStamp sigNow; rw [executing, now]

theorem Streamed.pairStamp {s a : State} (h : Streamed s a) : pairStamp a = pairStamp s := pairStamp_congr h.executing (h.rd _ (by decide))

theorem Imaged.pairStamp {s a : State} (h : Imaged s a) : pairStamp a = pairStamp s := pairStamp_congr (by rw [h.bud]) (h.rd _ (by decide))

/-! ### Accesses through the cache (R121) -/

/-- Accesses through the cache that change no slot. -/
def Accessed (s a : State) : Prop := Imaged s a ∧ a.slots = s.slots

theorem Accessed.refl (s : State) : Accessed s s := ⟨.refl s, rfl⟩

theorem Accessed.trans {s a b : State} (h : Accessed s a) (h' : Accessed a b) : Accessed s b := ⟨h.1.trans h'.1, h'.2.trans h.2⟩

theorem Accessed.foldl {α : Type} (f : State → α → State) (hf : ∀ s x, Accessed s (f s x)) (l : List α) (s : State) : Accessed s (l.foldl f s) := by
  induction l generalizing s with
  | nil => exact .refl s
  | cons x l ih => exact (hf s x).trans (ih _)

theorem touch_accessed (s : State) (g : Nat) (d : Bool) : Accessed s (touch s g d) := touch_imaged s g d

theorem touches_accessed (s : State) (gs : List Nat) : Accessed s (gs.foldl (fun a g => touch a g false) s) :=
  .foldl _ (fun a g => touch_accessed a g false) gs s

theorem slotAt_touch (s : State) (g : Nat) (d : Bool) (k : Nat) : slotAt (touch s g d) k = slotAt s k := slotAt_congr (touch_imaged s g d).2 k

/-! ### A change at one slot after the other -/

/-- What `f` does at a slot touches no other slot, so a pass over `l` leaves the slots that are not in `l`. -/
theorem slotAt_foldl_other {f : State → Nat → State} (hf : ∀ s g k, k ≠ g → slotAt (f s g) k = slotAt s k) (l : List Nat) (s : State) (k : Nat) (hk : k ∉ l) :
    slotAt (l.foldl f s) k = slotAt s k := by
  induction l generalizing s with
  | nil => rfl
  | cons g l ih =>
    obtain ⟨ne, out⟩ := List.ne_and_not_mem_of_not_mem_cons hk
    rw [List.foldl_cons, ih _ out, hf _ _ _ ne]

/-- A pass that makes `F` of each slot of `l`, each visited once. -/
theorem slotAt_foldl {f : State → Nat → State} {F : Slot → Slot} (hf : ∀ s g k, slotAt (f s g) k = if k = g then F (slotAt s g) else slotAt s k) (l : List Nat)
    (once : l.Nodup) (s : State) (k : Nat) : slotAt (l.foldl f s) k = if k ∈ l then F (slotAt s k) else slotAt s k := by
  induction l generalizing s with
  | nil => rfl
  | cons g l ih =>
    obtain ⟨out, once⟩ := List.nodup_cons.1 once
    rw [List.foldl_cons, ih once, hf]
    by_cases h : k = g
    · subst h
      rw [if_neg out, if_pos rfl, if_pos (by simp)]
    · rw [if_neg h]
      simp only [List.mem_cons, h, false_or]

end Sys2Proof.Machine
end

section
/-!
PROOFS. The upkeep of the signal image: BAR4 (R111, R114), the age sweeper (R108, R109), the cache counts (R122), housekeeping (R120), readiness and the resume
pass (R126, R127, R142).
-/
namespace Sys2Proof.Machine

/-! ### BAR4 (R111, R114) -/

/-- R344: the interrupt controller sends nothing but its messages. -/
theorem settledOut_msix (s : State) : ∀ x ∈ settledOut s, ∃ v a d, x = .msix v a d := by
  intro x hx
  obtain ⟨t, -, rfl⟩ := List.mem_map.1 hx
  exact ⟨_, _, _, rfl⟩

theorem exec_bar4Write (off : BitVec 29) (len : Nat) (s : State) :
    exec (.bar4Write off len) s = .next (settle (raise (incC s 0x1A0038) 0x1A0000 1)) := rfl

/-- Settles O28: the row raises one counter and one event bit; what is sent behind them is the interrupt controller's. -/
theorem bar4WriteIsDiscarded : Obligations.Bar4WriteIsDiscarded := by
  unfold Obligations.Bar4WriteIsDiscarded
  intro off len s
  refine ⟨_, exec_bar4Write off len s, ?_, ?_, ?_, ?_⟩
  · rw [rd_settle, rd_raise, if_neg (by decide), incC_eq, rd_wr_same]
    rfl
  · exact (getB_settle ..).trans (getB_raise_same _ _ _ (by decide))
  · exact onlyRegs_of rfl (((RegsKept.refl s _).wr _ _ (by simp)).wr _ _ (by simp))
  · exact ⟨_, settle_out _, settledOut_msix _⟩

theorem exec_bar4Read (off : BitVec 29) (len : Nat) (s : State) : exec (.bar4Read off len) s = .next (settle (bar4ReadOp s off.toNat len)) := rfl

/-- R111, R114: the slots that a read shows are accessed through the cache, and what was asked for is sent. -/
theorem bar4ReadOp_eq (s : State) (off len : Nat) : ∃ a, Accessed s a ∧ (imageReady s = false → a = s) ∧
    bar4ReadOp s off len = send a (.bar4 (slice ((bar4Slots off len).flatMap (bar4Slot s)) (off % 16) len)) := by
  unfold bar4ReadOp
  refine ⟨_, ?_, ?_, rfl⟩
  · split
    · exact touches_accessed ..
    · exact .refl s
  · intro down
    rw [if_neg (by simp [down])]

theorem sends_settle {s a : State} {x : Out} (h : a.out = s.out) : Sends s (settle (send a x)) x :=
  ⟨settledOut (send a x), by rw [settle_out]; simp [send, h]⟩

/-- The slots that `len` bytes from offset `off` touch have room for those bytes. -/
theorem bar4Slots_length (off len : Nat) : off % 16 + len ≤ 16 * (bar4Slots off len).length := by
  simp only [bar4Slots, List.length_map, List.length_range]
  omega

/-- R114: before IMAGE_READY every byte reads zero. -/
theorem bar4_zeros {s : State} (down : imageReady s = false) (off len : Nat) :
    slice ((bar4Slots off len).flatMap (bar4Slot s)) (off % 16) len = List.replicate len 0 := by
  have zero (l : List Nat) : l.flatMap (bar4Slot s) = List.replicate (16 * l.length) 0 := by
    induction l with
    | nil => rfl
    | cons g l ih =>
      have slot : bar4Slot s g = List.replicate 16 0 := by simp [bar4Slot, down]
      rw [List.flatMap_cons, ih, slot, List.replicate_append_replicate, List.length_cons, Nat.mul_succ, Nat.add_comm]
  have room := bar4Slots_length off len
  rw [zero, slice, List.drop_replicate, List.take_replicate]
  congr 1
  omega

theorem bar4Read_spec (off : BitVec 29) (len : Nat) (s : State) : ∃ t, exec (.bar4Read off len) s = .next t ∧ ImageFrame s t ∧ t.slots = s.slots ∧
    Sends s t (.bar4 (slice ((bar4Slots off.toNat len).flatMap (bar4Slot s)) (off.toNat % 16) len)) ∧ (imageReady s = false → OnlyRegs s t []) := by
  obtain ⟨a, ⟨imaged, slots⟩, down, eq⟩ := bar4ReadOp_eq s off.toNat len
  refine ⟨_, exec_bar4Read off len s, ?_⟩
  rw [eq]
  refine ⟨imaged.frame.trans rfl, slots, sends_settle imaged.out, fun h => ?_⟩
  rw [down h]
  exact ⟨rfl, fun _ _ => rfl⟩

/-! ### The age sweeper (R108) -/

/-- R108: slot `g` is valid, not stale, and as old as AGE_LIMIT. -/
def Aged (s : State) (g : Nat) : Prop :=
  (slotAt s g).valid = true ∧ (slotAt s g).stale = false ∧ wrapDist 32 (pairStamp s) (slotAt s g).stamp.toNat ≥ getF s 0x1A0008 19 12 * 1000000

/-- A slot made stale by a status change (R104). -/
def Slot.marked (x : Slot) : Slot := { x.put 1 true with gen := x.gen + 1 }

/-- What a visit leaves: the slot marked and counted where it has grown old, and else every slot. -/
structure Visited (s a : State) (g : Nat) : Prop where
  frame : ImageFrame s a
  position : rd a 0x1A000C = rd s 0x1A000C
  other : ∀ k, k ≠ g → slotAt a k = slotAt s k
  aged : Aged s g → slotAt a g = (slotAt s g).marked ∧ rd a 0x1A0030 = rd s 0x1A0030 + 1 ∧ getB a 0x1A0000 3 = true
  young : ¬ Aged s g → slotAt a g = slotAt s g ∧ rd a 0x1A0030 = rd s 0x1A0030

theorem sweepSlot_visited (s : State) (g : Nat) : Visited s (sweepSlot s g) g := by
  obtain ⟨read, slots⟩ := touch_accessed s g false
  have limit := read.getF 0x1A0008 19 12 (by decide)
  unfold sweepSlot
  simp only
  by_cases old : Aged s g
  · obtain ⟨valid, fresh, age⟩ := id old
    have changed : staleSlot (touch s g false) g = changeSlot (touch s g false) g ((slotAt s g).put 1 true) := by
      unfold staleSlot
      simp only [slotAt_touch, valid, fresh]
      rfl
    have imaged := read.trans (changeSlot_imaged (touch s g false) g ((slotAt s g).put 1 true))
    have slot (k : Nat) := slotAt_changeSlot (touch s g false) g k ((slotAt s g).put 1 true)
    rw [if_pos (by simp only [valid, fresh, read.pairStamp, limit, decide_eq_true age]; rfl), changed]
    generalize changeSlot (touch s g false) g ((slotAt s g).put 1 true) = b at imaged slot
    refine ⟨imaged.frame.trans rfl, ?_, fun k hk => ?_, fun _ => ⟨?_, ?_, getB_raise_same _ _ _ (by decide)⟩, fun h => absurd old h⟩
    · rw [rd_raise, if_neg (by decide), incC_eq, rd_wr_ne _ _ _ _ (by decide), imaged.rd _ (by decide)]
    · rw [slotAt_raise, incC_eq, slotAt_wr, slot, if_neg hk, slotAt_touch]
    · rw [slotAt_raise, incC_eq, slotAt_wr, slot, if_pos rfl, slotAt_touch]
      rfl
    · rw [rd_raise, if_neg (by decide), incC_eq, rd_wr_same, imaged.rd _ (by decide)]
      rfl
  · have keeps : ¬ ((slotAt s g).valid && !(slotAt s g).stale
        && decide (wrapDist 32 (pairStamp (touch s g false)) (slotAt s g).stamp.toNat ≥ getF (touch s g false) 0x1A0008 19 12 * 1000000)) = true := by
      intro h
      rw [read.pairStamp, limit, Bool.and_eq_true, Bool.and_eq_true, Bool.not_eq_true', decide_eq_true_iff] at h
      obtain ⟨⟨valid, fresh⟩, age⟩ := h
      exact old ⟨valid, fresh, age⟩
    rw [if_neg keeps]
    exact ⟨read.frame, read.rd _ (by decide), fun k _ => slotAt_touch .., fun h => absurd h old, fun _ => ⟨slotAt_touch .., read.rd _ (by decide)⟩⟩

theorem exec_sweeperVisit (s : State) : exec .sweeperVisit s = .next (settle (sweepVisit s)) := rfl

theorem Streamed.aged {s a : State} (h : Streamed s a) (g : Nat) : Aged a g ↔ Aged s g := by
  unfold Aged
  rw [slotAt_congr h.slots, h.pairStamp, h.getF _ _ _ (by decide)]

/-- R108, R454: the sweeper's visit, at a unit that is not STANDBY: the slot at the position is visited, and the position advances. -/
theorem sweeperVisit_spec {s : State} (running : getB s 0x1A0008 0 = true) (ready : imageReady s = true) (unit : budMode s ≠ 2) :
    ∃ b, Visited s b (getF s 0x1A000C 24 0) ∧ exec .sweeperVisit s = .next (settle (setF b 0x1A000C 24 0 ((getF s 0x1A000C 24 0 + 1) % 2 ^ 25))) := by
  obtain ⟨a, fire, streamed⟩ := pairedFire_open s 5 (getF s 0x1A000C 24 0) sweepNext unit
  have position : getF a 0x1A000C 24 0 = getF s 0x1A000C 24 0 := streamed.getF _ _ _ (by decide)
  have visit := sweepSlot_visited a (getF s 0x1A000C 24 0)
  have slot (k : Nat) : slotAt a k = slotAt s k := slotAt_congr streamed.slots k
  have word (o : Nat) (ho : o ≠ 0x80018) := streamed.rd o ho
  refine ⟨sweepSlot a (getF s 0x1A000C 24 0), ⟨streamed.frame.trans visit.frame, visit.position.trans (word _ (by decide)),
    fun k hk => (visit.other k hk).trans (slot k), fun old => ?_, fun young => ?_⟩, ?_⟩
  · rw [← slot, ← word _ (by decide)]
    exact visit.aged ((streamed.aged _).2 old)
  · rw [← slot, ← word _ (by decide)]
    exact visit.young fun h => young ((streamed.aged _).1 h)
  · rw [exec_sweeperVisit, sweepVisit, if_pos (by simp [running, ready]), fire, sweepNext, position]

/-! ### A pause and its end (R109) -/

/-- R380: the words of SIG_SWEEP_CFG: ranges while the sweeper is paused, its bit 0 with the key. -/
def sweepMasks : Masks := { rw := 0, rwd := 0xFFFFE, rwk := 1, w1c := 0, kwo := 0 }

theorem sweepBad_even (data : Word) : (sweepBad data).testBit 0 = false := by
  unfold sweepBad
  split <;> split <;> rfl

/-- With the key, bit 0 is stored, whatever becomes of the ranges. -/
theorem sweepStore_spec {s : State} {q : Requester} (key : keyOk s q = true) (data x : Word) (dis : Bool) :
    RegsOnly s (writeMasked s q 0x1A0008 data sweepMasks dis (some (0x1A0000, 5)) (sweepBad data &&& x.toNat)) ∧
      getB (writeMasked s q 0x1A0008 data sweepMasks dis (some (0x1A0000, 5)) (sweepBad data &&& x.toNat)) 0x1A0008 0 = data.getLsbD 0 := by
  have judged : (sweepBad data &&& x.toNat).testBit 0 = false := by rw [Nat.testBit_and, sweepBad_even, Bool.false_and]
  have stored (old new : Word) (d : Bool) : (mergeWord old new sweepMasks d true).getLsbD 0 = new.getLsbD 0 := by
    unfold mergeWord sweepMasks
    simp only [if_true]
    rw [BitVec.getLsbD_and, getLsbD_takeBits _ _ _ _ (by decide)]
    simp
  unfold writeMasked
  simp only [key, if_true, Bool.not_true, Bool.and_false, Bool.false_eq_true, if_false]
  have bit (dis : Bool) : (mergeWord (rd s 0x1A0008) (takeBits data (rd s 0x1A0008) (sweepBad data &&& x.toNat)) sweepMasks dis true).getLsbD 0 = data.getLsbD 0 := by
    rw [stored, getLsbD_takeBits _ _ _ _ (by decide), judged]
    rfl
  split
  · exact ⟨rfl, (getB_raise_other _ _ _ _ _ (by decide) (by decide)).trans ((getB_wr_same ..).trans (bit _))⟩
  · exact ⟨rfl, (getB_wr_same ..).trans (bit _)⟩

theorem getLsbD_putFld_zero (data : Word) : (putFld data 0 0 0).getLsbD 0 = false := (getLsbD_putBit data 0 0 false (by decide)).trans (if_pos rfl)
theorem getLsbD_putFld_one (data : Word) : (putFld data 0 0 1).getLsbD 0 = true := (getLsbD_putBit data 0 0 true (by decide)).trans (if_pos rfl)

theorem sweepWrite_pauses {s : State} {q : Requester} {data : Word} (key : keyOk s q = true) (running : getB s 0x1A0008 0 = true) (ok : pauseOk s = true)
    (ask : data.getLsbD 0 = false) : ∃ r, RegsOnly s r ∧ getB r 0x1A0008 0 = false ∧ sweepWrite s q data = { r with sweepPauseAt := some (ltNs s) } := by
  have was : (rd s 0x1A0008).getLsbD 0 = true := running
  obtain ⟨only, stored⟩ := sweepStore_spec key data (rd s 0x1A0008 ^^^ data) false
  refine ⟨_, only, stored.trans ask, ?_⟩
  unfold sweepWrite sweepMasks at *
  simp only [was, ask, key, ok, Bool.not_false, Bool.not_true, Bool.and_false, Bool.false_eq_true, if_false, stored, Bool.and_self, if_true]

theorem sweepWrite_refuses {s : State} {q : Requester} {data : Word} (key : keyOk s q = true) (running : getB s 0x1A0008 0 = true) (early : pauseOk s = false)
    (ask : data.getLsbD 0 = false) : ∃ r, RegsOnly s r ∧ getB r 0x1A0008 0 = true ∧ sweepWrite s q data = raise r 0x1A0000 5 := by
  have was : (rd s 0x1A0008).getLsbD 0 = true := running
  obtain ⟨only, stored⟩ := sweepStore_spec key (putFld data 0 0 1) (rd s 0x1A0008 ^^^ putFld data 0 0 1) false
  rw [getLsbD_putFld_one] at stored
  refine ⟨_, only, stored, ?_⟩
  have now := (getB_raise_other _ 0x1A0000 5 0x1A0008 0 (by decide) (by decide)).trans stored
  unfold sweepWrite sweepMasks at *
  simp only [was, ask, key, early, Bool.not_false, Bool.not_true, Bool.and_self, if_true, now, Bool.and_false, Bool.false_and, Bool.false_eq_true, if_false]

theorem sweepWrite_resumes {s : State} {q : Requester} {data : Word} (key : keyOk s q = true) (paused : getB s 0x1A0008 0 = false) (ask : data.getLsbD 0 = true) :
    ∃ r, RegsOnly s r ∧ getB r 0x1A0008 0 = true ∧ sweepWrite s q data = { r with sweepPauseAt := none, sweepRunFrom := some (ltNs s) } := by
  have was : (rd s 0x1A0008).getLsbD 0 = false := paused
  obtain ⟨only, stored⟩ := sweepStore_spec key data (rd s 0x1A0008 ^^^ data) true
  refine ⟨_, only, stored.trans ask, ?_⟩
  unfold sweepWrite sweepMasks at *
  simp only [was, ask, Bool.not_false, Bool.not_true, Bool.false_and, Bool.false_eq_true, if_false, stored, Bool.and_self, if_true]

theorem exec_sweepPause (q : Requester) (data : Word) (s : State) : exec (.sweepPause q data) s =
    .next (settle (disarm (pairedWrite s q 0x1A0008 (putFld data 0 0 0) fun a => sweepWrite a q (putFld data 0 0 0)) q)) := rfl

theorem exec_sweepResume (q : Requester) (data : Word) (s : State) : exec (.sweepResume q data) s =
    .next (settle (disarm (pairedWrite s q 0x1A0008 (putFld data 0 0 1) fun a => sweepWrite a q (putFld data 0 0 1)) q)) := rfl

section
variable {s a : State} (h : Streamed s a)
include h

theorem Streamed.keyOk (q : Requester) : keyOk a q = keyOk s q := by unfold Machine.keyOk; rw [armed_congr h.armed]
theorem Streamed.pauseOk : pauseOk a = pauseOk s := by unfold Machine.pauseOk; rw [h.sweepRunFrom, h.ltNs]

end

/-- R109: a pause with the key: taken after 30 minutes of running, refused before. -/
theorem sweepPause_spec {s : State} {q : Requester} (data : Word) (unit : budMode s ≠ 2) (key : keyOk s q = true) (running : getB s 0x1A0008 0 = true) :
    ∃ t, exec (.sweepPause q data) s = .next t ∧ ImageFrame s t ∧ armed t q = false ∧ t.slots = s.slots ∧
      (pauseOk s = true → getB t 0x1A0008 0 = false ∧ t.sweepPauseAt = some (ltNs s)) ∧
      (pauseOk s = false → getB t 0x1A0008 0 = true ∧ getB t 0x1A0000 5 = true ∧ t.sweepPauseAt = s.sweepPauseAt) := by
  obtain ⟨a, write, streamed⟩ := pairedWrite_open s q 0x1A0008 (putFld data 0 0 0) (fun a => sweepWrite a q (putFld data 0 0 0)) unit
  rw [← streamed.keyOk] at key
  rw [← streamed.getB _ _ (by decide)] at running
  rw [← streamed.pauseOk, ← streamed.ltNs, ← streamed.sweepPauseAt, ← streamed.slots]
  refine ⟨_, exec_sweepPause q data s, ?_⟩
  rw [write]
  cases ok : pauseOk a
  · obtain ⟨r, only, on, eq⟩ := sweepWrite_refuses key running ok (getLsbD_putFld_zero data)
    rw [eq]
    exact ⟨(streamed.frame.trans only.frame).trans rfl, armed_disarm_same .., by rw [settle_slots, disarm_eq, setArmed_slots, raise_slots, only], nofun,
      fun _ => ⟨(getB_raise_other _ _ _ _ _ (by decide) (by decide)).trans on, getB_raise_same _ _ _ (by decide),
        by rw [settle_sweepPauseAt, disarm_eq, setArmed_sweepPauseAt, raise_sweepPauseAt, only]⟩⟩
  · obtain ⟨r, only, off, eq⟩ := sweepWrite_pauses key running ok (getLsbD_putFld_zero data)
    rw [eq]
    exact ⟨(streamed.frame.trans only.frame).trans rfl, armed_disarm_same .., by rw [settle_slots, disarm_eq, setArmed_slots, only],
      fun _ => ⟨off, rfl⟩, nofun⟩

/-- R109: a resume with the key. -/
theorem sweepResume_spec {s : State} {q : Requester} (data : Word) (unit : budMode s ≠ 2) (key : keyOk s q = true) (paused : getB s 0x1A0008 0 = false) :
    ∃ t, exec (.sweepResume q data) s = .next t ∧ ImageFrame s t ∧ armed t q = false ∧ t.slots = s.slots ∧ getB t 0x1A0008 0 = true ∧ t.sweepPauseAt = none ∧
      t.sweepRunFrom = some (ltNs s) := by
  obtain ⟨a, write, streamed⟩ := pairedWrite_open s q 0x1A0008 (putFld data 0 0 1) (fun a => sweepWrite a q (putFld data 0 0 1)) unit
  rw [← streamed.keyOk] at key
  rw [← streamed.getB _ _ (by decide)] at paused
  rw [← streamed.ltNs, ← streamed.slots]
  refine ⟨_, exec_sweepResume q data s, ?_⟩
  obtain ⟨r, only, on, eq⟩ := sweepWrite_resumes key paused (getLsbD_putFld_one data)
  rw [write, eq]
  exact ⟨(streamed.frame.trans only.frame).trans rfl, armed_disarm_same .., by rw [settle_slots, disarm_eq, setArmed_slots, only], on, rfl, rfl⟩

theorem exec_sweepRearm (s : State) : exec .sweepRearm s = .next (settle (sweepRearmOp s)) := rfl

/-- The sweeper runs again from this instant on. -/
def rearmed (s : State) : State := { s with sweepPauseAt := none, sweepRunFrom := some (ltNs s) }

/-- R109, R129: 60 s after the pause the sweeper runs again, with its event and its item. -/
theorem sweepRearm_due {s : State} {p : Nat} (pause : s.sweepPauseAt = some p) (due : p + 60000000000 ≤ ltNs s) :
    ∃ b, exec .sweepRearm s = .next (settle b) ∧ Noted (rearmed s) b [0x1A0000, 0x1A0008] ∧ getB b 0x1A0008 0 = true ∧ getB b 0x1A0000 4 = true := by
  have run : exec .sweepRearm s = .next (settle (evtItem (raise (setB (rearmed s) 0x1A0008 0 true) 0x1A0000 4) 0x1A0014 0 0x22 0
      (leBytes 4 (getF (setB s 0x1A0008 0 true) 0x1A000C 24 0)))) := by
    rw [exec_sweepRearm, sweepRearmOp, pause]
    simp only [if_neg (Nat.not_lt.2 due)]
    rfl
  refine ⟨_, run, (((Noted.refl _ _).setB 0x1A0008 0 true (by simp)).raise 0x1A0000 4 (by simp)).item .., ?_, ?_⟩
  · rw [getB, rd_evtItem _ _ _ _ _ _ _ (by decide), getLsbD_rd, getB_raise_other _ _ _ _ _ (by decide) (by decide)]
    exact getB_setB_same _ _ _ _ (by decide)
  · rw [getB, rd_evtItem _ _ _ _ _ _ _ (by decide), getLsbD_rd, getB_raise_same _ _ _ (by decide)]

theorem sweepRearm_early {s : State} {p : Nat} (pause : s.sweepPauseAt = some p) (wait : ltNs s < p + 60000000000) :
    exec .sweepRearm s = .next (settle s) := by
  rw [exec_sweepRearm, sweepRearmOp, pause]
  simp only [if_pos wait]

/-! ### The cache counts (R122) -/

/-- A line of the cache with its count halved. -/
def CLine.halved (x : CLine) : CLine := { x with count := x.count / 2 }

/-- R122: the line `k` halved. -/
def halveLine (s : State) (k : Nat) : State := setCache s k (cacheAt s k).halved

theorem halveCounts_eq (s : State) : halveCounts s = (s.cache.map Prod.fst).foldl halveLine s := rfl

theorem cacheAt_setCache (s : State) (k j : Nat) (x : CLine) : cacheAt (setCache s k x) j = if j = k then x else cacheAt s j := SMap.get_set ..

theorem cacheAt_halveLines (l : List Nat) (once : l.Nodup) (s : State) (k : Nat) :
    cacheAt (l.foldl halveLine s) k = if k ∈ l then (cacheAt s k).halved else cacheAt s k := by
  induction l generalizing s with
  | nil => rfl
  | cons j l ih =>
    obtain ⟨out, once⟩ := List.nodup_cons.1 once
    rw [List.foldl_cons, ih once, halveLine, cacheAt_setCache]
    by_cases h : k = j
    · subst h
      rw [if_neg out, if_pos rfl, if_pos (by simp)]
    · rw [if_neg h]
      simp only [List.mem_cons, h, false_or]

/-- A line that is not listed reads as the empty line, whose count is 0. -/
theorem cacheAt_unlisted {s : State} {k : Nat} (h : k ∉ s.cache.map Prod.fst) : cacheAt s k = CLine.init := by
  have none : s.cache.find? (fun e => e.1 == k) = none := by
    rw [List.find?_eq_none]
    intro e he found
    exact h (List.mem_map.2 ⟨e, he, by simpa using found⟩)
  rw [cacheAt, SMap.get, none]

theorem cacheAt_halveCounts {s : State} (once : (s.cache.map Prod.fst).Nodup) (k : Nat) : cacheAt (halveCounts s) k = (cacheAt s k).halved := by
  rw [halveCounts_eq, cacheAt_halveLines _ once]
  split
  · rfl
  · rename_i out
    rw [cacheAt_unlisted out]
    rfl

theorem halveCounts_only (s : State) : halveCounts s = { s with cache := (halveCounts s).cache } := by
  rw [halveCounts_eq]
  generalize s.cache.map Prod.fst = l
  induction l generalizing s with
  | nil => rfl
  | cons k l ih => rw [List.foldl_cons, ih]; rfl

theorem exec_cacheCountHalving (s : State) : exec .cacheCountHalving s = .next (settle (halveCounts s)) := rfl

theorem halveCounts_frame (s : State) : ImageFrame s (halveCounts s) ∧ (halveCounts s).slots = s.slots ∧ (halveCounts s).regs = s.regs := by
  rw [halveCounts_only]; exact ⟨rfl, rfl, rfl⟩

/-! ### Housekeeping (R120) -/

theorem exec_housekeepingWrite (i : Fin 64) (v : BitVec 64) (s : State) : exec (.housekeepingWrite i v) s = .next (settle (houseWrite s i.val v)) := rfl

/-- A slot after an update in LIVE (R104). -/
def updatedSlot (x : Slot) (v : BitVec 64) (stamp : Nat) : Slot := { value := v, stamp := BitVec.ofNat 32 stamp, status := 0x11, gen := x.gen + 1 }

/-- R104, R120, R162: an update that is authentic and nothing more, in LIVE. -/
theorem updateSlot_auth {s : State} {g : Nat} (v : BitVec 64) (live : segMode s g = 0) :
    ∃ a, updateSlot s g v false false true false = (a, true) ∧ Imaged s a ∧
      ∀ k, slotAt a k = if k = g then updatedSlot (slotAt s g) v (pairStamp s) else slotAt s k :=
  ⟨_, updateSlot_live s g v _ _ _ _ live, changeSlot_imaged .., fun _ => slotAt_changeSlot ..⟩

/-- R120: an index below 4 keeps what was measured, and shows it. -/
theorem houseValue_houseSet (s : State) (i : Nat) (v : BitVec 64) (low : i < 4) : houseValue (houseSet s i v.toNat) i v = houseValue s i v := by
  have meas (a : State) : houseValue a i v = v := by
    have cases : i = 0 ∨ i = 1 ∨ i = 2 ∨ i = 3 := by omega
    rcases cases with rfl | rfl | rfl | rfl <;> rfl
  rw [meas, meas]

theorem housekeeping_spec {i : Fin 64} {s : State} (v : BitVec 64) (ready : imageReady s = true) (listed : houseIdx i.val = true) (power : getF s 0x7000C 1 0 ≤ 1)
    (live : segMode s (gsid (ownVeh s) 63 i.val) = 0) : ∃ a, exec (.housekeepingWrite i v) s = .next (settle a) ∧ ImageFrame s a ∧
      ∀ k, slotAt a k = if k = gsid (ownVeh s) 63 i.val then updatedSlot (slotAt s (gsid (ownVeh s) 63 i.val)) (houseValue s i.val v) (pairStamp s) else slotAt s k := by
  have written (b : State) (hb : b = { s with house := b.house }) (value : houseValue b i.val v = houseValue s i.val v) :
      ∃ a, (if imageReady b && houseIdx i.val && decide (getF b 0x7000C 1 0 ≤ 1) then
          (updateSlot b (gsid (ownVeh b) 63 i.val) (houseValue b i.val v) false false true false).1 else b) = a ∧ ImageFrame s a ∧
        ∀ k, slotAt a k = if k = gsid (ownVeh s) 63 i.val then updatedSlot (slotAt s (gsid (ownVeh s) 63 i.val)) (houseValue s i.val v) (pairStamp s) else slotAt s k := by
    have live : segMode b (gsid (ownVeh b) 63 i.val) = 0 := by rw [hb]; exact live
    have up : imageReady b = true := by rw [hb]; exact ready
    have power : getF b 0x7000C 1 0 ≤ 1 := by rw [hb]; exact power
    obtain ⟨a, update, imaged, slot⟩ := updateSlot_auth (houseValue b i.val v) live
    refine ⟨a, ?_, ?_, fun k => ?_⟩
    · rw [up, listed, decide_eq_true power, update]
      rfl
    · exact ImageFrame.trans (by rw [hb]; rfl) imaged.frame
    · rw [slot, value, hb]
      rfl
  have run : exec (.housekeepingWrite i v) s = .next (settle (houseWrite s i.val v)) := exec_housekeepingWrite i v s
  unfold houseWrite at run
  by_cases low : i.val < 4
  · obtain ⟨a, eq, frame⟩ := written (houseSet s i.val v.toNat) rfl (houseValue_houseSet s i.val v low)
    rw [if_pos low] at run
    exact ⟨a, run.trans (by rw [← eq]), frame⟩
  · obtain ⟨a, eq, frame⟩ := written s rfl rfl
    rw [if_neg low] at run
    exact ⟨a, run.trans (by rw [← eq]), frame⟩

/-! ### Readiness (R126, R127, R142) -/

theorem descRt_openWindow (s : State) (m : SMap DescRt) (j k : Nat) : SMap.get (fun _ => DescRt.init) (openWindow s m j) k =
    if k = j then { SMap.get (fun _ => DescRt.init) m j with last := pairStamp s, acted := false } else SMap.get (fun _ => DescRt.init) m k := SMap.get_set ..

/-- R142: a window that is started, once or more often, starts at the stamp. -/
theorem descRt_openWindow_foldl (s : State) (l : List Nat) (m : SMap DescRt) (k : Nat) : SMap.get (fun _ => DescRt.init) (l.foldl (openWindow s) m) k =
    if k ∈ l then { SMap.get (fun _ => DescRt.init) m k with last := pairStamp s, acted := false } else SMap.get (fun _ => DescRt.init) m k := by
  induction l generalizing m with
  | nil => rfl
  | cons j l ih =>
    rw [List.foldl_cons, ih, descRt_openWindow]
    by_cases h : k = j
    · subst h
      simp
    · simp only [h, if_false, List.mem_cons, false_or]

theorem openWindows_frame (s : State) : ImageFrame s (openWindows s) ∧ (openWindows s).slots = s.slots ∧ (openWindows s).regs = s.regs := ⟨rfl, rfl, rfl⟩

theorem descRt_congr {s t : State} (h : t.desc = s.desc) (j : Nat) : descRt t j = descRt s j := by unfold descRt; rw [h]

theorem tList_congr {s t : State} (h : t.tbl = s.tbl) (c : Nat) : tList t c = tList s c := by unfold tList; rw [h]

theorem descRt_openWindows (s : State) (j : Nat) : descRt (openWindows s) j =
    if j ∈ ((tList s tSdp).filter fun e => sdOp e.2 == 1).map fun e => e.1 then { descRt s j with last := pairStamp s, acted := false } else descRt s j :=
  descRt_openWindow_foldl ..

/-- R126, R142: the image up: ready, and the window of every DECODE descriptor starts. -/
theorem imageUp_spec (s : State) : ImageFrame s (imageUp s) ∧ (imageUp s).slots = s.slots ∧ imageReady (imageUp s) = true ∧ ready (imageUp s) 8 = true ∧
    RegsKept s (imageUp s) [0x14, 0x1A0000] ∧
    ∀ x ∈ tList s 5, sdOp x.2 = 1 → descRt (imageUp s) x.1 = { descRt s x.1 with last := pairStamp s, acted := false } := by
  have stamp : pairStamp (setB (setB s 0x1A0000 0 true) 0x14 8 true) = pairStamp s :=
    pairStamp_congr rfl (by rw [rd_setB, if_neg (by decide), rd_setB, if_neg (by decide)])
  obtain ⟨frame, slots, regs⟩ := openWindows_frame (setB (setB s 0x1A0000 0 true) 0x14 8 true)
  have word (o : Nat) : rd (imageUp s) o = rd (setB (setB s 0x1A0000 0 true) 0x14 8 true) o := rd_congr regs o
  refine ⟨((ImageFrame.setB ..).trans (.setB ..)).trans frame, slots, ?_, ?_, fun o ho => ?_, fun x hx decode => ?_⟩
  · rw [imageReady, getB, word, getLsbD_rd, getB_setB_other _ _ _ _ _ _ (by decide) (by decide), getB_setB_same _ _ _ _ (by decide)]
  · rw [ready, getB, word, getLsbD_rd, getB_setB_same _ _ _ _ (by decide)]
  · simp only [List.mem_cons, List.not_mem_nil, or_false, not_or] at ho
    rw [word, rd_setB, if_neg ho.1, rd_setB, if_neg ho.2]
  · have listed : x.1 ∈ ((tList s tSdp).filter fun e => sdOp e.2 == 1).map fun e => e.1 := List.mem_map.2 ⟨x, List.mem_filter.2 ⟨hx, by simpa using decode⟩, rfl⟩
    have same : tList (setB (setB s 0x1A0000 0 true) 0x14 8 true) tSdp = tList s tSdp := tList_congr rfl _
    have held : descRt (setB (setB s 0x1A0000 0 true) 0x14 8 true) x.1 = descRt s x.1 := descRt_congr rfl _
    rw [imageUp, descRt_openWindows, stamp, same, held, if_pos listed]

theorem exec_imageInitComplete (s : State) : exec .imageInitComplete s = .next (settle (imageInit s)) := rfl

theorem imageInit_runs {s : State} (stage : 3 ≤ s.boot.stage) (dram : ready s 7 = true) (applied : s.boot.todo.contains 9 = false) (normal : s.boot.rescue = false)
    (cold : s.boot.resume = false) (down : imageReady s = false) (power : getF s 0x7000C 1 0 < 2) :
    exec .imageInitComplete s = .next (settle (setB (imageUp s) 0x18 8 false)) := by
  have power : powerState s < 2 := power
  rw [exec_imageInitComplete, imageInit, if_pos (by simp only [decide_eq_true stage, dram, applied, normal, cold, down, decide_eq_true power]; rfl)]

/-- R127: what the resume pass makes of a slot. -/
def Slot.resumed (x : Slot) : Slot := if x.valid then x.marked else x

theorem resumeSlot_spec (s : State) (g : Nat) : ImageFrame s (resumeSlot s g) ∧ ∀ k, slotAt (resumeSlot s g) k = if k = g then (slotAt s g).resumed else slotAt s k := by
  obtain ⟨read, slots⟩ := touch_accessed s g false
  unfold resumeSlot Slot.resumed
  simp only
  split
  · rename_i valid
    refine ⟨((read.trans (changeSlot_imaged ..)).frame.trans (.incC ..)).trans (.raise ..), fun k => ?_⟩
    rw [slotAt_raise, incC_eq, slotAt_wr, slotAt_changeSlot, slotAt_touch, slotAt_touch]
    rfl
  · refine ⟨read.frame, fun k => ?_⟩
    rw [slotAt_touch]
    split
    · rename_i h
      rw [h]
    · rfl

theorem resumePass_frame (s : State) : ImageFrame s (resumePass s) := .foldl _ (fun a g => (resumeSlot_spec a g).1) _ s

theorem slotAt_resumePass (s : State) {g : Nat} (hg : g < 2 ^ 25) : slotAt (resumePass s) g = (slotAt s g).resumed :=
  (slotAt_foldl (fun a g => (resumeSlot_spec a g).2) _ List.nodup_range s g).trans (if_pos (List.mem_range.2 hg))

theorem exec_resumePassComplete (s : State) : exec .resumePassComplete s = .next (settle (imageResume s)) := rfl

/-- The state in which the resume pass begins. -/
def resumeStarted (s : State) : State := { s with boot := { s.boot with resume := false } }

theorem imageResume_runs {s : State} (resume : s.boot.resume = true) (dram : ready s 7 = true) (power : getF s 0x7000C 1 0 < 2) :
    exec .resumePassComplete s = .next (settle (imageUp (resumePass (resumeStarted s)))) := by
  have power : powerState s < 2 := power
  rw [exec_resumePassComplete, imageResume, if_pos (by simp only [resume, dram, decide_eq_true power]; rfl)]
  rfl

/-- R127: the resume pass, and the image up after it. -/
theorem resumePassComplete_spec {s : State} (resume : s.boot.resume = true) (dram : ready s 7 = true) (power : getF s 0x7000C 1 0 < 2) :
    ∃ b, exec .resumePassComplete s = .next (settle b) ∧ ImageFrame (resumeStarted s) b ∧ imageReady b = true ∧ ready b 8 = true ∧
      ∀ g, g < 2 ^ 25 → slotAt b g = (slotAt s g).resumed := by
  obtain ⟨frame, slots, up, dram', -, -⟩ := imageUp_spec (resumePass (resumeStarted s))
  have slot (g : Nat) (hg : g < 2 ^ 25) : slotAt (resumePass (resumeStarted s)) g = (slotAt s g).resumed := slotAt_resumePass (resumeStarted s) hg
  exact ⟨_, imageResume_runs resume dram power, (resumePass_frame _).trans frame, up, dram', fun g hg => (slotAt_congr slots g).trans (slot g hg)⟩

/-! ### The obligation -/

/-- Settles O29: each row is the operation of its rule on the state after what the buddy stream takes; the passes visit each slot once. -/
theorem imageUpkeep : Obligations.ImageUpkeep := by
  unfold Obligations.ImageUpkeep
  refine ⟨fun s g running up unit hg => ?_, fun q data s unit key => ⟨fun running ok => ?_, fun running early => ?_, fun paused => ?_⟩,
    fun s p pause => ⟨fun due => ?_, fun wait => ?_⟩, fun off len s => ?_, fun s once => ?_, fun i v s g hg up listed power live => ?_,
    fun s stage dram applied normal cold down power => ?_, fun s resume dram power => ?_⟩
  · subst hg
    obtain ⟨b, visit, run⟩ := sweeperVisit_spec running up unit
    refine ⟨_, run, (getF_settle ..).trans <| getF_setF_same _ _ _ _ _ (by decide) (by decide) (Nat.mod_lt _ (Nat.two_pow_pos _)), visit.other, visit.frame.memKept, ?_⟩
    have word (o : Nat) (ho : o ≠ 0x1A000C) : rd (settle (setF b 0x1A000C 24 0 ((getF s 0x1A000C 24 0 + 1) % 2 ^ 25))) o = rd b o := by
      rw [rd_settle, rd_setF, if_neg ho]
    rw [slotAt_settle, slotAt_setF, getB, word _ (by decide), word _ (by decide)]
    split
    · rename_i old
      exact visit.aged old
    · rename_i young
      exact visit.young young
  · obtain ⟨t, run, -, disarmed, slots, taken, -⟩ := sweepPause_spec data unit key running
    obtain ⟨off, at_⟩ := taken ok
    exact ⟨t, run, off, at_, disarmed, slots⟩
  · obtain ⟨t, run, -, -, slots, -, refused⟩ := sweepPause_spec data unit key running
    obtain ⟨on, event, at_⟩ := refused early
    exact ⟨t, run, on, event, at_, slots⟩
  · obtain ⟨t, run, -, disarmed, slots, on, pause, from_⟩ := sweepResume_spec data unit key paused
    exact ⟨t, run, on, pause, from_, disarmed, slots⟩
  · obtain ⟨b, run, noted, on, event⟩ := sweepRearm_due pause due
    have eq := congrArg State.sweepPauseAt noted.1
    have eq' := congrArg State.sweepRunFrom noted.1
    refine ⟨_, run, on, event, eq, eq', ?_⟩
    rw [settle_sweepPauseAt, settle_sweepRunFrom, eq, eq']
    exact onlyNoted_of noted
  · exact ⟨_, sweepRearm_early pause wait, onlyNoted_of (.refl s [])⟩
  · obtain ⟨t, run, frame, slots, sends, zeros⟩ := bar4Read_spec off len s
    refine ⟨t, run, slots, frame.memKept, sends, fun down => ?_⟩
    rw [bar4_zeros down] at sends
    exact ⟨sends, zeros down⟩
  · obtain ⟨-, slots, regs⟩ := halveCounts_frame s
    exact ⟨_, exec_cacheCountHalving s, cacheAt_halveCounts once, slots, .of_regs regs _⟩
  · subst hg
    obtain ⟨a, run, -, slot⟩ := housekeeping_spec v up listed power live
    exact ⟨_, run, fun k hk => (slot k).trans (if_neg hk), (slot _).trans (if_pos rfl)⟩
  · obtain ⟨-, slots, up, dram', kept, windows⟩ := imageUp_spec s
    have run := imageInit_runs stage dram applied normal cold down power
    generalize imageUp s = b at *
    refine ⟨_, run, ?_, ?_, slots, windows, ?_⟩
    · exact (getB_setB_other b 0x18 8 false 0x1A0000 0 (by decide) (by decide)).trans up
    · exact (getB_setB_other b 0x18 8 false 0x14 8 (by decide) (by decide)).trans dram'
    · exact (kept.mono (by simp)).wr _ _ (by simp)
  · obtain ⟨b, run, frame, up, dram', slot⟩ := resumePassComplete_spec resume dram power
    exact ⟨_, run, up, dram', congrArg Boot.resume frame.boot, slot⟩

end Sys2Proof.Machine
end

section
/-!
PROOFS. The SIG commands of the mailboxes (R116 to R119, R123, R128, R162, R187, R193): the state in which a command runs, and its answer.
-/
namespace Sys2Proof.Machine

/-! ### A request taken, and its answer (R356, R358, R361) -/

/-- The state in which the command of request `x` runs: in service, its record sent where it changes paired state. -/
structure Taken (s u : State) (m : Nat) (x : MbxReq) : Prop extends Served s u m where
  inSvc : (mbxAt u m).inSvc = some x
  executing : u.bud.executing = s.bud.executing

theorem taken_forward (s : State) (m : Nat) (x : MbxReq) (r : Req) (cmd : Command) : Taken s (forward (take s m x) m x r cmd) m x := by
  have streamed : Streamed (take s m x) (forward (take s m x) m x r cmd) := by
    unfold forward
    split
    · exact budInput_streamed ..
    · exact .refl _
  refine ⟨served_forward s m x r cmd, ?_, streamed.executing⟩
  rw [mbxAt_congr streamed.mbx, take, mbxAt_setMbx, if_pos rfl]

/-- A command of the image, answered OK: it stays in the frame of the image, with `P` of the state and the fields of its response. -/
def Runs (s : State) (m : Nat) (x : MbxReq) (cmd : Command) (P : State → List Byte → Prop) : Prop :=
  ∀ u, Taken s u m x → ∃ a data, cmd u (reqOf m false x) = (a, answerOk data) ∧ ImageFrame u a ∧ P a data

theorem Served.carriers {s u : State} {m : Nat} (h : Served s u m) : CarriersKept s u := by rw [h.eq]; exact ⟨rfl, rfl, rfl, rfl, rfl⟩

theorem Answered.carriers {a b : State} {m : Nat} (h : Answered a b m) : CarriersKept a b := by rw [h.eq]; exact ⟨rfl, rfl, rfl, rfl, rfl⟩

theorem Runs.replies {s : State} {m code : Nat} {x : MbxReq} {cmd : Command} {P : State → List Byte → Prop} (h : Runs s m x cmd P) (asks : Asks s m code x) :
    ∃ a data, P a data ∧ Answered a (cmdRow s m code cmd) m ∧ Replies s (settle (cmdRow s m code cmd)) m x 0 data ∧
      CarriersKept s (settle (cmdRow s m code cmd)) := by
  have taken := taken_forward s m x (reqOf m false x) cmd
  obtain ⟨a, data, run, frame, holds⟩ := h _ taken
  obtain ⟨-, -, -, -, -, -, kept⟩ := id asks
  have lt : ltNs a = ltNs s := by
    unfold ltNs
    rw [frame.time, taken.eq]
  obtain ⟨answered, replies⟩ := cmdRow_spec s m code x cmd a 0 data asks run ((congrArg MbxRt.posted (mbxAt_congr frame.mbx m)).trans taken.posted)
    ((congrArg MbxRt.dropResp (mbxAt_congr frame.mbx m)).trans (taken.dropResp.trans kept)) lt
  exact ⟨a, data, holds, answered, replies, taken.toServed.carriers.trans (frame.carriers.trans answered.carriers)⟩

/-- A command whose response waits leaves the request in service. -/
theorem cmdRow_waits {s a : State} {m code st : Nat} {x : MbxReq} {cmd : Command} {data : List Byte} (asks : Asks s m code x)
    (run : cmd (forward (take s m x) m x (reqOf m false x) cmd) (reqOf m false x) = (a, { status := st, data := data, wait := true })) :
    cmdRow s m code cmd = a := by
  obtain ⟨-, head, named, held, passed, -, -⟩ := asks
  have passed : envelope (take s m x) m (reqOf m false x) = eOk := passed
  unfold cmdRow
  rw [head]
  simp only [named, held, Bool.not_false, Bool.and_true, decide_true, if_true]
  unfold serve
  simp only [passed, ne_eq, not_true_eq_false, if_false, run, if_true]

/-- Checks 4 and 5 of R360 passed. -/
theorem checked_passed {c l : Bool} (hc : c = true) (hl : l = true) (s : State) (body : State × Ans) : checked c l s body = body := by
  rw [checked, hc, hl]; rfl

section
variable {s u : State} {m : Nat} (h : Served s u m)
include h

theorem Served.slots : u.slots = s.slots := by rw [h.eq]
theorem Served.smt : u.smt = s.smt := by rw [h.eq]
theorem Served.passes : u.passes = s.passes := by rw [h.eq]
theorem Served.runs : u.runs = s.runs := by rw [h.eq]
theorem Served.tbl : u.tbl = s.tbl := by rw [h.eq]
theorem Served.event (o b : Nat) (ho : o ≠ 0x80018) : Machine.getB u o b = Machine.getB s o b := by unfold Machine.getB; rw [h.rd o ho]
theorem Served.field (o hi lo : Nat) (ho : o ≠ 0x80018) : Machine.getF u o hi lo = Machine.getF s o hi lo := by unfold Machine.getF; rw [h.rd o ho]
theorem Served.slotAt (g : Nat) : slotAt u g = slotAt s g := slotAt_congr h.slots g
theorem Served.tGet (c i : Nat) : tGet u c i = tGet s c i := tGet_congr h.tbl c i
theorem Served.ownVeh : ownVeh u = ownVeh s := h.field _ _ _ (by decide)
theorem Served.imageReady : imageReady u = imageReady s := h.event _ _ (by decide)
theorem Served.owned (c : Nat) : owned u c = owned s c := by rw [h.eq]; rfl
theorem Served.segOwner (g : Nat) : segOwner u g = segOwner s g := by rw [h.eq]; rfl
theorem Served.segMode (g : Nat) : segMode u g = segMode s g := by unfold Machine.segMode; rw [h.smt]

/-- R127, R128: the SIG commands are served. -/
theorem Served.sigBars (up : Machine.imageReady s = true) (unit : budMode s ≠ 2) : sigBars u = false := by
  rw [Machine.sigBars, h.imageReady, up, h.budBars unit]; rfl

/-- R30, R527: C0 and the owners of the segments named. -/
theorem Served.gsidComp (r : Req) (gs : List Nat) (act : ∀ g ∈ gs, mayAct r.comp (Machine.segOwner s (gSeg g)) = true) : gsidComp u r gs = true := by
  refine List.all_eq_true.2 fun g hg => ?_
  rw [h.segOwner, act g hg, Bool.or_true]

end

theorem Taken.pairStamp {s u : State} {m : Nat} {x : MbxReq} (h : Taken s u m x) : pairStamp u = pairStamp s := pairStamp_congr h.executing (h.rd _ (by decide))

section
variable {a b : State} {m : Nat} (h : Answered a b m)
include h

theorem Answered.slots : (settle b).slots = a.slots := by rw [settle_slots, h.eq]
theorem Answered.runs : (settle b).runs = a.runs := by rw [settle_runs, h.eq]
theorem Answered.mir : (settle b).mir = a.mir := by rw [settle_mir, h.eq]
theorem Answered.word (o : Nat) (ho : o < 0x30000 ∨ 0x3A000 ≤ o) : Machine.rd (settle b) o = Machine.rd a o := (rd_settle ..).trans (h.rd o ho)
theorem Answered.bit (o k : Nat) (ho : o < 0x30000 ∨ 0x3A000 ≤ o) : getB (settle b) o k = getB a o k := by unfold getB; rw [h.word o ho]
theorem Answered.ownVeh : ownVeh (settle b) = ownVeh a := by unfold Machine.ownVeh getF; rw [h.word _ (by decide)]

end

/-! ### Visibility and pins (R123, R128) -/

/-- Checks 4 and 5 of a command for C0 alone, with fields of one size (R360). -/
theorem mask_passes {x : MbxReq} {m n : Nat} (c0 : leAt x.hdr 4 1 = 0) (size : leAt x.hdr 6 2 = n) (u : State) (body : State × Ans) :
    checked ((reqOf m false x).comp == 0) ((reqOf m false x).len == n) u body = body := checked_passed (beq_iff_eq.2 c0) (beq_iff_eq.2 size) u body

theorem cmdSetVisibility_runs {s : State} {m : Mbx} {x : MbxReq} (up : imageReady s = true) (unit : budMode s ≠ 2) (c0 : leAt x.hdr 4 1 = 0)
    (size : leAt x.hdr 6 2 = 8) : Runs s m x cmdSetVisibility fun a data => data = [] ∧ a.slots = s.slots ∧
      rd a 0x1A0018 = BitVec.ofNat 32 (leAt x.fields 0 8) ∧ rd a 0x1A001C = BitVec.ofNat 32 (leAt x.fields 0 8 / 2 ^ 32) := by
  intro u hu
  refine ⟨setMask u 0x1A0018 (leAt x.fields 0 8), [], ?_, rfl, rfl, hu.slots, ?_, rd_wr_same ..⟩
  · simp only [cmdSetVisibility, mask_passes c0 size, hu.sigBars up unit, Bool.false_eq_true, if_false]
    rfl
  · exact (rd_wr_ne _ _ _ _ (by decide)).trans (rd_wr_same ..)

/-- R123: pinning a segment accesses its slots, and changes none. -/
theorem pinLoad_accessed (s : State) (seg : Nat) : Accessed s (pinLoad s seg) := by
  refine .foldl _ (fun a i => ?_) _ s
  split
  · exact .refl a
  · exact touch_accessed ..

theorem setPins_accessed (s : State) (v : Nat) : Accessed (setMask s 0x1A0020 v) (setPins s v) := .foldl _ pinLoad_accessed _ _

theorem cmdSetPin_runs {s : State} {m : Mbx} {x : MbxReq} (up : imageReady s = true) (unit : budMode s ≠ 2) (c0 : leAt x.hdr 4 1 = 0)
    (size : leAt x.hdr 6 2 = 8) (few : bitCount (leAt x.fields 0 8) 64 ≤ 12) : Runs s m x cmdSetPin fun a data => data = [] ∧ a.slots = s.slots ∧
      rd a 0x1A0020 = BitVec.ofNat 32 (leAt x.fields 0 8) ∧ rd a 0x1A0024 = BitVec.ofNat 32 (leAt x.fields 0 8 / 2 ^ 32) := by
  intro u hu
  have mask : (reqOf m false x).at 0 8 = leAt x.fields 0 8 := rfl
  obtain ⟨loaded, slots⟩ := setPins_accessed u (leAt x.fields 0 8)
  refine ⟨setPins u (leAt x.fields 0 8), [], ?_, ImageFrame.trans (a := setMask u 0x1A0020 (leAt x.fields 0 8)) rfl loaded.frame, rfl, slots.trans hu.slots, ?_, ?_⟩
  · simp only [cmdSetPin, mask_passes c0 size, hu.sigBars up unit, mask, Nat.not_lt.2 few, Bool.false_eq_true, if_false]
  · exact (loaded.rd _ (by decide)).trans ((rd_wr_ne _ _ _ _ (by decide)).trans (rd_wr_same ..))
  · exact (loaded.rd _ (by decide)).trans (rd_wr_same ..)

/-! ### Slots read and presence (R128, R193) -/

theorem cmdReadSlots_runs {s : State} {m : Mbx} {x : MbxReq} (up : imageReady s = true) (some_ : 1 ≤ leAt x.fields 0 2) (most : leAt x.fields 0 2 ≤ 64)
    (size : leAt x.hdr 6 2 = 4 + 4 * leAt x.fields 0 2)
    (named : ∀ g ∈ gsidsOf (reqOf m false x), g < 2 ^ 25 ∧ mayAct (leAt x.hdr 4 1) (segOwner s (gSeg g)) = true) : Runs s m x cmdReadSlots fun a data =>
      data = ((gsidsOf (reqOf m false x)).flatMap fun g => slotBytes (slotAt s g)) ∧ a.slots = s.slots := by
  intro u hu
  have count : (reqOf m false x).at 0 2 = leAt x.fields 0 2 := rfl
  have comp := hu.gsidComp (reqOf m false x) (gsidsOf (reqOf m false x)) fun g hg => (named g hg).2
  have fits : (decide (4 ≤ (reqOf m false x).len) && (reqOf m false x).len == 4 + 4 * leAt x.fields 0 2) = true := by
    have len : (reqOf m false x).len = 4 + 4 * leAt x.fields 0 2 := size
    rw [len]
    simp
  have inRange : (gsidsOf (reqOf m false x)).any (fun g => decide (g ≥ 2 ^ 25)) = false := by
    refine List.any_eq_false.2 fun g hg => ?_
    have := (named g hg).1
    simp only [decide_eq_true_eq]
    omega
  have judged : (decide (leAt x.fields 0 2 = 0) || decide (leAt x.fields 0 2 > 64) || (gsidsOf (reqOf m false x)).any fun g => decide (g ≥ 2 ^ 25)) = false := by
    rw [inRange, decide_eq_false (by omega), decide_eq_false (by omega)]
    rfl
  obtain ⟨read, slots⟩ := touches_accessed u (gsidsOf (reqOf m false x))
  refine ⟨_, (gsidsOf (reqOf m false x)).flatMap fun g => slotBytes (slotAt u g), ?_, read.frame, ?_, slots.trans hu.slots⟩
  · simp only [cmdReadSlots, count, checked_passed comp fits, hu.imageReady, up, judged, Bool.not_true, Bool.false_eq_true, if_false]
  · simp only [hu.slotAt]

/-- The registers of presence read as they stand. -/
theorem regBytes_presence (u : State) : regBytes u (wordsFrom 0x1A2028 4 ++ [0x1A2014, 0x1A2018]) =
    [0x1A2028, 0x1A202C, 0x1A2030, 0x1A2034, 0x1A2014, 0x1A2018].flatMap fun o => leBytes 4 (rd u o).toNat := rfl

theorem cmdGetPresence_runs {s : State} {m : Mbx} {x : MbxReq} (size : leAt x.hdr 6 2 = 0) : Runs s m x cmdGetPresence fun a data =>
    data = ([0x1A2028, 0x1A202C, 0x1A2030, 0x1A2034, 0x1A2014, 0x1A2018].flatMap fun o => leBytes 4 (rd s o).toNat) ++ [BitVec.ofNat 8 (ownVeh s), 0, 0, 0] ∧
      a.slots = s.slots := by
  intro u hu
  have word (o : Nat) (ho : o ≠ 0x80018) := hu.rd o ho
  refine ⟨u, _, checked_passed rfl (beq_iff_eq.2 size) _ _, .refl u, ?_, hu.slots⟩
  rw [regBytes_presence, hu.ownVeh]
  simp only [List.flatMap_cons, List.flatMap_nil, word _ (by decide : (0x1A2028 : Nat) ≠ 0x80018), word _ (by decide : (0x1A202C : Nat) ≠ 0x80018),
    word _ (by decide : (0x1A2030 : Nat) ≠ 0x80018), word _ (by decide : (0x1A2034 : Nat) ≠ 0x80018), word _ (by decide : (0x1A2014 : Nat) ≠ 0x80018),
    word _ (by decide : (0x1A2018 : Nat) ≠ 0x80018)]
  rfl

/-! ### Writes to the host group (R149, R162) -/

theorem RegsOnly.slots {s a : State} (h : RegsOnly s a) : a.slots = s.slots := by rw [h]
theorem RegsOnly.executing {s a : State} (h : RegsOnly s a) : a.bud.executing = s.bud.executing := by rw [h]

theorem setPoolUse_only (s : State) (p u : Nat) : RegsOnly s (setPoolUse s p u) := ((RegsOnly.refl s).setF _ _ _ _).setF _ _ _ _

theorem rd_setPoolUse (s : State) (p u o : Nat) (ho : o ≠ poolUseR p) : rd (setPoolUse s p u) o = rd s o := (rd_wr_ne _ _ _ _ ho).trans (rd_wr_ne _ _ _ _ ho)

/-- R150: the use of a pool, and its copies, are apart from slots and stamp. -/
theorem poolTake_spec (s : State) (p n kind src : Nat) :
    ImageFrame s (poolTake s p n kind src) ∧ (poolTake s p n kind src).slots = s.slots ∧ pairStamp (poolTake s p n kind src) = pairStamp s := by
  have only := setPoolUse_only s p (poolUse s p + poolEntries n)
  have word := rd_setPoolUse s p (poolUse s p + poolEntries n) 0x1A0010 (by unfold poolUseR; omega)
  unfold poolTake
  generalize setPoolUse s p (poolUse s p + poolEntries n) = b at *
  exact ⟨only.frame.trans rfl, only.slots, pairStamp_congr only.executing word⟩

theorem copyDone_frame (s : State) (c : Nat) : ImageFrame s (copyDone s c) ∧ (copyDone s c).slots = s.slots := by
  unfold copyDone
  simp only
  split
  · have only := setPoolUse_only (setCopy s c PoolCopy.init) (copyAt s c).pool (poolUse s (copyAt s c).pool - (copyAt s c).entries)
    have copied : ImageFrame s (setCopy s c PoolCopy.init) := rfl
    exact ⟨copied.trans only.frame, only.slots⟩
  · exact ⟨rfl, rfl⟩

/-- R149, R150, R162: a local host write that finds room in its pool, to a slot in LIVE. -/
theorem hostWritePooled_spec {s : State} {p : Nat} {r : RwRec} (room : poolFits s p 8 = true) (live : segMode s r.g = 0) :
    ∃ a, hostWritePooled s p r = (a, some true) ∧ ImageFrame s a ∧
      ∀ k, slotAt a k = if k = r.g then updatedSlot (slotAt s r.g) r.value (pairStamp s) else slotAt s k := by
  obtain ⟨taken, slots, stamp⟩ := poolTake_spec s p 8 3 0xFFFFFFFF
  have live : segMode (poolTake s p 8 3 0xFFFFFFFF) r.g = 0 := live
  obtain ⟨b, update, imaged, slot⟩ := updateSlot_auth r.value live
  obtain ⟨done, kept⟩ := copyDone_frame b s.copyNext
  refine ⟨copyDone b s.copyNext, ?_, taken.trans (imaged.frame.trans done), fun k => ?_⟩
  · simp only [hostWritePooled, hostWriteLocal, room, if_true, update]
  · rw [slotAt_congr kept, slot, slotAt_congr slots, slotAt_congr slots, stamp]

/-- R162: a request of 20 bytes holds one record. -/
theorem hgRecs_one {r : Req} (size : r.len = 20) : hgRecs r = [{ g := r.at 4 4, value := BitVec.ofNat 64 (r.at 12 8) }] := by rw [hgRecs, size]; rfl

/-- R162: one record for the own vehicle. -/
theorem cmdWriteHg_runs {s : State} {m : Mbx} {x : MbxReq} {g : Nat} (up : imageReady s = true) (unit : budMode s ≠ 2) (size : leAt x.hdr 6 2 = 20)
    (one : leAt x.fields 0 2 = 1) (hg : g = leAt x.fields 4 4) (range : g < 2 ^ 25) (low : 56 ≤ gSeg g) (high : gSeg g ≤ 59) (own : gVeh g = ownVeh s)
    (act : mayAct (leAt x.hdr 4 1) (segOwner s (gSeg g)) = true) (live : segMode s g = 0) (room : poolFits s 12 8 = true) :
    Runs s m x cmdWriteHg fun a data => data = [1, 0, 0, 0] ∧
      ∀ k, slotAt a k = if k = g then updatedSlot (slotAt s g) (BitVec.ofNat 64 (leAt x.fields 12 8)) (pairStamp s) else slotAt s k := by
  subst hg
  intro u hu
  have count : (reqOf m false x).at 0 2 = 1 := one
  have len : (reqOf m false x).len = 20 := size
  have recs : hgRecs (reqOf m false x) = [{ g := leAt x.fields 4 4, value := BitVec.ofNat 64 (leAt x.fields 12 8) }] := hgRecs_one size
  have comp := hu.gsidComp (reqOf m false x) [leAt x.fields 4 4] fun g hg => by rw [List.mem_singleton.1 hg]; exact act
  have room : poolFits u 12 8 = true := by
    rw [← room]
    unfold poolFits poolUse poolSize
    rw [hu.field _ _ _ (by decide), hu.field _ _ _ (by decide)]
  have seg : hgSeg (leAt x.fields 4 4) = true := by rw [hgSeg, decide_eq_true range, decide_eq_true low, decide_eq_true high]; rfl
  rw [← hu.segMode] at live
  obtain ⟨a, write, frame, slot⟩ := hostWritePooled_spec (r := ⟨leAt x.fields 4 4, BitVec.ofNat 64 (leAt x.fields 12 8)⟩) room live
  refine ⟨a, [1, 0, 0, 0], ?_, frame, rfl, fun k => ?_⟩
  · simp only [cmdWriteHg, recs, count, len, List.map_cons, List.map_nil, comp, hu.sigBars up unit, List.all_cons, List.all_nil, seg,
      List.filter_cons, List.filter_nil, hu.ownVeh, own, hgLocal, List.foldl_cons, List.foldl_nil, bne_self_eq_false, beq_self_eq_true, if_true, write, Bool.false_eq_true, if_false,
      List.map_nil, List.eraseDups_nil, List.foldl_nil]
    rfl
  · rw [slot, hu.slotAt, hu.slotAt, hu.pairStamp]

/-! ### Derivation runs (R145, R162) -/

/-- The run that a firing of DST entry `i` asks for. -/
def runAsked (s : State) (i : Nat) : Run :=
  { dst := i, started := false, descs := (List.range (dsCount (tGet s 8 i))).map (fun k => dsFirst (tGet s 8 i) + k), reads := none }

/-- R145: an entry that fires while none of its runs waits. -/
theorem dstFire_asks {s : State} {i : Nat} (on : getB s 0x1A1008 0 = true) (trig : dsTrig (tGet s 8 i) ≠ 0) (none_ : ∀ r ∈ s.runs, r.dst = i → r.started = true) :
    dstFire s i = { s with runs := s.runs ++ [runAsked s i] } := by
  have waits : (s.runs.any fun r => r.dst == i && !r.started) = false := by
    refine List.any_eq_false.2 fun r hr => ?_
    simp only [Bool.and_eq_true, beq_iff_eq, Bool.not_eq_true', not_and, Bool.not_eq_false]
    exact none_ r hr
  simp only [dstFire, show tDst = 8 from rfl, trig, on, waits, Bool.not_true, decide_false, Bool.or_self, Bool.false_eq_true, if_false]
  rfl

theorem cmdRunDerive_runs {s : State} {m : Mbx} {x : MbxReq} {i : Nat} (up : imageReady s = true) (unit : budMode s ≠ 2) (size : leAt x.hdr 6 2 = 4)
    (hi : i = leAt x.fields 0 2) (range : i ≤ 255) (act : mayAct (leAt x.hdr 4 1) (owned s (dsComp (tGet s 8 i))) = true) (on : getB s 0x1A1008 0 = true)
    (trig : dsTrig (tGet s 8 i) ≠ 0) (none_ : ∀ r ∈ s.runs, r.dst = i → r.started = true) :
    Runs s m x cmdRunDerive fun a data => data = [] ∧ a.slots = s.slots ∧ a.runs = s.runs ++ [runAsked s i] := by
  subst hi
  intro u hu
  have entry : (reqOf m false x).at 0 2 = leAt x.fields 0 2 := rfl
  have comp : dstComp u (reqOf m false x) = true := by
    have act : mayAct (reqOf m false x).comp (owned s (dsComp (tGet s tDst ((reqOf m false x).at 0 2)))) = true := act
    rw [dstComp, hu.tGet, hu.owned, act, Bool.or_true]
  have size : ((reqOf m false x).len == 4) = true := beq_iff_eq.2 size
  rw [← hu.event _ _ (by decide)] at on
  rw [← hu.tGet] at trig
  rw [← hu.runs] at none_
  have asked : runAsked u (leAt x.fields 0 2) = runAsked s (leAt x.fields 0 2) := by unfold runAsked; rw [hu.tGet]
  refine ⟨{ u with runs := u.runs ++ [runAsked u (leAt x.fields 0 2)] }, [], ?_, rfl, rfl, hu.slots, ?_⟩
  · rw [cmdRunDerive, checked_passed comp size, entry, on, hu.sigBars up unit, if_neg (by decide), if_neg (by omega), show tDst = 8 from rfl, if_neg trig, dstFire_asks on trig none_]
  · rw [asked, ← hu.runs]

/-! ### The consist (R187) -/

theorem Noted.item_to {s a : State} {l : List Nat} (h : Noted s a l) {j : Nat} (hj : j < 64) (ty src : Nat) (pay : List Byte) : Noted s (itemTo a j ty src pay) l := by
  obtain ⟨r, x, h', e, kept⟩ := jnlPut_only a j ty (stampNow a) src pay hj
  rw [itemTo, e]
  exact h.trans ⟨rfl, fun o _ ho => kept o ho⟩

theorem Noted.foldl {α : Type} {l : List Nat} (f : State → α → State) (xs : List α) (hf : ∀ a, ∀ x ∈ xs, Noted a (f a x) l) (s : State) : Noted s (xs.foldl f s) l := by
  induction xs generalizing s with
  | nil => exact .refl s l
  | cons x xs ih => exact (hf s x (by simp)).trans (ih (fun a y hy => hf a y (by simp [hy])) _)

theorem Noted.mono {s a : State} {l l' : List Nat} (h : Noted s a l) (sub : ∀ o ∈ l, o ∈ l') : Noted s a l' :=
  ⟨h.1, fun o ho hk => h.2 o (fun e => ho (sub o e)) hk⟩

/-- The gateway's state may be another on both sides. -/
theorem Noted.withMir {s a : State} {l : List Nat} (h : Noted s a l) (x : Mir) : Noted { s with mir := x } { a with mir := x } l := by
  obtain ⟨eq, kept⟩ := h
  exact ⟨by rw [eq], kept⟩

/-- The presence bits and duplicate bits (R187), and the registers that go with them and with remote writes (R182, R189). -/
def presenceWords : List Nat := wordsFrom 0x1A2028 4
def forgottenWords : List Nat := 0x1A2000 :: 0x1A2090 :: presenceWords

/-- R187, step 4: what the gateway keeps. -/
def mirForgotten (s : State) : Mir :=
  { s.mir with rw := [], trk := [], veh := [], pub := (s.mir.pub.map fun e => e.1).foldl freshPub s.mir.pub
               sub := (s.mir.sub.map fun e => e.1).foldl freshSub s.mir.sub
               ttt := (s.mir.ttt.map fun e => e.1).foldl freshTtt s.mir.ttt }

/-- R187, R189: one vehicle gone. -/
def vehicleGone (s : State) (v : Nat) : State := vehItem (raise (setPres s v false) 0x1A2000 1) v 1

theorem vehicleGone_noted (s : State) {v : Nat} (hv : v < 64) : Noted s (vehicleGone s v) forgottenWords := by
  have word : 0x1A2028 + 4 * (v / 32) ∈ forgottenWords := by
    have : v / 32 = 0 ∨ v / 32 = 1 := by omega
    rcases this with h | h <;> rw [h] <;> decide
  exact (((Noted.refl s _).setB _ _ _ word).raise _ _ (by decide)).item ..

theorem rwFail_noted (s : State) (w : RWrite) (cause : Nat) : Noted s (rwFail s w cause) [0x1A2000, 0x1A2090] := by
  unfold rwFail
  have counted : Noted s (incC s 0x1A2090) [0x1A2000, 0x1A2090] := (Noted.refl s _).incC _ (by simp)
  exact ((counted.raise _ _ (by simp)).item_to (Nat.mod_lt _ (by decide)) _ _ _).ite counted

theorem mirForget_eq (s : State) : mirForget s = s.mir.rw.foldl (fun a w => rwFail a w 5)
    (zeroAll { ((List.range 64).filter (presBit s)).foldl vehicleGone s with mir := mirForgotten s } presenceWords) := rfl

/-- R187, step 4: the gateway forgets the consist. -/
theorem mirForget_spec (s : State) : Noted { s with mir := mirForgotten s } (mirForget s) forgottenWords ∧ ∀ o ∈ presenceWords, rd (mirForget s) o = 0 := by
  have gone : Noted s (((List.range 64).filter (presBit s)).foldl vehicleGone s) forgottenWords :=
    .foldl _ _ (fun a v hv => vehicleGone_noted a (List.mem_range.1 (List.mem_filter.1 hv).1)) s
  have forgot := gone.withMir (mirForgotten s)
  rw [mirForget_eq]
  generalize ({ ((List.range 64).filter (presBit s)).foldl vehicleGone s with mir := mirForgotten s } : State) = a at forgot
  have zeroed : Noted a (zeroAll a presenceWords) forgottenWords :=
    ⟨by rw [zeroAll_only], fun o ho _ => zeroAll_kept presenceWords a o fun h => ho (List.mem_cons_of_mem _ (List.mem_cons_of_mem _ h))⟩
  have failed : Noted (zeroAll a presenceWords) (s.mir.rw.foldl (fun a w => rwFail a w 5) (zeroAll a presenceWords)) [0x1A2000, 0x1A2090] :=
    .foldl _ _ (fun a w _ => rwFail_noted a w 5) _
  have apart : ∀ o ∈ presenceWords, o ∉ ([0x1A2000, 0x1A2090] : List Nat) ∧ 0x41010 ≤ o := by decide
  refine ⟨forgot.trans (zeroed.trans (failed.mono (by simp [forgottenWords]))), fun o ho => ?_⟩
  obtain ⟨out, high⟩ := apart o ho
  rw [failed.2 o out (.inr high), rd_zeroAll, if_pos ho]

/-- R187, steps 4 and 5: the gateway forgets the consist; then the event and the item. -/
def consistEnded (s : State) (v : Nat) (pay : List Byte) : State := evtItem (raise (mirForget s) 0x1A2000 5) 0x1A2008 3 0x44 v pay

theorem consistEnded_spec (s : State) (v : Nat) (pay : List Byte) : Noted { s with mir := mirForgotten s } (consistEnded s v pay) forgottenWords ∧
    (∀ o ∈ presenceWords, rd (consistEnded s v pay) o = 0) ∧ getB (consistEnded s v pay) 0x1A2000 5 = true := by
  obtain ⟨forgot, zero⟩ := mirForget_spec s
  have word (o : Nat) (high : 0x41010 ≤ o) : rd (consistEnded s v pay) o = rd (raise (mirForget s) 0x1A2000 5) o := rd_evtItem _ _ _ _ _ _ _ (.inr high)
  have apart : ∀ o ∈ presenceWords, o ≠ 0x1A2000 ∧ 0x41010 ≤ o := by decide
  refine ⟨(forgot.raise _ _ (by decide)).item .., fun o ho => ?_, ?_⟩
  · obtain ⟨ne, high⟩ := apart o ho
    rw [word o high, rd_raise, if_neg ne, zero o ho]
  · rw [getB, word _ (by decide)]
    exact getB_raise_same _ _ _ (by decide)

/-- R187, step 2: the slots and the modes of the own vehicle under its new number. -/
def vehicleMoved (s : State) (v : Nat) : State :=
  if v = ownVeh s then s else houseAdd { s with slots := copyVehicle s.slots (ownVeh s) v, smt := moveModes s.smt (ownVeh s) v } 1049 (2 ^ 19)

/-- R187, steps 2 and 3: the image of the new consist. -/
def consistImage (s : State) (v : Nat) (keep : Bool) : State :=
  if keep then vehicleMoved s v else houseAdd { vehicleMoved s v with slots := onlyVehicle (vehicleMoved s v).slots v } 1049 (63 * 2 ^ 19)

/-- R187: the vehicle and the consist named. -/
def consistNamed (s : State) (v etb op : Nat) : State := wr (wr (setF s 0x1A2010 5 0 v) 0x1A2014 (BitVec.ofNat 32 etb)) 0x1A2018 (BitVec.ofNat 32 op)

theorem consistNamed_spec (s : State) {v : Nat} (hv : v ≤ 63) (etb op : Nat) : RegsOnly s (consistNamed s v etb op) ∧ ownVeh (consistNamed s v etb op) = v ∧
    rd (consistNamed s v etb op) 0x1A2014 = BitVec.ofNat 32 etb ∧ rd (consistNamed s v etb op) 0x1A2018 = BitVec.ofNat 32 op := by
  refine ⟨rfl, ?_, (rd_wr_ne _ _ _ _ (by decide)).trans (rd_wr_same ..), rd_wr_same ..⟩
  unfold ownVeh getF consistNamed
  rw [rd_wr_ne _ _ _ _ (by decide), rd_wr_ne _ _ _ _ (by decide)]
  exact getF_setF_same _ _ _ _ _ (by decide) (by decide) (by omega)

theorem setConsist_eq (s : State) (v : Nat) (keep : Bool) (etb op : Nat) : setConsist s v keep etb op =
    consistEnded (consistNamed (consistImage s v keep) v etb op) v ([BitVec.ofNat 8 (ownVeh s), BitVec.ofNat 8 (bnat keep), 0, 0] ++ leBytes 4 etb) := rfl

theorem ImageFrame.slots_smt (s : State) (m : SMap Slot) (p : SMap Nat) (i n : Nat) : ImageFrame s (houseAdd { s with slots := m, smt := p } i n) := rfl
theorem ImageFrame.slots_only (s : State) (m : SMap Slot) (i n : Nat) : ImageFrame s (houseAdd { s with slots := m } i n) := rfl

theorem vehicleMoved_frame (s : State) (v : Nat) : ImageFrame s (vehicleMoved s v) := (ImageFrame.refl s).ite (.slots_smt ..)

theorem consistImage_frame (s : State) (v : Nat) (keep : Bool) : ImageFrame s (consistImage s v keep) :=
  have moved := vehicleMoved_frame s v
  moved.ite (moved.trans (.slots_only ..))

theorem consistImage_keeps (s : State) : consistImage s (ownVeh s) true = s := by rw [consistImage, if_pos rfl, vehicleMoved, if_pos rfl]

/-- R187, step 3: no slot of another vehicle is left. -/
theorem onlyVehicle_other {m : SMap Slot} {v g : Nat} (h : g / 2 ^ 19 ≠ v) : SMap.get (fun _ => Slot.init) (onlyVehicle m v) g = Slot.init := by
  have none : (onlyVehicle m v).find? (fun e => e.1 == g) = none := by
    rw [List.find?_eq_none]
    intro e he found
    have own := (List.mem_filter.1 he).2
    rw [beq_iff_eq] at own found
    exact h (found ▸ own)
  rw [SMap.get, none]

theorem consistImage_clears (s : State) {v g : Nat} (range : g < 2 ^ 25) (other : gVeh g ≠ v) : slotAt (consistImage s v false) g = Slot.init := by
  have other : g / 2 ^ 19 ≠ v := by
    unfold gVeh at other
    omega
  exact onlyVehicle_other other

/-- R187: the consist as it then is. -/
theorem setConsist_spec (s : State) {v : Nat} (hv : v ≤ 63) (keep : Bool) (etb op : Nat) : ∃ a, setConsist s v keep etb op = a ∧ ImageFrame s a ∧
    a.slots = (consistImage s v keep).slots ∧ ownVeh a = v ∧ rd a 0x1A2014 = BitVec.ofNat 32 etb ∧ rd a 0x1A2018 = BitVec.ofNat 32 op ∧ a.mir.rw = [] ∧
    (∀ o ∈ presenceWords, rd a o = 0) ∧ getB a 0x1A2000 5 = true := by
  have image := consistImage_frame s v keep
  rw [setConsist_eq]
  generalize consistImage s v keep = i at *
  generalize [BitVec.ofNat 8 (ownVeh s), BitVec.ofNat 8 (bnat keep), 0, 0] ++ leBytes 4 etb = pay
  obtain ⟨named, veh, etb_, op_⟩ := consistNamed_spec i hv etb op
  generalize consistNamed i v etb op = c at *
  obtain ⟨⟨eq, kept⟩, zero, event⟩ := consistEnded_spec c v pay
  generalize consistEnded c v pay = a at *
  have frame : ImageFrame c a := by unfold ImageFrame; rw [eq]
  have slots : a.slots = c.slots := by rw [eq]
  have forgot : a.mir.rw = [] := by rw [eq]; rfl
  have word (o : Nat) (out : o ∉ forgottenWords) (high : 0x41010 ≤ o) : rd a o = rd c o := kept o out (.inr high)
  refine ⟨a, rfl, image.trans (named.frame.trans frame), slots.trans named.slots, ?_, ?_, ?_, forgot, zero, event⟩
  · unfold ownVeh getF at *
    rw [word 0x1A2010 (by decide) (by decide), veh]
  · rw [word 0x1A2014 (by decide) (by decide), etb_]
  · rw [word 0x1A2018 (by decide) (by decide), op_]

theorem cmdSetConsist_runs {s : State} {m : Mbx} {x : MbxReq} {v keep : Nat} (up : imageReady s = true) (unit : budMode s ≠ 2) (c0 : leAt x.hdr 4 1 = 0)
    (size : leAt x.hdr 6 2 = 12) (hv : v = leAt x.fields 0 1) (range : v ≤ 63) (hk : keep = leAt x.fields 1 1) (bit : keep ≤ 1)
    (own : keep = 1 → v = ownVeh s) : Runs s m x cmdSetConsist fun a data => data = [BitVec.ofNat 8 (ownVeh s), 0, 0, 0] ∧
      ownVeh a = v ∧ rd a 0x1A2014 = BitVec.ofNat 32 (leAt x.fields 4 4) ∧ rd a 0x1A2018 = BitVec.ofNat 32 (leAt x.fields 8 4) ∧
      (keep = 1 → a.slots = s.slots) ∧ (keep = 0 → ∀ g, g < 2 ^ 25 → gVeh g ≠ v → slotAt a g = Slot.init) ∧ a.mir.rw = [] ∧
      (∀ o ∈ presenceWords, rd a o = 0) ∧ getB a 0x1A2000 5 = true := by
  intro u hu
  have named : (reqOf m false x).at 0 1 = v := hv.symm
  have kept : (reqOf m false x).at 1 1 = keep := hk.symm
  obtain ⟨a, run, frame, slots, veh, etb, op, rest⟩ := setConsist_spec u range (nbit keep 0) (leAt x.fields 4 4) (leAt x.fields 8 4)
  have judged : (decide (v > 63) || decide (keep > 1) || (nbit keep 0 && v != ownVeh u)) = false := by
    have same : (nbit keep 0 && v != ownVeh u) = false := by
      rcases Nat.le_one_iff_eq_zero_or_eq_one.1 bit with rfl | rfl
      · rfl
      · rw [hu.ownVeh, own rfl, bne_self_eq_false, Bool.and_false]
    rw [same, decide_eq_false (by omega), decide_eq_false (by omega)]
    rfl
  refine ⟨a, [BitVec.ofNat 8 (ownVeh s), 0, 0, 0], ?_, frame, rfl, veh, etb, op, fun h => ?_, fun h g hg other => ?_, rest⟩
  · rw [cmdSetConsist, mask_passes c0 size, hu.sigBars up unit, if_neg (by decide), named, kept, judged, if_neg (by decide), ← run, hu.ownVeh]
    rfl
  · subst h
    rw [slots, own rfl, ← hu.ownVeh, show nbit 1 0 = true from rfl, consistImage_keeps, hu.slots]
  · subst h
    exact (slotAt_congr slots g).trans (consistImage_clears u hg other)

/-! ### A response in any mailbox (R355, R358, R470) -/

/-- What posting a response changes at most: mailboxes, registers, what is sent, and what the service port and the buddy link keep of it. -/
def Mailed (s a : State) : Prop := a = { s with regs := a.regs, mbx := a.mbx, free := a.free, upd := a.upd, bud := a.bud, out := a.out }

theorem Mailed.refl (s : State) : Mailed s s := rfl

theorem Mailed.trans {s a b : State} (h : Mailed s a) (h' : Mailed a b) : Mailed s b := by unfold Mailed at *; rw [h', h]

theorem RegsOnly.mailed {s a : State} (h : RegsOnly s a) : Mailed s a := by
  unfold Mailed
  unfold RegsOnly at h
  rw [h]

theorem spSend_mailed (s : State) (f : List Byte) : Mailed s (spSend s f) := by
  have counted : RegsOnly s (add64 (add64 s (ethR 24 0x110) 1) (ethR 24 0x118) (max 60 f.length + 4)) := RegsOnly.trans (add64_only ..) (add64_only ..)
  unfold spSend
  generalize add64 (add64 s (ethR 24 0x110) 1) (ethR 24 0x118) (max 60 f.length + 4) = a at counted
  exact counted.mailed.trans rfl

theorem svcSend_mailed (s : State) (v : SvcSet) (mac : List Byte) (dst : Nat × Nat) (kind seq : Nat) (body : List Byte) : Mailed s (svcSend s v mac dst kind seq body) := by
  have drawn : Mailed s (fresh s).2 := rfl
  unfold svcSend
  split
  · exact drawn.trans (spSend_mailed ..)
  · exact .refl s

theorem svcRespond_mailed (s : State) (kind : Nat) (resp : List Byte) : Mailed s (svcRespond s kind resp) := by
  have kept : Mailed s { s with upd := { s.upd with resp := some resp } } := rfl
  unfold svcRespond svcAnswer svcAnswerTo
  split
  · split
    · exact kept.trans (svcSend_mailed ..)
    · exact kept.trans (svcSend_mailed ..)
  · exact kept

theorem post_mailed (s : State) (m : Nat) (bs : List Byte) : Mailed s (post s m bs) := by
  have counted : Mailed s (incC s (mbxR m 0x10)) := rfl
  unfold post
  generalize incC s (mbxR m 0x10) = a at counted
  have raised : Mailed s (raise a (mbxR m 4) 0) := counted.trans rfl
  simp only
  split
  · exact raised.trans (svcRespond_mailed ..)
  · split
    · exact raised.trans rfl
    · split
      · exact raised.trans rfl
      · exact counted.trans rfl

theorem flushExpired_mailed (m n : Nat) (s : State) : Mailed s (flushExpired m n s) := by
  induction n generalizing s with
  | zero => exact .refl s
  | succ n ih =>
    unfold flushExpired
    simp only
    split
    · rename_i r rest _
      have queued : Mailed s (setMbx s m { mbxAt s m with queue := rest }) := rfl
      split
      · exact queued.trans ((post_mailed ..).trans (ih _))
      · exact .refl s
    · exact .refl s

theorem respond_mailed (s : State) (m : Nat) (r : Req) (a : Ans) : Mailed s (respond s m r a) := by
  have taken : Mailed s (setMbx s m { mbxAt s m with inSvc := none, dropResp := false }) := rfl
  unfold respond
  simp only
  generalize setMbx s m { mbxAt s m with inSvc := none, dropResp := false } = b at *
  split
  · exact taken.trans (flushExpired_mailed ..)
  · exact taken.trans ((post_mailed ..).trans (flushExpired_mailed ..))

section
variable {s a : State} (h : Mailed s a)
include h

theorem Mailed.passes : a.passes = s.passes := by rw [h]
theorem Mailed.slots : a.slots = s.slots := by rw [h]
theorem Mailed.carriers : CarriersKept s a := by rw [h]; exact ⟨rfl, rfl, rfl, rfl, rfl⟩

end

/-! ### Segment modes and their passes (R116 to R118) -/

theorem passStart_spec {s : State} {p : Nat} (new : Nat) (mbx : Option Mbx) (idle : ∀ y ∈ s.passes, y.pair ≠ p) (free : p ≠ ownVeh s * 64 + 63) :
    ImageFrame s (passStart s p new mbx) ∧ (passStart s p new mbx).slots = s.slots ∧
      (passStart s p new mbx).passes = s.passes ++ [{ pair := p, old := pairMode s p, new := new, mbx := mbx }] ∧
      ∀ k, pairMode (passStart s p new mbx) k = if k = p then new else pairMode s k := by
  have none_ : (s.passes.any fun y => y.pair == p) = false := List.any_eq_false.2 fun y hy => by simpa using idle y hy
  have started : passStart s p new mbx = { s with smt := SMap.set (fun _ => 0) s.smt p new
                                                  passes := s.passes ++ [{ pair := p, old := pairMode s p, new := new, mbx := mbx }] } := by
    simp only [passStart, none_, Bool.false_eq_true, if_false, setPairMode, if_neg free]
  rw [started]
  exact ⟨rfl, rfl, rfl, fun k => SMap.get_set ..⟩

/-- R116, R118: the mode is written, and the request waits in service for the pass. -/
theorem setSegmentMode_spec {s : State} {m : Mbx} {x : MbxReq} {v seg new : Nat} (up : imageReady s = true) (unit : budMode s ≠ 2) (asks : Asks s m 0x0301 x)
    (size : leAt x.hdr 6 2 = 4) (hv : v = leAt x.fields 0 1) (hs : seg = leAt x.fields 1 1) (hn : new = leAt x.fields 2 1) (veh : v ≤ 63) (range : seg ≤ 63)
    (mode : new ≤ 2) (free : ¬ (v = ownVeh s ∧ seg = 63)) (act : mayAct (leAt x.hdr 4 1) (segOwner s seg) = true) :
    ∃ u, Taken s u m x ∧ cmdRow s m 0x0301 cmdSetSegmentMode = passStart u (v * 64 + seg) new (some m) := by
  have taken := taken_forward s m x (reqOf m false x) cmdSetSegmentMode
  refine ⟨_, taken, cmdRow_waits asks (st := eOk) (data := []) ?_⟩
  generalize forward (take s m x) m x (reqOf m false x) cmdSetSegmentMode = u at taken
  have vehicle : (reqOf m false x).at 0 1 = v := hv.symm
  have segment : (reqOf m false x).at 1 1 = seg := hs.symm
  have asked : (reqOf m false x).at 2 1 = new := hn.symm
  have comp : segComp u (reqOf m false x) seg = true := by
    have act : mayAct (reqOf m false x).comp (segOwner s seg) = true := act
    rw [segComp, taken.segOwner, act, Bool.or_true]
  have size : ((reqOf m false x).len == 4) = true := beq_iff_eq.2 size
  have judged : (decide (v > 63) || decide (seg > 63) || decide (new > 2) || (v == ownVeh u && seg == 63)) = false := by
    have own : (v == ownVeh u && seg == 63) = false := by
      rw [taken.ownVeh, Bool.eq_false_iff]
      simpa using free
    rw [own, decide_eq_false (by omega), decide_eq_false (by omega), decide_eq_false (by omega)]
    rfl
  have box : (Fin.ofNat 10 (reqOf m false x).m : Fin 10) = m := Fin.ext (Nat.mod_eq_of_lt m.isLt)
  have async : (reqOf m false x).sync = false := rfl
  rw [cmdSetSegmentMode, vehicle, segment, asked, checked_passed comp size, taken.sigBars up unit, if_neg (by decide), judged, if_neg (by decide), async,
    if_neg (by decide), box]

theorem pairMode_congr {s a : State} (h : a.smt = s.smt) (k : Nat) : pairMode a k = pairMode s k := by unfold pairMode; rw [h]

theorem Served.pairMode {s u : State} {m : Nat} (h : Served s u m) (p : Nat) : pairMode u p = pairMode s p := pairMode_congr h.smt p

/-- R118: what a pass makes of a slot when its pair leaves FROZEN (0) and enters it (1). -/
def Slot.passed (new : Nat) (x : Slot) : Slot :=
  if new = 0 ∧ x.frozen = true then { x.put 6 false with gen := x.gen + 1 }
  else if new = 1 ∧ x.valid = true ∧ x.frozen = false then { x.put 6 true with gen := x.gen + 1 }
  else x

theorem passSlot_imaged (new : Nat) (s : State) (g : Nat) : Imaged s (passSlot new s g) := by
  have read := (touch_imaged s g false).1
  unfold passSlot
  simp only
  split
  · split
    · exact changeSlot_imaged ..
    · exact read
  · split
    · split
      · exact changeSlot_imaged ..
      · exact read
    · exact substSlot_imaged s g

theorem substSlot_other (s : State) (g k : Nat) (h : k ≠ g) : slotAt (substSlot s g) k = slotAt s k := by
  unfold substSlot
  simp only
  split
  · rw [slotAt_changeSlot, if_neg h]
  · split
    · rw [slotAt_changeSlot, if_neg h]
    · exact slotAt_touch ..

theorem slotAt_passSlot_other (new : Nat) (s : State) (g k : Nat) (h : k ≠ g) : slotAt (passSlot new s g) k = slotAt s k := by
  have changed (x : Slot) : slotAt (changeSlot s g x) k = slotAt s k := by rw [slotAt_changeSlot, if_neg h]
  unfold passSlot
  simp only
  split
  · split
    · exact changed _
    · exact slotAt_touch ..
  · split
    · split
      · exact changed _
      · exact slotAt_touch ..
    · exact substSlot_other s g k h

theorem slotAt_passSlot_same {new : Nat} (s : State) (g : Nat) (h : new ≤ 1) : slotAt (passSlot new s g) g = (slotAt s g).passed new := by
  unfold passSlot Slot.passed
  have modes : new = 0 ∨ new = 1 := by omega
  rcases modes with rfl | rfl
  · cases frozen : (slotAt s g).frozen
    · simp [frozen, slotAt_touch]
    · simp [frozen, slotAt_changeSlot]
  · cases valid : (slotAt s g).valid
    · simp [valid, slotAt_touch]
    · cases frozen : (slotAt s g).frozen
      · simp [valid, frozen, slotAt_changeSlot]
      · simp [valid, frozen, slotAt_touch]

theorem slotAt_passSlot {new : Nat} (h : new ≤ 1) (s : State) (g k : Nat) : slotAt (passSlot new s g) k = if k = g then (slotAt s g).passed new else slotAt s k := by
  split
  · rename_i same
    rw [same]
    exact slotAt_passSlot_same s g h
  · rename_i other
    exact slotAt_passSlot_other new s g k other

/-- R110: the slots of a pair. -/
def pairSlots (p : Nat) : List Nat := (List.range 8192).map fun i => p * 8192 + i

theorem mem_pairSlots {p g : Nat} : g ∈ pairSlots p ↔ g / 8192 = p := by
  unfold pairSlots
  rw [List.mem_map]
  constructor
  · rintro ⟨i, hi, rfl⟩
    have := List.mem_range.1 hi
    omega
  · intro h
    exact ⟨g % 8192, List.mem_range.2 (by omega), by omega⟩

theorem pairSlots_nodup (p : Nat) : (pairSlots p).Nodup := List.nodup_range.map fun i j h => by
  have h : p * 8192 + i = p * 8192 + j := h
  omega

theorem passOver_eq (s : State) (p : ModePass) :
    passOver s p = evtItem ((pairSlots p.pair).foldl (passSlot p.new) s) 0x1A0014 0 0x21 p.pair [BitVec.ofNat 8 p.old, BitVec.ofNat 8 p.new] := rfl

/-- R118: a pass reads or changes the slots of its pair. -/
theorem passOver_spec (s : State) (p : ModePass) : ImageFrame s (passOver s p) ∧ (passOver s p).passes = s.passes ∧
    (∀ g, g / 8192 ≠ p.pair → slotAt (passOver s p) g = slotAt s g) ∧
    (p.new ≤ 1 → ∀ g, g / 8192 = p.pair → slotAt (passOver s p) g = (slotAt s g).passed p.new) := by
  have imaged (l : List Nat) : ∀ a, Imaged a (l.foldl (passSlot p.new) a) := by
    induction l with
    | nil => exact .refl
    | cons g l ih => exact fun a => (passSlot_imaged p.new a g).trans (ih _)
  have over_ := imaged (pairSlots p.pair) s
  have other (g : Nat) (h : g / 8192 ≠ p.pair) := slotAt_foldl_other (slotAt_passSlot_other p.new) (pairSlots p.pair) s g (fun e => h (mem_pairSlots.1 e))
  have same (mode : p.new ≤ 1) (g : Nat) (h : g / 8192 = p.pair) :=
    (slotAt_foldl (slotAt_passSlot mode) (pairSlots p.pair) (pairSlots_nodup _) s g).trans (if_pos (mem_pairSlots.2 h))
  rw [passOver_eq]
  generalize (pairSlots p.pair).foldl (passSlot p.new) s = b at *
  obtain ⟨r, j, h, item, -⟩ := evtItem_only b 0x1A0014 0 0x21 p.pair [BitVec.ofNat 8 p.old, BitVec.ofNat 8 p.new]
  rw [item]
  exact ⟨over_.frame.trans rfl, over_.passes, other, same⟩

theorem passNext_none {s : State} {p : Nat} (h : ∀ y ∈ s.passes, y.pair ≠ p) : passNext s p = s := by
  have none_ : (s.passes.find? fun y => y.pair == p) = none := List.find?_eq_none.2 fun y hy => by simpa using h y hy
  rw [passNext, none_]

theorem passAnswer_mailed (s : State) (p : ModePass) : Mailed s (passAnswer s p) := by
  unfold passAnswer
  split
  · exact .refl s
  · split
    · exact .refl s
    · exact respond_mailed ..

/-- R118: the response of the command that waited for the pass. -/
theorem passAnswer_replies {s : State} {p : ModePass} {m : Mbx} {x : MbxReq} (asked : p.mbx = some m) (host : m.val < 8) (inSvc : (mbxAt s m).inSvc = some x)
    (loud : (reqOf m false x).quiet = false) (kept : (mbxAt s m).dropResp = false) : Replies s (settle (passAnswer s p)) m x 0 [BitVec.ofNat 8 p.old, 0, 0, 0] := by
  have answer_ : passAnswer s p = respond s m (reqOf m false x) (modeAns p) := by
    unfold passAnswer
    simp only [asked, inSvc]
  obtain ⟨-, served, posted⟩ := respond_spec s m (reqOf m false x) (modeAns p) host loud kept
  rw [answer_]
  exact ⟨served, posted⟩

theorem modePassOp_eq {s : State} {p : ModePass} {l : List ModePass} (first : s.passes = p :: l) :
    modePassOp s = passNext (passAnswer (passOver { s with passes := l } p) p) p.pair := by
  unfold modePassOp
  rw [first]

/-- R118: the oldest pass completes, and no further one of its pair waits. -/
theorem modePass_spec {s : State} {p : ModePass} {l : List ModePass} (first : s.passes = p :: l) (alone : ∀ y ∈ l, y.pair ≠ p.pair) :
    ∃ b, exec .modePass s = .next (settle (passAnswer b p)) ∧ ImageFrame s b ∧ b.passes = l ∧ (∀ g, g / 8192 ≠ p.pair → slotAt b g = slotAt s g) ∧
      (p.new ≤ 1 → ∀ g, g / 8192 = p.pair → slotAt b g = (slotAt s g).passed p.new) := by
  have begun : ImageFrame s { s with passes := l } := rfl
  obtain ⟨frame, passes, other, same⟩ := passOver_spec { s with passes := l } p
  have run : exec .modePass s = .next (settle (modePassOp s)) := rfl
  rw [run, modePassOp_eq first]
  generalize passOver { s with passes := l } p = b at *
  have passes : b.passes = l := passes
  rw [passNext_none (by rwa [(passAnswer_mailed b p).passes, passes])]
  exact ⟨b, rfl, begun.trans frame, passes, other, same⟩

/-! ### The obligation -/

theorem exec_sigSetSegmentMode (m : Mbx) (s : State) : exec (.sigSetSegmentMode m) s = .next (settle (cmdRow s m 0x0301 cmdSetSegmentMode)) := rfl
theorem exec_sigReadSlots (m : Mbx) (s : State) : exec (.sigReadSlots m) s = .next (settle (cmdRow s m 0x0302 cmdReadSlots)) := rfl
theorem exec_sigSetVisibility (m : Mbx) (s : State) : exec (.sigSetVisibility m) s = .next (settle (cmdRow s m 0x0303 cmdSetVisibility)) := rfl
theorem exec_sigSetPin (m : Mbx) (s : State) : exec (.sigSetPin m) s = .next (settle (cmdRow s m 0x0304 cmdSetPin)) := rfl
theorem exec_sigWriteHg (m : Mbx) (s : State) : exec (.sigWriteHg m) s = .next (settle (cmdRow s m 0x0305 cmdWriteHg)) := rfl
theorem exec_sigRunDerive (m : Mbx) (s : State) : exec (.sigRunDerive m) s = .next (settle (cmdRow s m 0x0306 cmdRunDerive)) := rfl
theorem exec_sigSetConsist (m : Mbx) (s : State) : exec (.sigSetConsist m) s = .next (settle (cmdRow s m 0x0307 cmdSetConsist)) := rfl
theorem exec_sigGetPresence (m : Mbx) (s : State) : exec (.sigGetPresence m) s = .next (settle (cmdRow s m 0x0308 cmdGetPresence)) := rfl

theorem Answered.slotAt {a b : State} {m : Nat} (h : Answered a b m) (k : Nat) : slotAt (settle b) k = slotAt a k := slotAt_congr h.slots k

/-- Settles O30: each command runs on the state in which its request is taken and answers it; the pass visits each slot of its pair once. -/
theorem signalCommands : Obligations.SignalCommands := by
  unfold Obligations.SignalCommands
  refine ⟨fun m s x up unit => ⟨fun v seg new asks size hv hs hn veh range mode free act idle => ?_, fun asks c0 size => ?_, fun asks c0 size few => ?_,
    fun g asks size one hg range low high own act live room => ?_, fun i asks size hi range act on trig idle => ?_, fun asks c0 size same keep => ?_⟩,
    fun m s x => ⟨fun asks up some_ most size named => ?_, fun asks size => ?_⟩, fun s p l first alone range mode => ?_⟩
  · obtain ⟨u, taken, run⟩ := setSegmentMode_spec up unit asks size hv hs hn veh range mode free act
    have idle : ∀ y ∈ u.passes, y.pair ≠ v * 64 + seg := by rwa [taken.passes]
    have entry : v * 64 + seg ≠ ownVeh u * 64 + 63 := by
      rw [taken.ownVeh]
      omega
    obtain ⟨frame, slots, passes, modes⟩ := passStart_spec new (some m) idle entry
    have before (k : Nat) : pairMode u k = pairMode s k := taken.pairMode k
    have box : mbxAt (settle (passStart u (v * 64 + seg) new (some m))) m = mbxAt u m := mbxAt_congr frame.mbx m
    rw [before, taken.passes] at passes
    rw [← run] at *
    exact ⟨_, exec_sigSetSegmentMode m s, (modes _).trans (if_pos rfl), fun k hk => ((modes k).trans (if_neg hk)).trans (before k), passes,
      (congrArg MbxRt.inSvc box).trans taken.inSvc, (congrArg MbxRt.posted box).trans taken.posted, slots.trans taken.slots⟩
  · obtain ⟨a, data, ⟨rfl, slots, low, high⟩, answered, replies, -⟩ := (cmdSetVisibility_runs up unit c0 size).replies asks
    exact ⟨_, exec_sigSetVisibility m s, replies, (answered.word _ (by decide)).trans low, (answered.word _ (by decide)).trans high, answered.slots.trans slots⟩
  · obtain ⟨a, data, ⟨rfl, slots, low, high⟩, answered, replies, -⟩ := (cmdSetPin_runs up unit c0 size few).replies asks
    exact ⟨_, exec_sigSetPin m s, replies, (answered.word _ (by decide)).trans low, (answered.word _ (by decide)).trans high, answered.slots.trans slots⟩
  · obtain ⟨a, data, ⟨rfl, slot⟩, answered, replies, -⟩ := (cmdWriteHg_runs up unit size one hg range low high own act live room).replies asks
    exact ⟨_, exec_sigWriteHg m s, replies, fun k hk => ((answered.slotAt k).trans (slot k)).trans (if_neg hk), ((answered.slotAt g).trans (slot g)).trans (if_pos rfl)⟩
  · obtain ⟨a, data, ⟨rfl, -, runs⟩, answered, replies, -⟩ := (cmdRunDerive_runs up unit size hi range act on trig idle).replies asks
    exact ⟨_, exec_sigRunDerive m s, replies, answered.runs.trans runs⟩
  · have named : ownVeh s ≤ 63 := Nat.le_of_lt_succ (Nat.mod_lt _ (by decide))
    obtain ⟨a, data, ⟨rfl, veh, etb, op, slots, -, forgot, zero, event⟩, answered, replies, -⟩ :=
      (cmdSetConsist_runs up unit c0 size same.symm named keep.symm (le_refl 1) fun _ => rfl).replies asks
    have apart : ∀ o ∈ presenceWords, o < 0x30000 ∨ 0x3A000 ≤ o := by decide
    exact ⟨_, exec_sigSetConsist m s, replies, answered.ownVeh.trans veh, (answered.word _ (by decide)).trans etb, (answered.word _ (by decide)).trans op,
      answered.slots.trans (slots rfl), (congrArg Mir.rw answered.mir).trans forgot, fun o ho => (answered.word o (apart o ho)).trans (zero o ho),
      (answered.bit _ _ (by decide)).trans event⟩
  · obtain ⟨a, data, ⟨rfl, slots⟩, answered, replies, -⟩ := (cmdReadSlots_runs up some_ most size named).replies asks
    exact ⟨_, exec_sigReadSlots m s, replies, answered.slots.trans slots⟩
  · obtain ⟨a, data, ⟨rfl, -⟩, -, replies, -⟩ := (cmdGetPresence_runs size).replies asks
    exact ⟨_, exec_sigGetPresence m s, replies⟩
  · obtain ⟨b, run, frame, passes, other, same⟩ := modePass_spec first alone
    have mailed := passAnswer_mailed b p
    have slot (g : Nat) : slotAt (settle (passAnswer b p)) g = slotAt b g := slotAt_congr ((settle_slots _).trans mailed.slots) g
    refine ⟨_, run, ((settle_passes _).trans mailed.passes).trans passes, fun g hg => (slot g).trans (other g hg), fun g hg => (slot g).trans (same mode g hg),
      fun m x asked host inSvc loud kept => ?_⟩
    have box := mbxAt_congr frame.mbx m
    rw [← box] at inSvc kept
    obtain ⟨served, k, posted⟩ := passAnswer_replies asked host inSvc loud kept
    have stamp : respBytes b (reqOf m false x) { status := 0, data := [BitVec.ofNat 8 p.old, 0, 0, 0], wait := false } =
        respBytes s (reqOf m false x) { status := 0, data := [BitVec.ofNat 8 p.old, 0, 0, 0], wait := false } := by
      unfold respBytes stampNow ltNs
      rw [frame.time]
    rw [box, stamp] at posted
    exact ⟨served, k, posted⟩

end Sys2Proof.Machine
end

section
/-!
PROOFS. The rows of the signal image and the SIG commands leave tables, channels, objects and the payload store alone: each by the frame of its own lemma.
-/
namespace Sys2Proof.Machine

/-- R360: C0 may act for every compartment. -/
theorem mayAct_c0 {c : Nat} (c0 : c = 0) (owner : Nat) : mayAct c owner = true := by rw [c0]; rfl

theorem CarriersKept.settle {s a : State} (h : CarriersKept s a) : CarriersKept s (settle a) := h.trans (ImageFrame.settle a).carriers

/-- R109: a sweeper that has never been paused may be. -/
theorem pauseOk_of_never {s : State} (h : s.sweepRunFrom = none) : pauseOk s = true := by rw [pauseOk, h]

/-- R123: the visible segments are the bits of the two words of the mask. -/
theorem segVisible_of_words {t : State} {v : Nat} (low : rd t 0x1A0018 = BitVec.ofNat 32 v) (high : rd t 0x1A001C = BitVec.ofNat 32 (v / 2 ^ 32)) {i : Nat}
    (hi : i < 64) : segVisible t i = nbit v i := by
  have bit (w : Nat) : (BitVec.ofNat 32 w).getLsbD (i % 32) = w.testBit (i % 32) := by
    rw [BitVec.getLsbD_ofNat, decide_eq_true (Nat.mod_lt i (by decide)), Bool.true_and]
  unfold segVisible getB nbit
  have half : i / 32 = 0 ∨ i / 32 = 1 := by omega
  rcases half with h | h
  · have i_ : i % 32 = i := by omega
    rw [h, low, bit, i_]
  · have i_ : i % 32 + 32 = i := by omega
    rw [h, high, bit, Nat.testBit_div_two_pow, i_]

theorem Slot.updatedSlot_valid (x : Slot) (v : BitVec 64) (stamp : Nat) : (updatedSlot x v stamp).valid = true := by simp [updatedSlot, Slot.valid, Slot.bit]

theorem rearmed_carriers (s : State) : CarriersKept s (rearmed s) ∧ (rearmed s).slots = s.slots := ⟨⟨rfl, rfl, rfl, rfl, rfl⟩, rfl⟩

theorem Noted.slots {s a : State} {l : List Nat} (h : Noted s a l) : a.slots = s.slots := by rw [h.1]

theorem OnlyRegs.carriers {s t : State} {l : List Nat} (h : OnlyRegs s t l) : CarriersKept s t ∧ t.slots = s.slots := by
  obtain ⟨eq, -⟩ := h
  rw [eq]
  exact ⟨⟨rfl, rfl, rfl, rfl, rfl⟩, rfl⟩

/-- Settles O60: the frame of each row's own lemma holds tables, channels, objects and the payload store. -/
theorem imageRowsKeepCarriers : Obligations.ImageRowsKeepCarriers := by
  unfold Obligations.ImageRowsKeepCarriers
  refine ⟨fun s up unit running => ?_, fun q data s unit key => ⟨fun running never => ?_, fun paused => ?_⟩, fun s p pause due => ?_, fun off len s => ?_,
    fun off len s => ?_, fun s once => ?_, fun i v s up listed power live => ?_, fun s stage dram applied normal cold down power => ?_, fun s resume dram power => ?_,
    fun m s x up unit => ⟨fun v seg new asks size hv hs hn veh range mode free c0 idle => ?_, fun k asks count some_ most size c0 range => ?_,
      fun asks c0 size => ?_, fun asks c0 size few => ?_, fun g asks size one hg range low high own c0 live room => ?_,
      fun i asks size hi range c0 on trig idle => ?_, fun v asks c0 size hv range drop => ?_, fun asks size => ?_⟩, fun s p only range => ?_⟩
  · obtain ⟨b, visit, run⟩ := sweeperVisit_spec running up unit
    refine ⟨_, run, (getF_settle ..).trans (getF_setF_same _ _ _ _ _ (by decide) (by decide) (Nat.mod_lt _ (Nat.two_pow_pos _))), ?_⟩
    exact ((visit.frame.trans (.setF ..)).trans (.settle _)).carriers
  · obtain ⟨t, run, frame, -, slots, taken, -⟩ := sweepPause_spec data unit key running
    obtain ⟨off, -⟩ := taken (pauseOk_of_never never)
    exact ⟨t, run, off, frame.carriers, slots⟩
  · obtain ⟨t, run, frame, -, slots, on, -, -⟩ := sweepResume_spec data unit key paused
    exact ⟨t, run, on, frame.carriers, slots⟩
  · obtain ⟨b, run, noted, on, -⟩ := sweepRearm_due pause due
    obtain ⟨kept, slots⟩ := rearmed_carriers s
    exact ⟨_, run, on, (kept.trans noted.frame.carriers).settle, ((settle_slots _).trans noted.slots).trans slots⟩
  · obtain ⟨t, run, frame, slots, sends, -⟩ := bar4Read_spec off len s
    exact ⟨t, run, sends, frame.carriers, slots⟩
  · obtain ⟨t, run, counted, event, only, -⟩ := bar4WriteIsDiscarded off len s
    exact ⟨t, run, counted, event, only.carriers⟩
  · obtain ⟨frame, slots, -⟩ := halveCounts_frame s
    exact ⟨_, exec_cacheCountHalving s, fun k => congrArg CLine.count (cacheAt_halveCounts once k), frame.carriers.settle, (settle_slots _).trans slots⟩
  · obtain ⟨a, run, frame, slot⟩ := housekeeping_spec v up listed power live
    refine ⟨_, run, ?_, frame.carriers.settle⟩
    rw [slotAt_settle, slot, if_pos rfl]
    rfl
  · obtain ⟨frame, slots, ready_, -, -, -⟩ := imageUp_spec s
    have run := imageInit_runs stage dram applied normal cold down power
    generalize imageUp s = b at *
    exact ⟨_, run, (getB_setB_other b 0x18 8 false 0x1A0000 0 (by decide) (by decide)).trans ready_, ((frame.trans (.setB ..)).trans (.settle _)).carriers, slots⟩
  · obtain ⟨b, run, frame, ready_, -, -⟩ := resumePassComplete_spec resume dram power
    have begun : CarriersKept s (resumeStarted s) := ⟨rfl, rfl, rfl, rfl, rfl⟩
    exact ⟨_, run, ready_, congrArg Boot.resume frame.boot, (begun.trans frame.carriers).settle⟩
  · obtain ⟨u, taken, run⟩ := setSegmentMode_spec up unit asks size hv hs hn veh range mode free (mayAct_c0 c0 _)
    have idle : ∀ y ∈ u.passes, y.pair ≠ v * 64 + seg := by simp [taken.passes, idle]
    have entry : v * 64 + seg ≠ ownVeh u * 64 + 63 := by
      rw [taken.ownVeh]
      omega
    obtain ⟨frame, slots, -, modes⟩ := passStart_spec new (some m) idle entry
    rw [← run] at *
    exact ⟨_, exec_sigSetSegmentMode m s, (modes _).trans (if_pos rfl), fun k hk => ((modes k).trans (if_neg hk)).trans (taken.pairMode k),
      (taken.carriers.trans frame.carriers).settle, slots.trans taken.slots⟩
  · subst count
    obtain ⟨a, data, ⟨rfl, slots⟩, answered, replies, kept⟩ :=
      (cmdReadSlots_runs up some_ most size fun g hg => ⟨range g hg, mayAct_c0 c0 _⟩).replies asks
    exact ⟨_, exec_sigReadSlots m s, replies, kept, answered.slots.trans slots⟩
  · obtain ⟨a, data, ⟨-, slots, low, high⟩, answered, -, kept⟩ := (cmdSetVisibility_runs up unit c0 size).replies asks
    exact ⟨_, exec_sigSetVisibility m s, fun i hi => segVisible_of_words ((answered.word _ (by decide)).trans low) ((answered.word _ (by decide)).trans high) hi,
      kept, answered.slots.trans slots⟩
  · obtain ⟨a, data, ⟨-, slots, low, high⟩, answered, -, kept⟩ := (cmdSetPin_runs up unit c0 size few).replies asks
    exact ⟨_, exec_sigSetPin m s, (answered.word _ (by decide)).trans low, (answered.word _ (by decide)).trans high, kept, answered.slots.trans slots⟩
  · obtain ⟨a, data, ⟨-, slot⟩, answered, -, kept⟩ := (cmdWriteHg_runs up unit size one hg range low high own (mayAct_c0 c0 _) live room).replies asks
    have slot := ((answered.slotAt g).trans (slot g)).trans (if_pos rfl)
    exact ⟨_, exec_sigWriteHg m s, congrArg Slot.value slot, (congrArg Slot.valid slot).trans (Slot.updatedSlot_valid ..), kept⟩
  · have none_ : ∀ r ∈ s.runs, r.dst = i → r.started = true := by simp [idle]
    obtain ⟨a, data, ⟨-, slots, runs⟩, answered, -, kept⟩ := (cmdRunDerive_runs up unit size hi range (mayAct_c0 c0 _) on trig none_).replies asks
    refine ⟨_, exec_sigRunDerive m s, ?_, kept, answered.slots.trans slots⟩
    rw [answered.runs, runs, idle]
    rfl
  · obtain ⟨a, data, ⟨-, veh, -, -, -, cleared, -⟩, answered, -, kept⟩ :=
      (cmdSetConsist_runs up unit c0 size hv range drop.symm (Nat.zero_le 1) nofun).replies asks
    exact ⟨_, exec_sigSetConsist m s, answered.ownVeh.trans veh, fun g hg other => (answered.slotAt g).trans (cleared rfl g hg other), kept⟩
  · obtain ⟨a, data, ⟨-, slots⟩, answered, ⟨served, -⟩, kept⟩ := (cmdGetPresence_runs size).replies asks
    exact ⟨_, exec_sigGetPresence m s, served, kept, answered.slots.trans slots⟩
  · obtain ⟨b, run, frame, passes, other, -⟩ := modePass_spec only nofun
    have mailed := passAnswer_mailed b p
    exact ⟨_, run, ((settle_passes _).trans mailed.passes).trans passes, fun g hg => (slotAt_congr ((settle_slots _).trans mailed.slots) g).trans (other g hg),
      (frame.carriers.trans mailed.carriers).settle⟩

end Sys2Proof.Machine
end

section
/-!
PROOFS. The timeout scan (R142, R147): what the action on one DECODE descriptor does, and the scan as one visit after the other.
-/
namespace Sys2Proof.Machine

/-! ### What a scan leaves -/

/-- What a scan leaves, and what its judgement of the windows rests on: the tables, the mark of a scan that waits, the stamp clock, the own vehicle and the start of
every window; the event of a timeout, once up, stays up. -/
structure ScanFrame (s a : State) : Prop where
  tbl : a.tbl = s.tbl
  scanHeld : a.scanHeld = s.scanHeld
  executing : a.bud.executing = s.bud.executing
  now : rd a 0x1A0010 = rd s 0x1A0010
  veh : rd a 0x1A2010 = rd s 0x1A2010
  event : getB s 0x1A1000 2 = true → getB a 0x1A1000 2 = true
  last : ∀ j, (descRt a j).last = (descRt s j).last

theorem ScanFrame.refl (s : State) : ScanFrame s s := ⟨rfl, rfl, rfl, rfl, rfl, id, fun _ => rfl⟩

theorem ScanFrame.trans {s a b : State} (h : ScanFrame s a) (h' : ScanFrame a b) : ScanFrame s b where
  tbl := h'.tbl.trans h.tbl
  scanHeld := h'.scanHeld.trans h.scanHeld
  executing := h'.executing.trans h.executing
  now := h'.now.trans h.now
  veh := h'.veh.trans h.veh
  event up := h'.event (h.event up)
  last j := (h'.last j).trans (h.last j)

/-- A register that the windows do not rest on. -/
theorem scanFrame_wr (s : State) (o : Nat) (w : Word) (ho : o ≠ 0x1A0010 ∧ o ≠ 0x1A2010 ∧ o ≠ 0x1A1000) : ScanFrame s (wr s o w) where
  tbl := rfl
  scanHeld := rfl
  executing := rfl
  now := rd_wr_ne s o _ w ho.1.symm
  veh := rd_wr_ne s o _ w ho.2.1.symm
  event up := (getB_wr_other s o _ 2 w ho.2.2.symm).trans up
  last _ := rfl

theorem Imaged.scanFrame {s a : State} (h : Imaged s a) : ScanFrame s a where
  tbl := h.tbl
  scanHeld := h.scanHeld
  executing := by rw [h.bud]
  now := h.rd _ (by decide)
  veh := h.rd _ (by decide)
  event up := (h.getB _ _ (by decide)).trans up
  last j := by rw [descRt_congr h.desc]

theorem scanFrame_evtItem (s : State) (o lo ty src : Nat) (pay : List Byte) : ScanFrame s (evtItem s o lo ty src pay) where
  tbl := evtItem_tbl ..
  scanHeld := evtItem_scanHeld ..
  executing := by rw [evtItem_bud]
  now := rd_evtItem _ _ _ _ _ _ _ (by decide)
  veh := rd_evtItem _ _ _ _ _ _ _ (by decide)
  event up := by rw [getB, rd_evtItem _ _ _ _ _ _ _ (by decide)]; exact up
  last j := by rw [descRt_congr (evtItem_desc ..)]

/-! ### The action on a slot (TOACT) -/

/-- R142: what TOACT of descriptor `d` does at slot `g`. -/
def toactSlot (s : State) (d : BitVec 768) (g : Nat) : State :=
  if sdToact d = 1 then staleSlot s g else if sdToact d = 2 then timeoutSubst s g else s

theorem staleSlot_other (s : State) (g k : Nat) (h : k ≠ g) : slotAt (staleSlot s g) k = slotAt s k := by
  unfold staleSlot
  simp only
  split
  · rw [slotAt_changeSlot, if_neg h]
  · exact slotAt_touch ..

/-- R117, R142: a substitution at a timeout changes the image, or is suppressed and counted. -/
theorem timeoutSubst_imaged (s : State) (g : Nat) : Imaged s (timeoutSubst s g) ∨ timeoutSubst s g = incC s 0x1A003C := by
  unfold timeoutSubst
  split
  · exact .inl (touch_imaged s g false).1
  · split
    · exact .inl (substSlot_imaged s g)
    · exact .inr rfl

theorem timeoutSubst_other (s : State) (g k : Nat) (h : k ≠ g) : slotAt (timeoutSubst s g) k = slotAt s k := by
  unfold timeoutSubst
  split
  · exact slotAt_touch ..
  · split
    · exact substSlot_other s g k h
    · rfl

theorem toactSlot_imaged (s : State) (d : BitVec 768) (g : Nat) : Imaged s (toactSlot s d g) ∨ toactSlot s d g = incC s 0x1A003C := by
  unfold toactSlot
  split
  · exact .inl (staleSlot_imaged s g)
  · split
    · exact timeoutSubst_imaged s g
    · exact .inl (.refl s)

theorem toactSlot_frame (s : State) (d : BitVec 768) (g : Nat) : ScanFrame s (toactSlot s d g) ∧ (toactSlot s d g).desc = s.desc := by
  rcases toactSlot_imaged s d g with image | counted
  · exact ⟨image.scanFrame, image.desc⟩
  · rw [counted]
    exact ⟨scanFrame_wr s 0x1A003C _ (by decide), rfl⟩

theorem toactSlot_other (s : State) (d : BitVec 768) (g k : Nat) (h : k ≠ g) : slotAt (toactSlot s d g) k = slotAt s k := by
  unfold toactSlot
  split
  · exact staleSlot_other s g k h
  · split
    · exact timeoutSubst_other s g k h
    · rfl

/-! ### The action on a descriptor -/

theorem descRt_setDesc (s : State) (j k : Nat) (x : DescRt) : descRt (setDesc s j x) k = if k = j then x else descRt s k := SMap.get_set ..

/-- The slot of the own vehicle that descriptor `j` names. -/
def namedSlot (s : State) (j : Nat) : Nat := gOwn s (sdGsid (sdpAt s j))

/-- An execution counted, and the descriptor marked as one whose timeout has been acted on. -/
def actedOn (s : State) (j : Nat) : State := setDesc (houseAdd (add64 s 0x1A1100 1) 1048 1) j { descRt s j with acted := true }

/-- The timeout counted, with its event. -/
def timeoutCounted (s : State) : State := raise (incC s 0x1A1118) 0x1A1000 2

theorem timeoutAct_eq (s : State) (j : Nat) : timeoutAct s j =
    evtItem (timeoutCounted (toactSlot (actedOn s j) (sdpAt s j) (namedSlot s j))) 0x1A1008 1 0x32 j
      (leBytes 4 (namedSlot s j) ++ [BitVec.ofNat 8 (sdToact (sdpAt s j))]) := rfl

theorem actedOn_frame (s : State) (j : Nat) : ScanFrame s (actedOn s j) where
  tbl := rfl
  scanHeld := rfl
  executing := rfl
  now := rd_add64 s 0x1A1100 1 _ (by decide) (by decide)
  veh := rd_add64 s 0x1A1100 1 _ (by decide) (by decide)
  event up := by
    have word : rd (actedOn s j) 0x1A1000 = rd s 0x1A1000 := rd_add64 s 0x1A1100 1 _ (by decide) (by decide)
    rw [getB, word]
    exact up
  last k := by
    rw [actedOn, descRt_setDesc]
    split
    · subst_vars; rfl
    · rfl

theorem timeoutCounted_frame (s : State) : ScanFrame s (timeoutCounted s) :=
  (scanFrame_wr s 0x1A1118 _ (by decide)).trans
    ⟨rfl, rfl, rfl, rd_wr_ne _ _ _ _ (by decide), rd_wr_ne _ _ _ _ (by decide), fun _ => getB_raise_same _ _ _ (by decide), fun _ => rfl⟩

theorem timeoutAct_frame (s : State) (j : Nat) : ScanFrame s (timeoutAct s j) := by
  rw [timeoutAct_eq]
  exact ((actedOn_frame s j).trans (toactSlot_frame ..).1).trans ((timeoutCounted_frame _).trans (scanFrame_evtItem ..))

theorem descRt_timeoutAct (s : State) (j k : Nat) : descRt (timeoutAct s j) k = if k = j then { descRt s j with acted := true } else descRt s k := by
  have desc : (timeoutAct s j).desc = (actedOn s j).desc := by
    rw [timeoutAct_eq, evtItem_desc]
    exact (toactSlot_frame ..).2
  rw [descRt_congr desc, actedOn, descRt_setDesc]
  rfl

theorem timeoutAct_other (s : State) (j k : Nat) (h : k ≠ namedSlot s j) : slotAt (timeoutAct s j) k = slotAt s k := by
  rw [timeoutAct_eq, slotAt_congr (evtItem_slots ..)]
  exact toactSlot_other _ _ _ _ h

theorem timeoutAct_event (s : State) (j : Nat) : getB (timeoutAct s j) 0x1A1000 2 = true := by
  rw [timeoutAct_eq]
  exact (scanFrame_evtItem ..).event (getB_raise_same _ _ _ (by decide))

/-! ### A visit -/

/-- R142: `j` is a DECODE descriptor with a timeout, and its window is over. -/
def windowOver (s : State) (j : Nat) : Bool :=
  decide (sdOp (sdpAt s j) = 1 ∧ sdTimeout (sdpAt s j) ≠ 0 ∧ windowAge s j ≥ sdTimeout (sdpAt s j) * 1000)

section
variable {s a : State} (h : ScanFrame s a) (j : Nat)
include h

theorem ScanFrame.sdpAt : sdpAt a j = sdpAt s j := tGet_congr h.tbl ..

theorem ScanFrame.namedSlot : namedSlot a j = namedSlot s j := by
  unfold Machine.namedSlot gOwn ownVeh getF
  rw [h.sdpAt, h.veh]

theorem ScanFrame.windowOver : windowOver a j = windowOver s j := by
  unfold Machine.windowOver windowAge
  rw [h.sdpAt, pairStamp_congr h.executing h.now, h.last]

end

theorem timeoutVisit_eq (s : State) (j : Nat) : timeoutVisit s j = if windowOver s j = true ∧ (descRt s j).acted = false then timeoutAct s j else s := by
  unfold timeoutVisit windowOver
  simp only [decide_eq_true_eq]
  exact if_congr (by tauto) rfl rfl

theorem timeoutVisit_frame (s : State) (j : Nat) : ScanFrame s (timeoutVisit s j) := by
  rw [timeoutVisit_eq]
  split
  · exact timeoutAct_frame s j
  · exact .refl s

theorem acted_timeoutVisit (s : State) (j k : Nat) :
    (descRt (timeoutVisit s j) k).acted = ((descRt s k).acted || (decide (k = j) && windowOver s k)) := by
  rw [timeoutVisit_eq]
  by_cases same : k = j
  · subst same
    cases late : windowOver s k <;> cases acted : (descRt s k).acted <;> simp [acted, descRt_timeoutAct]
  · split <;> simp [descRt_timeoutAct, same]

theorem timeoutVisit_other (s : State) (j k : Nat) (h : k ≠ namedSlot s j) : slotAt (timeoutVisit s j) k = slotAt s k := by
  rw [timeoutVisit_eq]
  split
  · exact timeoutAct_other s j k h
  · rfl

theorem timeoutVisit_event {s : State} {j : Nat} (late : windowOver s j = true) (first : (descRt s j).acted = false) :
    getB (timeoutVisit s j) 0x1A1000 2 = true := by
  rw [timeoutVisit_eq, if_pos ⟨late, first⟩]
  exact timeoutAct_event s j

/-! ### One visit after the other -/

theorem visits_frame (l : List Nat) (s : State) : ScanFrame s (l.foldl timeoutVisit s) := by
  induction l generalizing s with
  | nil => exact .refl s
  | cons j l ih => exact (timeoutVisit_frame s j).trans (ih _)

/-- R142: each descriptor whose window is over has been acted on, and no other, however often the list has it. -/
theorem acted_visits (l : List Nat) (s : State) (k : Nat) :
    (descRt (l.foldl timeoutVisit s) k).acted = ((descRt s k).acted || (decide (k ∈ l) && windowOver s k)) := by
  induction l generalizing s with
  | nil => simp
  | cons j l ih =>
    rw [List.foldl_cons, ih, acted_timeoutVisit, (timeoutVisit_frame s j).windowOver, Bool.or_assoc, ← Bool.and_or_distrib_right, ← Bool.decide_or]
    simp only [List.mem_cons]

theorem visits_other (l : List Nat) (s : State) (g : Nat) (h : ∀ j ∈ l, namedSlot s j ≠ g) : slotAt (l.foldl timeoutVisit s) g = slotAt s g := by
  induction l generalizing s with
  | nil => rfl
  | cons j l ih =>
    obtain ⟨here, rest⟩ := List.forall_mem_cons.1 h
    rw [List.foldl_cons, ih _ fun i hi => by rw [(timeoutVisit_frame s j).namedSlot]; exact rest i hi]
    exact timeoutVisit_other s j g here.symm

/-- The first visit to a descriptor whose window is over raises the event, and later ones leave it up. -/
theorem visits_event {l : List Nat} {s : State} {j : Nat} (hj : j ∈ l) (late : windowOver s j = true) (first : (descRt s j).acted = false) :
    getB (l.foldl timeoutVisit s) 0x1A1000 2 = true := by
  induction l generalizing s with
  | nil => cases hj
  | cons i l ih =>
    by_cases same : j = i
    · subst same
      exact (visits_frame l _).event (timeoutVisit_event late first)
    · refine ih ((List.mem_cons.1 hj).resolve_left same) (((timeoutVisit_frame s i).windowOver j).trans late) ?_
      rw [acted_timeoutVisit, first, decide_eq_false same]
      rfl

/-! ### The row -/

theorem exec_timeoutScan (s : State) : exec .timeoutScan s = .next (settle (timeoutScanOp s)) := rfl

theorem queueUp_congr {s a : State} (carriers : a.carriers = s.carriers) (work2 : a.work2 = s.work2) (comps : a.comps = s.comps) (k : Nat) :
    queueUp a k = queueUp s k := by
  unfold queueUp
  rw [carriers, work2, comps]

theorem Streamed.queueUp {s a : State} (h : Streamed s a) (k : Nat) : queueUp a k = queueUp s k := queueUp_congr h.carriers h.work2 h.comps k

/-- What the stream takes of a firing leaves the windows, their marks and the slots. -/
theorem Streamed.scanFrame {s a : State} (h : Streamed s a) : ScanFrame s a where
  tbl := h.tbl
  scanHeld := h.scanHeld
  executing := h.executing
  now := h.rd _ (by decide)
  veh := h.rd _ (by decide)
  event up := (h.getB _ _ (by decide)).trans up
  last j := by rw [descRt_congr h.desc]

/-- R142, R159, R454: a scan that the unit makes runs on the state after what the buddy stream takes. -/
theorem timeoutScan_runs {s : State} (on : getB s 0x1A1008 0 = true) (ready : imageReady s = true) (unit : budMode s ≠ 2) :
    ∃ a, Streamed s a ∧ exec .timeoutScan s = .next (settle (scanRun a)) := by
  obtain ⟨a, fire, streamed⟩ := pairedFire_open s 4 0 scanRun unit
  refine ⟨a, streamed, ?_⟩
  rw [exec_timeoutScan, timeoutScanOp, on, ready, ← fire]
  rfl

/-- R147: while an earlier queue holds work, the scan waits. -/
theorem timeoutScan_waits {s : State} (on : getB s 0x1A1008 0 = true) (ready : imageReady s = true) (unit : budMode s ≠ 2) (busy : queueUp s 4 = false) :
    ∃ a, Streamed s a ∧ exec .timeoutScan s = .next (settle { a with scanHeld := true }) := by
  obtain ⟨a, streamed, run⟩ := timeoutScan_runs on ready unit
  rw [scanRun, streamed.queueUp, busy] at run
  exact ⟨a, streamed, run⟩

/-- R142: else it visits the descriptors of the table, from a state with the windows, the marks and the slots of this one. -/
theorem timeoutScan_visits {s : State} (on : getB s 0x1A1008 0 = true) (ready : imageReady s = true) (unit : budMode s ≠ 2) (idle : queueUp s 4 = true) :
    ∃ a, (∀ j, windowOver a j = windowOver s j) ∧ (∀ j, namedSlot a j = namedSlot s j) ∧ a.scanHeld = false ∧ a.desc = s.desc ∧ a.slots = s.slots ∧
      exec .timeoutScan s = .next (settle (((tList s 5).map Prod.fst).foldl timeoutVisit a)) := by
  obtain ⟨a, streamed, run⟩ := timeoutScan_runs on ready unit
  rw [scanRun, streamed.queueUp, idle] at run
  refine ⟨{ a with scanHeld := false }, streamed.scanFrame.windowOver, streamed.scanFrame.namedSlot, rfl, streamed.desc, streamed.slots, ?_⟩
  rw [run, ← tList_congr streamed.tbl]
  rfl

end Sys2Proof.Machine
end

section
/-!
PROOFS. RT_EN (R150, R159): the write of SE_CTRL, and what its clearing discards: the executions in progress end, and routed copies, carriers, compositions and runs
are given up.
-/
namespace Sys2Proof.Machine

/-! ### Executions in progress (R159) -/

/-- An execution leaves RT_EN's word, and what waits for cache lines, as they were. -/
structure Executes (s a : State) : Prop where
  parked : a.parked = s.parked
  ctrl : rd a 0x1A1008 = rd s 0x1A1008

theorem Executes.refl (s : State) : Executes s s := ⟨rfl, rfl⟩

theorem Executes.trans {s a b : State} (h : Executes s a) (h' : Executes a b) : Executes s b := ⟨h'.parked.trans h.parked, h'.ctrl.trans h.ctrl⟩

theorem Executes.ite {s a b : State} {p : Prop} [Decidable p] (h : Executes s a) (h' : Executes s b) : Executes s (if p then a else b) := by
  split <;> assumption

theorem Executes.foldl {α : Type} {f : State → α → State} (hf : ∀ a x, Executes a (f a x)) (xs : List α) (s : State) : Executes s (xs.foldl f s) := by
  induction xs generalizing s with
  | nil => exact .refl s
  | cons x xs ih => exact (hf s x).trans (ih _)

theorem executes_wr (s : State) {o : Nat} (w : Word) (ho : o ≠ 0x1A1008) : Executes s (wr s o w) := ⟨rfl, rd_wr_ne _ _ _ _ ho.symm⟩

theorem executes_event (s : State) {o o' b : Nat} (ho : o ≠ 0x1A1008) (ho' : o' ≠ 0x1A1008) : Executes s (raise (incC s o) o' b) :=
  (executes_wr s _ ho).trans (executes_wr _ _ ho')

theorem Imaged.executes {s a : State} (h : Imaged s a) : Executes s a := ⟨by rw [h.eq], h.rd _ (by decide)⟩

theorem touch_executes (s : State) (g : Nat) (d : Bool) : Executes s (touch s g d) := (touch_imaged s g d).1.executes

theorem itemTo_executes (s : State) {j : Nat} (hj : j < 64) (ty src : Nat) (pay : List Byte) : Executes s (itemTo s j ty src pay) := by
  obtain ⟨r, x, h, e, kept⟩ := jnlPut_only s j ty (stampNow s) src pay hj
  rw [itemTo, e]
  exact ⟨rfl, kept _ (by decide)⟩

/-- SE_EXEC counts an execution. -/
theorem counted_executes (s : State) : Executes s (houseAdd (add64 s 0x1A1100 1) 1048 1) := ⟨rfl, rd_add64 s 0x1A1100 1 _ (by decide) (by decide)⟩

theorem countXf_executes (s : State) (x : Xf) : Executes s (countXf s x) := by
  unfold countXf
  have sat : Executes s (if x.sat then incC s 0x1A1108 else s) := .ite (executes_wr s _ (by decide)) (.refl s)
  exact .ite (sat.trans (executes_event _ (by decide) (by decide))) sat

/-! ### Firings that an execution reports (R82, R141, R145) -/

theorem setObj_executes (s : State) (o : Nat) (x : ObjRt) : Executes s (setObj s o x) := ⟨setObj_parked .., rd_congr (setObj_regs ..) _⟩

theorem obPut_executes (s : State) (o hi lo v : Nat) : Executes s (obPut s o hi lo v) := setObj_executes ..

theorem pendNew_executes (s : State) (o : Nat) : Executes s (pendNew s o) := ((obPut_executes ..).trans (obPut_executes ..)).trans (obPut_executes ..)

theorem objLost_executes (s : State) (n o : Nat) : Executes s (objLost s n o) := by
  have counter : motR n 0x10 ≠ 0x1A1008 := by unfold motR; omega
  exact (obPut_executes s o 17 17 1).trans (executes_event _ counter (by decide))

theorem lockTouch_executes (s : State) (n owner : Nat) : Executes s (lockTouch s n owner) := by
  rw [lockTouch_only]
  exact ⟨rfl, rfl⟩

theorem budEvent_executes (s : State) (bs : List Byte) : Executes s (budEvent s bs) := (budEvent_imaged s bs).1.executes

/-- R83: a request for a transmit object. -/
theorem request_executes (s : State) (o owner : Nat) : Executes s (request s o owner) := by
  unfold request
  split
  · exact .refl s
  · rename_i n ide ident live
    have begun (bs : List Byte) : Executes s (budEvent (lockTouch s n owner) bs) := (lockTouch_executes s n owner).trans (budEvent_executes _ bs)
    have ordered (b : State) (q : Nat) : Executes b { b with reqSeq := q } := ⟨rfl, rfl⟩
    refine .ite (.ite ?_ ?_) (.ite ?_ ?_)
    · exact (begun _).trans ((setObj_executes ..).trans (objLost_executes ..))
    · exact (begun _).trans (setObj_executes ..)
    · exact (begun _).trans ((setObj_executes ..).trans ((objLost_executes ..).trans (obPut_executes ..)))
    · exact (begun _).trans ((setObj_executes ..).trans ((ordered _ _).trans (pendNew_executes ..)))

theorem compFire_executes (s : State) (t : CompTarget) {merged : Nat} (h : merged ≠ 0x1A1008) : Executes s (compFire s t merged) :=
  .ite (executes_wr s _ h) ⟨rfl, rfl⟩

theorem fireObj_executes (s : State) (o : Nat) : Executes s (fireObj s o) :=
  .ite (request_executes ..) (.ite (.refl s) (.ite (executes_wr s _ (by decide)) (compFire_executes s _ (by decide))))

theorem tstFireBy_executes (s : State) (i : Nat) (wait : Bool) : Executes s (tstFireBy s i wait) := by
  have noted : Executes s (setTst s i { last := some (ltNs s), change := wait }) := ⟨rfl, rfl⟩
  exact .ite (.refl s) (.ite noted (noted.trans (.foldl fireObj_executes _ _)))

theorem tstReport_executes (s : State) (i : Nat) : Executes s (tstReport s i) := .ite (.refl s) (.ite (tstFireBy_executes s i false) ⟨rfl, rfl⟩)

theorem dstFire_executes (s : State) (i : Nat) : Executes s (dstFire s i) := .ite (.refl s) (.ite (executes_wr s _ (by decide)) ⟨rfl, rfl⟩)

theorem report_executes (s : State) (target : Nat) (own : Option Nat) : Executes s (report s target own) :=
  .ite (tstReport_executes ..) (.ite (.refl s) (dstFire_executes ..))

/-! ### DERIVE and ENCODE (R140, R143, R144) -/

theorem eFld_journal_lt (e : BitVec 768) (w lo : Nat) : eFld e w (lo + 5) lo < 64 := by
  unfold eFld nbits
  have width : 32 * w + (lo + 5) + 1 - (32 * w + lo) = 6 := by omega
  rw [width]
  exact Nat.mod_lt _ (by decide)

theorem updateSlot_executes (s : State) (g : Nat) (v : BitVec 64) (subst lost auth remote : Bool) :
    Executes s (updateSlot s g v subst lost auth remote).1 := by
  by_cases live : segMode s g = 0
  · rw [updateSlot_live _ _ _ _ _ _ _ live]
    exact (changeSlot_imaged ..).executes
  · rw [updateSlot_held _ _ _ _ _ _ _ live]
    exact executes_wr s _ (by decide)

theorem dvPut_executes (s : State) (j dst : Nat) (d : BitVec 768) (g v : Nat) (subst auth lost : Bool) :
    Executes s (dvPut s j dst d g v subst auth lost) := by
  have updated := updateSlot_executes s g (BitVec.ofNat 64 v) subst lost auth false
  have noted (a : State) : Executes a (if sdNotify d then changeItem a (dvJnl d) g j else a) :=
    .ite (itemTo_executes a (eFld_journal_lt d 0 18) _ _ _) (.refl a)
  exact .ite ((updated.trans (noted _)).trans (.ite (report_executes ..) (.refl _))) updated

theorem dvStale_executes (s : State) (g : Nat) : Executes s (dvStale s g) := .ite (changeSlot_imaged ..).executes (touch_executes ..)

theorem debounce_executes (s : State) (j dst : Nat) (d : BitVec 768) (a : Slot) : Executes s (debounce s j dst d a) :=
  .ite (dvPut_executes ..) (.ite (dvPut_executes ..) (.refl s))

theorem edges_executes (s : State) (j dst : Nat) (d : BitVec 768) (a : Slot) : Executes s (edges s j dst d a) := by
  unfold edges
  simp only
  have output (v : Nat) (p : Bool) : Executes s (if p then dvUpdate s j dst d v a.subst a.auth false else s) := .ite (dvPut_executes ..) (.refl s)
  exact .ite ((output _ _).trans (dvPut_executes ..)) (output _ _)

theorem deriveOne_executes (s : State) (dst j : Nat) : Executes s (deriveOne s dst j) := by
  unfold deriveOne
  simp only
  refine .ite (.refl s) ((counted_executes s).trans ?_)
  generalize houseAdd (add64 s 0x1A1100 1) 1048 1 = a
  have skipped {o : Nat} (h : o ≠ 0x1A1008) : Executes a (incC a o) := executes_wr a _ h
  refine .ite (skipped (by decide)) (.ite ?_ ?_)
  · split
    · exact skipped (by decide)
    · exact .ite (dvStale_executes ..) (dvPut_executes ..)
  · exact .ite (skipped (by decide)) (.ite (dvStale_executes ..) (.ite (debounce_executes ..) (.ite (edges_executes ..) (dvPut_executes ..))))

theorem encodeOne_executes (s : State) (c : Comp) (room own : Nat) (filled : Bool) (j : Nat) : Executes s (encodeOne s c room own filled j).1 := by
  unfold encodeOne
  simp only
  split
  · exact .refl s
  · refine (counted_executes s).trans ?_
    generalize houseAdd (add64 s 0x1A1100 1) 1048 1 = a
    split
    · exact executes_event a (by decide) (by decide)
    · split
      · exact executes_wr a _ (by decide)
      · generalize encodeXf _ _ _ = y
        have read : Executes a (if filled then a else touch a (sdGsid (sdpAt s j)) false) := .ite (.refl a) (touch_executes ..)
        generalize (if filled then a else touch a (sdGsid (sdpAt s j)) false) = b at *
        have counted (p : Bool) : Executes a (if p then incC (countXf b y) 0x1A1108 else countXf b y) :=
          (read.trans (countXf_executes b y)).trans (.ite (executes_wr _ _ (by decide)) (.refl _))
        split
        · exact counted _
        · exact (counted _).trans (.ite (itemTo_executes _ (eFld_journal_lt _ 2 23) _ _ _) (.refl _))

theorem touches_executes (s : State) (gs : List Nat) : Executes s (gs.foldl (fun a g => touch a g false) s) := (touches_accessed s gs).1.executes

/-- R159: the execution in progress ends. -/
theorem parkedFinish_executes (s : State) (p : Parked) : Executes s (parkedFinish s p) := by
  unfold parkedFinish
  split
  · split
    · exact (touch_executes ..).trans (encodeOne_executes ..)
    · exact .refl s
  · split
    · exact ((touch_executes ..).trans (touches_executes ..)).trans (deriveOne_executes ..)
    · exact .refl s

/-! ### What is discarded (R159) -/

/-- What a discard leaves: the slots, the queues of the engines, and RT_EN's word. -/
structure Discards (s a : State) : Prop where
  slots : a.slots = s.slots
  carriers : a.carriers = s.carriers
  comps : a.comps = s.comps
  runs : a.runs = s.runs
  executes : Executes s a

theorem Discards.refl (s : State) : Discards s s := ⟨rfl, rfl, rfl, rfl, .refl s⟩

theorem Discards.trans {s a b : State} (h : Discards s a) (h' : Discards a b) : Discards s b :=
  ⟨h'.slots.trans h.slots, h'.carriers.trans h.carriers, h'.comps.trans h.comps, h'.runs.trans h.runs, h.executes.trans h'.executes⟩

theorem Discards.foldl {α : Type} {f : State → α → State} (xs : List α) (hf : ∀ a, ∀ x ∈ xs, Discards a (f a x)) (s : State) :
    Discards s (xs.foldl f s) := by
  induction xs generalizing s with
  | nil => exact .refl s
  | cons x xs ih => exact (hf s x (by simp)).trans (ih (fun a y hy => hf a y (by simp [hy])) _)

theorem Ended.discards {s a : State} (h : Ended s a []) : Discards s a :=
  ⟨by rw [h.eq], by rw [h.eq], by rw [h.eq], by rw [h.eq], by rw [h.eq], h.rd _ (by unfold AttemptLeaves; decide) (by simp)⟩

theorem dropCopies_discards (s : State) {n : Nat} (hn : n < 48) (cause : Nat) (keepBus : Bool) : Discards s (dropCopies s n cause keepBus) := by
  have drops (cs : List CanCopy) : Discards s (cs.foldl (fun a c => dropCopy a n c cause) s) :=
    .foldl cs (fun a c _ => (ended_dropCopy a hn [] c cause).discards) s
  unfold dropCopies
  simp only
  split
  · exact (drops _).trans ⟨rfl, rfl, rfl, rfl, rfl, rfl⟩
  · exact drops _

theorem ringHand_discards (s : State) (r : Nat) (d : RxDeliv) : Discards s (ringHand s r d) := ⟨rfl, rfl, rfl, rfl, rfl, rfl⟩

theorem carrierEnd_discards (s : State) (c : Carrier) : Discards s (carrierEnd s c) :=
  (ended_copyDone s c.copy []).discards.trans (.foldl c.held (fun a h _ => ringHand_discards a h.1 h.2) _)

theorem setMissed_discards (s : State) (js : List Nat) : Discards s (setMissed s js) := by
  refine .foldl js (fun a j _ => ?_) s
  simp only
  split
  · exact ⟨rfl, rfl, rfl, rfl, rfl, rfl⟩
  · exact .refl a

theorem carrierDrop_discards (s : State) (c : Carrier) : Discards s (carrierDrop s c) := (carrierEnd_discards s c).trans (setMissed_discards ..)

/-- R159: with RT_EN at 0 nothing is left in the queues of the engines or waits for a line; without executions in progress no slot changes. -/
theorem rtStop_spec (s : State) : (rtStop s).carriers = [] ∧ (rtStop s).comps = [] ∧ (rtStop s).runs = [] ∧ (rtStop s).parked = [] ∧
    rd (rtStop s) 0x1A1008 = rd s 0x1A1008 ∧ (s.parked = [] → (rtStop s).slots = s.slots) := by
  have finished : Executes { s with parked := [], scanHeld := false } (s.parked.foldl parkedFinish { s with parked := [], scanHeld := false }) :=
    .foldl parkedFinish_executes _ _
  have idle : s.parked = [] → (s.parked.foldl parkedFinish { s with parked := [], scanHeld := false }).slots = s.slots := fun none_ => by rw [none_]; rfl
  unfold rtStop
  simp only
  generalize s.parked.foldl parkedFinish { s with parked := [], scanHeld := false } = a at *
  have copies : Discards a ((List.range 48).foldl (fun a n => dropCopies a n 2 true) a) :=
    .foldl _ (fun b n hn => dropCopies_discards b (List.mem_range.1 hn) 2 true) a
  generalize (List.range 48).foldl (fun a n => dropCopies a n 2 true) a = b at *
  have dropped (e : State) (cs : List Carrier) : Discards e (cs.foldl carrierDrop e) := .foldl cs (fun e c _ => carrierDrop_discards e c) e
  obtain ⟨slots, carriers, comps, runs, parked, ctrl⟩ :=
    dropped { b with carriers := [], work2 := b.work2.filter fun w => (work2Dataset w).isNone, comps := [], runs := [] }
      (b.carriers ++ b.work2.filterMap work2Dataset)
  exact ⟨carriers, comps, runs, parked.trans (copies.executes.parked.trans finished.parked), ctrl.trans (copies.executes.ctrl.trans finished.ctrl),
    fun none_ => slots.trans (copies.slots.trans (idle none_))⟩

/-! ### A write of SE_CTRL (R150, R159, R380) -/

/-- R380: the words of SE_CTRL: RT_EN with the key. -/
def seCtrlMasks : Masks := { rw := 0xFE, rwd := 0, rwk := 1, w1c := 0, kwo := 0 }

/-- With the key, RT_EN is stored. -/
theorem seCtrlStore (s : State) {q : Requester} (data : Word) (key : keyOk s q = true) :
    ∃ w, writeMasked s q 0x1A1008 data seCtrlMasks false none 0 = wr s 0x1A1008 w ∧ w.getLsbD 0 = data.getLsbD 0 := by
  refine ⟨mergeWord (rd s 0x1A1008) data seCtrlMasks (q = .loader) true, by simp [writeMasked, seCtrlMasks, key], ?_⟩
  unfold mergeWord seCtrlMasks
  simp only [if_true]
  rw [BitVec.getLsbD_and, getLsbD_takeBits _ _ _ _ (by decide)]
  simp

theorem poolSum_congr {s a : State} (h : ∀ p, rd a (0x1A1040 + 4 * p) = rd s (0x1A1040 + 4 * p)) : poolSum a = poolSum s := by
  unfold poolSum poolSize getF
  simp only [h]

theorem Streamed.poolSum {s a : State} (h : Streamed s a) : poolSum a = poolSum s := poolSum_congr fun p => h.rd _ (by omega)

theorem poolSum_wr_ctrl (s : State) (w : Word) : poolSum (wr s 0x1A1008 w) = poolSum s := poolSum_congr fun p => rd_wr_ne _ _ _ _ (by omega)

section
variable {s : State} {q : Requester} {data : Word} (key : keyOk s q = true)
include key

/-- R142, R150: RT_EN goes to 1 where the pools fit, and every decode window starts. -/
theorem seCtrlWrite_starts (off : getB s 0x1A1008 0 = false) (ask : data.getLsbD 0 = true) (fits : poolSum s ≤ 16384) :
    ∃ w, seCtrlWrite s q data = openWindows (wr s 0x1A1008 w) ∧ w.getLsbD 0 = true := by
  obtain ⟨w, store, bit⟩ := seCtrlStore s data key
  refine ⟨w, ?_, bit.trans ask⟩
  unfold seCtrlMasks at store
  unfold seCtrlWrite
  simp only [store, off, getB_wr_same, bit, ask, poolSum_wr_ctrl, Bool.not_false, Bool.and_self, if_true, gt_iff_lt, if_neg (Nat.not_lt.2 fits)]
  rfl

/-- R150: pools that do not fit keep RT_EN at 0, with the event. -/
theorem seCtrlWrite_refuses (off : getB s 0x1A1008 0 = false) (ask : data.getLsbD 0 = true) (full : 16384 < poolSum s) :
    ∃ w, seCtrlWrite s q data = raise (setB (wr s 0x1A1008 w) 0x1A1008 0 false) 0x1A1000 4 := by
  obtain ⟨w, store, bit⟩ := seCtrlStore s data key
  refine ⟨w, ?_⟩
  unfold seCtrlMasks at store
  unfold seCtrlWrite
  simp only [store, off, getB_wr_same, bit, ask, poolSum_wr_ctrl, Bool.not_false, Bool.and_self, if_true, gt_iff_lt, if_pos full]

/-- R159: RT_EN goes to 0, and the engines stop. -/
theorem seCtrlWrite_stops (on : getB s 0x1A1008 0 = true) (ask : data.getLsbD 0 = false) :
    ∃ w, seCtrlWrite s q data = rtStop (wr s 0x1A1008 w) ∧ w.getLsbD 0 = false := by
  obtain ⟨w, store, bit⟩ := seCtrlStore s data key
  refine ⟨w, ?_, bit.trans ask⟩
  unfold seCtrlMasks at store
  unfold seCtrlWrite
  simp only [store, on, getB_wr_same, bit, ask, Bool.not_true, Bool.not_false, Bool.and_self, Bool.false_eq_true, if_false, if_true]

end

theorem openWindows_started (s : State) {x : Nat × BitVec 768} (listed : x ∈ tList s 5) (decode : sdOp x.2 = 1) :
    descRt (openWindows s) x.1 = { descRt s x.1 with last := pairStamp s, acted := false } := by
  rw [descRt_openWindows, if_pos]
  exact List.mem_map.2 ⟨x, List.mem_filter.2 ⟨listed, by simpa using decode⟩, rfl⟩

/-! ### The rows -/

theorem exec_rtEnSet (q : Requester) (data : Word) (s : State) : exec (.rtEnSet q data) s =
    .next (settle (disarm (pairedWrite s q 0x1A1008 (putFld data 0 0 1) fun a => seCtrlWrite a q (putFld data 0 0 1)) q)) := rfl

theorem exec_rtEnClear (q : Requester) (data : Word) (s : State) : exec (.rtEnClear q data) s =
    .next (settle (disarm (pairedWrite s q 0x1A1008 (putFld data 0 0 0) fun a => seCtrlWrite a q (putFld data 0 0 0)) q)) := rfl

/-- R142, R150: RT_EN set with the key, the pools fitting. -/
theorem rtEnSet_starts {s : State} {q : Requester} (data : Word) (unit : budMode s ≠ 2) (key : keyOk s q = true) (off : getB s 0x1A1008 0 = false)
    (fits : poolSum s ≤ 16384) : ∃ t, exec (.rtEnSet q data) s = .next t ∧ getB t 0x1A1008 0 = true ∧ armed t q = false ∧
      (∀ x ∈ tList s 5, sdOp x.2 = 1 → descRt t x.1 = { descRt s x.1 with last := pairStamp s, acted := false }) ∧ t.slots = s.slots := by
  obtain ⟨a, write, streamed⟩ := pairedWrite_open s q 0x1A1008 (putFld data 0 0 1) (fun a => seCtrlWrite a q (putFld data 0 0 1)) unit
  rw [← streamed.keyOk] at key
  rw [← streamed.getB _ _ (by decide)] at off
  rw [← streamed.poolSum] at fits
  obtain ⟨w, eq, on⟩ := seCtrlWrite_starts key off (getLsbD_putFld_one data) fits
  refine ⟨_, exec_rtEnSet q data s, ?_⟩
  rw [write, eq, ← streamed.slots, ← streamed.pairStamp, ← tList_congr streamed.tbl]
  refine ⟨(getB_wr_same ..).trans on, armed_disarm_same .., fun x listed decode => ?_, rfl⟩
  have stamp : pairStamp (wr a 0x1A1008 w) = pairStamp a := pairStamp_congr rfl (rd_wr_ne _ _ _ _ (by decide))
  rw [← descRt_congr streamed.desc, ← stamp]
  exact openWindows_started (wr a 0x1A1008 w) listed decode

/-- R150: RT_EN set with the key, the pools too large. -/
theorem rtEnSet_refuses {s : State} {q : Requester} (data : Word) (unit : budMode s ≠ 2) (key : keyOk s q = true) (off : getB s 0x1A1008 0 = false)
    (full : 16384 < poolSum s) : ∃ t, exec (.rtEnSet q data) s = .next t ∧ getB t 0x1A1008 0 = false ∧ getB t 0x1A1000 4 = true ∧ t.desc = s.desc := by
  obtain ⟨a, write, streamed⟩ := pairedWrite_open s q 0x1A1008 (putFld data 0 0 1) (fun a => seCtrlWrite a q (putFld data 0 0 1)) unit
  rw [← streamed.keyOk] at key
  rw [← streamed.getB _ _ (by decide)] at off
  rw [← streamed.poolSum] at full
  obtain ⟨w, eq⟩ := seCtrlWrite_refuses key off (getLsbD_putFld_one data) full
  refine ⟨_, exec_rtEnSet q data s, ?_⟩
  rw [write, eq, ← streamed.desc]
  refine ⟨?_, ?_, rfl⟩
  · rw [getB_settle_disarm, getB_raise_other _ _ _ _ _ (by decide) (by decide), getB_setB_same _ _ _ _ (by decide)]
  · rw [getB_settle_disarm, getB_raise_same _ _ _ (by decide)]

/-- R159: RT_EN cleared with the key. -/
theorem rtEnClear_stops {s : State} {q : Requester} (data : Word) (unit : budMode s ≠ 2) (key : keyOk s q = true) (on : getB s 0x1A1008 0 = true) :
    ∃ t, exec (.rtEnClear q data) s = .next t ∧ getB t 0x1A1008 0 = false ∧ t.carriers = [] ∧ t.comps = [] ∧ t.runs = [] ∧ t.parked = [] ∧
      (s.parked = [] → t.slots = s.slots) ∧ armed t q = false := by
  obtain ⟨a, write, streamed⟩ := pairedWrite_open s q 0x1A1008 (putFld data 0 0 0) (fun a => seCtrlWrite a q (putFld data 0 0 0)) unit
  rw [← streamed.keyOk] at key
  rw [← streamed.getB _ _ (by decide)] at on
  obtain ⟨w, eq, off⟩ := seCtrlWrite_stops key on (getLsbD_putFld_zero data)
  obtain ⟨carriers, comps, runs, parked, ctrl, slots⟩ := rtStop_spec (wr a 0x1A1008 w)
  refine ⟨_, exec_rtEnClear q data s, ?_⟩
  rw [write, eq, ← streamed.slots, ← streamed.parked]
  generalize rtStop (wr a 0x1A1008 w) = b at *
  refine ⟨?_, carriers, comps, runs, parked, slots, armed_disarm_same ..⟩
  rw [getB_settle_disarm, getB, ctrl, rd_wr_same, off]

/-! ### The obligation -/

/-- Settles O32: the scan is one visit after the other on the state after what the buddy stream takes, or is kept for later; a write of SE_CTRL stores RT_EN, and
opens the windows, refuses, or discards what the engines hold. -/
theorem routingEnableAndTimeouts : Obligations.RoutingEnableAndTimeouts := by
  unfold Obligations.RoutingEnableAndTimeouts
  refine ⟨fun s on ready unit busy => ?_, fun s on ready unit idle => ?_, fun q data s unit key =>
    ⟨rtEnSet_starts data unit key, rtEnSet_refuses data unit key, rtEnClear_stops data unit key⟩⟩
  · obtain ⟨a, streamed, run⟩ := timeoutScan_waits on ready unit busy
    exact ⟨_, run, rfl, streamed.slots, streamed.desc⟩
  · obtain ⟨a, late, named, held, desc, slots, run⟩ := timeoutScan_visits on ready unit idle
    refine ⟨_, run, (visits_frame _ a).scanHeld.trans held, fun j hj => ?_, fun g apart => ?_, ?_⟩
    · refine (acted_visits _ a j).trans ?_
      rw [late, descRt_congr desc, decide_eq_true hj, Bool.true_and]
      rfl
    · refine (visits_other _ a g fun j hj => ?_).trans (slotAt_congr slots g)
      rw [named]
      exact apart j hj
    · rintro ⟨j, hj, first, due⟩
      exact visits_event hj ((late j).trans (decide_eq_true due)) ((congrArg DescRt.acted (descRt_congr desc j)).trans first)

end Sys2Proof.Machine
end

section
/-!
PROOFS. What the mirror sends (chapter 6): what the switch does with a frame of SG rests on its store of frames, of which the obligation O33 asks nothing.
-/
namespace Sys2Proof.Machine

theorem exec_beaconSend_due {s : State} (due : beaconDue s = true) : exec .beaconSend s = .next (settle (beaconOp s)) := by
  have row : exec .beaconSend s = .next (settle (if beaconDue s then beaconOp s else s)) := rfl
  rw [row, if_pos due]

/-- A stored frame of number 0 that waits for port 16, with a transmit descriptor to return (R328) at ring 0xA903. There is no such ring, but a state bounds no
ring number, and the word in which this one would count what it returns REFUSED is 0x50000 + 0x20 * 0xA903 + 0x1C = 0x1A207C, where the mirror counts bundles
without a route (R165). -/
def strayFrame : SwFrame :=
  { id := 0, data := [], ingress := 26, vid := 0, pcp := none, tc := 0, csum := false, stamp := 0, chk := false, chain := [], cells := 0, cellsA := 0, cellsB := 0
    queued := [16], sending := [], untag := [], seqs := [], bare := false, directed := false, ts := some 0xA903 }

/-- A unit whose beacon of 100 ms is due, with the own address and that of entry 64, the broadcast address, valid. The switch is on in plane A and floods VLAN 0 to
port 16, which is enabled, has no link and is in DROPPING; its store holds `strayFrame` under the number that the next frame takes. -/
def beaconOverStray : State :=
  { State.reset with
    regs := [(0x180000, 1), (0x180014, 1), (0x180018, 8), (ethR 16 0, 1), (0x1A0000, 1), (0x1A2008, 1), (0x1A200C, 100)]
    tbl := [(tKey tBat 0, 1), (tKey tBat 64, BitVec.ofNat 768 (1 + (2 ^ 48 - 1) * 2 ^ 32)), (tKey (tVlan 0) 0, BitVec.ofNat 768 (1 + 2 ^ 16 * 2 ^ 32))]
    sw := { frames := [strayFrame], nextId := 0 } }

theorem beaconDue_beaconOverStray : beaconDue beaconOverStray = true := by decide +kernel

/-- The beacon leaves, and DROPPING discards the frame found under its number: `strayFrame`, whose descriptor is returned REFUSED and counted. -/
theorem noRoute_beaconOverStray : rd (beaconOp beaconOverStray) 0x1A207C = 1 := by decide +kernel

/-- Refutes O33: its clause on beacons asks nothing of the switch's store, where `strayFrame` has the number that the next frame takes and a ring that does not
exist. In `beaconOverStray` the beacon has a route and is sent, yet the word of the bundles without a route (0x1A207C) goes from 0 to 1. -/
theorem not_mirrorSends : ¬ Obligations.MirrorSends := by
  unfold Obligations.MirrorSends
  rintro ⟨-, beacon, -⟩
  obtain ⟨t, run, -, -, sent, -⟩ := beacon beaconOverStray beaconDue_beaconOverStray
  obtain ⟨-, noRoute, -⟩ := sent (by decide +kernel) (by decide +kernel) (by decide +kernel)
  rw [exec_beaconSend_due beaconDue_beaconOverStray] at run
  obtain rfl : settle (beaconOp beaconOverStray) = t := by simpa using run
  have before : rd beaconOverStray 0x1A207C = 0 := rfl
  rw [rd_settle, noRoute_beaconOverStray, before] at noRoute
  exact absurd noRoute (by decide)

end Sys2Proof.Machine
end

section
/-!
PROOFS. Records that a subscription's compartment does not reach (R31): the unpacker drops them, which the obligation O34 leaves out.
-/
namespace Sys2Proof.Machine

/-- R31: the compartment of subscription `i` does not reach the segment it names. -/
def SubCrosses (s : State) (i : Nat) : Prop := ruleReach (owned s (suComp (tGet s tSub i))) (segOwner s (suSeg (tGet s tSub i))) = false

theorem SubCrosses.frame {s a : State} {i : Nat} (h : SubCrosses s i) (kept : ImageFrame s a) : SubCrosses a i := by
  unfold ImageFrame at kept
  rw [kept]
  exact h

/-- R31: such a record is dropped, whatever it says. -/
theorem unpackRecord_crossing {s : State} {b : BundleCar} (h : SubCrosses s b.sub) (missed : Bool) (r : List Byte) :
    unpackRecord b missed s r = incC (add64 s 0x1A1100 1) 0x1A2068 := by
  have reach : ruleReach (owned (add64 s 0x1A1100 1) (suComp (tGet s tSub b.sub))) (segOwner (add64 s 0x1A1100 1) (suSeg (tGet s tSub b.sub))) = false := h
  unfold unpackRecord
  simp only [reach, Bool.not_false, or_true, if_true]

theorem unpackRecords_crossing {b : BundleCar} (missed : Bool) (rs : List (List Byte)) {s : State} (h : SubCrosses s b.sub) :
    ImageFrame s (rs.foldl (unpackRecord b missed) s) ∧ (rs.foldl (unpackRecord b missed) s).slots = s.slots := by
  induction rs generalizing s with
  | nil => exact ⟨.refl s, rfl⟩
  | cons r rs ih =>
    have frame : ImageFrame s (incC (add64 s 0x1A1100 1) 0x1A2068) := rfl
    obtain ⟨rest, slots⟩ := ih (h.frame frame)
    rw [List.foldl_cons, unpackRecord_crossing h]
    exact ⟨frame.trans rest, slots⟩

/-- R31, R176: a bundle of such a subscription changes no slot. -/
theorem unpack_crossing {s : State} {b : BundleCar} (h : SubCrosses s b.sub) : ImageFrame s (unpack s b) ∧ (unpack s b).slots = s.slots := by
  have sub (a : State) (x : SubRt) : ImageFrame a (setSub a b.sub x) := rfl
  unfold unpack
  simp only
  split
  · exact ⟨sub _ _, rfl⟩
  · generalize (if b.begin_ = true then _ else _ : SubRt) = x
    obtain ⟨records, slots⟩ := unpackRecords_crossing x.missed b.recs (h.frame (sub s x))
    generalize b.recs.foldl (unpackRecord b x.missed) (setSub s b.sub x) = a at *
    obtain ⟨done, kept⟩ := copyDone_frame (if (b.end_ && x.clean) = true then setSub a b.sub { subRt a b.sub with missed := false } else a) b.copy
    refine ⟨((sub s x).trans records).trans (.trans ?_ done), kept.trans ?_⟩
    · exact .ite (sub _ _) (.refl _)
    · split <;> exact slots

/-- R147: the unpacker's turn with such a bundle at the head of its queue. -/
theorem signalsBundleUnpack_crossing {s : State} {b : BundleCar} {rest : List Work2} (idle : s.carriers = []) (scan : s.scanHeld = false)
    (head : s.work2 = .bundle b :: rest) (h : SubCrosses s b.sub) : ∃ t, exec .signalsBundleUnpack s = .next t ∧ t.slots = s.slots := by
  have row : exec .signalsBundleUnpack s = .next (settle (scanWaiting (unpackNext s))) := rfl
  have next : unpackNext s = unpack { s with work2 := rest } b := by simp only [unpackNext, idle, head]
  have h : SubCrosses { s with work2 := rest } b.sub := h
  obtain ⟨frame, slots⟩ := unpack_crossing h
  have held : (unpack { s with work2 := rest } b).scanHeld = false := by
    unfold ImageFrame at frame
    rw [frame]
    exact scan
  have stays : scanWaiting (unpack { s with work2 := rest } b) = unpack { s with work2 := rest } b := by simp [scanWaiting, held]
  exact ⟨_, row, by rw [next, stays, settle_slots, slots]⟩

/-- The record of slot 4 of segment 3 of vehicle 5, valid. -/
def foreignRecord : List Byte := signalRecord (gsid 5 3 4) { value := 77, stamp := 0, status := 1, gen := 0 }

/-- A bundle of vehicle 5 with that record, received by subscription 3. -/
def foreignBundle : BundleCar :=
  { copy := 0, refused := false, sub := 3, srcVeh := 5, auth := false, gap := false, begin_ := true, end_ := true, recs := [foreignRecord] }

/-- Two compartments, and that bundle waiting for the unpacker: subscription 3 takes slots 0 to 8 of segment 3 of vehicle 5 and is compartment 1's, while segment 3
is C0's. -/
def foreignSub : State :=
  { State.reset with
    tri := [(triKey 0 (7 * 2 ^ 16), { c0 := 2, c1 := 2, c2 := 2 })]
    tbl := [(tKey tSub 3, BitVec.ofNat 768 (1 + 5 * 2 ^ 2 + 3 * 2 ^ 8 + 1 * 2 ^ 16 + 8 * 2 ^ 16 * 2 ^ 64))]
    work2 := [.bundle foreignBundle] }

theorem subCrosses_foreignSub : SubCrosses foreignSub foreignBundle.sub := by unfold SubCrosses; decide +kernel

/-- Refutes O34: its clause on the unpacker does not ask that the subscription's compartment reach the segment (R31). In `foreignSub` the record meets every
hypothesis and is dropped, so its slot is not updated: GEN stays. -/
theorem not_mirrorReceives : ¬ Obligations.MirrorReceives := by
  unfold Obligations.MirrorReceives
  rintro ⟨-, unpacked, -⟩
  obtain ⟨t, run, -, -, slot, -⟩ := unpacked foreignSub foreignBundle [] foreignRecord (gsid 5 3 4)
    (tGet foreignSub 0xA foreignBundle.sub) rfl rfl rfl rfl rfl (by decide +kernel) rfl (by decide +kernel) (by decide +kernel) (by decide +kernel) (by decide +kernel)
    (by decide +kernel) (by decide +kernel) (by decide +kernel) rfl
  obtain ⟨t', run', slots⟩ := signalsBundleUnpack_crossing rfl rfl rfl subCrosses_foreignSub
  obtain rfl : t' = t := by simpa [run'] using run
  rw [slotAt_congr slots] at slot
  exact absurd (congrArg Slot.gen slot) (by simp)

end Sys2Proof.Machine
end

section
/-!
PROOFS. PORT_EN written 0 (R196, R230): the queue of the port is discarded, and with it the transmit descriptors that wait for its frames; the obligation O35 asks
nothing of their rings.
-/
namespace Sys2Proof.Machine

theorem exec_portEnClear (q : Requester) (p : Port) (data : Word) (s : State) :
    exec (.portEnClear q p data) s = .next (settle (disarm (ethCtrlWrite s q p.val (putFld data 0 0 0)) q)) := rfl

theorem portEn_settle_disarm (s : State) (q : Requester) (p : Nat) : portEn (settle (disarm s q)) p = portEn s p := rfl

/-- A frame that waits for port 9 alone, with a transmit descriptor to return (R328) at ring 0x7C80. There is no such ring, but a state bounds no ring number,
and its CFG, whose bit 0 is EN, would stand at 0x50000 + 0x20 * 0x7C80 = 0x149000, where port 9 has CTRL, whose bit 0 is PORT_EN. -/
def strandedFrame : SwFrame :=
  { id := 0, data := [], ingress := 25, vid := 0, pcp := none, tc := 0, csum := false, stamp := 0, chk := false, chain := [], cells := 0, cellsA := 0, cellsB := 0
    queued := [9], sending := [], untag := [], seqs := [], bare := false, directed := true, ts := some 0x7C80 }

/-- Port 9 is enabled, and `strandedFrame` is queued on it; a write EN = 1 of its ring waits for the descriptor (R332). -/
def strandedPort : State :=
  { State.reset with
    regs := [(ethR 9 0, 1)]
    ring := [(0x7C80, { Ring.init with after := some true })]
    sw := { frames := [strandedFrame], nextId := 1 } }

/-- The queue is discarded, the descriptor returned REFUSED, and the EN that waited for it is written: PORT_EN is 1 again. -/
theorem portEn_strandedPort_cleared : portEn (ethCtrlWrite strandedPort .host 9 (putFld 0 0 0 0)) 9 = true := by decide +kernel

/-- Refutes O35: its clause on PORT_EN written 0 asks nothing of the descriptors that wait for the port's frames. In `strandedPort` the port is enabled, its
queue is discarded, and PORT_EN is 1 afterwards. -/
theorem not_ethernetLinks : ¬ Obligations.EthernetLinks := by
  unfold Obligations.EthernetLinks
  rintro ⟨-, cleared, -⟩
  obtain ⟨off, -⟩ := cleared .host 9 0 strandedPort
  obtain ⟨t, run, disabled, -⟩ := off (by decide +kernel)
  rw [exec_portEnClear] at run
  obtain rfl : settle (disarm (ethCtrlWrite strandedPort .host 9 (putFld 0 0 0 0)) .host) = t := by simpa using run
  rw [portEn_settle_disarm] at disabled
  exact absurd (disabled.symm.trans portEn_strandedPort_cleared) (by decide)

end Sys2Proof.Machine
end

section
/-!
PROOFS. AUTHORISED written 0 (R231, R254, R264): frames that the port may no longer send leave its queues, and their charges are released; the obligation O38 asks
nothing of their classes.
-/
namespace Sys2Proof.Machine

theorem exec_swPortAuth (m : Mbx) (s : State) : exec (.swPortAuth m) s = .next (settle (cmdRow s m.val 0x0407 cmdPortAuth)) := rfl

theorem authorised_settle (s : State) (q : Nat) : authorised (settle s) q = authorised s q := rfl

/-- A frame of two cells queued on port 8, of class 629. There is no such class, but a state bounds no class, and the word in which port 8 would count its cells
is 0x181800 + 0x30 + 4 * 629 = 0x182204, where SW_P08_AUTH stands. -/
def classlessFrame : SwFrame :=
  { id := 0, data := [], ingress := 9, vid := 0, pcp := none, tc := 629, csum := false, stamp := 0, chk := false, chain := [], cells := 2, cellsA := 0, cellsB := 0
    queued := [8], sending := [], untag := [], seqs := [], bare := false, directed := false, ts := none }

/-- SW_PORT_AUTH of C0: AUTHORISED := 0 on port 8. -/
def authRequest : MbxReq := { hdr := leBytes 2 0x0407 ++ [0, 0, 0, 0, 4, 0] ++ leBytes 8 0, fields := [8, 0, 0, 0], at_ := 0, tmo := 50, expired := false }

/-- Popezal serves, and mailbox 0 holds that request; port 8 has its link, AUTH_MODE 2 and AUTHORISED 1, and `classlessFrame` in its queue. -/
def classlessQueue : State :=
  { State.reset with
    regs := [(0x14, 2 ^ 9), (ethR 8 0, 1), (ethR 8 0xC, 1), (fwdR 8 4, 6)]
    mbx := [(0, { MbxRt.init with queue := [authRequest] })]
    sw := { frames := [classlessFrame], nextId := 1 } }

theorem asks_classlessQueue : Asks classlessQueue 0 0x0407 authRequest := by unfold Asks; decide +kernel

/-- The frame leaves, and the release of its two cells makes AUTH_MODE 0 of the 2: the port counts as authorised. -/
theorem authorised_classlessQueue : authorised (cmdRow classlessQueue 0 0x0407 cmdPortAuth) 8 = true := by decide +kernel

/-- Refutes O38: its clause on SW_PORT_AUTH asks nothing of the frames in the port's queues. In `classlessQueue` AUTHORISED is written 0, and the controlled port
is authorised afterwards. -/
theorem not_switchCommands : ¬ Obligations.SwitchCommands := by
  unfold Obligations.SwitchCommands
  intro h
  obtain ⟨-, -, -, -, -, -, -, auth⟩ := h 0 classlessQueue authRequest 0 (by decide +kernel)
  obtain ⟨t, run, -, state, -⟩ := auth 8 0 asks_classlessQueue (by decide +kernel) (by decide +kernel) (by decide +kernel) (Nat.le_refl 8) (by decide) (by decide)
    (by decide +kernel) (by decide +kernel)
  rw [exec_swPortAuth] at run
  obtain rfl : settle (cmdRow classlessQueue 0 0x0407 cmdPortAuth) = t := by simpa using run
  rw [authorised_settle, authorised_classlessQueue] at state
  exact absurd state (by decide)

end Sys2Proof.Machine
end

section
/-!
PROOFS. What a port sends (chapter 8): a target that leaves a stored frame, with the descriptor that may wait for it, changes nothing of the ports and sends
nothing; the start and the end of a frame, and the end of a pause.
-/
namespace Sys2Proof.Machine

/-! ### A target that leaves its frame (R225, R328) -/

/-- The second state differs from the first in registers, device memory, rings, stored frames and what waits for the mirror alone. -/
def FramesOnly (s a : State) : Prop := a = { s with regs := a.regs, mem := a.mem, ring := a.ring, sw := a.sw, mir := a.mir }

theorem FramesOnly.refl (s : State) : FramesOnly s s := rfl

theorem FramesOnly.trans {s a b : State} (h : FramesOnly s a) (h' : FramesOnly a b) : FramesOnly s b := by
  unfold FramesOnly at *
  rw [h', h]

theorem FramesOnly.ite {s a b : State} {p : Prop} [Decidable p] (h : FramesOnly s a) (h' : FramesOnly s b) : FramesOnly s (if p then a else b) := by
  split <;> assumption

theorem RegsOnly.framesOnly {s a : State} (h : RegsOnly s a) : FramesOnly s a := by
  unfold RegsOnly at h
  rw [h]
  rfl

theorem FramesOnly.port {s a : State} (h : FramesOnly s a) (p : Nat) : port a p = port s p := port_congr (by rw [h]) p

theorem FramesOnly.out {s a : State} (h : FramesOnly s a) : a.out = s.out := by rw [h]

theorem setDescWord_framesOnly (s : State) (r w : Nat) (v : Word) : FramesOnly s (setDescWord s r w v) := by
  unfold setDescWord winWrite
  split
  · rw [memWrite_only_mem]
    rfl
  · exact .refl s

theorem ringReturn_framesOnly (s : State) (r : Nat) (w : Word) : FramesOnly s (ringReturn s r w) := by
  have counted (a : State) : RegsOnly a (raise (incC (setF a (ringR r 8) 11 0 ((getF a (ringR r 8) 11 0 + 1) % ringSize a r)) (ringR r 0x18)) (ringR r 0x10) 0) :=
    (((RegsOnly.refl a).setF ..).wr ..).raise ..
  exact (setDescWord_framesOnly s r 0 w).trans (counted _).framesOnly

theorem ringSwitch_framesOnly (s : State) (r : Nat) (on : Bool) : FramesOnly s (ringSwitch s r on) := by
  have reset : FramesOnly s (if on then setF s (ringR r 8) 11 0 0 else s) := .ite ((RegsOnly.refl s).setF ..).framesOnly (.refl s)
  exact reset.trans rfl

theorem txFinish_framesOnly (s : State) (r st : Nat) : FramesOnly s (txFinish s r st) := by
  unfold txFinish
  simp only
  generalize returned : ringReturn _ r _ = a
  have h : FramesOnly s a := returned ▸ FramesOnly.trans (a := setRing s r { ringAt s r with wait := none }) rfl (ringReturn_framesOnly ..)
  have h : FramesOnly s (if st = 0 ∨ st = 7 then a else raise (incC a (ringR r 0x1C)) (ringR r 0x10) 2) := h.ite (h.trans rfl)
  split
  · exact h.trans (ringSwitch_framesOnly ..)
  · exact h

theorem txExamine_framesOnly (r n : Nat) (s : State) : FramesOnly s (txExamine r n s) := by
  induction n generalizing s with
  | zero => exact .refl s
  | succ n ih =>
    unfold txExamine
    exact (FramesOnly.refl s).ite (FramesOnly.ite rfl ((FramesOnly.refl s).ite ((txFinish_framesOnly ..).trans (ih _))))

theorem txDone_framesOnly (s : State) (r st : Nat) : FramesOnly s (txDone s r st) := (txFinish_framesOnly s r st).trans (txExamine_framesOnly ..)

theorem txStamped_framesOnly (s : State) (r stamp : Nat) : FramesOnly s (txStamped s r stamp) :=
  (setDescWord_framesOnly ..).trans ((setDescWord_framesOnly ..).trans ((setDescWord_framesOnly ..).trans (txDone_framesOnly ..)))

theorem releasePort_only (s : State) (q tc n : Nat) : RegsOnly s (releasePort s q tc n) := ((RegsOnly.refl s).setF ..).setF ..

theorem releaseCells_only (s : State) (n a b : Nat) : RegsOnly s (releaseCells s n a b) := (((RegsOnly.refl s).setF ..).setF ..).setF ..

theorem leaveTarget_framesOnly (s : State) (id p : Nat) : FramesOnly s (leaveTarget s id p) := by
  unfold leaveTarget
  split
  · exact .refl s
  · next f found =>
    have released := (releasePort_only s p f.tc f.cells).framesOnly
    generalize releasePort s p f.tc f.cells = b at released ⊢
    simp only
    generalize left : (if p = 26 then _ else _ : State) = a
    have h : FramesOnly s a := left ▸ .ite (released.trans rfl) released
    have given := (releaseCells_only a f.cells f.cellsA f.cellsB).framesOnly
    generalize releaseCells a f.cells f.cellsA f.cellsB = c at given ⊢
    have dropped : FramesOnly s (dropFrame c id) := (h.trans given).trans rfl
    refine .ite ?_ (h.trans rfl)
    split
    · exact dropped.trans (txDone_framesOnly ..)
    · exact dropped

/-! ### A frame starts (R229) -/

theorem startFrame_port {s a : State} {p : Nat} {f : SwFrame} {g : List Byte} (bytes : egressBytes (cbsStart s p) f p = (a, some g)) :
    (port (startFrame s p f false false) p).tx = some f.id ∧ (port (startFrame s p f false false) p).txData = g ∧
      (port (startFrame s p f false false) p).txTc = f.tc := by
  unfold startFrame
  simp only [bytes, Bool.false_eq_true, if_false]
  generalize started : setPort _ p _ = b
  have here : port b p = { port a p with tx := some f.id, txData := g, txTc := f.tc, txEnd := cbsClock a + sendTime a p g.length } := by
    rw [← started, port_setPort, if_pos rfl]
    rfl
  have counted : FramesOnly b (add64 b (swR p 0x88) 1) := rfl
  split
  · rw [(counted.trans (txStamped_framesOnly ..)).port, here]
    exact ⟨rfl, rfl, rfl⟩
  · rw [counted.port, here]
    exact ⟨rfl, rfl, rfl⟩

theorem egressStart_of {s : State} {p : Nat} {f : SwFrame} (may : mayStart s p = true) (chosen : chooseFrame s p = some f) (lets : maySend s p f = true) (ue : Bool) :
    egressStart s p ue = startFrame s p f false ue := by
  unfold egressStart
  simp only [may, chosen, lets, if_true]

/-! ### A frame completes (R200, R229) -/

theorem port_cbsSettle (s : State) (p k : Nat) :
    port (cbsSettle s p) k = if k = p then { port s p with cbs := (port (cbsSettle s p) p).cbs } else port s k := by
  unfold cbsSettle
  rw [port_setPort, port_setPort, if_pos rfl]

theorem txComplete_spec {s : State} {p id : Nat} (sending : (port s p).tx = some id) :
    (txComplete s p).out = s.out ++ [.eth p (port s p).txData false] ∧ (port (txComplete s p) p).tx = none ∧ (port (txComplete s p) p).txData = [] := by
  have data : (port (cbsSettle s p) p).txData = (port s p).txData := by rw [port_cbsSettle, if_pos rfl]
  have before : (add64 (add64 (cbsSettle s p) (ethR p 0x110) 1) (ethR p 0x118) ((port s p).txData.length + 4)).out = s.out := rfl
  unfold txComplete
  simp only [sending, data]
  generalize add64 _ (ethR p 0x118) _ = c at before ⊢
  generalize released : setPort _ p _ = b
  have left := leaveTarget_framesOnly b id p
  rw [left.port, left.out, ← released, port_setPort, if_pos rfl, setPort_out]
  exact ⟨congrArg (· ++ _) before, rfl, rfl⟩

/-! ### The rows -/

theorem exec_pauseWindowEnd (p : Port) (s : State) :
    exec (.pauseWindowEnd p) s = .next (settle (if paused s p.val then s else setPort s p.val { port s p.val with pause := none })) := rfl
theorem exec_egressFrameStart (p : Port) (ue : Bool) (s : State) : exec (.egressFrameStart p ue) s = .next (settle (egressStart s p.val ue)) := rfl
theorem exec_ethFrameTxComplete (p : Port) (s : State) : exec (.ethFrameTxComplete p) s = .next (settle (txComplete s p.val)) := rfl

theorem pauseWindowEnd_over (p : Port) {s : State} (ended : paused s p = false) : Answers (.pauseWindowEnd p) s fun t =>
    port t p = { port s p with pause := none } ∧ (∀ k, k ≠ p.val → port t k = port s k) ∧ RegsKept s t [] ∧ MemKept s t := by
  refine ⟨_, exec_pauseWindowEnd p s, ?_⟩
  rw [ended]
  refine ⟨?_, fun k other => ?_, .of_regs rfl [], memKept_of rfl⟩
  · exact (port_setPort ..).trans (if_pos rfl)
  · exact (port_setPort ..).trans (if_neg other)

theorem pauseWindowEnd_runs (p : Port) {s : State} (runs : paused s p = true) : Answers (.pauseWindowEnd p) s fun t => port t p = port s p ∧ RegsKept s t [] := by
  refine ⟨_, exec_pauseWindowEnd p s, ?_⟩
  rw [runs]
  exact ⟨rfl, .of_regs rfl []⟩

theorem egressFrameStart_sends (p : Port) {s a : State} {f : SwFrame} {g : List Byte} (may : mayStart s p = true) (chosen : chooseFrame s p = some f)
    (lets : maySend s p f = true) (bytes : egressBytes (cbsStart s p) f p = (a, some g)) :
    Answers (.egressFrameStart p false) s fun t => (port t p).tx = some f.id ∧ (port t p).txData = g ∧ (port t p).txTc = f.tc := by
  refine ⟨_, exec_egressFrameStart p false s, ?_⟩
  rw [egressStart_of may chosen lets]
  exact startFrame_port bytes

theorem ethFrameTxComplete_sends (p : Port) {s : State} {id : Nat} (sending : (port s p).tx = some id) :
    Answers (.ethFrameTxComplete p) s fun t => Sends s t (.eth p (port s p).txData false) ∧ (port t p).tx = none ∧ (port t p).txData = [] := by
  obtain ⟨out, tx, data⟩ := txComplete_spec sending
  refine ⟨_, exec_ethFrameTxComplete p s, ⟨settledOut (txComplete s p), ?_⟩, tx, data⟩
  rw [settle_out, out, List.append_assoc, List.singleton_append]

end Sys2Proof.Machine
end

section
/-!
PROOFS. What a port receives (chapter 7): a frame that fails a check, after whatever the switch had begun with it; a pause frame; EAPOL; the state in
which a frame that passes comes to the switch.
-/
namespace Sys2Proof.Machine

/-! ### A frame that fails a check (R201, R203) -/

/-- What is left of a frame that a check fails after its decision: what is sent, the count of free values, registers, and of the words of the
Ethernet ports the counter of inverted frames alone. -/
structure Stomped (s a : State) : Prop where
  eq : a = { s with regs := a.regs, out := a.out, free := a.free }
  word : ∀ p c, p < 25 → c < 0x1000 → c ≠ 0x14C → rd a (ethR p c) = rd s (ethR p c)

theorem Stomped.refl (s : State) : Stomped s s := ⟨rfl, fun _ _ _ _ _ => rfl⟩

theorem Stomped.trans {s a b : State} (h : Stomped s a) (h' : Stomped a b) : Stomped s b :=
  ⟨by rw [h'.eq, h.eq], fun p c hp hc hn => (h'.word p c hp hc hn).trans (h.word p c hp hc hn)⟩

theorem Stomped.of_wr (s : State) {o : Nat} (w : Word) (ho : 0x180000 ≤ o) : Stomped s (wr s o w) :=
  ⟨rfl, fun p c hp hc _ => rd_wr_ne _ _ _ _ (by unfold ethR; omega)⟩

theorem Stomped.foldl {α : Type} (f : State → α → State) (l : List α) (h : ∀ a, ∀ x ∈ l, Stomped a (f a x)) (s : State) : Stomped s (l.foldl f s) := by
  induction l generalizing s with
  | nil => exact .refl s
  | cons x l ih => exact (h s x (by simp)).trans (ih (fun a y hy => h a y (by simp [hy])) _)

theorem add64_kept (s : State) (o n : Nat) : RegsOnly s (add64 s o n) ∧ RegsKept s (add64 s o n) [o, o + 4] :=
  ⟨add64_only .., fun k hk => by
    simp only [List.mem_cons, List.not_mem_nil, or_false, not_or] at hk
    exact rd_add64 _ _ _ _ hk.1 hk.2⟩

theorem Stomped.send {s a : State} (h : Stomped s a) (x : Out) : Stomped s (send a x) := h.trans ⟨rfl, fun _ _ _ _ _ => rfl⟩

theorem RegsOnly.stomped {s a : State} (h : RegsOnly s a) (word : ∀ p c, p < 25 → c < 0x1000 → c ≠ 0x14C → rd a (ethR p c) = rd s (ethR p c)) : Stomped s a := by
  refine ⟨?_, word⟩
  unfold RegsOnly at h
  rw [h]

theorem stompOut_stomped (f : SwFrame) (s : State) (o : Nat) : Stomped s (stompOut f s o) := by
  obtain ⟨only, kept⟩ := add64_kept s (swR o 0x80) 1
  refine ((only.wr (ethR o 0x14C) _).stomped fun p c hp hc hn => ?_).send _
  have counter : ethR p c ≠ ethR o 0x14C := by unfold ethR; omega
  rw [rd_wr_ne _ _ _ _ counter]
  exact kept _ (by simp only [ethR, swR, List.mem_cons, List.not_mem_nil, or_false]; split <;> omega)

theorem keepPeaks_stomped (s t : State) : Stomped s (keepPeaks s t) := by
  have peaks := Stomped.foldl (fun a o => wr a o (rd t o)) ([0x180028] ++ swPortList.map fun q => swR q 0x7C)
    (fun a o ho => .of_wr a _ (by
      simp only [List.cons_append, List.nil_append, List.mem_cons, List.mem_map] at ho
      obtain rfl | ⟨q, -, rfl⟩ := ho
      · omega
      · unfold swR; split <;> omega)) s
  unfold keepPeaks
  simp only
  refine Stomped.trans (a := if getB t 0x180004 1 then raise _ 0x180004 1 else _) ?_ ⟨rfl, fun _ _ _ _ _ => rfl⟩
  split
  · exact peaks.trans (.of_wr _ _ (by omega))
  · exact peaks

theorem rxStomp_stomped (s : State) (p : Nat) (f : List Byte) : Stomped s (rxStomp s p f) := by
  unfold rxStomp
  split
  · exact .refl s
  · exact (keepPeaks_stomped ..).trans (.foldl _ _ (fun a o _ => stompOut_stomped _ a o) _)

/-- The counters of the checks of R201. -/
theorem rxCheck_counter {s : State} {p c : Nat} {f : RxFrame} (failed : rxCheck s p f = some c) : c ∈ [0x120, 0x124, 0x128, 0x12C, 0x130] := by
  unfold rxCheck at failed
  split_ifs at failed <;> cases failed <;> simp

theorem ethReceive_failed {s : State} {p c : Nat} {f : RxFrame} (up : portState s p ≠ 0) (failed : rxCheck s p f = some c) :
    Stomped (incC s (ethR p c)) (ethReceive s p f) := by
  unfold ethReceive
  rw [if_neg up, failed]
  simp only
  split
  · exact .refl _
  · exact rxStomp_stomped ..

/-! ### A pause frame (R209) -/

theorem ethReceive_pause {s : State} {p : Nat} {f : RxFrame} (up : portState s p ≠ 0) (passed : rxCheck s p f = none) (pause : isPause f.bytes = true) :
    ethReceive s p f = rxPause s p f.bytes := by
  have kind : beAt f.bytes 12 2 = 0x8808 := by simp only [isPause, Bool.and_eq_true, beq_iff_eq] at pause; exact pause.1.1
  unfold ethReceive
  rw [if_neg up, passed]
  simp only [kind, pause, if_true]

theorem quantum_congr {s a : State} {p : Nat} (status : rd a (ethR p 0x0C) = rd s (ethR p 0x0C)) : quantum a p = quantum s p := by
  unfold quantum speedCode getF
  rw [status]

theorem rxPause_spec (s : State) (p : Nat) (f : List Byte) :
    rd (rxPause s p f) (ethR p 0x138) = rd s (ethR p 0x138) + 1 ∧ (rxPause s p f).sw = s.sw ∧
      (getB s (ethR p 0) 8 = true → (port (rxPause s p f) p).pause = some { start := lt100 s, len := beAt f 16 2 * quantum s p, quantum := quantum s p }) ∧
      (getB s (ethR p 0) 8 = false → (port (rxPause s p f) p).pause = (port s p).pause) := by
  have only : RegsOnly s (incC s (ethR p 0x138)) := (RegsOnly.refl s).wr ..
  have counted : rd (incC s (ethR p 0x138)) (ethR p 0x138) = rd s (ethR p 0x138) + 1 := rd_wr_same ..
  have on : getB (incC s (ethR p 0x138)) (ethR p 0) 8 = getB s (ethR p 0) 8 := getB_wr_other _ _ _ _ _ (by simp)
  have quantum : quantum (incC s (ethR p 0x138)) p = quantum s p := quantum_congr (rd_wr_ne _ _ _ _ (by simp))
  unfold rxPause
  generalize incC s (ethR p 0x138) = a at only counted on quantum ⊢
  have now : lt100 a = lt100 s := by rw [only]; rfl
  have stored : a.sw = s.sw := by rw [only]
  have ports : port a p = port s p := port_congr (by rw [only]) p
  simp only [on, quantum, now]
  cases honoured : getB s (ethR p 0) 8 with
  | false => exact ⟨counted, stored, nofun, fun _ => congrArg EthRt.pause ports⟩
  | true =>
    simp only [if_true]
    generalize pause : ({ start := lt100 s, len := beAt f 16 2 * Machine.quantum s p, quantum := Machine.quantum s p } : Pause) = w
    generalize stopped : setPort a p { port a p with pause := some w } = b
    have here : (port b p).pause = some w := by rw [← stopped, port_setPort, if_pos rfl]
    have counted : rd b (ethR p 0x138) = rd s (ethR p 0x138) + 1 := stopped ▸ counted
    have stored : b.sw = s.sw := stopped ▸ stored
    split
    · exact ⟨counted, stored, fun _ => here, nofun⟩
    · exact ⟨(rd_wr_ne _ _ _ _ (by simp)).trans counted, stored, fun _ => here, nofun⟩

/-! ### A frame that passes (R202, R204) -/

/-- What a frame that passes every check has counted before it is sorted. -/
def rxCounted (s : State) (p : Nat) (f : List Byte) : State :=
  csumCount (add64 (add64 s (ethR p 0x100) 1) (ethR p 0x108) (f.length + 4)) p f

/-- Frames and bytes received, and failures of the two checksums. -/
def rxCounters (p : Nat) : List Nat := [ethR p 0x100, ethR p 0x104, ethR p 0x108, ethR p 0x10C, ethR p 0x140, ethR p 0x144]

theorem csumCount_kept (s : State) (p : Nat) (f : List Byte) : RegsOnly s (csumCount s p f) ∧ RegsKept s (csumCount s p f) [ethR p 0x140, ethR p 0x144] := by
  have kept := RegsKept.refl s [ethR p 0x140, ethR p 0x144]
  unfold csumCount
  simp only
  split
  · generalize header : (if csumIp f = 2 then incC s (ethR p 0x140) else s) = a
    have h : RegsOnly s a ∧ RegsKept s a [ethR p 0x140, ethR p 0x144] := by
      subst header
      split
      · exact ⟨(RegsOnly.refl s).wr .., kept.wr _ _ (by simp)⟩
      · exact ⟨.refl s, kept⟩
    split
    · exact ⟨h.1.wr .., h.2.wr _ _ (by simp)⟩
    · exact h
  · exact ⟨.refl s, kept⟩

theorem rxCounted_only (s : State) (p : Nat) (f : List Byte) : RegsOnly s (rxCounted s p f) :=
  ((add64_kept ..).1.trans (add64_kept ..).1).trans (csumCount_kept ..).1

theorem rxCounted_kept (s : State) (p : Nat) (f : List Byte) : RegsKept s (rxCounted s p f) (rxCounters p) :=
  (((add64_kept ..).2.trans (add64_kept ..).2).trans (csumCount_kept ..).2).mono (by simp [rxCounters, ethR])

theorem authorised_congr {s a : State} {p : Nat} (auth : rd a (fwdR p 4) = rd s (fwdR p 4)) : authorised a p = authorised s p := by
  unfold authorised getF getB
  rw [auth]

theorem portState_congr {s a : State} {p : Nat} (ctrl : rd a (ethR p 0) = rd s (ethR p 0)) (status : rd a (ethR p 0x0C) = rd s (ethR p 0x0C))
    (auth : rd a (fwdR p 4) = rd s (fwdR p 4)) : portState a p = portState s p := by
  unfold portState portEn linkIs getB
  rw [ctrl, status, authorised_congr auth]

theorem pairOn_congr {s a : State} {p : Nat} (force : a.inForce = s.inForce) (prp : rd a (ethR (p - p % 2) 0x24) = rd s (ethR (p - p % 2) 0x24)) :
    pairOn a p = pairOn s p := by
  unfold pairOn frcB frc
  rw [force, prp]

theorem msOn_congr {s a : State} {p : Nat} (ctrl : rd a (msR p 0) = rd s (msR p 0)) : msOn a p = msOn s p := by
  unfold msOn getB
  rw [ctrl]

section
variable {s a : State} {p : Nat} {f : List Byte}

/-- A word at some other offset of an Ethernet port. -/
theorem rxCounted_ethR (q c : Nat) (hc : c < 0x100 ∨ 0x148 ≤ c) (small : c < 0x1000) : rd (rxCounted s p f) (ethR q c) = rd s (ethR q c) :=
  rxCounted_kept _ _ _ _ (by simp only [rxCounters, ethR, List.mem_cons, List.not_mem_nil, or_false]; omega)

/-- A word outside the Ethernet ports. -/
theorem rxCounted_outside (low : p < 24) (o : Nat) (ho : o < 0x140000 ∨ 0x180000 ≤ o) : rd (rxCounted s p f) o = rd s o :=
  rxCounted_kept _ _ _ _ (by simp only [rxCounters, ethR, List.mem_cons, List.not_mem_nil, or_false]; omega)

theorem rxCounted_portState (low : p < 24) (q : Nat) : portState (rxCounted s p f) q = portState s q :=
  portState_congr (rxCounted_ethR _ _ (by omega) (by omega)) (rxCounted_ethR _ _ (by omega) (by omega)) (rxCounted_outside low _ (by unfold fwdR; omega))

theorem rxCounted_pairOn (q : Nat) : pairOn (rxCounted s p f) q = pairOn s q :=
  pairOn_congr (by rw [rxCounted_only]) (rxCounted_ethR _ _ (by omega) (by omega))

theorem prpIn_alone (alone : pairOn s p = false) : prpIn s p f = (s, some f) := by
  unfold prpIn
  rw [alone]
  rfl

theorem macsecIn_clear (clear : msOn s p = false) : macsecIn s p f = (s, some (f, false)) := by
  unfold macsecIn
  rw [clear]
  rfl

theorem ethReceive_passed {f : RxFrame} (low : p < 24) (up : portState s p ≠ 0) (passed : rxCheck s p f = none) (kind : beAt f.bytes 12 2 ≠ 0x8808)
    (alone : pairOn s p = false) (clear : msOn s p = false) : ethReceive s p f = rxSort (rxCounted s p f.bytes) p f.bytes false := by
  have kept := (add64_kept s (ethR p 0x100) 1).2.trans (add64_kept (add64 s (ethR p 0x100) 1) (ethR p 0x108) (f.bytes.length + 4)).2
  have only := (add64_kept s (ethR p 0x100) 1).1.trans (add64_kept (add64 s (ethR p 0x100) 1) (ethR p 0x108) (f.bytes.length + 4)).1
  unfold ethReceive rxCounted
  rw [if_neg up, passed]
  simp only [kind, if_false, if_neg (Nat.not_le.mpr low)]
  generalize add64 _ (ethR p 0x108) _ = a at kept only ⊢
  have alone : pairOn a p = false := (pairOn_congr (by rw [only]) (kept _ (by simp only [ethR, List.mem_append, List.mem_cons, List.not_mem_nil, or_false]; omega))).trans alone
  have clear : msOn a p = false := (msOn_congr (kept _ (by simp only [ethR, msR, List.mem_append, List.mem_cons, List.not_mem_nil, or_false]; omega))).trans clear
  simp only [prpIn_alone alone, macsecIn_clear clear]

/-! ### EAPOL (R202, R254) -/

theorem etPos_untagged (untagged : hasTag f = false) : etPos f = 12 := by
  have type : beAt f 12 2 ≠ 0x8100 := by simpa [hasTag] using untagged
  unfold etPos
  cases f.length / 4 with
  | zero => rfl
  | succ n => rw [etherTypePos, if_neg type]

theorem portDeliver_deliv (s : State) (p src ring : Nat) (f : List Byte) : ∃ d : RxDeliv, d.src = src ∧ d.data = f ∧ d.w3 % 2 ^ 16 = p % 2 ^ 16 ∧
    (ringAt (portDeliver s p src ring f) (16 + ring)).deliv = (ringAt s (16 + ring)).deliv ++ [d] := by
  refine ⟨rxOf src { newFrame f p (ingressStamp s p) (csumChk s p) with vid := tagVid f }, rfl, rfl, Nat.add_mul_mod_self_right .., ?_⟩
  unfold portDeliver ringHand
  simp only
  rw [ringAt_setRing, if_pos rfl]

theorem rxSort_eapol (type : etherType f = 0x888E) (auth : Bool) : rxSort s p f auth = portDeliver s p 3 (getF s (fwdR p 4) 7 4) f := by
  unfold rxSort
  rw [if_pos type]

/-! ### Frames for the switch (R217, R236) -/

theorem rxSort_switch (type : etherType f ≠ 0x888E) (forward : portState s p = 3) (ordinary : linkLocal f = false) (group : ptpGroup f = false) (auth : Bool) :
    rxSort s p f auth = rxSwitch s p f auth := by
  unfold rxSort
  simp [type, forward, ordinary, group]

theorem rxSwitch_off (off : getB s 0x180000 0 = false) (auth : Bool) : rxSwitch s p f auth = incC s 0x180048 := by
  unfold rxSwitch
  simp [off]

end

/-! ### The rows -/

theorem exec_ethFrameReceived (p : Port) (f : RxFrame) (s : State) : exec (.ethFrameReceived p f) s = .next (settle (ethReceive s p.val f)) := rfl

section
variable {s : State} (p : Port) {f : RxFrame}

theorem ethFrameReceived_down (down : portState s p = 0) : Answers (.ethFrameReceived p f) s fun t => OnlyRegs s t [] := by
  refine ⟨_, exec_ethFrameReceived p f s, ?_⟩
  have idle : ethReceive s p f = s := if_pos down
  rw [idle]
  exact onlyRegs_of rfl (.refl s [])

theorem ethFrameReceived_failed {c : Nat} (up : portState s p ≠ 0) (failed : rxCheck s p f = some c) : Answers (.ethFrameReceived p f) s fun t =>
    rd t (ethR p c) = rd s (ethR p c) + 1 ∧ t.sw = s.sw ∧ t.ring = s.ring ∧ t.mir = s.mir := by
  refine ⟨_, exec_ethFrameReceived p f s, ?_⟩
  have stomped := ethReceive_failed up failed
  have small : c < 0x1000 ∧ c ≠ 0x14C := by
    have counter := rxCheck_counter failed
    simp only [List.mem_cons, List.not_mem_nil, or_false] at counter
    omega
  refine ⟨(stomped.word p c p.isLt small.1 small.2).trans (rd_wr_same ..), ?_, ?_, ?_⟩ <;>
  · simp only [settle_sw, settle_ring, settle_mir]
    rw [stomped.eq]
    rfl

theorem ethFrameReceived_pause (up : portState s p ≠ 0) (passed : rxCheck s p f = none) (pause : isPause f.bytes = true) :
    Answers (.ethFrameReceived p f) s fun t => rd t (ethR p 0x138) = rd s (ethR p 0x138) + 1 ∧ t.sw = s.sw ∧
      (getB s (ethR p 0) 8 = true → (port t p).pause = some { start := lt100 s, len := beAt f.bytes 16 2 * quantum s p, quantum := quantum s p }) ∧
      (getB s (ethR p 0) 8 = false → (port t p).pause = (port s p).pause) := by
  refine ⟨_, exec_ethFrameReceived p f s, ?_⟩
  rw [ethReceive_pause up passed pause]
  exact rxPause_spec s p f.bytes

theorem ethFrameReceived_eapol (low : p.val < 24) (up : portState s p ≠ 0) (passed : rxCheck s p f = none) (type : etherType f.bytes = 0x888E)
    (untagged : hasTag f.bytes = false) (alone : pairOn s p = false) (clear : msOn s p = false) : Answers (.ethFrameReceived p f) s fun t =>
      ∃ d : RxDeliv, d.src = 3 ∧ d.data = f.bytes ∧ d.w3 % 2 ^ 16 = p.val ∧
        (ringAt t (16 + getF s (fwdR p 4) 7 4)).deliv = (ringAt s (16 + getF s (fwdR p 4) 7 4)).deliv ++ [d] := by
  refine ⟨_, exec_ethFrameReceived p f s, ?_⟩
  have kind : beAt f.bytes 12 2 ≠ 0x8808 := by
    unfold etherType at type
    rw [etPos_untagged untagged] at type
    omega
  have ring : getF (rxCounted s p f.bytes) (fwdR p 4) 7 4 = getF s (fwdR p 4) 7 4 := by
    unfold getF
    rw [rxCounted_outside low _ (by unfold fwdR; omega)]
  obtain ⟨d, src, data, source, deliv⟩ := portDeliver_deliv (rxCounted s p f.bytes) p 3 (getF s (fwdR p 4) 7 4) f.bytes
  rw [ethReceive_passed low up passed kind alone clear, rxSort_eapol type, ring]
  refine ⟨d, src, data, by omega, ?_⟩
  have before : (rxCounted s p f.bytes).ring = s.ring := by rw [rxCounted_only]
  rw [ringAt_settle, deliv, ringAt_congr before]

theorem ethFrameReceived_off (low : p.val < 24) (forward : portState s p = 3) (passed : rxCheck s p f = none) (type : etherType f.bytes ≠ 0x888E)
    (kind : beAt f.bytes 12 2 ≠ 0x8808) (alone : pairOn s p = false) (clear : msOn s p = false) (ordinary : linkLocal f.bytes = false)
    (group : ptpGroup f.bytes = false) (off : getB s 0x180000 0 = false) : Answers (.ethFrameReceived p f) s fun t =>
      rd t 0x180048 = rd s 0x180048 + 1 ∧ t.sw = s.sw := by
  refine ⟨_, exec_ethFrameReceived p f s, ?_⟩
  have off : getB (rxCounted s p f.bytes) 0x180000 0 = false := by
    unfold getB
    rw [rxCounted_outside low _ (by omega)]
    exact off
  rw [ethReceive_passed low (by omega) passed kind alone clear, rxSort_switch type ((rxCounted_portState low p).trans forward) ordinary group, rxSwitch_off off]
  constructor
  · rw [rd_settle, incC_eq, rd_wr_same, rxCounted_outside low _ (by omega)]
    rfl
  · rw [settle_sw]
    show (rxCounted s p f.bytes).sw = s.sw
    rw [rxCounted_only]

end

end Sys2Proof.Machine
end

section
/-!
PROOFS. What a plane's decision of a frame leaves (chapter 8): it changes registers of the forwarding block, table entries and what the block keeps of
meters and learning requests alone; a received frame comes to its charge with the verdict of its port's plane.
-/
namespace Sys2Proof.Machine

/-! ### One plane decides (R236 to R255) -/

/-- The second state differs from the first in tables, in the forwarding block's own state and in its registers (R263) alone. -/
structure Decided (s a : State) : Prop where
  eq : a = { s with regs := a.regs, tbl := a.tbl, fwd := a.fwd }
  word : ∀ o, o < 0x182000 ∨ 0x182460 ≤ o → rd a o = rd s o

theorem Decided.refl (s : State) : Decided s s := ⟨rfl, fun _ _ => rfl⟩

theorem Decided.trans {s a b : State} (h : Decided s a) (h' : Decided a b) : Decided s b :=
  ⟨by rw [h'.eq, h.eq], fun o ho => (h'.word o ho).trans (h.word o ho)⟩

theorem Decided.of_wr (s : State) {o : Nat} (w : Word) (low : 0x182000 ≤ o) (high : o < 0x182460) : Decided s (wr s o w) :=
  ⟨rfl, fun k hk => rd_wr_ne _ _ _ _ (by omega)⟩

theorem Decided.ite {s a b : State} {p : Prop} [Decidable p] (h : Decided s a) (h' : Decided s b) : Decided s (if p then a else b) := by
  split <;> assumption

/-- A counter in an ingress port's own row of registers. -/
theorem Decided.of_row (s : State) {q : Nat} (c n : Nat) (hq : q < 27) (hc : c < 0x20) : Decided s (addC s (fwdR q c) n) :=
  .of_wr s _ (by unfold fwdR; omega) (by unfold fwdR; omega)

theorem Decided.of_tbl (s : State) (code i : Nat) (e : BitVec 768) : Decided s (tSet s code i e) := ⟨rfl, fun _ _ => rfl⟩

theorem Decided.of_fwd (s : State) (x : Fwd) : Decided s { s with fwd := x } := ⟨rfl, fun _ _ => rfl⟩

theorem meterJudge_decided (s : State) (m n : Nat) : Decided s (meterJudge s m n).1 := (Decided.of_fwd s _).trans (.of_tbl ..)

theorem learnQueue_decided (s : State) {pl : Nat} (hpl : pl < 2) (r : LearnReq) : Decided s (learnQueue s pl r) := by
  have counter : 0x182000 ≤ fwdCnt 0x68 pl ∧ fwdCnt 0x68 pl < 0x182460 := by unfold fwdCnt; omega
  have lost (a : State) : Decided a (raise a 0x182000 3) := .of_wr a _ (by omega) (by omega)
  exact .ite (.trans (.of_wr s _ counter.1 counter.2) (lost _)) (.ite (.of_fwd ..) (.of_fwd ..))

section
variable {s a b : State} {pl : Nat} {d : DecIn}

theorem learnStep_decided (s : State) (d : DecIn) (hpl : pl < 2) : Decided s (learnStep s pl d) := by
  unfold learnStep
  simp only
  split
  · exact learnQueue_decided s hpl _
  · exact .refl s

theorem decideRest_decided (s : State) (pl : Nat) (rule : Option (BitVec 768)) (colour : Nat) (hq : d.q < 27) : Decided s (decideRest s pl d rule colour).1 := by
  unfold decideRest
  simp only [apply_ite Prod.fst]
  exact .ite (.of_row _ _ _ hq (by omega)) (.trans (.ite (.of_row _ _ _ hq (by omega)) (.refl s)) (.of_row _ _ _ hq (by omega)))

/-- Steps 4 to 10, after the meter has judged the frame. -/
theorem judged_decided {j : State × Nat} (h : Decided s j.1) (rule : Option (BitVec 768)) (hq : d.q < 27) (hpl : pl < 2) :
    Decided s (if j.2 = 2 then (incC j.1 (fwdR d.q 0x1C), Verdict.none)
      else if (decideRest j.1 pl d rule j.2).2.drop then decideRest j.1 pl d rule j.2
      else (learnStep (decideRest j.1 pl d rule j.2).1 pl d, (decideRest j.1 pl d rule j.2).2)).1 := by
  have rest := h.trans (decideRest_decided j.1 pl rule j.2 hq)
  split
  · exact h.trans (.of_row _ _ _ hq (by omega))
  · split
    · exact rest
    · exact rest.trans (learnStep_decided _ d hpl)

theorem decide1_decided (s : State) (hq : d.q < 27) (hpl : pl < 2) : Decided s (decide1 s pl d).1 := by
  unfold decide1
  simp only
  split
  · exact .of_row _ _ _ hq (by omega)
  split
  · exact .of_row _ _ _ hq (by omega)
  cases irtMatch s pl _ with
  | none =>
    simp only [Option.map_none]
    split
    · exact .of_row _ _ _ hq (by omega)
    · exact judged_decided (j := (s, 0)) (.refl s) none hq hpl
  | some r =>
    simp only [Option.map_some]
    have hit : Decided s (irtHit s pl r) := .of_tbl ..
    split
    · exact hit.trans (.of_row _ _ _ hq (by omega))
    · refine judged_decided ?_ (some r.2) hq hpl
      split
      · exact hit.trans (meterJudge_decided ..)
      · exact hit

/-- What its plane alone decides of a frame, for its charge. -/
def placeOf (pl : Nat) (v : Verdict) (auth : Bool) (comp : Nat) : Place :=
  { va := if pl = 0 then some v else none, vb := if pl = 0 then none else some v, d := [], auth := auth, comp := comp }

theorem decideBoth_one {v : Verdict} (hpl : pl < 2) (decided : decide1 a pl d = (b, v)) :
    decideBoth a (2 ^ pl) d = (b, if pl = 0 then some v else none, if pl = 0 then none else some v) := by
  obtain rfl | rfl : pl = 0 ∨ pl = 1 := by omega
  · have planes : nbit (2 ^ 0) 0 = true ∧ nbit (2 ^ 0) 1 = false := by decide
    unfold decideBoth
    simp only [planes, decided, if_true, Bool.false_eq_true, if_false]
  · have planes : nbit (2 ^ 1) 0 = false ∧ nbit (2 ^ 1) 1 = true := by decide
    unfold decideBoth
    simp only [planes, decided, if_true, Bool.false_eq_true, if_false, Nat.one_ne_zero]

theorem planeOf_lt (s : State) (q : Nat) : planeOf s q < 2 := by
  unfold planeOf
  cases frcB s 0x18000C q <;> decide

theorem planeOf_congr (force : a.inForce = s.inForce) (planes : rd a 0x18000C = rd s 0x18000C) (q : Nat) : planeOf a q = planeOf s q := by
  unfold planeOf frcB frc
  rw [force, planes]

/-! ### A received frame comes to its charge (R236) -/

theorem sgOff_false (v : Option Verdict) : sgOff false v = v := by
  cases v <;> simp [sgOff]

theorem rxSwitch_decided {p : Nat} {f : List Byte} {v : Verdict} (on : getB a 0x180000 0 = true) (alone : pairOn a p = false) (plane : pl = planeOf a p)
    (input : d = { q := p, phys := some p, comp := portOwner a p, tc := none, data := f }) (decided : decide1 a pl d = (b, v)) (kept : v.drop = false)
    (inner : v.sg = false) (auth : Bool) :
    rxSwitch a p f auth = (placeFrame b { newFrame f p (ingressStamp b p) (csumChk b p) with tc := v.tc, vid := v.vid } (some p)
      (placeOf pl v auth (portOwner a p))).1 := by
  have hpl : pl < 2 := plane ▸ planeOf_lt a p
  have both := decideBoth_one hpl decided
  have ingress : ingressOf a p = p := by simp [ingressOf, alone]
  have asked : (sgAsked (if pl = 0 then some v else none) || sgAsked (if pl = 0 then none else some v)) = false := by split <;> simp [sgAsked, inner]
  have verdict : verdictOf (if pl = 0 then some v else none) (if pl = 0 then none else some v) = v := by split <;> simp [verdictOf, kept]
  subst input plane
  unfold rxSwitch
  simp only [on, ingress, both, asked, verdict, Bool.not_true, Bool.false_eq_true, Bool.and_false, if_false, sgOff_false]
  rfl

end

end Sys2Proof.Machine
end

section
/-!
PROOFS. A frame of one cell for one port (chapter 8): its cell is charged, it is stored and queued.
-/
namespace Sys2Proof.Machine

/-! ### One cell (R218, R226, R233) -/

/-- The second state differs from the first in registers and in the count of free values alone. -/
def ChargesOnly (s a : State) : Prop := a = { s with regs := a.regs, free := a.free }

theorem RegsOnly.chargesOnly {s a : State} (h : RegsOnly s a) : ChargesOnly s a := by
  unfold RegsOnly at h
  rw [h]
  rfl

theorem ChargesOnly.trans {s a b : State} (h : ChargesOnly s a) (h' : ChargesOnly a b) : ChargesOnly s b := by
  unfold ChargesOnly at *
  rw [h', h]

/-- The charge of a cell to the global count and to the planes, before its targets. -/
def cellTaken (s : State) (w : Charge) : State :=
  let s := (pickCell s w.chain).2
  let u := cellsUse s + 1
  let t := getF s 0x180020 17 0
  let s := setF s 0x180024 17 0 u
  let s := setF s 0x180028 17 0 (max u (getF s 0x180028 17 0))
  let s := if 131072 - (u - 1) ≥ t && 131072 - u < t then raise s 0x180004 1 else s
  let s := if w.inA then setF s 0x18002C 17 0 (planeUse s 0 + 1) else s
  if w.inB then setF s 0x180030 17 0 (planeUse s 1 + 1) else s

theorem chargeAll_eq (s : State) (w : Charge) (tc : Nat) : chargeAll s w tc = (w.all.foldl (fun a q => chargePort a tc q) (cellTaken s w),
    { w with n := w.n + 1, chain := w.chain ++ [(pickCell s w.chain).1], na := w.na + bnat w.inA, nb := w.nb + bnat w.inB }) := rfl

theorem kept_setF {s a : State} {l : List Nat} (h : RegsOnly s a ∧ RegsKept s a l) (o hi lo v : Nat) (ho : o ∈ l) :
    RegsOnly s (setF a o hi lo v) ∧ RegsKept s (setF a o hi lo v) l := ⟨h.1.setF .., h.2.wr _ _ ho⟩

theorem kept_setIf {s a : State} {l : List Nat} (h : RegsOnly s a ∧ RegsKept s a l) (p : Prop) [Decidable p] (o hi lo v : Nat) (ho : o ∈ l) :
    RegsOnly s (if p then setF a o hi lo v else a) ∧ RegsKept s (if p then setF a o hi lo v else a) l := by
  split
  · exact kept_setF h o hi lo v ho
  · exact h

/-- The words that a cell's global and plane charges change, beside the count of cells in use. -/
def chargeWords : List Nat := [0x180004, 0x180028, 0x18002C, 0x180030]

theorem cellTaken_spec (s : State) (w : Charge) (room : cellsUse s < 131072) : ChargesOnly s (cellTaken s w) ∧
    RegsKept s (cellTaken s w) (0x180024 :: chargeWords) ∧ cellsUse (cellTaken s w) = cellsUse s + 1 := by
  generalize counted : setF { s with free := s.free + 1 } 0x180024 17 0 (cellsUse s + 1) = a
  have use : cellsUse a = cellsUse s + 1 := counted ▸ getF_setF_same _ _ _ _ _ (by omega) (by omega) (by omega)
  have first : ChargesOnly s a := counted ▸ rfl
  have word : RegsKept s a [0x180024] := fun o ho => by
    rw [← counted, rd_setF, if_neg (by simpa using ho)]
    rfl
  have rest : RegsOnly a (cellTaken s w) ∧ RegsKept a (cellTaken s w) chargeWords := by
    have start : RegsOnly a a ∧ RegsKept a a chargeWords := ⟨.refl a, .refl a _⟩
    have peak := kept_setF start 0x180028 17 0 (max (cellsUse s + 1) (getF a 0x180028 17 0)) (by decide)
    unfold cellTaken pickCell
    simp only
    have same : cellsUse { s with free := s.free + 1 } = cellsUse s := rfl
    rw [same, counted]
    exact kept_setIf (kept_setIf (kept_raiseIf peak _ _ _ (by decide)) _ _ _ _ _ (by decide)) _ _ _ _ _ (by decide)
  refine ⟨first.trans rest.1.chargesOnly, (word.trans rest.2).mono (by simp), ?_⟩
  rw [← use]
  unfold cellsUse getF
  rw [rest.2 0x180024 (by decide)]

/-- The words that a target's charge changes. -/
def targetWords (q tc : Nat) : List Nat := [swR q 0x0C, swR q (0x30 + 4 * tc), swR q 0x7C]

theorem chargePort_spec (s : State) {tc q : Nat} (class8 : tc < 8) (port : portUse s q + 1 < 2 ^ 18) (queue : qUse s q tc + 1 < 2 ^ 18) :
    (RegsOnly s (chargePort s tc q) ∧ RegsKept s (chargePort s tc q) (targetWords q tc)) ∧ portUse (chargePort s tc q) q = portUse s q + 1 ∧
      qUse (chargePort s tc q) q tc = qUse s q tc + 1 ∧ egState (chargePort s tc q) q = egState s q := by
  have start : RegsOnly s s ∧ RegsKept s s (targetWords q tc) := ⟨.refl s, .refl s _⟩
  have own : swR q (0x30 + 4 * tc) ≠ swR q 0x0C := (swR_inj ..).not.mpr (by omega)
  have peak : swR q (0x30 + 4 * tc) ≠ swR q 0x7C := (swR_inj ..).not.mpr (by omega)
  have count : swR q 0x0C ≠ swR q 0x7C := by simp
  unfold chargePort
  simp only
  refine ⟨kept_setF (kept_setF (kept_setF start _ _ _ _ (by simp [targetWords])) _ _ _ _ (by simp [targetWords])) _ _ _ _ (by simp [targetWords]), ?_, ?_, ?_⟩
  · unfold portUse
    rw [getF_setF_other _ _ _ _ _ _ _ _ (by omega) (by omega) (.inl count), getF_setF_other _ _ _ _ _ _ _ _ (by omega) (by omega) (.inl own.symm)]
    exact getF_setF_same _ _ _ _ _ (by omega) (by omega) port
  · rw [qUse, getF_setF_other _ _ _ _ _ _ _ _ (by omega) (by omega) (.inl peak)]
    exact getF_setF_same _ _ _ _ _ (by omega) (by omega) queue
  · unfold egState
    rw [getF_setF_other _ _ _ _ _ _ _ _ (by omega) (by omega) (.inl count), getF_setF_other _ _ _ _ _ _ _ _ (by omega) (by omega) (.inl own.symm),
      getF_setF_other _ _ _ _ _ _ _ _ (by omega) (by omega) (.inr (.inr (by omega)))]

/-- A first cell charged to one target that has room. -/
structure OneCell (s a : State) (w w' : Charge) (tc o : Nat) : Prop where
  only : ChargesOnly s a
  word : ∀ k, k < 0x180000 → rd a k = rd s k
  port : portUse a o = portUse s o + 1
  queue : qUse a o tc = qUse s o tc + 1
  cells : cellsUse a = cellsUse s + 1
  egress : egState a o = egState s o
  all : w'.all = w.all
  n : w'.n = w.n + 1

theorem chargeAll_oneCell {s : State} {w : Charge} {tc o : Nat} (all : w.all = [o]) (class8 : tc < 8) (room : cellsUse s < 131072)
    (port : portUse s o + 1 < 2 ^ 18) (queue : qUse s o tc + 1 < 2 ^ 18) : OneCell s (chargeAll s w tc).1 w (chargeAll s w tc).2 tc o := by
  rw [chargeAll_eq, all]
  obtain ⟨takenOnly, takenKept, taken⟩ := cellTaken_spec s w room
  have target (c : Nat) : rd (cellTaken s w) (swR o c) = rd s (swR o c) := takenKept _ (by simp only [chargeWords, swR, List.mem_cons, List.not_mem_nil, or_false]; split <;> omega)
  have portSame : portUse (cellTaken s w) o = portUse s o := by unfold portUse getF; rw [target]
  have queueSame : qUse (cellTaken s w) o tc = qUse s o tc := by unfold qUse getF; rw [target]
  have egSame : egState (cellTaken s w) o = egState s o := by unfold egState getF; rw [target]
  obtain ⟨⟨only, kept⟩, portUp, queueUp, eg⟩ := chargePort_spec (cellTaken s w) (q := o) class8 (portSame ▸ port) (queueSame ▸ queue)
  have outside (k : Nat) (hk : k < 0x181000) : rd (chargePort (cellTaken s w) tc o) k = rd (cellTaken s w) k :=
    kept k (by simp only [targetWords, swR, List.mem_cons, List.not_mem_nil, or_false]; split <;> omega)
  refine ⟨takenOnly.trans only.chargesOnly, fun k hk => (outside k (by omega)).trans (takenKept k ?_), portUp.trans (by rw [portSame]), queueUp.trans (by rw [queueSame]), ?_,
    eg.trans egSame, all.symm ▸ all, rfl⟩
  · simp only [chargeWords, List.mem_cons, List.not_mem_nil, or_false]
    omega
  · rw [← taken]
    unfold cellsUse getF
    exact congrArg (fld · 17 0) (outside _ (by omega))

/-- Every check of R227 passes. -/
theorem chargeCell_room {s : State} {w : Charge} {tc o : Nat} (all : w.all = [o]) (room : cellsUse s < 131072)
    (roomA : w.inA = true → planeUse s 0 + 1 ≤ getF s (0x180018 + 4 * 0) 17 0) (roomB : w.inB = true → planeUse s 1 + 1 ≤ getF s (0x180018 + 4 * 1) 17 0)
    (queue : qUse s o tc + 1 ≤ getF s (swR o (0x10 + 4 * tc)) 17 0) (port : portUse s o + 1 ≤ getF s (swR o 8) 17 0) :
    chargeCell s w tc = chargeAll s w tc := by
  have full : fullCheck s w tc = (s, w) := if_neg (by omega)
  have planeA : planeCheck s w tc 0 = (s, w) := if_neg (by simpa using roomA)
  have planeB : planeCheck s w tc 1 = (s, w) := if_neg (by simpa using roomB)
  have target : targetCheck s w tc o = (s, w) := if_neg (by simpa only [Bool.or_eq_true, decide_eq_true_eq, not_or, Nat.not_lt] using ⟨queue, port⟩)
  unfold chargeCell
  simp only [full, planeA, planeB, all, List.isEmpty_cons, Bool.false_eq_true, if_false, List.foldl_cons, List.foldl_nil, target]

/-! ### The frame is queued (R223, R225) -/

/-- The second port of a pair (R206). -/
theorem pairOn_second (s : State) (k : Nat) : pairOn s (2 * k + 1) = pairOn s (2 * k) := by
  have first : 2 * k + 1 - (2 * k + 1) % 2 = 2 * k - 2 * k % 2 := by omega
  have pairs : (2 * k + 1 < 8) = (2 * k < 8) := propext (by omega)
  unfold pairOn
  simp only [first, pairs]

/-- No pair takes the frame, so it takes no sequence number (R207). -/
theorem takeSeqs_alone {s : State} {f : SwFrame} {o : Nat} (queued : f.queued = [o]) (alone : pairOn s o = false) : takeSeqs s f = (s, f) := by
  have none (k : Nat) : (pairOn s (2 * k) && (f.queued.contains (2 * k) || f.queued.contains (2 * k + 1))) = false := by
    rw [Bool.and_eq_false_iff, queued]
    by_cases mine : o = 2 * k ∨ o = 2 * k + 1
    · left
      obtain rfl | rfl := mine
      · exact alone
      · rwa [pairOn_second] at alone
    · have first : (2 * k == o) = false := beq_false_of_ne (by omega)
      have second : (2 * k + 1 == o) = false := beq_false_of_ne (by omega)
      exact .inr (by simp only [List.contains_cons, List.contains_nil, first, second, Bool.or_self])
  unfold takeSeqs
  simp only [List.foldl_cons, List.foldl_nil, none, Bool.false_eq_true, if_false, ite_self]

theorem queueFrame_one {s : State} {f : SwFrame} {pl : Place} {o : Nat} (queued : f.queued = [o]) (low : o < 24) (alone : pairOn s o = false) (takes : egState s o ≠ 2) :
    queueFrame s f pl [] = { cbsSettle s o with sw := { frames := s.sw.frames ++ [f], nextId := f.id + 1 } } := by
  have settled : ([o].filter (· < 24)).foldl cbsSettle s = cbsSettle s o := by simp [low]
  have alone : pairOn (cbsSettle s o) o = false := alone
  have sg : f.queued.contains 26 = false := by
    have other : (26 == o) = false := beq_false_of_ne (by omega)
    simp only [queued, List.contains_cons, List.contains_nil, other, Bool.or_self]
  unfold queueFrame
  simp only [queued, settled, takeSeqs_alone queued alone]
  rw [sgQueue, sg]
  simp only [Bool.not_false, if_true, List.foldl_cons, List.foldl_nil]
  exact if_neg fun h => takes h.2

/-! ### The frame is placed (R222 to R227) -/

theorem cellsOf_short {n : Nat} (short : n ≤ 224) : cellsOf n = 1 := by
  unfold cellsOf ceilDiv
  omega

/-- A port in HOLDING, or one that stores before it forwards. -/
theorem cutThrough_stores {s : State} {o : Nat} (stores : egState s o = 1 ∨ getB s (swR o 0) 0 = false) (f : SwFrame) (p : Nat) (ver : Bool) :
    cutThrough s f (some p) ver o = false := by
  unfold cutThrough
  obtain holding | store := stores
  · simp [holding]
  · simp [store]

/-- What a port `o` needs to take a frame of one cell and class `tc` from the planes that decided it. -/
structure Takes (s : State) (pl tc o : Nat) : Prop where
  low : o < 24
  class8 : tc < 8
  alone : pairOn s o = false
  takes : egState s o ≠ 2
  stores : egState s o = 1 ∨ getB s (swR o 0) 0 = false
  cells : cellsUse s < 131072
  plane : planeUse s pl + 1 ≤ getF s (0x180018 + 4 * pl) 17 0
  queue : qUse s o tc + 1 ≤ getF s (swR o (0x10 + 4 * tc)) 17 0
  port : portUse s o + 1 ≤ getF s (swR o 8) 17 0

/-- The verdict of one plane's decision for one port. -/
structure ForOne (v : Verdict) (o : Nat) : Prop where
  kept : v.drop = false
  targets : v.targets = [o]
  inner : v.sg = false
  noCopy : v.copy = false

/-- The frame `f` stored with one cell for port `o`, and what its charge has counted. -/
def PlacedFor (s t : State) (f : SwFrame) (o : Nat) : Prop :=
  (∃ g : SwFrame, t.sw.frames = s.sw.frames ++ [g] ∧ g.data = f.data ∧ g.queued = [o] ∧ g.sending = f.sending ∧ g.tc = f.tc ∧ g.vid = f.vid ∧ g.ingress = f.ingress ∧ g.cells = 1 ∧
      g.id = s.sw.nextId) ∧
    portUse t o = portUse s o + 1 ∧ qUse t o f.tc = qUse s o f.tc + 1 ∧ cellsUse t = cellsUse s + 1

theorem chargeCells_one (s : State) (w : Charge) (tc : Nat) : chargeCells 1 s w tc = chargeCell s w tc := rfl

/-- The charge with which `placeFrame` begins. -/
def Place.charge (pl : Place) : Charge :=
  { a := verdictTargets pl.va, b := verdictTargets pl.vb, d := pl.d, n := 0, na := 0, nb := 0, inA := pl.va.isSome, inB := pl.vb.isSome, chain := [], cut := [] }

theorem placeOf_charge_all {v : Verdict} {o : Nat} (one : ForOne v o) (pl : Nat) (auth : Bool) (comp : Nat) : (placeOf pl v auth comp).charge.all = [o] := by
  obtain ⟨kept, targets, inner, noCopy⟩ := one
  unfold Charge.all Place.charge placeOf
  split <;> simp [verdictTargets, kept, targets, inner, noCopy, List.eraseDups_cons]

/-- The frame as it is stored after the charge `w`. -/
def storedFrame (s : State) (f : SwFrame) (x : Place) (w : Charge) : SwFrame :=
  { f with id := s.sw.nextId, untag := untaggedOf s 0 x.va ++ untaggedOf s 1 x.vb, chain := w.chain, cells := w.n, cellsA := w.na, cellsB := w.nb, queued := w.all }

/-- No target begins by cut-through, and one is left after the charge. -/
theorem placeFrame_stored {s a : State} {f : SwFrame} {p : Nat} {x : Place} {w : Charge}
    (noCut : ∀ g, x.charge.all.filter (cutThrough s g (some p) x.auth) = []) (charged : chargeCells (cellsOf f.data.length) s x.charge f.tc = (a, w))
    (left : w.all.isEmpty = false) : placeFrame s f (some p) x = (queueFrame a (storedFrame s f x w) x [], true) := by
  have stomps : w.cut.filter ([] : List Nat).contains = [] := by simp [List.filter_eq_nil_iff]
  unfold Place.charge at noCut charged
  unfold placeFrame storedFrame
  simp only [noCut, charged, left, stomps, Bool.false_eq_true, if_false, List.filter_nil, List.foldl_nil]

theorem placeFrame_one {s : State} {f : SwFrame} {pl o p comp : Nat} {v : Verdict} {auth : Bool} (short : f.data.length ≤ 224) (hpl : pl < 2) (one : ForOne v o)
    (room : Takes s pl f.tc o) : PlacedFor s (placeFrame s f (some p) (placeOf pl v auth comp)).1 f o := by
  obtain ⟨low, class8, alone, takes, stores, cells, plane, queue, port⟩ := room
  generalize placed : placeOf pl v auth comp = x
  have all : x.charge.all = [o] := placed ▸ placeOf_charge_all one pl auth comp
  have roomA : x.charge.inA = true → planeUse s 0 + 1 ≤ getF s (0x180018 + 4 * 0) 17 0 := fun inA => by
    obtain rfl | rfl : pl = 0 ∨ pl = 1 := by omega
    · exact plane
    · simp [← placed, Place.charge, placeOf] at inA
  have roomB : x.charge.inB = true → planeUse s 1 + 1 ≤ getF s (0x180018 + 4 * 1) 17 0 := fun inB => by
    obtain rfl | rfl : pl = 0 ∨ pl = 1 := by omega
    · simp [← placed, Place.charge, placeOf] at inB
    · exact plane
  have cell := chargeAll_oneCell all class8 cells (lt_of_le_of_lt port (fld_lt ..)) (lt_of_le_of_lt queue (fld_lt ..))
  have charge : chargeCells (cellsOf f.data.length) s x.charge f.tc = chargeAll s x.charge f.tc := by
    rw [cellsOf_short short, chargeCells_one, chargeCell_room all cells roomA roomB queue port]
  generalize chargeAll s x.charge f.tc = y at cell charge
  obtain ⟨only, word, portUp, queueUp, cellsUp, eg, left, n⟩ := cell
  have queued : y.2.all = [o] := left.trans all
  have stored : y.1.sw = s.sw := by rw [only]
  have aloneAfter : pairOn y.1 o = false := (pairOn_congr (by rw [only]) (word _ (by unfold ethR; omega))).trans alone
  have noCut (g : SwFrame) : x.charge.all.filter (cutThrough s g (some p) x.auth) = [] := by
    rw [all]
    simp [cutThrough_stores stores]
  rw [placeFrame_stored noCut charge (by rw [queued]; rfl), queueFrame_one queued low aloneAfter (eg.symm ▸ takes), stored]
  exact ⟨⟨storedFrame s f x y.2, rfl, rfl, queued, rfl, rfl, rfl, rfl, n, rfl⟩, portUp, queueUp, cellsUp⟩

/-! ### From reception to the queue -/

/-- What the counters of reception and a decision leave of the switch (R217 to R233): the stored frames and every word of its own, and the pairs. -/
structure SwitchKept (s b : State) : Prop where
  sw : b.sw = s.sw
  force : b.inForce = s.inForce
  word : ∀ k, 0x180000 ≤ k → k < 0x182000 ∨ 0x182460 ≤ k → rd b k = rd s k
  prp : ∀ p, p < 25 → rd b (ethR p 0x24) = rd s (ethR p 0x24)

theorem switchKept_of_decided {s b : State} {p : Nat} {f : List Byte} (low : p < 24) (decided : Decided (rxCounted s p f) b) : SwitchKept s b where
  sw := by rw [decided.eq, rxCounted_only]
  force := by rw [decided.eq, rxCounted_only]
  word k hk hk' := (decided.word k hk').trans (rxCounted_outside low k (.inr hk))
  prp q hq := (decided.word _ (by unfold ethR; omega)).trans (rxCounted_ethR _ _ (by omega) (by omega))

section
variable {s b : State} (h : SwitchKept s b)
include h

theorem SwitchKept.getF (o hi lo : Nat) (low : 0x180000 ≤ o) (high : o < 0x182000 ∨ 0x182460 ≤ o) : getF b o hi lo = getF s o hi lo := by
  unfold Machine.getF
  rw [h.word o low high]

/-- A port's own row of the switch's registers. -/
theorem SwitchKept.row (q c hi lo : Nat) (hc : c < 0x100) : Machine.getF b (swR q c) hi lo = Machine.getF s (swR q c) hi lo :=
  h.getF _ _ _ (by unfold swR; split <;> omega) (by unfold swR; split <;> omega)

theorem SwitchKept.portUse (q : Nat) : portUse b q = portUse s q := h.row _ _ _ _ (by omega)
theorem SwitchKept.egState (q : Nat) : egState b q = egState s q := h.row _ _ _ _ (by omega)
theorem SwitchKept.qUse (q : Nat) {tc : Nat} (class8 : tc < 8) : qUse b q tc = qUse s q tc := h.row _ _ _ _ (by omega)
theorem SwitchKept.cellsUse : cellsUse b = cellsUse s := h.getF _ _ _ (by omega) (by omega)
theorem SwitchKept.pairOn {q : Nat} (low : q < 25) : pairOn b q = pairOn s q := pairOn_congr h.force (h.prp _ (by omega))

theorem SwitchKept.takes {pl tc o : Nat} (hpl : pl < 2) (t : Takes s pl tc o) : Takes b pl tc o where
  low := t.low
  class8 := t.class8
  alone := (h.pairOn (Nat.lt_succ_of_lt t.low)).trans t.alone
  takes := (h.egState o).symm ▸ t.takes
  stores := by
    have cut : getB b (swR o 0) 0 = getB s (swR o 0) 0 := by
      unfold getB
      rw [h.word _ (by unfold swR; split <;> omega) (by unfold swR; split <;> omega)]
    rw [h.egState, cut]
    exact t.stores
  cells := h.cellsUse.symm ▸ t.cells
  plane := by
    have use : planeUse b pl = planeUse s pl := h.getF _ _ _ (by omega) (by omega)
    rw [use, h.getF _ _ _ (by omega) (by omega)]
    exact t.plane
  queue := by
    have class8 := t.class8
    rw [h.qUse o class8, h.row _ _ _ _ (by omega)]
    exact t.queue
  port := by
    rw [h.portUse, h.row _ _ _ _ (by omega)]
    exact t.port

theorem SwitchKept.placed {t : State} {f : SwFrame} {o : Nat} (class8 : f.tc < 8) (placed : PlacedFor b t f o) : PlacedFor s t f o := by
  unfold PlacedFor at placed
  rwa [h.sw, h.portUse, h.qUse o class8, h.cellsUse] at placed

end

theorem rxSwitch_placed {s a b : State} {p pl o : Nat} {f : List Byte} {d : DecIn} {v : Verdict} (low : p < 24) (counted : a = rxCounted s p f) (alone : pairOn s p = false)
    (on : getB s 0x180000 0 = true) (plane : pl = planeOf s p) (input : d = { q := p, phys := some p, comp := portOwner a p, tc := none, data := f })
    (decided : decide1 a pl d = (b, v)) (one : ForOne v o) (room : Takes s pl v.tc o) (short : f.length ≤ 224) (auth : Bool) :
    PlacedFor s (rxSwitch a p f auth) { newFrame f p (ingressStamp b p) (csumChk b p) with tc := v.tc, vid := v.vid } o := by
  have hpl : pl < 2 := plane ▸ planeOf_lt s p
  have onAfter : getB a 0x180000 0 = true := by
    unfold getB
    rw [counted, rxCounted_outside low _ (by omega)]
    exact on
  have planeAfter : pl = planeOf a p := by
    rw [plane, counted]
    exact (planeOf_congr (by rw [rxCounted_only]) (rxCounted_outside low _ (by omega)) p).symm
  have kept : SwitchKept s b := switchKept_of_decided low (f := f) (by
    rw [← counted, show b = (decide1 a pl d).1 by rw [decided]]
    exact decide1_decided a (input ▸ Nat.lt_add_right 3 low) hpl)
  rw [rxSwitch_decided onAfter (counted ▸ (rxCounted_pairOn p).trans alone) planeAfter input decided one.kept one.inner]
  exact kept.placed room.class8 (placeFrame_one short hpl one (kept.takes hpl room))

/-! ### The row -/

theorem ethFrameReceived_queued (p : Port) {f : RxFrame} {s a b : State} {d : DecIn} {v : Verdict} {o pl : Nat} (low : p.val < 24) (forward : portState s p = 3)
    (passed : rxCheck s p f = none) (type : etherType f.bytes ≠ 0x888E) (kind : beAt f.bytes 12 2 ≠ 0x8808) (alone : pairOn s p = false) (clear : msOn s p = false)
    (ordinary : linkLocal f.bytes = false) (group : ptpGroup f.bytes = false) (on : getB s 0x180000 0 = true) (short : f.bytes.length ≤ 224)
    (counted : a = rxCounted s p f.bytes) (plane : pl = planeOf s p)
    (input : d = { q := p.val, phys := some p.val, comp := portOwner a p, tc := none, data := f.bytes }) (decided : decide1 a pl d = (b, v)) (one : ForOne v o)
    (room : Takes s pl v.tc o) : Answers (.ethFrameReceived p f) s fun t =>
      (∃ g : SwFrame, t.sw.frames = s.sw.frames ++ [g] ∧ g.data = f.bytes ∧ g.queued = [o] ∧ g.sending = [] ∧ g.tc = v.tc ∧ g.vid = v.vid ∧ g.ingress = p.val ∧ g.cells = 1 ∧
        g.id = s.sw.nextId) ∧
      portUse t o = portUse s o + 1 ∧ qUse t o v.tc = qUse s o v.tc + 1 ∧ cellsUse t = cellsUse s + 1 := by
  refine ⟨_, exec_ethFrameReceived p f s, ?_⟩
  rw [ethReceive_passed low (by omega) passed kind alone clear, rxSort_switch type ((rxCounted_portState low p).trans forward) ordinary group, ← counted]
  exact rxSwitch_placed low counted alone on plane input decided one room short false

end Sys2Proof.Machine
end

section
/-!
PROOFS. O36: the rows of the Ethernet ports together.
-/
namespace Sys2Proof.Machine

/-- Settles O36: a received frame by the check that fails, by its kind and by the port's state; a frame for one port by what its decision and its charge
leave; the frames that the port sends. -/
theorem ethernetFrames : Obligations.EthernetFrames := by
  unfold Obligations.EthernetFrames
  refine ⟨fun p f s => ⟨ethFrameReceived_down p, fun c => ethFrameReceived_failed p, ethFrameReceived_pause p, ethFrameReceived_eapol p, ethFrameReceived_off p⟩, ?_,
    fun p s => ⟨pauseWindowEnd_over p, pauseWindowEnd_runs p, fun f a g => egressFrameStart_sends p, fun id => ethFrameTxComplete_sends p⟩⟩
  intro p f s a b d v o pl low forward passed type kind alone clear ordinary group on short counted plane input decided kept targets port inner noCopy alone' takes stores cells
    planeRoom queue class8 portRoom
  exact ethFrameReceived_queued p low forward passed type kind alone clear ordinary group on short counted plane input decided ⟨kept, targets, inner, noCopy⟩
    ⟨port, class8, alone', takes, stores, cells, planeRoom, queue, portRoom⟩

end Sys2Proof.Machine
end

section
/-!
PROOFS. The time unit (R266 to R279): what an event of a tracked domain, a change of mode, TIME_INC and a step of LT leave, once per operation.
-/
namespace Sys2Proof.Machine

/-! ### What the time unit never touches -/

/-- Nothing changes but the time unit with its registers, TIME_LOCKED and the journals. -/
structure TimeUnit (s t : State) : Prop where
  eq : t = { s with regs := t.regs, time := t.time, jnl := t.jnl, house := t.house }
  word : ∀ o, o ≠ 0x14 → (o < 0x40000 ∨ 0x41010 ≤ o) → (o < 0x60000 ∨ 0x60200 ≤ o) → rd t o = rd s o
  ready : ∀ b, b ≠ 10 → getB t 0x14 b = getB s 0x14 b

/-- Registers as they were. -/
theorem TimeUnit.of_regs {s t : State} (eq : t = { s with time := t.time, jnl := t.jnl, house := t.house }) : TimeUnit s t where
  eq := by rw [eq]
  word _ _ _ _ := by rw [eq]; rfl
  ready _ _ := by rw [eq]; rfl

theorem TimeUnit.refl (s : State) : TimeUnit s s := .of_regs rfl

theorem TimeUnit.trans {s a t : State} (h : TimeUnit s a) (h' : TimeUnit a t) : TimeUnit s t where
  eq := by rw [h'.eq, h.eq]
  word o h1 h2 h3 := (h'.word o h1 h2 h3).trans (h.word o h1 h2 h3)
  ready b hb := (h'.ready b hb).trans (h.ready b hb)

theorem TimeUnit.ite {s a b : State} {p : Prop} [Decidable p] (h : TimeUnit s a) (h' : TimeUnit s b) : TimeUnit s (if p then a else b) := by
  split <;> assumption

theorem TimeUnit.time {s a : State} (h : TimeUnit s a) (x : Time) : TimeUnit s { a with time := x } := h.trans (.of_regs rfl)

/-- A word of the time unit's own. -/
theorem TimeUnit.wr {s a : State} (h : TimeUnit s a) (o : Nat) (w : Word) (mine : 0x60000 ≤ o ∧ o < 0x60200) : TimeUnit s (wr a o w) :=
  h.trans ⟨rfl, fun k _ _ h3 => rd_wr_ne _ _ _ _ (by omega), fun b _ => getB_wr_other _ _ _ _ _ (by omega)⟩

theorem TimeUnit.item {s a : State} (h : TimeUnit s a) (o lo ty src : Nat) (pay : List Byte) : TimeUnit s (evtItem a o lo ty src pay) := by
  refine h.trans ⟨?_, fun k _ hk _ => rd_evtItem a o lo ty src pay k hk, fun b _ => congrArg (BitVec.getLsbD · b) (rd_evtItem a o lo ty src pay 0x14 (by omega))⟩
  obtain ⟨r, x, n, e, -⟩ := evtItem_only a o lo ty src pay
  rw [e]

theorem TimeUnit.foldl {α : Type} {s : State} {f : State → α → State} (h : ∀ a x, TimeUnit a (f a x)) (l : List α) : TimeUnit s (l.foldl f s) := by
  induction l generalizing s with
  | nil => exact .refl s
  | cons x l ih => exact (h s x).trans ih

theorem setTd_timeUnit (s : State) (d : Nat) (x : TdRt) : TimeUnit s (setTd s d x) := by
  unfold setTd
  split <;> exact .of_regs rfl

@[simp] theorem rd_setTd (s : State) (d : Nat) (x : TdRt) (o : Nat) : rd (setTd s d x) o = rd s o := by
  unfold setTd
  split <;> rfl

theorem rd_setOff {s : State} {d : Nat} {off : Int} (o : Nat) (other : o ≠ tdR d 4) (other' : o ≠ tdR d 8) : rd (setOff s d off) o = rd s o := by
  unfold setOff
  rw [rd_wr_ne _ _ _ _ other', rd_wr_ne _ _ _ _ other, rd_setTd]

theorem setOff_timeUnit (s : State) {d : Nat} (low : d < 2) (off : Int) : TimeUnit s (setOff s d off) := by
  unfold setOff
  exact ((setTd_timeUnit ..).wr _ _ (by unfold tdR; omega)).wr _ _ (by unfold tdR; omega)

/-- The lines after a step (R285), and the words and domains that they leave. -/
theorem teResync_only (s : State) : ∃ te, teResync s = { s with time := { s.time with te := te } } := by
  unfold teResync
  generalize List.range 16 = l
  induction l generalizing s with
  | nil => exact ⟨s.time.te, rfl⟩
  | cons n l ih =>
    rw [List.foldl_cons]
    split
    · obtain ⟨te, e⟩ := ih (setTe s n { teAt s n with done := ltNsUp s, active := teInside s n (ltNs s) })
      exact ⟨te, e.trans rfl⟩
    · exact ih s

theorem jnlStepped_only (s : State) : ∃ j, jnlStepped s = { s with jnl := j } := by
  unfold jnlStepped
  generalize List.range 64 = l
  induction l generalizing s with
  | nil => exact ⟨s.jnl, rfl⟩
  | cons n l ih =>
    rw [List.foldl_cons]
    obtain ⟨j, e⟩ := ih (setJnl s n { jnlAt s n with stepFl := true })
    exact ⟨j, e.trans rfl⟩

/-! ### A step of LT (R275) -/

/-- LT and both offsets moved by `x` nanoseconds, before the step is noted. -/
def movedLt (s : State) (x : Int) : State :=
  let a := setLt s (((s.time.lt : Int) + x * (2 ^ 32 : Nat)).toNat)
  let b := setOff (setOff a 0 ((tdAt a 0).off - x)) 1 ((tdAt a 1).off - x)
  let c := setTd b 0 { tdAt b 0 with upd := (tdAt b 0).upd.map (shiftNs · x) }
  let e := setTd c 1 { tdAt c 1 with upd := (tdAt c 1).upd.map (shiftNs · x) }
  { e with time := { e.time with holdAt := shiftNs e.time.holdAt x } }

/-- The step noted: STEP_ARMED cleared, counted and reported. -/
def notedStep (s : State) : State := raise (incC (setB s 0x6000C 2 false) 0x60110) 0x60000 1

/-- The time unit with LT and both offsets moved by `x` nanoseconds. -/
def movedTime (m : Time) (x : Int) : Time :=
  { m with
    lt := ((m.lt : Int) + x * (2 ^ 32 : Nat)).toNat % ltModulus
    td0 := { m.td0 with off := m.td0.off - x, upd := m.td0.upd.map (shiftNs · x) }
    td1 := { m.td1 with off := m.td1.off - x, upd := m.td1.upd.map (shiftNs · x) }
    holdAt := shiftNs m.holdAt x }

theorem movedLt_time (s : State) (x : Int) : (movedLt s x).time = movedTime s.time x := rfl

theorem movedLt_timeUnit (s : State) (x : Int) : TimeUnit s (movedLt s x) := by
  unfold movedLt
  have lt : TimeUnit s (setLt s (((s.time.lt : Int) + x * (2 ^ 32 : Nat)).toNat)) := .of_regs rfl
  exact ((((lt.trans (setOff_timeUnit _ (by decide) _)).trans (setOff_timeUnit _ (by decide) _)).trans (setTd_timeUnit ..)).trans (setTd_timeUnit ..)).time _

theorem rd_movedLt (s : State) (x : Int) (o : Nat) (other : o ∉ [0x60054, 0x60058, 0x60074, 0x60078]) : rd (movedLt s x) o = rd s o := by
  simp only [List.mem_cons, List.not_mem_nil, or_false, not_or] at other
  obtain ⟨h1, h2, h3, h4⟩ := other
  unfold movedLt
  refine (rd_setTd ..).trans <| (rd_setTd ..).trans <| (rd_setOff o ?_ ?_).trans <| rd_setOff o ?_ ?_
  all_goals unfold tdR; omega

/-- A step is the move of LT, the lines resynchronised, the step noted and an item. -/
theorem stepLt_eq (s : State) (x : Int) (cause : Nat) :
    ∃ te j pay, stepLt s x cause =
      evtItem { notedStep { movedLt s x with time := { (movedLt s x).time with te := te } } with jnl := j } 0x60008 5 0x72 0 pay := by
  have whole : ∃ pay, stepLt s x cause = evtItem (jnlStepped (notedStep (teResync (movedLt s x)))) 0x60008 5 0x72 0 pay := ⟨_, rfl⟩
  obtain ⟨pay, e⟩ := whole
  generalize movedLt s x = m at e ⊢
  obtain ⟨te, lines⟩ := teResync_only m
  rw [lines] at e
  obtain ⟨j, stepped⟩ := jnlStepped_only (notedStep { m with time := { m.time with te := te } })
  exact ⟨te, j, pay, e.trans (by rw [stepped])⟩

theorem notedStep_timeUnit {s a : State} (h : TimeUnit s a) : TimeUnit s (notedStep a) :=
  ((h.wr _ _ (by omega)).wr _ _ (by omega)).wr _ _ (by omega)

theorem TimeUnit.jnl {s a : State} (h : TimeUnit s a) (j : SMap Jnl) : TimeUnit s { a with jnl := j } := h.trans (.of_regs rfl)

theorem stepLt_timeUnit (s : State) (x : Int) (cause : Nat) : TimeUnit s (stepLt s x cause) := by
  obtain ⟨te, j, pay, e⟩ := stepLt_eq s x cause
  have moved := movedLt_timeUnit s x
  generalize movedLt s x = m at e moved
  have noted : TimeUnit s (notedStep { m with time := { m.time with te := te } }) := notedStep_timeUnit (moved.time _)
  generalize notedStep { m with time := { m.time with te := te } } = n at e noted
  rw [e]
  exact (noted.jnl j).item ..

/-- What a step of `x` nanoseconds leaves (R275). -/
structure Stepped (s t : State) (x : Int) : Prop where
  lt : t.time.lt = ((s.time.lt : Int) + x * (2 ^ 32 : Nat)).toNat % ltModulus
  off0 : (tdAt t 0).off = (tdAt s 0).off - x
  off1 : (tdAt t 1).off = (tdAt s 1).off - x
  disarmed : getB t 0x6000C 2 = false
  counted : rd t 0x60110 = rd s 0x60110 + 1
  event : getB t 0x60000 1 = true

theorem notedStep_spec (s : State) : (notedStep s).time = s.time ∧ getB (notedStep s) 0x6000C 2 = false ∧ rd (notedStep s) 0x60110 = rd s 0x60110 + 1 ∧
    getB (notedStep s) 0x60000 1 = true := by
  unfold notedStep
  refine ⟨?_, ?_, ?_, getB_raise_same _ _ _ (by omega)⟩
  · rw [raise_time, incC_eq, wr_time, setB_time]
  · rw [getB_raise_other _ _ _ _ _ (by omega) (by omega), incC_eq, getB_wr_other _ _ _ _ _ (by omega), getB_setB_same _ _ _ _ (by omega)]
  · rw [rd_raise, if_neg (by decide), incC_eq, rd_wr_same, rd_setB, if_neg (by decide)]
    rfl

theorem stepLt_stepped (s : State) (x : Int) (cause : Nat) : Stepped s (stepLt s x cause) x := by
  obtain ⟨te, j, pay, e⟩ := stepLt_eq s x cause
  have moved := rd_movedLt s x 0x60110 (by decide)
  have clock := movedLt_time s x
  generalize movedLt s x = m at e moved clock
  obtain ⟨clock', disarmed, counted, event⟩ := notedStep_spec { m with time := { m.time with te := te } }
  generalize notedStep { m with time := { m.time with te := te } } = n at e clock' disarmed counted event
  have time : (stepLt s x cause).time = { movedTime s.time x with te := te } := by
    rw [e, evtItem_time, ← clock]
    exact clock'
  have word (o : Nat) (other : o < 0x40000 ∨ 0x41010 ≤ o) : rd (stepLt s x cause) o = rd n o := by
    rw [e]
    exact rd_evtItem _ _ _ _ _ _ _ other
  have bit (o b : Nat) (other : o < 0x40000 ∨ 0x41010 ≤ o) : getB (stepLt s x cause) o b = getB n o b := by
    unfold getB
    rw [word o other]
  generalize stepLt s x cause = t at time word bit
  exact ⟨by rw [time]; rfl, by unfold tdAt; rw [time]; rfl, by unfold tdAt; rw [time]; rfl, (bit _ _ (by omega)).trans disarmed,
    (word _ (by omega)).trans (counted.trans (congrArg (· + 1) moved)), (bit _ _ (by omega)).trans event⟩

end Sys2Proof.Machine
end

section
/-!
PROOFS. The domains, the modes and TIME_INC (R273 to R278), once per operation.
-/
namespace Sys2Proof.Machine

/-! ### The domains' events (R273) -/

/-- What an event of a domain leaves: only what it remembers of tracking, and LOSS_EV. -/
structure Judged (s a : State) : Prop where
  eq : a = { s with regs := a.regs, time := a.time }
  time : a.time = { s.time with td0 := a.time.td0, td1 := a.time.td1 }
  td0 : a.time.td0 = { s.time.td0 with wasTracking := a.time.td0.wasTracking }
  td1 : a.time.td1 = { s.time.td1 with wasTracking := a.time.td1.wasTracking }
  word : ∀ o, o ≠ 0x60000 → rd a o = rd s o

theorem Judged.trans {s a b : State} (h : Judged s a) (h' : Judged a b) : Judged s b where
  eq := by rw [h'.eq, h.eq]
  time := by rw [h'.time, h.time]
  td0 := by rw [h'.td0, h.td0]
  td1 := by rw [h'.td1, h.td1]
  word o ho := (h'.word o ho).trans (h.word o ho)

/-- LOSS_EV of a domain that has stopped tracking. -/
def lossNoted (s : State) (d : Nat) : State := if (tdAt s d).wasTracking && !tracking s d then raise s 0x60000 (4 + d) else s

theorem tdEvents_eq (s : State) (d : Nat) : tdEvents s d = setTd (lossNoted s d) d { tdAt (lossNoted s d) d with wasTracking := tracking s d } := rfl

theorem tdEvents_judged (s : State) (d : Nat) : Judged s (tdEvents s d) := by
  have noted : Judged s (lossNoted s d) := by
    unfold lossNoted
    split
    · exact ⟨rfl, rfl, rfl, rfl, fun o ho => rd_wr_ne _ _ _ _ ho⟩
    · exact ⟨rfl, rfl, rfl, rfl, fun _ _ => rfl⟩
  refine noted.trans ?_
  rw [tdEvents_eq]
  generalize lossNoted s d = a
  refine ⟨?_, ?_, ?_, ?_, fun o _ => rd_setTd ..⟩ <;> unfold setTd tdAt <;> split <;> rfl

section
variable {s a : State} (h : Judged s a)
include h

theorem Judged.timeUnit : TimeUnit s a where
  eq := by rw [h.eq]
  word o _ _ other := h.word o (by omega)
  ready b _ := congrArg (BitVec.getLsbD · b) (h.word 0x14 (by omega))

theorem Judged.getF (o hi lo : Nat) (other : o ≠ 0x60000) : getF a o hi lo = getF s o hi lo := by
  unfold Machine.getF
  rw [h.word o other]

theorem Judged.getB (o b : Nat) (other : o ≠ 0x60000) : getB a o b = getB s o b := by
  unfold Machine.getB
  rw [h.word o other]

theorem Judged.mode : timeMode a = timeMode s := h.getF _ _ _ (by omega)
theorem Judged.sel : timeSel a = timeSel s := h.getF _ _ _ (by omega)
theorem Judged.lt : a.time.lt = s.time.lt := by rw [h.time]

theorem Judged.ltNs : ltNs a = ltNs s := by
  unfold Machine.ltNs
  rw [h.lt]

theorem Judged.td (d : Nat) : tdAt a d = { tdAt s d with wasTracking := (tdAt a d).wasTracking } := by
  unfold tdAt
  split
  · exact h.td0
  · exact h.td1

theorem Judged.tracking (d : Nat) : tracking a d = tracking s d := by
  unfold Machine.tracking
  rw [h.getB _ _ (by unfold tdR; omega), h.td d, h.ltNs]

theorem Judged.holdOver : holdOver a = holdOver s := by
  unfold Machine.holdOver
  rw [h.getF _ _ _ (by omega), h.ltNs, h.time]

theorem Judged.incLocked : incLocked a = incLocked s := by
  unfold Machine.incLocked
  rw [h.time, h.eq]

theorem Judged.incAvg : incAvg a = incAvg s := by
  unfold Machine.incAvg
  rw [h.incLocked]

end

/-! ### The values of TIME_INC while locked (R276) -/

theorem incTake_idem (n : Nat) (l : List (Nat × Nat)) : incTake n (incTake n l) = incTake n l := by
  induction l generalizing n with
  | nil => simp [incTake]
  | cons x l ih =>
    rw [incTake]
    split
    · split
      · simp [incTake]
      · simp [incTake, *]
    · rw [incTake, if_neg ‹_›, ih]

/-- Once the history is closed and no time in lock runs on, it is what it was. -/
theorem incLocked_closed {s a : State} (hist : a.time.incHist = incLocked s) (stopped : a.time.incFrom = none) : incLocked a = incLocked s := by
  have idem : incTake incWindow (incLocked s) = incLocked s := incTake_idem ..
  unfold incLocked at *
  rw [stopped, hist]
  exact idem

/-- With time in lock running on since this tick, the mean is what it was. -/
theorem incAvg_closed {s a : State} (hist : a.time.incHist = incLocked s) (stopped : a.time.incFrom = none) : incAvg a = incAvg s := by
  unfold incAvg
  rw [incLocked_closed hist stopped]

/-! ### A change of mode (R277) -/

/-- What a change to a mode leaves: MODE_CUR and SEL, MODE_EV, the history of TIME_INC closed. -/
structure ToMode (s t : State) (mode sel : Nat) : Prop where
  unit : TimeUnit s t
  word : ∀ o, (o < 0x40000 ∨ 0x41010 ≤ o) → o ∉ [0x14, 0x60000, 0x60008, 0x6000C] → rd t o = rd s o
  time : t.time = { s.time with incHist := incLocked s, incFrom := t.time.incFrom }
  run : t.time.incFrom = if (mode == 1 || mode == 2) = true then some s.ticks else none
  mode : mode < 4 → timeMode t = mode
  sel : sel < 2 → timeSel t = sel
  step : ∀ b, 2 ≤ b → getB t 0x6000C b = getB s 0x6000C b
  event : getB t 0x60000 0 = true

/-- SEL as a change of mode sets it (R277). -/
def selTo (s : State) (sel : Nat) : State := if timeSel s = sel then s else raise (setF s 0x60008 0 0 sel) 0x60000 6

theorem toMode_eq (s : State) (mode sel cause : Nat) : ∃ pay, toMode s mode sel cause =
    evtItem (raise (setB (setF (selTo (incClose s (mode == 1 || mode == 2)) sel) 0x6000C 1 0 mode) 0x14 10 (mode == 1 || mode == 2)) 0x60000 0) 0x60008 5 0x70 0 pay := ⟨_, rfl⟩

theorem selTo_spec (s : State) (sel : Nat) : RegsOnly s (selTo s sel) ∧ (∀ o, o ∉ [0x60000, 0x60008] → rd (selTo s sel) o = rd s o) ∧ (sel < 2 → timeSel (selTo s sel) = sel) := by
  unfold selTo
  split
  · exact ⟨rfl, fun _ _ => rfl, fun _ => ‹_›⟩
  · refine ⟨rfl, fun o ho => ?_, fun low => ?_⟩
    · simp only [List.mem_cons, List.not_mem_nil, or_false, not_or] at ho
      rw [rd_raise, if_neg ho.1, rd_setF, if_neg ho.2]
    · unfold timeSel
      rw [raise_eq, getF_wr_other _ _ _ _ _ _ (by omega), getF_setF_same _ _ _ _ _ (by omega) (by omega) low]

theorem toMode_spec (s : State) (mode sel cause : Nat) : ToMode s (toMode s mode sel cause) mode sel := by
  obtain ⟨pay, e⟩ := toMode_eq s mode sel cause
  obtain ⟨only, word, chosen⟩ := selTo_spec (incClose s (mode == 1 || mode == 2)) sel
  generalize selTo (incClose s (mode == 1 || mode == 2)) sel = a at e only word chosen
  have closed : RegsOnly (incClose s (mode == 1 || mode == 2)) (raise (setB (setF a 0x6000C 1 0 mode) 0x14 10 (mode == 1 || mode == 2)) 0x60000 0) :=
    ((only.setF ..).setB ..).raise ..
  have inner (o : Nat) (other : o < 0x40000 ∨ 0x41010 ≤ o) :
      rd (toMode s mode sel cause) o = rd (raise (setB (setF a 0x6000C 1 0 mode) 0x14 10 (mode == 1 || mode == 2)) 0x60000 0) o := by
    rw [e]
    exact rd_evtItem _ _ _ _ _ _ _ other
  have kept (o : Nat) (other : o < 0x40000 ∨ 0x41010 ≤ o) (mine : o ∉ [0x14, 0x60000, 0x60008, 0x6000C]) : rd (toMode s mode sel cause) o = rd s o := by
    simp only [List.mem_cons, List.not_mem_nil, or_false, not_or] at mine
    obtain ⟨h1, h2, h3, h4⟩ := mine
    rw [inner o other, rd_raise, if_neg h2, rd_setB, if_neg h1, rd_setF, if_neg h4, word o (by simp [h2, h3])]
    rfl
  have time : (toMode s mode sel cause).time = (incClose s (mode == 1 || mode == 2)).time := by
    rw [e, evtItem_time, closed]
  have modeWord : rd (toMode s mode sel cause) 0x6000C = putFld (rd s 0x6000C) 1 0 mode := by
    rw [inner _ (by omega), rd_raise, if_neg (by decide), rd_setB, if_neg (by decide), rd_setF, if_pos rfl, word _ (by decide)]
    rfl
  refine ⟨⟨?_, fun o _ h2 h3 => kept o h2 ?_, fun b hb => ?_⟩, kept, by rw [time]; rfl, congrArg Time.incFrom time, fun low => ?_, fun low => ?_, fun b hb => ?_, ?_⟩
  · rw [e]
    generalize raise (setB (setF a 0x6000C 1 0 mode) 0x14 10 (mode == 1 || mode == 2)) 0x60000 0 = n at closed
    obtain ⟨r, x, h, e', -⟩ := evtItem_only n 0x60008 5 0x70 0 pay
    rw [e', closed]
    rfl
  · simp only [List.mem_cons, List.not_mem_nil, or_false, not_or]
    omega
  · unfold getB
    rw [inner _ (by omega)]
    refine (getB_raise_other _ _ _ _ _ (by omega) (by omega)).trans <| (getB_setB_other _ _ _ _ _ _ (by omega) (.inr hb)).trans ?_
    unfold getB
    rw [rd_setF, if_neg (by decide), word _ (by decide)]
    rfl
  · unfold timeMode getF
    rw [modeWord, fld_putFld_same _ _ _ _ (by omega) (by omega)]
    exact Nat.mod_eq_of_lt low
  · unfold timeSel getF
    rw [inner _ (by omega), rd_raise, if_neg (by decide), rd_setB, if_neg (by decide), rd_setF, if_neg (by decide)]
    exact chosen low
  · unfold getB
    rw [modeWord, getLsbD_putFld _ _ _ _ _ (by omega) (by omega), if_neg (by omega)]
  · unfold getB
    rw [inner _ (by omega)]
    exact getB_raise_same _ _ _ (by omega)

/-! ### TIME_INC set (R276) -/

/-- What TIME_INC set to `x` leaves. -/
structure IncSet (s t : State) (x : Nat) : Prop where
  eq : t = { s with regs := t.regs, time := t.time }
  word : ∀ o, o ≠ 0x60010 → o ≠ 0x60014 → rd t o = rd s o
  time : t.time = { s.time with inc := x, incHist := t.time.incHist, incFrom := t.time.incFrom }
  frac : rd t 0x60014 = BitVec.ofNat 32 x
  whole : getF t 0x60010 7 0 = x / 2 ^ 32 % 2 ^ 8

theorem setInc_spec (s : State) (x : Nat) : IncSet s (setInc s x) x := by
  unfold setInc
  refine ⟨rfl, fun o h h' => ?_, rfl, rd_wr_same .., ?_⟩
  · rw [rd_wr_ne _ _ _ _ h', rd_setF, if_neg h]
    rfl
  · rw [getF_wr_other _ _ _ _ _ _ (by omega)]
    unfold getF
    rw [rd_setF, if_pos rfl, fld_putFld_same _ _ _ _ (by omega) (by omega)]

theorem IncSet.timeUnit {s t : State} {x : Nat} (h : IncSet s t x) : TimeUnit s t where
  eq := by rw [h.eq]
  word o _ _ other := h.word o (by omega) (by omega)
  ready b _ := congrArg (BitVec.getLsbD · b) (h.word 0x14 (by omega) (by omega))

/-! ### HOLDOVER and LOCKED (R277, R278) -/

/-- What HOLDOVER leaves: TIME_INC is the mean of the values in lock, unless the source of the time base changed. -/
structure HeldOver (s t : State) (cause : Nat) : Prop where
  unit : TimeUnit s t
  word : ∀ o, (o < 0x40000 ∨ 0x41010 ≤ o) → o ∉ [0x14, 0x60000, 0x60008, 0x6000C, 0x60010, 0x60014] → rd t o = rd s o
  time : t.time = { s.time with inc := t.time.inc, incHist := t.time.incHist, incFrom := t.time.incFrom, holdAt := ltNs s }
  inc : cause ≠ 4 → t.time.inc = incAvg s
  mode : timeMode t = 3
  event : getB t 0x60000 0 = true

/-- HOLDOVER entered, before TIME_INC is set. -/
def holdoverAt (s : State) (cause : Nat) : State := { toMode s 3 (timeSel s) cause with time := { (toMode s 3 (timeSel s) cause).time with holdAt := ltNs (toMode s 3 (timeSel s) cause) } }

theorem enterHoldover_eq (s : State) (cause : Nat) : enterHoldover s cause = if cause = 4 then holdoverAt s cause else setInc (holdoverAt s cause) (incAvg (holdoverAt s cause)) := rfl

theorem holdoverAt_heldOver (s : State) (cause : Nat) : HeldOver s (holdoverAt s cause) 4 ∧ incAvg (holdoverAt s cause) = incAvg s := by
  have change := toMode_spec s 3 (timeSel s) cause
  unfold holdoverAt
  generalize toMode s 3 (timeSel s) cause = a at change
  obtain ⟨unit, word, time, run, mode, -, -, event⟩ := change
  have stopped : a.time.incFrom = none := run
  have lt : a.time.lt = s.time.lt := by rw [time]
  have now : ltNs a = ltNs s := by
    unfold ltNs
    rw [lt]
  refine ⟨⟨unit.time _, fun o other mine => word o other fun old => mine ?_, by rw [now, time], fun h => absurd rfl h, mode (by omega), event⟩,
    incAvg_closed (by rw [time]) stopped⟩
  simp only [List.mem_cons, List.not_mem_nil, or_false] at old ⊢
  omega

theorem enterHoldover_heldOver (s : State) (cause : Nat) : HeldOver s (enterHoldover s cause) cause := by
  obtain ⟨⟨unit, word, time, -, mode, event⟩, mean⟩ := holdoverAt_heldOver s cause
  rw [enterHoldover_eq]
  split
  · exact ⟨unit, word, time, fun h => absurd ‹_› h, mode, event⟩
  · rw [mean]
    generalize holdoverAt s cause = a at *
    have set := setInc_spec a (incAvg s)
    generalize setInc a (incAvg s) = t at set
    have bits (o : Nat) (h : o ≠ 0x60010) (h' : o ≠ 0x60014) : rd t o = rd a o := set.word o h h'
    refine ⟨unit.trans set.timeUnit, fun o other mine => ?_, by rw [set.time, time], fun _ => by rw [set.time], ?_, ?_⟩
    · simp only [List.mem_cons, List.not_mem_nil, or_false, not_or] at mine
      exact (bits o (by omega) (by omega)).trans (word o other (by simp only [List.mem_cons, List.not_mem_nil, or_false, not_or]; omega))
    · unfold timeMode getF at *
      rwa [bits _ (by omega) (by omega)]
    · unfold getB at *
      rwa [bits _ (by omega) (by omega)]

/-- LOCKED is a change of mode, and a step behind it where one is armed (R278). -/
theorem enterLocked_eq (s : State) (d cause : Nat) : enterLocked s d cause =
    if getB (toMode s (1 + d) d cause) 0x6000C 2 && timeMode s != 1 && timeMode s != 2 then stepLt (toMode s (1 + d) d cause) (tdAt (toMode s (1 + d) d cause) d).off 0
    else toMode s (1 + d) d cause := rfl

theorem enterLocked_plain {s : State} {d cause : Nat} (plain : getB s 0x6000C 2 = false ∨ timeMode s = 1 ∨ timeMode s = 2) :
    enterLocked s d cause = toMode s (1 + d) d cause := by
  have change := (toMode_spec s (1 + d) d cause).step 2 (by omega)
  rw [enterLocked_eq, change, if_neg]
  obtain h | h | h := plain <;> simp [h]

theorem enterLocked_timeUnit (s : State) (d cause : Nat) : TimeUnit s (enterLocked s d cause) := by
  have change := (toMode_spec s (1 + d) d cause).unit
  rw [enterLocked_eq]
  exact .ite (change.trans (stepLt_timeUnit ..)) change

/-! ### The exits of the present mode (R277) -/

/-- Both domains judged. -/
def judged (s : State) : State := tdEvents (tdEvents s 0) 1

theorem judged_spec (s : State) : Judged s (judged s) := (tdEvents_judged s 0).trans (tdEvents_judged _ 1)

/-- The exits of the present mode, in the order listed, by what `s` holds. -/
theorem timeEval_eq (s : State) : timeEval s =
    if timeMode s = 1 ∨ timeMode s = 2 then
      if tracking s (timeSel s) then judged s
      else if getB s 0x60008 1 && tracking s (1 - timeSel s) then enterLocked (judged s) (1 - timeSel s) 1 else enterHoldover (judged s) 1
    else if tracking s (timeSel s) then enterLocked (judged s) (timeSel s) 0
    else if getB s 0x60008 1 && tracking s (1 - timeSel s) then enterLocked (judged s) (1 - timeSel s) 0
    else if timeMode s = 3 && holdOver s then toMode (judged s) 0 (timeSel s) 3
    else judged s := by
  have h := judged_spec s
  unfold timeEval
  show (if timeMode (judged s) = 1 ∨ timeMode (judged s) = 2 then _ else _) = _
  simp only [show tdEvents (tdEvents s 0) 1 = judged s from rfl, h.mode, h.sel, h.tracking, h.holdOver, h.getB 0x60008 1 (by omega)]

theorem timeEval_timeUnit (s : State) : TimeUnit s (timeEval s) := by
  have unit := (judged_spec s).timeUnit
  have locked (d cause : Nat) : TimeUnit s (enterLocked (judged s) d cause) := unit.trans (enterLocked_timeUnit ..)
  rw [timeEval_eq]
  exact .ite (.ite unit (.ite (locked ..) (unit.trans (enterHoldover_heldOver ..).unit)))
    (.ite (locked ..) (.ite (locked ..) (.ite (unit.trans (toMode_spec ..).unit) unit)))

/-- What a change of mode without a step leaves: LT, the domains but for what they remember of tracking, and every word that no mode writes. -/
structure Moded (s t : State) : Prop where
  lt : t.time.lt = s.time.lt
  td : ∀ d, tdAt t d = { tdAt s d with wasTracking := (tdAt t d).wasTracking }
  word : ∀ o, (o < 0x40000 ∨ 0x41010 ≤ o) → o ∉ [0x14, 0x60000, 0x60008, 0x6000C, 0x60010, 0x60014] → rd t o = rd s o

theorem Moded.trans {s a t : State} (h : Moded s a) (h' : Moded a t) : Moded s t where
  lt := h'.lt.trans h.lt
  td d := by rw [h'.td, h.td]
  word o h1 h2 := (h'.word o h1 h2).trans (h.word o h1 h2)

theorem Judged.moded {s a : State} (h : Judged s a) : Moded s a where
  lt := h.lt
  td := h.td
  word o _ mine := h.word o (by simp only [List.mem_cons, List.not_mem_nil, or_false, not_or] at mine; omega)

theorem ToMode.moded {s t : State} {mode sel : Nat} (h : ToMode s t mode sel) : Moded s t where
  lt := by rw [h.time]
  td d := by
    unfold tdAt
    rw [h.time]
  word o other mine := h.word o other (by simp only [List.mem_cons, List.not_mem_nil, or_false, not_or] at mine ⊢; omega)

theorem HeldOver.moded {s t : State} {cause : Nat} (h : HeldOver s t cause) : Moded s t where
  lt := by rw [h.time]
  td d := by
    unfold tdAt
    rw [h.time]
  word := h.word

theorem timeEval_moded {s : State} (plain : getB s 0x6000C 2 = false) : Moded s (timeEval s) := by
  have h := judged_spec s
  have locked (d cause : Nat) : Moded s (enterLocked (judged s) d cause) := by
    rw [enterLocked_plain (.inl ((h.getB _ _ (by omega)).trans plain))]
    exact h.moded.trans (toMode_spec ..).moded
  rw [timeEval_eq]
  split_ifs
  · exact h.moded
  · exact locked ..
  · exact h.moded.trans (enterHoldover_heldOver ..).moded
  · exact locked ..
  · exact locked ..
  · exact h.moded.trans (toMode_spec ..).moded
  · exact h.moded

end Sys2Proof.Machine
end

section
/-!
PROOFS. O39: the rows of local time.
-/
namespace Sys2Proof.Machine

theorem exec_timeLtNsRead (q : Requester) (s : State) : exec (.timeLtNsRead q) s = .next (settle (send (ltLatch s) (.completion q 0 (leBytes 4 (ltSubNs s))))) := rfl
theorem exec_timeIncWrite (q : Requester) (data : Word) (s : State) : exec (.timeIncWrite q data) s = .next (settle (disarm (incWrite s q data) q)) := rfl
theorem exec_tdOffNsWrite (q : Requester) (d : Fin 2) (data : Word) (s : State) :
    exec (.tdOffNsWrite q d data) s = .next (settle (disarm (offWrite s q d.val data) q)) := rfl
theorem exec_tdTrackingLost (d : Fin 2) (s : State) : exec (.tdTrackingLost d) s = .next (settle (if tracking s d.val then s else timeEval s)) := rfl
theorem exec_holdoverExpiry (s : State) : exec .holdoverExpiry s = .next (settle (if timeMode s = 3 && holdOver s then timeEval s else s)) := rfl
theorem exec_timeStep (q : Requester) (s : State) : exec (.timeStep q) s = .next (settle (disarm (stepOp s q) q)) := rfl

theorem timeMode_settle_disarm (s : State) (q : Requester) : timeMode (settle (disarm s q)) = timeMode s := rfl
theorem armed_settle_disarm_same (s : State) (q : Requester) : armed (settle (disarm s q)) q = false := armed_disarm_same ..

/-! ### TIME_LT_NS (R267) -/

theorem timeLtNsRead_latches (q : Requester) (s : State) : Answers (.timeLtNsRead q) s fun t => Sends s t (.completion q 0 (leBytes 4 (ltSubNs s))) ∧
    rd t 0x60024 = BitVec.ofNat 32 (ltFrac s) ∧ rd t 0x60028 = BitVec.ofNat 32 (ltSec s) ∧ rd t 0x6002C = BitVec.ofNat 32 (ltSec s / 2 ^ 32 % 2 ^ 16) ∧
    OnlyRegs s t [0x60024, 0x60028, 0x6002C] := by
  refine ⟨_, exec_timeLtNsRead q s, sends_settle (by rw [ltLatch, wr_out, wr_out, wr_out]), ?_, ?_, ?_, rfl, fun o ho => ?_⟩
  · rw [rd_settle, rd_send, ltLatch, rd_wr_ne _ _ _ _ (by omega), rd_wr_ne _ _ _ _ (by omega), rd_wr_same]
  · rw [rd_settle, rd_send, ltLatch, rd_wr_ne _ _ _ _ (by omega), rd_wr_same]
  · rw [rd_settle, rd_send, ltLatch, rd_wr_same]
  · have kept : RegsKept s (ltLatch s) [0x60024, 0x60028, 0x6002C] := (((RegsKept.refl s _).wr _ _ (by simp)).wr _ _ (by simp)).wr _ _ (by simp)
    exact (rd_settle ..).trans ((rd_send ..).trans (kept o ho))

/-! ### A requester that is not the servo's owner (R274) -/

/-- SERVO_REJECT, and the requester's key disarmed: nothing else. -/
theorem servoReject_row (s : State) (q : Requester) : getB (settle (disarm (servoReject s) q)) 0x60000 3 = true ∧ armed (settle (disarm (servoReject s) q)) q = false ∧
    OnlyRegs { s with armed := (settle (disarm (servoReject s) q)).armed } (settle (disarm (servoReject s) q)) [0x60000] :=
  ⟨getB_raise_same _ _ _ (by omega), armed_settle_disarm_same .., onlyRegs_settle_disarm_wr ..⟩

/-! ### TIME_INC (R276) -/

theorem incWrite_rejected {s : State} {q : Requester} (h : isServo s q = false ∨ timeMode s = 3) (data : Word) : incWrite s q data = servoReject s := by
  unfold incWrite
  rw [if_pos]
  obtain h | h := h <;> simp [h]

/-- The value clamped to its bound, and the clamp counted. -/
theorem incWrite_commits {s : State} {q : Requester} {data : Word} {x y : Nat} (hx : x = getF s 0x60010 7 0 * 2 ^ 32 + data.toNat)
    (hy : y = max (2 * 2 ^ 32 - incBound s) (min (2 * 2 ^ 32 + incBound s) x)) (servo : isServo s q = true) (mode : timeMode s ≠ 3) :
    incWrite s q data = if y = x then setInc s y else raise (incC (setInc s y) 0x60114) 0x60000 2 := by
  unfold incWrite
  rw [if_neg (by simp [servo, mode]), hy, hx]

theorem timeIncWrite_commits {s : State} {q : Requester} {data : Word} {x y : Nat} (hx : x = getF s 0x60010 7 0 * 2 ^ 32 + data.toNat)
    (hy : y = max (2 * 2 ^ 32 - incBound s) (min (2 * 2 ^ 32 + incBound s) x)) (servo : isServo s q = true) (mode : timeMode s ≠ 3) :
    Answers (.timeIncWrite q data) s fun t => t.time = { s.time with inc := y, incHist := t.time.incHist, incFrom := t.time.incFrom } ∧ rd t 0x60014 = BitVec.ofNat 32 y ∧
      getF t 0x60010 7 0 = y / 2 ^ 32 % 2 ^ 8 ∧ (y ≠ x → rd t 0x60114 = rd s 0x60114 + 1 ∧ getB t 0x60000 2 = true) ∧ armed t q = false := by
  obtain ⟨-, word, time, frac, whole⟩ := setInc_spec s y
  refine ⟨_, exec_timeIncWrite q data s, ?_⟩
  rw [incWrite_commits hx hy servo mode]
  generalize setInc s y = a at *
  split
  · exact ⟨time, frac, whole, fun h => absurd ‹_› h, armed_settle_disarm_same ..⟩
  · have event : getB (raise (incC a 0x60114) 0x60000 2) 0x60000 2 = true := getB_raise_same _ _ _ (by omega)
    refine ⟨time, ?_, ?_, fun _ => ⟨?_, (getB_settle_disarm ..).trans event⟩, armed_settle_disarm_same ..⟩
    · rw [rd_settle_disarm, rd_raise, if_neg (by decide), incC_eq, rd_wr_ne _ _ _ _ (by decide), frac]
    · rw [getF_settle_disarm, raise_eq, getF_wr_other _ _ _ _ _ _ (by decide), incC_eq, getF_wr_other _ _ _ _ _ _ (by decide), whole]
    · rw [rd_settle_disarm, rd_raise, if_neg (by decide), incC_eq, rd_wr_same, word _ (by decide) (by decide)]
      rfl

/-! ### The offsets (R273, R277) -/

/-- The offset committed and the update marked, before the modes are judged. -/
def offMarked (s : State) (d : Nat) (data : Word) : State :=
  setTd (wr s (tdR d 8) data) d { tdAt s d with
    off := sInt 32 (rd s (tdR d 4)).toNat * 1000000000 + sInt 32 data.toNat, upd := some (ltNs s), loss := getF s (tdR d 0) 31 16 }

theorem offWrite_servo {s : State} {q : Requester} (servo : isServo s q = true) (d : Nat) (data : Word) : offWrite s q d data = timeEval (offMarked s d data) := by
  have sec : rd (wr s (tdR d 8) data) (tdR d 4) = rd s (tdR d 4) := rd_wr_ne _ _ _ _ (by unfold tdR; omega)
  have ctrl : getF (wr s (tdR d 8) data) (tdR d 0) 31 16 = getF s (tdR d 0) 31 16 := getF_wr_other _ _ _ _ _ _ (by unfold tdR; omega)
  unfold offWrite
  simp only [servo, Bool.not_true, Bool.false_eq_true, if_false, sec, ctrl]
  rfl

theorem tdAt_setTd {s : State} {d : Nat} {x : TdRt} (low : d < 2) : tdAt (setTd s d x) d = x := by
  obtain rfl | rfl : d = 0 ∨ d = 1 := by omega
  all_goals rfl

theorem setTd_lt (s : State) (d : Nat) (x : TdRt) : (setTd s d x).time.lt = s.time.lt := by
  unfold setTd
  split <;> rfl

theorem rd_offMarked {s : State} {d : Nat} {data : Word} {o : Nat} (other : o ≠ tdR d 8) : rd (offMarked s d data) o = rd s o := by
  unfold offMarked
  rw [rd_setTd, rd_wr_ne _ _ _ _ other]

theorem ltNs_offMarked (s : State) (d : Nat) (data : Word) : ltNs (offMarked s d data) = ltNs s := by
  unfold ltNs offMarked
  rw [setTd_lt]
  rfl

/-- A domain with LOCK = 1 and a LOSS of its own tracks from its update on. -/
theorem tracking_offMarked {s : State} {d : Nat} {data : Word} (low : d < 2) (lock : getB s (tdR d 0x10) 0 = true) (loss : getF s (tdR d 0) 31 16 ≠ 0) :
    tracking (offMarked s d data) d = true := by
  have locked : getB (offMarked s d data) (tdR d 0x10) 0 = true := by
    unfold getB
    rw [rd_offMarked (by unfold tdR; omega)]
    exact lock
  have marked : tdAt (offMarked s d data) d = _ := tdAt_setTd low
  unfold tracking
  rw [locked, marked, ltNs_offMarked]
  simp only [Bool.true_and, le_refl, decide_true, decide_eq_true_eq]
  omega

theorem tdAt_settle_disarm (s : State) (q : Requester) (d : Nat) : tdAt (settle (disarm s q)) d = tdAt s d := rfl

theorem tdOffNsWrite_row {s : State} {q : Requester} {d : Fin 2} {data : Word} (servo : isServo s q = true) (plain : getB s 0x6000C 2 = false) :
    Answers (.tdOffNsWrite q d data) s fun t => rd t (tdR d 8) = data ∧ armed t q = false ∧
      (tdAt t d).off = sInt 32 (rd s (tdR d 4)).toNat * 1000000000 + sInt 32 data.toNat ∧ (tdAt t d).upd = some (ltNs s) ∧ (tdAt t d).loss = getF s (tdR d 0) 31 16 ∧
      (timeSel s = d.val → getB s (tdR d 0x10) 0 = true → getF s (tdR d 0) 31 16 ≠ 0 → timeMode s = 0 ∨ timeMode s = 3 → timeMode t = 1 + d.val ∧ getB t 0x60000 0 = true) := by
  have low := d.isLt
  have plain' : getB (offMarked s d data) 0x6000C 2 = false := by
    unfold getB
    rw [rd_offMarked (by unfold tdR; omega)]
    exact plain
  obtain ⟨-, td, word⟩ := timeEval_moded plain'
  have marked : tdAt (offMarked s d data) d = _ := tdAt_setTd low
  have committed : tdAt (timeEval (offMarked s d data)) d = _ := (td d).trans (by rw [marked])
  have committed := (tdAt_settle_disarm _ q d).trans committed
  refine ⟨_, exec_tdOffNsWrite q d data s, ?_⟩
  rw [offWrite_servo servo]
  refine ⟨?_, armed_settle_disarm_same .., congrArg TdRt.off committed, congrArg TdRt.upd committed, congrArg TdRt.loss committed, fun sel lock loss mode => ?_⟩
  · rw [rd_settle_disarm, word _ (by unfold tdR; omega) (by simp only [tdR, List.mem_cons, List.not_mem_nil, or_false, not_or]; omega), offMarked, rd_setTd, rd_wr_same]
  · have mode' : timeMode (offMarked s d data) = timeMode s := congrArg (fld · 1 0) (rd_offMarked (by unfold tdR; omega))
    have sel' : timeSel (offMarked s d data) = d.val := (congrArg (fld · 0 0) (rd_offMarked (by unfold tdR; omega))).trans sel
    have change := toMode_spec (judged (offMarked s d data)) (1 + d.val) d.val 0
    rw [timeMode_settle_disarm, getB_settle_disarm, timeEval_eq, mode', sel', if_neg (by omega), if_pos (tracking_offMarked low lock loss),
      enterLocked_plain (.inl (((judged_spec _).getB _ _ (by omega)).trans plain'))]
    exact ⟨change.mode (by omega), change.event⟩

/-! ### Tracking lost, and HOLDOVER at its end (R277) -/

theorem timeEval_lost {s : State} {d : Nat} (sel : timeSel s = d) (lost : tracking s d = false) (manual : getB s 0x60008 1 = false)
    (mode : timeMode s = 1 ∨ timeMode s = 2) : timeEval s = enterHoldover (judged s) 1 := by
  rw [timeEval_eq, if_pos mode, if_neg (by simp [sel, lost]), if_neg (by simp [manual])]

theorem timeEval_expired {s : State} {d : Nat} (sel : timeSel s = d) (lost : tracking s d = false) (manual : getB s 0x60008 1 = false)
    (mode : timeMode s = 3) (ended : holdOver s = true) : timeEval s = toMode (judged s) 0 (timeSel s) 3 := by
  rw [timeEval_eq, if_neg (by omega), if_neg (by simp [sel, lost]), if_neg (by simp [manual]), if_pos (by simp [mode, ended])]

theorem tdTrackingLost_row {d : Fin 2} {s : State} (sel : timeSel s = d.val) (lost : tracking s d = false) (manual : getB s 0x60008 1 = false)
    (mode : timeMode s = 1 ∨ timeMode s = 2) : Answers (.tdTrackingLost d) s fun t => timeMode t = 3 ∧ getB t 0x60000 0 = true ∧ t.time.holdAt = ltNs s ∧
      t.time.inc = incAvg s ∧ t.time.lt = s.time.lt := by
  have before := judged_spec s
  have held := enterHoldover_heldOver (judged s) 1
  refine ⟨_, exec_tdTrackingLost d s, ?_⟩
  rw [if_neg (by simp [lost]), timeEval_lost sel lost manual mode]
  exact ⟨held.mode, held.event, (congrArg Time.holdAt held.time).trans before.ltNs, (held.inc (by omega)).trans before.incAvg, held.moded.lt.trans before.lt⟩

theorem holdoverExpiry_row {d : Fin 2} {s : State} (sel : timeSel s = d.val) (lost : tracking s d = false) (manual : getB s 0x60008 1 = false)
    (mode : timeMode s = 3) (ended : holdOver s = true) : Answers .holdoverExpiry s fun t => timeMode t = 0 ∧ getB t 0x60000 0 = true ∧ t.time.lt = s.time.lt := by
  have change := toMode_spec (judged s) 0 (timeSel s) 3
  refine ⟨_, exec_holdoverExpiry s, ?_⟩
  rw [if_pos (by simp [mode, ended]), timeEval_expired sel lost manual mode ended]
  exact ⟨change.mode (by omega), change.event, change.moded.lt.trans (judged_spec s).lt⟩

/-! ### STEP (R275) -/

theorem timeStep_steps {q : Requester} {s : State} {x : Int} (hx : x = sInt 32 (rd s 0x60030).toNat * 1000000000 + sInt 32 (rd s 0x60034).toNat)
    (servo : isServo s q = true) (set : getB s 0x6000C 2 = true) : Answers (.timeStep q) s fun t => t.time.lt = ((s.time.lt : Int) + x * (2 ^ 32 : Nat)).toNat % ltModulus ∧
      (tdAt t 0).off = (tdAt s 0).off - x ∧ (tdAt t 1).off = (tdAt s 1).off - x ∧ getB t 0x6000C 2 = false ∧ rd t 0x60110 = rd s 0x60110 + 1 ∧ getB t 0x60000 1 = true ∧
      armed t q = false := by
  obtain ⟨lt, off0, off1, disarmed, counted, event⟩ := stepLt_stepped s x 1
  have step : stepOp s q = stepLt s x 1 := by
    unfold stepOp
    simp [servo, set, hx]
  refine ⟨_, exec_timeStep q s, ?_⟩
  rw [step]
  exact ⟨lt, off0, off1, disarmed, counted, event, armed_settle_disarm_same ..⟩

theorem timeStep_unarmed {q : Requester} {s : State} (servo : isServo s q = true) (unset : getB s 0x6000C 2 = false) :
    Answers (.timeStep q) s fun t => armed t q = false ∧ OnlyRegs { s with armed := t.armed } t [] := by
  have still : stepOp s q = s := by
    unfold stepOp
    simp [servo, unset]
  refine ⟨_, exec_timeStep q s, ?_⟩
  rw [still]
  exact ⟨armed_settle_disarm_same .., rfl, fun _ _ => rfl⟩

/-- Settles O39: each row by what its operation leaves of the time unit. -/
theorem localTime : Obligations.LocalTime := by
  unfold Obligations.LocalTime
  refine ⟨timeLtNsRead_latches, fun q data s x y hx hy => ⟨timeIncWrite_commits hx hy, fun rejected => ?_⟩, fun q d data s => ⟨fun other => ?_, tdOffNsWrite_row⟩,
    fun d s sel lost manual => ⟨tdTrackingLost_row sel lost manual, holdoverExpiry_row sel lost manual⟩,
    fun q s x hx => ⟨timeStep_steps hx, timeStep_unarmed, fun other => ?_⟩⟩
  · refine ⟨_, exec_timeIncWrite q data s, ?_⟩
    rw [incWrite_rejected rejected]
    exact servoReject_row s q
  · refine ⟨_, exec_tdOffNsWrite q d data s, ?_⟩
    rw [show offWrite s q d.val data = servoReject s from if_pos (by simp [other])]
    exact servoReject_row s q
  · refine ⟨_, exec_timeStep q s, ?_⟩
    rw [show stepOp s q = servoReject s from if_pos (by simp [other])]
    exact servoReject_row s q

end Sys2Proof.Machine
end

section
/-!
PROOFS. The start of a control cycle (R284): what the tables that it fires (R82, R145, R171, R186) leave of the time unit and the lines.
-/
namespace Sys2Proof.Machine

/-! ### A firing -/

/-- A firing leaves the time unit, and the registers of the time unit and its lines (0x6_0000 to 0x6_2FFF), as they were. -/
structure Fired (s a : State) : Prop where
  time : a.time = s.time
  word : ∀ o, 0x60000 ≤ o → o < 0x63000 → rd a o = rd s o

theorem Fired.refl (s : State) : Fired s s := ⟨rfl, fun _ _ _ => rfl⟩

theorem Fired.trans {s a b : State} (h : Fired s a) (h' : Fired a b) : Fired s b :=
  ⟨h'.time.trans h.time, fun o low high => (h'.word o low high).trans (h.word o low high)⟩

theorem Fired.ite {s a b : State} {p : Prop} [Decidable p] (h : Fired s a) (h' : Fired s b) : Fired s (if p then a else b) := by
  split <;> assumption

theorem Fired.foldl {α : Type} {f : State → α → State} (hf : ∀ a x, Fired a (f a x)) (xs : List α) (s : State) : Fired s (xs.foldl f s) := by
  induction xs generalizing s with
  | nil => exact .refl s
  | cons x xs ih => exact (hf s x).trans (ih _)

theorem fired_wr (s : State) {o : Nat} (w : Word) (other : o < 0x60000 ∨ 0x63000 ≤ o) : Fired s (wr s o w) :=
  ⟨rfl, fun k _ _ => rd_wr_ne _ _ _ _ (by omega)⟩

theorem Streamed.fired {s a : State} (h : Streamed s a) : Fired s a := ⟨h.time, fun o low _ => h.rd o (by omega)⟩

theorem setObj_fired (s : State) (o : Nat) (x : ObjRt) : Fired s (setObj s o x) := ⟨setObj_time .., fun _ _ _ => rd_congr (setObj_regs ..) _⟩

theorem obPut_fired (s : State) (o hi lo v : Nat) : Fired s (obPut s o hi lo v) := setObj_fired ..

theorem objLost_fired (s : State) (n o : Nat) : Fired s (objLost s n o) :=
  (obPut_fired s o 17 17 1).trans ((fired_wr _ _ (.inr (by unfold motR; omega))).trans (fired_wr _ _ (.inr (by decide))))

/-- R83: a request for a transmit object. -/
theorem request_fired (s : State) (o owner : Nat) : Fired s (request s o owner) := by
  unfold request
  split
  · exact .refl s
  · rename_i n ide ident live
    have touched : Fired s (lockTouch s n owner) := by
      rw [lockTouch_only]
      exact ⟨rfl, fun _ _ _ => rfl⟩
    have begun (bs : List Byte) : Fired s (budEvent (lockTouch s n owner) bs) := touched.trans (by
      rw [budEvent_only]
      exact ⟨rfl, fun _ _ _ => rfl⟩)
    have pending (b : State) : Fired b (pendNew b o) := ((obPut_fired ..).trans (obPut_fired ..)).trans (obPut_fired ..)
    have ordered (b : State) (q : Nat) : Fired b { b with reqSeq := q } := ⟨rfl, fun _ _ _ => rfl⟩
    refine .ite (.ite ?_ ?_) (.ite ?_ ?_)
    · exact (begun _).trans ((setObj_fired ..).trans (objLost_fired ..))
    · exact (begun _).trans (setObj_fired ..)
    · exact (begun _).trans ((setObj_fired ..).trans ((objLost_fired ..).trans (obPut_fired ..)))
    · exact (begun _).trans ((setObj_fired ..).trans ((ordered _ _).trans (pending _)))

theorem compFire_fired (s : State) (t : CompTarget) {merged : Nat} (other : merged < 0x60000 ∨ 0x63000 ≤ merged) : Fired s (compFire s t merged) :=
  .ite (fired_wr s _ other) ⟨rfl, fun _ _ _ => rfl⟩

theorem fireObj_fired (s : State) (o : Nat) : Fired s (fireObj s o) :=
  .ite (request_fired ..) (.ite (.refl s) (.ite (fired_wr s _ (by decide)) (compFire_fired s _ (by decide))))

theorem tstFire_fired (s : State) (i : Nat) : Fired s (tstFire s i) := by
  have noted (b : Bool) : Fired s (setTst s i { last := some (ltNs s), change := b }) := ⟨rfl, fun _ _ _ => rfl⟩
  exact .ite (.refl s) (.ite (noted _) ((noted _).trans (.foldl fireObj_fired _ _)))

theorem dstFire_fired (s : State) (i : Nat) : Fired s (dstFire s i) := .ite (.refl s) (.ite (fired_wr s _ (by decide)) ⟨rfl, fun _ _ _ => rfl⟩)

theorem pubFire_fired (s : State) (i : Nat) : Fired s (pubFire s i) := by
  have marked (x : PubRt) : Fired s (setPub s i x) := ⟨rfl, fun _ _ _ => rfl⟩
  exact .ite (.refl s) (.ite (marked _) (.ite (marked _) ((marked _).trans (fired_wr _ _ (by decide)))))

theorem tttFire_fired (s : State) (i : Nat) : Fired s (tttFire s i) := .ite (.refl s) (compFire_fired s _ (by decide))

theorem pairedFire_fired {op : State → State} (h : ∀ a, Fired a (op a)) (s : State) (k i : Nat) : Fired s (pairedFire s k i op) :=
  .ite (.refl s) ((budInput_streamed ..).fired.trans (h _))

theorem fireAll_fired {op : State → Nat → State} (h : ∀ a i, Fired a (op a i)) (k : Nat) (s : State) (is : List Nat) : Fired s (fireAll k op s is) :=
  .foldl (fun a i => pairedFire_fired (fun b => h b i) a k i) is s

/-! ### A control cycle -/

/-- The cycle counted, and its event where the line asks for it. -/
def cycleNoted (s : State) (n : Nat) : State := if getB (incC s (teR n 0x28)) (teR n 0) 13 then raise (incC s (teR n 0x28)) (teR n 0x18) 3 else incC s (teR n 0x28)

theorem cycleStart_fired (s : State) (n : Nat) : Fired (cycleNoted s n) (cycleStart s n) :=
  (((fireAll_fired tstFire_fired ..).trans (fireAll_fired dstFire_fired ..)).trans (fireAll_fired pubFire_fired ..)).trans (fireAll_fired tttFire_fired ..)

/-- What the start of a control cycle of line `n` leaves of the lines. -/
structure CycleStarted (s a : State) (n : Nat) : Prop where
  time : a.time = s.time
  count : rd a (teR n 0x28) = rd s (teR n 0x28) + 1
  word : ∀ k, k ≠ 0x28 → k ≠ 0x18 → k < 0x40 → rd a (teR n k) = rd s (teR n k)
  event : ∀ b, b ≠ 3 → getB a (teR n 0x18) b = getB s (teR n 0x18) b

theorem cycleStart_spec (s : State) {n : Nat} (low : n < 16) : CycleStarted s (cycleStart s n) n := by
  obtain ⟨time, word⟩ := cycleStart_fired s n
  have line (k : Nat) (hk : k < 0x40) : rd (cycleStart s n) (teR n k) = rd (cycleNoted s n) (teR n k) := word _ (by unfold teR; omega) (by unfold teR; omega)
  refine ⟨time.trans ?_, (line _ (by omega)).trans ?_, fun k h h' hk => (line k hk).trans ?_, fun b hb => ?_⟩
  · unfold cycleNoted
    split <;> rfl
  · unfold cycleNoted
    split
    · rw [rd_raise, if_neg (by simp), incC_eq, rd_wr_same]
      rfl
    · rw [incC_eq, rd_wr_same]
      rfl
  · unfold cycleNoted
    split
    · rw [rd_raise, if_neg (by simpa using h'), incC_eq, rd_wr_ne _ _ _ _ (by simpa using h)]
    · rw [incC_eq, rd_wr_ne _ _ _ _ (by simpa using h)]
  · have bit : getB (cycleStart s n) (teR n 0x18) b = getB (cycleNoted s n) (teR n 0x18) b := congrArg (·.getLsbD b) (line _ (by omega))
    rw [bit]
    unfold cycleNoted
    split
    · rw [getB_raise_other _ _ _ _ _ (by omega) (.inr hb), incC_eq, getB_wr_other _ _ _ _ _ (by simp)]
    · rw [incC_eq, getB_wr_other _ _ _ _ _ (by simp)]

end Sys2Proof.Machine
end

section
/-!
PROOFS. O40: the rows of the timed-event lines (R280 to R283).
-/
namespace Sys2Proof.Machine

theorem exec_teModeWrite (q : Requester) (l : Fin 16) (data : Word) (s : State) : exec (.teModeWrite q l data) s = .next (settle (disarm (teCfgWrite s q l.val data) q)) := rfl
theorem exec_teWindowStart (l : Fin 16) (s : State) : exec (.teWindowStart l) s = .next (settle (teStartOp s l.val)) := rfl
theorem exec_teWindowEnd (l : Fin 16) (s : State) : exec (.teWindowEnd l) s = .next (settle (teEndOp s l.val)) := rfl
theorem exec_teEdgeCapture (l : Fin 16) (rise : Bool) (s : State) : exec (.teEdgeCapture l rise) s = .next (settle (teEdgeOp s l.val rise)) := rfl
theorem exec_teCapPop (q : Requester) (l : Fin 16) (s : State) :
    exec (.teCapPop q l) s = .next (settle (send (teCapPopOp s l.val) (.completion q 0 (leBytes 4 (teCapWord s l.val).toNat)))) := rfl

theorem teAt_congr {s a : State} (h : a.time = s.time) (n : Nat) : teAt a n = teAt s n := by
  unfold teAt
  rw [h]

theorem teAt_setTe (s : State) (n k : Nat) (x : TeRt) : teAt (setTe s n x) k = if k = n then x else teAt s k := SMap.get_set ..

@[simp] theorem teAt_setTe_same (s : State) (n : Nat) (x : TeRt) : teAt (setTe s n x) n = x := SMap.get_set_same ..

theorem teAt_setTe_other (s : State) {n k : Nat} (x : TeRt) (h : k ≠ n) : teAt (setTe s n x) k = teAt s k := (teAt_setTe ..).trans (if_neg h)

@[simp] theorem rd_setTe (s : State) (n : Nat) (x : TeRt) (o : Nat) : rd (setTe s n x) o = rd s o := rfl

@[simp] theorem teAt_settle (s : State) (n : Nat) : teAt (settle s) n = teAt s n := rfl
@[simp] theorem teAt_settle_disarm (s : State) (q : Requester) (n : Nat) : teAt (settle (disarm s q)) n = teAt s n := rfl
@[simp] theorem teAt_wr (s : State) (o : Nat) (w : Word) (n : Nat) : teAt (wr s o w) n = teAt s n := rfl
@[simp] theorem teAt_setF (s : State) (o hi lo v n : Nat) : teAt (setF s o hi lo v) n = teAt s n := rfl
@[simp] theorem teAt_raise (s : State) (o b n : Nat) : teAt (raise s o b) n = teAt s n := rfl
@[simp] theorem ltNsUp_wr (s : State) (o : Nat) (w : Word) : ltNsUp (wr s o w) = ltNsUp s := rfl
@[simp] theorem teMode_setTe (s : State) (n k : Nat) (x : TeRt) : teMode (setTe s n x) k = teMode s k := rfl

theorem teAwake_of {s : State} (h : powerState s < 2) : teAwake s = true := decide_eq_true h

/-! ### Modes (R280, R281) -/

/-- The masks of TEnn_CFG: every field but MODE waits for OFF. -/
def teMasks : Masks := { rw := 0, rwd := 0xFFFF8, rwk := 0, w1c := 0, kwo := 0 }

/-- TEnn_CFG as a write leaves it before the mode: merged, and CFG_REJECT where a field of a line that is on would change. -/
theorem teCfg_merged (s : State) (q : Requester) (n : Nat) (data : Word) (off : Bool) :
    writeMasked s q (teR n 0) data teMasks off (some (teR n 0x18, 5)) 0 =
      (if changes (rd s (teR n 0)) data 0xFFFF8 && !(off || q = .loader) then raise (wr s (teR n 0) (mergeWord (rd s (teR n 0)) data teMasks (off || q = .loader) (keyOk s q))) (teR n 0x18) 5
        else wr s (teR n 0) (mergeWord (rd s (teR n 0)) data teMasks (off || q = .loader) (keyOk s q))) := by
  unfold writeMasked teMasks
  simp

/-- A line that is OFF takes every field. -/
theorem teCfg_off (s : State) (q : Requester) (n : Nat) (data : Word) :
    writeMasked s q (teR n 0) data teMasks true (some (teR n 0x18, 5)) 0 = wr s (teR n 0) (mergeWord (rd s (teR n 0)) data teMasks true (keyOk s q)) := by
  rw [teCfg_merged]
  simp

/-- A line that is on takes none, but from the loader. -/
theorem mergeWord_teMasks_on (old new : Word) (key : Bool) : mergeWord old new teMasks false key = old := by
  unfold mergeWord teMasks
  simp only [takeBits_none, Bool.false_eq_true, if_false, ite_self]
  rw [BitVec.and_zero, BitVec.not_zero, BitVec.and_allOnes]

/-- A write of TEnn_CFG that asks for mode `m`. -/
theorem teCfgWrite_eq {s : State} {q : Requester} {n : Nat} {data : Word} {m : Nat} (hm : m = fld data 2 0) (valid : m ≤ 4) :
    teCfgWrite s q n data =
      let a := writeMasked s q (teR n 0) (putFld data 2 0 (teMode s n)) teMasks (teMode s n == 0) (some (teR n 0x18, 5)) 0
      if m = teMode s n then a else if teMode s n = 0 then teEnable a n m else if m = 0 then teDisable a n else raise a (teR n 0x18) 5 := by
  have asked : (if fld data 2 0 ≥ 5 then teMode s n else fld data 2 0) = m := by rw [if_neg (by omega), hm]
  unfold teCfgWrite
  simp only [asked]
  rfl

/-- A line that is OFF is asked for a mode. -/
theorem teCfgWrite_enables {s : State} {q : Requester} {n : Nat} {data w : Word} {m : Nat} (hm : m = fld data 2 0)
    (hw : w = mergeWord (rd s (teR n 0)) (putFld data 2 0 0) teMasks true (keyOk s q)) (off : teMode s n = 0) (some : 1 ≤ m) (valid : m ≤ 4) :
    teCfgWrite s q n data = teEnable (wr s (teR n 0) w) n m := by
  rw [teCfgWrite_eq hm valid]
  simp only [off, beq_self_eq_true, teCfg_off, ← hw, if_true]
  rw [if_neg (by omega)]

theorem teModeWrite_taken {q : Requester} {l : Fin 16} {data w : Word} {s : State} {m : Nat} (hm : m = fld data 2 0)
    (hw : w = mergeWord (rd s (teR l 0)) (putFld data 2 0 0) teMasks true (keyOk s q)) (off : teMode s l = 0) (some : 1 ≤ m) (valid : m ≤ 4)
    (good : teBad (wr s (teR l 0) w) l m = false) : Answers (.teModeWrite q l data) s fun t =>
      rd t (teR l 0) = putFld w 2 0 m ∧ teAt t l = { teAt s l with active := false, done := ltNsUp s } ∧ armed t q = false := by
  refine ⟨_, exec_teModeWrite q l data s, ?_⟩
  rw [teCfgWrite_enables hm hw off some valid, teEnable, if_neg (by omega), good, if_neg (by simp)]
  refine ⟨?_, ?_, armed_settle_disarm_same ..⟩
  · rw [rd_settle_disarm, rd_setTe, rd_setF, if_pos rfl, rd_wr_same]
  · rw [teAt_settle_disarm, teAt_setTe_same, teAt_wr, ltNsUp_wr]

theorem teModeWrite_refused {q : Requester} {l : Fin 16} {data w : Word} {s : State} {m : Nat} (hm : m = fld data 2 0)
    (hw : w = mergeWord (rd s (teR l 0)) (putFld data 2 0 0) teMasks true (keyOk s q)) (off : teMode s l = 0) (some : 1 ≤ m) (valid : m ≤ 4)
    (bad : teBad (wr s (teR l 0) w) l m = true) : Answers (.teModeWrite q l data) s fun t =>
      rd t (teR l 0) = w ∧ getB t (teR l 0x18) 4 = true ∧ t.time = s.time ∧ armed t q = false := by
  refine ⟨_, exec_teModeWrite q l data s, ?_⟩
  rw [teCfgWrite_enables hm hw off some valid, teEnable, if_neg (by omega), bad, if_pos rfl]
  refine ⟨?_, (getB_settle_disarm ..).trans (getB_raise_same _ _ _ (by omega)), rfl, armed_settle_disarm_same ..⟩
  rw [rd_settle_disarm, rd_raise, if_neg (by simp), rd_wr_same]

/-- A line that is on keeps its word, whoever but the loader writes it: at most CFG_REJECT is set. -/
theorem teCfg_on {s : State} {q : Requester} {n : Nat} (data : Word) (on : teMode s n ≠ 0) (notLoader : q ≠ .loader) :
    ∃ a, writeMasked s q (teR n 0) data teMasks (teMode s n == 0) (some (teR n 0x18, 5)) 0 = a ∧ a.time = s.time ∧ rd a (teR n 0) = rd s (teR n 0) := by
  refine ⟨_, rfl, ?_⟩
  have kept : (teMode s n == 0 || decide (q = .loader)) = false := by simp [on, notLoader]
  rw [teCfg_merged, kept, mergeWord_teMasks_on]
  split
  · exact ⟨rfl, by rw [rd_raise, if_neg (by simp), rd_wr_same]⟩
  · exact ⟨rfl, rd_wr_same ..⟩

theorem teModeWrite_off {q : Requester} {l : Fin 16} {data : Word} {s : State} {m : Nat} (hm : m = fld data 2 0) (on : teMode s l ≠ 0) (notLoader : q ≠ .loader)
    (zero : m = 0) : Answers (.teModeWrite q l data) s fun t =>
      rd t (teR l 0) = putFld (rd s (teR l 0)) 2 0 0 ∧ teAt t l = { teAt s l with active := false, cand := none } ∧ armed t q = false := by
  obtain ⟨a, merged, time, word⟩ := teCfg_on (putFld data 2 0 (teMode s l)) on notLoader
  refine ⟨_, exec_teModeWrite q l data s, ?_⟩
  rw [teCfgWrite_eq hm (by omega)]
  simp only [merged]
  rw [if_neg (fun h => on (h.symm.trans zero)), if_neg on, if_pos zero, teDisable]
  refine ⟨?_, (teAt_setTe_same ..).trans (by rw [teAt_congr time]), armed_settle_disarm_same ..⟩
  rw [rd_settle_disarm, rd_setTe, rd_setF, if_pos rfl, word]

theorem teModeWrite_changed {q : Requester} {l : Fin 16} {data : Word} {s : State} {m : Nat} (hm : m = fld data 2 0) (on : teMode s l ≠ 0) (notLoader : q ≠ .loader)
    (some : 1 ≤ m) (valid : m ≤ 4) (other : m ≠ teMode s l) : Answers (.teModeWrite q l data) s fun t =>
      rd t (teR l 0) = rd s (teR l 0) ∧ getB t (teR l 0x18) 5 = true ∧ t.time = s.time ∧ armed t q = false := by
  obtain ⟨a, merged, time, word⟩ := teCfg_on (putFld data 2 0 (teMode s l)) on notLoader
  refine ⟨_, exec_teModeWrite q l data s, ?_⟩
  rw [teCfgWrite_eq hm valid]
  simp only [merged]
  rw [if_neg other, if_neg on, if_neg (by omega)]
  refine ⟨?_, (getB_settle_disarm ..).trans (getB_raise_same _ _ _ (by omega)), time, armed_settle_disarm_same ..⟩
  rw [rd_settle_disarm, rd_raise, if_neg (by simp), word]

/-! ### Windows (R282) -/

theorem teStartOp_opens {s : State} {n t0 : Nat} (awake : teAwake s = true) (drives : teDrives s n = true) (due : teDue s n = some t0) :
    teStartOp s n = if teMode s n = 4 then cycleStart (setTe s n { teAt s n with active := decide (ltNs s < t0 + teWidth s n), done := t0 + 1 }) n
      else setTe s n { teAt s n with active := decide (ltNs s < t0 + teWidth s n), done := t0 + 1 } := by
  unfold teStartOp
  rw [drives, awake, due]
  rfl

theorem teWindowStart_row {l : Fin 16} {s : State} {t0 : Nat} (awake : powerState s < 2) (drives : teDrives s l = true) (due : teDue s l = some t0) :
    Answers (.teWindowStart l) s fun t => teAt t l = { teAt s l with active := decide (ltNs s < t0 + teWidth s l), done := t0 + 1 } ∧
      (∀ k, k ≠ l.val → teAt t k = teAt s k) ∧ rd t (teR l 0x28) = (if teMode s l = 4 then rd s (teR l 0x28) + 1 else rd s (teR l 0x28)) := by
  refine ⟨_, exec_teWindowStart l s, ?_⟩
  rw [teStartOp_opens (teAwake_of awake) drives due]
  generalize { teAt s l with active := decide (ltNs s < t0 + teWidth s l), done := t0 + 1 } = x
  simp only [teAt_settle, rd_settle]
  split
  · have cycle := cycleStart_spec (setTe s l x) l.isLt
    exact ⟨(teAt_congr cycle.time l).trans (teAt_setTe_same ..), fun k hk => (teAt_congr cycle.time k).trans (teAt_setTe_other _ _ hk), cycle.count⟩
  · exact ⟨teAt_setTe_same .., fun k hk => teAt_setTe_other _ _ hk, rfl⟩

theorem teWindowEnd_row {l : Fin 16} {s : State} (active : (teAt s l).active = true) (outside : teInside s l (ltNs s) = false) :
    Answers (.teWindowEnd l) s fun t => teAt t l = { teAt s l with active := false } ∧ (∀ k, k ≠ l.val → teAt t k = teAt s k) ∧ RegsKept s t [] := by
  refine ⟨_, exec_teWindowEnd l s, ?_⟩
  rw [show teEndOp s l = setTe s l { teAt s l with active := false } from if_pos (by simp [active, outside])]
  exact ⟨teAt_setTe_same .., fun k hk => teAt_setTe_other _ _ hk, fun _ _ => rfl⟩

/-! ### Edges (R283) -/

/-- An edge at a line that captures, with no edge of its own direction waiting. -/
theorem teEdgeOp_captures {s : State} {n : Nat} {rise : Bool} (awake : powerState s < 2) (mode : teMode s n = 1 ∨ teMode s n = 2)
    (first : ∀ c, (teAt s n).cand = some c → c.1 ≠ rise) : teEdgeOp s n rise =
      if !nbit (teEdge s n) (if rise then 0 else 1) then setTe s n { teAt s n with cand := none }
      else if teFilt s n = 0 then teAccept s n rise (ltNs s) else setTe s n { teAt s n with cand := some (rise, s.ticks, ltNs s) } := by
  have captures : (!teAwake s || (teMode s n != 1 && teMode s n != 2)) = false := by
    rw [teAwake_of awake]
    obtain h | h := mode <;> simp [h]
  have none_waits : (teAt s n).cand.any (fun c => c.1 == rise) = false := by
    cases h : (teAt s n).cand with
    | none => rfl
    | some c => simpa using first c h
  unfold teEdgeOp
  simp only [captures, none_waits, Bool.false_eq_true, if_false]

theorem teEdgeCapture_waits {l : Fin 16} {s : State} {rise : Bool} (awake : powerState s < 2) (edge : nbit (teEdge s l) (if rise then 0 else 1) = true)
    (mode : teMode s l = 1 ∨ teMode s l = 2) (first : ∀ c, (teAt s l).cand = some c → c.1 ≠ rise) (filt : teFilt s l ≠ 0) :
    Answers (.teEdgeCapture l rise) s fun t => teAt t l = { teAt s l with cand := some (rise, s.ticks, ltNs s) } ∧ RegsKept s t [] := by
  refine ⟨_, exec_teEdgeCapture l rise s, ?_⟩
  rw [teEdgeOp_captures awake mode first, edge, Bool.not_true, if_neg (by decide), if_neg filt]
  exact ⟨teAt_setTe_same .., fun _ _ => rfl⟩

theorem teEdgeCapture_back {l : Fin 16} {s : State} {rise : Bool} {c : Bool × Nat × Nat} (awake : powerState s < 2) (mode : teMode s l = 1 ∨ teMode s l = 2)
    (waits : (teAt s l).cand = some c) (back : c.1 ≠ rise) (edge : nbit (teEdge s l) (if rise then 0 else 1) = false) :
    Answers (.teEdgeCapture l rise) s fun t => teAt t l = { teAt s l with cand := none } ∧ RegsKept s t [] := by
  refine ⟨_, exec_teEdgeCapture l rise s, ?_⟩
  rw [teEdgeOp_captures awake mode (fun d hd => by rw [waits] at hd; cases hd; exact back), edge, Bool.not_false, if_pos rfl]
  exact ⟨teAt_setTe_same .., fun _ _ => rfl⟩

/-- A selected edge of a line without a filter is accepted at once. -/
theorem teEdgeOp_accepts {s : State} {n : Nat} {rise : Bool} (awake : powerState s < 2) (mode : teMode s n = 1 ∨ teMode s n = 2)
    (edge : nbit (teEdge s n) (if rise then 0 else 1) = true) (idle : (teAt s n).cand = none) (filt : teFilt s n = 0) :
    teEdgeOp s n rise = teAccept s n rise (ltNs s) := by
  rw [teEdgeOp_captures awake mode (fun c hc => by rw [idle] at hc; cases hc), edge, Bool.not_true, if_neg (by decide), if_pos filt]

/-- The stamp stored, or the overflow counted. -/
def stampKept (s : State) (n : Nat) (rise : Bool) (t : Nat) : State :=
  if (teAt s n).fifo.length ≥ 8 then raise (incC s (teR n 0x30)) (teR n 0x18) 1
  else raise (setTe s n { teAt s n with fifo := (teAt s n).fifo ++ [(t, rise)] }) (teR n 0x18) 0

/-- What an item of a capture and the start of a cycle leave of the lines and of this line's registers. -/
structure Captured (s a : State) (n : Nat) : Prop where
  time : a.time = s.time
  overflow : rd a (teR n 0x30) = rd s (teR n 0x30)
  event : ∀ b, b ≠ 3 → getB a (teR n 0x18) b = getB s (teR n 0x18) b

theorem teCapture_captured (s : State) {n : Nat} (low : n < 16) (rise : Bool) (t : Nat) : Captured (stampKept s n rise t) (teCapture s n rise t) n := by
  have noted (a : State) (ty stamp src : Nat) (pay : List Byte) : Captured a (if getB a (teR n 0) 12 then jnlPut a (getF a (teR n 0) 19 14) ty stamp src pay else a) n := by
    split
    · have journal : getF a (teR n 0) 19 14 < 64 := fld_lt (rd a (teR n 0)) 19 14
      have word (k : Nat) : rd (jnlPut a (getF a (teR n 0) 19 14) ty stamp src pay) (teR n k) = rd a (teR n k) := rd_jnlPut _ _ _ _ _ _ _ journal (.inr (by unfold teR; omega))
      refine ⟨?_, word _, fun b _ => congrArg (·.getLsbD b) (word _)⟩
      obtain ⟨r, x, h, e, -⟩ := jnlPut_only a _ ty stamp src pay journal
      rw [e]
    · exact ⟨rfl, rfl, fun _ _ => rfl⟩
  have cycled (a : State) : Captured a (if teMode a n = 1 && teCycOnEdge a n then cycleStart a n else a) n := by
    split
    · have cycle := cycleStart_spec a low
      exact ⟨cycle.time, cycle.word _ (by omega) (by omega) (by omega), cycle.event⟩
    · exact ⟨rfl, rfl, fun _ _ => rfl⟩
  have both {a b : State} (h : Captured (stampKept s n rise t) a n) (h' : Captured a b n) : Captured (stampKept s n rise t) b n :=
    ⟨h'.time.trans h.time, h'.overflow.trans h.overflow, fun k hk => (h'.event k hk).trans (h.event k hk)⟩
  have kept : (if decide ((teAt s n).fifo.length ≥ 8) = true then raise (incC s (teR n 0x30)) (teR n 0x18) 1
      else raise (setTe s n { teAt s n with fifo := (teAt s n).fifo ++ [(t, rise)] }) (teR n 0x18) 0) = stampKept s n rise t := by
    unfold stampKept
    simp only [decide_eq_true_eq]
  unfold teCapture
  simp only [kept]
  exact both (noted ..) (cycled _)

theorem teAccept_captures {s : State} {n : Nat} {rise : Bool} {t : Nat} (opens : teMode s n = 1 ∨ teMode s n = 2 ∧ teGate s n t = true) :
    teAccept s n rise t = teCapture s n rise t := by
  unfold teAccept
  obtain mode | ⟨mode, gate⟩ := opens <;> simp [*]

/-- An edge that is accepted and captured, by what storing its stamp leaves. -/
theorem teEdgeCapture_captures {l : Fin 16} {s : State} {rise : Bool} (awake : powerState s < 2) (edge : nbit (teEdge s l) (if rise then 0 else 1) = true)
    (idle : (teAt s l).cand = none) (filt : teFilt s l = 0) (opens : teMode s l = 1 ∨ teMode s l = 2 ∧ teGate s l (ltNs s) = true) :
    ∃ a, exec (.teEdgeCapture l rise) s = .next (settle a) ∧ Captured (stampKept s l rise (ltNs s)) a l := by
  refine ⟨_, exec_teEdgeCapture l rise s, ?_⟩
  rw [teEdgeOp_accepts awake (opens.imp_right And.left) edge idle filt, teAccept_captures opens]
  exact teCapture_captured s l.isLt rise _

theorem teEdgeCapture_stores {l : Fin 16} {s : State} {rise : Bool} (awake : powerState s < 2) (edge : nbit (teEdge s l) (if rise then 0 else 1) = true)
    (idle : (teAt s l).cand = none) (filt : teFilt s l = 0) (opens : teMode s l = 1 ∨ teMode s l = 2 ∧ teGate s l (ltNs s) = true) (room : (teAt s l).fifo.length < 8) :
    Answers (.teEdgeCapture l rise) s fun t => teAt t l = { teAt s l with fifo := (teAt s l).fifo ++ [(ltNs s, rise)] } ∧ getB t (teR l 0x18) 0 = true := by
  obtain ⟨a, run, captured⟩ := teEdgeCapture_captures awake edge idle filt opens
  rw [stampKept, if_neg (by omega)] at captured
  exact ⟨_, run, (teAt_settle ..).trans ((teAt_congr captured.time l).trans (by rw [teAt_raise, teAt_setTe_same])),
    (getB_settle ..).trans ((captured.event 0 (by omega)).trans (getB_raise_same _ _ _ (by omega)))⟩

theorem teEdgeCapture_overflows {l : Fin 16} {s : State} {rise : Bool} (awake : powerState s < 2) (edge : nbit (teEdge s l) (if rise then 0 else 1) = true)
    (idle : (teAt s l).cand = none) (filt : teFilt s l = 0) (opens : teMode s l = 1 ∨ teMode s l = 2 ∧ teGate s l (ltNs s) = true) (full : 8 ≤ (teAt s l).fifo.length) :
    Answers (.teEdgeCapture l rise) s fun t => teAt t l = teAt s l ∧ rd t (teR l 0x30) = rd s (teR l 0x30) + 1 ∧ getB t (teR l 0x18) 1 = true := by
  obtain ⟨a, run, captured⟩ := teEdgeCapture_captures awake edge idle filt opens
  rw [stampKept, if_pos full] at captured
  refine ⟨_, run, (teAt_settle ..).trans (teAt_congr captured.time l), (rd_settle ..).trans (captured.overflow.trans ?_),
    (getB_settle ..).trans ((captured.event 1 (by omega)).trans (getB_raise_same _ _ _ (by omega)))⟩
  rw [rd_raise, if_neg (by simp), incC_eq, rd_wr_same]
  rfl

theorem teEdgeCapture_gated {l : Fin 16} {s : State} {rise : Bool} (awake : powerState s < 2) (edge : nbit (teEdge s l) (if rise then 0 else 1) = true)
    (idle : (teAt s l).cand = none) (filt : teFilt s l = 0) (mode : teMode s l = 2) (closed : teGate s l (ltNs s) = false) :
    Answers (.teEdgeCapture l rise) s fun t => teAt t l = teAt s l ∧ rd t (teR l 0x2C) = rd s (teR l 0x2C) + 1 ∧ getB t (teR l 0x18) 2 = true ∧
      OnlyRegs s t [teR l 0x18, teR l 0x2C] := by
  refine ⟨_, exec_teEdgeCapture l rise s, ?_⟩
  rw [teEdgeOp_accepts awake (.inr mode) edge idle filt, teAccept, if_neg (by omega), if_pos mode, closed, if_neg (by decide)]
  refine ⟨rfl, ?_, (getB_settle ..).trans (getB_raise_same _ _ _ (by omega)), onlyRegs_of rfl (((RegsKept.refl s _).wr _ _ (by simp)).wr _ _ (by simp))⟩
  rw [rd_settle, rd_raise, if_neg (by simp), incC_eq, rd_wr_same]
  rfl

/-! ### A read of TEnn_CAP_NS (R283) -/

theorem teCapPopOp_pops {s : State} {n : Nat} {c : Nat × Bool} {r : List (Nat × Bool)} (stamps : (teAt s n).fifo = c :: r) :
    teCapPopOp s n = wr (wr (setTe s n { teAt s n with fifo := r, latch := c.1 / 1000000000 }) (teR n 0x20) (BitVec.ofNat 32 (c.1 / 1000000000)))
      (teR n 0x24) (BitVec.ofNat 32 (c.1 / 1000000000 / 2 ^ 32 % 2 ^ 16)) := by
  unfold teCapPopOp
  rw [stamps]

theorem teCapPop_pops (q : Requester) {l : Fin 16} {s : State} {c : Nat × Bool} {r : List (Nat × Bool)} (stamps : (teAt s l).fifo = c :: r) :
    Answers (.teCapPop q l) s fun t => teAt t l = { teAt s l with fifo := r, latch := c.1 / 1000000000 } ∧
      Sends s t (.completion q 0 (leBytes 4 ((c.1 % 1000000000 + 2 ^ 30 * bnat c.2 + 2 ^ 31) % 2 ^ 32))) ∧ rd t (teR l 0x20) = BitVec.ofNat 32 (c.1 / 1000000000) ∧
      RegsKept s t [teR l 0x20, teR l 0x24] := by
  refine ⟨_, exec_teCapPop q l s, ?_⟩
  rw [teCapPopOp_pops stamps, teCapWord, stamps]
  generalize { teAt s l with fifo := r, latch := c.1 / 1000000000 } = x
  refine ⟨?_, ?_, ?_, ?_⟩
  · exact (teAt_settle ..).trans (teAt_setTe_same ..)
  · rw [BitVec.toNat_ofNat]
    exact sends_settle (by rw [wr_out, wr_out]; rfl)
  · rw [rd_settle, rd_send, rd_wr_ne _ _ _ _ (by simp), rd_wr_same]
  · have kept := ((RegsKept.of_regs (s := s) (t := setTe s l x) rfl [teR l 0x20, teR l 0x24]).wr (teR l 0x20) (BitVec.ofNat 32 (c.1 / 1000000000)) (by simp)).wr
      (teR l 0x24) (BitVec.ofNat 32 (c.1 / 1000000000 / 2 ^ 32 % 2 ^ 16)) (by simp)
    exact fun o ho => (rd_settle ..).trans ((rd_send ..).trans (kept o ho))

theorem teCapPop_empty (q : Requester) {l : Fin 16} {s : State} (empty : (teAt s l).fifo = []) :
    Answers (.teCapPop q l) s fun t => Sends s t (.completion q 0 [0, 0, 0, 0]) ∧ OnlyRegs s t [] := by
  refine ⟨_, exec_teCapPop q l s, ?_⟩
  rw [teCapPopOp, teCapWord, empty]
  exact ⟨sends_settle rfl, rfl, fun _ _ => rfl⟩

/-- Settles O40: each row by what its operation leaves of the line. -/
theorem timedEvents : Obligations.TimedEvents := by
  unfold Obligations.TimedEvents
  refine ⟨fun q l data w s m hm hw => ⟨teModeWrite_taken hm hw, teModeWrite_refused hm hw, teModeWrite_off hm, teModeWrite_changed hm⟩, fun l s awake =>
    ⟨fun t0 => teWindowStart_row awake, teWindowEnd_row, fun rise => teEdgeCapture_waits awake, fun rise c => teEdgeCapture_back awake, fun rise edge idle filt =>
      ⟨fun opens => ⟨teEdgeCapture_stores awake edge idle filt opens, teEdgeCapture_overflows awake edge idle filt opens⟩, teEdgeCapture_gated awake edge idle filt⟩,
      fun q c r => teCapPop_pops q, fun q => teCapPop_empty q⟩⟩

end Sys2Proof.Machine
end

section
/-!
PROOFS. O41: the TIME commands (R275, R277, R281, R288) and the key commands (R298 to R302, R318).
-/
namespace Sys2Proof.Machine

theorem exec_timeGet (m : Mbx) (s : State) : exec (.timeGet m) s = .next (settle (cmdRow s m.val 0x0501 cmdTimeGet)) := rfl
theorem exec_timeSelect (m : Mbx) (s : State) : exec (.timeSelect m) s = .next (settle (cmdRow s m.val 0x0502 cmdTimeSelect)) := rfl
theorem exec_timeArmStep (m : Mbx) (s : State) : exec (.timeArmStep m) s = .next (settle (cmdRow s m.val 0x0503 cmdArmStep)) := rfl
theorem exec_timeSetTe (m : Mbx) (s : State) : exec (.timeSetTe m) s = .next (settle (cmdRow s m.val 0x0504 cmdSetTe)) := rfl
theorem exec_secKeyLoad (m : Mbx) (s : State) : exec (.secKeyLoad m) s = .next (settle (cmdRow s m.val 0x0601 cmdKeyLoad)) := rfl
theorem exec_secKeyCommit (m : Mbx) (s : State) : exec (.secKeyCommit m) s = .next (settle (cmdRow s m.val 0x0602 cmdKeyCommit)) := rfl
theorem exec_secKeyClear (m : Mbx) (s : State) : exec (.secKeyClear m) s = .next (settle (cmdRow s m.val 0x0603 cmdKeyClear)) := rfl
theorem exec_secKeyInfo (m : Mbx) (s : State) : exec (.secKeyInfo m) s = .next (settle (cmdRow s m.val 0x0604 cmdKeyInfo)) := rfl
theorem exec_secPufEnroll (m : Mbx) (s : State) : exec (.secPufEnroll m) s = .next (settle (cmdRow s m.val 0x0605 cmdPufEnroll)) := rfl

theorem reqComp_zero {m : Nat} {x : MbxReq} (h : leAt x.hdr 4 1 = 0) : ((reqOf m false x).comp == 0) = true := beq_iff_eq.2 h
theorem reqLen_is {m n : Nat} {x : MbxReq} (h : leAt x.hdr 6 2 = n) : ((reqOf m false x).len == n) = true := beq_iff_eq.2 h

/-! ### A command of the unit's own state (R361) -/

/-- No TIME and no SEC command changes paired state. -/
theorem unpaired_own {s : State} {m code : Nat} {x : MbxReq} (asks : Asks s m code x) (own : 0x0500 ≤ code ∧ code < 0x0700) : pairedReq (reqOf m false x) = false := by
  obtain ⟨-, -, named, -⟩ := asks
  have named : (reqOf m false x).code = code := named
  have other : code ≠ 0x0406 := by omega
  rw [pairedReq, named, Bool.or_eq_false_iff]
  refine ⟨?_, by simp [other]⟩
  rw [← Bool.not_eq_true, List.contains_iff_mem]
  simp only [List.mem_cons, List.not_mem_nil, or_false]
  omega

/-- What a command of the unit's own state leaves once it is answered: the state that it has left, but for mailboxes and their registers, and the answer. -/
structure OwnAnswer (s a t : State) (m : Nat) (x : MbxReq) (st : Nat) (data : List Byte) : Prop where
  replies : Replies s t m x st data
  time : t.time = a.time
  sec : t.sec = a.sec
  tri : t.tri = a.tri
  otp : t.otp = a.otp
  word : ∀ o, o < 0x30000 ∨ 0x3A000 ≤ o → rd t o = rd a o

theorem cmdRow_own {s a : State} {m code st : Nat} {x : MbxReq} {cmd : Command} {data : List Byte} (asks : Asks s m code x) (own : 0x0500 ≤ code ∧ code < 0x0700)
    (run : cmd (take s m x) (reqOf m false x) = (a, { status := st, data := data, wait := false })) (mbx : a.mbx = (take s m x).mbx) (lt : a.time.lt = s.time.lt) :
    OwnAnswer s a (settle (cmdRow s m code cmd)) m x st data := by
  have served := served_take s m x
  have alone : forward (take s m x) m x (reqOf m false x) cmd = take s m x := by rw [forward, unpaired_own asks own, Bool.false_and, if_neg (by decide)]
  obtain ⟨-, -, -, -, -, -, kept⟩ := id asks
  have now : ltNs a = ltNs s := by unfold ltNs; rw [lt]
  obtain ⟨answered, replies⟩ := cmdRow_spec s m code x cmd a st data asks (by rw [alone]; exact run) ((congrArg MbxRt.posted (mbxAt_congr mbx m)).trans served.posted)
    ((congrArg MbxRt.dropResp (mbxAt_congr mbx m)).trans (served.dropResp.trans kept)) now
  generalize cmdRow s m code cmd = b at answered replies
  exact ⟨replies, by rw [settle_time, answered.eq], by rw [settle_sec, answered.eq], by rw [settle_tri, answered.eq], by rw [settle_otp, answered.eq], answered.word⟩

section
variable {s a t : State} {m st : Nat} {x : MbxReq} {data : List Byte} (h : OwnAnswer s a t m x st data)
include h

theorem OwnAnswer.getB (o b : Nat) (other : o < 0x30000 ∨ 0x3A000 ≤ o) : getB t o b = getB a o b := by
  unfold Machine.getB
  rw [h.word o other]

theorem OwnAnswer.getF (o hi lo : Nat) (other : o < 0x30000 ∨ 0x3A000 ≤ o) : getF t o hi lo = getF a o hi lo := by
  unfold Machine.getF
  rw [h.word o other]

theorem OwnAnswer.timeMode : timeMode t = timeMode a := h.getF _ _ _ (by omega)
theorem OwnAnswer.timeSel : timeSel t = timeSel a := h.getF _ _ _ (by omega)
theorem OwnAnswer.teAt (n : Nat) : teAt t n = teAt a n := teAt_congr h.time n
theorem OwnAnswer.teMode (n : Nat) : teMode t n = teMode a n := h.getF _ _ _ (by unfold teR; omega)
theorem OwnAnswer.keyAt (k : Nat) : keyAt t k = keyAt a k := keyAt_congr h.sec k
theorem OwnAnswer.usageCur (k : Nat) : usageCur t k = usageCur a k := triVal_congr h.tri _ _
theorem OwnAnswer.usagePend (k : Nat) : usagePend t k = usagePend a k := triVal_congr h.tri _ _

end

/-! ### TIME_GET (R288) -/

/-- A word of the offsets reads as it stands. -/
theorem regWord_off {o : Nat} (off : o ∈ [0x60054, 0x60058, 0x60074, 0x60078]) (s : State) : regWord s .supervisor o = withMismatch s o (rd s o) := by
  simp only [List.mem_cons, List.not_mem_nil, or_false] at off
  have plain : timeWord s o = rd s o := by
    unfold timeWord
    rw [if_neg (by omega), if_neg (by omega), if_neg (by omega), if_neg (by omega), if_neg (by omega), if_neg (by omega)]
  unfold regWord
  rw [if_neg (by omega), if_neg (by omega), if_neg (by omega), if_neg (by omega), if_neg (by omega), if_pos (by omega), plain]

theorem timeBytes_take (s : State) (m : Nat) (x : MbxReq) : timeBytes (take s m x) = timeBytes s := by
  have offs : regBytes (take s m x) [0x60054, 0x60058, 0x60074, 0x60078] = regBytes s [0x60054, 0x60058, 0x60074, 0x60078] := by
    have word (o : Nat) (h : o ∈ [0x60054, 0x60058, 0x60074, 0x60078]) : leBytes 4 (regWord (take s m x) .supervisor o).toNat = leBytes 4 (regWord s .supervisor o).toNat := by
      rw [regWord_off h, regWord_off h, withMismatch_take]
      rfl
    unfold regBytes
    rw [List.flatMap_def, List.flatMap_def, List.map_congr_left word]
  unfold timeBytes
  rw [offs]
  rfl

theorem timeGet_row {m : Mbx} {s : State} {x : MbxReq} (asks : Asks s m 0x0501 x) (len : leAt x.hdr 6 2 = 0) :
    Answers (.timeGet m) s fun t => Replies s t m x 0 (timeBytes s) ∧ t.time = s.time := by
  have run : cmdTimeGet (take s m x) (reqOf m false x) = (take s m x, answerOk (timeBytes s)) := by
    rw [cmdTimeGet, checked_passed rfl (reqLen_is len), timeBytes_take]
  have answer := cmdRow_own asks (by omega) run rfl rfl
  exact ⟨_, exec_timeGet m s, answer.replies, answer.time⟩

/-! ### TIME_SELECT (R277) -/

theorem timeSelect_row {m : Mbx} {s : State} {x : MbxReq} {d : Nat} (asks : Asks s m 0x0502 x) (len : leAt x.hdr 6 2 = 4) (comp : leAt x.hdr 4 1 = 0)
    (hd : d = leAt x.fields 0 1) (low : d ≤ 1) (tracks : tracking s d = true) : Answers (.timeSelect m) s fun t =>
      Replies s t m x 0 [BitVec.ofNat 8 (timeMode t), 0, 0, 0] ∧ t.time = { s.time with incHist := t.time.incHist, incFrom := t.time.incFrom } ∧
      (timeMode s = 2 - d → timeMode t = 1 + d ∧ timeSel t = d ∧ getB t 0x60000 0 = true) ∧ (timeMode s ≠ 2 - d → timeMode t = timeMode s ∧ timeSel t = timeSel s) := by
  have named : (reqOf m false x).at 0 1 = d := hd.symm
  have run : cmdTimeSelect (take s m x) (reqOf m false x) =
      (supWrote (timeSelectOp (take s m x) d), answerOk (u8s [timeMode (timeSelectOp (take s m x) d), 0, 0, 0])) := by
    have tracks : tracking (take s m x) d = true := tracks
    rw [cmdTimeSelect, checked_passed (reqComp_zero comp) (reqLen_is len), named, if_neg (by omega), tracks]
    rfl
  have mode : timeMode (take s m x) = timeMode s := rfl
  by_cases other : timeMode s = 2 - d
  · have change := toMode_spec (take s m x) (1 + d) d 2
    have locks : timeSelectOp (take s m x) d = toMode (take s m x) (1 + d) d 2 := by
      rw [timeSelectOp, mode, if_pos other, enterLocked_plain (.inr (by omega))]
    rw [locks] at run
    generalize toMode (take s m x) (1 + d) d 2 = a at run change
    have time : a.time = { s.time with incHist := a.time.incHist, incFrom := a.time.incFrom } := by
      have h := change.time
      rw [congrArg Time.incHist h, h]
      rfl
    have answer := cmdRow_own asks (by omega) run (by rw [supWrote_mbx, change.unit.eq]) (change.moded.lt.trans rfl)
    have locked : timeMode (settle (cmdRow s m 0x0502 cmdTimeSelect)) = timeMode a := answer.timeMode
    refine ⟨_, exec_timeSelect m s, by rw [locked]; exact answer.replies, ?_, fun _ => ⟨locked.trans (change.mode (by omega)), answer.timeSel.trans (change.sel (by omega)), ?_⟩,
      fun h => absurd other h⟩
    · rw [answer.time]
      exact time
    · exact (answer.getB _ _ (by omega)).trans change.event
  · have stays : timeSelectOp (take s m x) d = take s m x := if_neg other
    rw [stays] at run
    have answer := cmdRow_own asks (by omega) run rfl rfl
    have same : timeMode (settle (cmdRow s m 0x0502 cmdTimeSelect)) = timeMode s := answer.timeMode
    refine ⟨_, exec_timeSelect m s, by rw [same]; exact answer.replies, ?_, fun h => absurd h other, fun _ => ⟨same, answer.timeSel⟩⟩
    rw [answer.time]
    rfl

/-! ### TIME_ARM_STEP (R275) -/

theorem timeArmStep_row {m : Mbx} {s : State} {x : MbxReq} (asks : Asks s m 0x0503 x) (len : leAt x.hdr 6 2 = 0) (comp : leAt x.hdr 4 1 = 0) :
    Answers (.timeArmStep m) s fun t => Replies s t m x 0 [] ∧ getB t 0x6000C 2 = true ∧ t.time = s.time := by
  have run : cmdArmStep (take s m x) (reqOf m false x) = (supWrote (setB (take s m x) 0x6000C 2 true), answerOk []) := by
    rw [cmdArmStep, checked_passed (reqComp_zero comp) (reqLen_is len)]
  have answer := cmdRow_own asks (by omega) run rfl rfl
  exact ⟨_, exec_timeArmStep m s, answer.replies, (answer.getB _ _ (by omega)).trans ((getB_supWrote ..).trans (getB_setB_same _ _ _ _ (by omega))), answer.time⟩

/-! ### TIME_SET_TE (R281, R288) -/

/-- The line OFF, its FIFO discarded and its fields written, before the mode. -/
def lineWritten (s : State) (n : Nat) (ws : List Word) : State :=
  let a := setTe (teDisable s n) n { teAt (teDisable s n) n with fifo := [] }
  let b := wr a (teR n 0) (takeBits (rd a (teR n 0)) (ws.getD 0 0) 0xFFFF8)
  let c := wr (wr b (teR n 4) (ws.getD 1 0)) (teR n 8) (ws.getD 2 0 &&& 0xFFFF)
  wr (wr (wr c (teR n 0x0C) (ws.getD 3 0 &&& 0x3FFFFFFF)) (teR n 0x10) (ws.getD 4 0)) (teR n 0x14) (ws.getD 5 0)

/-- The mode of that line taken, or refused. -/
def lineSet (s : State) (n : Nat) (ws : List Word) : State :=
  if fld (ws.getD 0 0) 2 0 > 4 then lineWritten s n ws else teEnable (lineWritten s n ws) n (fld (ws.getD 0 0) 2 0)

theorem teSetOp_eq (s : State) (n : Nat) (ws : List Word) : teSetOp s n ws = (lineSet s n ws, teMode (lineSet s n ws) n == fld (ws.getD 0 0) 2 0) := rfl

/-- A line that is OFF, with nothing captured, and the words of `ws`. -/
structure LineWritten (s t : State) (n : Nat) (ws : List Word) : Prop where
  mbx : t.mbx = s.mbx
  lt : t.time.lt = s.time.lt
  fifo : (teAt t n).fifo = []
  active : (teAt t n).active = false
  start : rd t (teR n 4) = ws.getD 1 0
  period : rd t (teR n 0x10) = ws.getD 4 0
  width : rd t (teR n 0x14) = ws.getD 5 0

/-- The fields of a line that TIME_SET_TE writes leave its mode. -/
theorem fld_takeBits_mode (old new : Word) : fld (takeBits old new 0xFFFF8) 2 0 = fld old 2 0 := by
  rw [fld_eq_extract, fld_eq_extract]
  refine congrArg BitVec.toNat (BitVec.eq_of_getLsbD_eq fun i hi => ?_)
  have low : i = 0 ∨ i = 1 ∨ i = 2 := by omega
  rw [BitVec.getLsbD_extractLsb', BitVec.getLsbD_extractLsb', getLsbD_takeBits _ _ _ _ (by omega), if_neg]
  obtain rfl | rfl | rfl := low <;> decide

theorem lineWritten_spec (s : State) (n : Nat) (ws : List Word) : LineWritten s (lineWritten s n ws) n ws ∧ teMode (lineWritten s n ws) n = 0 := by
  unfold lineWritten
  have line : teAt (teDisable s n) n = { teAt s n with active := false, cand := none } := (teAt_setTe_same ..).trans rfl
  have off : rd (setTe (teDisable s n) n { teAt (teDisable s n) n with fifo := [] }) (teR n 0) = putFld (rd s (teR n 0)) 2 0 0 := by
    rw [rd_setTe, teDisable, rd_setTe, rd_setF, if_pos rfl]
  have empty : teAt (setTe (teDisable s n) n { teAt (teDisable s n) n with fifo := [] }) n = { teAt s n with active := false, cand := none, fifo := [] } := by
    rw [teAt_setTe_same, line]
  have kept : (setTe (teDisable s n) n { teAt (teDisable s n) n with fifo := [] }).mbx = s.mbx ∧ (setTe (teDisable s n) n { teAt (teDisable s n) n with fifo := [] }).time.lt = s.time.lt :=
    ⟨rfl, rfl⟩
  generalize setTe (teDisable s n) n { teAt (teDisable s n) n with fifo := [] } = a at off empty kept
  obtain ⟨mbx, lt⟩ := kept
  refine ⟨⟨mbx, lt, ?_, ?_, ?_, ?_, rd_wr_same ..⟩, ?_⟩
  · simp only [teAt_wr, empty]
  · simp only [teAt_wr, empty]
  · simp [rd_wr]
  · simp [rd_wr]
  · have word : rd (wr (wr (wr (wr (wr (wr a (teR n 0) (takeBits (rd a (teR n 0)) (ws.getD 0 0) 0xFFFF8)) (teR n 4) (ws.getD 1 0)) (teR n 8) (ws.getD 2 0 &&& 0xFFFF))
        (teR n 0x0C) (ws.getD 3 0 &&& 0x3FFFFFFF)) (teR n 0x10) (ws.getD 4 0)) (teR n 0x14) (ws.getD 5 0)) (teR n 0) = takeBits (rd a (teR n 0)) (ws.getD 0 0) 0xFFFF8 := by
      simp [rd_wr]
    unfold teMode getF
    rw [word, off, fld_takeBits_mode, fld_putFld_same _ _ _ _ (by omega) (by omega), Nat.zero_mod]

theorem teEnable_kept {s a : State} {n : Nat} {ws : List Word} (h : LineWritten s a n ws) (mode : Nat) : LineWritten s (teEnable a n mode) n ws := by
  obtain ⟨mbx, lt, fifo, active, start, period, width⟩ := h
  unfold teEnable
  split
  · exact ⟨mbx, lt, fifo, active, start, period, width⟩
  · split
    · refine ⟨mbx, lt, fifo, active, ?_, ?_, ?_⟩ <;> rw [rd_raise, if_neg (by simp)] <;> assumption
    · refine ⟨mbx, lt, ?_, ?_, ?_, ?_, ?_⟩
      · rw [teAt_setTe_same]
        exact fifo
      · rw [teAt_setTe_same]
      all_goals
        rw [rd_setTe, rd_setF, if_neg (by simp)]
        assumption

theorem teEnable_mode {a : State} {n mode : Nat} (off : teMode a n = 0) (valid : mode < 8) :
    teMode (teEnable a n mode) n = if teBad a n mode = false then mode else 0 := by
  unfold teEnable
  by_cases zero : mode = 0
  · rw [if_pos zero, off, zero, ite_self]
  · rw [if_neg zero]
    cases teBad a n mode with
    | true =>
      rw [if_pos rfl, if_neg (by decide)]
      exact (congrArg (fld · 2 0) ((rd_raise ..).trans (if_neg (by simp)))).trans off
    | false =>
      rw [if_neg (by decide), if_pos rfl, teMode_setTe]
      exact getF_setF_same _ _ _ _ _ (by omega) (by omega) valid

theorem lineSet_spec (s : State) (n : Nat) (ws : List Word) : LineWritten s (lineSet s n ws) n ws := by
  have written := (lineWritten_spec s n ws).1
  unfold lineSet
  split
  · exact written
  · exact teEnable_kept written _

/-- The mode that the line is left in: the one asked for, or OFF. -/
theorem lineSet_mode (s : State) (n : Nat) (ws : List Word) :
    teMode (lineSet s n ws) n = if fld (ws.getD 0 0) 2 0 ≤ 4 ∧ teBad (lineWritten s n ws) n (fld (ws.getD 0 0) 2 0) = false then fld (ws.getD 0 0) 2 0 else 0 := by
  have off := (lineWritten_spec s n ws).2
  have valid : fld (ws.getD 0 0) 2 0 < 8 := fld_lt _ 2 0
  unfold lineSet
  by_cases code : fld (ws.getD 0 0) 2 0 > 4
  · rw [if_pos code, if_neg (by omega), off]
  · rw [if_neg code, teEnable_mode off valid]
    simp only [Nat.not_lt.1 code, true_and]

theorem teBad_congr {a b : State} (h : a.regs = b.regs) (n mode : Nat) : teBad a n mode = teBad b n mode := by
  unfold teBad tePeriod teWidth teEdge getF
  simp only [rd_congr h]

/-- A request in service changes no mode of a line. -/
theorem lineSet_mode_take (s : State) (m : Nat) (x : MbxReq) (n : Nat) (ws : List Word) : teMode (lineSet (take s m x) n ws) n = teMode (lineSet s n ws) n := by
  have regs : (lineWritten (take s m x) n ws).regs = (lineWritten s n ws).regs := rfl
  rw [lineSet_mode, lineSet_mode, teBad_congr regs]

/-- R360: the checks of TIME_SET_TE passed. -/
theorem cmdSetTe_passed {s : State} {m n : Nat} {x : MbxReq} (len : leAt x.hdr 6 2 = 28) (comp : leAt x.hdr 4 1 = 0) (hn : n = leAt x.fields 0 1) (low : n ≤ 15) :
    cmdSetTe (take s m x) (reqOf m false x) =
      if teMode (lineSet s n (teWords (reqOf m false x))) n == fld ((teWords (reqOf m false x)).getD 0 0) 2 0 then
        (supWrote (lineSet (take s m x) n (teWords (reqOf m false x))), answerOk (u8s [teMode (lineSet s n (teWords (reqOf m false x))) n, 0, 0, 0]))
      else refuse (supWrote (lineSet (take s m x) n (teWords (reqOf m false x)))) eRange := by
  have named : (reqOf m false x).at 0 1 = n := hn.symm
  rw [cmdSetTe, checked_passed (reqComp_zero comp) (reqLen_is len), named, if_neg (by omega)]
  simp only [teSetOp_eq, lineSet_mode_take]

theorem fld_ofNat_low (v : Nat) : fld (BitVec.ofNat 32 v) 2 0 = v % 8 := by
  unfold fld
  rw [BitVec.toNat_ofNat, Nat.shiftRight_zero]
  omega

theorem timeSetTe_taken {m : Mbx} {s : State} {x : MbxReq} {n : Nat} (asks : Asks s m 0x0504 x) (len : leAt x.hdr 6 2 = 28) (comp : leAt x.hdr 4 1 = 0)
    (hn : n = leAt x.fields 0 1) (low : n ≤ 15) (taken : (teSetOp s n (teWords (reqOf m false x))).2 = true) : Answers (.timeSetTe m) s fun t =>
      Replies s t m x 0 [BitVec.ofNat 8 (leAt x.fields 4 4 % 8), 0, 0, 0] ∧ teMode t n = leAt x.fields 4 4 % 8 ∧ (teAt t n).fifo = [] ∧ (teAt t n).active = false ∧
        rd t (teR n 4) = BitVec.ofNat 32 (leAt x.fields 8 4) ∧ rd t (teR n 0x10) = BitVec.ofNat 32 (leAt x.fields 20 4) ∧ rd t (teR n 0x14) = BitVec.ofNat 32 (leAt x.fields 24 4) := by
  have asked : fld ((teWords (reqOf m false x)).getD 0 0) 2 0 = leAt x.fields 4 4 % 8 := fld_ofNat_low _
  have run := cmdSetTe_passed (s := s) (m := m) len comp hn low
  have mode : teMode (lineSet s n (teWords (reqOf m false x))) n = leAt x.fields 4 4 % 8 := (beq_iff_eq.1 taken).trans asked
  rw [mode, asked, beq_self_eq_true, if_pos rfl] at run
  have set := lineSet_spec (take s m x) n (teWords (reqOf m false x))
  have mode' := (lineSet_mode_take s m x n (teWords (reqOf m false x))).trans mode
  generalize lineSet (take s m x) n (teWords (reqOf m false x)) = a at run set mode'
  obtain ⟨mbx, lt, fifo, active, start, period, width⟩ := set
  have answer := cmdRow_own asks (by omega) run mbx lt
  have word (k : Nat) : rd (settle (cmdRow s m 0x0504 cmdSetTe)) (teR n k) = rd a (teR n k) := answer.word _ (.inr (by unfold teR; omega))
  refine ⟨_, exec_timeSetTe m s, answer.replies, (answer.teMode n).trans mode', ?_, ?_, (word _).trans start, (word _).trans period, (word _).trans width⟩
  · rw [answer.teAt]
    exact fifo
  · rw [answer.teAt]
    exact active

theorem timeSetTe_refused {m : Mbx} {s : State} {x : MbxReq} {n : Nat} (asks : Asks s m 0x0504 x) (len : leAt x.hdr 6 2 = 28) (comp : leAt x.hdr 4 1 = 0)
    (hn : n = leAt x.fields 0 1) (low : n ≤ 15) (refused : (teSetOp s n (teWords (reqOf m false x))).2 = false) :
    Answers (.timeSetTe m) s fun t => Replies s t m x 2 [] ∧ teMode t n = 0 ∧ (teAt t n).fifo = [] := by
  have run := cmdSetTe_passed (s := s) (m := m) len comp hn low
  have other : (teMode (lineSet s n (teWords (reqOf m false x))) n == fld ((teWords (reqOf m false x)).getD 0 0) 2 0) = false := refused
  have off : teMode (lineSet s n (teWords (reqOf m false x))) n = 0 := by
    have mode := lineSet_mode s n (teWords (reqOf m false x))
    split at mode
    · exact absurd (beq_iff_eq.2 mode) (Bool.eq_false_iff.1 other)
    · exact mode
  rw [other, if_neg (by decide)] at run
  have set := lineSet_spec (take s m x) n (teWords (reqOf m false x))
  have off' := (lineSet_mode_take s m x n (teWords (reqOf m false x))).trans off
  generalize lineSet (take s m x) n (teWords (reqOf m false x)) = a at run set off'
  have answer := cmdRow_own asks (by omega) run set.mbx set.lt
  refine ⟨_, exec_timeSetTe m s, answer.replies, (answer.teMode n).trans off', ?_⟩
  rw [answer.teAt]
  exact set.fifo

end Sys2Proof.Machine
end

section
/-!
PROOFS. O41: the key commands (R298 to R302, R318), and the family together.
-/
namespace Sys2Proof.Machine

/-! ### Keys in slots -/

theorem triVal_setTri_other (s : State) {f i j v : Nat} (h : j ≠ i) : triVal (setTri s f i v) f j = triVal s f j := by
  unfold triVal triAt setTri
  rw [SMap.get_set_ne _ _ _ _ _ (by unfold triKey; omega)]

theorem triVal_lt (s : State) (f i : Nat) : triVal s f i < 2 ^ 32 := BitVec.isLt _

/-- What the store holds of slot `k`: its keys and their usage. -/
structure SlotIs (t : State) (k : Nat) (x : KeySlot) (cur pend : Nat) : Prop where
  keys : keyAt t k = x
  cur : usageCur t k = cur
  pend : usagePend t k = pend

theorem setUsageCur_slotIs {s : State} {k cur pend v : Nat} {x : KeySlot} (h : SlotIs s k x cur pend) (small : v < 2 ^ 32) : SlotIs (setUsageCur s k v) k x v pend where
  keys := h.keys
  cur := (triVal_setTri_same ..).trans (Nat.mod_eq_of_lt small)
  pend := (triVal_setTri_other s (by omega)).trans h.pend

theorem setUsagePend_slotIs {s : State} {k cur pend v : Nat} {x : KeySlot} (h : SlotIs s k x cur pend) (small : v < 2 ^ 32) : SlotIs (setUsagePend s k v) k x cur v where
  keys := h.keys
  cur := (triVal_setTri_other s (by omega)).trans h.cur
  pend := (triVal_setTri_same ..).trans (Nat.mod_eq_of_lt small)

theorem setKey_slotIs (s : State) (k : Nat) (x : KeySlot) : SlotIs (setKey s k x) k x (usageCur s k) (usagePend s k) where
  keys := (keyAt_setKey ..).trans (if_pos rfl)
  cur := triVal_congr (setKey_tri ..) _ _
  pend := triVal_congr (setKey_tri ..) _ _

/-- A word of the store, or an item, touches no key. -/
theorem SlotIs.congr {s t : State} {k cur pend : Nat} {x : KeySlot} (h : SlotIs s k x cur pend) (sec : t.sec = s.sec) (tri : t.tri = s.tri) : SlotIs t k x cur pend where
  keys := (keyAt_congr sec k).trans h.keys
  cur := (triVal_congr tri _ _).trans h.cur
  pend := (triVal_congr tri _ _).trans h.pend

theorem keyItem_slotIs {s : State} {k cur pend : Nat} {x : KeySlot} (h : SlotIs s k x cur pend) (ev : Nat) (v : List Byte) : SlotIs (keyItem s k ev v) k x cur pend :=
  h.congr (evtItem_sec ..) (evtItem_tri ..)

theorem getB_keyItem (s : State) (k ev : Nat) (v : List Byte) (b : Nat) : getB (keyItem s k ev v) 0x90000 b = getB s 0x90000 b :=
  congrArg (·.getLsbD b) (rd_evtItem _ _ _ _ _ _ _ (by omega))

theorem keyPend_slotIs (s : State) (k : Nat) {usage : Nat} (key : List Byte) (small : usage < 2 ^ 32) :
    SlotIs (keyPend s k usage key) k { keyAt s k with pend := some key } (usageCur s k) usage := setUsagePend_slotIs (setKey_slotIs ..) small

theorem unwrapKey_usage_lt {s : State} {kek bs : List Byte} {k : Nat} {u : Nat × List Byte} (h : unwrapKey s kek k bs = some u) : u.1 < 2 ^ 32 := by
  unfold unwrapKey at h
  split at h
  · obtain ⟨p, -, checked⟩ := Option.bind_eq_some_iff.1 h
    unfold unwrapCheck at checked
    simp only [Option.ite_none_right_eq_some, Option.some.injEq] at checked
    obtain ⟨⟨-, -, small, -, -⟩, rfl⟩ := checked
    exact Nat.lt_trans small (by decide)
  · cases h

/-- A commit whose check value is the expected one. -/
theorem keyCommit_takes {s : State} {k : Nat} {key expect : List Byte} (same : kcv key = expect) :
    (keyCommit s k key expect).2 = true ∧ SlotIs (keyCommit s k key expect).1 k { cur := some key, pend := none } (usagePend s k) 0 := by
  rw [keyCommit, if_pos same]
  exact ⟨rfl, keyItem_slotIs (setUsagePend_slotIs (setUsageCur_slotIs (setKey_slotIs ..) (triVal_lt ..)) (by decide)) ..⟩

/-- One whose check value is not discards the pending key. -/
theorem keyCommit_discards {s : State} {k : Nat} {key expect : List Byte} (other : kcv key ≠ expect) :
    (keyCommit s k key expect).2 = false ∧ SlotIs (keyCommit s k key expect).1 k { keyAt s k with pend := none } (usageCur s k) 0 ∧
      getB (keyCommit s k key expect).1 0x90000 5 = true := by
  rw [keyCommit, if_neg other]
  have erased := setUsagePend_slotIs (setKey_slotIs s k { keyAt s k with pend := none }) (by decide : (0 : Nat) < 2 ^ 32)
  have noted := erased.congr (t := raise (setUsagePend (setKey s k { keyAt s k with pend := none }) k 0) 0x90000 5) rfl rfl
  refine ⟨rfl, keyItem_slotIs noted .., ?_⟩
  rw [getB_keyItem]
  exact getB_raise_same _ _ _ (by omega)

theorem keyClear_slotIs (s : State) (k : Nat) : SlotIs (keyClear s k) k KeySlot.init 0 0 :=
  keyItem_slotIs (setUsagePend_slotIs (setUsageCur_slotIs (setKey_slotIs ..) (by decide)) (by decide)) ..

theorem keyItem_mbx (s : State) (k ev : Nat) (v : List Byte) : (keyItem s k ev v).mbx = s.mbx := evtItem_mbx ..
theorem keyItem_time (s : State) (k ev : Nat) (v : List Byte) : (keyItem s k ev v).time = s.time := evtItem_time ..

theorem keyCommit_kept (s : State) (k : Nat) (key expect : List Byte) : (keyCommit s k key expect).1.mbx = s.mbx ∧ (keyCommit s k key expect).1.time = s.time := by
  unfold keyCommit
  split
  · exact ⟨keyItem_mbx .., keyItem_time ..⟩
  · exact ⟨keyItem_mbx .., keyItem_time ..⟩

/-! ### The commands -/

section
variable {m : Mbx} {s : State} {x : MbxReq} {k : Nat} (hk : k = leAt x.fields 0 2) (low : k ≤ 1023) (act : mayAct (leAt x.hdr 4 1) (slotOwner s k) = true)
include hk

theorem reqSlot : (reqOf m false x).at 0 2 = k := hk.symm

include act

theorem slotComp_passed : slotComp (take s m x) (reqOf m false x) = true := by
  have owned : mayAct (leAt x.hdr 4 1) (slotOwner (take s m x) k) = true := act
  rw [slotComp, reqSlot hk, Bool.or_eq_true]
  exact .inr owned

include low

/-! #### SEC_KEY_LOAD (R299) -/

theorem secKeyLoad_plain (asks : Asks s m 0x0601 x) (ready : keyReady s = true) (plain : leAt x.fields 2 1 = 2) (size : leAt x.fields 8 1 ≤ 1)
    (len : leAt x.hdr 6 2 = 12 + 16 * (leAt x.fields 8 1 + 1)) (usage : leAt x.fields 6 2 ≤ 511) (allowed : getB s 0x90008 0 = true) : Answers (.secKeyLoad m) s fun t =>
      Replies s t m x 0 (kcv (x.fields.drop 12)) ∧ keyAt t k = { keyAt s k with pend := some (x.fields.drop 12) } ∧ usagePend t k = leAt x.fields 6 2 ∧ usageCur t k = usageCur s k := by
  have mode : (reqOf m false x).at 2 1 = 2 := plain
  have small : (reqOf m false x).at 8 1 ≤ 1 := size
  have mask : (reqOf m false x).at 6 2 ≤ 511 := usage
  have length : loadLen (reqOf m false x) = true := by
    rw [loadLen, mode, if_neg (by decide), if_pos rfl, if_neg (by omega)]
    exact beq_iff_eq.2 len
  have ready' : keyReady (take s m x) = true := ready
  have allowed' : getB (take s m x) 0x90008 0 = true := allowed
  have run : cmdKeyLoad (take s m x) (reqOf m false x) = (keyPend (take s m x) k (leAt x.fields 6 2) (x.fields.drop 12), answerOk (kcv (x.fields.drop 12))) := by
    rw [cmdKeyLoad, checked_passed (slotComp_passed hk act) length, reqSlot hk, mode, ready', allowed']
    simp only [Bool.not_true, Bool.false_eq_true, if_false, if_true]
    rw [if_neg (by simp; omega), if_neg (by simp), if_neg (by simp; omega), if_pos (by decide)]
    rfl
  have slot := keyPend_slotIs (take s m x) k (x.fields.drop 12) (usage := leAt x.fields 6 2) (by omega)
  have answer := cmdRow_own asks (by omega) run rfl rfl
  exact ⟨_, exec_secKeyLoad m s, answer.replies, (answer.keyAt k).trans slot.keys, (answer.usagePend k).trans slot.pend, (answer.usageCur k).trans slot.cur⟩

theorem secKeyLoad_wrapped {kek : List Byte} (asks : Asks s m 0x0601 x) (ready : keyReady s = true) (wrapped : leAt x.fields 2 1 < 2)
    (root : leAt x.fields 2 1 = 0 → rootOk s = true) (by_ : leAt x.fields 2 1 = 1 → leAt x.fields 4 2 ≤ 1023) (len : leAt x.hdr 6 2 = 44 ∨ leAt x.hdr 6 2 = 60)
    (unwraps : loadKek s (reqOf m false x) = some kek) : Answers (.secKeyLoad m) s fun t =>
      match unwrapKey s kek k (x.fields.drop 12) with
      | some u => Replies s t m x 0 (kcv u.2) ∧ keyAt t k = { keyAt s k with pend := some u.2 } ∧ usagePend t k = u.1
      | none => Replies s t m x 6 [] ∧ keyAt t k = keyAt s k ∧ getB t 0x90000 5 = true := by
  have mode : (reqOf m false x).at 2 1 < 2 := wrapped
  have root' : (reqOf m false x).at 2 1 = 0 → rootOk (take s m x) = true := root
  have by' : (reqOf m false x).at 2 1 = 1 → (reqOf m false x).at 4 2 ≤ 1023 := by_
  have length : loadLen (reqOf m false x) = true := by
    rw [loadLen, if_pos mode, Bool.or_eq_true, beq_iff_eq, beq_iff_eq]
    exact len
  have ready' : keyReady (take s m x) = true := ready
  have run : cmdKeyLoad (take s m x) (reqOf m false x) = loadWrapped (take s m x) (reqOf m false x) := by
    rw [cmdKeyLoad, checked_passed (slotComp_passed hk act) length, reqSlot hk, ready']
    simp only [Bool.not_true, Bool.false_eq_true, if_false]
    rw [if_neg (by simp; omega), if_neg (by simpa using root'), if_neg (by simp; omega), if_neg (by simp; omega)]
  have kek' : loadKek (take s m x) (reqOf m false x) = some kek := unwraps
  have same : unwrapKey (take s m x) kek k (x.fields.drop 12) = unwrapKey s kek k (x.fields.drop 12) := rfl
  have fields : (reqOf m false x).f = x.fields := rfl
  rw [loadWrapped, kek'] at run
  simp only [reqSlot hk, fields, same] at run
  cases unwrapped : unwrapKey s kek k (x.fields.drop 12) with
  | none =>
    rw [unwrapped] at run
    have answer := cmdRow_own asks (by omega) run (keyItem_mbx ..) (by rw [unwrapFailed, keyItem_time]; rfl)
    exact ⟨_, exec_secKeyLoad m s, answer.replies, (answer.keyAt k).trans (keyAt_congr (evtItem_sec ..) k),
      (answer.getB _ _ (by omega)).trans ((getB_keyItem ..).trans (getB_raise_same _ _ _ (by omega)))⟩
  | some u =>
    rw [unwrapped] at run
    have slot := keyPend_slotIs (take s m x) k u.2 (unwrapKey_usage_lt unwrapped)
    have answer := cmdRow_own asks (by omega) run rfl rfl
    exact ⟨_, exec_secKeyLoad m s, answer.replies, (answer.keyAt k).trans slot.keys, (answer.usagePend k).trans slot.pend⟩

/-! #### SEC_KEY_COMMIT, SEC_KEY_CLEAR, SEC_KEY_INFO (R300, R301, R318) -/

theorem secKeyCommit_row {key : List Byte} (asks : Asks s m 0x0602 x) (ready : keyReady s = true) (len : leAt x.hdr 6 2 = 8) (pend : (keyAt s k).pend = some key) :
    Answers (.secKeyCommit m) s fun t =>
      (kcv key = slice x.fields 4 4 → Replies s t m x 0 [] ∧ keyAt t k = { cur := some key, pend := none } ∧ usageCur t k = usagePend s k ∧ usagePend t k = 0) ∧
      (kcv key ≠ slice x.fields 4 4 → Replies s t m x 6 [] ∧ keyAt t k = { keyAt s k with pend := none } ∧ usageCur t k = usageCur s k ∧ getB t 0x90000 5 = true) := by
  have ready' : keyReady (take s m x) = true := ready
  have pend' : (keyAt (take s m x) k).pend = some key := pend
  have run : cmdKeyCommit (take s m x) (reqOf m false x) = if (keyCommit (take s m x) k key (slice x.fields 4 4)).2 = true
      then ((keyCommit (take s m x) k key (slice x.fields 4 4)).1, answerOk []) else refuse (keyCommit (take s m x) k key (slice x.fields 4 4)).1 eCheck := by
    rw [cmdKeyCommit, checked_passed (slotComp_passed hk act) (reqLen_is len), ready', reqSlot hk]
    simp only [Bool.not_true, Bool.false_eq_true, if_false]
    rw [if_neg (by omega), pend']
    rfl
  obtain ⟨mbx, time⟩ := keyCommit_kept (take s m x) k key (slice x.fields 4 4)
  refine ⟨_, exec_secKeyCommit m s, fun same => ?_, fun other => ?_⟩
  · obtain ⟨taken, slot⟩ := keyCommit_takes (s := take s m x) (k := k) same
    rw [if_pos taken] at run
    have answer := cmdRow_own asks (by omega) run mbx (congrArg Time.lt time)
    exact ⟨answer.replies, (answer.keyAt k).trans slot.keys, (answer.usageCur k).trans slot.cur, (answer.usagePend k).trans slot.pend⟩
  · obtain ⟨refused, slot, event⟩ := keyCommit_discards (s := take s m x) (k := k) other
    rw [if_neg (by simp [refused])] at run
    have answer := cmdRow_own asks (by omega) run mbx (congrArg Time.lt time)
    exact ⟨answer.replies, (answer.keyAt k).trans slot.keys, (answer.usageCur k).trans slot.cur, (answer.getB _ _ (by omega)).trans event⟩

theorem secKeyClear_row (asks : Asks s m 0x0603 x) (ready : keyReady s = true) (len : leAt x.hdr 6 2 = 4) : Answers (.secKeyClear m) s fun t =>
    Replies s t m x 0 [] ∧ keyAt t k = KeySlot.init ∧ usageCur t k = 0 ∧ usagePend t k = 0 := by
  have ready' : keyReady (take s m x) = true := ready
  have run : cmdKeyClear (take s m x) (reqOf m false x) = (keyClear (take s m x) k, answerOk []) := by
    rw [cmdKeyClear, checked_passed (slotComp_passed hk act) (reqLen_is len), ready', reqSlot hk]
    simp only [Bool.not_true, Bool.false_eq_true, if_false]
    rw [if_neg (by omega)]
  have slot := keyClear_slotIs (take s m x) k
  have answer := cmdRow_own asks (by omega) run (keyItem_mbx ..) (by rw [keyClear, keyItem_time]; rfl)
  exact ⟨_, exec_secKeyClear m s, answer.replies, (answer.keyAt k).trans slot.keys, (answer.usageCur k).trans slot.cur, (answer.usagePend k).trans slot.pend⟩

theorem secKeyInfo_row (asks : Asks s m 0x0604 x) (len : leAt x.hdr 6 2 = 4) : Answers (.secKeyInfo m) s fun t => Replies s t m x 0 (keyInfo s k) ∧ t.sec = s.sec := by
  have run : cmdKeyInfo (take s m x) (reqOf m false x) = (take s m x, answerOk (keyInfo s k)) := by
    rw [cmdKeyInfo, checked_passed (slotComp_passed hk act) (reqLen_is len), reqSlot hk, if_neg (by omega)]
    rfl
  have answer := cmdRow_own asks (by omega) run rfl rfl
  exact ⟨_, exec_secKeyInfo m s, answer.replies, answer.sec⟩

end

/-! #### SEC_PUF_ENROLL (R302) -/

theorem secPufEnroll_row {m : Mbx} {s : State} {x : MbxReq} (asks : Asks s m 0x0605 x) (ready : keyReady s = true) (len : leAt x.hdr 6 2 = 0) (comp : leAt x.hdr 4 1 = 0)
    (first : s.otp.enrolled = false) : Answers (.secPufEnroll m) s fun t =>
      Replies s t m x 0 (padTo 2048 Config.helperData) ∧ t.otp.enrolled = true ∧ t.sec = s.sec ∧ getB t 0x90010 2 = getB s 0x90010 2 := by
  have ready' : keyReady (take s m x) = true := ready
  have first' : (take s m x).otp.enrolled = false := first
  have run : cmdPufEnroll (take s m x) (reqOf m false x) = (enroll (take s m x), answerOk (padTo 2048 Config.helperData)) := by
    rw [cmdPufEnroll, checked_passed (reqComp_zero comp) (reqLen_is len), ready', first']
    rfl
  have answer := cmdRow_own asks (by omega) run rfl rfl
  exact ⟨_, exec_secPufEnroll m s, answer.replies, congrArg Otp.enrolled answer.otp, answer.sec, answer.getB _ _ (by omega)⟩

/-- Settles O41: each command by what its own operation leaves, and its answer. -/
theorem timeAndKeyCommands : Obligations.TimeAndKeyCommands := by
  unfold Obligations.TimeAndKeyCommands
  refine ⟨fun m s x => ⟨timeGet_row, fun d asks len comp hd low tracks _ => timeSelect_row asks len comp hd low tracks, timeArmStep_row,
      fun n asks len comp hn low _ taken => timeSetTe_taken asks len comp hn low taken, fun n => timeSetTe_refused⟩, fun m s x k hk low act =>
    ⟨secKeyLoad_plain hk low act, fun kek => secKeyLoad_wrapped hk low act, fun key => secKeyCommit_row hk low act, secKeyClear_row hk low act, secKeyInfo_row hk low act,
      fun asks ready len comp first => secPufEnroll_row asks ready len comp first⟩⟩

end Sys2Proof.Machine
end

section
/-!
PROOFS. The device window (R441): the commit holds every CAN channel in DISABLED, and the ports and lines behind it leave it there.
-/
namespace Sys2Proof.Machine

/-! ### An event bit is a bit set -/

theorem raise_eq_setB (s : State) (o : Nat) {b : Nat} (low : b < 32) : raise s o b = setB s o b true := by
  refine congrArg (wr s o) (BitVec.eq_of_getLsbD_eq fun i _ => ?_)
  rw [getLsbD_raised _ _ _ low]
  refine .trans ?_ (getLsbD_putBit (rd s o) b i true low).symm
  split <;> simp [*]

/-! ### A channel at rest -/

/-- Channel `n` is DISABLED with its standby asserted. -/
def Resting (s : State) (n : Nat) : Prop := modeCur s n = 0 ∧ getB s (canR n 0x30) 17 = true

theorem Resting.congr {s a : State} {n : Nat} (h : Resting s n) (ctrl : rd a (canR n 0) = rd s (canR n 0)) (stb : rd a (canR n 0x30) = rd s (canR n 0x30)) :
    Resting a n := ⟨(modeCur_congr ctrl).trans h.1, (congrArg (BitVec.getLsbD · 17) stb).trans h.2⟩

theorem channelHold_resting (s : State) (n : Nat) : Resting (channelHold s n) n :=
  ⟨(modeCur_congr (by rw [channelHold, rd_setB, if_neg (by simp)])).trans (modeCur_enterDisabled s n), getB_setB_same _ _ _ _ (by omega)⟩

theorem Resting.channelHold_other {s : State} {n m : Nat} (h : Resting s n) (hn : n < 48) (hm : m < 48) (other : n ≠ m) : Resting (channelHold s m) n := by
  obtain ⟨b, ended, e⟩ := enterDisabled_eq s hm
  have word (o : Nat) (low : o < 0x1000) : rd (channelHold s m) (canR n o) = rd s (canR n o) := by
    have apart (k : Nat) (hk : k < 0x1000) : canR n o ≠ canR m k := by unfold canR; omega
    rw [channelHold, e, rd_setB, if_neg (apart _ (by omega)), rd_setB, if_neg (apart _ (by omega)), setInteg_kept _ _ _ _ (by simp [apart]),
      rd_wr_ne _ _ _ _ (apart _ (by omega)), setCur_kept _ _ _ _ (by simp [apart]), ended.rd _ (attemptLeaves_canR n o hn low) (by simp [apart])]
  exact h.congr (word _ (by omega)) (word _ (by omega))

theorem foldl_channelHold_resting {l : List Nat} (low : ∀ m ∈ l, m < 48) {n : Nat} (hn : n < 48) {s : State} (h : n ∈ l ∨ Resting s n) : Resting (l.foldl channelHold s) n := by
  induction l generalizing s with
  | nil => exact h.resolve_left List.not_mem_nil
  | cons m l ih =>
    refine ih (fun k hk => low k (.tail _ hk)) ?_
    by_cases same : n = m
    · exact .inr (same ▸ channelHold_resting s n)
    · obtain h | h := h
      · exact .inl ((List.mem_cons.1 h).resolve_left same)
      · exact .inr (h.channelHold_other hn (low m (.head _)) same)

/-! ### What leaves the channels at rest -/

/-- Every channel that rests still rests. -/
structure RestKept (s a : State) : Prop where
  rests : ∀ n, n < 48 → Resting s n → Resting a n

theorem RestKept.refl (s : State) : RestKept s s := ⟨fun _ _ h => h⟩

theorem RestKept.trans {s a b : State} (h : RestKept s a) (h' : RestKept a b) : RestKept s b := ⟨fun n hn r => h'.rests n hn (h.rests n hn r)⟩

theorem RestKept.ite {s a b : State} {p : Prop} [Decidable p] (h : RestKept s a) (h' : RestKept s b) : RestKept s (if p then a else b) := by
  split <;> assumption

theorem RestKept.foldl {α : Type} {f : State → α → State} (hf : ∀ a x, RestKept a (f a x)) (l : List α) (s : State) : RestKept s (l.foldl f s) := by
  induction l generalizing s with
  | nil => exact .refl s
  | cons x l ih => exact (hf s x).trans (ih _)

theorem restKept_words {s a : State} (h : ∀ o, 0x100000 ≤ o → o < 0x130000 → rd a o = rd s o) : RestKept s a :=
  ⟨fun n _ r => r.congr (h _ (by unfold canR; omega) (by unfold canR; omega)) (h _ (by unfold canR; omega) (by unfold canR; omega))⟩

theorem restKept_regs {s a : State} (h : a.regs = s.regs) : RestKept s a := restKept_words fun o _ _ => rd_congr h o

/-- A word that is none of MODE_CUR and STBCFG of a channel. -/
theorem restKept_wr (s : State) (o : Nat) (w : Word) (other : o < 0x100000 ∨ 0x130000 ≤ o ∨ o % 16 ≠ 0) : RestKept s (wr s o w) :=
  ⟨fun n _ r => r.congr (rd_wr_ne _ _ _ _ (by unfold canR; omega)) (rd_wr_ne _ _ _ _ (by unfold canR; omega))⟩

/-- A bit below those of MODE_CUR, in any word. -/
theorem restKept_setB (s : State) (o b : Nat) (v : Bool) (low : b < 8) : RestKept s (setB s o b v) :=
  ⟨fun n _ r => ⟨(getF_setB_other _ _ _ _ _ _ _ (by omega) (by omega)).trans r.1, (getB_setB_other _ _ _ _ _ _ (by omega) (.inr (by omega))).trans r.2⟩⟩

theorem restKept_raise (s : State) (o b : Nat) (low : b < 8) : RestKept s (raise s o b) := by
  rw [raise_eq_setB s o (by omega)]
  exact restKept_setB s o b true low

theorem restKept_setPort (s : State) (p : Nat) (x : EthRt) : RestKept s (setPort s p x) := restKept_regs rfl

theorem restKept_evtItem (s : State) (o lo ty src : Nat) (pay : List Byte) : RestKept s (evtItem s o lo ty src pay) :=
  restKept_words fun k _ _ => rd_evtItem s o lo ty src pay k (by omega)

/-! ### A port that goes off (R230, R235) -/

/-- A word of a port's. -/
theorem restKept_ethR (s : State) (p o : Nat) (w : Word) : RestKept s (wr s (ethR p o) w) := restKept_wr _ _ _ (.inr (.inl (by unfold ethR; omega)))

/-- A word of a target's. -/
theorem restKept_swR (s : State) (p o : Nat) (w : Word) : RestKept s (wr s (swR p o) w) := restKept_wr _ _ _ (.inr (.inl (by unfold swR; split <;> omega)))

/-- POS and the counters of a ring. -/
theorem restKept_ringR (s : State) (r o : Nat) (w : Word) (other : o % 16 ≠ 0) : RestKept s (wr s (ringR r o) w) :=
  restKept_wr _ _ _ (.inr (.inr (by unfold ringR; omega)))

theorem setDescWord_restKept (s : State) (r w : Nat) (v : Word) : RestKept s (setDescWord s r w v) := by
  unfold setDescWord winWrite
  split
  · rw [memWrite_only_mem]
    exact restKept_regs rfl
  · exact .refl s

theorem ringReturn_restKept (s : State) (r : Nat) (w : Word) : RestKept s (ringReturn s r w) := by
  have counted (a : State) : RestKept a (raise (incC (setF a (ringR r 8) 11 0 ((getF a (ringR r 8) 11 0 + 1) % ringSize a r)) (ringR r 0x18)) (ringR r 0x10) 0) :=
    ((restKept_ringR a r 8 _ (by omega)).trans (restKept_ringR _ r 0x18 _ (by omega))).trans (restKept_raise _ _ _ (by omega))
  exact (setDescWord_restKept s r 0 w).trans (counted _)

theorem ringSwitch_restKept (s : State) (r : Nat) (on : Bool) : RestKept s (ringSwitch s r on) := by
  have zeroed : RestKept s (if on then setF s (ringR r 8) 11 0 0 else s) := .ite (restKept_ringR s r 8 _ (by omega)) (.refl s)
  have bit := zeroed.trans (restKept_setB _ (ringR r 0) 0 on (by omega))
  exact bit.trans (restKept_regs rfl)

theorem txFinish_restKept (s : State) (r st : Nat) : RestKept s (txFinish s r st) := by
  unfold txFinish
  simp only
  have idle : RestKept s (setRing s r { ringAt s r with wait := none }) := restKept_regs rfl
  generalize setRing s r { ringAt s r with wait := none } = i at idle ⊢
  have returned := idle.trans (ringReturn_restKept i r (putFld (putFld (descWord i r 0) 11 4 st) 0 0 0))
  generalize ringReturn i r (putFld (putFld (descWord i r 0) 11 4 st) 0 0 0) = a at returned ⊢
  have h : RestKept s (if st = 0 ∨ st = 7 then a else raise (incC a (ringR r 0x1C)) (ringR r 0x10) 2) :=
    returned.ite ((returned.trans (restKept_ringR a r 0x1C _ (by omega))).trans (restKept_raise _ _ _ (by omega)))
  split
  · exact h.trans (ringSwitch_restKept ..)
  · exact h

theorem txExamine_restKept (r n : Nat) (s : State) : RestKept s (txExamine r n s) := by
  induction n generalizing s with
  | zero => exact .refl s
  | succ n ih =>
    unfold txExamine
    exact (RestKept.refl s).ite (RestKept.ite (restKept_regs rfl) ((RestKept.refl s).ite ((txFinish_restKept ..).trans (ih _))))

theorem txDone_restKept (s : State) (r st : Nat) : RestKept s (txDone s r st) := (txFinish_restKept s r st).trans (txExamine_restKept ..)

theorem releasePort_restKept (s : State) (q tc n : Nat) : RestKept s (releasePort s q tc n) :=
  (restKept_swR s q 0x0C _).trans (restKept_swR _ q (0x30 + 4 * tc) _)

theorem releaseCells_restKept (s : State) (n a b : Nat) : RestKept s (releaseCells s n a b) :=
  ((restKept_wr s 0x180024 _ (by omega)).trans (restKept_wr _ 0x18002C _ (by omega))).trans (restKept_wr _ 0x180030 _ (by omega))

theorem leaveTarget_restKept (s : State) (id p : Nat) : RestKept s (leaveTarget s id p) := by
  unfold leaveTarget
  split
  · exact .refl s
  · next f found =>
    have released := releasePort_restKept s p f.tc f.cells
    generalize releasePort s p f.tc f.cells = b at released ⊢
    simp only
    generalize left : (if p = 26 then _ else _ : State) = a
    have h : RestKept s a := left ▸ .ite (released.trans (restKept_regs rfl)) released
    have given := releaseCells_restKept a f.cells f.cellsA f.cellsB
    generalize releaseCells a f.cells f.cellsA f.cellsB = c at given ⊢
    have dropped : RestKept s (dropFrame c id) := (h.trans given).trans (restKept_regs rfl)
    refine .ite ?_ (h.trans (restKept_regs rfl))
    split
    · exact dropped.trans (txDone_restKept ..)
    · exact dropped

theorem txAbort_restKept (s : State) (p : Nat) : RestKept s (txAbort s p) := by
  unfold txAbort
  split
  · exact .refl s
  · exact ((restKept_ethR s p 0x150 _).trans (restKept_setPort ..)).trans (leaveTarget_restKept ..)

theorem dropQueue_restKept (s : State) (p o cause : Nat) (sel : SwFrame → Bool) : RestKept s (dropQueue s p o cause sel).1 := by
  unfold dropQueue
  generalize (s.sw.frames.filter fun f => f.queued.contains p && sel f) = l
  simp only
  split
  · exact .refl s
  · have settled : RestKept s (if p < 24 then cbsSettle s p else s) := .ite (restKept_setPort ..) (.refl s)
    have gone := settled.trans (RestKept.foldl (fun a (f : SwFrame) => leaveTarget_restKept a f.id p) l _)
    exact (gone.trans (restKept_swR _ p o _)).trans (restKept_evtItem ..)

theorem setEg_restKept (s : State) (p e : Nat) : RestKept s (setEg s p e) := restKept_swR ..

theorem toDropping_restKept (s : State) (p cause : Nat) : RestKept s (toDropping s p cause) := by
  unfold toDropping
  have dropped : RestKept s (dropQueue (setEg s p 2) p 0x70 cause fun _ => true).1 := (setEg_restKept ..).trans (dropQueue_restKept ..)
  generalize dropQueue (setEg s p 2) p 0x70 cause (fun _ => true) = r at dropped ⊢
  have ended : RestKept s (setPort r.1 p { port r.1 p with grace := none }) := dropped.trans (restKept_setPort ..)
  exact .ite ended (ended.trans (restKept_raise _ _ _ (by omega)))

theorem eftItem_restKept (s : State) (pl i : Nat) (e : BitVec 768) (ev new old : Nat) : RestKept s (eftItem s pl i e ev new old) :=
  .ite (restKept_evtItem ..) (.refl s)

theorem tSet_restKept (s : State) (code i : Nat) (e : BitVec 768) : RestKept s (tSet s code i e) := restKept_regs rfl

theorem flushPort_restKept (s : State) (q : Nat) : RestKept s (flushPort s q) := by
  unfold flushPort eftRemove
  exact RestKept.foldl (fun a i => (tSet_restKept ..).trans (eftItem_restKept ..)) _ s

theorem eqStart_restKept (s : State) (p : Nat) : RestKept s (eqStart s p) := by
  have fir (a : State) : RestKept a (firStart a p) := .ite (.refl a) (restKept_ethR ..)
  have ctle := restKept_ethR s p 0x18 (BitVec.ofNat 32 ((serdesOf s p).ctle % 32))
  unfold eqStart
  exact .ite (.refl s) (.trans (.ite (ctle.trans (restKept_ethR _ p 0x1C _)) ctle) (fir _))

/-- The link's registers and counters as it goes down. -/
theorem linkWords_restKept (s : State) (p : Nat) :
    RestKept s (raise (incC (setF (setF s (ethR p 0x0C) 0 0 0) (ethR p 0x0C) 7 7 0) (ethR p 0x160)) (ethR p 4) 3) :=
  (((restKept_ethR s p 0x0C _).trans (restKept_ethR _ p 0x0C _)).trans (restKept_ethR _ p 0x160 _)).trans (restKept_ethR _ p 4 _)

theorem linkGoesDown_restKept (s : State) (p : Nat) : RestKept s (linkGoesDown s p) := by
  unfold linkGoesDown
  refine .ite (.refl s) ?_
  have down := (txAbort_restKept s p).trans (linkWords_restKept _ p)
  simp only
  generalize raise _ (ethR p 4) 3 = a at down ⊢
  have zero : RestKept s (cbsZero a p) := down.trans (restKept_setPort ..)
  generalize cbsZero a p = b at zero ⊢
  generalize { port b p with training := if getB b (ethR p 0) 7 then some (ltNs b) else none, failAt := none } = x
  have trained := zero.trans (restKept_setPort b p x)
  generalize setPort b p x = c at trained ⊢
  have started : RestKept s (if getB c (ethR p 0x14) 0 = true then c else eqStart c p) := .ite trained (trained.trans (eqStart_restKept ..))
  generalize (if getB c (ethR p 0x14) 0 = true then c else eqStart c p) = d at started ⊢
  have flushed : RestKept s (if getB d (fwdR p 0) 15 = true then flushPort d p else d) := .ite (started.trans (flushPort_restKept ..)) started
  generalize (if getB d (fwdR p 0) 15 = true then flushPort d p else d) = e at flushed ⊢
  exact .ite started (.ite flushed (.ite (flushed.trans (toDropping_restKept ..)) ((flushed.trans (restKept_setPort ..)).trans (setEg_restKept ..))))

theorem portOff_restKept (s : State) (p : Nat) : RestKept s (portOff s p) := by
  unfold portOff
  have dropped : RestKept s (if p < 24 then toDropping s p 1 else s) := .ite (toDropping_restKept ..) (.refl s)
  have down := dropped.trans (linkGoesDown_restKept _ p)
  simp only
  generalize linkGoesDown (if p < 24 then toDropping s p 1 else s) p = a at down ⊢
  have reason : RestKept s (setF a (ethR p 0x0C) 9 8 0) := down.trans (restKept_ethR a p 0x0C _)
  exact reason.trans (restKept_setPort ..)

/-! ### The commit (R441, R447, R494) -/

theorem setTe_restKept (s : State) (n : Nat) (x : TeRt) : RestKept s (setTe s n x) := restKept_regs rfl

theorem linesIdle_restKept (s : State) : RestKept s (linesIdle s) := by
  unfold linesIdle
  exact RestKept.foldl (fun _ _ => setTe_restKept ..) _ s

theorem pwrItem_restKept (s : State) (old new : Nat) (cause : Option Nat) : RestKept s (pwrItem s old new cause) :=
  restKept_words fun k hk _ => (rd_lanItem _ _ _ _ k (by omega)).trans (rd_causeByte s cause k)

/-- What a commit leaves. -/
structure CommitDone (t : State) (target : Nat) : Prop where
  power : target < 4 → powerState t = target
  entering : t.lan.entering = some target
  closed : t.lan.dev = none
  link : t.pcie.link = false
  channels : ∀ n, n < 48 → Resting t n

/-- The entry's own words and latches, behind the channels, the ports and the lines. -/
def entryNoted (s : State) (target : Nat) : State :=
  { setB (setF s 0x7000C 1 0 target) 0x7000C 3 false with
    lan := { s.lan with dev := none, entering := some target, latched := none, meanwhile := [] }
    pcie := { s.pcie with link := false } }

theorem rd_entryNoted (s : State) (target o : Nat) : rd (entryNoted s target) o = rd (setB (setF s 0x7000C 1 0 target) 0x7000C 3 false) o := rfl

theorem powerCommit_eq (s : State) (target cause : Nat) : ∃ a, (∀ n, n < 48 → Resting a n) ∧ powerCommit s target cause = entryNoted a target := by
  have held (n : Nat) (hn : n < 48) : Resting ((List.range 48).foldl channelHold (budInput s 4 [6, BitVec.ofNat 8 target, BitVec.ofNat 8 cause])) n :=
    foldl_channelHold_resting (fun m hm => List.mem_range.1 hm) hn (.inl (List.mem_range.2 hn))
  unfold powerCommit
  simp only
  generalize (List.range 48).foldl channelHold (budInput s 4 [6, BitVec.ofNat 8 target, BitVec.ofNat 8 cause]) = a at held ⊢
  have ports : RestKept a ((List.range 25).foldl portHold a) := RestKept.foldl portOff_restKept _ a
  generalize (List.range 25).foldl portHold a = b at ports ⊢
  have lines := ports.trans (linesIdle_restKept b)
  generalize linesIdle b = c at lines ⊢
  have noted := lines.trans (pwrItem_restKept c (pwrState c) target (some cause))
  exact ⟨_, fun n hn => noted.rests n hn (held n hn), rfl⟩

theorem powerCommit_commitDone (s : State) (target cause : Nat) : CommitDone (powerCommit s target cause) target := by
  obtain ⟨a, held, e⟩ := powerCommit_eq s target cause
  rw [e]
  refine ⟨fun low => ?_, rfl, rfl, rfl, fun n hn => (held n hn).congr ?_ ?_⟩
  · unfold powerState getF
    rw [rd_entryNoted]
    exact (getF_setB_other _ _ _ _ _ _ _ (by omega) (by omega)).trans (getF_setF_same _ _ _ _ _ (by omega) (by omega) low)
  all_goals rw [rd_entryNoted, rd_setB, if_neg (by unfold canR; omega), rd_setF, if_neg (by unfold canR; omega)]

/-! ### The end of the device window -/

theorem exec_deviceWindowEnd (s : State) : exec .deviceWindowEnd s = .next (settle (devWindowOp s)) := rfl

theorem devWindowOp_idle {s : State} (none' : s.lan.dev = none) : devWindowOp s = s := by
  unfold devWindowOp
  rw [none']

theorem devWindowOp_open {s : State} {d n : Nat} (window : s.lan.dev = some (d, n)) :
    devWindowOp s = if d + n ≤ s.lan.lnt then powerCommit s (deepOf s + 1) 0x7D else if devCond s then s else devAbort s := by
  unfold devWindowOp
  rw [window]

theorem deviceWindowEnd_idle {s : State} (none' : s.lan.dev = none) : Answers .deviceWindowEnd s fun t => OnlyRegs s t [] := by
  refine ⟨_, exec_deviceWindowEnd s, ?_⟩
  rw [devWindowOp_idle none']
  exact onlyRegs_of rfl (.refl s _)

section
variable {s : State} {d n : Nat} (window : s.lan.dev = some (d, n))
include window

theorem deviceWindowEnd_aborts (fails : devCond s = false) (runs : s.lan.lnt < d + n) : Answers .deviceWindowEnd s fun t => getB t 0x70000 2 = true ∧
    getB t 0x7000C 3 = false ∧ OnlyRegs { s with lan := { s.lan with dev := none } } t [0x70000, 0x7000C] := by
  refine ⟨_, exec_deviceWindowEnd s, ?_⟩
  rw [devWindowOp_open window, if_neg (by omega), fails, if_neg (by decide), devAbort]
  exact ⟨(getB_settle ..).trans (getB_raise_same _ _ _ (by omega)),
    (getB_settle ..).trans ((getB_raise_other _ _ _ _ _ (by omega) (by omega)).trans (getB_setB_same _ _ _ _ (by omega))),
    onlyRegs_of rfl (((RegsKept.refl _ _).wr _ _ (by simp)).wr _ _ (by simp))⟩

theorem deviceWindowEnd_runs (holds : devCond s = true) (runs : s.lan.lnt < d + n) : Answers .deviceWindowEnd s fun t => OnlyRegs s t [] := by
  refine ⟨_, exec_deviceWindowEnd s, ?_⟩
  rw [devWindowOp_open window, if_neg (by omega), holds, if_pos rfl]
  exact onlyRegs_of rfl (.refl s _)

theorem deviceWindowEnd_commits (deep : deepOf s ≤ 2) (ended : d + n ≤ s.lan.lnt) : Answers .deviceWindowEnd s fun t => powerState t = deepOf s + 1 ∧
    t.lan.entering = some (deepOf s + 1) ∧ t.lan.dev = none ∧ t.pcie.link = false ∧ ∀ n, n < 48 → modeCur t n = 0 ∧ getB t (canR n 0x30) 17 = true := by
  refine ⟨_, exec_deviceWindowEnd s, ?_⟩
  rw [devWindowOp_open window, if_pos ended]
  have committed := powerCommit_commitDone s (deepOf s + 1) 0x7D
  generalize powerCommit s (deepOf s + 1) 0x7D = a at committed ⊢
  obtain ⟨power, entering, closed, link, channels⟩ := committed
  exact ⟨(power (by omega)), entering, closed, link, channels⟩

end

end Sys2Proof.Machine
end

section
/-!
PROOFS. STANDBY and SLEEP reached (R443, R496), and what the pins then show (R505, R506).
-/
namespace Sys2Proof.Machine

/-! ### The lantern's words through a reset (R412) -/

/-- A store filtered by its keys. -/
theorem SMap.get_filter {α : Type} (d : Nat → α) (p : Nat → Bool) (m : SMap α) (k : Nat) :
    SMap.get d (m.filter fun e => p e.1) k = if p k then SMap.get d m k else d k := by
  induction m with
  | nil => simp
  | cons e m ih =>
    rw [List.filter_cons]
    by_cases here : e.1 = k
    · subst here
      cases keep : p e.1
      · simpa [keep] using ih
      · simp [SMap.get_cons]
    · have rest : SMap.get d (e :: m) k = SMap.get d m k := by rw [SMap.get_cons, if_neg here]
      cases p e.1
      · simpa [rest] using ih
      · simpa [SMap.get_cons, here] using ih

/-- A key of the first store alone. -/
theorem SMap.get_append {α : Type} (d : Nat → α) (m m' : SMap α) (k : Nat) (other : ∀ e ∈ m', e.1 ≠ k) : SMap.get d (m ++ m') k = SMap.get d m k := by
  induction m with
  | nil =>
    unfold SMap.get
    rw [List.nil_append, List.find?_eq_none.2 fun e he => by simpa using other e he]
    rfl
  | cons e m ih => rw [List.cons_append, SMap.get_cons, SMap.get_cons, ih]

/-- R412: a reset leaves the lantern its words; every other one but BUD_POS has its reset value. -/
theorem rd_blocksReset (s : State) (o : Nat) (other : o ≠ 0x8000C) : rd (blocksReset s) o = if 0x70000 ≤ o ∧ o < 0x70700 then rd s o else resetWord o := by
  have apart : ∀ e ∈ posPin s, e.1 ≠ o := by
    unfold posPin
    split
    · simpa using other.symm
    · simp
  have kept := SMap.get_filter resetWord (fun k => decide (0x70000 ≤ k) && decide (k < 0x70700)) s.regs o
  calc rd (blocksReset s) o = SMap.get resetWord (lanternRegs s.regs ++ posPin s) o := rfl
    _ = SMap.get resetWord (lanternRegs s.regs) o := SMap.get_append _ _ _ _ apart
    _ = _ := by
      rw [lanternRegs, kept]
      simp only [Bool.and_eq_true, decide_eq_true_eq]
      rfl

theorem rd_blocksReset_lantern (s : State) {o : Nat} (low : 0x70000 ≤ o) (high : o < 0x70700) : rd (blocksReset s) o = rd s o := by
  rw [rd_blocksReset s o (by omega), if_pos ⟨low, high⟩]

theorem rd_blocksReset_canR (s : State) {n : Nat} (hn : n < 48) (k : Nat) (hk : k < 0x1000) : rd (blocksReset s) (canR n k) = resetWord (canR n k) := by
  rw [rd_blocksReset s _ (by unfold canR; omega), if_neg (by unfold canR; omega)]

/-! ### SLEEP (R443) -/

/-- The lantern asserts every channel's standby. -/
def standbyAsserted (l : List Nat) (s : State) : State := l.foldl (fun a n => setB a (canR n 0x30) 17 true) s

theorem standbyAsserted_cons (n : Nat) (l : List Nat) (s : State) : standbyAsserted (n :: l) s = standbyAsserted l (setB s (canR n 0x30) 17 true) := by
  unfold standbyAsserted
  rw [List.foldl_cons]

theorem standbyAsserted_nil (s : State) : standbyAsserted [] s = s := by
  unfold standbyAsserted
  rw [List.foldl_nil]

theorem standbyAsserted_only (l : List Nat) (s : State) : RegsOnly s (standbyAsserted l s) := by
  induction l generalizing s with
  | nil => exact standbyAsserted_nil s ▸ .refl s
  | cons n l ih =>
    rw [standbyAsserted_cons]
    exact RegsOnly.trans ((RegsOnly.refl s).setB (canR n 0x30) 17 true) (ih _)

theorem rd_standbyAsserted_other (l : List Nat) (s : State) (o : Nat) (other : ∀ n, o ≠ canR n 0x30) : rd (standbyAsserted l s) o = rd s o := by
  induction l generalizing s with
  | nil => rw [standbyAsserted_nil]
  | cons n l ih => rw [standbyAsserted_cons, ih, rd_setB, if_neg (other n)]

theorem getB_standbyAsserted_other (l : List Nat) (s : State) (o b : Nat) (other : b ≠ 17) : getB (standbyAsserted l s) o b = getB s o b := by
  induction l generalizing s with
  | nil => rw [standbyAsserted_nil]
  | cons n l ih => rw [standbyAsserted_cons, ih, getB_setB_other _ _ _ _ _ _ (by omega) (.inr other)]

theorem getB_standbyAsserted (l : List Nat) (s : State) {n : Nat} (h : n ∈ l ∨ getB s (canR n 0x30) 17 = true) : getB (standbyAsserted l s) (canR n 0x30) 17 = true := by
  induction l generalizing s with
  | nil =>
    rw [standbyAsserted_nil]
    exact h.resolve_left List.not_mem_nil
  | cons m l ih =>
    rw [standbyAsserted_cons]
    refine ih _ ?_
    by_cases same : n = m
    · rw [same]
      exact .inr (getB_setB_same _ _ _ _ (by omega))
    · refine h.imp (fun h => (List.mem_cons.1 h).resolve_left same) fun h => ?_
      rw [getB_setB_other _ _ _ _ _ _ (by omega) (.inl (by unfold canR; omega))]
      exact h

/-- The blocks of a device that falls into SLEEP, before the standby of its channels. -/
def sleepBlocks (s : State) : State :=
  { blocksReset s with
    sec := { (blocksReset s).sec with sleepCfg := rd s 0x90014, tap := .bypass }
    boot := { (blocksReset s).boot with loaded := s.boot.loaded } }

theorem sleepState_eq (s : State) : sleepState s = standbyAsserted (List.range 48) (sleepBlocks s) := by
  unfold sleepState standbyAsserted sleepBlocks
  simp only

theorem rd_sleepBlocks (s : State) (o : Nat) : rd (sleepBlocks s) o = rd (blocksReset s) o := rfl

/-- What SLEEP leaves. -/
structure Sleeping (s t : State) : Prop where
  eq : t = { sleepBlocks s with regs := t.regs }
  power : powerState t = powerState s
  channels : ∀ n, n < 48 → Resting t n
  polarity : ∀ n, n < 48 → frcB t (canR n 0x30) 2 = false

theorem sleepState_sleeping (s : State) : Sleeping s (sleepState s) := by
  rw [sleepState_eq]
  have only := standbyAsserted_only (List.range 48) (sleepBlocks s)
  have word (o : Nat) (other : ∀ n, o ≠ canR n 0x30) : rd (standbyAsserted (List.range 48) (sleepBlocks s)) o = rd (blocksReset s) o :=
    (rd_standbyAsserted_other _ _ o other).trans (rd_sleepBlocks s o)
  have asserted (n : Nat) (hn : n < 48) : getB (standbyAsserted (List.range 48) (sleepBlocks s)) (canR n 0x30) 17 = true :=
    getB_standbyAsserted _ _ (.inl (List.mem_range.2 hn))
  have bit (o : Nat) : getB (standbyAsserted (List.range 48) (sleepBlocks s)) o 2 = getB (sleepBlocks s) o 2 := getB_standbyAsserted_other _ _ o 2 (by omega)
  generalize standbyAsserted (List.range 48) (sleepBlocks s) = t at only word asserted bit ⊢
  refine ⟨only, ?_, fun n hn => ⟨?_, asserted n hn⟩, fun n hn => ?_⟩
  · unfold powerState getF
    rw [word _ fun n => by unfold canR; omega, rd_blocksReset_lantern s (by omega) (by omega)]
  · unfold modeCur getF
    rw [word _ fun m => by unfold canR; omega, rd_blocksReset_canR s hn _ (by omega), resetWord_canR n _ hn (by omega)]
    rfl
  · have inForce : t.inForce = [] := congrArg State.inForce only
    have now : frc t (canR n 0x30) = rd t (canR n 0x30) := by
      unfold frc
      rw [inForce, SMap.get_nil, Option.getD_none]
    have reset : getB t (canR n 0x30) 2 = false := by
      rw [bit, getB, rd_sleepBlocks, rd_blocksReset_canR s hn _ (by omega), resetWord_canR n _ hn (by omega)]
      rfl
    unfold frcB
    rw [now]
    exact reset

theorem exec_sleepReached (s : State) : exec .sleepReached s = .next (settle (sleepOp s)) := rfl

theorem entryReady_iff {s : State} {target : Nat} : entryReady s target = true ↔ s.lan.entering = some target ∧ s.clk.ramps = [] := by
  simp [entryReady]

theorem wakeReturn_unlatched {s : State} (latched : s.lan.latched = none) : wakeReturn s = s := by
  unfold wakeReturn
  rw [latched]

/-- The entry is no longer in hand. -/
def entryOver (s : State) : State := { s with lan := { s.lan with entering := none } }

theorem rd_entryOver (s : State) (o : Nat) : rd (entryOver s) o = rd s o := rfl

theorem powerState_entryOver (s : State) : powerState (entryOver s) = powerState s := congrArg (fld · 1 0) (rd_entryOver s _)

theorem sleepOp_reached {s : State} (latched : s.lan.latched = none) (entering : s.lan.entering = some 3) (ramps : s.clk.ramps = []) :
    sleepOp s = sleepState (entryOver s) := by
  have kept : (sleepState (entryOver s)).lan.latched = none :=
    (congrArg (·.lan.latched) (sleepState_sleeping (entryOver s)).eq).trans latched
  unfold sleepOp
  rw [if_pos (entryReady_iff.2 ⟨entering, ramps⟩)]
  exact wakeReturn_unlatched kept

theorem sleepReached_state {s : State} (latched : s.lan.latched = none) (entering : s.lan.entering = some 3) (ramps : s.clk.ramps = []) :
    Answers .sleepReached s fun t => powerState t = powerState s ∧ t.sec.sleepCfg = rd s 0x90014 ∧ t.lan.entering = none ∧ t.slots = [] ∧ t.mem = [] ∧ t.tbl = [] ∧
      t.boot.stage = 0 ∧ t.boot.loaded = s.boot.loaded ∧ t.otp = s.otp ∧ t.flash = s.flash ∧
      (∀ n, n < 48 → modeCur t n = 0 ∧ getB t (canR n 0x30) 17 = true ∧ segAt t n = segAt s n) := by
  refine ⟨_, exec_sleepReached s, ?_⟩
  rw [sleepOp_reached latched entering ramps]
  obtain ⟨eq, power, channels, -⟩ := sleepState_sleeping (entryOver s)
  generalize sleepState (entryOver s) = t at eq power channels ⊢
  have cfg : t.sec.sleepCfg = rd s 0x90014 := (congrArg (·.sec.sleepCfg) eq).trans (rd_entryOver s _)
  have entry : t.lan.entering = none := congrArg (·.lan.entering) eq
  have slots : t.slots = [] := congrArg (·.slots) eq
  have mem : t.mem = [] := congrArg (·.mem) eq
  have tbl : t.tbl = [] := congrArg (·.tbl) eq
  have stage : t.boot.stage = 0 := congrArg (·.boot.stage) eq
  have loaded : t.boot.loaded = s.boot.loaded := congrArg (·.boot.loaded) eq
  have otp : t.otp = s.otp := congrArg (·.otp) eq
  have flash : t.flash = s.flash := congrArg (·.flash) eq
  have segments : t.lan = (entryOver s).lan := congrArg (·.lan) eq
  simp only [settle_sec, settle_lan, settle_slots, settle_mem, settle_tbl, settle_boot, settle_otp, settle_flash]
  exact ⟨(getF_settle ..).trans (power.trans (powerState_entryOver s)), cfg, entry, slots, mem, tbl, stage, loaded, otp, flash, fun n hn =>
    ⟨(modeCur_settle ..).trans (channels n hn).1, (getB_settle ..).trans (channels n hn).2, (segAt_settle ..).trans (segAt_congr (s := entryOver s) segments n)⟩⟩

theorem frcB_settle (s : State) (o b : Nat) : frcB (settle s) o b = frcB s o b := rfl

theorem sleepReached_pins {s : State} (latched : s.lan.latched = none) (entering : s.lan.entering = some 3) (ramps : s.clk.ramps = []) (power : powerState s = 3) :
    Answers .sleepReached s fun t => inhPin t = .low ∧ (∀ n, n < 48 → txdPin t n = .high ∧ stbPin t n = .high) ∧
      (∀ n, n < 16 → teLevel t n = .highZ) ∧ faultPin t = .highZ ∧ claimPin t = .highZ ∧ spPins t = .highZ ∧ xspiCsPin t = .highZ := by
  refine ⟨_, exec_sleepReached s, ?_⟩
  rw [sleepOp_reached latched entering ramps]
  obtain ⟨eq, power', -, polarity⟩ := sleepState_sleeping (entryOver s)
  generalize sleepState (entryOver s) = a at eq power' polarity ⊢
  have three : powerState (settle a) = 3 := (getF_settle ..).trans <| (power'.trans (powerState_entryOver s)).trans power
  have sleeps : inSleep (settle a) = true := by
    have entry : a.lan.entering = none := congrArg (·.lan.entering) eq
    rw [inSleep, three, settle_lan, entry]
    rfl
  have straight (n : Nat) (hn : n < 48) : frcB (settle a) (canR n 0x30) 2 = false := (frcB_settle ..).trans (polarity n hn)
  generalize settle a = t at three sleeps straight
  refine ⟨?_, fun n hn => ⟨?_, ?_⟩, fun n _ => ?_, ?_, ?_, ?_, ?_⟩
  · simp [inhPin, sleeps]
  · simp [txdPin, three]
  · simp [stbPin, three, straight n hn, levelOf]
  · simp [teLevel, sleeps]
  · simp [faultPin, sleeps]
  all_goals simp [claimPin, spPins, xspiCsPin, groupPin, groupPowered, sleeps]

theorem sleepReached_waits {s : State} (waits : s.lan.entering ≠ some 3 ∨ s.clk.ramps ≠ []) : Answers .sleepReached s fun t => OnlyRegs s t [] := by
  refine ⟨_, exec_sleepReached s, ?_⟩
  rw [sleepOp, if_neg fun h => waits.elim (fun w => w (entryReady_iff.1 h).1) fun w => w (entryReady_iff.1 h).2]
  exact onlyRegs_of rfl (.refl s _)

/-! ### STANDBY (R443, R444) -/

/-- A field inside one that has been cleared. -/
theorem fld_putFld_zero (w : Word) {hi lo hi' lo' : Nat} (h : hi < 32) (hl : lo ≤ hi) (inner : lo ≤ lo' ∧ hi' ≤ hi) : fld (putFld w hi lo 0) hi' lo' = 0 := by
  apply Nat.eq_of_testBit_eq
  intro i
  rw [fld, Nat.testBit_mod_two_pow, Nat.testBit_shiftRight, Nat.zero_testBit]
  by_cases inside : i < hi' + 1 - lo'
  · have bit := getLsbD_putFld w hi lo 0 (lo' + i) h hl
    rw [if_pos (by omega), Nat.zero_testBit] at bit
    simp only [BitVec.getLsbD] at bit
    simp [bit]
  · simp [inside]

theorem exec_standbyReached (s : State) : exec .standbyReached s = .next (settle (standbyOp s)) := rfl

/-- The entry is no longer in hand, the cache is written back, the image retained. -/
def standbyKept (s : State) : State :=
  { s with lan := { s.lan with entering := none }, cache := cacheClean s.cache, boot := { s.boot with resume := s.boot.resume || imageReady s } }

/-- What STANDBY stops: the loops, the image, and IMAGE in READY. -/
def standbyStops (s : State) : State := setB (setB (loopsStop s) 0x1A0000 0 false) 0x14 8 false

theorem standbyOp_reached {s : State} (latched : s.lan.latched = none) (entering : s.lan.entering = some 2) (ramps : s.clk.ramps = []) :
    standbyOp s = standbyStops (standbyKept s) := by
  have kept : (standbyStops (standbyKept s)).lan.latched = none := latched
  unfold standbyOp
  rw [if_pos (entryReady_iff.2 ⟨entering, ramps⟩)]
  exact wakeReturn_unlatched kept

/-- What STANDBY leaves. -/
structure StoodBy (s t : State) : Prop where
  only : RegsOnly (standbyKept s) t
  kept : RegsKept (standbyKept s) t [0x14, 0x1000C, 0x1A0000]
  loops : ∀ k, k < 6 → loopSrc t k = 0
  image : getB t 0x1A0000 0 = false
  imageReady : getB t 0x14 8 = false
  first : getB t 0x14 0 = getB s 0x14 0

theorem loopSrc_loopsStop (s : State) {k : Nat} (low : k < 6) : loopSrc (loopsStop s) k = 0 := by
  unfold loopSrc loopsStop getF
  rw [rd_setF, if_pos rfl]
  exact fld_putFld_zero _ (by omega) (by omega) (by omega)

theorem loopSrc_congr {s a : State} (h : rd a 0x1000C = rd s 0x1000C) (k : Nat) : loopSrc a k = loopSrc s k := by
  unfold loopSrc getF
  rw [h]

theorem rd_standbyKept (s : State) (o : Nat) : rd (standbyKept s) o = rd s o := rfl

theorem standbyStops_eq (s : State) : standbyStops s = setB (setB (setF s 0x1000C 11 0 0) 0x1A0000 0 false) 0x14 8 false := rfl

theorem standbyStops_kept (s : State) : RegsOnly s (standbyStops s) ∧ RegsKept s (standbyStops s) [0x14, 0x1000C, 0x1A0000] := by
  rw [standbyStops_eq]
  exact ⟨(((RegsOnly.refl s).setF ..).setB ..).setB .., (((RegsKept.refl s _).wr _ _ (by simp)).wr _ _ (by simp)).wr _ _ (by simp)⟩

theorem rd_standbyStops_loops (s : State) : rd (standbyStops s) 0x1000C = rd (loopsStop s) 0x1000C := by
  unfold standbyStops
  rw [rd_setB, if_neg (by omega), rd_setB, if_neg (by omega)]

theorem getB_standbyStops (s : State) : getB (standbyStops s) 0x1A0000 0 = false ∧ getB (standbyStops s) 0x14 8 = false ∧ getB (standbyStops s) 0x14 0 = getB s 0x14 0 := by
  have other : getB (setF s 0x1000C 11 0 0) 0x14 0 = getB s 0x14 0 := getB_wr_other _ _ _ _ _ (by omega)
  rw [standbyStops_eq]
  refine ⟨?_, getB_setB_same _ _ _ _ (by omega), ?_⟩
  · rw [getB_setB_other _ _ _ _ _ _ (by omega) (by omega), getB_setB_same _ _ _ _ (by omega)]
  · rw [getB_setB_other _ _ _ _ _ _ (by omega) (by omega), getB_setB_other _ _ _ _ _ _ (by omega) (by omega), other]

theorem standbyStops_stoodBy (s : State) : StoodBy s (standbyStops (standbyKept s)) := by
  have kept := standbyStops_kept (standbyKept s)
  have loops (k : Nat) (low : k < 6) : loopSrc (standbyStops (standbyKept s)) k = 0 := (loopSrc_congr (rd_standbyStops_loops _) k).trans (loopSrc_loopsStop _ low)
  obtain ⟨image, imageReady, first⟩ := getB_standbyStops (standbyKept s)
  exact ⟨kept.1, kept.2, loops, image, imageReady, first.trans (congrArg (BitVec.getLsbD · 0) (rd_standbyKept s _))⟩

theorem standbyReached_state {s : State} (latched : s.lan.latched = none) (entering : s.lan.entering = some 2) (ramps : s.clk.ramps = []) :
    Answers .standbyReached s fun t => t.lan.entering = none ∧ (∀ k, k < 6 → loopSrc t k = 0) ∧ imageReady t = false ∧ ready t 8 = false ∧ t.slots = s.slots ∧
      OnlyRegs { s with lan := { s.lan with entering := none }, cache := cacheClean s.cache, boot := { s.boot with resume := s.boot.resume || imageReady s } } t
        [0x14, 0x1000C, 0x1A0000] := by
  refine ⟨_, exec_standbyReached s, ?_⟩
  rw [standbyOp_reached latched entering ramps]
  have stood := standbyStops_stoodBy s
  generalize standbyStops (standbyKept s) = a at stood ⊢
  obtain ⟨only, kept, loops, image, imageReady, -⟩ := stood
  have entry : a.lan.entering = none := congrArg (·.lan.entering) only
  have slots : a.slots = s.slots := congrArg (·.slots) only
  refine ⟨?_, fun k low => (loopSrc_congr (rd_settle ..) k).trans (loops k low), (getB_settle ..).trans image, (getB_settle ..).trans imageReady, ?_, onlyRegs_of only kept⟩
  · rw [settle_lan, entry]
  · rw [settle_slots, slots]

theorem standbyReached_pins {s : State} (latched : s.lan.latched = none) (entering : s.lan.entering = some 2) (ramps : s.clk.ramps = []) (power : powerState s = 2) :
    Answers .standbyReached s fun t => (ready s 0 = true → s.bud.gate = true → inhPin t = levelOf (getB s 0x70008 10)) ∧
      (∀ n, n < 48 → txdPin t n = .high) ∧ claimPin t = .low ∧ spPins t = .low ∧ ∀ p, portTxPin t p = .highZ := by
  refine ⟨_, exec_standbyReached s, ?_⟩
  rw [standbyOp_reached latched entering ramps]
  have stood := standbyStops_stoodBy s
  generalize standbyStops (standbyKept s) = a at stood ⊢
  obtain ⟨only, kept, -, -, -, first⟩ := stood
  have word (o : Nat) (ho : o ∉ [0x14, 0x1000C, 0x1A0000]) : rd (settle a) o = rd s o := (rd_settle ..).trans ((kept o ho).trans (rd_standbyKept s o))
  have entry : a.lan.entering = none := congrArg (·.lan.entering) only
  have entry : (settle a).lan.entering = none := by rw [settle_lan, entry]
  have gate : a.bud.gate = s.bud.gate := congrArg (·.bud.gate) only
  have gate : (settle a).bud.gate = s.bud.gate := by rw [settle_bud, gate]
  have first : ready (settle a) 0 = ready s 0 := (getB_settle ..).trans first
  generalize settle a = t at first word gate entry
  have two : powerState t = 2 := by
    rw [← power]
    unfold powerState getF
    rw [word _ (by simp)]
  have standby : inStandby t = true := by simp [inStandby, two, entry]
  have awake : inSleep t = false := by simp [inSleep, two]
  have idle : budIdle t = true := by simp [budIdle, show getF t 0x7000C 1 0 = 2 from two]
  refine ⟨fun lantern open' => ?_, fun n _ => ?_, ?_, ?_, fun p => ?_⟩
  · have inh : getB t 0x70008 10 = getB s 0x70008 10 := by
      unfold getB
      rw [word _ (by simp)]
    simp [inhPin, awake, first, lantern, gate, open', two, inh]
  · simp [txdPin, two]
  · simp [claimPin, groupPin, groupPowered, awake, idle]
  · simp [spPins, groupPin, groupPowered, awake, two]
  · simp [portTxPin, groupPin, groupPowered, standby]

theorem standbyReached_waits {s : State} (waits : s.lan.entering ≠ some 2 ∨ s.clk.ramps ≠ []) : Answers .standbyReached s fun t => OnlyRegs s t [] := by
  refine ⟨_, exec_standbyReached s, ?_⟩
  rw [standbyOp, if_neg fun h => waits.elim (fun w => w (entryReady_iff.1 h).1) fun w => w (entryReady_iff.1 h).2]
  exact onlyRegs_of rfl (.refl s _)

end Sys2Proof.Machine
end

section
/-!
PROOFS. A source accepted while the device is away (R434), and the wake from SLEEP (R412, R442).
-/
namespace Sys2Proof.Machine

/-! ### The source latched -/

/-- A source accepted while the device is away: marked, kept for its segments, and latched for the device. -/
def wakeLatched (s : State) (i : Nat) : State :=
  { sourceMark s i with lan := { s.lan with meanwhile := s.lan.meanwhile ++ [(i, s.lan.lnt)], latched := some i } }

theorem rd_sourceMark (s : State) (i o : Nat) (pend : o ≠ 0x70034 + 4 * (i / 32)) (last : o ≠ 0x7000C) : rd (sourceMark s i) o = rd s o := by
  rw [sourceMark, rd_setF, if_neg last, rd_setB, if_neg pend]

theorem getF_sourceMark (s : State) (i : Nat) {hi lo : Nat} (other : hi < 8 ∨ 14 < lo) : getF (sourceMark s i) 0x7000C hi lo = getF s 0x7000C hi lo := by
  rw [sourceMark, getF_setF_other _ _ _ _ _ _ _ _ (by omega) (by omega) (.inr other)]
  exact getF_wr_other _ _ _ _ _ _ (by omega)

theorem lastWake_sourceMark (s : State) {i : Nat} (low : i < 128) : getF (sourceMark s i) 0x7000C 14 8 = i := getF_setF_same _ _ _ _ _ (by omega) (by omega) low

theorem sourceOp_away {s : State} {i : Nat} (enabled : wakeEnabled s i = true) (closed : s.lan.dev = none) (away : 2 ≤ powerState s) (free : s.lan.latched = none)
    (wakes : wakesDevice i = true) : sourceOp s i = wakeLatched s i := by
  have lan : (sourceMark s i).lan = s.lan := rfl
  have power : powerState (sourceMark s i) = powerState s := getF_sourceMark s i (by omega)
  unfold sourceOp wakeLatched
  rw [enabled]
  simp only [Bool.not_true, Bool.false_eq_true, if_false]
  rw [devWindowOp_idle (lan ▸ closed), power, if_neg (by omega), lan, free, wakes]
  rfl

/-- The segments that a source names, by the words of its mask (R434). -/
theorem sourceSegs_congr {s a : State} (h : ∀ o, 0x70200 ≤ o → o < 0x70300 → rd a o = rd s o) (i : Nat) : sourceSegs a i = sourceSegs s i := by
  unfold sourceSegs
  split
  · rfl
  · split
    · refine List.filter_congr fun n hn => ?_
      have low := List.mem_range.1 hn
      exact congrArg (BitVec.getLsbD · _) (h _ (by omega) (by omega))
    · rfl

theorem rd_wakeLatched (s : State) (i o : Nat) : rd (wakeLatched s i) o = rd (sourceMark s i) o := rfl

/-! ### The return from SLEEP -/

/-- Nothing but registers and what the lantern remembers. -/
def LanternOnly (s a : State) : Prop := a = { s with regs := a.regs, lan := a.lan }

theorem LanternOnly.refl (s : State) : LanternOnly s s := rfl

theorem LanternOnly.trans {s a b : State} (h : LanternOnly s a) (h' : LanternOnly a b) : LanternOnly s b := by
  unfold LanternOnly at *
  rw [h', h]

theorem RegsOnly.lanternOnly {s a : State} (h : RegsOnly s a) : LanternOnly s a := by
  unfold RegsOnly at h
  rw [h]
  rfl

theorem setSeg_lanternOnly (s : State) (n : Nat) (x : Seg) : LanternOnly s (setSeg s n x) := rfl

/-- The words that a segment's start writes. -/
def StartWord (o : Nat) : Prop := o = 0x70028 ∨ o = 0x7002C ∨ 0x100000 ≤ o

/-- What the start of one segment leaves of the others. -/
structure SegStarted (s a : State) (n : Nat) : Prop where
  only : LanternOnly s a
  word : ∀ o, ¬ StartWord o → rd a o = rd s o
  seg : ∀ k, k ≠ n → segAt a k = segAt s k

theorem segStart_started (s : State) {n : Nat} (hn : n < 48) : SegStarted s (segStart s n) n ∧ (segAt (segStart s n) n).st = 0 := by
  unfold segStart
  simp only
  have asked : SegStarted s (if (segAt s n).st = 2 then setSleepReq s n false else s) n := by
    split
    · exact ⟨((RegsOnly.refl s).setB ..).lanternOnly, fun o ho => by rw [setSleepReq, rd_setB, if_neg (by unfold StartWord at ho; omega)], fun k _ => segAt_setB ..⟩
    · exact ⟨.refl s, fun _ _ => rfl, fun _ _ => rfl⟩
  generalize (if (segAt s n).st = 2 then setSleepReq s n false else s) = a at asked ⊢
  refine ⟨⟨asked.only.trans (setSeg_lanternOnly ..), asked.word, fun k other => ?_⟩, ?_⟩
  · rw [segAt_setSeg, if_neg other, asked.seg k other]
  · rw [segAt_setSeg, if_pos rfl]
    rfl

/-- Where a wake from SLEEP starts segment `n`: AWAKE where it is named or its ROLE is OFF. -/
def startsAwake (names : List Nat) (s : State) (n : Nat) : Bool := names.contains n || segRole s n == 0

theorem sleepSeg0_started (names : List Nat) (s : State) {n : Nat} (hn : n < 48) :
    SegStarted s (sleepSeg0 names s n) n ∧ (segAt (sleepSeg0 names s n) n).st = if startsAwake names s n then 0 else 2 := by
  unfold sleepSeg0 startsAwake
  split
  · exact segStart_started s hn
  · refine ⟨⟨(setSeg_lanternOnly s n _).trans ((RegsOnly.refl _).setB ..).lanternOnly, fun o ho => ?_, fun k other => ?_⟩, ?_⟩
    · rw [rd_setB, if_neg (by unfold StartWord canR at *; omega)]
      rfl
    · rw [segAt_setB, segAt_setSeg, if_neg other]
    · rw [segAt_setB, segAt_setSeg, if_pos rfl]

/-- What the starts of the segments of a list leave. -/
structure SegsStarted (names : List Nat) (s a : State) (l : List Nat) : Prop where
  only : LanternOnly s a
  word : ∀ o, ¬ StartWord o → rd a o = rd s o
  seg : ∀ k, k ∉ l → segAt a k = segAt s k
  started : ∀ n ∈ l, (segAt a n).st = if startsAwake names s n then 0 else 2

theorem SegStarted.role {s a : State} {m : Nat} (h : SegStarted s a m) {n : Nat} (hn : n < 48) : segRole a n = segRole s n := by
  have inForce : a.inForce = s.inForce := by rw [h.only]
  unfold segRole frcF frc
  rw [inForce, h.word _ (by unfold StartWord segR; omega)]

theorem foldl_sleepSeg0_started (names : List Nat) {l : List Nat} (low : ∀ m ∈ l, m < 48) (s : State) : SegsStarted names s (l.foldl (sleepSeg0 names) s) l := by
  induction l generalizing s with
  | nil => exact ⟨.refl s, fun _ _ => rfl, fun _ _ => rfl, fun n h => absurd h List.not_mem_nil⟩
  | cons m l ih =>
    obtain ⟨first, state⟩ := sleepSeg0_started names s (low m (.head _))
    have rest := ih (fun k hk => low k (.tail _ hk)) (sleepSeg0 names s m)
    rw [List.foldl_cons]
    generalize sleepSeg0 names s m = a at first state rest ⊢
    refine ⟨first.only.trans rest.only, fun o ho => (rest.word o ho).trans (first.word o ho), fun k hk => ?_, fun n hn => ?_⟩
    · rw [List.mem_cons, not_or] at hk
      rw [rest.seg k hk.2, first.seg k hk.1]
    · by_cases later : n ∈ l
      · rw [rest.started n later]
        unfold startsAwake
        rw [first.role (low n hn)]
      · have here : n = m := (List.mem_cons.1 hn).resolve_right later
        rw [rest.seg n later, here, state]

/-- R412: the blocks at reset for a wake from SLEEP, the lantern in ACTIVE, no bank marked. -/
def wakeBlocks (s : State) : State :=
  { lanternActive (setCause (blocksReset s) 4 0) with boot := { (lanternActive (setCause (blocksReset s) 4 0)).boot with badBank := none } }

/-- The power state and the item of the return, then the start that the wake begins. -/
def wakeStarted (s : State) (old i : Nat) : State :=
  let a := raise (setF { s with lan := { s.lan with wakeItem := true } } 0x7000C 1 0 (bnat (anyAsleep s))) 0x70000 0
  let b := pwrItem a old (bnat (anyAsleep s)) (some i)
  setB { b with boot := { b.boot with stage := 1, wake := some i } } 0x14 0 true

theorem sleepReturn_eq (s : State) (i : Nat) :
    sleepReturn s i = wakeStarted ((List.range 48).foldl (sleepSeg0 (sourceSegs s i)) (wakeBlocks s)) (pwrState s) i := by
  unfold sleepReturn wakeStarted wakeBlocks
  simp only

theorem lanItem_waits {s : State} (held : s.lan.wakeItem = true) (ty src : Nat) (pay : List Byte) :
    lanItem s ty src pay = { s with lan := { s.lan with items := s.lan.items ++ [(ty, src, pay)] } } := if_pos (.inr held)

/-- The registers as a start by wake leaves them. -/
theorem wakeStarted_eq (s : State) (old i : Nat) : ∃ items, wakeStarted s old i =
    { setB (raise (setF s 0x7000C 1 0 (bnat (anyAsleep s))) 0x70000 0) 0x14 0 true with
      lan := { s.lan with wakeItem := true, items := items }
      boot := { s.boot with stage := 1, wake := some i } } := by
  unfold wakeStarted pwrItem causeByte
  simp only
  rw [lanItem_waits rfl]
  exact ⟨_, rfl⟩

/-! ### What the wake from SLEEP leaves -/

/-- A lantern in ACTIVE over blocks at reset: its words but for LAN_PWR's state. -/
theorem wakeBlocks_word (s : State) {o : Nat} (low : 0x70000 ≤ o) (high : o < 0x70700) (other : o ≠ 0x7000C) : rd (wakeBlocks s) o = rd s o := by
  have active : rd (wakeBlocks s) o = rd (lanternActive (setCause (blocksReset s) 4 0)) o := rfl
  rw [active, lanternActive, rd_setB, if_neg other, rd_setF, if_neg other]
  exact rd_blocksReset_lantern s low high

theorem wakeBlocks_lastWake (s : State) : getF (wakeBlocks s) 0x7000C 14 8 = getF s 0x7000C 14 8 := by
  have active : getF (wakeBlocks s) 0x7000C 14 8 = getF (lanternActive (setCause (blocksReset s) 4 0)) 0x7000C 14 8 := rfl
  rw [active, lanternActive, getF_setB_other _ _ _ _ _ _ _ (by omega) (by omega), getF_setF_other _ _ _ _ _ _ _ _ (by omega) (by omega) (by omega)]
  exact congrArg (fld · 14 8) (rd_blocksReset_lantern s (by omega) (by omega))

theorem exec_sleepWake (i : Fin 74) (s : State) :
    exec (.sleepWake i) s = .next (settle (if inSleep s && wakesDevice i.val then wakeReturn (sourceOp s i.val) else s)) := rfl

theorem inSleep_iff {s : State} : inSleep s = true ↔ powerState s = 3 ∧ s.lan.entering = none := by simp [inSleep]

theorem wakeReturn_sleep {s : State} {i : Nat} (latched : s.lan.latched = some i) (released : s.boot.resetLow = false) (sleeps : inSleep s = true) :
    wakeReturn s = sleepReturn s i := by
  have notStandby : inStandby s = false := by simp [inStandby, (inSleep_iff.1 sleeps).1]
  unfold wakeReturn
  rw [latched]
  simp only [released, notStandby, sleeps, Bool.false_eq_true, if_false, if_true]

/-- What a wake from SLEEP by source `i` leaves. -/
structure WokenUp (s t : State) (i : Nat) : Prop where
  boot : t.boot = { Boot.init with stage := 1, cause := 4, wake := some i }
  power : powerState t < 2
  lastWake : getF t 0x7000C 14 8 = getF s 0x7000C 14 8
  slots : t.slots = []
  otp : t.otp = s.otp
  flash : t.flash = s.flash
  seg : ∀ n, n < 48 → (segAt t n).st = if n ∈ sourceSegs s i ∨ getF s (segR n 0) 1 0 = 0 then 0 else 2

theorem sleepReturn_wokenUp (s : State) (i : Nat) : WokenUp s (sleepReturn s i) i := by
  have segs := foldl_sleepSeg0_started (sourceSegs s i) (fun m hm => List.mem_range.1 hm) (wakeBlocks s) (l := List.range 48)
  rw [sleepReturn_eq]
  generalize (List.range 48).foldl (sleepSeg0 (sourceSegs s i)) (wakeBlocks s) = a at segs ⊢
  obtain ⟨only, word, -, started⟩ := segs
  obtain ⟨items, e⟩ := wakeStarted_eq a (pwrState s) i
  generalize wakeStarted a (pwrState s) i = t at e ⊢
  have boot : a.boot = { Boot.init with cause := 4 } := congrArg (·.boot) only
  have slots : a.slots = [] := congrArg (·.slots) only
  have otp : a.otp = s.otp := congrArg (·.otp) only
  have flash : a.flash = s.flash := congrArg (·.flash) only
  have inForce : (wakeBlocks s).inForce = [] := rfl
  have field (hi lo : Nat) : getF t 0x7000C hi lo = getF (setF a 0x7000C 1 0 (bnat (anyAsleep a))) 0x7000C hi lo := by
    have regs : getF t 0x7000C hi lo = getF (setB (raise (setF a 0x7000C 1 0 (bnat (anyAsleep a))) 0x70000 0) 0x14 0 true) 0x7000C hi lo := by
      rw [e]
      rfl
    rw [regs]
    exact (getF_wr_other _ _ _ _ _ _ (by omega)).trans (getF_wr_other _ _ _ _ _ _ (by omega))
  have small : bnat (anyAsleep a) < 2 := by cases anyAsleep a <;> decide
  have tBoot : t.boot = { a.boot with stage := 1, wake := some i } := congrArg (·.boot) e
  have tSlots : t.slots = a.slots := congrArg (·.slots) e
  have tOtp : t.otp = a.otp := congrArg (·.otp) e
  have tFlash : t.flash = a.flash := congrArg (·.flash) e
  have tSeg : t.lan.seg = a.lan.seg := congrArg (·.lan.seg) e
  clear e only
  refine ⟨?_, ?_, ?_, tSlots.trans slots, tOtp.trans otp, tFlash.trans flash, fun n hn => ?_⟩
  · rw [tBoot, boot]
  · unfold powerState
    rw [field, getF_setF_same _ _ _ _ _ (by omega) (by omega) (by omega)]
    exact small
  · rw [field, getF_setF_other _ _ _ _ _ _ _ _ (by omega) (by omega) (by omega), ← wakeBlocks_lastWake s]
    exact congrArg (fld · 14 8) (word _ (by unfold StartWord; omega))
  · have seg : segAt t n = segAt a n := congrArg (SMap.get (fun _ => Seg.init) · n) tSeg
    have role : segRole (wakeBlocks s) n = getF s (segR n 0) 1 0 := by
      unfold segRole frcF frc
      rw [inForce, SMap.get_nil, Option.getD_none, wakeBlocks_word s (by unfold segR; omega) (by unfold segR; omega) (by unfold segR; omega)]
      rfl
    rw [seg, started n (List.mem_range.2 hn), startsAwake, role]
    simp only [Bool.or_eq_true, List.contains_iff_mem, beq_iff_eq]

/-- What a source latched leaves of the device that is away. -/
structure Latched (s a : State) (i : Nat) : Prop where
  latched : a.lan.latched = some i
  entering : a.lan.entering = s.lan.entering
  lnt : a.lan.lnt = s.lan.lnt
  meanwhile : a.lan.meanwhile = s.lan.meanwhile ++ [(i, s.lan.lnt)]
  seg : ∀ n, segAt a n = segAt s n
  eq : a = { s with regs := a.regs, lan := a.lan }
  word : ∀ o, o ≠ 0x70034 + 4 * (i / 32) → o ≠ 0x7000C → rd a o = rd s o
  power : powerState a = powerState s
  lastWake : i < 128 → getF a 0x7000C 14 8 = i

theorem wakeLatched_spec (s : State) (i : Nat) : Latched s (wakeLatched s i) i where
  latched := rfl
  entering := rfl
  lnt := rfl
  meanwhile := rfl
  seg _ := rfl
  eq := rfl
  word o pend last := (rd_wakeLatched s i o).trans (rd_sourceMark s i o pend last)
  power := (congrArg (fld · 1 0) (rd_wakeLatched s i 0x7000C)).trans (getF_sourceMark s i (by omega))
  lastWake low := (congrArg (fld · 14 8) (rd_wakeLatched s i 0x7000C)).trans (lastWake_sourceMark s low)

theorem Latched.sourceSegs {s a : State} {i : Nat} (h : Latched s a i) (low : i < 74) (k : Nat) : sourceSegs a k = Machine.sourceSegs s k :=
  sourceSegs_congr (fun o h' _ => h.word o (by omega) (by omega)) k

theorem Latched.resetLow {s a : State} {i : Nat} (h : Latched s a i) : a.boot.resetLow = s.boot.resetLow := congrArg (·.boot.resetLow) h.eq

theorem Latched.inSleep {s a : State} {i : Nat} (h : Latched s a i) (sleeps : inSleep s = true) : Machine.inSleep a = true := by
  obtain ⟨power, entered⟩ := inSleep_iff.1 sleeps
  exact inSleep_iff.2 ⟨h.power.trans power, h.entering.trans entered⟩

theorem sleepWake_run {i : Fin 74} {s : State} (wakes : wakesDevice i = true) (enabled : wakeEnabled s i = true) (free : s.lan.latched = none)
    (closed : s.lan.dev = none) (released : s.boot.resetLow = false) (sleeps : inSleep s = true) :
    ∃ a, Latched s a i ∧ exec (.sleepWake i) s = .next (settle (sleepReturn a i)) := by
  have latched := wakeLatched_spec s i
  refine ⟨_, latched, (exec_sleepWake i s).trans ?_⟩
  have power := (inSleep_iff.1 sleeps).1
  rw [sleeps, wakes, Bool.and_self, if_pos rfl, sourceOp_away enabled closed (by omega) free wakes,
    wakeReturn_sleep latched.latched (latched.resetLow.trans released) (latched.inSleep sleeps)]

theorem sleepWake_wakes {i : Fin 74} {s : State} (wakes : wakesDevice i = true) (enabled : wakeEnabled s i = true) (free : s.lan.latched = none)
    (closed : s.lan.dev = none) (released : s.boot.resetLow = false) (sleeps : inSleep s = true) :
    Answers (.sleepWake i) s fun t => t.boot = { Boot.init with stage := 1, cause := 4, wake := some i.val } ∧ powerState t < 2 ∧
      getF t 0x7000C 14 8 = i ∧ t.slots = [] ∧ t.otp = s.otp ∧ t.flash = s.flash ∧
      ∀ n, n < 48 → (segAt t n).st = (if n ∈ sourceSegs s i ∨ getF s (segR n 0) 1 0 = 0 then 0 else 2) := by
  obtain ⟨a, latched, run⟩ := sleepWake_run wakes enabled free closed released sleeps
  have low := i.isLt
  have role (n : Nat) : getF a (segR n 0) 1 0 = getF s (segR n 0) 1 0 := congrArg (fld · 1 0) (latched.word _ (by unfold segR; omega) (by unfold segR; omega))
  have otp : a.otp = s.otp := congrArg (·.otp) latched.eq
  have flash : a.flash = s.flash := congrArg (·.flash) latched.eq
  obtain ⟨boot, power, last, slots, otp', flash', seg⟩ := sleepReturn_wokenUp a i
  refine ⟨_, run, ?_⟩
  generalize sleepReturn a i = t at boot power last slots otp' flash' seg ⊢
  simp only [settle_boot, settle_slots, settle_otp, settle_flash]
  refine ⟨boot, (getF_settle ..).trans_lt power, (getF_settle ..).trans (last.trans (latched.lastWake (by omega))), slots, otp'.trans otp, flash'.trans flash, fun n hn => ?_⟩
  rw [segAt_settle, seg n hn, latched.sourceSegs low, role]

theorem sleepWake_waits {i : Fin 74} {s : State} (waits : wakesDevice i = false ∨ inSleep s = false) : Answers (.sleepWake i) s fun t => OnlyRegs s t [] := by
  refine ⟨_, exec_sleepWake i s, ?_⟩
  rw [if_neg (by obtain h | h := waits <;> simp [h])]
  exact onlyRegs_of rfl (.refl s _)

end Sys2Proof.Machine
end

section
/-!
PROOFS. The return from STANDBY (R442, R444): what its changes of the channels, the ports, the segments and the journals leave of the lantern's words, the signal
slots and one word of the board.
-/
namespace Sys2Proof.Machine

/-! ### What the return leaves -/

/-- A segment that is ASLEEP wakes, or keeps its record and its window in force; one that is AWAKE stays so. -/
structure SegKept (s a : State) (n : Nat) : Prop where
  awake : (segAt s n).st = 0 → (segAt a n).st = 0
  asleep : (segAt s n).st = 2 → (segAt a n).st = 0 ∨ segAt a n = segAt s n ∧ frc a (segR n 0xC) = frc s (segR n 0xC)

theorem SegKept.trans {s a b : State} {n : Nat} (h : SegKept s a n) (h' : SegKept a b n) : SegKept s b n where
  awake st := h'.awake (h.awake st)
  asleep st := by
    obtain woken | ⟨same, window⟩ := h.asleep st
    · exact .inl (h'.awake woken)
    · obtain woken | ⟨same', window'⟩ := h'.asleep (same ▸ st)
      · exact .inl woken
      · exact .inr ⟨same'.trans same, window'.trans window⟩

theorem SegKept.of {s a : State} {n : Nat} (seg : segAt a n = segAt s n) (window : frc a (segR n 0xC) = frc s (segR n 0xC)) : SegKept s a n :=
  ⟨fun st => by rw [seg, st], fun _ => .inr ⟨seg, window⟩⟩

/-- A word that the return from STANDBY sets at one place alone: READY, the clocks, pacing, the buddy's mode, the time unit. -/
def BoardWord (w : Nat) : Prop := w = 0x14 ∨ w = 0x1000C ∨ w = 0x10108 ∨ w = 0x80010 ∨ 0x60000 ≤ w ∧ w < 0x60200 ∧ w ≠ 0x60008

/-- What a part of the return leaves: the slots, the latch, the word `w`, the lantern's configuration, LAST_WAKE, an event, an unpowered state that is left. -/
structure Returning (w : Nat) (s a : State) : Prop where
  slots : a.slots = s.slots
  latched : a.lan.latched = s.lan.latched
  word : rd a w = rd s w
  mask : ∀ o, 0x70080 ≤ o → o < 0x80000 → rd a o = rd s o
  power : powerState s < 2 → powerState a < 2
  lastWake : getF a 0x7000C 14 8 = getF s 0x7000C 14 8
  event : getB s 0x70000 0 = true → getB a 0x70000 0 = true
  seg : ∀ n, n < 48 → SegKept s a n

theorem Returning.refl (w : Nat) (s : State) : Returning w s s := ⟨rfl, rfl, rfl, fun _ _ _ => rfl, id, rfl, id, fun _ _ => .of rfl rfl⟩

theorem Returning.trans {w : Nat} {s a b : State} (h : Returning w s a) (h' : Returning w a b) : Returning w s b where
  slots := h'.slots.trans h.slots
  latched := h'.latched.trans h.latched
  word := h'.word.trans h.word
  mask o h1 h2 := (h'.mask o h1 h2).trans (h.mask o h1 h2)
  power lt := h'.power (h.power lt)
  lastWake := h'.lastWake.trans h.lastWake
  event set := h'.event (h.event set)
  seg n hn := (h.seg n hn).trans (h'.seg n hn)

theorem Returning.ite {w : Nat} {s a b : State} {p : Prop} [Decidable p] (h : Returning w s a) (h' : Returning w s b) : Returning w s (if p then a else b) := by
  split <;> assumption

theorem Returning.foldl {w : Nat} {α : Type} {f : State → α → State} (hf : ∀ a x, Returning w a (f a x)) (l : List α) (s : State) : Returning w s (l.foldl f s) := by
  induction l generalizing s with
  | nil => exact .refl w s
  | cons x l ih => exact (hf s x).trans (ih _)

/-- Words of the lantern that a part of the return keeps unless it says so. -/
def LanternWord (o : Nat) : Prop := o = 0x70000 ∨ o = 0x7000C ∨ 0x70080 ≤ o ∧ o < 0x80000

theorem frc_congr {s a : State} {o : Nat} (inForce : a.inForce = s.inForce) (word : rd a o = rd s o) : frc a o = frc s o := by
  unfold frc
  rw [inForce, word]

/-- A part that touches neither segments nor the lantern's words. -/
theorem Returning.quiet {w : Nat} {s a : State} (slots : a.slots = s.slots) (latched : a.lan.latched = s.lan.latched) (seg : a.lan.seg = s.lan.seg)
    (inForce : a.inForce = s.inForce) (word : ∀ o, LanternWord o ∨ o = w → rd a o = rd s o) : Returning w s a where
  slots := slots
  latched := latched
  word := word w (.inr rfl)
  mask o h1 h2 := word o (.inl (.inr (.inr ⟨h1, h2⟩)))
  power := by
    unfold powerState getF
    rw [word _ (.inl (.inr (.inl rfl)))]
    exact id
  lastWake := congrArg (fld · 14 8) (word _ (.inl (.inr (.inl rfl))))
  event := by
    unfold getB
    rw [word _ (.inl (.inl rfl))]
    exact id
  seg n hn := .of (by unfold segAt; rw [seg]) (frc_congr inForce (word _ (.inl (.inr (.inr (by unfold segR; omega))))))

section
variable {w : Nat} (hw : BoardWord w)
include hw

/-- A word of neither the lantern's nor the board's. -/
theorem returning_wr (s : State) (o : Nat) (v : Word) (other : ¬ LanternWord o) (place : ¬ BoardWord o) : Returning w s (wr s o v) :=
  .quiet rfl rfl rfl rfl fun k hk => rd_wr_ne _ _ _ _ fun e => by
    subst e
    exact hk.elim other fun e => place (e ▸ hw)

theorem returning_evtItem (s : State) (o lo ty src : Nat) (pay : List Byte) : Returning w s (evtItem s o lo ty src pay) := by
  have word (k : Nat) (hk : LanternWord k ∨ k = w) : rd (evtItem s o lo ty src pay) k = rd s k :=
    rd_evtItem _ _ _ _ _ _ _ (by unfold LanternWord BoardWord at *; omega)
  obtain ⟨r, x, h, e, -⟩ := evtItem_only s o lo ty src pay
  rw [e] at word ⊢
  exact .quiet rfl rfl rfl rfl word

/-! ### A channel leaves DISABLED -/

theorem returning_canR (s : State) (n o : Nat) (v : Word) : Returning w s (wr s (canR n o) v) :=
  returning_wr hw s _ v (by unfold LanternWord canR; omega) (by unfold BoardWord canR; omega)

omit hw in
theorem setChan_returning (s : State) (n : Nat) (x : CanRt) : Returning w s (setChan s n x) := .quiet rfl rfl rfl rfl fun _ _ => rfl

theorem setCur_returning (s : State) (n m : Nat) : Returning w s (setCur s n m) :=
  .ite (.refl w s) ((returning_canR hw s n 0 _).trans (returning_canR hw _ n 4 _))

omit hw in
theorem inForce_foldl_other (os : List Nat) (m : SMap (Option Word)) {o : Nat} (other : o ∉ os) :
    SMap.get (fun _ => none) (os.foldl (fun m k => SMap.set (fun _ => none) m k none) m) o = SMap.get (fun _ => none) m o := by
  induction os generalizing m with
  | nil => rfl
  | cons k os ih =>
    rw [List.mem_cons, not_or] at other
    rw [List.foldl_cons, ih _ other.2, SMap.get_set_ne _ _ _ _ _ other.1]

omit hw in
theorem frc_bite_other (s : State) {os : List Nat} {o : Nat} (other : o ∉ os) : frc (bite s os) o = frc s o := by
  unfold frc bite
  rw [inForce_foldl_other os s.inForce other]
  rfl

omit hw in
/-- The words of a channel and of its segment bite: another segment's window stays. -/
theorem bite_returning (s : State) {n : Nat} (awake : (segAt s n).st ≠ 2) : Returning w s (bite s (canR n 0x30 :: wordsFrom (segR n 0) 4)) where
  slots := rfl
  latched := rfl
  word := rfl
  mask _ _ _ := rfl
  power := id
  lastWake := rfl
  event := id
  seg k hk := by
    by_cases same : k = n
    · exact ⟨id, fun st => absurd (same ▸ st) awake⟩
    · refine .of rfl (frc_bite_other s ?_)
      simp only [wordsFrom, List.mem_cons, List.mem_map, List.mem_range, not_or, not_exists, not_and]
      exact ⟨by unfold segR canR; omega, fun i hi => by unfold segR; omega⟩

theorem leaveDisabled_returning (s : State) {n : Nat} (awake : (segAt s n).st ≠ 2) : Returning w s (leaveDisabled s n) := by
  unfold leaveDisabled
  simp only
  have bitten := bite_returning (w := w) s awake
  generalize bite s (canR n 0x30 :: wordsFrom (segR n 0) 4) = a at bitten ⊢
  have mode := bitten.trans (setCur_returning hw a n (modeReq s n))
  generalize setCur a n (modeReq s n) = b at mode ⊢
  have integ : Returning w s (setInteg b n (modeReq s n != 4)) := mode.trans (returning_canR hw b n 0 _)
  generalize setInteg b n (modeReq s n != 4) = c at integ ⊢
  have counters := integ.trans (returning_canR hw c n 0x28 0)
  generalize wr c (canR n 0x28) 0 = d at counters ⊢
  exact counters.trans (setChan_returning d n _)

/-- R437: no channel leaves DISABLED while its segment is ASLEEP. -/
theorem tryLeave_returning (s : State) (n : Nat) : Returning w s (tryLeave s n) := by
  unfold tryLeave
  split
  · next may =>
    obtain ⟨-, -, awake, -⟩ := may
    exact leaveDisabled_returning hw s awake
  · exact .refl w s

/-- R442: a channel whose segment is not ASLEEP, at the return. -/
def channelBack (s : State) (n : Nat) : State := if (segAt s n).st = 2 then s else tryLeave (setB s (canR n 0x30) 17 false) n

theorem channelBack_returning (s : State) (n : Nat) : Returning w s (channelBack s n) := by
  have freed : Returning w s (setB s (canR n 0x30) 17 false) := returning_canR hw s n 0x30 _
  exact .ite (.refl w s) (freed.trans (tryLeave_returning hw _ n))

omit hw in
theorem trainStart_returning (s : State) (p : Nat) : Returning w s (trainStart s p) := .ite (.quiet rfl rfl rfl rfl fun _ _ => rfl) (.refl w s)

/-! ### The lantern's items (R447) -/

theorem lanItem_returning (s : State) (ty src : Nat) (pay : List Byte) : Returning w s (lanItem s ty src pay) :=
  .ite (.quiet rfl rfl rfl rfl fun _ _ => rfl) (returning_evtItem hw ..)

omit hw in
theorem causeByte_returning (s : State) (c : Option Nat) : Returning w s (causeByte s c).2 := by
  cases c
  · exact .quiet rfl rfl rfl rfl fun _ _ => rfl
  · exact .refl w s

theorem pwrItem_returning (s : State) (old new : Nat) (cause : Option Nat) : Returning w s (pwrItem s old new cause) :=
  (causeByte_returning s cause).trans (lanItem_returning hw ..)

theorem segItem_returning (s : State) (n ev : Nat) (cause : Option Nat) : Returning w s (segItem s n ev cause) :=
  (causeByte_returning s cause).trans (lanItem_returning hw ..)

theorem flushItems_returning (s : State) : Returning w s (flushItems s) := by
  unfold flushItems
  simp only
  have empty : Returning w s { s with lan := { s.lan with items := [], wakeItem := false } } := .quiet rfl rfl rfl rfl fun _ _ => rfl
  generalize { s with lan := { s.lan with items := [], wakeItem := false } } = a at empty ⊢
  exact empty.trans (Returning.foldl (fun b (x : Nat × Nat × List Byte) => returning_evtItem hw b 0x70008 0 x.1 x.2.1 x.2.2) _ a)

/-! ### The lantern's own words -/

/-- One of the lantern's events. -/
theorem raise_returning (s : State) {b : Nat} (low : b < 32) : Returning w s (raise s 0x70000 b) where
  slots := rfl
  latched := rfl
  word := rd_wr_ne _ _ _ _ (by unfold BoardWord at hw; omega)
  mask o _ _ := rd_wr_ne _ _ _ _ (by omega)
  power := by
    have same : powerState (raise s 0x70000 b) = powerState s := getF_wr_other _ _ _ _ _ _ (by omega)
    exact same ▸ id
  lastWake := getF_wr_other _ _ _ _ _ _ (by omega)
  event := getB_raise_of s 0x70000 b 0 low
  seg n _ := .of rfl (frc_congr rfl (rd_wr_ne _ _ _ _ (by unfold segR; omega)))

/-- STATE of LAN_PWR at ACTIVE or PARTIAL. -/
theorem setPower_returning (s : State) {v : Nat} (low : v < 2) : Returning w s (setF s 0x7000C 1 0 v) where
  slots := rfl
  latched := rfl
  word := rd_wr_ne _ _ _ _ (by unfold BoardWord at hw; omega)
  mask o _ _ := rd_wr_ne _ _ _ _ (by omega)
  power _ := by
    unfold powerState
    rw [getF_setF_same _ _ _ _ _ (by omega) (by omega) (by omega)]
    exact low
  lastWake := getF_setF_other _ _ _ _ _ _ _ _ (by omega) (by omega) (by omega)
  event := by
    have same : getB (setF s 0x7000C 1 0 v) 0x70000 0 = getB s 0x70000 0 := getB_wr_other _ _ _ _ _ (by omega)
    exact same ▸ id
  seg n _ := .of rfl (frc_congr rfl (rd_wr_ne _ _ _ _ (by unfold segR; omega)))

omit hw in
theorem bnat_lt (b : Bool) : bnat b < 2 := by cases b <;> decide

theorem pwrFollow_returning (s : State) (cause : Option Nat) : Returning w s (pwrFollow s cause) :=
  .ite (.refl w s) ((setPower_returning hw s (bnat_lt _)).trans (pwrItem_returning hw ..))

/-- A counter or a request bit of the lantern's. -/
theorem lanternWr_returning (s : State) (o : Nat) (v : Word) (place : 0x70010 ≤ o ∧ o < 0x70080) : Returning w s (wr s o v) :=
  returning_wr hw s o v (by unfold LanternWord; omega) (by unfold BoardWord; omega)

/-! ### A segment wakes (R437, R442) -/

omit hw in
/-- The record of a segment that wakes. -/
theorem setSeg_returning (s : State) (n : Nat) {x : Seg} (awake : x.st = 0) : Returning w s (setSeg s n x) where
  slots := rfl
  latched := rfl
  word := rfl
  mask _ _ _ := rfl
  power := id
  lastWake := rfl
  event := id
  seg k _ := by
    by_cases same : k = n
    · have here : (segAt (setSeg s n x) k).st = 0 := by rw [segAt_setSeg, if_pos same, awake]
      exact ⟨fun _ => here, fun _ => .inl here⟩
    · exact .of (by rw [segAt_setSeg, if_neg same]) rfl

theorem wakeSeg_returning (s : State) {n : Nat} (hn : n < 48) (cause : Nat) : Returning w s (wakeSeg s n cause) ∧ (segAt (wakeSeg s n cause) n).st = 0 := by
  unfold wakeSeg
  simp only
  generalize record : ({ segAt s n with st := 0, w := s.lan.lnt, f := none, act := some s.lan.lnt } : Seg) = x
  have awake : x.st = 0 := record ▸ rfl
  have first : Returning w s (setSeg s n x) := setSeg_returning s n awake
  have woken : (segAt (setSeg s n x) n).st = 0 := by rw [segAt_setSeg, if_pos rfl, awake]
  generalize setSeg s n x = a at first woken ⊢
  have asked : Returning w a (setSleepReq a n false) := lanternWr_returning hw a _ _ (by omega)
  have counted : Returning w a (incC (setSleepReq a n false) 0x70060) := asked.trans (lanternWr_returning hw _ _ _ (by omega))
  have noted := counted.trans (raise_returning hw _ (b := 0) (by omega))
  generalize raise (incC (setSleepReq a n false) 0x70060) 0x70000 0 = b at noted ⊢
  have freed : Returning w a (setB b (canR n 0x30) 17 false) := noted.trans (returning_canR hw b n 0x30 _)
  have left := freed.trans (tryLeave_returning hw _ n)
  generalize tryLeave (setB b (canR n 0x30) 17 false) n = c at left ⊢
  generalize waits : (if modeCur c n ≠ 0 ∧ modeCur c n ≠ 4 ∧ stbAsserted c n = false ∧ getF c (canR n 0x30) 15 8 ≠ 0 then _ else c : State) = d
  have waited : Returning w a d := waits ▸ .ite (left.trans (setChan_returning c n _)) left
  have last := waited.trans ((segItem_returning hw d n 0 (some cause)).trans (pwrFollow_returning hw _ (some cause)))
  exact ⟨first.trans last, (last.seg n hn).awake woken⟩

end

/-! ### The sources of the time away (R439, R442) -/

theorem heldOff_congr {s a : State} {n : Nat} (seg : segAt a n = segAt s n) (window : frc a (segR n 0xC) = frc s (segR n 0xC)) (i t : Nat) :
    heldOff a n i t = heldOff s n i t := by
  unfold heldOff heldAt frcF
  rw [seg, window]

/-- A segment that a source accepted at `t` wakes, or has woken. -/
def Wakeable (s : State) (n i t : Nat) : Prop := (segAt s n).st = 0 ∨ (segAt s n).st = 2 ∧ heldOff s n i t = false

theorem Wakeable.kept {s a : State} {n i t : Nat} (h : Wakeable s n i t) (kept : SegKept s a n) : Wakeable a n i t := by
  obtain awake | ⟨asleep, free⟩ := h
  · exact .inl (kept.awake awake)
  · obtain woken | ⟨same, window⟩ := kept.asleep asleep
    · exact .inl woken
    · exact .inr ⟨same ▸ asleep, (heldOff_congr same window i t).trans free⟩

theorem segAway_eq (i t : Nat) (s : State) (n : Nat) : segAway i t s n = if (segAt s n).st = 2 ∧ heldOff s n i t = false then wakeSeg s n i else s := by
  unfold segAway segStep
  simp only

theorem sourceSegs_lt {s : State} {i n : Nat} (h : n ∈ sourceSegs s i) : n < 48 := by
  unfold sourceSegs at h
  split at h
  · exact List.mem_singleton.1 h ▸ ‹i < 48›
  · split at h
    · exact List.mem_range.1 (List.mem_filter.1 h).1
    · exact absurd h List.not_mem_nil

section
variable {w : Nat} (hw : BoardWord w)
include hw

theorem segAway_returning (i t : Nat) (s : State) {n : Nat} (hn : n < 48) : Returning w s (segAway i t s n) := by
  rw [segAway_eq]
  exact .ite (wakeSeg_returning hw s hn i).1 (.refl w s)

theorem foldl_segAway_returning (i t : Nat) {l : List Nat} (low : ∀ n ∈ l, n < 48) (s : State) : Returning w s (l.foldl (segAway i t) s) := by
  induction l generalizing s with
  | nil => exact .refl w s
  | cons m l ih => exact (segAway_returning hw i t s (low m (.head _))).trans (ih (fun k hk => low k (.tail _ hk)) _)

/-- The segments that one source of the time away wakes. -/
theorem awayOne_returning (j : Nat × Nat) (s : State) : Returning w s ((sourceSegs s j.1).foldl (segAway j.1 j.2) s) :=
  foldl_segAway_returning hw j.1 j.2 (fun _ h => sourceSegs_lt h) s

end

theorem segAway_wakes {s : State} {n i t : Nat} (hn : n < 48) (h : Wakeable s n i t) : (segAt (segAway i t s n) n).st = 0 := by
  rw [segAway_eq]
  split
  · exact (wakeSeg_returning (.inl rfl) s hn i).2
  · next not =>
    exact h.resolve_right not

theorem foldl_segAway_wakes {l : List Nat} (low : ∀ n ∈ l, n < 48) {s : State} {n i t : Nat} (mem : n ∈ l) (h : Wakeable s n i t) :
    (segAt (l.foldl (segAway i t) s) n).st = 0 := by
  have hn := low n mem
  induction l generalizing s with
  | nil => exact absurd mem List.not_mem_nil
  | cons m l ih =>
    rw [List.foldl_cons]
    have low' (k : Nat) (hk : k ∈ l) : k < 48 := low k (.tail _ hk)
    have step : Returning 0x14 s (segAway i t s m) := segAway_returning (.inl rfl) i t s (low m (.head _))
    by_cases later : n ∈ l
    · exact ih low' later (h.kept (step.seg n hn))
    · have here : n = m := (List.mem_cons.1 mem).resolve_right later
      have woken : (segAt (segAway i t s n) n).st = 0 := segAway_wakes hn h
      have rest : Returning 0x14 (segAway i t s n) (l.foldl (segAway i t) (segAway i t s n)) := foldl_segAway_returning (.inl rfl) i t low' _
      rw [← here]
      exact (rest.seg n hn).awake woken

end Sys2Proof.Machine
end

section
/-!
PROOFS. The time unit, the lines, the buddy unit and the contexts at the return from STANDBY (R277, R279, R444, R496).
-/
namespace Sys2Proof.Machine

/-! ### The events of the time unit stay set (R273, R277) -/

theorem lossNoted_event {s : State} (d : Nat) (set : getB s 0x60000 0 = true) : getB (lossNoted s d) 0x60000 0 = true := by
  unfold lossNoted
  split
  · by_cases low : 4 + d < 32
    · exact getB_raise_of s 0x60000 (4 + d) 0 low set
    · unfold getB raise at *
      rw [rd_wr_same, BitVec.getLsbD_or, set, Bool.true_or]
  · exact set

theorem tdEvents_event {s : State} (d : Nat) (set : getB s 0x60000 0 = true) : getB (tdEvents s d) 0x60000 0 = true := by
  rw [tdEvents_eq, getB, rd_setTd]
  exact lossNoted_event d set

theorem judged_event {s : State} (set : getB s 0x60000 0 = true) : getB (judged s) 0x60000 0 = true := tdEvents_event 1 (tdEvents_event 0 set)

theorem getB_withTime (s : State) (x : Time) (o b : Nat) : getB { s with time := x } o b = getB s o b := rfl

theorem getB_withJnl (s : State) (j : SMap Jnl) (o b : Nat) : getB { s with jnl := j } o b = getB s o b := rfl

theorem notedStep_event {s : State} (set : getB s 0x60000 0 = true) : getB (notedStep s) 0x60000 0 = true := by
  have counted : getB (incC (setB s 0x6000C 2 false) 0x60110) 0x60000 0 = true := by
    rw [incC_eq, getB_wr_other _ _ _ _ _ (by omega), getB_setB_other _ _ _ _ _ _ (by omega) (by omega), set]
  exact getB_raise_of _ _ 1 0 (by omega) counted

theorem stepLt_event {s : State} (x : Int) (cause : Nat) (set : getB s 0x60000 0 = true) : getB (stepLt s x cause) 0x60000 0 = true := by
  obtain ⟨te, j, pay, e⟩ := stepLt_eq s x cause
  have moved : getB (movedLt s x) 0x60000 0 = true := (congrArg (BitVec.getLsbD · 0) (rd_movedLt s x _ (by decide))).trans set
  generalize movedLt s x = m at e moved
  have noted := notedStep_event ((getB_withTime m { m.time with te := te } _ _).trans moved)
  generalize notedStep { m with time := { m.time with te := te } } = n at e noted
  rw [e]
  refine (congrArg (BitVec.getLsbD · 0) (rd_evtItem _ _ _ _ _ _ _ (by omega))).trans ?_
  exact (getB_withJnl n j _ _).trans noted

theorem enterLocked_event (s : State) (d cause : Nat) : getB (enterLocked s d cause) 0x60000 0 = true := by
  have change := (toMode_spec s (1 + d) d cause).event
  rw [enterLocked_eq]
  split
  · exact stepLt_event _ 0 change
  · exact change

theorem timeEval_event {s : State} (set : getB s 0x60000 0 = true) : getB (timeEval s) 0x60000 0 = true := by
  have kept := judged_event set
  rw [timeEval_eq]
  split_ifs
  · exact kept
  · exact enterLocked_event ..
  · exact (enterHoldover_heldOver ..).event
  · exact enterLocked_event ..
  · exact enterLocked_event ..
  · exact (toMode_spec ..).event
  · exact kept

/-- In FREE with no domain that tracks, nothing but what the domains remember changes. -/
theorem timeEval_free {s : State} (free : timeMode s = 0) (quiet : ∀ d, d < 2 → tracking s d = false) : timeEval s = judged s := by
  have sel : timeSel s < 2 := fld_lt _ 0 0
  rw [timeEval_eq, if_neg (by omega), quiet _ sel, quiet (1 - timeSel s) (by omega), free]
  simp

/-! ### The return of the time unit and of its lines (R277, R279) -/

theorem Moded.tracking {s t : State} (h : Moded s t) {d : Nat} (low : d < 2) : tracking t d = Machine.tracking s d := by
  have lt : ltNs t = ltNs s := by
    unfold ltNs
    rw [h.lt]
  unfold Machine.tracking getB
  rw [h.word _ (by unfold tdR; omega) (by simp only [List.mem_cons, List.not_mem_nil, or_false, not_or]; unfold tdR; omega), h.td d, lt]

/-- FREE with STEP_ARMED, before the exits are judged. -/
def freeArmed (s : State) : State := if timeMode s = 0 then setB s 0x6000C 2 true else toMode (setB s 0x6000C 2 true) 0 (timeSel s) 4

theorem timeMode_arm (s : State) : timeMode (setB s 0x6000C 2 true) = timeMode s := getF_setB_other _ _ _ _ _ _ _ (by omega) (by omega)

theorem timeSel_arm (s : State) : timeSel (setB s 0x6000C 2 true) = timeSel s := getF_setB_other _ _ _ _ _ _ _ (by omega) (by omega)

theorem timeBack_eq (s : State) : timeBack s = timeEval (freeArmed s) := by
  unfold timeBack freeArmed
  simp only [timeMode_arm, timeSel_arm]

theorem freeArmed_timeUnit (s : State) : TimeUnit s (freeArmed s) := by
  have armed : TimeUnit s (setB s 0x6000C 2 true) := (TimeUnit.refl s).wr _ _ (by omega)
  exact .ite armed (armed.trans (toMode_spec ..).unit)

/-- What FREE with STEP_ARMED is. -/
theorem freeArmed_spec (s : State) : timeMode (freeArmed s) = 0 ∧ getB (freeArmed s) 0x6000C 2 = true ∧ (∀ d, d < 2 → tracking (freeArmed s) d = tracking s d) ∧
    (timeMode s ≠ 0 → getB (freeArmed s) 0x60000 0 = true) := by
  have bit : getB (setB s 0x6000C 2 true) 0x6000C 2 = true := getB_setB_same _ _ _ _ (by omega)
  have mode := timeMode_arm s
  have tracks (d : Nat) (low : d < 2) : tracking (setB s 0x6000C 2 true) d = tracking s d := by
    have word : getB (setB s 0x6000C 2 true) (tdR d 0x10) 0 = getB s (tdR d 0x10) 0 := getB_setB_other _ _ _ _ _ _ (by omega) (.inl (by unfold tdR; omega))
    unfold tracking
    rw [word]
    rfl
  generalize armed : setB s 0x6000C 2 true = a at bit mode tracks
  unfold freeArmed
  rw [armed]
  split
  · next free => exact ⟨mode.trans free, bit, tracks, fun h => absurd free h⟩
  · have change := toMode_spec a 0 (timeSel s) 4
    exact ⟨change.mode (by omega), (change.step 2 (by omega)).trans bit, fun d low => (change.moded.tracking low).trans (tracks d low), fun _ => change.event⟩

/-- What the time unit's return leaves of a state. -/
structure TimeReturned (s t : State) : Prop where
  unit : TimeUnit s t
  event : timeMode s ≠ 0 → getB t 0x60000 0 = true
  free : tracking s 0 = false → tracking s 1 = false → timeMode t = 0 ∧ getB t 0x6000C 2 = true

theorem timeBack_returned (s : State) : TimeReturned s (timeBack s) := by
  rw [timeBack_eq]
  obtain ⟨mode, armed, tracks, event⟩ := freeArmed_spec s
  refine ⟨(freeArmed_timeUnit s).trans (timeEval_timeUnit _), fun h => timeEval_event (event h), fun first second => ?_⟩
  have quiet (d : Nat) (low : d < 2) : tracking (freeArmed s) d = false := by
    rw [tracks d low]
    obtain rfl | rfl : d = 0 ∨ d = 1 := by omega
    · exact first
    · exact second
  have same := judged_spec (freeArmed s)
  rw [timeEval_free mode quiet]
  exact ⟨same.mode.trans mode, (same.getB _ _ (by omega)).trans armed⟩

/-- The time unit leaves every word of the board but its own and READY's. -/
theorem TimeUnit.returning {s t : State} (h : TimeUnit s t) {w : Nat} (other : w = 0x1000C ∨ w = 0x10108 ∨ w = 0x80010) : Returning w s t := by
  have word (o : Nat) (ho : LanternWord o ∨ o = w) : rd t o = rd s o :=
    h.word o (by unfold LanternWord at ho; omega) (by unfold LanternWord at ho; omega) (by unfold LanternWord at ho; omega)
  have slots : t.slots = s.slots := congrArg (·.slots) h.eq
  have lan : t.lan = s.lan := congrArg (·.lan) h.eq
  have inForce : t.inForce = s.inForce := congrArg (·.inForce) h.eq
  exact .quiet slots (by rw [lan]) (by rw [lan]) inForce word

/-- The lines' runtime is all that their return changes. -/
theorem linesBack_only (s : State) : ∃ te, linesBack s = { s with time := { s.time with te := te } } := by
  unfold linesBack
  generalize List.range 16 = l
  induction l generalizing s with
  | nil => exact ⟨s.time.te, rfl⟩
  | cons n l ih =>
    rw [List.foldl_cons]
    simp only
    generalize ({ teAt s n with active := _ } : TeRt) = x
    obtain ⟨te, e⟩ := ih (setTe s n x)
    exact ⟨te, e.trans rfl⟩

theorem linesBack_returning (w : Nat) (s : State) : Returning w s (linesBack s) := by
  obtain ⟨te, e⟩ := linesBack_only s
  rw [e]
  exact .quiet rfl rfl rfl rfl fun _ _ => rfl

theorem timeMode_linesBack (s : State) : timeMode (linesBack s) = timeMode s := by
  obtain ⟨te, e⟩ := linesBack_only s
  rw [e]
  rfl

theorem tracking_linesBack (s : State) (d : Nat) : tracking (linesBack s) d = tracking s d := by
  obtain ⟨te, e⟩ := linesBack_only s
  rw [e]
  rfl

/-! ### The loops (R414, R444) -/

theorem loopSrc_setLoop (s : State) {k v : Nat} (low : k < 6) (small : v < 4) : loopSrc (setLoop s k v) k = v := by
  unfold loopSrc setLoop
  exact getF_setF_same _ _ _ _ _ (by omega) (by omega) (by rw [show 2 * k + 1 + 1 - 2 * k = 2 by omega]; exact small)

theorem loopSrc_setLoop_other (s : State) {k j v : Nat} (low : k < 6) (other : j ≠ k) : loopSrc (setLoop s k v) j = loopSrc s j := by
  unfold loopSrc setLoop
  exact getF_setF_other _ _ _ _ _ _ _ _ (by omega) (by omega) (by omega)

theorem xtalOk_setLoop (s : State) {k v : Nat} (low : k < 6) : xtalOk (setLoop s k v) = xtalOk s := by
  unfold xtalOk setLoop getB
  rw [rd_setF, if_pos rfl, getLsbD_putFld _ _ _ _ _ (by omega) (by omega), if_neg (by omega)]

/-- The loops at the rails: 0, 1, 2 and 4 run from the internal oscillator; the crystal is not judged. -/
theorem loopsStart_spec (s : State) : (∀ k ∈ [0, 1, 2, 4], loopSrc (loopsStart s) k = 1) ∧ (xtalOk s = false → xtalOk (loopsStart s) = false) ∧
    RegsOnly s (loopsStart s) ∧ RegsKept s (loopsStart s) [0x1000C] := by
  have stopped : xtalOk (setF s 0x1000C 11 0 0) = xtalOk s := by
    unfold xtalOk getB
    rw [rd_setF, if_pos rfl, getLsbD_putFld _ _ _ _ _ (by omega) (by omega), if_neg (by omega)]
  have runs : loopsStart s = if sdrefOk (setLoop (setLoop (setLoop (setLoop (setF s 0x1000C 11 0 0) 0 1) 1 1) 2 1) 4 1) then
      setLoop (setLoop (setLoop (setLoop (setLoop (setF s 0x1000C 11 0 0) 0 1) 1 1) 2 1) 4 1) 5 2
      else setLoop (setLoop (setLoop (setLoop (setF s 0x1000C 11 0 0) 0 1) 1 1) 2 1) 4 1 := rfl
  have stop : RegsOnly s (setF s 0x1000C 11 0 0) ∧ RegsKept s (setF s 0x1000C 11 0 0) [0x1000C] := ⟨(RegsOnly.refl s).setF .., (RegsKept.refl s _).wr _ _ (by simp)⟩
  have set (a : State) (h : RegsOnly s a ∧ RegsKept s a [0x1000C]) (k v : Nat) : RegsOnly s (setLoop a k v) ∧ RegsKept s (setLoop a k v) [0x1000C] :=
    ⟨h.1.setF .., h.2.wr _ _ (by simp)⟩
  rw [runs]
  generalize setF s 0x1000C 11 0 0 = a at stopped stop ⊢
  have four := set _ (set _ (set _ (set a stop 0 1) 1 1) 2 1) 4 1
  have xtal : xtalOk (setLoop (setLoop (setLoop (setLoop a 0 1) 1 1) 2 1) 4 1) = xtalOk s := by
    rw [xtalOk_setLoop _ (by omega), xtalOk_setLoop _ (by omega), xtalOk_setLoop _ (by omega), xtalOk_setLoop _ (by omega), stopped]
  have loops : ∀ k ∈ [0, 1, 2, 4], loopSrc (setLoop (setLoop (setLoop (setLoop a 0 1) 1 1) 2 1) 4 1) k = 1 := by
    simp (disch := omega) [loopSrc_setLoop, loopSrc_setLoop_other]
  generalize setLoop (setLoop (setLoop (setLoop a 0 1) 1 1) 2 1) 4 1 = b at four xtal loops ⊢
  split
  · refine ⟨fun k hk => ?_, fun h => (xtalOk_setLoop b (by omega)).trans (xtal.trans h), (set b four 5 2).1, (set b four 5 2).2⟩
    rw [loopSrc_setLoop_other b (by omega) (by simp at hk; omega)]
    exact loops k hk
  · exact ⟨loops, xtal.trans, four.1, four.2⟩

/-! ### The buddy unit (R459, R460, R496) -/

/-- WITHDRAWN entered, before the item. -/
def withdrawnWords (s : State) : State := holderCount (raise (setF s 0x80010 1 0 3) 0x80000 0) (holdsClaim s)

theorem withdraw_eq (s : State) : ∃ pay bud, withdraw s 5 true = { evtItem (withdrawnWords s) 0x80008 8 0xC0 0 pay with bud := bud } := by
  have free : (if budMode s = 3 ∧ 3 ≠ 3 then bite s [0x8001C, 0x80008] else s) = s := if_neg fun h => h.2 rfl
  unfold withdraw toBudMode gatesClose
  simp only [free, if_true]
  exact ⟨_, _, rfl⟩

theorem budMode_withdrawnWords (s : State) : budMode (withdrawnWords s) = 3 := by
  have entered : budMode (raise (setF s 0x80010 1 0 3) 0x80000 0) = 3 :=
    (getF_wr_other _ _ _ _ _ _ (by omega)).trans (getF_setF_same _ _ _ _ _ (by omega) (by omega) (by omega))
  unfold withdrawnWords holderCount
  split
  · exact entered
  · exact (getF_wr_other _ _ _ _ _ _ (by omega)).trans ((getF_wr_other _ _ _ _ _ _ (by omega)).trans entered)

theorem budMode_withdraw (s : State) : budMode (withdraw s 5 true) = 3 := by
  obtain ⟨pay, bud, e⟩ := withdraw_eq s
  have word : rd (withdraw s 5 true) 0x80010 = rd (withdrawnWords s) 0x80010 := by
    rw [e]
    exact rd_evtItem _ _ _ _ _ _ _ (by omega)
  unfold budMode getF
  rw [word]
  exact budMode_withdrawnWords s

section
variable {w : Nat} (hw : BoardWord w)
include hw

theorem withdraw_returning (s : State) (other : w ≠ 0x80010) : Returning w s (withdraw s 5 true) := by
  have place (a : State) (o : Nat) (v : Word) (ho : o = 0x80010 ∨ o = 0x80000 ∨ o = 0x80040) : Returning w a (wr a o v) :=
    .quiet rfl rfl rfl rfl fun k hk => rd_wr_ne _ _ _ _ (by unfold LanternWord BoardWord at *; omega)
  have entered : Returning w s (raise (setF s 0x80010 1 0 3) 0x80000 0) := (place s _ _ (.inl rfl)).trans (place _ _ _ (.inr (.inl rfl)))
  have counted : Returning w s (withdrawnWords s) :=
    .ite entered (entered.trans ((place _ _ _ (.inr (.inr rfl))).trans (place _ _ _ (.inr (.inl rfl)))))
  obtain ⟨pay, bud, e⟩ := withdraw_eq s
  rw [e]
  generalize withdrawnWords s = a at counted ⊢
  have item := counted.trans (returning_evtItem hw a 0x80008 8 0xC0 0 pay)
  generalize evtItem a 0x80008 8 0xC0 0 pay = b at item ⊢
  exact item.trans (.quiet rfl rfl rfl rfl fun _ _ => rfl)

/-! ### The contexts (R367) -/

theorem hostlessEntry_returning (s : State) : Returning w s (hostlessEntry s) := by
  have place (a : State) (o b : Nat) (v : Bool) (ho : o = 0x3A004 ∨ o = 0x60008) : Returning w a (setB a o b v) :=
    .quiet rfl rfl rfl rfl fun k hk => rd_wr_ne _ _ _ _ (by unfold LanternWord BoardWord at *; omega)
  have begins (a : State) : Returning w a (scriptStart (supWrote (setB (setB a 0x3A004 0 true) 0x60008 2 false)) 1) := by
    have words := (place a 0x3A004 0 true (.inl rfl)).trans (place _ 0x60008 2 false (.inr rfl))
    generalize setB (setB a 0x3A004 0 true) 0x60008 2 false = b at words ⊢
    have wrote : Returning w a (supWrote b) := words.trans (.quiet rfl rfl rfl rfl fun _ _ => rfl)
    generalize supWrote b = c at wrote ⊢
    have runs := wrote.trans (place c 0x3A004 1 true (.inl rfl))
    unfold scriptStart
    generalize setB c 0x3A004 1 true = d at runs ⊢
    exact runs.trans (.quiet rfl rfl rfl rfl fun _ _ => rfl)
  unfold hostlessEntry
  simp only
  split
  · next x _ => exact (returning_evtItem hw s ..).trans (begins (scriptItem s x 2))
  · exact begins s

theorem detachOp_returning (s : State) (t ev : Nat) : Returning w s (detachOp s t ev) := by
  have place (a : State) (b : Nat) (v : Bool) : Returning w a (setB a 0x3A004 b v) :=
    returning_wr hw a _ _ (by unfold LanternWord; omega) (by unfold BoardWord; omega)
  have mailbox (a : State) (x : MbxRt) : Returning w a (setMbx a t x) := .quiet rfl rfl rfl rfl fun _ _ => rfl
  unfold detachOp
  refine .ite (.refl w s) ?_
  simp only
  have gone := (place s (8 + t) false).trans (mailbox _ { mbxAt s t with attached := false, watch := 0 })
  generalize setMbx (setB s 0x3A004 (8 + t) false) t { mbxAt s t with attached := false, watch := 0 } = a at gone ⊢
  have host : Returning w s (if (attachMask a == 0) = true then setB a 0x3A004 0 true else a) := .ite (gone.trans (place ..)) gone
  generalize (if (attachMask a == 0) = true then setB a 0x3A004 0 true else a) = b at host ⊢
  have noted : Returning w s (attachItem b t ev (mbxAt s t).watch) := host.trans (returning_evtItem hw ..)
  exact .ite (noted.trans (hostlessEntry_returning hw _)) noted

theorem detachAll_returning (s : State) : Returning w s (detachAll s) := by
  unfold detachAll
  exact Returning.foldl (fun a t => detachOp_returning hw a t 3) _ s

end

end Sys2Proof.Machine
end

section
/-!
PROOFS. The return from STANDBY as a whole (R442, R444), and the device power states.
-/
namespace Sys2Proof.Machine

/-! ### The parts of the return, in their order -/

/-- The entry and its latches are over. -/
def latchesOver (s : State) : State := { s with lan := { s.lan with entering := none, latched := none, meanwhile := [] } }

/-- The loops, the channels and the ports come back. -/
def boardBack (s : State) : State := (List.range 25).foldl trainStart ((List.range 48).foldl channelBack (loopsStart (setB s 0x1000C 13 false)))

/-- The return's item and event, and the items of the time away. -/
def eventsBack (s : State) (old new i : Nat) : State := flushItems (raise (pwrItem s old new (some i)) 0x70000 0)

/-- The segments that the sources of the time away wake. -/
def segsBack (away : List (Nat × Nat)) (s : State) : State := away.foldl (fun a j => (sourceSegs a j.1).foldl (segAway j.1 j.2) a) s

/-- R496: a pair's unit is WITHDRAWN. -/
def unitBack (s : State) : State := if budMode s = 0 then s else withdraw s 5 true

/-- R408, R444: pacing in LIMIT, the crystal qualifies anew, the link trains. -/
def linkBack (s : State) : State :=
  { setB s 0x10108 0 true with
    clk := { s.clk with good := 0, ceil := 0, below := 0, qual := qualStart (setB s 0x10108 0 true) }
    pcie := { s.pcie with link := !s.pcie.perst } }

/-- The parts behind the time unit. -/
def backAfter (away : List (Nat × Nat)) (s : State) (old new i : Nat) : State := detachAll (linkBack (unitBack (segsBack away (eventsBack s old new i))))

theorem standbyReturn_eq (s : State) (i : Nat) : standbyReturn s i =
    backAfter s.lan.meanwhile (timeBack (linesBack (boardBack (setF (latchesOver s) 0x7000C 1 0 (bnat (anyAsleep s)))))) (pwrState s) (bnat (anyAsleep s)) i := rfl

theorem segsBack_append (away : List (Nat × Nat)) (j : Nat × Nat) (s : State) :
    segsBack (away ++ [j]) s = (sourceSegs (segsBack away s) j.1).foldl (segAway j.1 j.2) (segsBack away s) := by
  unfold segsBack
  rw [List.foldl_append, List.foldl_cons, List.foldl_nil]

section
variable {w : Nat} (hw : BoardWord w)
include hw

theorem boardBack_returning (s : State) : Returning w (loopsStart (setB s 0x1000C 13 false)) (boardBack s) := by
  unfold boardBack
  generalize loopsStart (setB s 0x1000C 13 false) = a
  have channels : Returning w a ((List.range 48).foldl channelBack a) := Returning.foldl (channelBack_returning hw) _ a
  generalize (List.range 48).foldl channelBack a = b at channels ⊢
  exact channels.trans (Returning.foldl trainStart_returning _ b)

omit hw in
theorem loopsBack_returning (s : State) (other : w ≠ 0x1000C) : Returning w s (loopsStart (setB s 0x1000C 13 false)) := by
  have words : RegsOnly s (setB s 0x1000C 13 false) ∧ RegsKept s (setB s 0x1000C 13 false) [0x1000C] :=
    ⟨(RegsOnly.refl s).setB .., (RegsKept.refl s _).wr _ _ (by simp)⟩
  obtain ⟨-, -, only, kept⟩ := loopsStart_spec (setB s 0x1000C 13 false)
  have only := words.1.trans only
  have kept (o : Nat) (ho : o ≠ 0x1000C) : rd (loopsStart (setB s 0x1000C 13 false)) o = rd s o :=
    (kept o (by simpa using ho)).trans (words.2 o (by simpa using ho))
  generalize loopsStart (setB s 0x1000C 13 false) = a at only kept ⊢
  exact .quiet (congrArg (·.slots) only) (congrArg (·.lan.latched) only) (congrArg (·.lan.seg) only) (congrArg (·.inForce) only)
    fun o ho => kept o (by unfold LanternWord at ho; omega)

theorem eventsBack_returning (s : State) (old new i : Nat) : Returning w s (eventsBack s old new i) :=
  (pwrItem_returning hw s old new (some i)).trans ((raise_returning hw _ (by omega)).trans (flushItems_returning hw _))

theorem segsBack_returning (away : List (Nat × Nat)) (s : State) : Returning w s (segsBack away s) := by
  unfold segsBack
  exact Returning.foldl (fun a j => awayOne_returning hw j a) away s

theorem unitBack_returning (s : State) (other : w ≠ 0x80010) : Returning w s (unitBack s) := .ite (.refl w s) (withdraw_returning hw s other)

omit hw in
theorem linkBack_returning (s : State) (other : w ≠ 0x10108) : Returning w s (linkBack s) := by
  have paced : Returning w s (setB s 0x10108 0 true) := .quiet rfl rfl rfl rfl fun k hk => rd_wr_ne _ _ _ _ (by unfold LanternWord at hk; omega)
  unfold linkBack
  generalize setB s 0x10108 0 true = a at paced ⊢
  exact paced.trans (.quiet rfl rfl rfl rfl fun _ _ => rfl)

theorem backAfter_returning (away : List (Nat × Nat)) (s : State) (old new i : Nat) (bud : w ≠ 0x80010) (pace : w ≠ 0x10108) :
    Returning w s (backAfter away s old new i) := by
  unfold backAfter
  have events := eventsBack_returning hw s old new i
  generalize eventsBack s old new i = a at events ⊢
  have segs := events.trans (segsBack_returning hw away a)
  generalize segsBack away a = b at segs ⊢
  have unit := segs.trans (unitBack_returning hw b bud)
  generalize unitBack b = c at unit ⊢
  have link := unit.trans (linkBack_returning c pace)
  generalize linkBack c = d at link ⊢
  exact link.trans (detachAll_returning hw d)

end

/-! ### What the parts bring -/

theorem eventsBack_event (s : State) (old new i : Nat) : getB (eventsBack s old new i) 0x70000 0 = true := by
  have flushed (a : State) : Returning 0x14 a (flushItems a) := flushItems_returning (.inl rfl) a
  exact (flushed _).event (getB_raise_same _ _ _ (by omega))

theorem budMode_congr {s a : State} (h : rd a 0x80010 = rd s 0x80010) : budMode a = budMode s := congrArg (fld · 1 0) h

theorem budMode_unitBack (s : State) : budMode (unitBack s) = if budMode s = 0 then 0 else 3 := by
  unfold unitBack
  split
  · next solo => rw [solo]
  · exact budMode_withdraw s

/-- What the parts behind the time unit bring. -/
structure BackAfter (away : List (Nat × Nat)) (s t : State) : Prop where
  event : getB t 0x70000 0 = true
  pace : paceLimit t = true
  bud : budMode t = if budMode s = 0 then 0 else 3
  seg : ∀ n < 48, ∀ before i stamp, away = before ++ [(i, stamp)] → n ∈ sourceSegs s i → Wakeable s n i stamp → (segAt t n).st = 0

theorem backAfter_spec (away : List (Nat × Nat)) (s : State) (old new i : Nat) : BackAfter away s (backAfter away s old new i) := by
  have timeWord : BoardWord 0x14 := .inl rfl
  have paceWord : BoardWord 0x10108 := .inr (.inr (.inl rfl))
  have budWord : BoardWord 0x80010 := .inr (.inr (.inr (.inl rfl)))
  unfold backAfter
  have events : ∀ w, BoardWord w → Returning w s (eventsBack s old new i) := fun w hw => eventsBack_returning hw s old new i
  have event := eventsBack_event s old new i
  generalize eventsBack s old new i = a at events event ⊢
  have segs : ∀ w, BoardWord w → Returning w a (segsBack away a) := fun w hw => segsBack_returning hw away a
  have woken : ∀ n < 48, ∀ before i stamp, away = before ++ [(i, stamp)] → n ∈ sourceSegs s i → Wakeable s n i stamp → (segAt (segsBack away a) n).st = 0 := by
    intro n hn before i stamp split mem may
    have earlier := (events _ timeWord).trans (segsBack_returning timeWord before a)
    have names : sourceSegs (segsBack before a) i = sourceSegs s i := sourceSegs_congr (fun o h h' => earlier.mask o (by omega) (by omega)) i
    rw [split, segsBack_append]
    refine foldl_segAway_wakes (fun m hm => sourceSegs_lt hm) ?_ (may.kept (earlier.seg n hn))
    rw [names]
    exact mem
  generalize segsBack away a = b at segs woken ⊢
  have unit : ∀ w, BoardWord w → w ≠ 0x80010 → Returning w b (unitBack b) := fun w hw other => unitBack_returning hw b other
  have bud := budMode_unitBack b
  generalize unitBack b = c at unit bud ⊢
  have link : ∀ w, w ≠ 0x10108 → Returning w c (linkBack c) := fun w other => linkBack_returning c other
  have pace : getB (linkBack c) 0x10108 0 = true := by
    have paced : rd (linkBack c) 0x10108 = rd (setB c 0x10108 0 true) 0x10108 := rfl
    rw [getB, paced]
    exact getB_setB_same _ _ _ _ (by omega)
  generalize linkBack c = d at link pace ⊢
  have last : ∀ w, BoardWord w → Returning w d (detachAll d) := fun w hw => detachAll_returning hw d
  generalize detachAll d = t at last ⊢
  have tail := (unit _ timeWord (by decide)).trans ((link _ (by decide)).trans (last _ timeWord))
  refine ⟨tail.event ((segs _ timeWord).event event), ?_, ?_, fun n hn before i stamp split mem may => ?_⟩
  · exact (congrArg (BitVec.getLsbD · 0) (last _ paceWord).word).trans pace
  · rw [budMode_congr (last _ budWord).word, budMode_congr (link _ (by decide)).word, bud, budMode_congr (segs _ budWord).word, budMode_congr (events _ budWord).word]
  · exact (tail.seg n hn).awake (woken n hn before i stamp split mem may)

/-! ### Nothing touches the time before its own return -/

theorem tryLeave_time (s : State) (n : Nat) : (tryLeave s n).time = s.time := by
  unfold tryLeave
  split
  · exact (leaveDisabled_kept s n).2.2
  · rfl

theorem foldl_time {f : State → Nat → State} (hf : ∀ a n, (f a n).time = a.time) (l : List Nat) (s : State) : (l.foldl f s).time = s.time := by
  induction l generalizing s with
  | nil => rfl
  | cons n l ih => exact (ih _).trans (hf s n)

theorem boardBack_time (s : State) : (boardBack s).time = s.time := by
  have channel (a : State) (n : Nat) : (channelBack a n).time = a.time := by
    unfold channelBack
    split
    · rfl
    · exact (tryLeave_time ..).trans (setB_time ..)
  have port (a : State) (p : Nat) : (trainStart a p).time = a.time := by
    unfold trainStart
    split <;> rfl
  obtain ⟨-, -, only, -⟩ := loopsStart_spec (setB s 0x1000C 13 false)
  have loops : (loopsStart (setB s 0x1000C 13 false)).time = s.time := (RegsOnly.time only).trans (setB_time s 0x1000C 13 false)
  unfold boardBack
  generalize loopsStart (setB s 0x1000C 13 false) = a at loops ⊢
  exact (foldl_time port _ _).trans ((foldl_time channel _ a).trans loops)

theorem tracking_congr {s a : State} {d : Nat} (time : a.time = s.time) (word : rd a (tdR d 0x10) = rd s (tdR d 0x10)) : tracking a d = tracking s d := by
  unfold tracking getB tdAt ltNs
  rw [time, word]

/-! ### The return as a whole -/

/-- What the return from STANDBY leaves of the device that a source has latched. -/
structure StoodUp (s t : State) : Prop where
  power : powerState t < 2
  lastWake : getF t 0x7000C 14 8 = getF s 0x7000C 14 8
  event : getB t 0x70000 0 = true
  latched : t.lan.latched = none
  xtal : xtalOk t = false
  ready : ready t 3 = ready s 3
  pace : paceLimit t = true
  loops : ∀ k ∈ [0, 1, 2, 4], loopSrc t k = 1
  mode : timeMode s ≠ 0 → getB t 0x60000 0 = true
  free : tracking s 0 = false → tracking s 1 = false → timeMode t = 0 ∧ getB t 0x6000C 2 = true
  slots : t.slots = s.slots
  bud : budMode t = if budMode s = 0 then 0 else 3
  seg : ∀ n < 48, ∀ before i stamp, s.lan.meanwhile = before ++ [(i, stamp)] → n ∈ sourceSegs s i → Wakeable s n i stamp → (segAt t n).st = 0

/-- The state that the entry leaves: awake, its latches over. -/
theorem entryLeft_returning {w : Nat} (hw : BoardWord w) (s : State) {new : Nat} (low : new < 2) : Returning w (latchesOver s) (setF (latchesOver s) 0x7000C 1 0 new) ∧
    powerState (setF (latchesOver s) 0x7000C 1 0 new) = new :=
  ⟨setPower_returning hw _ low, getF_setF_same _ _ _ _ _ (by omega) (by omega) (by omega)⟩

theorem rd_latchesOver (s : State) (o : Nat) : rd (latchesOver s) o = rd s o := rfl

/-- What the parts up to the time unit's own bring. -/
structure BackBefore (a e : State) : Prop where
  unit : Returning 0x80010 a e
  xtal : xtalOk e = false
  ready : getB e 0x14 3 = getB a 0x14 3
  loops : ∀ k ∈ [0, 1, 2, 4], loopSrc e k = 1
  mode : timeMode a ≠ 0 → getB e 0x60000 0 = true
  free : tracking a 0 = false → tracking a 1 = false → timeMode e = 0 ∧ getB e 0x6000C 2 = true

theorem xtalOk_congr {s a : State} (h : rd a 0x1000C = rd s 0x1000C) : xtalOk a = xtalOk s := congrArg (BitVec.getLsbD · 13) h

theorem boardBack_clocks (s : State) : xtalOk (boardBack s) = false ∧ ∀ k ∈ [0, 1, 2, 4], loopSrc (boardBack s) k = 1 := by
  obtain ⟨loops, xtal, -⟩ := loopsStart_spec (setB s 0x1000C 13 false)
  have kept := (boardBack_returning (.inr (.inl rfl)) s : Returning 0x1000C _ _).word
  exact ⟨(xtalOk_congr kept).trans (xtal (getB_setB_same _ _ _ _ (by omega))), fun k hk => (loopSrc_congr kept k).trans (loops k hk)⟩

theorem backBefore_spec (a : State) : BackBefore a (timeBack (linesBack (boardBack a))) := by
  have board : ∀ w, BoardWord w → w ≠ 0x1000C → Returning w a (boardBack a) := fun w hw other => (loopsBack_returning a other).trans (boardBack_returning hw a)
  obtain ⟨xtal, loops⟩ := boardBack_clocks a
  have time := boardBack_time a
  generalize boardBack a = b at board xtal loops time ⊢
  have lines : ∀ w, Returning w b (linesBack b) := fun w => linesBack_returning w b
  have mode : timeMode (linesBack b) = timeMode a := by
    have word : rd b 0x6000C = rd a 0x6000C := (board 0x6000C (by unfold BoardWord; omega) (by omega)).word
    rw [timeMode_linesBack]
    exact congrArg (fld · 1 0) word
  have tracks (d : Nat) (low : d < 2) : tracking (linesBack b) d = tracking a d := by
    rw [tracking_linesBack]
    exact tracking_congr time (board _ (by unfold BoardWord tdR; omega) (by unfold tdR; omega)).word
  generalize linesBack b = c at lines mode tracks ⊢
  obtain ⟨unit, event, free⟩ := timeBack_returned c
  generalize timeBack c = e at unit event free ⊢
  have clocks : rd e 0x1000C = rd b 0x1000C := (unit.returning (.inl rfl)).word.trans (lines 0x1000C).word
  have ready : rd c 0x14 = rd a 0x14 := (lines 0x14).word.trans (board 0x14 (.inl rfl) (by omega)).word
  refine ⟨?_, (xtalOk_congr clocks).trans xtal, ?_, fun k hk => (loopSrc_congr clocks k).trans (loops k hk), fun h => event (mode ▸ h), fun first second => ?_⟩
  · exact (board _ (by unfold BoardWord; omega) (by omega)).trans ((lines _).trans (unit.returning (.inr (.inr rfl))))
  · exact (unit.ready 3 (by omega)).trans (congrArg (BitVec.getLsbD · 3) ready)
  · exact free ((tracks 0 (by omega)).trans first) ((tracks 1 (by omega)).trans second)

theorem standbyReturn_stoodUp (s : State) (i : Nat) : StoodUp s (standbyReturn s i) := by
  rw [standbyReturn_eq]
  obtain ⟨start, power⟩ := entryLeft_returning (w := 0x80010) (by unfold BoardWord; omega) s (bnat_lt (anyAsleep s))
  have low := bnat_lt (anyAsleep s)
  have words (o : Nat) (other : o ≠ 0x7000C) : rd (setF (latchesOver s) 0x7000C 1 0 (bnat (anyAsleep s))) o = rd s o :=
    (rd_wr_ne _ _ _ _ other).trans (rd_latchesOver s o)
  have time : (setF (latchesOver s) 0x7000C 1 0 (bnat (anyAsleep s))).time = s.time := rfl
  generalize bnat (anyAsleep s) = new at start power low words time ⊢
  generalize setF (latchesOver s) 0x7000C 1 0 new = a at start power words time ⊢
  obtain ⟨unit, xtal, ready, loops, mode, free⟩ := backBefore_spec a
  generalize timeBack (linesBack (boardBack a)) = e at unit xtal ready loops mode free ⊢
  have before := start.trans unit
  have after : ∀ w, BoardWord w → w ≠ 0x80010 → w ≠ 0x10108 → Returning w e (backAfter s.lan.meanwhile e (pwrState s) new i) :=
    fun w hw bud pace => backAfter_returning hw _ e _ _ i bud pace
  obtain ⟨event, pace, bud, seg⟩ := backAfter_spec s.lan.meanwhile e (pwrState s) new i
  generalize backAfter s.lan.meanwhile e (pwrState s) new i = t at after event pace bud seg ⊢
  have clocks := after 0x1000C (.inr (.inl rfl)) (by omega) (by omega)
  have first := after 0x14 (.inl rfl) (by omega) (by omega)
  have events := (after 0x60000 (by unfold BoardWord; omega) (by omega) (by omega)).word
  have modes := (after 0x6000C (by unfold BoardWord; omega) (by omega) (by omega)).word
  have tracks (d : Nat) (hd : d < 2) : tracking a d = tracking s d := tracking_congr time (words _ (by unfold tdR; omega))
  have start' : timeMode a = timeMode s := congrArg (fld · 1 0) (words _ (by omega))
  refine ⟨clocks.power (unit.power (power ▸ low)), clocks.lastWake.trans (before.lastWake.trans ?_), event, clocks.latched.trans before.latched,
    (xtalOk_congr clocks.word).trans xtal, ?_, pace, fun k hk => (loopSrc_congr clocks.word k).trans (loops k hk), fun h => ?_, fun quiet quiet' => ?_,
    clocks.slots.trans before.slots, ?_, fun n hn earlier j stamp split mem may => ?_⟩
  · exact congrArg (fld · 14 8) (rd_latchesOver s _)
  · exact (congrArg (BitVec.getLsbD · 3) first.word).trans (ready.trans (congrArg (BitVec.getLsbD · 3) (words 0x14 (by omega))))
  · exact (congrArg (BitVec.getLsbD · 0) events).trans (mode (start' ▸ h))
  · obtain ⟨zero, armed⟩ := free ((tracks 0 (by omega)).trans quiet) ((tracks 1 (by omega)).trans quiet')
    exact ⟨(congrArg (fld · 1 0) modes).trans zero, (congrArg (BitVec.getLsbD · 2) modes).trans armed⟩
  · rw [bud, budMode_congr unit.word, budMode_congr (words _ (by omega))]
  · have names : sourceSegs e j = sourceSegs s j :=
      sourceSegs_congr (fun o h h' => (before.mask o (by omega) (by omega)).trans (rd_latchesOver s o)) j
    have may' : Wakeable (latchesOver s) n j stamp := may
    exact seg n hn earlier j stamp split (names.symm ▸ mem) (may'.kept (before.seg n hn))

/-! ### A wake from STANDBY (R434, R442, R444) -/

theorem exec_standbyWake (i : Fin 74) (s : State) :
    exec (.standbyWake i) s = .next (settle (if inStandby s && wakesDevice i.val then wakeReturn (sourceOp s i.val) else s)) := rfl

theorem inStandby_iff {s : State} : inStandby s = true ↔ powerState s = 2 ∧ s.lan.entering = none := by simp [inStandby]

theorem wakeReturn_standby {s : State} {i : Nat} (latched : s.lan.latched = some i) (released : s.boot.resetLow = false) (standby : inStandby s = true) :
    wakeReturn s = standbyReturn s i := by
  unfold wakeReturn
  rw [latched]
  simp only [released, standby, Bool.false_eq_true, if_false, if_true]

theorem Latched.inStandby {s a : State} {i : Nat} (h : Latched s a i) (standby : inStandby s = true) : Machine.inStandby a = true := by
  obtain ⟨power, entered⟩ := inStandby_iff.1 standby
  exact inStandby_iff.2 ⟨h.power.trans power, h.entering.trans entered⟩

theorem standbyWake_run {i : Fin 74} {s : State} (wakes : wakesDevice i = true) (enabled : wakeEnabled s i = true) (free : s.lan.latched = none)
    (closed : s.lan.dev = none) (released : s.boot.resetLow = false) (standby : inStandby s = true) :
    ∃ a, Latched s a i ∧ exec (.standbyWake i) s = .next (settle (standbyReturn a i)) := by
  have latched := wakeLatched_spec s i
  refine ⟨_, latched, (exec_standbyWake i s).trans ?_⟩
  have power := (inStandby_iff.1 standby).1
  rw [standby, wakes, Bool.and_self, if_pos rfl, sourceOp_away enabled closed (by omega) free wakes,
    wakeReturn_standby latched.latched (latched.resetLow.trans released) (latched.inStandby standby)]

theorem standbyWake_wakes {i : Fin 74} {s : State} (wakes : wakesDevice i = true) (enabled : wakeEnabled s i = true) (free : s.lan.latched = none)
    (closed : s.lan.dev = none) (released : s.boot.resetLow = false) (standby : inStandby s = true) :
    Answers (.standbyWake i) s fun t => powerState t < 2 ∧ getF t 0x7000C 14 8 = i ∧ getB t 0x70000 0 = true ∧ t.lan.latched = none ∧ xtalOk t = false ∧
      ready t 3 = ready s 3 ∧ paceLimit t = true ∧ (∀ k ∈ [0, 1, 2, 4], loopSrc t k = 1) ∧ (timeMode s ≠ 0 → getB t 0x60000 0 = true) ∧
      (tracking s 0 = false → tracking s 1 = false → timeMode t = 0 ∧ getB t 0x6000C 2 = true) ∧ t.slots = s.slots ∧ budMode t = (if budMode s = 0 then 0 else 3) ∧
      ∀ n ∈ sourceSegs s i, (segAt s n).st = 2 → heldOff s n i s.lan.lnt = false → (segAt t n).st = 0 := by
  obtain ⟨a, latched, run⟩ := standbyWake_run wakes enabled free closed released standby
  have low := i.isLt
  have word (o : Nat) (pend : o < 0x70034 ∨ 0x70040 ≤ o) (last : o ≠ 0x7000C) : rd a o = rd s o := latched.word o (by omega) last
  have slots : a.slots = s.slots := congrArg (·.slots) latched.eq
  have time : a.time = s.time := congrArg (·.time) latched.eq
  have inForce : a.inForce = s.inForce := congrArg (·.inForce) latched.eq
  have mode : timeMode a = timeMode s := congrArg (fld · 1 0) (word _ (by omega) (by omega))
  have tracks (d : Nat) (hd : d < 2) : tracking a d = tracking s d := tracking_congr time (word _ (by unfold tdR; omega) (by unfold tdR; omega))
  have stood := standbyReturn_stoodUp a i
  refine ⟨_, run, ?_⟩
  generalize standbyReturn a i = t at stood ⊢
  obtain ⟨power, last, event, over', xtal, ready3, pace, loops, event', quiet, slots', bud, seg⟩ := stood
  simp only [settle_lan, settle_slots]
  refine ⟨(getF_settle ..).trans_lt power, (getF_settle ..).trans (last.trans (latched.lastWake (by omega))), (getB_settle ..).trans event, over',
    (getB_settle ..).trans xtal, (getB_settle ..).trans (ready3.trans (congrArg (BitVec.getLsbD · 3) (word _ (by omega) (by omega)))), (getB_settle ..).trans pace,
    fun k hk => (loopSrc_congr (rd_settle ..) k).trans (loops k hk), fun h => (getB_settle ..).trans (event' (mode ▸ h)), fun first second => ?_,
    slots'.trans slots, ?_, fun n mem asleep held => ?_⟩
  · obtain ⟨zero, armed⟩ := quiet ((tracks 0 (by omega)).trans first) ((tracks 1 (by omega)).trans second)
    exact ⟨(getF_settle ..).trans zero, (getB_settle ..).trans armed⟩
  · rw [budMode_congr (rd_settle t _), bud, budMode_congr (word _ (by omega) (by omega))]
  · have hn := sourceSegs_lt mem
    have window : frc a (segR n 0xC) = frc s (segR n 0xC) := frc_congr inForce (word _ (by unfold segR; omega) (by unfold segR; omega))
    have free' : heldOff a n i s.lan.lnt = false := (heldOff_congr (latched.seg n) window i s.lan.lnt).trans held
    rw [segAt_settle]
    exact seg n hn _ _ _ latched.meanwhile (by rw [latched.sourceSegs low]; exact mem) (.inr ⟨by rw [latched.seg]; exact asleep, free'⟩)

theorem standbyWake_waits {i : Fin 74} {s : State} (waits : wakesDevice i = false ∨ inStandby s = false) : Answers (.standbyWake i) s fun t => OnlyRegs s t [] := by
  refine ⟨_, exec_standbyWake i s, ?_⟩
  rw [if_neg (by obtain h | h := waits <;> simp [h])]
  exact onlyRegs_of rfl (.refl s _)

/-- Settles O51: each row by what its operation leaves of the device. -/
theorem devicePowerStates : Obligations.DevicePowerStates := by
  unfold Obligations.DevicePowerStates
  refine ⟨fun s => ⟨deviceWindowEnd_idle, fun d n window => ⟨deviceWindowEnd_aborts window, deviceWindowEnd_runs window, deviceWindowEnd_commits window⟩⟩,
    fun s latched => ⟨standbyReached_state latched, standbyReached_pins latched, standbyReached_waits, sleepReached_state latched, sleepReached_pins latched,
      sleepReached_waits⟩,
    fun i s wakes enabled free closed released => ⟨standbyWake_wakes wakes enabled free closed released, sleepWake_wakes wakes enabled free closed released⟩,
    fun i s => ⟨standbyWake_waits, sleepWake_waits⟩⟩

end Sys2Proof.Machine
end
